-- ==== Sys2Proof/Word.lean ====
section
/-! DEFINITION. The word types of the block and the sparse table type every indexed part of the state uses.

Addresses are plain numbers; a byte is eight bits. An indexed resource of the manual (8,192 queues, 256 contexts,
16,384 nozzle groups ...) is a list of (index, value) pairs in which an unlisted index holds that resource's reset
value: see `sget` and `sset` in Machine/Ops.lean. -/

namespace Sys2Proof

/-- One byte (R5). -/
abbrev Byte := BitVec 8

/-- A sparse table: indices strictly rising, no entry equal to the default of the table. -/
abbrev SMap (α : Type) := List (Nat × α)

end Sys2Proof
end

