-- ==== Sys2Proof/Syntax.lean ====
section
/-! DEFINITION. The commands of the block: one constructor per row of the opcode table, in the table's order.

Two kinds of row. A MAILBOX ROW (opcodes 0x0100 to 0x0F03) is a command that a command context takes: its operands are
the header of R544 and the parameters of "Command reference" (R562 to R580), each of the width the manual gives it. A
payload is no operand: it is read from the context's payload buffer in DRAM (R544). An EVENT ROW is what happens at the
block's edge or inside it: its first operand `t` is the time it happens at, in ns since VDD_AON rose, and its other
operands are what arrives from outside (a bus access, pin levels, an analogue sample, the verdict of a test or of a
cryptographic engine). What the block computes from them is its meaning. -/

namespace Sys2Proof

/-- Header of a mailbox command (R544): `t` is when Stockpot takes it, `ctx` the command context; `rsvBad` says that some
reserved byte of the 64 is non-zero (R11). -/
structure Hdr where
  t      : Nat
  ctx    : BitVec 8
  seq    : BitVec 8
  flags  : BitVec 8
  plen   : BitVec 24
  rsvBad : Bool
  deriving DecidableEq, Repr

/-- What the two measurement runs of one AFE channel calibration found (R149, R150), in 1/16 LSB: the offset, gain and
largest non-linearity residuals, the largest difference between the runs over offset, gain and the 64 levels, and
whether the redundancy check fired. `off`, `gain` and `elem` are the trims they lead to. -/
structure CalResult where
  die     : BitVec 2
  chan    : BitVec 7
  offRes  : Int
  gainRes : Int
  inl     : Nat
  runDiff : Nat
  fired   : Bool
  off     : Int
  gain    : Int
  elem    : Nat
  deriving DecidableEq, Repr

/-- What the motion sense converters return in one PWM period (R376), in uV: the current sense of the two phases and the means of the
four bridge nodes. -/
structure MotSense where
  miA : Int
  miB : Int
  mv1 : Int
  mv2 : Int
  mv3 : Int
  mv4 : Int
  deriving DecidableEq, Repr

/-- A unit of service work (R310) of a page. -/
inductive SvUnit where
  | tile (page : BitVec 32) (tx ty : Nat)
  | window (page : BitVec 32) (index : Nat)
  | patch (page : BitVec 32) (strip index : Nat)
  | mcuRow (page : BitVec 32) (row : Nat)
  deriving DecidableEq, Repr

/-- Outcome of the ECC check of one 64-byte block (R469 to R471), with the words of the block in error; `stripeUncorrectable` is a second
uncorrectable block of its stripe as well. -/
inductive EccResult where
  | clean
  | corrected (words : BitVec 8)
  | uncorrectable (words : BitVec 8)
  | stripeUncorrectable (words : BitVec 8)
  | eccCorrected
  | eccUncorrectable
  | addressCheck
  deriving DecidableEq, Repr

/-- The instructions of the JTAG port (R634), and the debug instructions of R606. -/
inductive JtagIr where
  | bypass | idcode | samplePreload | extest | clamp | highz | debug
  deriving DecidableEq, Repr

/-- The signal balls (R57), a differential pair counting as one; axes and lamp rows by number. A channel of LP5X has its 37 balls by
number; `mi` is a current sense pair of an axis by phase, `pcieRefclk` a reference clock pair. -/
inductive Ball where
  | vin (port tap : Nat) | vref (port : Nat) | pat (port n : Nat) | ppwrEn (port : Nat) | ppresN (port : Nat)
  | lp5x (channel n : Nat) | zq (channel : Nat) | dramResetN
  | pcieTx (lane : Nat) | pcieRx (lane : Nat) | pcieRefclk (n : Nat) | perstN (n : Nat) | clkreqN (n : Nat) | wakeN (n : Nat)
  | prsntN (n : Nat) | pcieSplit
  | xspiCk | xspiCsN (n : Nat) | xspiDq (n : Nat) | xspiDqs | xspiResetN
  | encA (e : Nat) | encB (e : Nat) | encZ (e : Nat) | sheet (n : Nat) | stepIn (axis : Nat) | dirIn (axis : Nat)
  | mg (axis n : Nat) (high : Bool) | mi (axis phase : Nat) | mv (axis n : Nat) | motFltN (axis : Nat)
  | lrGh (row : Nat) | lrGl (row : Nat) | lrCs (row : Nat) | lrVfb (row : Nat) | lstb (row : Nat)
  | lswClk (chain : Nat) | lswDat (chain : Nat) | lswLat (chain : Nat) | lswRet (chain : Nat)
  | mon (n : Nat) | mainsRef | mref | fastev (n : Nat) | slk (lane : Nat) | uzsClk | uzsLine | uzsDat | uzsId (n : Nat)
  | tck | tms | tdi | tdo | trstN | dbgTx | dbgRx | hostAlertN | xtalIn | xtalOut | sysclk | porstN | sysrstN | resetOutN | thermtripN
  deriving DecidableEq, Repr

/-- An instruction of the JTAG port and the boundary cells that its data scan loads (R634, R635). -/
structure JtagScan where
  ir    : JtagIr
  cells : List (Ball × Bool)
  deriving DecidableEq, Repr

/-- What the checks of a slot find: whether the redundancy check fires on its conversion (R137), and, by slot of the shading store, the
wrong bits of the words that its correction reads (R214). -/
structure SampleChecks where
  residue : Bool
  ecc     : List (BitVec 3 × BitVec 2)
  deriving DecidableEq, Repr

/-- The commands of the block. -/
inductive Instr where
  /-- DEV_IDENTIFY (R562). Command that returns interface level, member, stepping, firmware, image, lifecycle and serial. -/
  | devIdentify (h : Hdr)
  /-- SET_MODE (R38). Command that checks and starts a mode transition, or applies a change between capture modes at a line boundary. -/
  | setMode (h : Hdr) (mode : BitVec 8) (when : BitVec 8) (target : BitVec 32)
  /-- SYNC_APPLY (R21). Command that accepts an apply of completed stagings at a resolved line, or within 1 ms in IDLE and DIAGNOSE, after the repeated checks of R651. -/
  | syncApply (h : Hdr) (when : BitVec 8) (target : BitVec 32)
  /-- DEV_RESET (R108). Command that completes and schedules a device reset 100 µs after its completion entry. -/
  | devReset (h : Hdr) (kind : BitVec 8)
  /-- QUIESCE (R538). Command that pauses the issuing port's contexts, lets its DMA channels finish or aborts them, and puts the port in QUIESCED. -/
  | quiesce (h : Hdr) (dmaMode : BitVec 8) (timeout : BitVec 32)
  /-- MB_TAKEOVER (R540). Command that moves the other port's contexts, event routes and DMA bindings to the issuing port. -/
  | mbTakeover (h : Hdr)
  /-- MB_GIVEBACK (R540). Command that returns contexts and routes to a port that is UP again. -/
  | mbGiveback (h : Hdr) (port : BitVec 8)
  /-- MB_ABORT (R548). Command that aborts a named running command on a context when that command is abortable. -/
  | mbAbort (h : Hdr) (context : BitVec 8) (seq : BitVec 8)
  /-- MB_BUF_SET (R563). Command that sets or releases the issuing context's payload buffer within a window. -/
  | mbBufSet (h : Hdr) (window : BitVec 8) (offset : BitVec 32) (size : BitVec 32)
  /-- CFG_READ (R562). Command that returns the active or shadow image of a table. -/
  | cfgRead (h : Hdr) (table : BitVec 16) (copy : BitVec 8) (index : BitVec 32)
  /-- RES_READ (R562). Command that returns every shared resource with its owner. -/
  | resRead (h : Hdr)
  /-- CFG_PROFILE (R48). Command, accepted in IDLE only, that selects FAST or DENSE and rebuilds the crossbars. -/
  | cfgProfile (h : Hdr) (profile : BitVec 8)
  /-- PAT_BANK_STAGE (R131). Command that checks a pattern program and writes it into a non-active bank of the named ports. -/
  | patBankStage (h : Hdr) (bank : BitVec 8) (mode : BitVec 8) (lsLen : BitVec 8) (repLen : BitVec 8) (nrep : BitVec 16) (blLen : BitVec 16) (ports : BitVec 64)
  /-- PAT_SELECT_STAGE (R131). Command that stages the bank selection and drive strength of the named ports. -/
  | patSelectStage (h : Hdr) (ports : BitVec 64) (bank : BitVec 8) (drive : BitVec 8)
  /-- AFE_STAGE (R132). Command that stages a port's range and the per-tap AFE settings. -/
  | afeStage (h : Hdr) (port : BitVec 8) (range : BitVec 8)
  /-- TAP_MAP_STAGE (R139). Command that checks and stages tap map entries and reports channel use. -/
  | tapMapStage (h : Hdr) (firstPort : BitVec 8) (count : BitVec 8)
  /-- TAP_CLOCK_STAGE (R123). Command that stages a die's tap clock, refused in a capture mode. -/
  | tapClockStage (h : Hdr) (die : BitVec 8) (freq : BitVec 32)
  /-- PORT_ISOLATE (R157). Command that stages the move of a port into ISOLATED. -/
  | portIsolate (h : Hdr) (port : BitVec 8)
  /-- PORT_SWAP (R157). Command that stages the move of an isolated port into SWAP and its power-down. -/
  | portSwap (h : Hdr) (port : BitVec 8)
  /-- PORT_QUALIFY (R157). Command that stages the move of a present port from SWAP into QUALIFY with a bank selection and power-up. -/
  | portQualify (h : Hdr) (port : BitVec 8) (bank : BitVec 8) (pwrSettle : BitVec 8) (qualLines : BitVec 16)
  /-- PORT_RELEASE (R157). Command that stages the return of a qualified port to ACTIVE or COVERED. -/
  | portRelease (h : Hdr) (port : BitVec 8)
  /-- AFE_FG_CAL (R155). Command that takes every channel of the named dies out of service and calibrates them in groups of 8. -/
  | afeFgCal (h : Hdr) (dies : BitVec 8)
  /-- AFE_TRIM_SAVE (R153). Command that has Trivet save the trim sets and failed-channel records to the NV store. -/
  | afeTrimSave (h : Hdr)
  /-- AFE_RESID_READ (R154). Command that writes every channel's calibration residuals of a die to a window. -/
  | afeResidRead (h : Hdr) (die : BitVec 8) (window : BitVec 8) (offset : BitVec 32)
  /-- PORT_STATUS_READ (R565). Command that returns a port's state, presence, event causes and qualification outcome, and clears the returned causes. -/
  | portStatusRead (h : Hdr) (port : BitVec 8)
  /-- LT_SRC_STAGE (R166). Command that stages the trigger source, divider, generator period, filters and flush period. -/
  | ltSrcStage (h : Hdr) (src : BitVec 8) (flags : BitVec 8) (followers : BitVec 8) (filtEnc : BitVec 8) (filtSheet : BitVec 8) (chkTol : BitVec 16) (div : BitVec 64) (genPeriod : BitVec 32) (flushPeriod : BitVec 32)
  /-- LT_STROBE_STAGE (R181). Command that checks and stages the strobe table against T_MIN. -/
  | ltStrobeStage (h : Hdr)
  /-- LT_PAGE_STAGE (R191). Command that stages page length, cue and sheet gating and checks the page size against the ring. -/
  | ltPageStage (h : Hdr)
  /-- LT_PACE_STAGE (R193). Command that stages the SHEET_SCAN watermarks and take-up and checks the stop distance. -/
  | ltPaceStage (h : Hdr) (hwm : BitVec 32) (lwm : BitVec 32) (takeup : BitVec 16)
  /-- IO_ASSIGN_STAGE (R567). Command that stages the assignment of the shared encoder-1 and FASTEV balls and the REJECT_OUT settings. -/
  | ioAssignStage (h : Hdr) (enc1 : BitVec 8) (fev15 : BitVec 8) (fevMask : BitVec 16) (rejMin : BitVec 32) (rejDist : BitVec 32) (rejWidth : BitVec 16)
  /-- SHD_SET_LOAD (R209). Command that checks a shading-set image and stages it into the spare slot. -/
  | shdSetLoad (h : Hdr) (set : BitVec 8) (window : BitVec 8) (offset : BitVec 32)
  /-- SHD_SET_PATCH (R210). Command that copies the active set to the spare slot and overwrites named words and tags. -/
  | shdSetPatch (h : Hdr) (set : BitVec 8) (window : BitVec 8) (tags : BitVec 8) (offset : BitVec 32) (nwords : BitVec 32)
  /-- SHD_SET_CLEAR (R211). Command that stages the removal of a shading set. -/
  | shdSetClear (h : Hdr) (set : BitVec 8)
  /-- SHD_SET_DISCARD (R210). Command that frees the spare slot without applying the staged set. -/
  | shdSetDiscard (h : Hdr)
  /-- SHD_SET_READ (R209). Command that writes the active or staged copy of a set to a window. -/
  | shdSetRead (h : Hdr) (set : BitVec 8) (window : BitVec 8) (copy : BitVec 8) (offset : BitVec 32)
  /-- SHD_CALIBRATE (R234). Command that runs the dark and white passes on the tile, computes a shading set and stages it. -/
  | shdCalibrate (h : Hdr) (set : BitVec 8) (tileAuto : BitVec 8) (settleMs : BitVec 16) (ports : BitVec 64) (targetRed : BitVec 16) (targetGrn : BitVec 16) (targetBlu : BitVec 16) (targetNir : BitVec 16) (defLo : BitVec 8) (defHi : BitVec 8) (darkMax : BitVec 16)
  /-- SHD_CFG_STAGE (R218). Command that stages governing rows, lamp weights, filter shift, margin and lamp map. -/
  | shdCfgStage (h : Hdr)
  /-- LIN_STAGE (R229). Command that stages the linearisation table of one colour line. -/
  | linStage (h : Hdr) (line : BitVec 8)
  /-- SHD_QUALITY_READ (R240). Command that writes per-zone quality figures of the staged or active set to a window. -/
  | shdQualityRead (h : Hdr) (window : BitVec 8) (offset : BitVec 32)
  /-- ALN_TABLE_STAGE (R247). Command that checks and stages alignment and stitch entries and STAGGER. -/
  | alnTableStage (h : Hdr) (stagger : BitVec 16) (firstPort : BitVec 8) (count : BitVec 8)
  /-- XFORM_STAGE (R263). Command that stages the 4x4 colour transform and offsets. -/
  | xformStage (h : Hdr)
  /-- PRODUCT_STAGE (R265). Command that stages the line product layout and its queue. -/
  | productStage (h : Hdr) (pf : BitVec 8) (chMask : BitVec 8) (firstCol : BitVec 32) (count : BitVec 32) (queue : BitVec 16)
  /-- ALN_CALIBRATE (R267). Command that measures alignment and stitch values from the ladder target and stages or returns them. -/
  | alnCalibrate (h : Hdr) (ports : BitVec 64) (nbars : BitVec 16) (refPort : BitVec 8) (window : BitVec 8) (xRef : BitVec 32) (offset : BitVec 32) (timeout : BitVec 32)
  /-- SEAM_QUALITY_READ (R270). Command that writes per-seam residual and density step figures to a window. -/
  | seamQualityRead (h : Hdr) (window : BitVec 8) (offset : BitVec 32)
  /-- SV_JOB_START (R273). Command that starts a service job, reserves slots and pushes the job header. -/
  | svJobStart (h : Hdr) (jobId : BitVec 32) (en : BitVec 8) (slots : BitVec 8) (refWindow : BitVec 8) (width : BitVec 32) (height : BitVec 32) (qSieve : BitVec 16) (qTongs : BitVec 16) (qLadle : BitVec 16) (qPreview : BitVec 16) (qCrop : BitVec 16) (qSummary : BitVec 16) (x0 : BitVec 32)
  /-- SV_JOB_END (R274). Command that ends the job, waits for the last summary and returns the signed record. -/
  | svJobEnd (h : Hdr)
  /-- SV_REF_SUBMIT (R284). Command that binds an RRF reference and per-page crops to a PAGE_SEQ for decoding. -/
  | svRefSubmit (h : Hdr) (window : BitVec 8) (ncrops : BitVec 8) (offset : BitVec 32) (length : BitVec 32) (pageSeq : BitVec 32)
  /-- SV_CHAIN_SIGN (R318). Command that has Trivet sign the current chain value. -/
  | svChainSign (h : Hdr)
  /-- SV_SIEVE_STAGE (R293). Command that stages Sieve classes, regions and FLAG_MAD. -/
  | svSieveStage (h : Hdr) (nclass : BitVec 8) (nregion : BitVec 8) (flagMad : BitVec 16)
  /-- SV_TONGS_STAGE (R297). Command that stages Tongs windows and registration groups. -/
  | svTongsStage (h : Hdr) (nwin : BitVec 8) (ngroup : BitVec 8)
  /-- SV_LADLE_STAGE (R301). Command that stages Ladle strips. -/
  | svLadleStage (h : Hdr) (nstrip : BitVec 8)
  /-- SV_PREVIEW_STAGE (R305). Command that stages Preview settings and quantisation tables. -/
  | svPreviewStage (h : Hdr) (colour : BitVec 8) (pvCh : BitVec 8) (qt : BitVec 8)
  /-- SV_CROP_STAGE (R307). Command that stages the static crops. -/
  | svCropStage (h : Hdr) (ncrop : BitVec 8)
  /-- SKL_CFG_STAGE (R326). Command that stages Skillet enable, line, latency limit and SLK settings. -/
  | sklCfgStage (h : Hdr) (en : BitVec 8) (line : BitVec 8) (latLimit : BitVec 8) (slkEn : BitVec 8) (lanes : BitVec 8)
  /-- SKL_MAP_STAGE (R324). Command that checks and stages nozzle group map entries. -/
  | sklMapStage (h : Hdr) (first : BitVec 16) (count : BitVec 16)
  /-- SKL_PROFILE_STAGE (R323). Command that stages the EXPECT fields of named groups. -/
  | sklProfileStage (h : Hdr) (first : BitVec 16) (count : BitVec 16)
  /-- SKL_CLASS_STAGE (R325). Command that stages Skillet class entries. -/
  | sklClassStage (h : Hdr) (first : BitVec 8) (count : BitVec 8)
  /-- SKL_FEV_STAGE (R338). Command that stages the FASTEV pin modes, polarity and stretch. -/
  | sklFevStage (h : Hdr)
  /-- SKL_FLAGS_READ (R332). Command that writes every group's FLAG, MASKED and COUNT to a window. -/
  | sklFlagsRead (h : Hdr) (window : BitVec 8) (offset : BitVec 32)
  /-- ILM_ROW_STAGE (R349). Command that stages a lamp row's regulator configuration. -/
  | ilmRowStage (h : Hdr) (row : BitVec 8)
  /-- ILM_LEVEL_STAGE (R352). Command that stages the DIM level of each strobe slot. -/
  | ilmLevelStage (h : Hdr)
  /-- ILM_TCOMP_STAGE (R353). Command that stages a row's temperature compensation table. -/
  | ilmTcompStage (h : Hdr) (row : BitVec 8)
  /-- LSW_STAGE (R363). Command that shifts a staged shunt pattern, or the active one on DISCARD, into a chain and holds scans. -/
  | lswStage (h : Hdr) (chain : BitVec 8) (discard : BitVec 8) (nbits : BitVec 16)
  /-- LAMP_TEST (R368). Command that pulses named rows at a test code in eligible lines and reports current, voltage and lamp counts. -/
  | lampTest (h : Hdr) (rows : BitVec 8) (testCode : BitVec 8) (testNs : BitVec 16) (lines : BitVec 16) (when : BitVec 8) (vLamp : BitVec 16) (vOfs : BitVec 16)
  /-- ILM_LAMP_CLEAR (R366). Command that stages the clearing of FAILED and RES_USED marks of lamps. -/
  | ilmLampClear (h : Hdr) (row : BitVec 8) (zone : BitVec 8) (lamp : BitVec 8)
  /-- ILM_ROW_CLEAR (R574). Command that stages the clearing of a row fault. -/
  | ilmRowClear (h : Hdr) (row : BitVec 8)
  /-- MOT_AXIS_STAGE (R377). Command that stages an axis configuration for an axis at rest. -/
  | motAxisStage (h : Hdr) (axis : BitVec 8)
  /-- MOT_RAMP_STAGE (R390). Command that stages ramp table segments of an axis. -/
  | motRampStage (h : Hdr) (axis : BitVec 8) (first : BitVec 8) (count : BitVec 8)
  /-- MOT_TILE_STAGE (R402). Command that stages the tile table. -/
  | motTileStage (h : Hdr)
  /-- MOT_MOVE (R388). Command that queues a trapezoidal move to a target. -/
  | motMove (h : Hdr) (axis : BitVec 8) (rel : BitVec 8) (target : BitVec 64) (vMax : BitVec 32) (acc : BitVec 32) (dec : BitVec 32)
  /-- MOT_TABLE (R391). Command that checks and queues a ramp-table move. -/
  | motTable (h : Hdr) (axis : BitVec 8) (first : BitVec 8) (last : BitVec 8)
  /-- MOT_JOG (R388). Command that queues a velocity move. -/
  | motJog (h : Hdr) (axis : BitVec 8) (vMax : BitVec 32) (acc : BitVec 32)
  /-- MOT_COORD (R392). Command that queues a coordinated straight-line move of AX_B and AX_C. -/
  | motCoord (h : Hdr) (targetB : BitVec 64) (targetC : BitVec 64) (vMax : BitVec 32) (acc : BitVec 32) (dec : BitVec 32)
  /-- MOT_FOLLOW (R393). Command that queues step following on STEP_IN_x. -/
  | motFollow (h : Hdr) (axis : BitVec 8)
  /-- MOT_HOME (R401). Command that queues stall homing with back-off. -/
  | motHome (h : Hdr) (axis : BitVec 8) (dir : BitVec 8) (vHome : BitVec 32) (homePos : BitVec 64) (backoff : BitVec 32) (homeMax : BitVec 32)
  /-- MOT_ADJUST (R389). Command that changes V_MAX, ACC and DEC of the running move. -/
  | motAdjust (h : Hdr) (axis : BitVec 8) (vMax : BitVec 32) (acc : BitVec 32) (dec : BitVec 32)
  /-- MOT_STOP (R395). Command that decelerates the running move to rest and optionally flushes the queue. -/
  | motStop (h : Hdr) (axis : BitVec 8) (flush : BitVec 8)
  /-- MOT_FAULT_CLEAR (R398). Command that clears a hard fault and energises the windings at I_HOLD. -/
  | motFaultClear (h : Hdr) (axis : BitVec 8)
  /-- MADC_CFG_STAGE (R412). Command that stages mains source, MULT and calibration period for the next loop boundary. -/
  | madcCfgStage (h : Hdr) (mainsSrc : BitVec 8) (mult : BitVec 8) (calPeriod : BitVec 8)
  /-- MADC_SEQ_STAGE (R412). Command that stages the sequence table for the next loop boundary. -/
  | madcSeqStage (h : Hdr) (len : BitVec 8)
  /-- MADC_SET_STAGE (R416). Command that stages accumulator set configurations and thermistor curves. -/
  | madcSetStage (h : Hdr) (first : BitVec 8) (count : BitVec 8) (curves : BitVec 8)
  /-- MADC_CAL (R422). Command that requests calibration of both monitor converters in turn. -/
  | madcCal (h : Hdr)
  /-- MADC_INJECT (R426). Command that requests one injected conversion into a set and returns its record. -/
  | madcInject (h : Hdr) (ch : BitVec 8) (kind : BitVec 8) (settle : BitVec 8) (set : BitVec 8)
  /-- MADC_TEST (R425). Command that tests a monitor converter and returns it to recovery on a pass. -/
  | madcTest (h : Hdr) (conv : BitVec 8)
  /-- MADC_ACC_READ (R418). Command that writes snapshot records of named sets and optionally clears OVR_STICKY. -/
  | madcAccRead (h : Hdr) (window : BitVec 8) (clear : BitVec 8) (offset : BitVec 32) (mask : BitVec 64) (maskHi : BitVec 8)
  /-- SIMMER_CFG_STAGE (R440). Command that stages Simmer thresholds, dwell, ceiling floor and bucket. -/
  | simmerCfgStage (h : Hdr) (tTarget : BitVec 16) (theta : BitVec 16) (tRelease : BitVec 16) (tHold : BitVec 16) (dwell : BitVec 16) (ceilMin : BitVec 16) (bucket : BitVec 8)
  /-- SIMMER_POWER_LIMIT (R440). Command that stages the board power limit P_BOARD. -/
  | simmerPowerLimit (h : Hdr) (pBoard : BitVec 16)
  /-- THERM_READ (R451). Command that writes thermal and Simmer status, sensor readings, predictions and G_ij to a window. -/
  | thermRead (h : Hdr) (window : BitVec 8) (offset : BitVec 32)
  /-- DRAM_CFG_STAGE (R453). Command that stages DRAM layout, protected partition, age limit and scrub period. -/
  | dramCfgStage (h : Hdr) (fields : BitVec 8) (layout : BitVec 8) (protEighths : BitVec 8) (scrubHours : BitVec 8) (ageLimit : BitVec 16)
  /-- WIN_CREATE (R654). Command that allocates a DRAM window. -/
  | winCreate (h : Hdr) (window : BitVec 8) (part : BitVec 8) (size : BitVec 32)
  /-- WIN_MAP (R552). Command that maps a window into BAR2. -/
  | winMap (h : Hdr) (window : BitVec 8) (bar2Off : BitVec 32)
  /-- WIN_UNMAP (R654). Command that removes a window's BAR2 mapping. -/
  | winUnmap (h : Hdr) (window : BitVec 8)
  /-- WIN_FREE (R579). Command that frees a window not in use. -/
  | winFree (h : Hdr) (window : BitVec 8)
  /-- RING_SET (R652). Command that sets the page ring, its descriptor queue, and reports C and RL. -/
  | ringSet (h : Hdr) (window : BitVec 8) (offset : BitVec 32) (size : BitVec 32) (qDesc : BitVec 16)
  /-- DRAM_LOG_READ (R474). Command that copies the DRAM error log to a window and optionally empties it. -/
  | dramLogRead (h : Hdr) (window : BitVec 8) (clear : BitVec 8) (offset : BitVec 32)
  /-- DRAM_TRAIN (R455). Command that retrains every DRAM channel in DIAGNOSE. -/
  | dramTrain (h : Hdr)
  /-- DRAM_CH_RETIRE (R478). Command that moves a healthy data channel onto channel 7 by rebuild. -/
  | dramChRetire (h : Hdr) (ch : BitVec 8)
  /-- DRAM_CH_TEST (R478). Command that pattern-tests and retrains a retired channel. -/
  | dramChTest (h : Hdr) (ch : BitVec 8) (passes : BitVec 8)
  /-- DRAM_CH_RESTORE (R478). Command that copies a retired channel's data back and regenerates parity. -/
  | dramChRestore (h : Hdr) (ch : BitVec 8)
  /-- Q_BIND (R488). Command that configures a queue's enable, limit, watermark, group and WHOLE. -/
  | qBind (h : Hdr) (queue : BitVec 16) (en : BitVec 8) (flags : BitVec 8) (limit : BitVec 16) (wm : BitVec 16)
  /-- Q_FLUSH (R488). Command that frees every cell of a queue and clears its status. -/
  | qFlush (h : Hdr) (queue : BitVec 16)
  /-- DMA_BIND (R509). Command that binds a DMA channel to a window, queue and host port and discards its carry. -/
  | dmaBind (h : Hdr) (channel : BitVec 8) (window : BitVec 8) (queue : BitVec 16) (port : BitVec 8)
  /-- PAGE_RELEASE (R652). Command that releases a page's ring space in ring order. -/
  | pageRelease (h : Hdr) (firstSeq : BitVec 32)
  /-- SEC_ATTEST (R612). Command that hashes the active tables and writes a signed attestation report. -/
  | secAttest (h : Hdr) (nonce : BitVec 256) (window : BitVec 8) (offset : BitVec 32)
  /-- SEC_OWNER_ENROL (R593). Command that enrols or rotates the owner key record. -/
  | secOwnerEnrol (h : Hdr)
  /-- SEC_IMAGE_WRITE (R599). Command that verifies a header and writes a Stockpot image into a NOR slot. -/
  | secImageWrite (h : Hdr) (slot : BitVec 8) (window : BitVec 8) (offset : BitVec 32) (length : BitVec 32)
  /-- SEC_LIFECYCLE (R604). Command that checks an authorisation block and performs a lifecycle transition with its wipes. -/
  | secLifecycle (h : Hdr) (target : BitVec 8)
  /-- SEC_IDENTITY_GEN (R594). Command that generates and seals a device identity key and returns its public record. -/
  | secIdentityGen (h : Hdr)
  /-- SEC_DEBUG_UNLOCK (R606). Command that checks an authorisation block and opens the debug port until reset. -/
  | secDebugUnlock (h : Hdr)
  /-- DIAG_TAP_STAGE (R627). Command that stages the diagnostic tap on a port and its queue. -/
  | diagTapStage (h : Hdr) (port : BitVec 8) (queue : BitVec 16)
  /-- DIAG_SV_BYPASS (R626). Command that stages the bypass of optional services. -/
  | diagSvBypass (h : Hdr) (mask : BitVec 8)
  /-- DIAG_PATTERN (R632). Command that injects a test pattern at the link and counts product mismatches. -/
  | diagPattern (h : Hdr) (pattern : BitVec 8) (lines : BitVec 32)
  /-- DIAG_SELFTEST (R633). Command that runs the selected self-tests in order and records each result. -/
  | diagSelftest (h : Hdr) (tests : BitVec 32)
  /-- MB_DOORBELL (R543). Host write to MB_DOORBELL_n that makes Stockpot take every complete command of the context and clears PAUSED. -/
  | mbDoorbell (t : Nat) (port : BitVec 1) (n : BitVec 8)
  /-- MB_SWEEP (R543). 1 ms expiry at which Stockpot examines every submission queue of an UP port. -/
  | mbSweep (t : Nat)
  /-- COMPLETION_PUSH (R546). Push of a command's completion entry once its completion queue has room, followed by the final OP_STATUS update. -/
  | completionPush (t : Nat) (n : BitVec 8)
  /-- Q_PUSH (R491). Host write to Q_PUSH_n that appends enabled bytes to a queue or drops the push with OVERFLOW. -/
  | qPush (t : Nat) (q : BitVec 13) (data : BitVec 64) (be : BitVec 8)
  /-- Q_POP (R505). Host read covering Q_POP_n offset +0x40 that pops one word, or underruns. -/
  | qPop (t : Nat) (q : BitVec 13) (len : Nat) (perr : Bool)
  /-- RC_FIELD_READ (R7). Host read of a register holding RC fields, which returns and clears them under R8 and R507. -/
  | rcFieldRead (t : Nat) (port : BitVec 1) (addr : BitVec 24) (len : Nat)
  /-- REGISTER_WRITE (R7). Host BAR0 write to a register with no row of its own, acting by field type, or ignored where reserved or not permitted. -/
  | registerWrite (t : Nat) (port : BitVec 1) (addr : BitVec 24) (len : Nat) (data : BitVec 64)
  /-- EV_LATCH_WRITE (R640). Host write-1 clear of event latches that can send a further MSI-X message. -/
  | evLatchWrite (t : Nat) (j : BitVec 3) (data : BitVec 32) (resets : BitVec 256)
  /-- MSIX_UNMASK (R640). Unmask of an MSI-X vector that sends a held message if its condition is 1. -/
  | msixUnmask (t : Nat) (port : BitVec 1) (vec : BitVec 6)
  /-- DMA_START (R513). Host write of START to DMA_CTL_c that fetches the first descriptor and enters RUNNING. -/
  | dmaStart (t : Nat) (c : BitVec 6) (abortToo : Bool)
  /-- DMA_ABORT (R524). Host write of ABORT to DMA_CTL_c that stops the channel by its state. -/
  | dmaAbort (t : Nat) (c : BitVec 6)
  /-- CHAIN_KICK (R530). Host write to CHAIN_KICK_c that sets KICK_PEND or starts the LINK re-read. -/
  | chainKick (t : Nat) (c : BitVec 6)
  /-- DMA_ERR_CLEAR (R527). Host write of 1 to LATCHED that returns every STOPPED channel to IDLE. -/
  | dmaErrClear (t : Nat)
  /-- DMA_DESC_FETCHED (R514). Return of a descriptor read, which checks it and issues its bursts or refuses it with DESC_ERR. -/
  | dmaDescFetched (t : Nat) (c : BitVec 6) (desc : BitVec 256)
  /-- DMA_BURST_DONE (R515). Return of a burst's read data, which writes it and issues the next burst. -/
  | dmaBurstDone (t : Nat) (c : BitVec 6) (data : List Byte) (perr : Bool)
  /-- DMA_READBACK_DONE (R517). Return of the read-back of a descriptor's last byte, which writes status, sets INT and moves to the next descriptor or chain end. -/
  | dmaReadbackDone (t : Nat) (c : BitVec 6)
  /-- DMA_LINK_REREAD_DONE (R530). Return of a LINK re-read, which fetches the next descriptor or leaves the channel IDLE_AT_END. -/
  | dmaLinkRereadDone (t : Nat) (c : BitVec 6) (link : BitVec 64)
  /-- DMA_QUEUE_DATA (R519). Arrival of data in the bound queue of a channel waiting with Q_WAIT. -/
  | dmaQueueData (t : Nat) (c : BitVec 6) (perr : Bool)
  /-- BUS_ERROR (R527). A bus error that stops every DMA channel and latches DMA_ERR_INFO. -/
  | busError (t : Nat) (kind : BitVec 3) (port : BitVec 1) (addr : BitVec 64)
  /-- BAR2_READ (R553). Host read through BAR2 that reaches DRAM in a mapped window or returns 0 with BAR2_MISS. -/
  | bar2Read (t : Nat) (port : BitVec 1) (addr : BitVec 32) (len : Nat)
  /-- BAR2_WRITE (R553). Host write through BAR2 that reaches DRAM in a mapped window or is discarded with BAR2_MISS. -/
  | bar2Write (t : Nat) (port : BitVec 1) (addr : BitVec 32) (data : List Byte)
  /-- PERST_N_ASSERT (R537). PERST_N_n falling, a port reset that stops the port's channels and flushes its contexts' queues. -/
  | perstNAssert (t : Nat) (port : BitVec 1)
  /-- PERST_N_RELEASE (R535). PERST_N_n rising, which starts link training on the port. -/
  | perstNRelease (t : Nat) (port : BitVec 1)
  /-- LINK_UP (R536). Completion of link training that puts the port in UP. -/
  | linkUp (t : Nat) (port : BitVec 1) (width : BitVec 5) (speed : BitVec 3)
  /-- LINK_LOSS (R537). Loss of a port's link without QUIESCE, which pauses its contexts and counts as a bus error. -/
  | linkLoss (t : Nat) (port : BitVec 1)
  /-- FUNCTION_LEVEL_RESET (R537). Function-level reset of a port's function, with the port reset effects. -/
  | functionLevelReset (t : Nat) (port : BitVec 1)
  /-- HOT_RESET (R537). Hot reset of a port, with the port reset effects. -/
  | hotReset (t : Nat) (port : BitVec 1)
  /-- D3HOT_ENTRY (R534). Entry of a port's function into D3hot, with the port reset effects. -/
  | d3hotEntry (t : Nat) (port : BitVec 1)
  /-- POWER_ON_RESET (R108). VDD_AON rising or its detector, a reset of the whole device including the always-on domain. -/
  | powerOnReset (t : Nat)
  /-- PORST_N_ASSERT (R108). PORST_N held low for 1 µs, a device reset that also clears the THERMTRIP_N latch. -/
  | porstNAssert (t : Nat)
  /-- PORST_N_RELEASE (R119). PORST_N rising, which samples the straps and ends the reset. -/
  | porstNRelease (t : Nat) (split : Bool) (uzsId : BitVec 2)
  /-- SYSRST_N_ASSERT (R108). SYSRST_N held low for 1 µs, a device reset sparing the always-on domain. -/
  | sysrstNAssert (t : Nat)
  /-- SYSRST_N_RELEASE (R108). SYSRST_N rising, which ends the reset and starts the SRAM wipe. -/
  | sysrstNRelease (t : Nat)
  /-- CORE_BROWNOUT (R107). VDD_CORE or VDD_SRAM falling below its detector threshold, a device reset. -/
  | coreBrownout (t : Nat)
  /-- SYSCLK_LOSS (R108). SYSCLK_OK low for 2 µs, a device reset held until SYSCLK_OK is 1 for 100 µs. -/
  | sysclkLoss (t : Nat)
  /-- RESET_END (R113). End of a device reset, which starts the SRAM wipe on CLK_AON. -/
  | resetEnd (t : Nat)
  /-- SRAM_WIPE_DONE (R114). End of the SRAM wipe and zero-signature check, which releases RESET_OUT_N, retries or holds reset. -/
  | sramWipeDone (t : Nat) (ok : Bool)
  /-- FE_DIE_RESET (R109). A die reset of FEk from its supply detector, which wipes its SRAM and isolates its ports. -/
  | feDieReset (t : Nat) (die : BitVec 2)
  /-- VDD_NV_LOW (R107). VDD_NV below its threshold, which stops new NV line programs until it recovers. -/
  | vddNvLow (t : Nat)
  /-- BOOT_IMAGE_VERIFIED (R597). Completion of loading and verifying an image slot, which releases Stockpot, tries slot B, or sets BOOT_FAIL. -/
  | bootImageVerified (t : Nat) (hdr : List Byte) (sigOk : Bool) (bodyHash : BitVec 256)
  /-- NV_MOUNT (R610). Mount of the NV store at boot, which repairs interrupted slots and completes a pending lifecycle transition. -/
  | nvMount (t : Nat)
  /-- DRAM_TRAINING_DONE (R455). Completion of DRAM training, which starts the reset DRAM wipe. -/
  | dramTrainingDone (t : Nat) (chOk : BitVec 8)
  /-- DRAM_WIPE_DONE (R115). Completion of the DRAM wipe, which lets Stockpot access DRAM and sets WIPE_DONE. -/
  | dramWipeDone (t : Nat)
  /-- BOOT_EXIT (R117). Completion of configuration restore that moves the device from BOOT to IDLE with port power-on checks. -/
  | bootExit (t : Nat) (powerOk : BitVec 64)
  /-- AON_XTAL_SWITCH (R94). Crystal completing 2 ms of stable oscillation within 5 ms of power-on, which switches CLK_AON to it. -/
  | aonXtalSwitch (t : Nat)
  /-- AON_XTAL_LOSS (R94). Four missed crystal edges, which switch CLK_AON back to the RC oscillator. -/
  | aonXtalLoss (t : Nat)
  /-- OSC_COMP_UPDATE (R121). 1 ms update of the compensated trims of the oscillator and bandgaps. -/
  | oscCompUpdate (t : Nat)
  /-- REGION_COMPARE (R101). 1 ms comparison of adjacent die temperatures that sets or clears REGION_SKEW. -/
  | regionCompare (t : Nat)
  /-- MODE_TRANSITION_DONE (R36). Completion of a mode transition, which sets MODE to the target and advances MODE_SEQ. -/
  | modeTransitionDone (t : Nat)
  /-- SCRUB_COMPLETE (R46). Completion of the SCRUB erase and scrub pass, the automatic transition to IDLE. -/
  | scrubComplete (t : Nat)
  /-- ENC_EDGE (R172). A valid or illegal encoder A or B edge that counts a unit and updates POS, V_EST and the crossing. -/
  | encEdge (t : Nat) (enc : BitVec 1) (a : Bool) (b : Bool)
  /-- ENC_INDEX (R186). An ENC_Z index pulse that sets a pending page start as a cue. -/
  | encIndex (t : Nat) (enc : BitVec 1)
  /-- SHEET_EDGE (R188). A filtered SHEET_n edge that acts as a gate edge, skew edge or page cue. -/
  | sheetEdge (t : Nat) (n : BitVec 2) (high : Bool)
  /-- GENERATOR_PERIOD (R171). Expiry of the internal line-rate generator period, which requests a trigger. -/
  | generatorPeriod (t : Nat)
  /-- INTERP_TRIGGER (R173). Expiry of the interpolated trigger time scheduled between counts. -/
  | interpTrigger (t : Nat)
  /-- PENDING_TRIGGER_ISSUE (R176). Expiry of T_MIN after the previous trigger, which issues a held trigger tagged LATE. -/
  | pendingTriggerIssue (t : Nat)
  /-- FLUSH_TRIGGER (R177). Expiry of FLUSH_PERIOD without a line, which issues a flush trigger. -/
  | flushTrigger (t : Nat)
  /-- UZS_LINE_SAMPLED (R78). A device sampling UZS_LINE high, which schedules its line start. -/
  | uzsLineSampled (t : Nat)
  /-- UZS_LINE_START (R78). Expiry of 8 UZS_CLK periods after UZS_LINE, which starts the line on every device. -/
  | uzsLineStart (t : Nat)
  /-- UZS_FRAME_RX (R200). Receipt of a master line frame by a follower, with CRC, sequence and apply announcement handling. -/
  | uzsFrameRx (t : Nat) (frame : BitVec 51)
  /-- UZS_SLOT_RX (R197). Receipt by the master of a follower status slot, checked for SOF and parity. -/
  | uzsSlotRx (t : Nat) (j : BitVec 2) (slot : BitVec 9)
  /-- UZS_CLK_TIMEOUT (R200). No UZS_CLK edge for 1.0 µs on a follower, which stops triggering and raises UZS_LOST. -/
  | uzsClkTimeout (t : Nat)
  /-- FE_PROGRAM_START (R175). Start of every port program of a die at the later of the synchronised trigger and the previous program end. -/
  | feProgramStart (t : Nat) (die : BitVec 2)
  /-- AFE_SLOT_SAMPLE (R133). An SV instant that converts a slot and sends its word over the die-to-die link. -/
  | afeSlotSample (t : Nat) (port : BitVec 6) (input : BitVec 4) (slot : BitVec 10) (sv : Int) (sr : Int) (overRange : Bool) (checks : SampleChecks)
  /-- FE_PROGRAM_END (R134). End of a die's program, which updates each tap's clamp accumulator. -/
  | feProgramEnd (t : Nat) (die : BitVec 2)
  /-- HANDOVER_COMPARE (R142). End of a handover time, which compares spare and channel and switches or retries. -/
  | handoverCompare (t : Nat) (die : BitVec 2) (spareMean : Int) (chanMean : Int)
  /-- SPARE_SUBSTITUTION (R144). First line boundary after a home channel is declared failed, at which a free spare takes its taps. -/
  | spareSubstitution (t : Nat) (die : BitVec 2)
  /-- BG_CAL_STEP_START (R148). Start of a background rotation step on the next channel after the previous step or rest. -/
  | bgCalStepStart (t : Nat) (die : BitVec 2)
  /-- BG_MEASUREMENT_END (R150). End of a step's measurement runs, which accepts and loads trims or retries or declares failure. -/
  | bgMeasurementEnd (t : Nat) (die : BitVec 2) (result : CalResult)
  /-- TRIM_UPDATE (R152). 1 ms update of each channel's trims from its die temperature. -/
  | trimUpdate (t : Nat)
  /-- TRIM_SAVE_HOURLY (R153). Hourly save of trim sets and failed-channel records to the NV store. -/
  | trimSaveHourly (t : Nat)
  /-- PRES_FILTER_CHANGE (R159). Settled change of a port's filtered presence, which updates PRES and may move the port into SWAP. -/
  | presFilterChange (t : Nat) (port : BitVec 6) (present : Bool)
  /-- SWAP_POWER_OFF (R157). Expiry of 100 µs after a swap's outputs go low, which drives PPWR_EN_p low. -/
  | swapPowerOff (t : Nat) (port : BitVec 6)
  /-- SWAP_OUTPUT_RELEASE (R157). Expiry of 1 ms after PPWR_EN_p falls, which sets the outputs to high impedance. -/
  | swapOutputRelease (t : Nat) (port : BitVec 6)
  /-- QUALIFY_SETTLE_END (R157). Expiry of PWR_SETTLE, which starts the port's program and qualification. -/
  | qualifySettleEnd (t : Nat) (port : BitVec 6)
  /-- QUALIFICATION_DONE (R160). End of the qualification lines, which records pass or fail and moves a failed port to ISOLATED. -/
  | qualificationDone (t : Nat) (port : BitVec 6)
  /-- ZONE_TEMP_UPDATE (R221). 1 ms filtering of zone temperatures and recomputation of the shading set choices. -/
  | zoneTempUpdate (t : Nat)
  /-- SHD_PATROL_READ (R214). Background patrol read of a shading-store word with correction or uncorrectable marking. -/
  | shdPatrolRead (t : Nat) (slot : BitVec 3) (word : BitVec 21) (bitsBad : BitVec 2)
  /-- SKL_GROUP_EVAL (R327). Evaluation of a nozzle group once its closing word has passed shading, updating window, flag and FASTEV. -/
  | sklGroupEval (t : Nat) (group : BitVec 14) (entryNs : Nat)
  /-- FASTEV_STRETCH_END (R338). Expiry of MIN_HI on a stretched FASTEV pin, which applies a pending deassertion. -/
  | fastevStretchEnd (t : Nat) (pin : BitVec 4)
  /-- SLK_FRAME_START (R344). Start of a line's streak frame on every lane once its last group closed and the previous frame ended. -/
  | slkFrameStart (t : Nat)
  /-- STITCHED_LINE_COMPLETE (R255). Completion of a stitched line, which forms products, writes the ring and opens or closes pages. -/
  | stitchedLineComplete (t : Nat) (late : Bool) (poison : Bool)
  /-- REJECT_OUT_PULSE (R567). Distance REJ_DIST after a rejected page's last line, which starts a REJECT_OUT pulse. -/
  | rejectOutPulse (t : Nat)
  /-- REJECT_OUT_END (R567). Expiry of REJ_WIDTH, which ends the REJECT_OUT pulse. -/
  | rejectOutEnd (t : Nat)
  /-- REF_DECODE_DONE (R286). End of decoding a reference into its slot, or its rejection, which completes SV_REF_SUBMIT. -/
  | refDecodeDone (t : Nat)
  /-- SERVICE_UNIT_COMPLETE (R443). Completion of a service unit, which dispatches further ready units within budget. -/
  | serviceUnitComplete (t : Nat) (unit : SvUnit) (poison : Bool)
  /-- PAGE_SUMMARY_PUSH (R317). Push of a page summary once every service has finished the page and the queue has room. -/
  | pageSummaryPush (t : Nat)
  /-- ILM_REG_START (R351). REG_LEAD before a slot start, at which a row's regulator starts switching. -/
  | ilmRegStart (t : Nat) (row : BitVec 2)
  /-- LSTB_RISE (R356). Start of a slot's centred on-time, at which LSTB_w rises. -/
  | lstbRise (t : Nat) (row : BitVec 2)
  /-- LSTB_FALL (R369). End of a slot's on-time, at which LSTB_w falls and the current is checked. -/
  | lstbFall (t : Nat) (row : BitVec 2) (mean : Nat)
  /-- ILM_OV_OC_DETECT (R369). LR_VFB_w over V_OV or current over 1.25 I_FS, which darkens the row as a row fault. -/
  | ilmOvOcDetect (t : Nat) (row : BitVec 2) (vfb : Nat) (current : Nat)
  /-- ILM_TCOMP_UPDATE (R353). 1 ms computation of each row's compensation factor K_w. -/
  | ilmTcompUpdate (t : Nat)
  /-- ILM_POWER_UPDATE (R370). 1 ms computation of each row's input power for Simmer. -/
  | ilmPowerUpdate (t : Nat)
  /-- LSW_FRAME_LATCH (R359). Latch at the end of an LSW frame, with the returned OPEN statuses marking failed lamps and reserves. -/
  | lswFrameLatch (t : Nat) (chain : BitVec 1) (ret : List Bool)
  /-- MOT_PWM_PERIOD (R383). Start of a PWM period, which samples currents, computes duties, checks over-current and estimates stall. -/
  | motPwmPeriod (t : Nat) (axis : BitVec 2) (sense : MotSense)
  /-- MOT_RAMP_TICK (R380). 100 ns ramp tick that advances the profile, emits microsteps, ends moves and starts queued ones. -/
  | motRampTick (t : Nat)
  /-- HOLD_DELAY_END (R382). Expiry of HOLD_DELAY at rest, at which I_HOLD replaces I_RUN. -/
  | holdDelayEnd (t : Nat) (axis : BitVec 2)
  /-- MOT_FLT_INPUT (R397). MOT_FLT_N_x low for 100 ns, a hard fault that drives the axis gates low. -/
  | motFltInput (t : Nat) (axis : BitVec 2) (low : Bool)
  /-- STEP_IN_EDGE (R393). A counting STEP_IN_x edge that moves the following axis's coarse target. -/
  | stepInEdge (t : Nat) (axis : BitVec 2) (rising : Bool) (dirHigh : Bool)
  /-- VBUS_LOW_TIMEOUT (R397). Bridge supply below VBUS_MIN for 1 ms, a soft fault that stops the axis. -/
  | vbusLowTimeout (t : Nat) (axis : BitVec 2)
  /-- MADC_CONVERSION_END (R415). End of a monitor conversion, which accumulates or publishes and takes the converter's next work. -/
  | madcConversionEnd (t : Nat) (conv : BitVec 1) (raw : Nat) (outOfRange : Bool)
  /-- MADC_CALIBRATION_END (R421). End of a converter's calibration integrations, which accepts the correction or declares it FAILED. -/
  | madcCalibrationEnd (t : Nat) (conv : BitVec 1) (lo : Nat) (hi : Nat) (sarLo : Nat) (sarHi : Nat)
  /-- MADC_CAL_PERIODIC (R422). Expiry of CAL_PERIOD, which requests a calibration of both converters. -/
  | madcCalPeriodic (t : Nat)
  /-- MADC_CONV_TIMEOUT (R425). A conversion not ending within twice its time, which declares the converter FAILED. -/
  | madcConvTimeout (t : Nat) (conv : BitVec 1)
  /-- MAINS_REF_CROSSING (R411). A rising crossing of MAINS_REF, which updates the measured mains period and its validity. -/
  | mainsRefCrossing (t : Nat) (ticks : Nat)
  /-- THERM_SAMPLE (R435). 1 ms sample of every sensor with suspect checks, region values, level and rate limits. -/
  | thermSample (t : Nat) (readings : List Int)
  /-- SIMMER_REFILL (R441). 1 ms Simmer refill of energy and bandwidth buckets with dispatch, stage evaluation and cap lowering. -/
  | simmerRefill (t : Nat) (pDev : Nat) (pMand : Nat)
  /-- SIMMER_CEILING_STEP (R447). 500 ms step of the speed ceiling or request down or up in stage 3. -/
  | simmerCeilingStep (t : Nat)
  /-- SIMMER_CAP_RAISE (R448). 10 ms raise of each lamp cap after the power sum has stayed low. -/
  | simmerCapRaise (t : Nat)
  /-- DRAM_COMMAND_SLOT (R458). A channel command slot, which serves the first eligible request or refresh by rule order. -/
  | dramCommandSlot (t : Nat) (ch : BitVec 3)
  /-- DRAM_READ_RETURN (R471). Return of DRAM read data with ECC correction, rebuild or POISON. -/
  | dramReadReturn (t : Nat) (ch : BitVec 3) (err : EccResult)
  /-- DRAM_ACCESS_TIMEOUT (R475). No response to a DRAM access within 10 µs, which declares the channel failed. -/
  | dramAccessTimeout (t : Nat) (ch : BitVec 3)
  /-- REFRESH_UNIT_DUE (R464). Expiry of tREFI, at which a refresh unit is issued, postponed or forced. -/
  | refreshUnitDue (t : Nat) (ch : BitVec 3)
  /-- MR4_READ (R463). 250 µs read of mode register 4 that changes a channel's refresh class and forces units. -/
  | mr4Read (t : Nat) (ch : BitVec 3) (cls : BitVec 2)
  /-- REFRESH_CLASS_STEP (R465). Expiry of 8 µs after a class change, which applies the next class of a multi-class report. -/
  | refreshClassStep (t : Nat) (ch : BitVec 3)
  /-- REQUEST_PROMOTE (R459). A request waiting AGE_LIMIT in its class, which is promoted by one class. -/
  | requestPromote (t : Nat)
  /-- DQS_OSC_RUN (R455). 4 ms run of the DQS interval oscillator that corrects timing drift. -/
  | dqsOscRun (t : Nat)
  /-- DRAM_SCRUB_STEP (R473). Patrol scrub read of the next physical block. -/
  | dramScrubStep (t : Nat) (err : EccResult)
  /-- DRAM_REBUILD_STEP (R476). Rebuild of the next channel offset onto channel 7, ending with DRAM_REBUILD_DONE. -/
  | dramRebuildStep (t : Nat)
  /-- DRAM_PORT_WINDOW (R462). End of a 1 ms window, which latches each port's byte count. -/
  | dramPortWindow (t : Nat)
  /-- HW_PUSH_RETRY (R494). Reoffer of a refused hardware push in the next cycle. -/
  | hwPushRetry (t : Nat) (q : BitVec 13)
  /-- CELL_PATROL (R501). Patrol test of a free Pantry cell that retires it on failure. -/
  | cellPatrol (t : Nat) (cell : BitVec 16) (ok : Bool)
  /-- LOCKSTEP_MISMATCH (R623). Lockstep mismatch that halts a Stockpot pair and fails over to the standby. -/
  | lockstepMismatch (t : Nat) (pair : BitVec 1)
  /-- PAIR_RESTART_DONE (R624). End of Trivet's restart of a halted pair, which makes it standby or leaves it out of service. -/
  | pairRestartDone (t : Nat) (pair : BitVec 1) (ok : Bool)
  /-- STANDBY_SELFTEST (R624). 60 s lockstep self-test of the standby pair. -/
  | standbySelftest (t : Nat) (ok : Bool)
  /-- HEARTBEAT_TICK (R551). 1 ms advance of DEV_HEARTBEAT by the serving pair. -/
  | heartbeatTick (t : Nat)
  /-- NV_LINE_PROGRAM_DONE (R609). End of an NV line program, which continues the record write or its commit. -/
  | nvLineProgramDone (t : Nat)
  /-- TRIVET_SECURITY_RESET (R605). Expiry of 100 µs after a lifecycle completion, which performs the Trivet security reset. -/
  | trivetSecurityReset (t : Nat)
  /-- ENTROPY_HEALTH_FAIL (R589). Failure of an entropy health test, which clears ENTROPY_OK until reset. -/
  | entropyHealthFail (t : Nat)
  /-- SECURITY_ACCESS_VIOLATION (R584). A Stockpot or debug-port access to a denied resource, which reads 0 and raises SEC_VIOLATION. -/
  | securityAccessViolation (t : Nat)
  /-- JTAG_INSTRUCTION (R634). A JTAG instruction that drives or captures balls only within the compliance-enable condition. -/
  | jtagInstruction (t : Nat) (scan : JtagScan)
  /-- DEV_RESET_EXPIRY (R108). Expiry of 100 µs after DEV_RESET's completion entry, at which the device reset with cause 0x5 takes place. -/
  | devResetExpiry (t : Nat)
  /-- PRSNT_N_CHANGE (R536). Change of PRSNT_N_n, which puts the host port in DOWN with transmitters idle while high and lets training resume when low. -/
  | prsntNChange (t : Nat) (port : BitVec 1) (high : Bool)
  /-- QUIESCE_TIMEOUT (R538). Expiry of QUIESCE's TIMEOUT, which aborts every channel of the port that has not ended its descriptor. -/
  | quiesceTimeout (t : Nat) (port : BitVec 1)
  /-- TRIVET_REQUEST_DONE (R585). Completion of a Trivet security request such as a signature, key generation or verification, which ends the command that asked for it. -/
  | trivetRequestDone (t : Nat) (ok : Bool) (out : List Byte)
  /-- AFE_FG_CAL_DONE (R155). End of foreground calibration of the named dies, which returns accepted channels to service and ends AFE_FG_CAL. -/
  | afeFgCalDone (t : Nat) (results : List CalResult)
  /-- SELFTEST_TEST_DONE (R633). End of one DIAG_SELFTEST test, which writes its partial record and starts the next test or ends the command. -/
  | selftestTestDone (t : Nat) (result : BitVec 8) (durMs : BitVec 16) (detail : BitVec 32)
  /-- SHD_CAL_SETTLE_END (R234). Expiry of SETTLE_MS after the tile arrives, at which shading calibration suppresses strobes and starts its dark passes. -/
  | shdCalSettleEnd (t : Nat)
  /-- ALN_CALIBRATE_TIMEOUT (R569). Expiry of ALN_CALIBRATE's TIMEOUT, which ends the command with ERR_TIMEOUT and stages nothing. -/
  | alnCalibrateTimeout (t : Nat)
  /-- VDD_NV_RECOVER (R107). VDD_NV returning above its threshold, after which NV line programs may start again. -/
  | vddNvRecover (t : Nat)
  /-- NV_WRITE_WAIT_TIMEOUT (R610). Expiry of 10 ms of a record write waiting on low VDD_NV, which ends it with ERR_HW. -/
  | nvWriteWaitTimeout (t : Nat)
  /-- V_EST_TIMEOUT (R169). Expiry of 10.0 ms without a counted unit, at which V_EST becomes 0. -/
  | vEstTimeout (t : Nat)
  /-- FE_DIE_RESET_END (R107). End of a front-end die reset when its rails recover, at which the core die powers the die up again. -/
  | feDieResetEnd (t : Nat) (die : BitVec 2)
  /-- LAMP_TEST_PULSE (R368). A LAMP_TEST pulse 200 ns after the last slot end, sampled at its end and counted towards LINES and the partial results. -/
  | lampTestPulse (t : Nat) (row : BitVec 2) (current : Nat) (voltage : Nat)
  /-- LSW_SHIFT_DONE (R363). End of shifting a staged or restaged pattern into a chain, which completes LSW_STAGE and sets or clears SCAN_HOLD. -/
  | lswShiftDone (t : Nat) (chain : BitVec 1)
  /-- NOR_WRITE_DONE (R599). Completion of the NOR erase, writes and read-back of SEC_IMAGE_WRITE, which ends it with OK or ERR_HW. -/
  | norWriteDone (t : Nat) (readBackOk : Bool)
  deriving DecidableEq, Repr

end Sys2Proof
end

