-- ==== Sys2Proof/Decode.lean ====
section
/-! DEFINITION. The block has no instruction words: no row of the opcode table gives bits. -/

namespace Sys2Proof

/-- The command that a word spells by the table's bits. No row gives bits, so no word spells a command. The 64-byte commands
of the mailbox (R544) are read in Machine/Mailbox.lean, where the submission queue delivers them. -/
def decodeTableWord (_nbits _w : Nat) : Option Instr := none

end Sys2Proof
end

