-- ==== Sys2Proof/Config.lean ====
section
/-! DEFINITION. What an implementation fixes, and the values the manual leaves open. -/

namespace Sys2Proof

/-- A value the manual leaves open: the `n`-th such value the machine takes, `w` bits wide. It has no body, so nothing
can be proved of the value. `State.fresh` counts the values taken. -/
opaque Config.freeValue : (w : Nat) → Nat → BitVec w

/-- The accumulator sets that a lamp row names for its input voltage and its input current (R370): no command and no fixed
assignment of the manual says which. -/
opaque Config.rowSet : (row : Nat) → (isCurrent : Bool) → BitVec 6

/-- The factory value of the expected difference G_ij between two sensors in Q8.16 (R431), which the NV store of a part holds. -/
opaque Config.factoryDiff : (i j : Nat) → Int

/-- The core grid sensor of the region that a compensated circuit of the core die lies in (R120), which the manual does not name. -/
opaque Config.circuitSensor : (circuit : Nat) → BitVec 4

/-- The high time of a lamp regulator in one of its switching periods, in millionths of the period (R351, R367): what its current loop
makes of the string's current, which the manual leaves to the loop. -/
opaque Config.lampHigh : (row period : Nat) → Nat

/-- A boundary cell that no scan has loaded (R634, R635). -/
opaque Config.cellAtStart : (n : Nat) → Bool

/-- A correction of a compensation table, in trim units (R121): what the factory record of a part holds. -/
opaque Config.compPoint : (circuit point : Nat) → BitVec 16

/-- The state byte of a sensor in THERM_READ (R577): the manual gives it no coding. -/
opaque Config.sensorState : (suspect : Bool) → BitVec 8

/-- The state byte of an absent sensor (R4, R577), which the manual does not code either. -/
opaque Config.absentSensor : BitVec 8

/-- The `n`-th open sequence of bytes: the planes of a crop line product with DECIM 2, whose reduction the manual does not state
(R307, R314). -/
opaque Config.freeBytes : Nat → List Byte

/-- The quantised coefficients of a block of 8 x 8 level-shifted samples in zig-zag order (R305): ISO/IEC 10918-1 defines the forward
transform in real numbers and leaves its accuracy to the coder. -/
opaque Config.quantised : (samples : List Int) → (quant : List Nat) → List Int

/-- What R305 leaves open in the markers of a Preview: whether several tables share one DQT or DHT segment, whether a grey image carries
the tables that it does not use, and units and density of APP0. -/
opaque Config.jpegOneSegment : Bool
@[inherit_doc Config.jpegOneSegment] opaque Config.jpegGreyTables : Bool
@[inherit_doc Config.jpegOneSegment] opaque Config.jfifDensity : Nat → BitVec 8

/-- Where the data of a service unit lies in DRAM (R288, R310, R456), which no rule says: its first block of 64 bytes. Port 6 holds the
reduced page, by page and tile, port 7 the working data of Tongs and Ladle, port 8 the output of the Preview. -/
opaque Config.svBlock : (port page unit : Nat) → Nat

/-- The largest T_MIN of the other devices of a bar, in ns (R174): programs of other parts decide it. -/
opaque Config.barTMin : Nat

/-- Twice the median of an even number of values whose middle two are `lo` and `hi` (R236), where these differ. -/
opaque Config.midPair : (lo hi : Int) → Int

/-- The two members of the family (R1, R3, R4). -/
inductive Member where
  | ml9648 | ml9624
  deriving DecidableEq, Repr

/-- Members: ports and front-end dies (R1, R3, R4). -/
def Member.ports : Member → Nat
  | .ml9648 => 48
  | .ml9624 => 24

/-- Front-end dies of the member. -/
def Member.dies : Member → Nat
  | .ml9648 => 4
  | .ml9624 => 2

/-- Facts of the part and of the board it stands on, which no command changes: the member (R1), the serial number (R562),
the DRAM fitted in GiB and its data rate in MT/s (R452), the pixel pitch of the segments in dpi and the line pitch in lpi
(R288, R298), each 600 or 1,200, and in bit `k` of `vddio33` whether the board sets VDDIO_PAT_k to 3.30 V, else 1.80 V (R66). -/
structure Board where
  member   : Member
  serial   : List Byte
  dramGiB  : Nat
  dataRate : Nat
  dpi      : Nat
  lpi      : Nat
  vddio33  : BitVec 4
  deriving DecidableEq, Repr

end Sys2Proof
end

