-- ==== Sys2Proof/Machine/StateHost.lean ====
section
/-! DEFINITION. State of the host side: the event unit, Pantry, the DMA engine, the host ports and the command contexts
(chapters "Event catalogue and register map", "Pantry queue manager", "DMA engine", "Host link, hot-plug and command
mailbox"). -/

namespace Sys2Proof.Machine

/-- What leaves the block during one command: interrupt messages (R640, R528), writes to host memory (R517, R518), the
data of a host read, frames on the Uzon (R198) and Skillet links (R344), and pulses on output balls. -/
inductive Output where
  | msix (port : Nat) (vec : Nat)
  | hostWrite (port : Nat) (addr : Nat) (bytes : List Byte) (poison : Bool)
  | hostRead (bytes : List Byte) (poison : Bool)
  | descRead (port : Nat) (chan : Nat) (addr : Nat)
  | linkRead (port : Nat) (chan : Nat) (addr : Nat)
  | burst (chan : Nat) (offset : Nat) (bytes : Nat)
  | readBack (chan : Nat)
  | uzonFrame (bytes : List Byte)
  | uzonSlot (device : Nat) (bytes : List Byte)
  | streakFrame (lane : Nat) (symbols : List (BitVec 10))
  | norProgram (slot : Nat) (bytes : List Byte)
  | trivetRequest (opcode : Nat) (bytes : List Byte)
  deriving DecidableEq, Repr

/-- The route of one event source (R637, EV_ROUTE_s of R643). -/
structure Route where
  vec     : BitVec 6
  toCpu   : Bool
  port    : Bool
  wake    : Bool
  deriving DecidableEq, Repr

/-- The event unit (R637): one bit per source in each of `raw` (level sources only; a pulse lasts one cycle), `latch`,
`enable` and `edge`. Routes not listed have their reset value. -/
structure EvUnit where
  raw    : BitVec 256
  latch  : BitVec 256
  enable : BitVec 256
  edge   : BitVec 256
  route  : SMap Route
  deriving DecidableEq, Repr

/-- A cell of the pool (R485): its number, its valid bytes, and whether it is the open tail cell. -/
structure Cell where
  id    : Nat
  bytes : List Byte
  isOpen : Bool
  deriving DecidableEq, Repr

/-- One queue (R486 to R494, R505 to R507). `cycle` is the CLK_PIX cycle of the latest push or pop, `startCells` those
of the cells that stood in the queue at its start and that no pop of the cycle has taken (R495), and `startUse` the count of cells
in use at its start. -/
structure Queue where
  en         : Bool
  whole      : Bool
  ngrp       : BitVec 2
  limit      : Nat
  wm         : Nat
  cells      : List Cell
  underrun   : Bool
  overflow   : Bool
  perr       : Bool
  lastCount  : Nat
  drops      : Nat
  lastWord   : List Byte
  cycle      : Option Nat
  startCells : List Cell
  startUse   : Nat
  consumer   : Option Nat
  deriving DecidableEq, Repr

/-- One Pan queue (R496 to R499): a ring of 512 words. -/
structure PanQueue where
  head  : Nat
  words : Nat
  deriving DecidableEq, Repr

/-- Pantry: the queues that differ from their reset value, the Pan queues, the retired cells (R504), the count of cells
held by queues, the POOL_LOW condition (R489), PERR_CNT (R508), and the hardware pushes held by their producers (R494). -/
structure Pantry where
  queues  : SMap Queue
  pan     : SMap PanQueue
  used    : Nat
  /-- Cells in use at the start of the current cycle (R495): freed cells can be taken from the next cycle on. -/
  freedAt : Option (Nat × Nat)
  retired : List Nat
  low     : Bool
  perrCnt : Nat
  held    : SMap (List (List Byte))
  deriving DecidableEq, Repr

/-- STATE of a DMA channel (R531). -/
inductive DmaState where
  | idle | running | idleAtEnd | aborting | stopped
  deriving DecidableEq, Repr

/-- What a RUNNING channel is waiting for (R514, R524, R530). -/
inductive DmaPhase where
  | none | fetch | moving | readBack | reread
  deriving DecidableEq, Repr

/-- One DMA channel (R509 to R531). `desc` is DMA_DESC_c and `last` what it was before the descriptor in hand was fetched (R525);
`src`, `dst`, `len`, `ctl` and `link` are the fields of the descriptor in hand (R511), `next` the address of the descriptor being
fetched; `moved` counts the bytes it has written and `limit` the bytes it may move (R521, R523); `written` are the bytes written
so far in ascending address order, for the CRC, and `prevCrc` the CRC of the descriptor completed before (R516); `poison` and
`parity` say what the data read so far carried (R518). -/
structure DmaChan where
  state   : DmaState
  phase   : DmaPhase
  intEn   : Bool
  vec     : BitVec 6
  kick    : Bool
  qWait   : Bool
  code    : BitVec 4
  int     : Bool
  perr    : Bool
  carry   : List Byte
  desc    : Nat
  last    : Nat
  residue : Nat
  crc     : BitVec 32
  window  : Option Nat
  queue   : Option Nat
  port    : Nat
  src     : Nat
  dst     : Nat
  len     : Nat
  ctl     : BitVec 32
  link    : Nat
  next    : Nat
  limit   : Nat
  moved   : Nat
  written : List Byte
  prevCrc : BitVec 32
  poison  : Bool
  parity  : Bool
  deriving DecidableEq, Repr

/-- The DMA engine (R531, R532). -/
structure Dma where
  chans   : SMap DmaChan
  errAddr : Nat
  latched : Bool
  kind    : BitVec 3
  errPort : Nat
  count   : Nat
  deriving DecidableEq, Repr

/-- States of a host port (R536). -/
inductive PortLink where
  | down | up | quiesced | lost
  deriving DecidableEq, Repr

/-- One entry of the MSI-X table (R533) with its pending bit. -/
structure MsixEntry where
  addr    : BitVec 64
  data    : BitVec 32
  ctrl    : BitVec 32
  pending : Bool
  deriving DecidableEq, Repr

/-- One host port (R533 to R538). `perst` is the level of PERST_N_n, `prsnt` says that PRSNT_N_n is low, a card being fitted;
`since` is when the port last left UP (R540); `quiesce` holds the context, mode, deadline and aborted count of a QUIESCE in
progress (R538). -/
structure HostPort where
  link    : PortLink
  perst   : Bool
  prsnt   : Bool
  width   : BitVec 5
  speed   : BitVec 3
  d3      : Bool
  since   : Nat
  msix    : SMap MsixEntry
  quiesce : Option (Nat × Bool × Nat × Nat)
  deriving DecidableEq, Repr

/-- STATE of OP_STATUS_n (R541). -/
inductive OpState where
  | idle | queued | running | partialResult | done | failed | aborted
  deriving DecidableEq, Repr

/-- A command whose effect is over and whose completion entry is still to be pushed (R546). -/
structure Ending where
  opcode : Nat
  seq    : BitVec 8
  state  : OpState
  result : BitVec 8
  rlen   : Nat
  data   : List Byte
  noCpl  : Bool
  deriving DecidableEq, Repr

/-- A command that a context has taken and that has not ended (R542). -/
structure RunCmd where
  opcode : Nat
  seq    : BitVec 8
  noCpl  : Bool
  deriving DecidableEq, Repr

/-- A payload buffer (R544, R563). -/
structure PayBuf where
  window : Nat
  offset : Nat
  size   : Nat
  deriving DecidableEq, Repr

/-- One command context (R541 to R548). `paused` is set by checks 1 to 3 of R545, `shut` by QUIESCE (R538); `rung` says
that a doorbell or sweep has commands still to take; `deferred` is a staging that met a locked table (R24); `discard`
says that the completion entry of the running command is discarded (R537), `resume` that the deferred staging is being executed
again. -/
structure Ctx where
  owner    : Nat
  paused   : Bool
  shut     : Bool
  rung     : Bool
  cur      : Option RunCmd
  deferred : Option Instr
  ending   : Option Ending
  discard  : Bool
  resume   : Bool
  opState  : OpState
  result   : BitVec 8
  progress : Nat
  seq      : BitVec 8
  partials : Nat
  buf      : Option PayBuf
  deriving DecidableEq, Repr

/-- The host link as a whole: the two ports, PCIE_SPLIT as sampled (R59, R554), the heartbeat (R551), the event routes that a takeover has
moved (R540), and what left the block during the latest command. -/
structure HostUnit where
  port0   : HostPort
  port1   : HostPort
  split   : Bool
  beat    : BitVec 24
  beatBy  : Nat
  movedRoutes : List Nat
  ctxs    : SMap Ctx
  out     : List Output
  deriving DecidableEq, Repr

/-- Reset values (R643). -/
def Route.reset : Route := { vec := 0, toCpu := true, port := false, wake := false }

/-- Reset values of the event unit (R639). -/
def EvUnit.reset : EvUnit :=
  { raw := 0, latch := 0, enable := 0, edge := BitVec.allOnes 256, route := [] }

/-- A queue as every device reset leaves it (R506, R507): disabled and empty. -/
def Queue.reset : Queue :=
  { en := false, whole := false, ngrp := 0, limit := 0, wm := 0, cells := [], underrun := false, overflow := false,
    perr := false, lastCount := 0, drops := 0, lastWord := [], cycle := none, startCells := [], startUse := 0, consumer := none }

/-- A Pan queue at reset: empty, both pointers at word 0. -/
def PanQueue.reset : PanQueue := { head := 0, words := 0 }

/-- Pantry at reset: every cell free (R508). -/
def Pantry.reset : Pantry :=
  { queues := [], pan := [], used := 0, freedAt := none, retired := [], low := false, perrCnt := 0, held := [] }

/-- A channel at reset (R531). -/
def DmaChan.reset : DmaChan :=
  { state := .idle, phase := .none, intEn := false, vec := 0, kick := false, qWait := false, code := 0, int := false,
    perr := false, carry := [], desc := 0, last := 0, residue := 0, crc := 0, window := none, queue := none, port := 0, src := 0,
    dst := 0, len := 0, ctl := 0, link := 0, next := 0, limit := 0, moved := 0, written := [], prevCrc := 0, poison := false,
    parity := false }

/-- The DMA engine at reset (R532). -/
def Dma.reset : Dma := { chans := [], errAddr := 0, latched := false, kind := 0, errPort := 0, count := 0 }

/-- An MSI-X entry at reset: masked, as the PCIe base specification has it (PRESUMED: log entry 7). -/
def MsixEntry.reset : MsixEntry := { addr := 0, data := 0, ctrl := 1, pending := false }

/-- A host port at reset: DOWN (R554). The levels of PERST_N and PRSNT_N are inputs; the model starts with the port held
in PERST and fitted (DESIGN CHOICE: log entry 8). -/
def HostPort.reset : HostPort :=
  { link := .down, perst := false, prsnt := true, width := 0, speed := 0, d3 := false, since := 0, msix := [],
    quiesce := none }

/-- A context at reset (R541). -/
def Ctx.reset : Ctx :=
  { owner := 0, paused := false, shut := false, rung := false, cur := none, deferred := none, ending := none,
    discard := false, resume := false, opState := .idle, result := 0, progress := 0, seq := 0, partials := 0, buf := none }

/-- The host link at reset (R551, R554). -/
def HostUnit.reset : HostUnit :=
  { port0 := HostPort.reset, port1 := HostPort.reset, split := false, beat := 0, beatBy := 0, movedRoutes := [], ctxs := [], out := [] }

end Sys2Proof.Machine
end

