-- ==== Sys2Proof/Machine/StateMem.lean ====
section
/-! DEFINITION. State of the DRAM controller, of Trivet with the NV store, of the Stockpot pairs and of online test (chapters
"DRAM controller", "Security, lifecycle and attestation" and "Single-fault masking, online test and live
replacement"). -/

namespace Sys2Proof.Machine

/-! ## DRAM -/

/-- A window (R552): where its DRAM lies, its size in bytes, whether it lies in the protected partition, and its BAR2 offset
when mapped. -/
structure Window where
  base : Nat
  size : Nat
  prot : Bool
  bar2 : Option Nat
  deriving DecidableEq, Repr

/-- A request that waits for a channel or, once served, for its read data (R458 to R460). `cls` is 0 RT, 1 HI, 2 BE; `bytes` is what the
requester transfers with it; `parity` marks a parity block, whose `addr` is the channel offset (R474, R476). -/
structure DramReq where
  port  : Nat
  cls   : Nat
  since : Nat
  at_   : Nat
  addr  : Nat
  bytes : Nat
  write : Bool
  parity : Bool
  deriving DecidableEq, Repr

/-- One channel (R454, R458, R463 to R466, R475). `cls` is the refresh class (0 1x, 1 1xT, 2 2x, 3 Beyond), `report` the class that
mode register 4 reports, `stepAt` when the next class of a multi-class report applies (R465); `errs` are the blocks with
uncorrectable errors and their times (R475); `forcedDue` counts forced units still to be issued and `due` units due. -/
structure DramChan where
  cls       : Nat
  report    : Nat
  stepAt    : Option Nat
  debt      : Nat
  forcedDue : Nat
  due       : Nat
  reqs      : List DramReq
  flight    : List DramReq
  errs      : List (Nat × Nat)
  osc       : Bool
  deriving DecidableEq, Repr

/-- An entry of the error log (R474). `phys` holds rank, bank, row and column, whose mapping the manual leaves open: 8, 8, 18
and 16 bits from the low end of a free value. -/
structure LogEntry where
  time  : Nat
  addr  : Nat
  ch    : Nat
  port  : Nat
  type  : Nat
  words : BitVec 8
  phys  : Nat
  count : Nat
  deriving DecidableEq, Repr

/-- A rebuild (R476, R478): the channel, whether it is a DRAM_CH_RETIRE or the copy back of DRAM_CH_RESTORE, its position in
64-byte blocks of a channel, and the context of the command. -/
structure Rebuild where
  ch      : Nat
  retire  : Bool
  restore : Bool
  pos     : Nat
  ctx     : Option Nat
  deriving DecidableEq, Repr

/-- The DRAM controller and its memory (R452 to R484). `mem` is the data address space in canonical form, an unlisted byte
reading 0 (R115, R654); `poison` the blocks whose reads return POISON (R471); `spared` the channel that channel 7 stands in
for (R476, R478); `panic` has one bit per Pan queue (R456); `trainCtx` is a DRAM_TRAIN in progress (R455). -/
structure Dram where
  mem      : List Host.Cell
  poison   : List Nat
  windows  : SMap Window
  resilient : Bool
  prot     : Nat
  scrubH   : Nat
  ageLimit : Nat
  chOk     : BitVec 8
  wipeDone : Bool
  spare    : Nat
  failedCh : Nat
  spared   : Option Nat
  rebuild  : Option Rebuild
  trainCtx : Option Nat
  chans    : SMap DramChan
  panic    : BitVec 32
  log      : List LogEntry
  dropCorr : Nat
  dropUnc  : Nat
  forced   : Nat
  corr     : Nat
  uncorr   : Nat
  passes   : BitVec 16
  pos      : Nat
  count    : SMap Nat
  latched  : SMap Nat
  deriving DecidableEq, Repr

/-! ## Trivet, fuses and the NV store -/

/-- Lifecycle states with their codes (R600). -/
inductive Lifecycle where
  | blank | vendor | provisioned | field | returned | scrap
  deriving DecidableEq, Repr

/-- Records of the NV store that the manual names (R608): lifecycle, pending transition, SVN_VENDOR, owner key, SVN_OWNER, owner
configuration, trim sets and failed channels of a die, the sealed DIK, the factory record. -/
inductive NvId where
  | lifecycle | pending | svnVendor | ownerKey | svnOwner | ownerCfg | trims (die : Nat) | failedCh (die : Nat) | dik
  | factory
  deriving DecidableEq, Repr

/-- Marker of a commit line (R609, R610). -/
inductive Marker where
  | none | valid | void
  deriving DecidableEq, Repr

/-- One slot of a record (R609): its marker, SEQ, whether its hash matches its data, and the data. -/
structure NvSlot where
  marker : Marker
  seq    : BitVec 32
  hashOk : Bool
  data   : List Byte
  wear   : Nat
  deriving DecidableEq, Repr

/-- A record with its two slots. -/
structure NvRec where
  id    : NvId
  slot0 : NvSlot
  slot1 : NvSlot
  deriving DecidableEq, Repr

/-- What a record write serves (R153, R453, R598, R593, R594, R605). -/
inductive NvWhy where
  | trim | layout | svn | enrol | pending | newState | clear | identity
  deriving DecidableEq, Repr

/-- A record write in progress (R609, R610): lines still to program (the commit line included), whether some line has been
programmed, since when it waits for VDD_NV, and what asked for it. -/
structure NvWrite where
  id    : NvId
  data  : List Byte
  left  : Nat
  begun : Bool
  waitSince : Option Nat
  ctx   : Option Nat
  why   : NvWhy
  deriving DecidableEq, Repr

/-- Steps of an accepted lifecycle transition (R605). -/
inductive TransStep where
  | commit | wipe | writeState | clear
  deriving DecidableEq, Repr

/-- A request that Trivet holds (R585): the command's opcode and context, and the record it will return (R612, R615). -/
structure TrivetReq where
  opcode : Nat
  ctx    : Nat
  body   : List Byte
  target : Nat
  window : Nat
  offset : Nat
  deriving DecidableEq, Repr

/-- Trivet: registers, keys by their hashes, counters, the NV store and the requests it holds (R583 to R618). `fuse` is the fused
lifecycle state; `reserve` the lines of each region's reserve share in use, keyed by region (R608, R611). -/
structure Sec where
  fuse       : Lifecycle
  lifecycle  : Lifecycle
  mounted    : Bool
  debugOpen  : Bool
  owner      : Bool
  dik        : Bool
  transPend  : Bool
  entropyOk  : Bool
  violations : Nat
  challenge  : List Byte
  vrkHash    : List Byte
  /-- SHA-256 of the vendor public key that the ROM stores (R591). -/
  romKeyHash : List Byte
  ownerHash  : List Byte
  dikHash    : List Byte
  mHdr       : List Byte
  mBody      : List Byte
  fwVersion  : BitVec 32
  fwSvn      : BitVec 32
  keyId      : Nat
  svnVendor  : BitVec 32
  svnOwner   : BitVec 32
  epoch      : BitVec 32
  svnDue     : Bool
  reqs       : List TrivetReq
  secCtx     : Option Nat
  trans      : Option (Lifecycle × TransStep)
  nv         : List NvRec
  writes     : List NvWrite
  vddNvLow   : Bool
  stopNv     : Bool
  trimAt     : Nat
  hashCrossed : Nat
  reserve    : SMap Nat
  deriving DecidableEq, Repr

/-! ## Stockpot and test -/

/-- State of a Stockpot pair (R625). -/
inductive PairState where
  | serving | standby | restarting | out
  deriving DecidableEq, Repr

/-- The two pairs (R623 to R625). -/
structure Cpu where
  pair0     : PairState
  pair1     : PairState
  halts0    : Nat
  halts1    : Nat
  all0      : Nat
  all1      : Nat
  serving   : Nat
  failovers : Nat
  deriving DecidableEq, Repr

/-- A DIAG_SELFTEST in progress (R633): the test that runs, those still to run in ascending order, and those that failed;
`aborted` says that MB_ABORT ends it after the test in progress (R580). -/
structure SelfTest where
  ctx     : Nat
  cur     : Nat
  left    : List Nat
  failed  : List Nat
  aborted : Bool
  deriving DecidableEq, Repr

/-- Diagnostic tap and self-test (R627, R629, R633). -/
structure Diag where
  selfTest : Option SelfTest
  tapDrops : Nat
  deriving DecidableEq, Repr

/-! ## Reset values -/

/-- A channel at reset: class 1x, no debt. -/
def DramChan.reset : DramChan :=
  { cls := 0, report := 0, stepAt := none, debt := 0, forcedDue := 0, due := 0, reqs := [], flight := [], errs := [],
    osc := false }

/-- The controller at reset (R482 to R484); SCRUB_HOURS 24 (R473), AGE_LIMIT 2,000 ns (R459). PROT_EIGHTHS has no stated reset
value (log entry 5). -/
def Dram.reset : Dram :=
  { mem := [], poison := [], windows := [], resilient := false, prot := 1, scrubH := 24, ageLimit := 2000, chOk := 0,
    wipeDone := false, spare := 3, failedCh := 15, spared := none, rebuild := none, trainCtx := none, chans := [], panic := 0, log := [],
    dropCorr := 0, dropUnc := 0, forced := 0, corr := 0, uncorr := 0, passes := 0, pos := 0, count := [],
    latched := [] }

/-- A slot that has never been written. -/
def NvSlot.blank : NvSlot := { marker := .none, seq := 0, hashOk := false, data := [], wear := 0 }

/-- Trivet at reset (R618). The fuses and the NV store are the part's own, not reset values: the model starts with a part as
shipped, in VENDOR with a blank NV store (R600; DESIGN CHOICE, log entry 11). -/
def Sec.reset : Sec :=
  { fuse := .vendor, lifecycle := .blank, mounted := false, debugOpen := false, owner := false, dik := false,
    transPend := false, entropyOk := false, violations := 0, challenge := List.replicate 32 0,
    vrkHash := List.replicate 32 0, romKeyHash := List.replicate 32 0, ownerHash := List.replicate 32 0, dikHash := List.replicate 32 0,
    mHdr := List.replicate 32 0, mBody := List.replicate 32 0, fwVersion := 0, fwSvn := 0, keyId := 0, svnVendor := 0,
    svnOwner := 0, epoch := 0, svnDue := false, reqs := [], secCtx := none, trans := none, nv := [], writes := [],
    vddNvLow := false, stopNv := false, trimAt := 0, hashCrossed := 0, reserve := [] }

/-- The pairs at reset (R625): pair 0 serves, pair 1 stands by. -/
def Cpu.reset : Cpu :=
  { pair0 := .serving, pair1 := .standby, halts0 := 0, halts1 := 0, all0 := 0, all1 := 0, serving := 0, failovers := 0 }

/-- Test at reset (R629). -/
def Diag.reset : Diag := { selfTest := none, tapDrops := 0 }

end Sys2Proof.Machine
end

