-- ==== Sys2Proof/Machine/StateCore.lean ====
section
/-! DEFINITION. State of the device as a whole: mode, pending apply, reset, boot and clocks (chapters "Operating modes
and transitions", "Architecture and data flow", "Clock domains, power sequencing, reset and wipe"). -/

namespace Sys2Proof.Machine

/-- The twelve modes (R31). -/
inductive Mode where
  | boot | standby | idle | calibrate | webDense | webFast | sheetInspect | sheetScan | patchMeasure | diagnose
  | thermalHold | scrub
  deriving DecidableEq, Repr

/-- The two configuration profiles (R25). -/
inductive Profile where
  | fast | dense
  deriving DecidableEq, Repr

/-- A transition in progress (R36, R38 to R46): the context whose SET_MODE asked for it (none for the automatic ones), when
it was accepted, the pages it discards (R44), and the bytes of DRAM that a STANDBY wake has zeroed (R39). -/
structure Transition where
  ctx       : Option Nat
  accepted  : Nat
  discarded : Nat
  bytes     : Nat
  deriving DecidableEq, Repr

/-- The apply that is pending (R560): its context (none on a follower), when the master accepted it, its target line
(none: the first line whose trigger comes 10 us after acceptance, R23), the shadows it will apply (R21, R24), the count of
stagings it holds back (R21), and the mode it carries (R41). `announced` says that the first announcement has been sent
(R198, R561); `room` is the row-stagger buffer it brings, as base, size and LB, where LB changes (R253, R651). -/
structure PendingApply where
  ctx       : Option Nat
  accepted  : Nat
  target    : Option (BitVec 32)
  keys      : List Nat
  held      : Nat
  newMode   : Option Mode
  announced : Bool
  room      : Option (Nat × Nat × Nat)
  deriving DecidableEq, Repr

/-- Mode and profile (R35 to R50), the transition in progress and the pending apply. -/
structure ModeUnit where
  mode     : Mode
  target   : Mode
  transit  : Bool
  profile  : Profile
  modeSeq  : BitVec 16
  trans    : Option Transition
  apply    : Option PendingApply
  deriving DecidableEq, Repr

/-- Steps of the boot sequence (R113 to R118): reset still in force, SRAM wipe running, waiting for the NV store, waiting
for the image, image B to be tried, Stockpot released with DRAM in training, DRAM wipe, configuration restore, boot over,
both images failed (R118), and held in reset for good (R110, R114). -/
inductive BootPhase where
  | inReset | sramWipe | romRun | imageA | imageB | released | dramWipe | restore | done | bootFail | held
  deriving DecidableEq, Repr

/-- Sources of a device reset with their codes in RST_CAUSE (R108). -/
inductive ResetSource where
  | powerOn | porst | sysrst | brownout | command | trivet | sysclk
  deriving DecidableEq, Repr

/-- Reset, boot and the always-on domain (R57 to R63, R108 to R119). `porst` and `sysrst` are the levels of the two reset
pins; `devResetAt` and `secResetAt` the times of the resets that DEV_RESET and Trivet have set going; `wide` says that the
sequence in progress has the reach of PORST_N (R110); `sysclkAt` is set while a SYSCLK loss holds the reset, and gives the first
time at which SYSCLK_OK can have been 1 for 100 us (R108, R110); `powerAt` is the time of the latest power-on reset, `jtagIr` the
JTAG instruction in force (R634), `bsr` the boundary cells that scans have loaded, the latest first (R635). -/
structure ResetUnit where
  last       : BitVec 4
  prev       : BitVec 4
  tripSeen   : Bool
  wipeRetry  : Bool
  count      : BitVec 8
  thermTrip  : Bool
  phase      : BootPhase
  wipeTries  : Nat
  wide       : Bool
  sysclkAt   : Option Nat
  endsAt     : Option Nat
  endedAt    : Nat
  porst      : Bool
  sysrst     : Bool
  resetOut   : Bool
  uzsId      : BitVec 2
  devResetAt : Option Nat
  secResetAt : Option Nat
  imageB     : Bool
  wipeDone   : Bool
  powerAt    : Nat
  jtagIr     : JtagIr
  bsr        : List (Ball × Bool)
  deriving DecidableEq, Repr

/-- A compensated circuit (R120, R121): its 8-point table and the trim in force. -/
structure CompTrim where
  points : List Int
  trim   : Int
  deriving DecidableEq, Repr

/-- Clocks (R91 to R102, R120, R121). `skewTemp` and `skewSupply` are the bits of CLK_STATUS; `pairs` the supply differences
beyond their limit, as 16 x rail + 4 x die + die (R101). The compensated circuits are the RC oscillator, the core bandgap
and the bandgaps of FE0 to FE3, in that order. -/
structure ClkUnit where
  aonSrc     : Bool
  xtalLocked : Bool
  aonComp    : Bool
  sysclkOk   : Bool
  lockPix    : Bool
  lockMem    : Bool
  lockSys    : Bool
  lockHost0  : Bool
  lockHost1  : Bool
  lockFe     : BitVec 4
  skewTemp   : BitVec 3
  skewSupply : BitVec 3
  pairs      : List Nat
  comp       : SMap CompTrim
  deriving DecidableEq, Repr

/-- Mode and profile at reset (R35, R37). -/
def ModeUnit.reset : ModeUnit :=
  { mode := .boot, target := .boot, transit := false, profile := .fast, modeSeq := 0, trans := none, apply := none }

/-- The always-on record and the reset in force right after VDD_AON has risen (R108, R111): LAST is 1, COUNT is 1. The JTAG
port starts on IDCODE, as IEEE 1149.1 has it (PRESUMED: log entry 60). The reset
pins are inputs; the model starts with PORST_N low, as R104 asks of the board, and SYSRST_N high (log entry 6). -/
def ResetUnit.reset : ResetUnit :=
  { last := 1, prev := 0, tripSeen := false, wipeRetry := false, count := 1, thermTrip := false, phase := .inReset,
    wipeTries := 0, wide := true, sysclkAt := none, endsAt := some 1000, endedAt := 0, porst := false, sysrst := true,
    resetOut := false, uzsId := 0, devResetAt := none, secResetAt := none, imageB := false, wipeDone := false,
    powerAt := 0, jtagIr := .idcode, bsr := [] }

/-- A circuit at reset: no table loaded, the fuse trim in force, taken as 0 (R121; log entry 9). -/
def CompTrim.reset : CompTrim := { points := [], trim := 0 }

/-- Clocks at reset (R102). -/
def ClkUnit.reset : ClkUnit :=
  { aonSrc := false, xtalLocked := false, aonComp := false, sysclkOk := false, lockPix := false, lockMem := false,
    lockSys := false, lockHost0 := false, lockHost1 := false, lockFe := 0, skewTemp := 0, skewSupply := 0, pairs := [],
    comp := [] }

end Sys2Proof.Machine
end

