-- ==== Sys2Proof/Machine/StateDrive.lean ====
section
/-! DEFINITION. Tables and state of illumination, motion, the monitor converters, the thermal unit and Simmer (chapters
"Illumination drive", "Motion control", "Monitor conversion subsystem" and "Temperature sensing and the Simmer scheduler"),
with the layouts of R573, R575 and R577. -/

namespace Sys2Proof.Machine

/-! ## Illumination -/

/-- Row configuration (R349). -/
structure IlmRow where
  en      : Bool
  lpz     : Nat
  iRef    : Nat
  fSw     : Nat
  dead    : Nat
  regLead : Nat
  vOv     : Nat
  dNom    : Nat
  capMin  : Nat
  autoRes : Bool
  pMax    : Nat
  deriving DecidableEq, Repr

/-- Compensation table of a row (R353): T_i in Q8.8 and K_i in Q2.14. -/
structure IlmTcomp where
  temps : List Int
  ks    : List Nat
  deriving DecidableEq, Repr

/-- The slot that a row drives (R351, R356): its line and slot, the analogue code, the on-time in 1.25 ns, LSTB_w, and while LSTB_w is
high the times at which the on-time and the slot end. -/
structure SlotRun where
  seq   : BitVec 32
  slot  : Nat
  aCode : Nat
  on    : Nat
  lit   : Bool
  fallAt : Nat
  endAt : Nat
  deriving DecidableEq, Repr

/-- One lamp row (R351 to R357, R369, R370): K_w and C_w in force and for the next line boundary, whether K_w is held, the row
fault and whether its condition still holds, the slot it drives and the latest it has driven, the end of that slot, to which its
regulator goes on, P_w, and the line that has raised ILM_CURRENT. -/
structure RowUnit where
  k       : Nat
  nextK   : Nat
  held    : Bool
  cap     : Nat
  nextCap : Nat
  fault   : Bool
  ovNow   : Bool
  run     : Option SlotRun
  lastSlot : Option (BitVec 32 × Nat)
  regTo   : Nat
  power   : Nat
  curSeq  : Option (BitVec 32)
  deriving DecidableEq, Repr

/-- A LAMP_TEST in progress (R368): sums of current and voltage, and pulses, per row. -/
structure LampTest where
  ctx   : Nat
  rows  : BitVec 4
  code  : Nat
  ns    : Nat
  lines : Nat
  when_ : Nat
  vLamp : Nat
  vOfs  : Nat
  plen  : Nat
  iSum  : List Nat
  vSum  : List Nat
  n     : List Nat
  ratio : List Nat
  last  : List (Option (BitVec 32))
  deriving DecidableEq, Repr

/-- One lamp-switch chain (R358 to R365): LSW_ERR, SCAN_HOLD, the LSW_STAGE whose bits are being shifted (context, DISCARD) with
whether they have been and its pattern, the bits that the two latest latches have set, the failed lamps whose reserve the next latch
lights, and the line of the latest latch (R365). -/
structure ChainUnit where
  err     : Bool
  hold    : Bool
  staging : Option (Nat × Bool)
  shifted : Bool
  bits    : List Bool
  driven  : List Bool
  prev    : List Bool
  pend    : List Nat
  latchSeq : BitVec 32
  deriving DecidableEq, Repr

/-- The illumination controller (R371 to R373). Failed and reserve lamps are keyed by 768 x row + index in the row. -/
structure IlmUnit where
  rows     : SMap RowUnit
  chain0   : ChainUnit
  chain1   : ChainUnit
  failed   : List Nat
  resUsed  : List Nat
  test     : Option LampTest
  lfRow    : Nat
  lfZone   : Nat
  lfLamp   : Nat
  lfRes    : Bool
  lfValid  : Bool
  faultSeq : BitVec 32
  restSeq  : BitVec 32
  dark     : Bool
  deriving DecidableEq, Repr

/-! ## Motion -/

/-- Axis configuration (R377). -/
structure MotCfg where
  en        : Bool
  dirInv    : Bool
  iFs       : Nat
  iRun      : Nat
  iHold     : Nat
  holdDelay : Nat
  iTrip     : Nat
  rPh       : Nat
  lPh       : Nat
  kE        : Nat
  kI        : Nat
  vbusSet   : Nat
  vbusNom   : Nat
  vbusMin   : Nat
  divMv     : Nat
  dead      : Nat
  vLimit    : Nat
  aLimit    : Nat
  decStop   : Nat
  posMin    : Int
  posMax    : Int
  stallThr  : Nat
  stallN    : Nat
  vStallMin : Nat
  stallAct  : Bool
  stepSize  : Nat
  stepEdge  : Bool
  followMax : Nat
  vRun      : Nat
  vRev      : Nat
  aRun      : Nat
  deriving DecidableEq, Repr

/-- One segment of a ramp table (R390). -/
structure RampSeg where
  dur    : Nat
  endPos : Int
  endVel : Int
  deriving DecidableEq, Repr

/-- One tile of the tile table (R402). -/
structure TileEntry where
  bPos : Int
  cPos : Int
  vB   : Nat
  accB : Nat
  decB : Nat
  vC   : Nat
  accC : Nat
  decC : Nat
  deriving DecidableEq, Repr

/-- The tile table (R402). -/
structure TileTab where
  cWork : Int
  bPark : Int
  tiles : List TileEntry
  deriving DecidableEq, Repr

/-- Kinds of move with what they need (R384). Positions in microsteps, speeds in 1/16 microstep/s; a relative target is resolved
at acceptance (R386; log entry 22). -/
inductive MoveKind where
  | move (target : Int) (v acc dec : Nat)
  | table (first last : Nat)
  | jog (v : Int) (acc : Nat)
  | coord (targetB targetC : Int) (v acc dec : Nat)
  | follow
  | home (positive : Bool) (v : Nat) (homePos : Int) (backoff homeMax : Nat)
  deriving DecidableEq, Repr

/-- An entry of a move queue (R385): the context whose command it is, or none for the device's own moves (R234, R403). -/
structure Move where
  ctx  : Option Nat
  kind : MoveKind
  deriving DecidableEq, Repr

/-- STATE of MOT_STATUS_x (R404). -/
inductive MotState where
  | off | rest | moving | stopping | following | homing | hardFault | stalled
  deriving DecidableEq, Repr

/-- One axis (R379 to R404). P and the velocity are held with 32 fraction bits (R380): `p` in microsteps, `v` in 1/16 microstep/s.
`queue` has the running move at its head when `running`; `start` and `dist` are the running move's start and distance;
`stopDec` the deceleration of a stop in progress with what it ends with; `stops` the contexts of MOT_STOP. -/
structure Axis where
  p        : Int
  v        : Int
  state    : MotState
  homed    : Bool
  hold     : Bool
  gates    : Bool
  fltPin   : Bool
  owned    : Bool
  queue    : List Move
  running  : Bool
  cause    : Nat
  stalls   : Nat
  lambda   : Option Int
  margin   : Nat
  restAt   : Option Nat
  start    : Int
  target   : Int
  vMax     : Nat
  acc      : Nat
  dec      : Nat
  startAt  : Nat
  stopDec  : Option Nat
  stopEnd  : BitVec 8
  stops    : List (Nat × Bool)
  backing  : Bool
  coarse   : Int
  edgeAt   : Option Nat
  followV  : Int
  stallRun : Nat
  overRun  : Nat
  iaPrev   : Int
  ibPrev   : Int
  iaMeas   : Int
  ibMeas   : Int
  viA      : Int
  viB      : Int
  high     : List Nat
  pwmAt    : Option Nat
  vbusLow  : Option Nat
  stagedCfg : Bool
  deriving DecidableEq, Repr

/-! ## Monitor converters -/

/-- An entry of the sequence table (R412). `rep` is after the zero rule, SETTLE in 10 us. -/
structure SeqEntry where
  ch     : Nat
  sar    : Bool
  rep    : Nat
  settle : Nat
  set    : Nat
  deriving DecidableEq, Repr

/-- Configuration of an accumulator set (R416). `win` is after the zero rule. -/
structure SetCfg where
  win    : Nat
  unit   : Nat
  curve  : Nat
  scale  : Int
  offset : Int
  deriving DecidableEq, Repr

/-- A published snapshot or an open window of a set (R415, R418). -/
structure SetAcc where
  sum   : Nat
  count : Nat
  min   : Nat
  max   : Nat
  ovr   : Bool
  sar   : Bool
  taken : Nat
  deriving DecidableEq, Repr

/-- One accumulator set (R415 to R418). -/
structure AccSet where
  work   : SetAcc
  snap   : SetAcc
  suspect : Bool
  dv     : Int
  seq    : BitVec 32
  at_    : Option Nat
  sticky : Bool
  deriving DecidableEq, Repr

/-- States of a monitor converter (R410). -/
inductive ConvState where
  | off | sar | normal | cal | failed | test
  deriving DecidableEq, Repr

/-- What a converter is converting (R413, R419, R421, R425, R426): an entry with the repeats still to come, the shared
conversion, a channel of the supply block with the channels that follow it, an injected conversion, a step of MADC_TEST, or
nothing. -/
inductive ConvWork where
  | none
  | entry (e : SeqEntry) (left : Nat)
  | shared
  | supply (chs : List Nat) (left : Nat)
  | inject
  | test (step : Nat)
  deriving DecidableEq, Repr

/-- One converter (R409 to R426). `discard` counts the dummy conversions still to come (R419); `resume` is the work that an
injected conversion or a calibration has interrupted; the four trims are what MCH_LOW and MCH_SHARED read at the latest
accepted calibration, integrating and by SAR (R421); `toNormal` says that an accepted calibration brings it to NORMAL at
the next loop boundary; `startAt` and `endAt` bound the conversion or calibration in progress; `back` is the state that a
calibration returns to; `sharedIs` the code of the shared conversion of this loop. -/
structure Conv where
  state    : ConvState
  failed   : Bool
  work     : ConvWork
  resume   : ConvWork
  discard  : Nat
  intLo    : Nat
  intHi    : Nat
  sarLo    : Nat
  sarHi    : Nat
  toNormal : Bool
  startAt  : Nat
  endAt    : Nat
  back     : ConvState
  sharedIs : Option Nat
  testBad  : Bool
  deriving DecidableEq, Repr

/-- An injected conversion (R424, R426). -/
structure Inject where
  ctx    : Nat
  ch     : Nat
  sar    : Bool
  settle : Nat
  set    : Nat
  onConv : Option Nat
  deriving DecidableEq, Repr

/-- The monitor subsystem (R410 to R428). MAINS_SRC, MULT and CAL_PERIOD, the sequence and the sets are in force; `next*` are
stagings that wait for the loop boundary (R412). `calLeft` are the converters still to be calibrated. -/
structure Madc where
  convA     : Conv
  convB     : Conv
  mainsSrc  : Nat
  mult      : Nat
  calPeriod : Nat
  seq       : List SeqEntry
  sets      : SMap SetCfg
  curves    : SMap (List (Nat × Int))
  nextCfg   : Option (Nat × Nat × Nat)
  nextSeq   : Option (List SeqEntry)
  nextSets  : List (Nat × SetCfg)
  nextCurves : List (Nat × List (Nat × Int))
  acc       : SMap AccSet
  pos       : Nat
  phase     : Nat
  loop      : BitVec 16
  seqGo     : Bool
  inj       : Option Inject
  calLeft   : List Nat
  calRun    : Option Nat
  calCtx    : Option Nat
  calFailed : Nat
  calNextAt : Nat
  testCtx   : Option (Nat × Nat)
  mismatch  : Bool
  mainsOk   : Bool
  tm        : Nat
  tmLast    : Nat
  periods   : List Nat
  diff      : Nat
  disagree  : Nat
  deriving DecidableEq, Repr

/-! ## Thermal unit and Simmer -/

/-- A sensor and its region (R429 to R436). `hist` holds the latest region values, newest first (200 ms), `raw` the latest own
samples (5 ms); `calm` and `good` count the samples of R432 and R436. -/
structure Sensor where
  reading : Int
  pred    : Int
  suspect : Bool
  value   : Int
  raw     : List Int
  hist    : List Int
  good    : Nat
  calm    : Nat
  deriving DecidableEq, Repr

/-- The thermal unit (R435 to R439, R449, R450). G_ij is keyed by 32 i + j in Q8.16. -/
structure Therm where
  sensors  : SMap Sensor
  g        : SMap Int
  tHot     : Int
  hotReg   : Nat
  warn     : Bool
  nvBlock  : Bool
  shutdown : Bool
  nvSafe   : Bool
  rorWarn  : Bool
  rorTrip  : Bool
  released : Bool
  noModel  : Bool
  coolSince : Option Nat
  holdSince : Option Nat
  hotSince : Option Nat
  deriving DecidableEq, Repr

/-- Simmer's configuration (R440). -/
structure SimCfg where
  tTarget  : Int
  theta    : Nat
  tRelease : Int
  tHold    : Int
  dwell    : Nat
  ceilMin  : Nat
  bucket   : Nat
  pBoard   : Nat
  deriving DecidableEq, Repr

/-- Simmer (R441 to R451). Energies in nJ, powers in mW; `slow` says that the ceiling is being lowered (R447). `dwellFrom` is
where DWELL is counted from (R446). -/
structure Simmer where
  cfg       : SimCfg
  nextCfg   : Option SimCfg
  nextBoard : Option Nat
  stage     : Nat
  energy    : Nat
  bytes     : Nat
  blocked   : List Bool
  pOpt      : Nat
  bOpt      : Nat
  pDev      : Nat
  pLamp     : Nat
  ceil      : Nat
  slow      : Bool
  speedReq  : Bool
  vEntry    : Int
  stepAt    : Option Nat
  since1    : Option Nat
  since2    : Option Nat
  floorSince : Option Nat
  lowSince  : Option Nat
  capRaiseAt : Nat
  dwellFrom : Nat
  deriving DecidableEq, Repr

/-! ## Reset values -/

/-- EN = 0 for every row (R349); the other fields are wiped to zero (R112). -/
def IlmRow.reset : IlmRow :=
  { en := false, lpz := 0, iRef := 0, fSw := 0, dead := 10, regLead := 0, vOv := 0, dNom := 0, capMin := 0,
    autoRes := false, pMax := 0 }

/-- Every K_i is 0x4000 (R353); the temperatures are given none (log entry 5). -/
def IlmTcomp.reset : IlmTcomp := { temps := List.replicate 8 0, ks := List.replicate 8 0x4000 }

/-- A row at reset: no compensation, no cap, dark. -/
def RowUnit.reset : RowUnit :=
  { k := 0x4000, nextK := 0x4000, held := false, cap := 4096, nextCap := 4096, fault := false, ovNow := false,
    run := none, lastSlot := none, regTo := 0, power := 0, curSeq := none }

/-- A chain at reset: every pattern bit is 0 (R358), every shunt open (R361). -/
def ChainUnit.reset : ChainUnit :=
  { err := false, hold := false, staging := none, shifted := false, bits := [], driven := [], prev := [], pend := [], latchSeq := 0 }

/-- Illumination at reset (R371 to R373). -/
def IlmUnit.reset : IlmUnit :=
  { rows := [], chain0 := ChainUnit.reset, chain1 := ChainUnit.reset, failed := [], resUsed := [], test := none,
    lfRow := 0, lfZone := 0, lfLamp := 0, lfRes := false, lfValid := false, faultSeq := 0, restSeq := 0, dark := false }

/-- After reset every field is 0 except DEAD, which is 50 (R377). -/
def MotCfg.reset : MotCfg :=
  { en := false, dirInv := false, iFs := 0, iRun := 0, iHold := 0, holdDelay := 0, iTrip := 0, rPh := 0, lPh := 0,
    kE := 0, kI := 0, vbusSet := 0, vbusNom := 0, vbusMin := 0, divMv := 0, dead := 50, vLimit := 0, aLimit := 0,
    decStop := 0, posMin := 0, posMax := 0, stallThr := 0, stallN := 0, vStallMin := 0, stallAct := false,
    stepSize := 0, stepEdge := false, followMax := 0, vRun := 0, vRev := 0, aRun := 0 }

/-- A wiped segment. -/
def RampSeg.reset : RampSeg := { dur := 0, endPos := 0, endVel := 0 }

/-- A wiped tile. -/
def TileEntry.reset : TileEntry := { bPos := 0, cPos := 0, vB := 0, accB := 0, decB := 0, vC := 0, accC := 0, decC := 0 }

/-- A wiped tile table. -/
def TileTab.reset : TileTab := { cWork := 0, bPark := 0, tiles := List.replicate 8 TileEntry.reset }

/-- An axis at reset (R379, R404). -/
def Axis.reset : Axis :=
  { p := 0, v := 0, state := .off, homed := false, hold := false, gates := false, fltPin := false, owned := false,
    queue := [], running := false, cause := 0, stalls := 0, lambda := none, margin := 0xFF, restAt := none, start := 0,
    target := 0, vMax := 0, acc := 0, dec := 0, startAt := 0, stopDec := none, stopEnd := 0, stops := [],
    backing := false, coarse := 0, edgeAt := none, followV := 0, stallRun := 0, overRun := 0, iaPrev := 0,
    ibPrev := 0, iaMeas := 0, ibMeas := 0, viA := 0, viB := 0, high := [0, 0, 0, 0], pwmAt := none, vbusLow := none, stagedCfg := false }

/-- A set's configuration after reset: wiped (R112), with WIN after the zero rule. -/
def SetCfg.reset : SetCfg := { win := 256, unit := 0, curve := 0, scale := 0, offset := 0 }

/-- An empty window. -/
def SetAcc.reset : SetAcc := { sum := 0, count := 0, min := 0, max := 0, ovr := false, sar := false, taken := 0 }

/-- A set at reset: nothing published. -/
def AccSet.reset : AccSet :=
  { work := SetAcc.reset, snap := SetAcc.reset, suspect := false, dv := 0, seq := 0, at_ := none, sticky := false }

/-- A converter at reset: OFF, with the factory trims taken as ideal (R410; log entry 9). -/
def Conv.reset : Conv :=
  { state := .off, failed := false, work := .none, resume := .none, discard := 0, intLo := 45511, intHi := 364089, sarLo := 45511,
    sarHi := 364089, toNormal := false, startAt := 0, endAt := 0, back := .off, sharedIs := none, testBad := false }

/-- The monitor subsystem at reset (R411, R412, R422, R427, R428). MULT has no stated reset value (log entry 5). -/
def Madc.reset : Madc :=
  { convA := Conv.reset, convB := Conv.reset, mainsSrc := 0, mult := 1, calPeriod := 60, seq := [], sets := [],
    curves := [], nextCfg := none, nextSeq := none, nextSets := [], nextCurves := [], acc := [], pos := 0, phase := 0,
    loop := 0, seqGo := false, inj := none, calLeft := [], calRun := none, calCtx := none, calFailed := 0,
    calNextAt := 0, testCtx := none, mismatch := false, mainsOk := false, tm := 500000, tmLast := 500000, periods := [], diff := 0,
    disagree := 0 }

/-- A sensor at reset. -/
def Sensor.reset : Sensor :=
  { reading := 0, pred := 0, suspect := false, value := 0, raw := [], hist := [], good := 0, calm := 0 }

/-- The thermal unit at reset (R449, R450). -/
def Therm.reset : Therm :=
  { sensors := [], g := [], tHot := 0, hotReg := 0, warn := false, nvBlock := false, shutdown := false, nvSafe := false,
    rorWarn := false, rorTrip := false, released := false, noModel := true, coolSince := none, holdSince := none,
    hotSince := none }

/-- Simmer's defaults (R440). -/
def SimCfg.reset : SimCfg :=
  { tTarget := 95 * 256, theta := 625, tRelease := 90 * 256, tHold := 112 * 256, dwell := 1000, ceilMin := 1024,
    bucket := 4, pBoard := 0 }

/-- Simmer at reset (R451). -/
def Simmer.reset : Simmer :=
  { cfg := SimCfg.reset, nextCfg := none, nextBoard := none, stage := 0, energy := 0, bytes := 0,
    blocked := [], pOpt := 0, bOpt := 0, pDev := 0, pLamp := 0, ceil := 4096, slow := false, speedReq := false, vEntry := 0,
    stepAt := none, since1 := none, since2 := none, floorSince := none, lowSince := none, capRaiseAt := 0,
    dwellFrom := 0 }

end Sys2Proof.Machine
end

