-- ==== Sys2Proof/Machine/StateLine.lean ====
section
/-! DEFINITION. Tables and state of the segment ports, the analogue front ends and the line-timing unit (chapters "Segment
ports, pattern generator and analogue front ends" and "Line timing, exposure and seamless stop-restart"), with the layouts
of R564 and R566. -/

namespace Sys2Proof.Machine

/-! ## Line-boundary tables -/

/-- A pattern program (R127): its sections as 16-bit entries (R126), lengths after the zero rule. -/
structure PatProgram where
  direct : Bool
  ls     : List (BitVec 16)
  rep    : List (BitVec 16)
  nrep   : Nat
  bl     : List (BitVec 16)
  deriving DecidableEq, Repr

/-- Bank selection and drive strength of a port (R125, R131): DRIVE 0 is 4 mA, 1 is 8 mA, 2 is 12 mA. -/
structure PatSel where
  bank  : BitVec 2
  drive : BitVec 8
  deriving DecidableEq, Repr

/-- AFE settings of a tap (R132). -/
structure TapAfe where
  pga      : BitVec 6
  offset   : Int
  clampEn  : Bool
  clampK   : BitVec 3
  clampTgt : BitVec 14
  deriving DecidableEq, Repr

/-- AFE settings of a port (R132): RANGE and the settings of its 16 taps. -/
structure AfePort where
  range : BitVec 2
  taps  : List TapAfe
  deriving DecidableEq, Repr

/-- One tap map entry (R138). `count` is after the zero rule. -/
structure TapEntry where
  en    : Bool
  line  : BitVec 2
  rev   : Bool
  step2 : Bool
  first : BitVec 10
  count : BitVec 10
  col   : BitVec 13
  deriving DecidableEq, Repr

/-- The port-state commands (R157), staged until an apply. -/
inductive PortCmd where
  | isolate | swap | qualify (bank : BitVec 2) (settleMs : Nat) (lines : Nat) | release
  deriving DecidableEq, Repr

/-- Trigger source table (R165 to R171, R566). DIV is unsigned 32.32, GEN_PERIOD in 1/256 ns. -/
structure LtSrc where
  src         : BitVec 8
  interp      : Bool
  dir0        : Bool
  dir1        : Bool
  followers   : BitVec 8
  filtEnc     : BitVec 8
  filtSheet   : BitVec 8
  chkTol      : BitVec 16
  div         : BitVec 64
  genPeriod   : BitVec 32
  flushPeriod : BitVec 32
  deriving DecidableEq, Repr

/-- One strobe slot (R180), times in 1.25 ns. -/
structure Slot where
  en    : Bool
  row   : BitVec 8
  start : BitVec 16
  width : BitVec 16
  wt    : List (BitVec 8)
  deriving DecidableEq, Repr

/-- The strobe table (R180): PHASES phases of four slots, and STB_REF in 1.25 ns. -/
structure Strobe where
  phases : Nat
  stbRef : BitVec 16
  slots  : List Slot
  deriving DecidableEq, Repr

/-- Page and gating table (R185 to R188, R566). CUE is 0 for none, 1 to 4 for SHEET_0 to SHEET_3, 5 and 6 for ENC_Z_0 and
ENC_Z_1. Positions are in 1/64 pitch. -/
structure LtPage where
  pageLen    : Nat
  cue        : Nat
  cueDist    : Int
  gateSrc    : Nat
  gatePol    : Bool
  skewSrc    : Nat
  sensorDist : Nat
  lead       : Int
  trail      : Int
  maxLen     : Nat
  deriving DecidableEq, Repr

/-- Pacing table (R193). -/
structure LtPace where
  hwm    : Nat
  lwm    : Nat
  takeup : Nat
  deriving DecidableEq, Repr

/-- IO assignment (R566, R567). -/
structure IoAssign where
  enc1     : BitVec 8
  fev15    : BitVec 8
  fevMask  : BitVec 16
  rejMin   : Nat
  rejDist  : Nat
  rejWidth : Nat
  deriving DecidableEq, Repr

/-! ## Ports and analogue front ends -/

/-- Port states (R51, R163). -/
inductive PortSt where
  | active | covered | isolated | swap | qualify
  deriving DecidableEq, Repr

/-- Where a QUALIFY stands (R157, R160): waiting for PWR_SETTLE, settling the clamps, capturing, passed. -/
inductive QualPhase where
  | powering | settling | capturing | passed
  deriving DecidableEq, Repr

/-- Dark figures of one tap in qualification (R160): sums over unsaturated DARK slots of the output code and its square,
their count, and the failures seen. -/
structure QualTap where
  sum      : Nat
  sq       : Nat
  n        : Nat
  darkSeen : Bool
  bad      : Bool
  deriving DecidableEq, Repr

/-- A qualification run (R157, R160); `started` says that the port's program has started at a line boundary. -/
structure QualRun where
  phase   : QualPhase
  until_  : Nat
  lines   : Nat
  settled : Nat
  inRun   : Nat
  done    : Nat
  started : Bool
  taps    : SMap QualTap
  deriving DecidableEq, Repr

/-- One port (R157 to R163). `ever` says that the port has read present since BOOT exit (R53); `offAt` and `releaseAt` are the
times of the power-down actions of R157; `outLow` and `outHiZ` the state of its outputs, `out` the OUT value of the last entry run
(R129); `causes` and `qual` are reported by PORT_STATUS_READ (R564). -/
structure PortUnit where
  state     : PortSt
  pres      : Bool
  ever      : Bool
  powered   : Bool
  outLow    : Bool
  outHiZ    : Bool
  out       : BitVec 8
  offAt     : Option Nat
  releaseAt : Option Nat
  run       : Option QualRun
  causes    : BitVec 6
  qual      : BitVec 8
  qualLines : Nat
  deriving DecidableEq, Repr

/-- One trim set (R151): its tag in Q8.8 degrees and its offset, gain and element selection. -/
structure TrimSet where
  tag  : Int
  off  : Int
  gain : Int
  elem : Nat
  deriving DecidableEq, Repr

/-- One AFE channel (R138 to R154). `covers` is the home channel whose taps a spare carries and `fault` says that the channel
is declared failed; `sets` are the four trim sets, `off`, `gain` and `elem` the trims in force; the residuals are those
of R154; `fails` counts rejected calibration steps and lost handover comparisons in a row. -/
structure Channel where
  failed   : Bool
  covers   : Option Nat
  forFault : Bool
  sets     : List TrimSet
  off      : Int
  gain     : Int
  elem     : Nat
  offRes   : Int
  gainRes  : Int
  inl      : Nat
  calTemp  : Int
  calAt    : Option Nat
  calFails : Nat
  hoFails  : Nat
  deriving DecidableEq, Repr

/-- A handover (R142) between the channel in its rotation step, `home`, and the spare that stands in for it: when it may be
compared, whether it hands back, and the attempt; attempt 0 is the time in between, in which the spare holds the taps
and the channel is measured. `recal` says that the side taking over is being recalibrated before the second attempt (R143),
`passed` that the comparison has passed and the source changes at the next line boundary, `fg` that the handover back follows a
foreground calibration (R156) and belongs to no rotation step. -/
structure Handover where
  spare   : Nat
  home    : Nat
  readyAt : Nat
  back    : Bool
  attempt : Nat
  recal   : Bool
  passed  : Bool
  fg      : Bool
  deriving DecidableEq, Repr

/-- One front-end die (R107, R122, R129, R147 to R155, R164). `rotCh` is the channel in its rotation step, `rotUntil` when its
measurement or the rest after it ends; `pendingSub` the channels declared failed whose substitution waits for a line boundary;
`running` says that a program runs, for the line `line` (none: for a flush trigger, R177); `trigs` are the triggers
that wait for the program's end; `checkHits` counts redundancy firings per channel in the line (R144). `backs` are the channels
whose taps are to be handed back after a foreground calibration (R156), `trimTemp` the die temperature of trims that wait for a
line boundary (R152), `io33` the pattern voltage found at power-up (R66). -/
structure FeDie where
  powered   : Bool
  chans     : SMap Channel
  rotCh     : Option Nat
  rotNext   : Nat
  rotUntil  : Nat
  cycles    : BitVec 8
  bgHalt    : Bool
  bgSlow    : Bool
  handover  : Option Handover
  pendingSub : List Nat
  progAt    : Nat
  progEnd   : Nat
  running   : Bool
  line      : Option (BitVec 32)
  trigs     : List (Option (BitVec 32))
  checkHits : SMap Nat
  backs     : List Nat
  trimTemp  : Option Int
  io33      : Bool
  deriving DecidableEq, Repr

/-- Clamp of one tap (R134): the accumulator, and the sum and count of the unsaturated DARK slots of the line in progress. -/
structure Clamp where
  acc : Int
  sum : Nat
  n   : Nat
  deriving DecidableEq, Repr

/-- Ports, dies and clamps. Clamps are keyed by 16 x port + input. `fgCal` is an AFE_FG_CAL in progress (context, dies, end). -/
structure PortsUnit where
  ports : SMap PortUnit
  dies  : SMap FeDie
  clamp : SMap Clamp
  fgCal : Option (Nat × BitVec 4)
  deriving DecidableEq, Repr

/-! ## Line timing -/

/-- Line tag (R179), without the flags that are kept apart below. -/
structure LineTag where
  seq     : BitVec 32
  pitch   : BitVec 32
  vEst    : Int
  lateNs  : Nat
  first   : Bool
  last    : Bool
  gap     : Bool
  phase   : BitVec 2
  restart : Bool
  skipped : Nat
  deriving DecidableEq, Repr

/-- Why, and with which trailing edge and skew, a page ends (CLOSE of R316, R188). -/
structure PageEnd where
  code  : Nat
  trail : Option Int
  skew  : Option Int
  deriving DecidableEq, Repr

/-- What page gating has decided at a line's trigger (R185 to R189): the page before it ends, the page of the line ends with it,
for the first line of a page the position of its leading edge or cue, and whether the page has lost lines to warm-up (R257). -/
structure GateInfo where
  closePrev  : Option PageEnd
  closeAfter : Option PageEnd
  lead       : Option Int
  short      : Bool
  deriving DecidableEq, Repr

/-- States of the pacing machine (R194, R203). -/
inductive Pace where
  | run | decel | rest | reverse | approach
  deriving DecidableEq, Repr

/-- A pending page start (R186, R188): the position it lies at, the edge it comes from, and for a sheet the position its page
ends at, the trailing edge and the skew, once known. -/
structure PageStart where
  pos    : Int
  lead   : Int
  endPos : Option Int
  trail  : Option Int
  skew   : Option Int
  deriving DecidableEq, Repr

/-- The page that gating has open, as the trigger side sees it (R185 to R190). -/
structure GatePage where
  endPos : Option Int
  trail  : Option Int
  skew   : Option Int
  lead   : Option Int
  lines  : Nat
  deriving DecidableEq, Repr

/-- Encoder inputs (R168, R170): the levels last seen, the counts since capture entry or the latest change of DIV, and the
pitches before it, in 2^-32 pitch. -/
structure Encoder where
  a    : Bool
  b    : Bool
  sum  : Int
  past : Int
  deriving DecidableEq, Repr

/-- The line-timing unit (R165 to R202). POS and NEXT are signed 32.32; `counts` holds the time stamps of the latest
counted units, newest first; V_EST is in 1/16 line/s. `lastTrig` is the latest line trigger, `lastAny` the latest line or
flush trigger; `pend` the request time of a held trigger (R176), `interpAt` the time of an interpolated trigger (R173),
`genAt` the next generator period in 1/256 ns, `caps` the lines since capture entry. `boundary` is the boundary of the latest
web page (R185), `skewLead` a leading edge of the skew sensor that no sheet has taken yet; `paceSlow` says that a
deceleration is only a ramp to a lowered ceiling (R195). -/
structure LineUnit where
  run       : Bool
  pos       : Int
  next      : Int
  counts    : List Nat
  vEst      : Int
  lastTrig  : Option Nat
  lastAny   : Option Nat
  pend      : Option Nat
  pendSkips : Nat
  pitchIx   : Nat
  interpAt  : Option Nat
  genAt     : Option Nat
  seq       : BitVec 32
  seqValid  : Bool
  caps      : Nat
  skipCnt   : Nat
  encErr    : Bool
  faults    : Nat
  enc0      : Encoder
  enc1      : Encoder
  sheets    : List Bool
  starts    : List PageStart
  boundary  : Option Int
  gate      : Option GatePage
  skewLead  : Option Int
  pace      : Pace
  paceSlow  : Bool
  paceBack  : Int
  deriving DecidableEq, Repr

/-- Uzon sync bus (R196 to R200, R204): the sticky bits and the count of bad frames, the followers' slots in the most recent
line, SPEED, MODE and GATE of the latest good frame, the line start that UZS_LINE has scheduled; on a follower, that it has
stopped, that it has missed both announcements of an apply, and the apply announced with the lines still to come and the
keys staged when the announcement came, and the lines in a row, this one included, whose frame was not good. -/
structure Uzon where
  lost      : Bool
  seqErr    : Bool
  crcErrs   : Nat
  status    : List (BitVec 6)
  seen      : List Bool
  perr      : List Bool
  speed     : Int
  mode      : BitVec 4
  gate      : BitVec 2
  lineAt    : Option Nat
  stopped   : Bool
  missed    : Bool
  applySeen : Option (Nat × List Nat)
  badRun    : Nat
  deriving DecidableEq, Repr

/-- A page in the ring (R652): the LINE_SEQ of its first line, where it starts, its lines, whether it is closed, released
by the host, and the lines reserved for it beyond those written (R190). -/
structure RingPage where
  firstSeq : BitVec 32
  firstRl  : Nat
  lines    : Nat
  isOpen   : Bool
  released : Bool
  reserved : Nat
  deriving DecidableEq, Repr

/-- The page that the products have open (R190): the LINE_SEQ of its first line, whether it is stored, its lines. -/
structure OpenPage where
  firstSeq : BitVec 32
  admitted : Bool
  lines    : Nat
  deriving DecidableEq, Repr

/-- The page ring (R190 to R192, R203, R204, R652), with the page that the products have open and, for the triggers, a page
start that waits for the end of warm-up (R257). -/
structure Ring where
  window  : Nat
  offset  : Nat
  size    : Nat
  qDesc   : Nat
  cap     : Nat
  rl      : Nat
  wp      : Nat
  pages   : List RingPage
  cur     : Option OpenPage
  warmStart : Option GateInfo
  full    : Bool
  drops   : Nat
  deriving DecidableEq, Repr

/-! ## Reset values -/

/-- The program of every bank after reset (R131): 4 quarter-slots in each section, NREP = 1, all entries zero. -/
def PatProgram.reset : PatProgram :=
  { direct := false, ls := List.replicate 4 0, rep := List.replicate 4 0, nrep := 1, bl := List.replicate 4 0 }

/-- BANK_0 at 4 mA (R125, R131). -/
def PatSel.reset : PatSel := { bank := 0, drive := 0 }

/-- A tap's AFE settings after reset: CLAMP_TGT is 0x0100 (R132); the manual gives the others none (log entry 5). -/
def TapAfe.reset : TapAfe := { pga := 0, offset := 0, clampEn := false, clampK := 0, clampTgt := 0x100 }

/-- A port's AFE settings after reset (log entry 5). -/
def AfePort.reset : AfePort := { range := 0, taps := List.replicate 16 TapAfe.reset }

/-- No input carries a tap after reset (R112 wipes the tables to zero). -/
def TapEntry.reset : TapEntry :=
  { en := false, line := 0, rev := false, step2 := false, first := 0, count := 0, col := 0 }

/-- Trigger source after reset: the wiped table, with DIV at one count per pitch (log entry 5). -/
def LtSrc.reset : LtSrc :=
  { src := 0, interp := false, dir0 := false, dir1 := false, followers := 0, filtEnc := 0, filtSheet := 0, chkTol := 0,
    div := 0x100000000, genPeriod := 0, flushPeriod := 0 }

/-- A slot after reset. -/
def Slot.reset : Slot := { en := false, row := 0, start := 0, width := 0, wt := List.replicate 4 0 }

/-- Strobe table after reset: one phase with no enabled slot (log entry 5). -/
def Strobe.reset : Strobe := { phases := 1, stbRef := 0, slots := List.replicate 4 Slot.reset }

/-- Page table after reset: the shortest page, no cue (log entry 5). -/
def LtPage.reset : LtPage :=
  { pageLen := 64, cue := 0, cueDist := 0, gateSrc := 0, gatePol := false, skewSrc := 7, sensorDist := 0, lead := 0,
    trail := 0, maxLen := 0 }

/-- Pacing table after reset: wiped (R112). -/
def LtPace.reset : LtPace := { hwm := 0, lwm := 0, takeup := 0 }

/-- IO assignment after reset: nothing assigned (R58, R112). -/
def IoAssign.reset : IoAssign := { enc1 := 0, fev15 := 0, fevMask := 0, rejMin := 0, rejDist := 0, rejWidth := 0 }

/-- A port at reset: ISOLATED and not present (R163), its outputs at high impedance (R57). -/
def PortUnit.reset : PortUnit :=
  { state := .isolated, pres := false, ever := false, powered := false, outLow := false, outHiZ := true, out := 0, offAt := none,
    releaseAt := none, run := none, causes := 0, qual := 0, qualLines := 0 }

/-- A trim set before the factory record is loaded. -/
def TrimSet.reset : TrimSet := { tag := 0, off := 0, gain := 0, elem := 0 }

/-- A channel at reset. -/
def Channel.reset : Channel :=
  { failed := false, covers := none, forFault := false, sets := List.replicate 4 TrimSet.reset, off := 0, gain := 0,
    elem := 0, offRes := 0, gainRes := 0, inl := 0, calTemp := 0, calAt := none, calFails := 0, hoFails := 0 }

/-- A die at reset (R164): unpowered, no channel in its rotation step. -/
def FeDie.reset : FeDie :=
  { powered := false, chans := [], rotCh := none, rotNext := 0, rotUntil := 0, cycles := 0, bgHalt := false,
    bgSlow := false, handover := none, pendingSub := [], progAt := 0, progEnd := 0, running := false, line := none,
    trigs := [], checkHits := [], backs := [], trimTemp := none, io33 := false }

/-- A clamp at reset. -/
def Clamp.reset : Clamp := { acc := 0, sum := 0, n := 0 }

/-- Ports, dies and clamps at reset. -/
def PortsUnit.reset : PortsUnit := { ports := [], dies := [], clamp := [], fgCal := none }

/-- An encoder at reset: its inputs are levels from outside, taken low until they change. -/
def Encoder.reset : Encoder := { a := false, b := false, sum := 0, past := 0 }

/-- The line-timing unit at reset (R201, R202). -/
def LineUnit.reset : LineUnit :=
  { run := false, pos := 0, next := 0, counts := [], vEst := 0, lastTrig := none, lastAny := none, pend := none,
    pendSkips := 0, pitchIx := 0, interpAt := none, genAt := none, seq := 0, seqValid := false, caps := 0, skipCnt := 0,
    encErr := false, faults := 0, enc0 := Encoder.reset, enc1 := Encoder.reset, sheets := List.replicate 4 false,
    starts := [], boundary := none, gate := none, skewLead := none, pace := .run, paceSlow := false, paceBack := 0 }

/-- A gap line's gating. -/
def GateInfo.gap : GateInfo := { closePrev := none, closeAfter := none, lead := none, short := false }

/-- The sync bus at reset (R204). -/
def Uzon.reset : Uzon :=
  { lost := false, seqErr := false, crcErrs := 0, status := List.replicate 3 0, seen := List.replicate 3 false,
    perr := List.replicate 3 false, speed := 0, mode := 0, gate := 2, lineAt := none, stopped := false,
    missed := false, applySeen := none, badRun := 0 }

/-- No ring is set at reset (R203, R204). -/
def Ring.reset : Ring :=
  { window := 0, offset := 0, size := 0, qDesc := 0, cap := 0, rl := 0, wp := 0, pages := [], cur := none,
    warmStart := none, full := false, drops := 0 }

end Sys2Proof.Machine
end

