-- ==== Sys2Proof/Machine/StatePixel.lean ====
section
/-! DEFINITION. Tables and state of pixel correction, alignment and stitching (chapters "Per-pixel correction and
temperature-set shading" and "Colour-line alignment and segment stitching"), with the layouts of R568 and R569. -/

namespace Sys2Proof.Machine

/-! ## Tables -/

/-- A shading set (R208): tags of the 48 zones in Q8.8, and the pixel words (DARK in bits 15:0, GAIN in bits 31:16).
Words not listed are 0; `bad` are the words found uncorrectable (R214). -/
structure ShdSet where
  tFe   : List Int
  tLamp : List (List Int)
  words : SMap (BitVec 32)
  bad   : List Nat
  deriving DecidableEq, Repr

/-- Shading configuration (R215 to R222, R568): ROW_c and W_c of each colour line, FILT_SH, OOT_MARGIN and the lamp map
(48 zones x 4 rows, 0x7F for none). -/
structure ShdCfg where
  rows   : List (BitVec 8)
  wts    : List Nat
  filtSh : Nat
  margin : Int
  lamps  : List (BitVec 8)
  deriving DecidableEq, Repr

/-- One entry of the alignment and stitch table (R246). -/
structure AlnEntry where
  align : List (BitVec 12)
  along : Int
  row   : Bool
  en    : Bool
  x     : BitVec 24
  bw    : BitVec 8
  sc    : BitVec 18
  deriving DecidableEq, Repr

/-- Colour transform (R263): m_ij row-major in signed Q4.12, and o_i. -/
structure Xform where
  m : List Int
  o : List Int
  deriving DecidableEq, Repr

/-- Product layout (R264, R569). -/
structure Product where
  pf       : BitVec 8
  chMask   : BitVec 8
  firstCol : Nat
  count    : Nat
  queue    : Nat
  deriving DecidableEq, Repr

/-! ## Pixels and lines -/

/-- The 20-bit pixel word (R205). -/
structure Pix where
  data   : BitVec 16
  sat    : Bool
  defpix : Bool
  interp : Bool
  stitch : Bool
  deriving DecidableEq, Repr

/-- The choice of shading sets for a zone and colour line (R220). -/
structure Choice where
  a : Nat
  b : Nat
  f : Nat
  deriving DecidableEq, Repr

/-- A first-order filter of a zone temperature, in Q8.16 (R216), and whether its lamp channel is stale (R217). -/
structure Filter where
  val   : Int
  stale : Bool
  deriving DecidableEq, Repr

/-- What a calibration has summed for one pixel (R234, R235): the four passes, and whether it arrived with DEFPIX. -/
structure CalPix where
  d1  : Nat
  d2  : Nat
  w1  : Nat
  w2  : Nat
  bad : Bool
  deriving DecidableEq, Repr

/-- Steps of SHD_CALIBRATE (R234). -/
inductive ShdCalStep where
  | moveIn | settle | dark | white | moveOut
  deriving DecidableEq, Repr

/-- A SHD_CALIBRATE in progress (R232 to R239). `left` counts the lines of the present step still to come, `tags` sums the
filtered temperatures over the white-pass lines; `result` holds what remains to be reported once the tile is out. -/
structure ShdCal where
  ctx     : Nat
  set     : Nat
  ports   : BitVec 64
  tile    : Bool
  settle  : Nat
  targets : List Nat
  defLo   : Nat
  defHi   : Nat
  darkMax : Nat
  step    : ShdCalStep
  until_  : Option Nat
  left    : Nat
  retried : Bool
  sums    : SMap CalPix
  tagSum  : SMap Int
  tagN    : Nat
  result  : Option (BitVec 8 × List Byte × List Byte)
  aborted : Bool
  deriving DecidableEq, Repr

/-- Quality figures of the calibration of the staged set (R240), keyed by 4 x zone + colour line. -/
structure Quality where
  rnu     : Nat
  prnu    : Nat
  defects : Nat
  unrecov : Nat
  deriving DecidableEq, Repr

/-- The shading unit (R207 to R222, R241, R242). `slots` are the contents of the slots of the shading store, `place` the slot
of each valid set, `spare` the spare slot, `staged` the set whose staged copy occupies it. Filters are keyed by 5 x zone,
+ 1 + r for row r; `accFilters` are the filters at acceptance of the pending apply (R221), `qSet` the set
staged last and `qPorts` the ports whose figures a calibration of it has left in `quality`. -/
structure ShdUnit where
  slots   : SMap ShdSet
  place   : SMap (Option Nat)
  spare   : Nat
  staged  : Option Nat
  cleared : List Nat
  filters : SMap Filter
  accFilters : SMap Filter
  choices : SMap Choice
  nextChoices : SMap Choice
  oot     : Bool
  corr    : Nat
  uncorr  : Nat
  cal     : Option ShdCal
  quality : SMap Quality
  qSet    : Nat
  qPorts  : BitVec 64
  deriving DecidableEq, Repr

/-- One aligned and reduced line of the first-seen row as recorded on chip (R252): capture number, whether any of its pixels carried
INTERP, and where its bytes lie in DRAM. -/
structure StagRec where
  capture  : Nat
  replaced : Bool
  place    : Nat
  bytes    : Nat
  deriving DecidableEq, Repr

/-- An ALN_CALIBRATE in progress (R267 to R269). -/
structure AlnCal where
  ctx      : Nat
  ports    : BitVec 64
  nbars    : Nat
  refPort  : Nat
  window   : Nat
  xRef     : Nat
  offset   : Nat
  deadline : Nat
  found    : Nat
  retried  : Bool
  deriving DecidableEq, Repr

/-- One seam's quality figures (R270). -/
structure SeamQ where
  portA : Nat
  portB : Nat
  resid : Nat
  dstep : Nat
  deriving DecidableEq, Repr

/-- Alignment and stitching (R243 to R272). The stagger buffer (R253) is `stagSize` bytes of DRAM at `stagBase`, in lines of
`stagLb` bytes; `stagOld` is the place, size and line size of the buffer before an apply changed the line size, while lines of it are
still to be written or read. -/
structure AlnUnit where
  warmup    : Bool
  clamped   : Bool
  stagMiss  : Bool
  stagOn    : Bool
  stagBase  : Nat
  stagSize  : Nat
  stagLb    : Nat
  stagOld   : Option (Nat × Nat × Nat)
  stagRecs  : List StagRec
  clampCnt  : Nat
  lateCnt   : Nat
  cal       : Option AlnCal
  seams     : List SeamQ
  deriving DecidableEq, Repr

/-! ## Reset values -/

/-- An empty set. -/
def ShdSet.reset : ShdSet := { tFe := List.replicate 48 0, tLamp := List.replicate 48 (List.replicate 4 0), words := [], bad := [] }

/-- Shading configuration after reset (R216, R218, R222); no lamp channel is assigned (log entry 5). -/
def ShdCfg.reset : ShdCfg :=
  { rows := [0, 0, 0, 1], wts := [8, 8, 8, 8], filtSh := 5, margin := 1280, lamps := List.replicate 192 0x7F }

/-- After reset every entry is 0 (R246). -/
def AlnEntry.reset : AlnEntry :=
  { align := List.replicate 4 0, along := 0, row := false, en := false, x := 0, bw := 0, sc := 0 }

/-- The identity (R263). -/
def Xform.reset : Xform :=
  { m := [4096, 0, 0, 0, 0, 4096, 0, 0, 0, 0, 4096, 0, 0, 0, 0, 4096], o := [0, 0, 0, 0] }

/-- Product layout after reset: no line product (log entry 5). -/
def Product.reset : Product := { pf := 0, chMask := 0, firstCol := 0, count := 0, queue := 0 }

/-- A pixel that is not a measurement (R52). -/
def Pix.none : Pix := { data := 0, sat := false, defpix := true, interp := false, stitch := false }

/-- The choice while no set is valid (R213). -/
def Choice.reset : Choice := { a := 0, b := 0, f := 0 }

/-- A filter at reset. -/
def Filter.reset : Filter := { val := 0, stale := false }

/-- No sums yet. -/
def CalPix.reset : CalPix := { d1 := 0, d2 := 0, w1 := 0, w2 := 0, bad := false }

/-- No figures yet. -/
def Quality.reset : Quality := { rnu := 0, prnu := 0, defects := 0, unrecov := 0 }

/-- The shading unit at reset (R213, R241, R242). The spare slot is slot 4 of the five (log entry 10). -/
def ShdUnit.reset : ShdUnit :=
  { slots := [], place := [], spare := 4, staged := none, cleared := [], filters := [], accFilters := [], choices := [],
    nextChoices := [], oot := false, corr := 0, uncorr := 0, cal := none, quality := [], qSet := 0, qPorts := 0 }

/-- Alignment and stitching at reset (R271, R272). -/
def AlnUnit.reset : AlnUnit :=
  { warmup := false, clamped := false, stagMiss := false, stagOn := false, stagBase := 0, stagSize := 0, stagLb := 0, stagOld := none,
    stagRecs := [], clampCnt := 0, lateCnt := 0, cal := none, seams := [] }

end Sys2Proof.Machine
end

