-- ==== Sys2Proof/Machine/StateServices.lean ====
section
/-! DEFINITION. Tables and state of the inspection services and of the Skillet path (chapters "Inspection services: Sieve,
Tongs, Ladle, Preview and Crop" and "The Skillet path: fixed-latency streak detection"), with the layouts of R570 and
R572. -/

namespace Sys2Proof.Machine

/-! ## Service tables (R276) -/

/-- A Sieve class (R293, R570). -/
structure SieveClass where
  thr     : List Nat
  minArea : Nat
  ignore  : Bool
  deriving DecidableEq, Repr

/-- A Sieve region (R293, R570): X1 and Y1 are exclusive. -/
structure SieveRegion where
  x0  : Nat
  y0  : Nat
  x1  : Nat
  y1  : Nat
  cls : Nat
  deriving DecidableEq, Repr

/-- Sieve table. -/
structure SieveTab where
  classes : List SieveClass
  regions : List SieveRegion
  flagMad : Nat
  deriving DecidableEq, Repr

/-- A Tongs window (R297). -/
structure TongsWin where
  x0       : Nat
  y0       : Nat
  ww       : Nat
  wh       : Nat
  ch       : Nat
  isGlobal : Bool
  contrast : Nat
  minPx    : Nat
  refX     : Int
  refY     : Int
  group    : Nat
  member   : Bool
  nomDx    : Int
  nomDy    : Int
  deriving DecidableEq, Repr

/-- A registration group (R299, R570). -/
structure TongsGroup where
  group   : Nat
  kind    : Nat
  backLag : Nat
  mirrorX : Int
  deriving DecidableEq, Repr

/-- Tongs table. -/
structure TongsTab where
  wins   : List TongsWin
  groups : List TongsGroup
  deriving DecidableEq, Repr

/-- A Ladle strip (R301). -/
structure LadleStrip where
  x0     : Nat
  search : Nat
  y0     : Nat
  y1     : Nat
  ch     : Nat
  integ  : Nat
  barThr : Nat
  gap    : Nat
  npatch : Nat
  pitch  : Nat
  pw     : Nat
  margin : Nat
  sqSh   : Nat
  marked : Bool
  deriving DecidableEq, Repr

/-- Preview settings (R305, R306): the quantisation tables are `none` while the Annex K tables apply. -/
structure PreviewTab where
  colour : Bool
  pvCh   : Nat
  qt     : Option (List Byte)
  deriving DecidableEq, Repr

/-- A crop (R307, R570). -/
structure CropReq where
  x      : Nat
  y      : Nat
  w      : Nat
  h      : Nat
  pf     : Nat
  chMask : Nat
  deriving DecidableEq, Repr

/-- The service tables that a page keeps from its opening (R276), with DIAG_SV_BYPASS (R626). -/
structure SvTabs where
  sieve   : SieveTab
  tongs   : TongsTab
  ladle   : List LadleStrip
  preview : PreviewTab
  crops   : List CropReq
  bypass  : BitVec 5
  deriving DecidableEq, Repr

/-! ## Jobs and pages -/

/-- Where a submitted reference stands (R284 to R286): waiting for its decoding, decoded into a slot, or found bad. -/
inductive RefState where
  | waiting | decoded | bad
  deriving DecidableEq, Repr

/-- A reference (R284, R285): the context that submitted it, its page, its stream, its crops, and once decoded PAGE_ID, the
size and the slot in DRAM that it was decoded into. -/
structure RefSub where
  ctx     : Nat
  page    : Nat
  window  : Nat
  offset  : Nat
  length  : Nat
  crops   : List CropReq
  state   : RefState
  pageId  : Nat
  width   : Nat
  height  : Nat
  slot    : Nat
  deriving DecidableEq, Repr

/-- An output pixel of a stitched line: channels C0 to C3 after the colour transform (R263), each with its flags. -/
structure OutPix where
  v      : List Nat
  sat    : List Bool
  defpix : List Bool
  stitch : Bool
  deriving DecidableEq, Repr

/-- A completed stitched line (R255): its tag, bits 3 to 5 of LFLAGS (R265), the first column of the lane and its
pixels. -/
structure OutLine where
  tag    : LineTag
  lflags : Nat
  col0   : Nat
  pix    : List OutPix
  deriving DecidableEq, Repr

/-- A Tongs measurement (R298): status, and the centre in 1/256 pixel. -/
structure Mark where
  status : Nat
  x      : Int
  y      : Int
  deriving DecidableEq, Repr

/-- A crop of a page (R307 to R309): its number in its list, whether it came with the reference, whether it has begun. -/
structure CropOut where
  req     : CropReq
  id      : Nat
  perPage : Bool
  begun   : Bool
  deriving DecidableEq, Repr

/-- Progress of one service on a page (R312): not run, in progress, complete, closed early. -/
inductive SvProg where
  | off | going | complete | closed
  deriving DecidableEq, Repr

/-- How a tile is registered (R290, R291): PREDICTED, COARSE_ONLY and the offset F in 1/16 pixel. -/
structure TileReg where
  predicted : Bool
  coarse    : Bool
  fx        : Int
  fy        : Int
  deriving DecidableEq, Repr

/-- A page of the active job (R275 to R317). `lines` are its stitched lines so far, oldest first; `prog` is the progress of Sieve,
Tongs, Ladle, Preview and Crop, `part` their PART flags; `issued` and `finished` are the units dispatched and those done,
`lost` the tiles skipped (R312, R472); `reduced` are the tile rows that Sieve takes with the response of stage 2 and
`fewer` the strips that Ladle leaves out (R314); `rowsOut` the tile rows whose blobs have been numbered, `found` and
`stored` the defects; `regs` are the registrations of the tiles dispatched, by 65,536 x row + column; `bars` the start bar of each
strip looked for (R302) and `patchOut` how many of its patches, from the first on, have given their records or been skipped (R304);
`coded` the coded bytes of the Preview's MCU rows. -/
structure SvPage where
  seq       : Nat
  firstSeq  : BitVec 32
  mode      : Mode
  tabs      : SvTabs
  isOpen    : Bool
  dropped   : Bool
  seqGap    : Bool
  gapPages  : Nat
  short     : Bool
  lines     : List OutLine
  ref       : Option RefSub
  refLate   : Bool
  refBad    : Bool
  close     : Nat
  stage     : Nat
  decimated : Bool
  lead      : Option Int
  trail     : Option Int
  skew      : Option Int
  lastPos   : Int
  prog      : List SvProg
  part      : List Bool
  issued    : List SvUnit
  finished  : List SvUnit
  lost      : List SvUnit
  reduced   : SMap Bool
  fewer     : List Nat
  rowsOut   : Nat
  found     : Nat
  stored    : Nat
  regs      : SMap TileReg
  patches   : Nat
  noBar     : Bool
  bars      : SMap (Option Nat)
  patchOut  : SMap Nat
  marks     : SMap Mark
  crops     : List CropOut
  refused   : Nat
  coded     : SMap (List Byte)
  judged    : Bool
  deriving DecidableEq, Repr

/-- The active job (R273 to R275, R315 to R318). `queues` are those of Sieve, Tongs, Ladle, Preview, Crop and the summaries;
`past` the marks of the latest pages (R299); `hash` is the SHA-256 of the job header, `chain` the chain value after the
latest pushed summary, `pushed` that page and `count` the summaries; `gapPages` the pages dropped since the latest page that
was not; `closing` says that the job takes no more pages, `endCtx` the context of SV_JOB_END. `wrapped` says that page numbers have
wrapped (R275); `aMax` is A_max and `aKey` what it was computed for (R308); `summing` is the summary that a full queue holds back
(R317). -/
structure Job where
  id       : BitVec 32
  en       : BitVec 5
  slots    : Nat
  refWin   : Nat
  width    : Nat
  height   : Nat
  queues   : List Nat
  x0       : Nat
  nextPage : Nat
  refs     : List RefSub
  pages    : List SvPage
  past     : List (Nat × SMap Mark)
  hash     : List Byte
  chain    : List Byte
  pushed   : Option Nat
  count    : Nat
  gapPages : Nat
  closing  : Bool
  endCtx   : Option Nat
  wrapped  : Bool
  aMax     : Nat
  aKey     : List Nat
  summing  : Option (List Byte)
  deriving DecidableEq, Repr

/-- The services (R319, R320): the active job, LAST_SUMMARY, and the REJECT_OUT pulses still to come (positions in 1/64 pitch)
with the end of the one being issued (R567). `cropBytes` are the crop bytes written since the last 64 KiB that Simmer has charged
(R310), `signed` the record signed at the latest job that ended by itself (R274). -/
structure SvUnitState where
  job       : Option Job
  lastSum   : BitVec 32
  rejects   : List Int
  rejUntil  : Option Nat
  cropBytes : Nat
  signed    : List Byte
  deriving DecidableEq, Repr

/-! ## Skillet -/

/-- Skillet configuration (R326, R342). -/
structure SklCfg where
  en       : Bool
  line     : Nat
  latLimit : Nat
  slkEn    : Bool
  lanes    : Nat
  deriving DecidableEq, Repr

/-- One entry of the group map (R323). `width` is after the zero rule. -/
structure SklGroup where
  en     : Bool
  port   : Nat
  first  : Nat
  width  : Nat
  cls    : Nat
  expect : Nat
  deriving DecidableEq, Repr

/-- One class (R325). -/
structure SklClass where
  k      : Nat
  m      : Nat
  clr    : Nat
  thr    : Nat
  pol    : Nat
  exp    : Bool
  freeze : Bool
  step   : Nat
  route  : BitVec 16
  deriving DecidableEq, Repr

/-- FASTEV settings of a pin (R338). -/
structure SklFev where
  mode   : Nat
  actLow : Bool
  minHi  : Nat
  deriving DecidableEq, Repr

/-- State of a nozzle group (R327, R328). -/
structure GroupSt where
  hist   : BitVec 256
  count  : Nat
  flag   : Bool
  med    : Nat
  warm   : Nat
  masked : Bool
  deriving DecidableEq, Repr

/-- A FASTEV pin (R338): asserted before polarity, and the end of its stretch. -/
structure FevPin where
  on      : Bool
  holdTo  : Option Nat
  deriving DecidableEq, Repr

/-- The Skillet path (R321 to R346). `map` and `cls` are the group map and the classes in force at its stage, `cur` the line in
progress there with the groups it has evaluated, `snap` the groups' state at the latest line boundary of the stage (R332);
`frames` are the streak frames that wait, one list of characters per lane, and `frameEnd` when the frame in progress ends
(R344). `fev`, `fevMask` and `fev15` are the settings and the assignment of the pins in force at the stage, `out` says that its line has
Skillet outputs (R340), `closed` that the frame of `cur` has been formed. `rejHold` says that a REJECT_OUT pulse keeps the ball of
FASTEV_15 that the path is to take over, `fevWait` that the ball waits for the next evaluated line of a group on route 15 (R631). The
lanes have running disparity `rd`, positive where true, at `rdAt` (R341), and are enabled while `slkLive` (R57, R342). -/
structure SklUnit where
  map       : SMap SklGroup
  cls       : SMap SklClass
  fev       : SMap SklFev
  fevMask   : BitVec 16
  fev15     : BitVec 8
  out       : Bool
  closed    : Bool
  rejHold   : Bool
  fevWait   : Bool
  rd        : List Bool
  rdAt      : Nat
  slkLive   : Bool
  groups    : SMap GroupSt
  snap      : SMap GroupSt
  cur       : Option (BitVec 32)
  evaluated : List Nat
  lastLat   : Nat
  maxLat    : Nat
  waits     : Nat
  pins      : SMap FevPin
  frameEnd  : Nat
  frames    : List (List (List Byte))
  deriving DecidableEq, Repr

/-! ## Reset values -/

/-- Sieve table after reset: FLAG_MAD is 24 (R314), no class entry, no region. -/
def SieveTab.reset : SieveTab := { classes := [], regions := [], flagMad := 24 }

/-- Service tables after reset: empty, with the Annex K quantisation tables (R305). -/
def SvTabs.reset : SvTabs :=
  { sieve := SieveTab.reset, tongs := { wins := [], groups := [] }, ladle := [],
    preview := { colour := false, pvCh := 0, qt := none }, crops := [], bypass := 0 }

/-- A window not yet measured. -/
def Mark.reset : Mark := { status := 1, x := 0, y := 0 }

/-- No job (R319, R320). -/
def SvUnitState.reset : SvUnitState := { job := none, lastSum := 0xFFFFFFFF, rejects := [], rejUntil := none, cropBytes := 0, signed := [] }

/-- Skillet configuration after reset: wiped, one lane (R346). -/
def SklCfg.reset : SklCfg := { en := false, line := 0, latLimit := 0, slkEn := false, lanes := 1 }

/-- Every group has EN = 0 after reset (R325). -/
def SklGroup.reset : SklGroup := { en := false, port := 0, first := 0, width := 64, cls := 0, expect := 0 }

/-- A class after reset (R325). -/
def SklClass.reset : SklClass :=
  { k := 8, m := 8, clr := 0, thr := 0xFFFF, pol := 0, exp := false, freeze := false, step := 0, route := 0 }

/-- FASTEV settings after reset: level mode, active high (R112, R340). -/
def SklFev.reset : SklFev := { mode := 0, actLow := false, minHi := 0 }

/-- A group at capture entry (R328). -/
def GroupSt.reset : GroupSt := { hist := 0, count := 0, flag := false, med := 0, warm := 0, masked := false }

/-- A pin at reset. -/
def FevPin.reset : FevPin := { on := false, holdTo := none }

/-- The Skillet path at reset (R346). -/
def SklUnit.reset : SklUnit :=
  { map := [], cls := [], fev := [], fevMask := 0, fev15 := 0, out := false, closed := false, rejHold := false, fevWait := false,
    rd := List.replicate 4 false, rdAt := 0, slkLive := false, groups := [], snap := [], cur := none, evaluated := [], lastLat := 0, maxLat := 0, waits := 0,
    pins := [], frameEnd := 0, frames := [] }

end Sys2Proof.Machine
end

