-- ==== Sys2Proof/Machine/StateTables.lean ====
section
/-! DEFINITION. The line-boundary tables (R19), of which the machine holds an active and a shadow copy, and the record of a
line from its trigger until its products are out (R20). -/

namespace Sys2Proof.Machine

/-- Every table of R19 that is changed by staging and an apply. Keys: a port, 16 x port + input for the tap map, a die for the
tap clock (kHz), a group, a class, a FASTEV pin, a row, a chain, an axis, 256 x axis + segment for ramps. `lin` is the
linearisation of a colour line, empty while the reset curve stands (R229); `dim` is the DIM level of 16 slots. -/
structure Tables where
  patSel   : SMap PatSel
  afe      : SMap AfePort
  tapMap   : SMap TapEntry
  tapClk   : SMap Nat
  ltSrc    : LtSrc
  strobe   : Strobe
  ltPage   : LtPage
  ltPace   : LtPace
  io       : IoAssign
  shdCfg   : ShdCfg
  lin      : SMap (List Nat)
  stagger  : Nat
  aln      : SMap AlnEntry
  xform    : Xform
  product  : Product
  sv       : SvTabs
  sklCfg   : SklCfg
  sklMap   : SMap SklGroup
  sklClass : SMap SklClass
  sklFev   : SMap SklFev
  ilmRow   : SMap IlmRow
  dim      : List Nat
  tcomp    : SMap IlmTcomp
  lsw      : SMap (List Bool)
  motCfg   : SMap MotCfg
  ramps    : SMap RampSeg
  tiles    : TileTab
  diagPort : Nat
  diagQ    : Nat
  deriving DecidableEq, Repr

/-- A slot of a tap line as it enters the pipeline (R135, R137). -/
structure TapWord where
  code : BitVec 14
  sat  : Bool
  bad  : Bool
  deriving DecidableEq, Repr

/-- A line between its trigger and its products: its tag, the trigger time and lateness, the mode and profile it belongs to, the
tables, shading sets and shading choices it is processed with (R20, R220), the exposure terms delta_c (R183), the ports masked
(R52), the taps no channel carries (R145), the die pairs whose seam is marked STITCH (R101), its number since capture entry, its
page gating, whether it has started (R78) and been completed (R255), when its program started on each die (R129), and its words
keyed by 1024 x (16 x port + input) + slot. `places` are the slots of the shading store that hold its sets, `lamps` the factor and
the cap of each lamp row in it (R353, R357). -/
structure LineRec where
  tag     : LineTag
  trigAt  : Nat
  mode    : Mode
  profile : Profile
  tabs    : Tables
  sets    : SMap ShdSet
  places  : SMap (Option Nat)
  choices : SMap Choice
  delta   : List Int
  lamps   : List (Nat × Nat)
  masked  : List Nat
  dead    : List Nat
  seams   : List Nat
  cap     : Nat
  gate    : GateInfo
  started : Bool
  done    : Bool
  dieAt   : SMap (Option Nat)
  words   : SMap TapWord
  deriving DecidableEq, Repr

/-- What staging commands have left for an apply beside tables: the staged changes of port state (R157), lamps and rows to
be cleared (R574), shading sets to be brought in (R210) or removed (R211), and the table keys staged since the last apply
(65536 x opcode + index), which R21 counts. -/
structure Staged where
  keys      : List Nat
  ports     : SMap (Option PortCmd)
  lamps     : List Nat
  rows      : List Nat
  deriving DecidableEq, Repr

/-- The tables after reset. Tap clocks, and every value given none by the manual, are those of log entry 5. -/
def Tables.reset : Tables :=
  { patSel := [], afe := [], tapMap := [], tapClk := [], ltSrc := LtSrc.reset, strobe := Strobe.reset,
    ltPage := LtPage.reset, ltPace := LtPace.reset, io := IoAssign.reset, shdCfg := ShdCfg.reset, lin := [],
    stagger := 0, aln := [], xform := Xform.reset, product := Product.reset, sv := SvTabs.reset, sklCfg := SklCfg.reset,
    sklMap := [], sklClass := [], sklFev := [], ilmRow := [], dim := List.replicate 16 0, tcomp := [], lsw := [],
    motCfg := [], ramps := [], tiles := TileTab.reset, diagPort := 0xFF, diagQ := 0 }

/-- Nothing staged. -/
def Staged.reset : Staged := { keys := [], ports := [], lamps := [], rows := [] }

end Sys2Proof.Machine
end

