-- ==== Sys2Proof/Machine/State.lean ====
section
/-! DEFINITION. The state of the block, what can stop it, and the state right after reset. -/

namespace Sys2Proof.Machine

/-- Faults. The manual stops the block nowhere: an access to an address that does not exist reads 0 (R647, R553), and a
command that cannot be executed ends with a result code (R547). So no meaning raises one: the type has no constructor,
which is safe. -/
inductive Fault where
  deriving DecidableEq, Repr

/-- Refusals. -/
inductive Refusal where
  /-- A command that the model has no meaning for yet, by its mnemonic: raised by arms of `exec` only. Safe: the run stops
  where the block would go on. -/
  | notModelled (mnemonic : String)
  deriving DecidableEq, Repr

/-- The block. `now` is the time in ns since VDD_AON rose; `fresh` counts the free values taken (the model's own field);
`pending` is the queue of waiting commands, first in first out. Pattern banks are keyed by 4 x port + bank (R131). -/
structure State where
  now     : Nat
  board   : Board
  mode    : ModeUnit
  rst     : ResetUnit
  clk     : ClkUnit
  ports   : PortsUnit
  lt      : LineUnit
  uzs     : Uzon
  ring    : Ring
  banks   : SMap PatProgram
  active  : Tables
  shadow  : Tables
  staged  : Staged
  lines   : List LineRec
  shd     : ShdUnit
  aln     : AlnUnit
  sv      : SvUnitState
  skl     : SklUnit
  ilm     : IlmUnit
  axes    : SMap Axis
  madc    : Madc
  therm   : Therm
  simmer  : Simmer
  dram    : Dram
  pantry  : Pantry
  dma     : Dma
  host    : HostUnit
  ev      : EvUnit
  sec     : Sec
  cpu     : Cpu
  diag    : Diag
  fresh   : Nat
  pending : List Instr
  deriving DecidableEq, Repr

/-- The board the model starts on: an ML9648 with 16 GiB of DRAM at 9,600 MT/s, serial number 0, and 1,200 dpi by 1,200 lpi
(DESIGN CHOICE: log entry 12; the manual lets each part and board differ). -/
def Board.initial : Board := { member := .ml9648, vddio33 := 0xF, serial := List.replicate 8 0, dramGiB := 16, dataRate := 9600,
                               dpi := 1200, lpi := 1200 }

/-- Right after VDD_AON has risen: the power-on reset is in force (R108). -/
def State.reset : State :=
  { now := 0, board := Board.initial, mode := ModeUnit.reset, rst := ResetUnit.reset, clk := ClkUnit.reset,
    ports := PortsUnit.reset, lt := LineUnit.reset, uzs := Uzon.reset, ring := Ring.reset, banks := [],
    active := Tables.reset, shadow := Tables.reset, staged := Staged.reset, lines := [], shd := ShdUnit.reset,
    aln := AlnUnit.reset, sv := SvUnitState.reset, skl := SklUnit.reset, ilm := IlmUnit.reset, axes := [],
    madc := Madc.reset, therm := Therm.reset, simmer := Simmer.reset, dram := Dram.reset, pantry := Pantry.reset,
    dma := Dma.reset, host := HostUnit.reset, ev := EvUnit.reset, sec := Sec.reset, cpu := Cpu.reset, diag := Diag.reset,
    fresh := 0, pending := [] }

end Sys2Proof.Machine
end

