-- ==== Sys2Proof/Machine/Ops.lean ====
section
/-! DEFINITION. The operations every meaning is written over: sparse tables, bytes, free values, time and outputs, the event
unit, DRAM and windows, and the mailbox (chapters "Event catalogue and register map", "DRAM controller", "Host link,
hot-plug and command mailbox"). -/

namespace Sys2Proof.Machine

/-! ## Sparse tables -/

/-- The entry at `k`, or the default. -/
def sget {α : Type} (d : α) (k : Nat) : SMap α → α
  | [] => d
  | (j, v) :: m => if j = k then v else sget d k m

/-- Insert or replace the entry at `k`. -/
def sput {α : Type} (k : Nat) (v : α) : SMap α → SMap α
  | [] => [(k, v)]
  | (j, w) :: m => if k < j then (k, v) :: (j, w) :: m else if j = k then (k, v) :: m else (j, w) :: sput k v m

/-- Drop the entry at `k`. -/
def sdrop {α : Type} (k : Nat) : SMap α → SMap α
  | [] => []
  | (j, w) :: m => if j = k then sdrop k m else (j, w) :: sdrop k m

/-- Write `v` at `k`; writing the default removes the entry. -/
def sset {α : Type} [DecidableEq α] (d : α) (k : Nat) (v : α) (m : SMap α) : SMap α :=
  if v = d then sdrop k m else sput k v m

/-- Change the entry at `k`. -/
def supd {α : Type} [DecidableEq α] (d : α) (k : Nat) (f : α → α) (m : SMap α) : SMap α :=
  sset d k (f (sget d k m)) m

/-- Canonical form: indices strictly rising, no entry equal to the default. -/
def swf {α : Type} [DecidableEq α] (d : α) : SMap α → Bool
  | [] => true
  | [(_, v)] => v != d
  | (j, v) :: (k, w) :: m => v != d && decide (j < k) && swf d ((k, w) :: m)

/-! ## Bytes and numbers -/

/-- `n` bytes of a number, least significant first (R5). -/
def le : Nat → Nat → List Byte
  | 0, _ => []
  | n + 1, v => BitVec.ofNat 8 v :: le n (v / 256)

/-- A number from bytes, least significant first (R5). -/
def leVal : List Byte → Nat
  | [] => 0
  | b :: bs => b.toNat + 256 * leVal bs

/-- `n` bytes of a signed number in two's complement. -/
def leS (n : Nat) (v : Int) : List Byte := le n (v % (2 ^ (8 * n) : Nat)).toNat

/-- A `w`-bit pattern read as two's complement. -/
def signed (w v : Nat) : Int := if v % 2 ^ w < 2 ^ (w - 1) then (v % 2 ^ w : Nat) else (v % 2 ^ w : Nat) - (2 ^ w : Nat)

/-- The low `w` bits of an integer as a number. -/
def unsign (w : Nat) (v : Int) : Nat := (v % (2 ^ w : Nat)).toNat

/-- The unsigned field of `n` bytes at `off`; bytes beyond the end read 0. -/
def rd (bs : List Byte) (off n : Nat) : Nat := leVal ((bs.drop off).take n)

/-- The signed field of `n` bytes at `off`. -/
def rdS (bs : List Byte) (off n : Nat) : Int := signed (8 * n) (rd bs off n)

/-- Bits `lo` to `lo + n - 1` of a number. -/
def bits (v lo n : Nat) : Nat := v / 2 ^ lo % 2 ^ n

/-- Bit `i` of a number. -/
def bit (v i : Nat) : Bool := v / 2 ^ i % 2 = 1

/-- 0 or 1. -/
def b2n (b : Bool) : Nat := if b then 1 else 0

/-- Cut a list into pieces of `n` (the number of pieces is given). -/
def chunks {α : Type} (n : Nat) : Nat → List α → List (List α)
  | 0, _ => []
  | k + 1, l => l.take n :: chunks n k (l.drop n)

/-- A list extended or cut to `n` entries. -/
def padTo {α : Type} (n : Nat) (d : α) (l : List α) : List α := l.take n ++ List.replicate (n - l.length) d

/-- Quotient rounded to nearest, ties away from zero; 0 for a zero divisor. -/
def divRound (a b : Int) : Int :=
  if b = 0 then 0
  else if 0 ≤ a * b then (2 * a.natAbs + b.natAbs : Nat) / (2 * b.natAbs : Nat)
  else -((2 * a.natAbs + b.natAbs : Nat) / (2 * b.natAbs : Nat) : Int)

/-- Quotient rounded up; 0 for a zero divisor. -/
def divUp (a b : Nat) : Nat := if b = 0 then 0 else (a + b - 1) / b

/-- A value held within limits. -/
def clampI (lo hi v : Int) : Int := max lo (min hi v)

/-- Saturating count. -/
def satAdd (max_ a b : Nat) : Nat := min max_ (a + b)

/-! ## Free values, time, outputs -/

/-- The next free value, as a number below `2 ^ w`. -/
def State.free (w : Nat) (s : State) : Nat × State :=
  ((Config.freeValue w s.fresh).toNat, { s with fresh := s.fresh + 1 })

/-- Some free values of `w` bits. -/
def State.frees (w : Nat) : Nat → State → List Nat × State
  | 0, s => ([], s)
  | n + 1, s =>
    let a := s.free w
    let r := a.2.frees w n
    (a.1 :: r.1, r.2)

/-- Start of a command at time `t`: time never runs backwards, and the outputs of the command before are gone. -/
def State.atTime (t : Nat) (s : State) : State :=
  { s with now := max s.now t, host := { s.host with out := [] } }

/-- Something leaves the block. -/
def State.emit (o : Output) (s : State) : State := { s with host := { s.host with out := s.host.out ++ [o] } }

/-! ## Modes -/

/-- Mode codes (R31). -/
def Mode.code : Mode → Nat
  | .boot => 0 | .standby => 1 | .idle => 2 | .calibrate => 3 | .webDense => 4 | .webFast => 5 | .sheetInspect => 6
  | .sheetScan => 7 | .patchMeasure => 8 | .diagnose => 9 | .thermalHold => 10 | .scrub => 11

/-- The mode a code names. -/
def Mode.ofCode (n : Nat) : Option Mode :=
  match n with
  | 0 => some .boot | 1 => some .standby | 2 => some .idle | 3 => some .calibrate | 4 => some .webDense
  | 5 => some .webFast | 6 => some .sheetInspect | 7 => some .sheetScan | 8 => some .patchMeasure
  | 9 => some .diagnose | 10 => some .thermalHold | 11 => some .scrub | _ => none

/-- The run modes (R31). -/
def Mode.isRun : Mode → Bool
  | .webDense | .webFast | .sheetInspect | .sheetScan | .patchMeasure => true
  | _ => false

/-- The capture modes (R31). -/
def Mode.isCapture (m : Mode) : Bool := m.isRun || m == .calibrate

/-- The web modes and PATCH_MEASURE, whose pages follow R185. -/
def Mode.isWeb : Mode → Bool
  | .webDense | .webFast | .patchMeasure => true
  | _ => false

/-! ## Host ports and MSI-X -/

/-- A host port. -/
def State.port (p : Nat) (s : State) : HostPort := if p = 0 then s.host.port0 else s.host.port1

/-- Change a host port. -/
def State.setPort (p : Nat) (f : HostPort → HostPort) (s : State) : State :=
  if p = 0 then { s with host := { s.host with port0 := f s.host.port0 } }
  else { s with host := { s.host with port1 := f s.host.port1 } }

/-- One MSI-X message on vector `v` of port `p`: held by the vector's mask as a pending bit, sent while the port is UP and its
function in D0, otherwise lost (R534, R538, R640). -/
def State.msix (p v : Nat) (s : State) : State :=
  let hp := s.port p
  let e := sget MsixEntry.reset v hp.msix
  if e.ctrl.getLsbD 0 then s.setPort p (fun h => { h with msix := sset MsixEntry.reset v { e with pending := true } h.msix })
  else if hp.link == .up && !hp.d3 then s.emit (.msix p v)
  else s

/-! ## Event unit -/

/-- The route of a source. -/
def State.route (src : Nat) (s : State) : Route := sget Route.reset src s.ev.route

/-- The condition C(P, v) of R640. -/
def State.vecCond (p v : Nat) (s : State) : Bool :=
  (List.range 256).any (fun i =>
    s.ev.latch.getLsbD i && s.ev.enable.getLsbD i && !(s.route i).toCpu && decide ((s.route i).vec.toNat = v) &&
      decide (b2n (s.route i).port = p))

/-- Start of the STANDBY wake that an event asks for (R641, R38). -/
def State.wake (s : State) : State :=
  if s.mode.mode == .standby && !s.mode.transit then
    { s with mode := { s.mode with
        target := .idle, transit := true,
        trans := some { ctx := none, accepted := s.now, discarded := 0, bytes := 0 } } }
  else s

/-- LATCH of a source is set (R638), with the message of R640 or the wake of R641. -/
def State.latchSet (src : Nat) (s : State) : State :=
  let r := s.route src
  let s1 := { s with ev := { s.ev with latch := s.ev.latch ||| BitVec.twoPow 256 src } }
  if !s.ev.enable.getLsbD src || s.ev.latch.getLsbD src then s1
  else if r.toCpu then (if r.wake then s1.wake else s1)
  else if s.vecCond (b2n r.port) r.vec.toNat then s1
  else s1.msix (b2n r.port) r.vec.toNat

/-- An occurrence of a pulse source (R637, R644). Sources are recorded from BOOT exit (R639). -/
def State.pulse (src : Nat) (s : State) : State := if s.mode.mode == .boot then s else s.latchSet src

/-- A pulse where a condition holds. -/
def State.pulseIf (c : Bool) (src : Nat) (s : State) : State := if c then s.pulse src else s

/-- The present level of a level source (R637, R638). -/
def State.level (src : Nat) (on : Bool) (s : State) : State :=
  let was := s.ev.raw.getLsbD src
  let mask := BitVec.twoPow 256 src
  let s1 := { s with ev := { s.ev with raw := if on then s.ev.raw ||| mask else s.ev.raw &&& ~~~mask } }
  if on && (!was || !s.ev.edge.getLsbD src) then s1.latchSet src else s1

/-! ## DRAM and windows -/

/-- Data capacity in bytes (R453). -/
def State.dramSize (s : State) : Nat :=
  if s.dram.resilient then s.board.dramGiB * 2 ^ 30 / 64 * 49 else s.board.dramGiB * 2 ^ 30 / 8 * 7

/-- First data address outside the protected partition (R479). -/
def State.protSize (s : State) : Nat := s.dramSize * s.dram.prot / 8

/-- Data channels (R453). -/
def State.dataChans (s : State) : Nat := if s.dram.resilient then 7 else 8

/-- Class of a requestor port (R456): 0 RT, 1 HI, 2 BE. -/
def portClass (p : Nat) : Nat := if p < 4 then 0 else if p < 8 then 1 else 2

/-- Memory as bytes: an unlisted byte reads 0 (R115, R654). -/
def memRead (a : Nat) : Nat → List Host.Cell → List Byte
  | 0, _ => []
  | n + 1, m => sget 0 a m :: memRead (a + 1) n m

/-- Memory after bytes have been written from `a` on. -/
def memWrite (a : Nat) : List Byte → List Host.Cell → List Host.Cell
  | [], m => m
  | b :: bs, m => memWrite (a + 1) bs (sset 0 a b m)

/-- Memory with `n` bytes from `a` on zeroed. -/
def memZero (a n : Nat) (m : List Host.Cell) : List Host.Cell := m.filter (fun c => !(decide (a ≤ c.1) && decide (c.1 < a + n)))

/-- Canonical form of the memory. -/
abbrev Memory.wf (m : List Host.Cell) : Bool := swf (0 : BitVec 8) m

/-- The 64-byte blocks that `n` bytes from `a` touch. -/
def blocksOf (a n : Nat) : List Nat :=
  if n = 0 then [] else (List.range ((a + n - 1) / 64 - a / 64 + 1)).map (fun i => a / 64 + i)

/-- Some block of the range is tagged POISON (R471). -/
def State.poisoned (a n : Nat) (s : State) : Bool := (blocksOf a n).any (fun b => s.dram.poison.contains b)

/-- The place within a channel, in 64-byte blocks, of the channel's `k`-th data block: an ECC block follows every seven (R454). -/
def physOf (k : Nat) : Nat := k / 7 * 8 + k % 7

/-- The walk of a rebuild, or of a copy back, has passed stripe `k` (R476, R478). -/
def Rebuild.past (k : Nat) (r : Rebuild) : Bool := decide (physOf k < r.pos)

/-- At stripe `k` channel 7 stands in for data channel `c` (R476, R478). -/
def Dram.standsIn (c k : Nat) (d : Dram) : Bool :=
  d.spared == some c &&
    (match d.rebuild with | some r => if r.restore then !r.past k else r.past k | none => d.spare == 2)

/-- Channel 7 holds the parity of stripe `k` (R454, R476). -/
def Dram.parityAt (k : Nat) (d : Dram) : Bool :=
  d.resilient && (match d.rebuild with | some r => if r.restore then r.past k else !r.past k | none => d.spare == 0)

/-- The block of failed channel `c` at stripe `k` is still to be rebuilt (R476). -/
def Dram.lostAt (c k : Nat) (d : Dram) : Bool :=
  match d.rebuild with
  | some r => r.ch == c && !r.retire && !r.restore && !r.past k
  | none => false

/-- The channel that serves a data block (R454, R476). -/
def State.chanOf (b : Nat) (s : State) : Nat :=
  let c := b % s.dataChans
  if s.dram.resilient && s.dram.standsIn c (b / 7) then 7 else c

/-- Bytes of block `b` among `n` bytes from `a`. -/
def partOf (a n b : Nat) : Nat := min (a + n) (64 * b + 64) - max a (64 * b)

/-- An access of a port to a block of a channel, issued now. -/
def State.access (port ch addr bytes : Nat) (write parity : Bool) (s : State) : Nat × DramReq :=
  (ch, { port := port, cls := portClass port, since := s.now, at_ := s.now, addr := addr, bytes := bytes, write := write, parity := parity })

/-- The accesses of a read of block `b`: one, or those to the rest of its stripe where the block is rebuilt on demand (R476). -/
def State.readAccess (port bytes b : Nat) (s : State) : List (Nat × DramReq) :=
  let k := b / 7
  if s.dram.resilient && s.dram.lostAt (b % 7) k then
    s.access port 7 (64 * physOf k) bytes false true ::
      ((List.range 7).filter (fun i => i != b % 7)).map (fun i => s.access port i (64 * (7 * k + i)) 0 false false)
  else [s.access port (s.chanOf b) (64 * b) bytes false false]

/-- The accesses of a write of `n` bytes from `a` to some blocks of one stripe `k`: a block written in part is read and merged (R460); a
stripe written in part has its old data and old parity read first; a block of a failed channel not yet rebuilt goes into the parity
alone (R476). -/
def State.writeAccess (port a n k : Nat) (bs : List Nat) (s : State) : List (Nat × DramReq) :=
  let par := s.dram.parityAt k
  let whole := decide (bs.length = 7) && bs.all (fun b => partOf a n b == 64)
  let lost := fun b => s.dram.resilient && s.dram.lostAt (b % 7) k
  let old := bs.flatMap (fun b => if partOf a n b < 64 || (par && !whole) then s.readAccess port 0 b else [])
  let fresh := (bs.filter (fun b => !lost b)).map (fun b => s.access port (s.chanOf b) (64 * b) (partOf a n b) true false)
  let kept := ((bs.filter lost).map (partOf a n)).sum
  old ++ (if par && !whole then [s.access port 7 (64 * physOf k) 0 false true] else []) ++ fresh ++
    (if par then [s.access port 7 (64 * physOf k) kept true true] else [])

/-- The accesses of a read or write of `n` bytes from `a`, queued at their channels (R456, R458). -/
def State.dramReq (port : Nat) (write : Bool) (a n : Nat) (s : State) : State :=
  let bs := blocksOf a n
  let l := if !write then bs.flatMap (fun b => s.readAccess port (partOf a n b) b)
    else if s.dram.resilient then
      ((bs.map (· / 7)).eraseDups).flatMap (fun k => s.writeAccess port a n k (bs.filter (fun b => b / 7 == k)))
    else bs.flatMap (fun b => s.writeAccess port a n b [b])
  let chans := l.foldl (fun cs x => supd DramChan.reset x.1 (fun c => { c with reqs := c.reqs ++ [x.2] }) cs) s.dram.chans
  { s with dram := { s.dram with chans := chans } }

/-- A read of DRAM by a requestor port. -/
def State.dramRead (port a n : Nat) (s : State) : List Byte × State :=
  (memRead a n s.dram.mem, s.dramReq port false a n)

/-- A write to DRAM by a requestor port. A full write of a block ends its POISON (R471); a narrower one merges (R460). -/
def State.dramWrite (port a : Nat) (bs : List Byte) (s : State) : State :=
  let full := fun b => decide (a ≤ 64 * b) && decide (64 * b + 64 ≤ a + bs.length)
  let s1 := { s with dram := { s.dram with mem := memWrite a bs s.dram.mem,
                                           poison := s.dram.poison.filter (fun b => !full b) } }
  s1.dramReq port true a bs.length

/-- A window, if it exists (R654). -/
def State.win (w : Nat) (s : State) : Option Window :=
  (s.dram.windows.find? (fun p => p.1 == w)).map (·.2)

/-- A range lies within an existing window. -/
def State.winHas (w off n : Nat) (s : State) : Bool :=
  match s.win w with
  | some x => decide (off + n ≤ x.size)
  | none => false

/-- The data address of an offset in a window. -/
def State.winAddr (w off : Nat) (s : State) : Nat :=
  match s.win w with
  | some x => x.base + off
  | none => 0

/-! ## Bit arrays as numbers -/

/-- The indices below `n` whose bit of `v` is 1, rising. -/
def setBits (n v : Nat) : List Nat := (List.range n).filter (fun i => bit v i)

/-- A number whose bit `i` is `f i`, for `i` below `n`. -/
def mkBits (n : Nat) (f : Nat → Bool) : Nat := ((List.range n).map (fun i => b2n (f i) * 2 ^ i)).sum

/-! ## Command contexts -/

/-- A command context. -/
def State.ctx (n : Nat) (s : State) : Ctx := sget Ctx.reset n s.host.ctxs

/-- Change a command context. -/
def State.setCtx (n : Nat) (f : Ctx → Ctx) (s : State) : State :=
  { s with host := { s.host with ctxs := supd Ctx.reset n f s.host.ctxs } }

/-- A Stockpot pair serves the mailbox (R17, R625). -/
def State.served (s : State) : Bool := s.cpu.pair0 == .serving || s.cpu.pair1 == .serving

/-- The context takes no command (R537, R538, R545). -/
def State.paused (n : Nat) (s : State) : Bool :=
  (s.ctx n).paused || (s.ctx n).shut || !((s.port (s.ctx n).owner).link == .up)

/-- The context can take a command now (R33, R542, R546); a command that it has taken before goes on whatever becomes of the
port (R537). -/
def State.canTake (n : Nat) (s : State) : Bool :=
  !(s.mode.mode == .boot) && s.served && (!s.paused n || (s.ctx n).resume) && (s.ctx n).cur.isNone && (s.ctx n).ending.isNone &&
    (s.ctx n).deferred.isNone

/-- Result codes (R547). -/
def cOk : Nat := 0x00
@[inherit_doc cOk] def cBusy : Nat := 0x01
@[inherit_doc cOk] def cOpcode : Nat := 0x02
@[inherit_doc cOk] def cLength : Nat := 0x03
@[inherit_doc cOk] def cRange : Nat := 0x04
@[inherit_doc cOk] def cMode : Nat := 0x05
@[inherit_doc cOk] def cConflict : Nat := 0x06
@[inherit_doc cOk] def cAuth : Nat := 0x07
@[inherit_doc cOk] def cLifecycle : Nat := 0x08
@[inherit_doc cOk] def cResource : Nat := 0x09
@[inherit_doc cOk] def cHw : Nat := 0x0A
@[inherit_doc cOk] def cAborted : Nat := 0x0B
@[inherit_doc cOk] def cTimeout : Nat := 0x0C
@[inherit_doc cOk] def cCal : Nat := 0x0D
@[inherit_doc cOk] def cQueueFull : Nat := 0x0E
@[inherit_doc cOk] def cState : Nat := 0x0F

/-- Command classes (R557). `idle` and `idleDiag` are the rows of class X. -/
inductive Cls where
  | c | s | k | j | m | b | w | l | t | d | idle | idleDiag
  deriving DecidableEq, Repr

/-- The modes that accept a class (R557). -/
def Cls.ok (m : Mode) : Cls → Bool
  | .c => m != .boot
  | .s => m == .idle || m.isCapture || m == .diagnose
  | .k => m == .calibrate
  | .j => m.isRun
  | .m => m == .idle || m.isCapture
  | .b => m == .idle || m.isRun
  | .w => m == .idle
  | .l => m == .standby || m == .idle
  | .t => m == .thermalHold
  | .d => m == .diagnose
  | .idle => m == .idle
  | .idleDiag => m == .idle || m == .diagnose

/-- What the body of a command does: ends at once with inline data and payload result, ends with a failure code and inline
data, goes on, or waits inside the device (R542). -/
inductive Res where
  | ok (data : List Byte) (pay : List Byte) (s : State)
  | fail (code : Nat) (data : List Byte) (s : State)
  | go (s : State)
  | wait (s : State)

/-- How many bytes the payload buffer of a context holds (R544). -/
def State.bufSize (n : Nat) (s : State) : Nat :=
  match (s.ctx n).buf with
  | some b => b.size
  | none => 0

/-- Where the payload buffer of a context lies. -/
def State.bufAddr (n : Nat) (s : State) : Nat :=
  match (s.ctx n).buf with
  | some b => s.winAddr b.window b.offset
  | none => 0

/-- The payload of a command (R544). -/
def State.payload (h : Hdr) (s : State) : List Byte := memRead (s.bufAddr h.ctx.toNat) h.plen.toNat s.dram.mem

/-- Stockpot reads the payload of a command through its own port (R456, R544). -/
def State.fetched (h : Hdr) (s : State) : State :=
  if h.plen = 0 then s else s.dramReq 9 false (s.bufAddr h.ctx.toNat) h.plen.toNat

/-- Checks 2 to 6 of R545, in order: the code of the first that fails, and whether it sets PAUSED. `modeOk` is what check 4
asks beside the classes, `size` the payload size the parameters fix (R556), `inRange` check 6 on the parameters. -/
def State.verdict (h : Hdr) (cls : List Cls) (modeOk : Bool) (size : Option Nat) (inRange : Bool) (s : State) :
    Option (Nat × Bool) :=
  if h.rsvBad || h.flags.toNat / 2 != 0 then some (cRange, true)
  else if s.bufSize h.ctx.toNat < h.plen.toNat then some (cLength, true)
  else if !(cls.any (Cls.ok s.mode.mode) && modeOk) then some (cMode, false)
  else if s.mode.transit && !cls.contains .c then some (cBusy, false)
  else if !(inRange && (match size with | some n => h.plen.toNat == n | none => true)) then some (cRange, false)
  else none

/-- The command in hand of a context ends (R546): a result beyond 48 bytes goes to the payload buffer, or ends ERR_LENGTH
where it does not fit. Its completion entry is then to be pushed; with NO_CPL the final state shows at once. -/
def State.finish (n : Nat) (st : OpState) (code : Nat) (data pay : List Byte) (s : State) : State :=
  match (s.ctx n).cur with
  | none => s
  | some c =>
    let fits := decide (pay.length ≤ s.bufSize n)
    let st' := if fits then st else OpState.failed
    let code' := if fits then code else cLength
    let s1 := if fits && !pay.isEmpty then s.dramWrite 9 (s.bufAddr n) pay else s
    let e : Ending :=
      { opcode := c.opcode, seq := c.seq, state := st', result := BitVec.ofNat 8 code',
        rlen := if fits then pay.length else 0, data := padTo 48 0 data, noCpl := c.noCpl }
    s1.setCtx n (fun x =>
      if c.noCpl then
        { x with cur := none, ending := none, opState := st', result := BitVec.ofNat 8 code', discard := false }
      else { x with cur := none, ending := some e })

/-- A command ends DONE with inline data. -/
def State.done (n : Nat) (data : List Byte) (s : State) : State := s.finish n .done cOk data []

/-- A command ends FAILED, or ABORTED for ERR_ABORTED (R547). -/
def State.failWith (n code : Nat) (s : State) : State :=
  s.finish n (if code = cAborted then .aborted else .failed) code [] []

/-- A context takes a command: it shows as RUNNING with its SEQ (R542). -/
def State.begun (h : Hdr) (op : Nat) (s : State) : State :=
  s.setCtx h.ctx.toNat (fun x =>
    { x with cur := some { opcode := op, seq := h.seq, noCpl := h.flags.getLsbD 0 }, opState := .running, result := 0,
             progress := 0, seq := h.seq, partials := 0 })

/-- What the body's result leaves. -/
def Res.apply (n : Nat) : Res → State
  | .ok data pay s => s.finish n .done cOk data pay
  | .fail code data s => s.finish n (if code = cAborted then .aborted else .failed) code data []
  | .go s => s
  | .wait s => s.setCtx n (fun x => { x with opState := .queued })

/-- Stockpot takes a command on its context (R542 to R545). A context that cannot take it is left alone: the command stays
with the host. -/
def State.take (h : Hdr) (op : Nat) (cls : List Cls) (modeOk : Bool) (size : Option Nat) (inRange : Bool)
    (body : State → Res) (s : State) : State :=
  let s0 := s.atTime h.t
  if s0.canTake h.ctx.toNat then
    let s1 := s0.begun h op
    match s0.verdict h cls modeOk size inRange with
    | some (code, pause) =>
      let s2 := s1.failWith h.ctx.toNat code
      if pause then s2.setCtx h.ctx.toNat (fun x => { x with paused := true, rung := false }) else s2
    | none => (body (s1.fetched h)).apply h.ctx.toNat
  else s0

/-- A partial result record (R546), written after the `skip` bytes that the command reserves and then counted; a record the
buffer has no room for is not written. -/
def State.partialRec (n skip : Nat) (rec : List Byte) (s : State) : State :=
  let off := skip + (s.ctx n).partials * rec.length
  if off + rec.length ≤ s.bufSize n then
    (s.dramWrite 9 (s.bufAddr n + off) rec).setCtx n (fun x => { x with partials := x.partials + 1, opState := .partialResult })
  else s

/-- Bytes 16 to 23 of an ERR_CONFLICT completion (R547, R582). -/
def conflictData (cls idx ownCls own : Nat) : List Byte := le 1 cls ++ le 3 idx ++ le 1 ownCls ++ le 3 own

end Sys2Proof.Machine
end

