-- ==== Sys2Proof/Machine/PantryOps.lean ====
section
/-! DEFINITION. Pushing to and popping from Pantry's queues, and the retirement of cells (chapter "Pantry queue manager"). -/

namespace Sys2Proof.Machine

/-- Host access of a queue (R486): 0 none, 1 push, 2 pop. -/
def qAccess (n : Nat) : Nat :=
  if 256 ≤ n && n < 512 then 1 else if 512 ≤ n && n < 6912 then 2 else 0

/-- A queue. -/
def State.q (n : Nat) (s : State) : Queue := sget Queue.reset n s.pantry.queues

/-- Change a queue. -/
def State.setQ (n : Nat) (f : Queue → Queue) (s : State) : State :=
  { s with pantry := { s.pantry with queues := supd Queue.reset n f s.pantry.queues } }

/-- Words a pop can take (R492). -/
def Queue.words (q : Queue) : Nat := (q.cells.filter (fun c => !(c.isOpen && q.whole))).length

/-- The cells as they stood at the start of the cycle `now`, but for those popped since (R495). -/
def Queue.atStart (now : Nat) (q : Queue) : List Cell := if q.cycle = some now then q.startCells else q.cells

/-- The queue with the start of the cycle `now` noted. -/
def Queue.noteCycle (now : Nat) (q : Queue) : Queue :=
  if q.cycle = some now then q else { q with cycle := some now, startCells := q.cells, startUse := q.cells.length }

/-- Free cells (R508). -/
def State.freeCells (s : State) : Nat := 65536 - s.pantry.used - s.pantry.retired.length

/-- Cells freed in the present cycle, which cannot be taken before the next (R492). -/
def State.freedNow (s : State) : Nat :=
  match s.pantry.freedAt with
  | some (c, n) => if c = s.now then n else 0
  | none => 0

/-- LIMIT and the pool leave a queue room for a new cell (R489). -/
def State.cellRoom (n : Nat) (s : State) : Bool :=
  let q := s.q n
  let inUse := max (if q.cycle = some s.now then q.startUse else 0) q.cells.length
  let free := s.freeCells - s.freedNow
  !(q.limit != 0 && decide (q.limit ≤ inUse)) && (if n < 768 then decide (1 ≤ free) else decide (1024 < free))

/-- The queue can take a new cell (R489, R494). -/
def State.canNew (n : Nat) (s : State) : Bool := (s.q n).en && s.cellRoom n

/-- POOL_LOW with its hysteresis (R489). -/
def State.poolNote (s : State) : State :=
  let f := s.freeCells
  { s with pantry := { s.pantry with low := if f < 4096 then true else if 8192 ≤ f then false else s.pantry.low } }

/-- The number of a free cell: which one is taken is left open. -/
def State.pickCell (s : State) : Nat × State :=
  let (v, s1) := s.free 16
  let taken := s.pantry.queues.flatMap (fun p => p.2.cells.map Cell.id) ++ s.pantry.retired
  let avail := (List.range 65536).filter (fun i => !taken.contains i)
  (avail.getD (v % max 1 avail.length) 0, s1)

/-- A new cell with its bytes joins the tail of a queue. -/
def State.addCell (n : Nat) (bs : List Byte) (s : State) : State :=
  let (id, s1) := s.pickCell
  let s2 := s1.setQ n (fun q => { q with cells := q.cells ++ [{ id := id, bytes := bs, isOpen := decide (bs.length < 64) }] })
  { s2 with pantry := { s2.pantry with used := s2.pantry.used + 1 } }.poolNote

/-- Bytes join the open tail cell. -/
def joinTail (bs : List Byte) (cells : List Cell) : List Cell :=
  match cells.getLast? with
  | some c => cells.dropLast ++ [{ c with bytes := c.bytes ++ bs, isOpen := decide ((c.bytes ++ bs).length < 64) }]
  | none => cells

/-- Room in the open tail cell. -/
def Queue.tailRoom (q : Queue) : Nat :=
  match q.cells.getLast? with
  | some c => if c.isOpen then 64 - c.bytes.length else 0
  | none => 0

/-- One push of 1 to 8 bytes (R491, R494): none when it is refused. -/
def State.push (n : Nat) (bs : List Byte) (s : State) : Option State :=
  let q := s.q n
  let room := q.tailRoom
  if !q.en then none
  else if bs.length ≤ room then some (s.setQ n (fun q => { q.noteCycle s.now with cells := joinTail bs q.cells }))
  else if s.canNew n then
    let s1 := s.setQ n (fun q => { q.noteCycle s.now with cells := if room = 0 then q.cells else joinTail (bs.take room) q.cells })
    some (s1.addCell n (bs.drop room))
  else none

/-- A software push (R494): refused, it is dropped with OVERFLOW. -/
def State.pushSoft (n : Nat) (bs : List Byte) (s : State) : State :=
  if bs.isEmpty then s
  else match s.push n bs with
    | some s1 => s1
    | none => (s.setQ n (fun q => { q with overflow := true, drops := satAdd 0xFFFF q.drops 1 })).pulse 228

/-- Hardware pushes in order (R494): from the first refused one on they are held by the producer. -/
def State.pushItems (n : Nat) : List (List Byte) → State → State
  | [], s => s
  | b :: bs, s =>
    if (sget [] n s.pantry.held).isEmpty then
      match s.push n b with
      | some s1 => State.pushItems n bs s1
      | none => { s with pantry := { s.pantry with held := sset [] n (b :: bs) s.pantry.held } }
    else { s with pantry := { s.pantry with held := sset [] n (sget [] n s.pantry.held ++ b :: bs) s.pantry.held } }

/-- A record from a hardware producer, 8 bytes a push. -/
def State.pushHard (n : Nat) (bs : List Byte) (s : State) : State :=
  s.pushItems n (chunks 8 (divUp bs.length 8) bs)

/-- A word of 64 bytes fits a queue of whole words now (R546). -/
def State.hasRoom (n : Nat) (s : State) : Bool := s.canNew n

/-- A cell that has been popped is free from the next cycle on (R492). -/
def State.freeCell (k : Nat) (s : State) : State :=
  { s with pantry := { s.pantry with used := s.pantry.used - k, freedAt := some (s.now, s.freedNow + k) } }.poolNote

/-- A cell is retired until the next device reset (R502). -/
def State.retire (id : Nat) (s : State) : State :=
  if s.pantry.retired.contains id then s
  else ({ s with pantry := { s.pantry with retired := s.pantry.retired ++ [id] } }.poolNote).pulse 230

/-- One pop (R492, R493, R495, R503): the word as its valid bytes, none on an empty queue. `perr` says that the word has a
parity error; for a software pop that sets PERR. Bytes pushed in the cycle of the pop need a new cell: refused, those of a hardware
producer are held, those of software dropped. -/
def State.pop (n : Nat) (perr soft : Bool) (s : State) : Option (List Byte) × State :=
  let q := s.q n
  let start := q.atStart s.now
  match start with
  | [] => (none, s.setQ n (fun q => { q.noteCycle s.now with underrun := true, lastCount := 0 }))
  | c :: rest =>
    if c.isOpen && q.whole then
      (none, s.setQ n (fun q => { q.noteCycle s.now with underrun := true, lastCount := 0 }))
    else
      let late := (q.cells.flatMap Cell.bytes).drop (start.flatMap Cell.bytes).length
      let s1 := s.setQ n (fun q =>
        { q.noteCycle s.now with cells := q.cells.drop 1, startCells := rest, lastCount := c.bytes.length, lastWord := c.bytes,
                                 perr := q.perr || (perr && soft) })
      let s2 := s1.freeCell 1
      let s3 := if perr then
          (({ s2 with pantry := { s2.pantry with perrCnt := satAdd 0xFFFF s2.pantry.perrCnt 1 } }).retire c.id).pulse 231
        else s2
      let s4 :=
        if rest.isEmpty && c.isOpen && !late.isEmpty then
          let s5 := s3.setQ n (fun q => { q with cells := [] })
          if s.canNew n then { s5 with pantry := { s5.pantry with used := s5.pantry.used - (q.cells.length - 1) } }.addCell n late
          else
            let s6 := { s5 with pantry := { s5.pantry with used := s5.pantry.used - (q.cells.length - 1) } }
            let held := chunks 8 (divUp late.length 8) late ++ sget [] n s6.pantry.held
            if 768 ≤ n then { s6 with pantry := { s6.pantry with held := sset [] n held s6.pantry.held } }
            else (s6.setQ n (fun q => { q with overflow := true, drops := satAdd 0xFFFF q.drops 1 })).pulse 228
        else s3
      (some c.bytes, s4)

/-- Every cell of a queue is freed and its status cleared (R488). -/
def State.flushQ (n : Nat) (s : State) : State :=
  let k := (s.q n).cells.length
  (s.setQ n (fun q => { q with cells := [], underrun := false, overflow := false, perr := false, lastCount := 0, drops := 0,
                               lastWord := [], cycle := none, startCells := [], startUse := 0 })).freeCell k

/-- The queue is pending (R500). -/
def Queue.pending (q : Queue) : Bool := q.wm != 0 && decide (q.wm ≤ q.words)

/-- The level of Q_NOTIFY_g (R500). -/
def State.notify (g : Nat) (s : State) : Bool := s.pantry.queues.any (fun p => p.2.pending && decide (p.2.ngrp.toNat = g))

/-- Bindings that Stockpot fixes at BOOT exit (R488, R541). -/
def Queue.bound : Queue := { Queue.reset with en := true, whole := true, limit := 64 }

/-- The submission and completion queues at BOOT exit; every other queue is as the reset left it. -/
def State.bindFixed (s : State) : State :=
  { s with pantry := { s.pantry with queues := (List.range' 256 512).map (fun n => (n, Queue.bound)) } }

end Sys2Proof.Machine
end

