-- ==== Sys2Proof/Machine/Status.lean ====
section
/-! DEFINITION. DEV_STATUS (R53 to R55), the levels of the level sources (R644), and `settle`: what follows from a command's
effect at once, without a command of its own. -/

namespace Sys2Proof.Machine

/-- Host links can train: the reset and the SRAM wipe are over (R114, R117). -/
def BootPhase.linksAllowed : BootPhase → Bool
  | .inReset | .sramWipe | .held => false
  | _ => true

/-- A port of the chip. -/
def State.seg (p : Nat) (s : State) : PortUnit := sget PortUnit.reset p s.ports.ports

/-- Change a port. -/
def State.setSeg (p : Nat) (f : PortUnit → PortUnit) (s : State) : State :=
  { s with ports := { s.ports with ports := supd PortUnit.reset p f s.ports.ports } }

/-- A front-end die. -/
def State.die (k : Nat) (s : State) : FeDie := sget FeDie.reset k s.ports.dies

/-- Change a front-end die. -/
def State.setDie (k : Nat) (f : FeDie → FeDie) (s : State) : State :=
  { s with ports := { s.ports with dies := supd FeDie.reset k f s.ports.dies } }

/-- The port's columns are masked (R52). -/
def PortSt.isMasked : PortSt → Bool
  | .isolated | .swap | .qualify => true
  | _ => false

/-- DG_PORT. -/
def State.dgPort (s : State) : Bool :=
  (List.range s.board.member.ports).any (fun p => (s.seg p).state.isMasked && (s.seg p).ever)

/-- DG_SPARE. -/
def State.dgSpare (s : State) : Bool := s.ports.dies.any (fun d => d.2.chans.any (fun c => decide (c.1 < 96) && c.2.failed))

/-- A pair is in service (R625). -/
def PairState.inService : PairState → Bool
  | .serving | .standby => true
  | _ => false

/-- DG_CPU. -/
def State.dgCpu (s : State) : Bool := s.cpu.pair0.inService != s.cpu.pair1.inService

/-- DG_MADC. -/
def State.dgMadc (s : State) : Bool := [s.madc.convA, s.madc.convB].any (fun k => k.failed || k.state == .test)

/-- DG_TSENSE. -/
def State.dgTsense (s : State) : Bool := s.therm.sensors.any (fun p => p.2.suspect)

/-- DG_DRAM. -/
def State.dgDram (s : State) : Bool := s.dram.resilient && s.dram.spare != 0

/-- A port that is DOWN or LOST. -/
def PortLink.isDown : PortLink → Bool
  | .down | .lost => true
  | _ => false

/-- DG_HOST. -/
def State.dgHost (s : State) : Bool := s.host.split && (s.host.port0.link.isDown || s.host.port1.link.isDown)

/-- The nine causes of DEV_STATUS in bit order (R53), all 0 in BOOT (R55). -/
def State.causes (s : State) : List Bool :=
  if s.mode.mode == .boot then List.replicate 9 false
  else [s.dgPort, s.dgSpare, s.dgCpu, s.dgMadc, s.dgTsense, s.dgDram, s.dgHost, !s.ilm.failed.isEmpty,
        !s.pantry.retired.isEmpty]

/-- DEGRADED (R53). -/
def State.degraded (s : State) : Bool := s.causes.any id

/-- Every level source with its present level (R644). -/
def State.levels (s : State) : List (Nat × Bool) :=
  [(0, s.degraded),
   (3, s.clk.skewTemp != 0 || s.clk.skewSupply != 0),
   (18, !s.sec.entropyOk),
   (82, s.shd.filters.any (fun f => f.2.stale)),
   (83, s.shd.oot),
   (129, s.skl.groups.any (fun g => g.2.masked)),
   (147, s.ilm.rows.any (fun r => r.2.held)),
   (179, !s.madc.mainsOk && s.madc.mainsSrc == 2),
   (193, s.therm.warn),
   (195, s.therm.rorWarn),
   (198, s.simmer.speedReq),
   (209, s.dram.chans.any (fun c => c.2.cls == 3)),
   (224, s.notify 0), (225, s.notify 1), (226, s.notify 2), (227, s.notify 3),
   (229, s.pantry.low)]

/-- One level source brought up to date; before BOOT exit nothing is recorded (R639). -/
def State.settleOne (boot : Bool) (s : State) (l : Nat × Bool) : State := s.level l.1 (l.2 && !boot)

/-- Every level source brought up to date after a command (R637, R638). -/
def State.settle (s : State) : State := s.levels.foldl (State.settleOne (s.mode.mode == .boot)) s

end Sys2Proof.Machine
end

