-- ==== Sys2Proof/Machine/NvOps.lean ====
section
/-! DEFINITION. The NV store: slots, current copies, and record writes line by line (chapter "Security, lifecycle and
attestation", R608 to R611). -/

namespace Sys2Proof.Machine

/-- Regions of the NV store (R608): 0 control, 1 F, 2 C, 3 O, 4 I. -/
def NvId.region : NvId → Nat
  | .lifecycle | .pending | .svnVendor => 0
  | .factory => 1
  | .trims _ | .failedCh _ => 2
  | .ownerKey | .svnOwner | .ownerCfg => 3
  | .dik => 4

/-- Lines of each region's reserve share (R608). -/
def reserveLines (region : Nat) : Nat :=
  match region with
  | 0 => 320 * 16 | 1 => 512 * 16 | 2 => 1024 * 16 | 3 => 256 * 16 | _ => 64 * 16

/-- The region can be written in the lifecycle state (R608). -/
def nvWritable (l : Lifecycle) (region : Nat) : Bool :=
  match region with
  | 1 => l == .vendor
  | 3 => l == .vendor || l == .provisioned || l == .field
  | 4 => l == .provisioned
  | _ => l != .scrap

/-- A valid slot (R610). -/
def NvSlot.valid (x : NvSlot) : Bool := x.marker == .valid && x.hashOk

/-- A record never written. -/
def NvRec.blank (id : NvId) : NvRec := { id := id, slot0 := NvSlot.blank, slot1 := NvSlot.blank }

/-- The slot with the current copy (R610): false slot 0, true slot 1. -/
def NvRec.curIs (r : NvRec) : Option Bool :=
  match r.slot0.valid, r.slot1.valid with
  | false, false => none
  | true, false => some false
  | false, true => some true
  | true, true => some (decide (r.slot0.seq.toNat < r.slot1.seq.toNat))

/-- A slot of a record. -/
def NvRec.slot (r : NvRec) (b : Bool) : NvSlot := if b then r.slot1 else r.slot0

/-- Change a slot of a record. -/
def NvRec.setSlot (r : NvRec) (b : Bool) (f : NvSlot → NvSlot) : NvRec :=
  if b then { r with slot1 := f r.slot1 } else { r with slot0 := f r.slot0 }

/-- The slot that a write goes to: the one that does not hold the current copy (R609). -/
def NvRec.target (r : NvRec) : Bool := r.curIs == some false

/-- A record of the store. -/
def State.nvRec (id : NvId) (s : State) : NvRec :=
  match s.sec.nv.find? (fun r => r.id == id) with
  | some r => r
  | none => NvRec.blank id

/-- Change a record of the store. -/
def State.setNv (id : NvId) (f : NvRec → NvRec) (s : State) : State :=
  let r := f (s.nvRec id)
  let nv := if s.sec.nv.any (fun x => x.id == id) then s.sec.nv.map (fun x => if x.id == id then r else x) else s.sec.nv ++ [r]
  { s with sec := { s.sec with nv := nv } }

/-- The data of a record's current copy. -/
def State.nvData (id : NvId) (s : State) : Option (List Byte) :=
  (s.nvRec id).curIs.map (fun b => ((s.nvRec id).slot b).data)

/-- A record write is asked for (R609, R610): from NV_BLOCK on, or once NV writes have stopped for good, it is refused with
ERR_HW (none); while VDD_NV is low it waits. -/
def State.nvPut (id : NvId) (data : List Byte) (why : NvWhy) (ctx : Option Nat) (s : State) : Option State :=
  if s.therm.nvBlock || s.sec.stopNv then none
  else some { s with sec := { s.sec with writes := s.sec.writes ++
    [{ id := id, data := data, left := divUp data.length 64 + 1, begun := false,
       waitSince := if s.sec.vddNvLow then some s.now else none, ctx := ctx, why := why }] } }

/-- The slot being written no longer holds what its commit line names. -/
def State.nvSpoil (id : NvId) (s : State) : State :=
  s.setNv id (fun r => r.setSlot r.target (fun x => { x with hashOk := false }))

/-- The commit line is programmed (R609): the slot is the current copy, one program older (R611); a slot at 500,000 programs
moves to its region's reserve share, whose end raises NV_WEAR. -/
def State.nvCommit (w : NvWrite) (s : State) : State :=
  let r := s.nvRec w.id
  let b := r.target
  let seq : BitVec 32 := match r.curIs with | some c => (r.slot c).seq + 1 | none => 1
  let worn := (r.slot b).wear + 1
  let g := w.id.region
  let need := sget 0 g s.sec.reserve + divUp w.data.length 64 + 1
  let move := decide (500000 ≤ worn) && decide (need ≤ reserveLines g)
  let s1 := s.setNv w.id (fun r => r.setSlot b (fun _ =>
    { marker := .valid, seq := seq, hashOk := true, data := w.data, wear := if move then 0 else worn }))
  let s2 := if move then { s1 with sec := { s1.sec with reserve := sset 0 g need s1.sec.reserve } } else s1
  s2.pulseIf (decide (worn = 500000) && !move) 19

/-- Every record of a region reads as never written, its wear kept (R601). -/
def State.nvWipe (regions : List Nat) (s : State) : State :=
  let z := fun (x : NvSlot) => { NvSlot.blank with wear := x.wear }
  { s with sec := { s.sec with nv := s.sec.nv.map (fun r =>
    if regions.contains r.id.region then { r with slot0 := z r.slot0, slot1 := z r.slot1 } else r) } }

end Sys2Proof.Machine
end

