-- ==== Sys2Proof/Machine/Queues.lean ====
section
/-! DEFINITION. The commands and events of Pantry (chapter "Pantry queue manager", R578). -/

namespace Sys2Proof.Machine

/-- The outcome of a command whose effect has been worked out: every level source follows. -/
def State.out (s : State) : Host.Outcome State Fault Refusal := .next s.settle

/-- Q_PUSH (R490, R491, R494): enabled bytes in ascending order; ignored for a queue the host does not push (R487) and in
BOOT (R535). -/
def execQPush (t : Nat) (q : BitVec 13) (data : BitVec 64) (be : BitVec 8) (s : State) :
    Host.Outcome State Fault Refusal :=
  let s1 := s.atTime t
  let bs := ((List.range 8).filter (fun i => be.getLsbD i)).map (fun i => data.extractLsb' (8 * i) 8)
  (if qAccess q.toNat = 1 && !(s1.mode.mode == .boot) then s1.pushSoft q.toNat bs else s1).out

/-- Q_POP (R492, R493, R505): one word, of which the host takes `len` bytes; 0 for a queue the host does not pop (R487). -/
def execQPop (t : Nat) (q : BitVec 13) (len : Nat) (perr : Bool) (s : State) : Host.Outcome State Fault Refusal :=
  let s1 := s.atTime t
  if qAccess q.toNat = 2 && (s1.q q.toNat).consumer.isNone && !(s1.mode.mode == .boot) then
    let r := s1.pop q.toNat perr true
    (r.2.emit (.hostRead (padTo len 0 (padTo 64 0 (r.2.q q.toNat).lastWord)) false)).out
  else (s1.emit (.hostRead (List.replicate len 0) false)).out

/-- HW_PUSH_RETRY (R494): the producer offers what it holds again. -/
def execHwPushRetry (t : Nat) (q : BitVec 13) (s : State) : Host.Outcome State Fault Refusal :=
  let s1 := s.atTime t
  let held := sget [] q.toNat s1.pantry.held
  ({ s1 with pantry := { s1.pantry with held := sset [] q.toNat [] s1.pantry.held } }.pushItems q.toNat held).out

/-- CELL_PATROL (R501, R502): a free cell that fails its test is retired. -/
def execCellPatrol (t : Nat) (cell : BitVec 16) (ok : Bool) (s : State) : Host.Outcome State Fault Refusal :=
  let s1 := s.atTime t
  let held := s1.pantry.queues.any (fun p => p.2.cells.any (fun c => decide (c.id = cell.toNat)))
  (if ok || held then s1 else s1.retire cell.toNat).out

/-- Queues that Q_BIND configures (R488). -/
def isBindable (n : Nat) : Bool := decide (768 ≤ n) && decide (n ≤ 6911)

/-- The queue belongs to an active service job, or a running DMA channel consumes it (R488). -/
def State.queueBusy (n : Nat) (s : State) : Bool :=
  (match s.sv.job with
   | some j => j.queues.contains n
   | none => false) ||
  (match (s.q n).consumer with
   | some c => (sget DmaChan.reset c s.dma.chans).state == .running
   | none => false)

/-- Q_BIND (R488). -/
def takeQBind (h : Hdr) (queue : BitVec 16) (en flags : BitVec 8) (limit wm : BitVec 16) (s : State) : State :=
  s.take h 0x0D00 [.b] true (some 0) (isBindable queue.toNat && decide (en.toNat ≤ 1) && decide (flags.toNat < 8)) (fun s =>
    let n := queue.toNat
    if s.queueBusy n then .fail cState [] s
    else if en = 0 && !((s.q n).cells.isEmpty) then .fail cState [] s
    else .ok [] [] (s.setQ n (fun q => { q with en := en = 1, whole := flags.getLsbD 0, ngrp := flags.extractLsb' 1 2,
                                                limit := limit.toNat, wm := wm.toNat })))

/-- Q_BIND. -/
def execQBind (h : Hdr) (queue : BitVec 16) (en flags : BitVec 8) (limit wm : BitVec 16) (s : State) :
    Host.Outcome State Fault Refusal := (takeQBind h queue en flags limit wm s).out

/-- Q_FLUSH (R488): also of a submission queue, which R545 asks for (log entry 13). -/
def takeQFlush (h : Hdr) (queue : BitVec 16) (s : State) : State :=
  s.take h 0x0D01 [.b] true (some 0) (isBindable queue.toNat || qAccess queue.toNat = 1) (fun s =>
    let n := queue.toNat
    if s.queueBusy n then .fail cState [] s
    else .ok (le 4 (s.q n).cells.length) [] (s.flushQ n))

/-- Q_FLUSH. -/
def execQFlush (h : Hdr) (queue : BitVec 16) (s : State) : Host.Outcome State Fault Refusal := (takeQFlush h queue s).out

end Sys2Proof.Machine
end

