-- ==== Sys2Proof/Machine/Staging.lean ====
section
/-! DEFINITION. Staging commands and the locks of a pending apply (chapter "Architecture and data flow", R19 to R24), and die
temperatures (R98). -/

namespace Sys2Proof.Machine

/-- What the apply announced on the bus locks on a follower (R24, R198): the tables staged when the announcement came, and from its
line on, until a good frame has given the mode, those that wait for a mode. -/
def Uzon.locks (u : Uzon) (op : Nat) : Bool :=
  match u.applySeen with
  | some (0, keys) => keys.contains op && (op == 0x0300 || op == 0x0700)
  | some (_, keys) => keys.contains op
  | none => false

/-- The shadow that a staging command writes is locked by the pending apply, its own or the one announced (R24). -/
def State.locked (ops : List Nat) (s : State) : Bool :=
  ops.any (fun o => s.uzs.locks o || (match s.mode.apply with | some a => a.keys.contains o | none => false))

/-- A staging waits for the swap while its table is locked, and is executed otherwise (R24, R559). -/
def State.staging (i : Instr) (h : Hdr) (ops : List Nat) (body : State → Res) (s : State) : Res :=
  if s.locked ops then .wait (s.setCtx h.ctx.toNat (fun x => { x with deferred := some i })) else body s

/-- A staging writes the shadow copy (R19), and is one of the stagings the next apply counts (R21). -/
def State.stage (op : Nat) (f : Tables → Tables) (s : State) : State :=
  { s with shadow := f s.shadow, staged := { s.staged with keys := s.staged.keys ++ [op] } }

/-- Bank selections with those of staged PORT_QUALIFY commands (R157). -/
def qualifyBanks (ports : SMap (Option PortCmd)) (sel : SMap PatSel) : SMap PatSel :=
  ports.foldl (fun m x =>
    match x.2 with
    | some (.qualify b _ _) => supd PatSel.reset x.1 (fun q => { q with bank := b }) m
    | _ => m) sel

/-- The shadow tables with the bank selections of staged PORT_QUALIFY commands (R157): what staging checks compare with
(R651). -/
def State.shadowView (s : State) : Tables :=
  { s.shadow with patSel := qualifyBanks s.staged.ports s.shadow.patSel }

/-- The profile is DENSE. -/
def State.dense (s : State) : Bool := s.mode.profile == .dense

/-- A sensor of the thermal unit. -/
def State.sensor (i : Nat) (s : State) : Sensor := sget Sensor.reset i s.therm.sensors

/-- The mean of some values in Q8.8, rounded to nearest. -/
def meanOf (xs : List Int) : Int := divRound xs.sum xs.length

/-- A die's temperature (R98): the mean of its valid sensors; with none valid, the mean of the values that stand in for them
(R433). -/
def State.dieTemp (k : Nat) (s : State) : Int :=
  let own := [16 + 2 * k, 17 + 2 * k]
  let good := own.filter (fun i => !(s.sensor i).suspect)
  meanOf ((if good.isEmpty then own else good).map (fun i => (s.sensor i).value))

end Sys2Proof.Machine
end

