-- ==== Sys2Proof/Machine/MotOps.lean ====
section
/-! DEFINITION. Axes: the profile generator, and how moves start, stop and end (chapter "Motion control"). -/

namespace Sys2Proof.Machine

/-- An axis. -/
def State.axis (x : Nat) (s : State) : Axis := sget Axis.reset x s.axes

/-- Change an axis. -/
def State.setAx (x : Nat) (f : Axis → Axis) (s : State) : State := { s with axes := supd Axis.reset x f s.axes }

/-! ## Axes -/

/-- The configuration of an axis in force. -/
def State.motCfg (x : Nat) (s : State) : MotCfg := sget MotCfg.reset x s.active.motCfg

/-- The commanded position P in microsteps (R379). -/
def Axis.pos (a : Axis) : Int := a.p / (2 ^ 32 : Nat)

/-- The commanded velocity in 1/16 microstep/s. -/
def Axis.vel (a : Axis) : Int := a.v / (2 ^ 32 : Nat)

/-! ## The source of line triggers -/

/-- The source in force (R165, R166): 4 on every follower. -/
def State.srcNow (s : State) : Nat := if s.rst.uzsId != 0 then 4 else s.active.ltSrc.src.toNat

/-- Counted units per pitch with 32 fraction bits; a generator period is a pitch (R171). -/
def State.divNow (s : State) : Nat := if s.srcNow = 3 then 2 ^ 32 else s.active.ltSrc.div.toNat

/-- The speed estimate as the source in force gives it (R169): the commanded velocity of AX_A, the generator's rate, or what the latest
count or frame has left. -/
def State.vNow (s : State) : Int :=
  if s.srcNow = 2 then divRound ((s.axis 0).vel * 2 ^ 32) s.divNow
  else if s.srcNow = 3 then divRound (16 * 1000000000 * 256) s.active.ltSrc.genPeriod.toNat
  else s.lt.vEst

/-! ## The profile generator (R380, R381), one ramp tick of 100 ns -/

/-- Change of velocity in a tick at an acceleration in microsteps/s2. -/
def tickRate (a : Nat) : Nat := 16 * a * 2 ^ 32 / 10000000

/-- Distance covered in a tick at a speed. -/
def tickDist (u : Nat) : Nat := u / 160000000

/-- Distance in which a speed can be brought to rest at a deceleration. -/
def brakeDist (u dec : Nat) : Nat := if dec = 0 then 0 else u * u / (512 * dec * 2 ^ 32)

/-- A step with the sign of a direction. -/
def signedBy (dir : Int) (n : Nat) : Int := if dir < 0 then -(n : Int) else n

/-- One tick of a profile that ends at a target (R388): position, velocity, and whether the target is reached. The rounding of
the profile is absorbed in the last tick (R381; log entry 23). -/
def trapStep (target : Int) (vMax acc dec : Nat) (p v : Int) : Int × Int × Bool :=
  let dir := target - p
  let r := dir.natAbs
  let u := v.natAbs
  let top := vMax * 2 ^ 32
  let up := if u ≤ top then min top (u + tickRate acc) else max top (u - tickRate dec)
  let fits := fun w => decide (brakeDist w dec + tickDist w ≤ r)
  let w := if fits up then up else if decide (u ≤ top) && fits u then u else u - tickRate dec
  if r ≤ tickDist w || w = 0 then (target, 0, true) else (p + signedBy dir (tickDist w), signedBy dir w, false)

/-- One tick towards a velocity at a rate. -/
def velStep (goal : Int) (rate : Nat) (v : Int) : Int :=
  if v < goal then min goal (v + tickRate rate) else max goal (v - tickRate rate)

/-- Where a velocity takes a position in one tick. -/
def drift (p v : Int) : Int := p + signedBy v (tickDist v.natAbs)

/-- A segment's cubic at `n` of `total` ticks (R391), from a position and velocity to the segment's: position and velocity with
32 fraction bits. -/
def cubicAt (p0 v0 : Int) (g : RampSeg) (n : Nat) : Int × Int :=
  let t : Int := 10 * g.dur
  let k : Int := n
  let w : Int := (2 ^ 32 : Nat)
  let sc : Int := 160000000
  let t3 := t * t * t
  let pos := divRound (w * (sc * (p0 * (2 * k ^ 3 - 3 * k ^ 2 * t + t3) + g.endPos * (3 * k ^ 2 * t - 2 * k ^ 3)) +
    t * (v0 * (k ^ 3 - 2 * k ^ 2 * t + k * t ^ 2) + g.endVel * (k ^ 3 - k ^ 2 * t)))) (sc * t3)
  let vel := divRound (w * (sc * ((p0 - g.endPos) * (6 * k ^ 2 - 6 * k * t)) +
    t * (v0 * (3 * k ^ 2 - 4 * k * t + t ^ 2) + g.endVel * (3 * k ^ 2 - 2 * k * t)))) t3
  (pos, vel)

/-- Position and velocity of a run of segments `n` ticks after the start of the move, relative to its start; none at its
end. -/
def tableAt (p0 v0 : Int) : List RampSeg → Nat → Option (Int × Int)
  | [], _ => none
  | g :: gs, n => if n < 10 * g.dur then some (cubicAt p0 v0 g n) else tableAt g.endPos g.endVel gs (n - 10 * g.dur)

/-- The segments of a table move. -/
def rampOf (t : Tables) (x first last : Nat) : List RampSeg :=
  (List.range' first (last + 1 - first)).map (fun i => sget RampSeg.reset (256 * x + i) t.ramps)

/-! ## Ends of moves -/

/-- The axis a coordinated move is led by: the one with the larger distance, AX_B when equal (R392). -/
def State.leadAxis (s : State) : Nat :=
  let d := fun x => ((s.axis x).target - (s.axis x).start).natAbs
  if d 2 ≤ d 1 then 1 else 2

/-- The move is a coordinated one. -/
def Move.isCoord (m : Move) : Bool :=
  match m.kind with
  | .coord _ _ _ _ _ => true
  | _ => false

/-- P at rest as the result of a move on an axis (R387, R575). -/
def State.moveData (x : Nat) (m : Move) (s : State) : List Byte :=
  if m.isCoord then leS 8 (s.axis 1).pos ++ leS 8 (s.axis 2).pos else leS 8 (s.axis x).pos

/-- A move leaves the queue of its axis, or of both for a coordinated one, its command ends, and MOT_DONE is raised (R387). -/
def State.moveOver (x : Nat) (m : Move) (st : OpState) (code : Nat) (s : State) : State :=
  let xs := if m.isCoord then [1, 2] else [x]
  let s1 := xs.foldl (fun (s : State) y => s.setAx y (fun a => { a with queue := a.queue.erase m })) s
  let s2 := match m.ctx with
    | some n => s1.finish n st code (s1.moveData x m) []
    | none => s1
  xs.foldl (fun (s : State) y => s.pulse (160 + 4 * y)) s2

/-- An axis comes to rest; commands that waited for it end (R395). -/
def State.comeToRest (x : Nat) (s : State) : State :=
  let a := s.axis x
  let s1 := s.setAx x (fun a =>
    { a with v := 0, running := false, stopDec := none, backing := false, stops := [], restAt := some s.now, hold := false,
             edgeAt := none, followV := 0,
             state := if a.state == .hardFault || a.state == .stalled || a.state == .off then a.state else .rest })
  a.stops.foldl (fun (s : State) n => s.done n.1 (leS 8 a.pos)) s1

/-- The running move of an axis ends (of both axes, for a coordinated one). -/
def State.endMove (x : Nat) (st : OpState) (code : Nat) (s : State) : State :=
  match (s.axis x).queue with
  | [] => s.comeToRest x
  | m :: _ =>
    let xs := if m.isCoord then [1, 2] else [x]
    let s1 := xs.foldl (fun (s : State) y => s.setAx y (fun a => { a with running := false, v := 0 })) s
    xs.foldl (fun (s : State) y => s.comeToRest y) (s1.moveOver x m st code)

/-- The final state of a move that ends with a code (R387). -/
def endState (code : Nat) : OpState := if code = cOk then .done else if code = cAborted then .aborted else .failed

/-- Queued moves end ABORTED (R395). -/
def State.flushMoves (x : Nat) (s : State) : State :=
  let a := s.axis x
  (if a.running then a.queue.drop 1 else a.queue).foldl (fun (s : State) m => s.moveOver x m .aborted cAborted) s

/-- The deceleration of a stop (R395). -/
def State.stopRate (x : Nat) (s : State) : Nat :=
  let a := s.axis x
  match a.queue.head? with
  | some m =>
    match m.kind with
    | .move _ _ _ _ | .jog _ _ | .coord _ _ _ _ _ => max (s.motCfg x).decStop a.dec
    | _ => (s.motCfg x).decStop
  | none => (s.motCfg x).decStop

/-- The running move decelerates to rest and will end with a code (R395); a coordinated one stops along the line, on its lead
axis (R392). -/
def State.stopMove (x code : Nat) (s : State) : State :=
  let a := s.axis x
  if !a.running || a.stopDec.isSome then s
  else
    let y := match a.queue.head? with | some m => if m.isCoord then s.leadAxis else x | none => x
    (s.setAx y (fun b => { b with stopDec := some (s.stopRate y), stopEnd := BitVec.ofNat 8 code, state := .stopping })).setAx x
      (fun b => { b with state := .stopping })

/-- A stop with FLUSH = 1 (R395, R399). -/
def State.stopAll (x : Nat) (s : State) : State := (s.flushMoves x).stopMove x cAborted

/-- A fault ends the running move where it stands, and the queue with it (R397). -/
def State.haltAxis (x : Nat) (st : MotState) (cause : Nat) (s : State) : State :=
  let a := s.axis x
  let coord := match a.queue.head? with | some m => a.running && m.isCoord | none => false
  let s1 := s.flushMoves x
  let s2 := s1.setAx x (fun a => { a with state := st, cause := cause, homed := false, v := 0, gates := st != .hardFault })
  let s3 :=
    if coord then
      let o := 3 - x
      let s4 := s2.setAx o (fun b => { b with running := false })
      let m := (a.queue.head?)
      let s5 := match m with | some m => s4.moveOver x m .failed cHw | none => s4
      let s6 := s5.setAx o (fun b => { b with running := true, stopDec := some (s.motCfg o).decStop, stopEnd := BitVec.ofNat 8 cHw,
                                              state := .stopping })
      s6.comeToRest x
    else if a.running then s2.endMove x .failed cHw
    else s2.comeToRest x
  s3.pulse (162 + 4 * x)

/-- A soft fault (R397): like a stop with FLUSH = 1, with a code of its own. -/
def State.softFault (x cause code : Nat) (s : State) : State :=
  (((s.flushMoves x).stopMove x code).setAx x (fun a => { a with cause := cause })).pulse (162 + 4 * x)

/-- Some axis moves or has a move queued (R44). -/
def State.anyAxisBusy (s : State) : Bool := (List.range 4).any (fun x => (s.axis x).running || !(s.axis x).queue.isEmpty || (s.axis x).v != 0)

/-- Every axis stops as a MOT_STOP with FLUSH = 1 (R399). -/
def State.stopAxes (s : State) : State := (List.range 4).foldl (fun (s : State) x => s.stopAll x) s

/-- The gates of every enabled axis are low, as in STANDBY, or switch again (R399). -/
def State.gatesOff (s : State) : State :=
  (List.range 4).foldl (fun (s : State) x =>
    s.setAx x (fun a => if a.state == .hardFault then a else { a with gates := false, state := .off })) s

/-- Gates of enabled axes switch again, at rest. They stay low where MOT_FLT_N_x is low, which is a hard fault (R75, R397), and while
HW_TRIP is latched (R62). -/
def State.gatesOn (s : State) : State :=
  (List.range 4).foldl (fun (s : State) x =>
    if (s.motCfg x).en && (s.axis x).state == .off then
      if (s.axis x).fltPin then s.haltAxis x .hardFault 1
      else s.setAx x (fun a => { a with gates := !s.rst.thermTrip, state := .rest, restAt := some s.now, hold := false })
    else s) s

/-- An applied configuration meets an axis at rest (R378): EN decides whether it is driven (R377). -/
def State.axesConfigured (s : State) : State :=
  let s1 := (List.range 4).foldl (fun (s : State) x =>
    if (s.motCfg x).en then s else s.setAx x (fun a => if a.state == .hardFault then a else { a with gates := false, state := .off })) s
  if s.mode.mode == .standby then s1 else s1.gatesOn

/-- Where an axis will stand when its queue has run: the target of the last queued move that has one, else P (log entry 22). -/
def State.queueEnd (x : Nat) (s : State) : Int :=
  (s.axis x).queue.foldl (fun e m =>
    match m.kind with
    | .move t _ _ _ => t
    | .coord b c _ _ _ => if x = 1 then b else c
    | .table f l => e + (match (rampOf s.active x f l).getLast? with | some g => g.endPos | none => 0)
    | .home pos _ h b _ => if pos then h - b else h + b
    | _ => e) (s.axis x).pos

/-- A move joins the queue of an axis. -/
def State.queueMove (x : Nat) (m : Move) (s : State) : State := s.setAx x (fun a => { a with queue := a.queue ++ [m] })

end Sys2Proof.Machine
end

