-- ==== Sys2Proof/Machine/Dma.lean ====
section
/-! DEFINITION. The DMA engine (chapter "DMA engine", R578). One burst of a channel is outstanding at a time: how many of the
at most 4 bursts of R515 are in flight is the engine's schedule (log entry 14). -/

namespace Sys2Proof.Machine

/-- A channel. -/
def State.chan (c : Nat) (s : State) : DmaChan := sget DmaChan.reset c s.dma.chans

/-- Change a channel. -/
def State.setChan (c : Nat) (f : DmaChan → DmaChan) (s : State) : State :=
  { s with dma := { s.dma with chans := supd DmaChan.reset c f s.dma.chans } }

/-- One bit of CRC-32C in reflected form (R516). -/
def crcBit (c : BitVec 32) : BitVec 32 := if c.getLsbD 0 then (c >>> 1) ^^^ 0x82F63B78#32 else c >>> 1

/-- One byte of CRC-32C. -/
def crcByte (c : BitVec 32) (b : Byte) : BitVec 32 :=
  crcBit (crcBit (crcBit (crcBit (crcBit (crcBit (crcBit (crcBit (c ^^^ b.setWidth 32))))))))

/-- CRC-32C of bytes appended to those whose CRC is `prev`; 0 is the CRC of no byte (R516). -/
def crc32c (prev : BitVec 32) (bs : List Byte) : BitVec 32 := (bs.foldl crcByte (prev ^^^ 0xFFFFFFFF#32)) ^^^ 0xFFFFFFFF#32

/-- INT is set, with one message when it changes from 0 to 1 while INT_EN is 1 (R528). -/
def State.dmaInt (c : Nat) (s : State) : State :=
  let ch := s.chan c
  let s1 := s.setChan c (fun x => { x with int := true })
  if ch.intEn && !ch.int then s1.msix ch.port ch.vec.toNat else s1

/-- TYPE of the descriptor in hand (R511). -/
def DmaChan.type (c : DmaChan) : Nat := c.ctl.toNat % 8

/-- The source is a queue. -/
def DmaChan.isQueue (c : DmaChan) : Bool := c.type == 3 || c.type == 4

/-- The source is DRAM. -/
def DmaChan.srcDram (c : DmaChan) : Bool := c.type == 0 || c.type == 2

/-- The destination is DRAM. -/
def DmaChan.dstDram (c : DmaChan) : Bool := c.type == 1 || c.type == 2 || c.type == 4

/-- The copy runs in descending order (R523). -/
def DmaChan.descending (c : DmaChan) : Bool :=
  c.type == 2 && decide (c.src < c.dst) && decide (c.dst < c.src + c.limit)

/-- Offset, from the start of the destination, and length of the next burst (R515, R523). -/
def DmaChan.burst (c : DmaChan) : Nat × Nat :=
  if c.descending then
    let e := c.dst + (c.limit - c.moved)
    let b := max c.dst ((e - 1) / 256 * 256)
    (b - c.dst, e - b)
  else (c.moved, min (256 - (c.dst + c.moved) % 256) (c.limit - c.moved))

/-- Size of the channel's window; 0 without one. -/
def State.chanWin (c : DmaChan) (s : State) : Nat :=
  match c.window with
  | some w => (match s.win w with | some x => x.size | none => 0)
  | none => 0

/-- The descriptor is refused (R522). -/
def State.descBad (c : DmaChan) (len : Nat) (s : State) : Bool :=
  let n := len % 2 ^ 26
  let size := s.chanWin c
  n == 0 || len / 2 ^ 26 != 0 || c.ctl.toNat / 128 != 0 || c.link / 2 % 16 != 0 || (c.isQueue && c.src != 0) ||
    decide (5 ≤ c.type) || (c.ctl.getLsbD 6 && !c.isQueue) ||
    ((c.srcDram || c.dstDram) && c.window.isNone) || (c.isQueue && c.queue.isNone) ||
    (c.srcDram && decide (size ≤ c.src)) || (c.dstDram && decide (size ≤ c.dst)) ||
    (c.type == 1 && decide (2 ^ 64 < c.src + n)) || (!c.dstDram && decide (2 ^ 64 < c.dst + n))

/-- Bytes that the descriptor may move before a window ends (R521, R523). -/
def State.descLimit (c : DmaChan) (n : Nat) (s : State) : Nat :=
  let size := s.chanWin c
  min (if c.srcDram then min n (size - c.src) else n) (if c.dstDram then size - c.dst else n)

/-- The channel stops: IDLE with a code, INT set, KICK_PEND kept unless it is an abort (R524, R525, R528). -/
def State.dmaStop (c code : Nat) (s : State) : State :=
  (s.setChan c (fun x => { x with state := .idle, phase := .none, code := BitVec.ofNat 4 code, qWait := false,
                                  kick := x.kick && code != 2 })).dmaInt c

/-- The channel reads the descriptor at `a` (R512). -/
def State.dmaFetch (c a : Nat) (s : State) : State :=
  let ch := s.chan c
  (s.setChan c (fun x => { x with state := .running, phase := .fetch, next := a, last := x.desc, qWait := false })).emit
    (.descRead ch.port c a)

/-- The channel reads LINK of the completed descriptor again (R530). -/
def State.dmaReread (c : Nat) (s : State) : State :=
  let ch := s.chan c
  (s.setChan c (fun x => { x with phase := .reread, kick := false })).emit (.linkRead ch.port c (ch.desc + 24))

/-- Status bytes over offsets 16 to 23 of the descriptor (R518). -/
def statusBytes (crc : BitVec 32) (residue code : Nat) : List Byte :=
  le 4 crc.toNat ++ le 4 (residue + code * 2 ^ 26 + 2 ^ 31)

/-- A descriptor completes with a code, after its read-back (R514 steps 4 to 6, R530); while QUIESCE prepares its port no further descriptor
is read (R538). -/
def State.dmaComplete (c code : Nat) (s : State) : State :=
  let ch := s.chan c
  let crc := crc32c (if ch.ctl.getLsbD 5 then ch.prevCrc else 0) ch.written
  let residue := ch.len - ch.moved
  let s1 := if ch.ctl.getLsbD 4 then s.emit (.hostWrite ch.port (ch.desc + 16) (statusBytes crc residue code) false) else s
  let s2 := s1.setChan c (fun x => { x with code := BitVec.ofNat 4 code, residue := residue, crc := crc,
                                            prevCrc := if code = 2 then x.prevCrc else crc })
  if code = 0 || code = 5 || code = 6 then
    let s3 := if ch.ctl.getLsbD 3 then s2.dmaInt c else s2
    if ch.link % 2 = 0 then
      if (s3.port ch.port).quiesce.isSome then
        (s3.setChan c (fun x => { x with state := .idle, phase := .none, qWait := false })).dmaInt c
      else s3.dmaFetch c (ch.link / 32 * 32)
    else if ch.kick && (s3.port ch.port).quiesce.isNone then s3.dmaReread c
    else s3.setChan c (fun x => { x with state := .idleAtEnd, phase := .none, qWait := false })
  else s2.dmaStop c code

/-- Code of a descriptor whose data has moved (R518 to R521). -/
def DmaChan.endCode (c : DmaChan) : Nat :=
  if c.state == .aborting then 2
  else if c.moved < c.len && decide (c.limit ≤ c.moved) then 1
  else if c.poison then 6
  else if c.parity then 5
  else 0

/-- No more data moves: the last byte written is read back (R517); with no byte written the descriptor ends at once. -/
def State.dmaDrain (c : Nat) (s : State) : State :=
  let ch := s.chan c
  if ch.moved = 0 then s.dmaComplete c ch.endCode
  else
    let last := ch.dst + (if ch.descending then ch.limit - ch.moved else ch.moved - 1)
    let s1 := if ch.dstDram then s.dramReq 4 false (s.winAddr (ch.window.getD 0) last) 1 else s
    (s1.setChan c (fun x => { x with phase := .readBack, qWait := false })).emit (.readBack c)

/-- Bytes of a burst reach the destination (R515, R519); `poisoned` are the parts of the burst that carry POISON, as offset
and length in it. -/
def State.dmaPut (c off : Nat) (bs : List Byte) (poisoned : List (Nat × Nat)) (s : State) : State :=
  let ch := s.chan c
  let s1 :=
    if ch.dstDram then
      let a := s.winAddr (ch.window.getD 0) (ch.dst + off)
      let s2 := s.dramWrite 5 a bs
      let bad := poisoned.flatMap (fun p => blocksOf (a + p.1) p.2)
      { s2 with dram := { s2.dram with poison := s2.dram.poison ++ bad.filter (fun b => !s2.dram.poison.contains b) } }
    else s.emit (.hostWrite ch.port (ch.dst + off) bs (!poisoned.isEmpty))
  s1.setChan c (fun x =>
    { x with moved := x.moved + bs.length, residue := x.len - (x.moved + bs.length),
             written := if ch.descending then bs ++ x.written else x.written ++ bs,
             poison := x.poison || !poisoned.isEmpty })

/-- Pops words of the bound queue until `n` bytes are in hand or the queue is empty; the first pop carries `perr`. -/
def State.dmaPops (q n : Nat) (perr : Bool) : Nat → List Byte → State → List Byte × Bool × State
  | 0, got, s => (got, false, s)
  | fuel + 1, got, s =>
    if n ≤ got.length || ({ s.q q with cells := (s.q q).atStart s.now } : Queue).words == 0 then (got, false, s)
    else
      let r := s.pop q perr false
      let t := State.dmaPops q n false fuel (got ++ r.1.getD []) r.2
      (t.1, perr || t.2.1, t.2.2)

/-- What a channel does after a burst: ends, waits for queue data, or issues the next burst (R514, R519, R520). -/
def State.dmaNext (c : Nat) (s : State) : State :=
  let ch := s.chan c
  if ch.state == .aborting || decide (ch.limit ≤ ch.moved) then s.dmaDrain c
  else if ch.isQueue && ch.carry.isEmpty && (s.q (ch.queue.getD 0)).words == 0 then
    if ch.ctl.getLsbD 6 && decide (0 < ch.moved) then s.dmaDrain c
    else s.setChan c (fun x => { x with qWait := true })
  else
    let s1 := if ch.srcDram then s.dramReq 4 false (s.winAddr (ch.window.getD 0) (ch.src + ch.burst.1)) ch.burst.2 else s
    (s1.setChan c (fun x => { x with qWait := false })).emit (.burst c ch.burst.1 ch.burst.2)

/-- A burst of a queue type: carry first, then words of the queue; what lies beyond the burst stays as carry (R519). -/
def State.dmaQueueBurst (c : Nat) (perr : Bool) (s : State) : State :=
  let ch := s.chan c
  let b := ch.burst
  let r := s.dmaPops (ch.queue.getD 0) b.2 perr 65 ch.carry
  let s1 := r.2.2.setChan c (fun x => { x with carry := r.1.drop b.2, perr := x.perr || r.2.1, parity := x.parity || r.2.1 })
  ((s1.dmaPut c b.1 (r.1.take b.2) [])).dmaNext c

/-- A QUIESCE whose channels have all come to rest ends DONE with the number it aborted (R538). -/
def State.quiesceCheck (s : State) (p : Nat) : State :=
  match (s.port p).quiesce with
  | none => s
  | some (n, _, _, aborted) =>
    if (List.range 64).any (fun c => decide ((s.chan c).port = p) && ((s.chan c).state == .running || (s.chan c).state == .aborting))
    then s
    else
      let quiet := match (s.ctx n).cur with | some c => c.noCpl | none => true
      (s.setPort p (fun x => { x with quiesce := none, link := if quiet && x.link == .up then .quiesced else x.link })).done n (le 1 aborted)

/-- The outcome of an event of the DMA engine. -/
def State.dmaOut (s : State) : Host.Outcome State Fault Refusal := ((s.quiesceCheck 0).quiesceCheck 1).out

/-- DMA_DESC_FETCHED (R511, R514, R522). -/
def execDmaDescFetched (t : Nat) (c : BitVec 6) (desc : BitVec 256) (s : State) : Host.Outcome State Fault Refusal :=
  let s1 := s.atTime t
  let ch := s1.chan c.toNat
  if ch.state == .running && ch.phase == .fetch then
    let len := (desc.extractLsb' 128 32).toNat
    let s2 := s1.setChan c.toNat (fun x =>
      { x with desc := x.next, src := (desc.extractLsb' 0 64).toNat, dst := (desc.extractLsb' 64 64).toNat,
               len := len % 2 ^ 26, ctl := desc.extractLsb' 160 32, link := (desc.extractLsb' 192 64).toNat, moved := 0,
               written := [], poison := false, parity := false, residue := len % 2 ^ 26 })
    let ch2 := s2.chan c.toNat
    if s2.descBad ch2 len then
      let crc := if ch2.ctl.getLsbD 5 then ch2.prevCrc else 0
      let s3 := if ch2.ctl.getLsbD 4 then
          s2.emit (.hostWrite ch2.port (ch2.desc + 16) (statusBytes crc ch2.len 3) false) else s2
      (((s3.setChan c.toNat (fun x => { x with crc := crc })).dmaStop c.toNat 3).pulse 233).dmaOut
    else
      ((s2.setChan c.toNat (fun x => { x with phase := .moving, limit := s2.descLimit ch2 ch2.len })).dmaNext c.toNat).dmaOut
  else s1.dmaOut

/-- DMA_BURST_DONE (R515, R519): data of a host read comes with the event, that of DRAM and queues from the block itself. -/
def execDmaBurstDone (t : Nat) (c : BitVec 6) (data : List Byte) (perr : Bool) (s : State) :
    Host.Outcome State Fault Refusal :=
  let s1 := s.atTime t
  let ch := s1.chan c.toNat
  if (ch.state == .running || ch.state == .aborting) && ch.phase == .moving && !ch.qWait then
    if ch.isQueue then (s1.dmaQueueBurst c.toNat perr).dmaOut
    else
      let b := ch.burst
      if ch.srcDram then
        let a := s1.winAddr (ch.window.getD 0) (ch.src + b.1)
        let bad := ((blocksOf a b.2).filter (fun k => s1.dram.poison.contains k)).map
          (fun k => (max a (64 * k) - a, min (a + b.2) (64 * k + 64) - max a (64 * k)))
        ((s1.dmaPut c.toNat b.1 (memRead a b.2 s1.dram.mem) bad).dmaNext c.toNat).dmaOut
      else ((s1.dmaPut c.toNat b.1 (padTo b.2 0 data) []).dmaNext c.toNat).dmaOut
  else s1.dmaOut

/-- DMA_READBACK_DONE (R517). -/
def execDmaReadbackDone (t : Nat) (c : BitVec 6) (s : State) : Host.Outcome State Fault Refusal :=
  let s1 := s.atTime t
  let ch := s1.chan c.toNat
  (if ch.phase == .readBack then s1.dmaComplete c.toNat ch.endCode else s1).dmaOut

/-- DMA_LINK_REREAD_DONE (R530). -/
def execDmaLinkRereadDone (t : Nat) (c : BitVec 6) (link : BitVec 64) (s : State) : Host.Outcome State Fault Refusal :=
  let s1 := s.atTime t
  let ch := s1.chan c.toNat
  if ch.phase == .reread then
    if link.getLsbD 0 then
      (if ch.kick then s1.dmaReread c.toNat
       else s1.setChan c.toNat (fun x => { x with state := .idleAtEnd, phase := .none })).dmaOut
    else (s1.dmaFetch c.toNat (link.toNat / 32 * 32)).dmaOut
  else s1.dmaOut

/-- DMA_QUEUE_DATA (R519): data in the queue ends the wait. -/
def execDmaQueueData (t : Nat) (c : BitVec 6) (perr : Bool) (s : State) : Host.Outcome State Fault Refusal :=
  let s1 := s.atTime t
  let ch := s1.chan c.toNat
  (if ch.qWait && ch.phase == .moving && !((s1.q (ch.queue.getD 0)).words == 0) then
    (s1.setChan c.toNat (fun x => { x with qWait := false })).dmaQueueBurst c.toNat perr else s1).dmaOut

/-- Modes in which START and CHAIN_KICK are ignored (R513). -/
def Mode.noDma : Mode → Bool
  | .boot | .standby | .scrub => true
  | _ => false

/-- A write of 1 to ABORT (R524, R525): a channel that waits on a queue and has issued no burst yet is between descriptors. -/
def State.dmaAbort (c : Nat) (s : State) : State :=
  let ch := s.chan c
  match ch.state with
  | .running =>
    match ch.phase with
    | .moving =>
      if ch.qWait && ch.moved = 0 then (s.setChan c (fun x => { x with residue := 0, desc := x.last })).dmaStop c 2
      else
      let s1 := s.setChan c (fun x => { x with state := .aborting, kick := false })
      if ch.isQueue then s1.dmaDrain c else s1
    | .readBack => s.setChan c (fun x => { x with state := .aborting, kick := false })
    | _ => (s.setChan c (fun x => { x with residue := 0 })).dmaStop c 2
  | .idleAtEnd => (s.setChan c (fun x => { x with residue := 0 })).dmaStop c 2
  | _ => s

/-- QUIESCE has been taken on the port: the device issues no further requests there (R538). -/
def State.portQuiet (p : Nat) (s : State) : Bool := (s.port p).quiesce.isSome || (s.port p).link == .quiesced

/-- A write of 1 to START, alone or with ABORT (R513). -/
def State.dmaStart (c : Nat) (abortToo : Bool) (s : State) : State :=
  let ch := s.chan c
  if ch.state == .idle then
    if s.mode.mode.noDma || s.dma.latched || s.portQuiet ch.port then s else s.dmaFetch c ch.desc
  else if abortToo then s.dmaAbort c else s

/-- A kick (R530). -/
def State.dmaKick (c : Nat) (s : State) : State :=
  let ch := s.chan c
  if s.mode.mode.noDma then s
  else match ch.state with
    | .running | .aborting => s.setChan c (fun x => { x with kick := true })
    | .idleAtEnd =>
      if ch.phase == .reread || s.portQuiet ch.port then s.setChan c (fun x => { x with kick := true }) else s.dmaReread c
    | _ => s

/-- LATCHED is cleared: every STOPPED channel returns to IDLE (R527). -/
def State.dmaErrClear (s : State) : State :=
  { s with dma := { s.dma with latched := false, count := 0,
                               chans := s.dma.chans.map (fun p =>
                                 (p.1, if p.2.state == .stopped then { p.2 with state := .idle } else p.2)) } }

/-- DMA_START (R513). -/
def execDmaStart (t : Nat) (c : BitVec 6) (abortToo : Bool) (s : State) : Host.Outcome State Fault Refusal :=
  ((s.atTime t).dmaStart c.toNat abortToo).dmaOut

/-- DMA_ABORT (R524). -/
def execDmaAbort (t : Nat) (c : BitVec 6) (s : State) : Host.Outcome State Fault Refusal :=
  ((s.atTime t).dmaAbort c.toNat).dmaOut

/-- CHAIN_KICK (R530). -/
def execChainKick (t : Nat) (c : BitVec 6) (s : State) : Host.Outcome State Fault Refusal :=
  ((s.atTime t).dmaKick c.toNat).dmaOut

/-- DMA_ERR_CLEAR (R527). -/
def execDmaErrClear (t : Nat) (s : State) : Host.Outcome State Fault Refusal := ((s.atTime t).dmaErrClear).dmaOut

/-- The channel is at work: RUNNING, ABORTING or IDLE_AT_END. -/
def DmaState.isActive : DmaState → Bool
  | .running | .aborting | .idleAtEnd => true
  | _ => false

/-- One active channel is stopped by an error on its way, in the given state (R527, R537). -/
def State.dmaKill (st : DmaState) (s : State) (c : Nat) : State :=
  if (s.chan c).state.isActive then
    (s.setChan c (fun x => { x with state := st, phase := .none, code := 4, qWait := false })).dmaInt c
  else s

/-- A bus error (R526, R527). -/
def State.busError (kind port addr : Nat) (s : State) : State :=
  if s.dma.latched then { s with dma := { s.dma with count := satAdd 0xFFFF s.dma.count 1 } }
  else
    let s1 := { s with dma := { s.dma with latched := true, kind := BitVec.ofNat 3 kind, errPort := port, errAddr := addr,
                                           count := satAdd 0xFFFF s.dma.count 1 } }
    ((List.range 64).foldl (State.dmaKill .stopped) s1).pulse 232

/-- BUS_ERROR (R527). -/
def execBusError (t : Nat) (kind : BitVec 3) (port : BitVec 1) (addr : BitVec 64) (s : State) :
    Host.Outcome State Fault Refusal :=
  ((s.atTime t).busError kind.toNat port.toNat addr.toNat).dmaOut

/-- DMA_BIND (R509, R519). -/
def takeDmaBind (h : Hdr) (channel window : BitVec 8) (queue : BitVec 16) (port : BitVec 8) (s : State) : State :=
  s.take h 0x0D02 [.b] true (some 0)
    (decide (channel.toNat < 64) && (queue == 0xFFFF || isBindable queue.toNat) && (port == 0 || (port == 1 && s.host.split))) (fun s =>
    let c := channel.toNat
    let ch := s.chan c
    let win := if window = 0xFF then none else some window.toNat
    let q := if queue = 0xFFFF then none else some queue.toNat
    let other := (List.range 64).find? (fun i => i != c && q.isSome && (s.chan i).queue == q)
    if ch.state != .idle then .fail cState [] s
    else if win.isSome && (s.win window.toNat).isNone then .fail cState [] s
    else match other with
      | some o => .fail cConflict (conflictData 4 queue.toNat 7 o) s
      | none =>
        let changed := ch.window != win || ch.queue != q || ch.port != port.toNat
        let n := if changed then ch.carry.length else 0
        let s1 := match ch.queue with
          | some old => s.setQ old (fun x => { x with consumer := none })
          | none => s
        let s2 := match q with
          | some new => s1.setQ new (fun x => { x with consumer := some c })
          | none => s1
        .ok (le 1 n) [] (s2.setChan c (fun x =>
          { x with window := win, queue := q, port := port.toNat, carry := if changed then [] else x.carry })))

/-- DMA_BIND. -/
def execDmaBind (h : Hdr) (channel window : BitVec 8) (queue : BitVec 16) (port : BitVec 8) (s : State) :
    Host.Outcome State Fault Refusal := (takeDmaBind h channel window queue port s).out

end Sys2Proof.Machine
end

