-- ==== Sys2Proof/Machine/Memory.lean ====
section
/-! DEFINITION. The DRAM controller: scheduling, refresh, errors, sparing, windows and BAR2 (chapters "DRAM controller" and
"Host link, hot-plug and command mailbox", R552 to R554, R578, R579, R654). -/

namespace Sys2Proof.Machine

/-! ## Channels, panic and the Pan queues -/

/-- A channel. -/
def State.dch (c : Nat) (s : State) : DramChan := sget DramChan.reset c s.dram.chans

/-- Change a channel. -/
def State.setDch (c : Nat) (f : DramChan → DramChan) (s : State) : State :=
  { s with dram := { s.dram with chans := supd DramChan.reset c f s.dram.chans } }

/-- Accesses of an RT port at a channel that its Pan queue stands for: writes not yet served, or reads whose data is still out. -/
def DramChan.outstanding (p : Nat) (c : DramChan) : Nat :=
  if p < 2 then (c.reqs.filter (fun r => r.port == p && r.write)).length
  else (c.reqs.filter (fun r => r.port == p)).length + (c.flight.filter (fun r => r.port == p)).length

/-- The Pan queue of RT port `p` and channel `c`, and its panic bit, brought up to date (R456, R496). The words of a write
queue are the writes not yet served; a read queue is kept full but for the reads still out (log entry 15). -/
def State.panNote (p c : Nat) (s : State) : State :=
  let n := (s.dch c).outstanding p
  let i := 8 * p + c
  let w := if p < 2 then min 512 n else 512 - n
  let on := if p < 2 then decide (8192 ≤ 64 * w) || (s.dram.panic.getLsbD i && decide (4096 < 64 * w))
            else decide (0 < n) && (decide (64 * w ≤ 16384) || (s.dram.panic.getLsbD i && decide (64 * w < 24576)))
  let mask := BitVec.twoPow 32 i
  { s with pantry := { s.pantry with pan := supd PanQueue.reset i (fun q => { q with words := w }) s.pantry.pan },
           dram := { s.dram with panic := if on then s.dram.panic ||| mask else s.dram.panic &&& ~~~mask } }

/-- Every Pan queue of a channel brought up to date. -/
def State.panNotes (c : Nat) (s : State) : State := (List.range 4).foldl (fun s p => s.panNote p c) s

/-- A word leaves, or enters, the Pan queue of an RT port: its head moves on. -/
def State.panMove (p c : Nat) (s : State) : State :=
  if p < 4 then
    { s with pantry := { s.pantry with
        pan := supd PanQueue.reset (8 * p + c) (fun q => { q with head := (q.head + 1) % 512 }) s.pantry.pan } }
  else s

/-- RT port `p` is in panic (R456). -/
def State.inPanic (p : Nat) (s : State) : Bool := (List.range 8).any (fun c => s.dram.panic.getLsbD (8 * p + c))

/-- Some RT port is in panic. -/
def State.anyPanic (s : State) : Bool := s.dram.panic != 0

/-! ## Refresh (R463 to R466) -/

/-- tREFI of a class in ns. -/
def tRefi (cls : Nat) : Nat := if cls < 2 then 3904 else if cls = 2 then 1952 else 976

/-- Ceiling of a class in units. -/
def refCeiling (cls : Nat) : Nat := if cls = 0 then 8 else if cls = 1 then 6 else if cls = 2 then 4 else 0

/-- REFRESH_UNIT_DUE (R464). -/
def execRefreshUnitDue (t : Nat) (ch : BitVec 3) (s : State) : Host.Outcome State Fault Refusal :=
  let s1 := s.atTime t
  let c := s1.dch ch.toNat
  let r := tRefi c.cls
  (s1.setDch ch.toNat (fun x =>
    if !s1.anyPanic then { x with due := x.due + 1 }
    else if c.debt + r ≤ refCeiling c.cls * r then { x with debt := x.debt + r }
    else { x with forcedDue := x.forcedDue + 1 })).out

/-- A change of class by one (R464, R465): units beyond the new ceiling are forced; a lower class forces nothing. -/
def State.classTo (ch cls : Nat) (s : State) : State :=
  let c := s.dch ch
  let r := tRefi cls
  let k := if c.cls < cls then divUp c.debt r - refCeiling cls else 0
  (s.setDch ch (fun x => { x with cls := cls, forcedDue := x.forcedDue + k, debt := x.debt - k * r })).pulseIf
    (decide (0 < k)) 208

/-- One step of the class towards the report (R465); a further step is due 8 us later. -/
def State.classStep (ch : Nat) (s : State) : State :=
  let c := s.dch ch
  let n := if c.cls < c.report then c.cls + 1 else c.cls - 1
  if c.cls = c.report then s.setDch ch (fun x => { x with stepAt := none })
  else (s.classTo ch n).setDch ch (fun x => { x with stepAt := if n = c.report then none else some (s.now + 8000) })

/-- MR4_READ (R463, R465). -/
def execMr4Read (t : Nat) (ch : BitVec 3) (cls : BitVec 2) (s : State) : Host.Outcome State Fault Refusal :=
  let s1 := (s.atTime t).setDch ch.toNat (fun x => { x with report := cls.toNat })
  (if (s1.dch ch.toNat).stepAt.isSome then s1 else s1.classStep ch.toNat).out

/-- REFRESH_CLASS_STEP (R465). -/
def execRefreshClassStep (t : Nat) (ch : BitVec 3) (s : State) : Host.Outcome State Fault Refusal :=
  let s1 := s.atTime t
  (match (s1.dch ch.toNat).stepAt with
   | some d => if d ≤ s1.now then s1.classStep ch.toNat else s1
   | none => s1).out

/-- DQS_OSC_RUN (R455): every channel in service owes one run, served under rule 1 of R458. -/
def execDqsOscRun (t : Nat) (s : State) : Host.Outcome State Fault Refusal :=
  let s1 := s.atTime t
  ((setBits 8 s1.dram.chOk.toNat).foldl (fun s c => s.setDch c (fun x => { x with osc := true })) s1).out

/-! ## Scheduling (R458 to R462) -/

/-- The older of two requests, ties to the lower port number. -/
def olderReq (a b : DramReq) : DramReq :=
  if b.at_ < a.at_ || (b.at_ == a.at_ && decide (b.port < a.port)) then b else a

/-- The oldest request that meets a condition. -/
def oldestReq (f : DramReq → Bool) (l : List DramReq) : Option DramReq :=
  match l.filter f with
  | [] => none
  | r :: rs => some (rs.foldl olderReq r)

/-- The request that rules 2, 4, 5 and 6 of R458 choose, rule 3 standing between the first and the others. -/
def State.pickReq (panic : Bool) (c : DramChan) (s : State) : Option DramReq :=
  if panic then oldestReq (fun r => decide (r.port < 4) && s.inPanic r.port) c.reqs
  else (oldestReq (fun r => r.cls == 0) c.reqs).or ((oldestReq (fun r => r.cls == 1) c.reqs).or
    (oldestReq (fun r => r.cls == 2) c.reqs))

/-- A request is served: it leaves the queue, a read waits for its data, and its bytes are counted (R462). -/
def State.serve (ch : Nat) (r : DramReq) (s : State) : State :=
  let s1 := s.setDch ch (fun x => { x with reqs := x.reqs.erase r,
                                           flight := if r.write then x.flight else x.flight ++ [{ r with at_ := s.now }] })
  let s2 := { s1 with dram := { s1.dram with count := supd 0 r.port (· + r.bytes) s1.dram.count } }
  (if r.write then s2.panMove r.port ch else s2).panNotes ch

/-- Bytes that a step of the SCRUB or WIPE port transfers (R462). -/
def State.moved (port n : Nat) (s : State) : State := { s with dram := { s.dram with count := supd 0 port (· + n) s.dram.count } }

/-- DRAM_COMMAND_SLOT (R458). Bank timing is left out: every request is eligible (log entry 15). -/
def execDramCommandSlot (t : Nat) (ch : BitVec 3) (s : State) : Host.Outcome State Fault Refusal :=
  let s1 := (s.atTime t).panNotes ch.toNat
  let c := s1.dch ch.toNat
  if 0 < c.forcedDue then
    ({ s1 with dram := { s1.dram with forced := satAdd 0xFFFF s1.dram.forced 1 } }.setDch ch.toNat
      (fun x => { x with forcedDue := x.forcedDue - 1 })).out
  else if c.osc then (s1.setDch ch.toNat (fun x => { x with osc := false })).out
  else match s1.pickReq true c with
    | some r => (s1.serve ch.toNat r).out
    | none =>
      if !s1.anyPanic && decide (0 < c.due) then (s1.setDch ch.toNat (fun x => { x with due := x.due - 1 })).out
      else if !s1.anyPanic && decide (0 < c.debt) then
        (s1.setDch ch.toNat (fun x => { x with debt := x.debt - tRefi x.cls })).out
      else match s1.pickReq false c with
        | some r => (s1.serve ch.toNat r).out
        | none => s1.out

/-- REQUEST_PROMOTE (R459). -/
def execRequestPromote (t : Nat) (s : State) : Host.Outcome State Fault Refusal :=
  let s1 := s.atTime t
  let up := fun (r : DramReq) =>
    if r.since + s1.dram.ageLimit ≤ s1.now && 0 < r.cls then { r with cls := r.cls - 1, since := s1.now } else r
  ((List.range 8).foldl (fun s c => s.setDch c (fun x => { x with reqs := x.reqs.map up })) s1).out

/-- DRAM_PORT_WINDOW (R462, R484): counts in units of 64 bytes. -/
def execDramPortWindow (t : Nat) (s : State) : Host.Outcome State Fault Refusal :=
  let s1 := s.atTime t
  ({ s1 with dram := { s1.dram with latched := s1.dram.count, count := [] } }).out

/-! ## Errors (R469 to R475) -/

/-- A new log entry, or a further occurrence of a corrected error (R474). -/
def State.logErr (addr ch port type : Nat) (words : BitVec 8) (s : State) : State :=
  let isCorr := type == 0 || type == 3
  let r := s.free 50
  let e : LogEntry := { time := (s.now - s.rst.endedAt) / 1000, addr := addr, ch := ch, port := port, type := type,
                        words := words, phys := r.1, count := 1 }
  if isCorr && s.dram.log.any (fun x => x.addr == addr && x.ch == ch) then
    { s with dram := { s.dram with log := s.dram.log.map (fun x =>
        if x.addr == addr && x.ch == ch then { x with count := satAdd 0xFFFF x.count 1 } else x) } }
  else if s.dram.log.length < 256 then
    { r.2 with dram := { s.dram with log := s.dram.log ++ [e] } }
  else if isCorr then { s with dram := { s.dram with dropCorr := s.dram.dropCorr + 1 } }
  else match s.dram.log.find? (fun x => x.type == 0 || x.type == 3) with
    | some old => { r.2 with dram := { s.dram with log := s.dram.log.erase old ++ [e], dropCorr := s.dram.dropCorr } }
    | none => ({ s with dram := { s.dram with dropUnc := s.dram.dropUnc + 1 } }).pulse 215

/-- A channel is declared failed (R475, R476): in the resilient layout a data channel is rebuilt onto channel 7, a retirement in progress
goes on from the parity, and a failure of channel 7 itself ends what walks there. -/
def State.chFail (ch : Nat) (s : State) : State :=
  let s1 := ({ s with dram := { s.dram with failedCh := ch } }).pulse 213
  let d := s1.dram
  let off := d.chOk &&& ~~~(BitVec.twoPow 8 ch)
  if !d.resilient then s1
  else if ch = 7 then
    let s2 := { s1 with dram := { d with spare := 3, chOk := off, spared := none, rebuild := none } }
    match d.rebuild.bind (·.ctx) with
    | some n => s2.failWith n cHw
    | none => s2
  else
    match d.rebuild with
    | some r => if r.ch = ch then { s1 with dram := { d with chOk := off, rebuild := some { r with retire := false } } } else s1
    | none =>
      if d.spare = 0 then
        { s1 with dram := { d with spare := 1, spared := some ch, chOk := off,
                                   rebuild := some { ch := ch, retire := false, restore := false, pos := 0, ctx := none } } }
      else s1

/-- The blocks of a channel with uncorrectable errors in the last second; at four distinct ones the channel fails (R475). -/
def State.noteBlock (ch b : Nat) (s : State) : State :=
  let fresh := ((s.dch ch).errs.filter (fun e => decide (s.now < e.2 + 1000000000) && e.1 != b)) ++ [(b, s.now)]
  let s1 := s.setDch ch (fun x => { x with errs := fresh })
  if 4 ≤ fresh.length then (s1.setDch ch (fun x => { x with errs := [] })).chFail ch else s1

/-- A block becomes uncorrectable: its reads return POISON until a full write replaces it (R471), and the data under that mark are
free values (log entry 157). -/
def State.poisonBlock (b : Nat) (s : State) : State :=
  if s.dram.poison.contains b then s
  else
    let r := s.frees 8 64
    let d := r.2.dram
    { r.2 with dram := { d with poison := d.poison ++ [b], mem := memWrite (64 * b) (r.1.map (BitVec.ofNat 8)) d.mem } }

/-- The stripe of a block: from its data address, or from the channel offset of a parity block (R454). -/
def stripeOf (data : Bool) (addr : Nat) : Nat := if data then addr / 64 / 7 else addr / 512 * 7 + addr / 64 % 8

/-- A block with an uncorrectable error can be rebuilt from the rest of its stripe (R471): the parity is held, no other block of the stripe is
lost or uncorrectable. -/
def State.rebuildable (addr : Nat) (data : Bool) (s : State) : Bool :=
  let k := stripeOf data addr
  s.dram.parityAt k && (List.range 7).all (fun c =>
    !s.dram.lostAt c k && ((data && 7 * k + c == addr / 64) || !s.dram.poison.contains (7 * k + c)))

/-- An error of the block at `addr` in channel `ch`, found by a request of `port` (R470, R471): a data address, or the channel offset of a
parity or ECC block. -/
def State.eccErr (addr ch port : Nat) (data : Bool) (err : EccResult) (s : State) : State :=
  let corr := fun (type : Nat) (w : BitVec 8) =>
    ((({ s with dram := { s.dram with corr := satAdd 0xFFFF s.dram.corr 1 } }).logErr addr ch port type w).pulse 210)
  let unc := fun (type : Nat) (w : BitVec 8) (second : Bool) =>
    let s1 := { s with dram := { s.dram with uncorr := satAdd 0xFFFF s.dram.uncorr 1 } }
    let rebuilt := s.rebuildable addr data && !second
    let s2 := if rebuilt || !data then s1 else s1.poisonBlock (addr / 64)
    let s3 := s2.logErr addr ch port (if type = 1 && rebuilt then 2 else type) w
    (s3.pulse (if rebuilt then 212 else 211)).noteBlock ch (addr / 64)
  match err with
  | .clean => s
  | .corrected w => corr 0 w
  | .eccCorrected => corr 3 0
  | .uncorrectable w => unc 1 w false
  | .stripeUncorrectable w => unc 1 w true
  | .eccUncorrectable => unc 4 0 false
  | .addressCheck => unc 5 0 false

/-- What a read finds (R471): a block that is uncorrectable stays so until a full write replaces it; which words are wrong is open. -/
def State.found (r : DramReq) (err : EccResult) (s : State) : EccResult × State :=
  if err == .clean && !r.parity && s.dram.poison.contains (r.addr / 64) then
    let x := s.free 8
    (.uncorrectable (BitVec.ofNat 8 x.1), x.2)
  else (err, s)

/-- DRAM_READ_RETURN (R470, R471): the oldest read of the channel. -/
def execDramReadReturn (t : Nat) (ch : BitVec 3) (err : EccResult) (s : State) : Host.Outcome State Fault Refusal :=
  let s1 := s.atTime t
  match (s1.dch ch.toNat).flight with
  | [] => s1.out
  | r :: rest =>
    let s2 := s1.setDch ch.toNat (fun x => { x with flight := rest })
    let f := ((if 2 ≤ r.port then s2.panMove r.port ch.toNat else s2).panNotes ch.toNat).found r err
    (f.2.eccErr r.addr ch.toNat r.port (!r.parity) f.1).out

/-- DRAM_ACCESS_TIMEOUT (R475, R526): an access without a response for 10 us. -/
def execDramAccessTimeout (t : Nat) (ch : BitVec 3) (s : State) : Host.Outcome State Fault Refusal :=
  let s1 := s.atTime t
  match (s1.dch ch.toNat).flight with
  | [] => s1.out
  | r :: rest =>
    if r.at_ + 10000 ≤ s1.now then
      let off := match s1.dram.windows.find? (fun w => decide (w.2.base ≤ r.addr) && decide (r.addr < w.2.base + w.2.size)) with
        | some w => r.addr - w.2.base
        | none => r.addr
      ((((s1.setDch ch.toNat (fun x => { x with flight := rest })).logErr r.addr ch.toNat r.port 6 0).chFail
        ch.toNat).busError 5 0 off).dmaOut
    else s1.out

/-! ## Scrub, rebuild and channel commands -/

/-- 64-byte blocks of one channel. -/
def State.chanBlocks (s : State) : Nat := s.board.dramGiB * 2 ^ 30 / 8 / 64

/-- What a physical block is (R454): its address for the log, its channel, and whether it holds data. -/
def State.physBlock (pos : Nat) (s : State) : Nat × Nat × Bool :=
  let ch := pos % 8
  let i := pos / 8
  if i % 8 = 7 || (s.dram.resilient && ch == 7) then (64 * i, ch, false)
  else (64 * ((i / 8 * 7 + i % 8) * s.dataChans + ch), ch, true)

/-- The next block that a STANDBY wake zeroes, with PROGRESS of the SET_MODE that asked for it (R39, R480). -/
def State.wakeZero (s : State) : State :=
  match s.mode.trans with
  | some x =>
    let size := s.dramSize - s.protSize
    if s.mode.target != .idle || decide (size ≤ x.bytes) then s
    else
      let n := x.bytes + 64
      let a := s.protSize + x.bytes
      let s1 := State.moved 11 64 { s with
        mode := { s.mode with trans := some { x with bytes := n } },
        dram := { s.dram with mem := memZero a 64 s.dram.mem, poison := s.dram.poison.filter (fun b => b != a / 64) } }
      match x.ctx with
      | some c => s1.setCtx c (fun y => { y with progress := min 4095 (4096 * n / size) })
      | none => s1
  | none => s

/-- DRAM_SCRUB_STEP (R473): nothing is scrubbed in self-refresh; on a wake from STANDBY the discarded partition is zeroed (R39). -/
def execDramScrubStep (t : Nat) (err : EccResult) (s : State) : Host.Outcome State Fault Refusal :=
  let s1 := s.atTime t
  if s1.mode.mode == .standby then s1.wakeZero.out
  else if s1.mode.mode == .boot then s1.out
  else
    let b := s1.physBlock s1.dram.pos
    let n := s1.dram.pos + 1
    let s2 := (s1.moved 10 64).eccErr b.1 b.2.1 10 b.2.2 err
    if s1.mode.mode == .scrub then
      let s3 := if b.2.2 then { s2 with dram := { s2.dram with
          mem := memZero b.1 64 s2.dram.mem, poison := s2.dram.poison.filter (fun x => x != b.1 / 64) } } else s2
      (({ s3 with dram := { s3.dram with pos := min n (8 * s1.chanBlocks) } }).moved 11 64).out
    else
    ({ s2 with dram := { s2.dram with
        pos := if 8 * s1.chanBlocks ≤ n then 0 else n,
        passes := if 8 * s1.chanBlocks ≤ n then s2.dram.passes + 1 else s2.dram.passes } }).out

/-- Bytes on the SCRUB port at one offset of a walk (R476, R478): six data blocks and the parity read and one block written; a healthy
channel's block is read directly; a copy back regenerates the parity as well. -/
def Rebuild.bytes (r : Rebuild) : Nat := if r.retire then 128 else if r.restore then 576 else 512

/-- DRAM_REBUILD_STEP (R476, R478): the next channel offset; at the end of the walk the spare is in use, or the parity is back. -/
def execDramRebuildStep (t : Nat) (s : State) : Host.Outcome State Fault Refusal :=
  let s1 := s.atTime t
  match s1.dram.rebuild with
  | none => s1.out
  | some r =>
    let s2 := s1.moved 10 r.bytes
    if r.pos + 1 < s1.chanBlocks then
      ({ s2 with dram := { s2.dram with rebuild := some { r with pos := r.pos + 1 } } }).out
    else
      let bitc := BitVec.twoPow 8 r.ch
      let s3 := if r.restore then
          { s2 with dram := { s2.dram with rebuild := none, spare := 0, spared := none, failedCh := 15,
                                           chOk := s2.dram.chOk ||| bitc } }
        else ({ s2 with dram := { s2.dram with rebuild := none, spare := 2, chOk := s2.dram.chOk &&& ~~~bitc } }).pulse 214
      (match r.ctx with
       | some n => s3.done n []
       | none => s3).out

/-- DRAM_CH_RETIRE (R478). -/
def takeDramChRetire (h : Hdr) (ch : BitVec 8) (s : State) : State :=
  s.take h 0x0C08 [.j, .w] true (some 0) (decide (ch.toNat < 7)) (fun s =>
    if !s.dram.resilient || s.dram.spare != 0 then .fail cState [] s
    else .go { s with dram := { s.dram with
        spare := 1, spared := some ch.toNat,
        rebuild := some { ch := ch.toNat, retire := true, restore := false, pos := 0, ctx := some h.ctx.toNat } } })

/-- DRAM_CH_RETIRE. -/
def execDramChRetire (h : Hdr) (ch : BitVec 8) (s : State) : Host.Outcome State Fault Refusal := (takeDramChRetire h ch s).out

/-- The passes of a channel test: each counts errors that nothing in the block fixes (free values), one partial each. -/
def State.testPasses (n : Nat) : Nat → Nat → State → Nat × State
  | 0, sum, s => (sum, s)
  | k + 1, sum, s =>
    let r := s.free 32
    State.testPasses n k (satAdd 0xFFFFFFFF sum r.1) (r.2.partialRec n 0 (le 4 r.1))

/-- DRAM_CH_TEST (R478): the errors counted are free values, and the passes end at once (log entry 16). -/
def takeDramChTest (h : Hdr) (ch passes : BitVec 8) (s : State) : State :=
  s.take h 0x0C09 [.j, .w] true (some 0) (decide (ch.toNat < 8) && decide (1 ≤ passes.toNat)) (fun s =>
    if !s.dram.resilient || s.dram.spare != 2 || s.dram.spared != some ch.toNat then .fail cState [] s
    else
      let r := State.testPasses h.ctx.toNat passes.toNat 0 s
      .ok (le 4 r.1) [] r.2)

/-- DRAM_CH_TEST. -/
def execDramChTest (h : Hdr) (ch passes : BitVec 8) (s : State) : Host.Outcome State Fault Refusal :=
  (takeDramChTest h ch passes s).out

/-- DRAM_CH_RESTORE (R478). -/
def takeDramChRestore (h : Hdr) (ch : BitVec 8) (s : State) : State :=
  s.take h 0x0C0A [.j, .w] true (some 0) (decide (ch.toNat < 8)) (fun s =>
    if !s.dram.resilient || s.dram.spare != 2 || s.dram.spared != some ch.toNat || s.dram.rebuild.isSome then .fail cState [] s
    else .go { s with dram := { s.dram with
      rebuild := some { ch := ch.toNat, retire := false, restore := true, pos := 0, ctx := some h.ctx.toNat } } })

/-- DRAM_CH_RESTORE. -/
def execDramChRestore (h : Hdr) (ch : BitVec 8) (s : State) : Host.Outcome State Fault Refusal :=
  (takeDramChRestore h ch s).out

/-- DRAM_CFG_STAGE (R453, R459, R473, R479): only the fields that FIELDS names are checked and set; the layout waits in the
NV store for the next device reset. -/
def takeDramCfgStage (h : Hdr) (fields layout prot scrub : BitVec 8) (age : BitVec 16) (s : State) : State :=
  let f := fun i => fields.getLsbD i
  s.take h 0x0C00 [.w] true (some 0)
    (decide (fields.toNat < 16) && (!f 0 || decide (layout.toNat < 2)) &&
      (!f 1 || (decide (1 ≤ prot.toNat) && decide (prot.toNat ≤ 8))) && (!f 2 || decide (250 ≤ age.toNat)) &&
      (!f 3 || (decide (1 ≤ scrub.toNat) && decide (scrub.toNat ≤ 168)))) (fun s =>
    let s1 := { s with
      dram := { s.dram with prot := if f 1 then prot.toNat else s.dram.prot,
                            ageLimit := if f 2 then age.toNat else s.dram.ageLimit,
                            scrubH := if f 3 then scrub.toNat else s.dram.scrubH } }
    if !f 0 then .ok [] [] s1
    else if !nvWritable s.sec.lifecycle 3 then .fail cLifecycle [] s
    else match s1.nvPut .ownerCfg (le 1 layout.toNat) .layout (some h.ctx.toNat) with
      | some s2 => .go s2
      | none => .fail cHw [] s)

/-- DRAM_CFG_STAGE. -/
def execDramCfgStage (h : Hdr) (fields layout protEighths scrubHours : BitVec 8) (ageLimit : BitVec 16) (s : State) :
    Host.Outcome State Fault Refusal := (takeDramCfgStage h fields layout protEighths scrubHours ageLimit s).out

/-- DRAM_TRAIN (R455): ends when the training of every channel does. -/
def takeDramTrain (h : Hdr) (s : State) : State :=
  s.take h 0x0C07 [.d] true (some 0) true (fun s => .go { s with dram := { s.dram with trainCtx := some h.ctx.toNat } })

/-- DRAM_TRAIN. -/
def execDramTrain (h : Hdr) (s : State) : Host.Outcome State Fault Refusal := (takeDramTrain h s).out

/-- A result that a command writes to a window: ERR_STATE without the window (R654), ERR_RANGE outside it. -/
def State.winResult (w off : Nat) (bs data : List Byte) (s : State) : Res :=
  if (s.win w).isNone then .fail cState [] s
  else if !s.winHas w off bs.length then .fail cRange [] s
  else .ok data [] (s.dramWrite 9 (s.winAddr w off) bs)

/-- An entry of the log as R474 lays it out. -/
def LogEntry.bytes (e : LogEntry) : List Byte :=
  le 8 e.time ++ le 8 e.addr ++ le 1 e.ch ++ le 1 (bits e.phys 0 8) ++ le 1 (bits e.phys 8 8) ++ le 1 e.port ++
    le 4 (bits e.phys 16 18) ++ le 2 (bits e.phys 34 16) ++ le 1 e.type ++ le 1 e.words.toNat ++ le 2 e.count ++ le 2 0

/-- DRAM_LOG_READ (R474). -/
def takeDramLogRead (h : Hdr) (window clear : BitVec 8) (offset : BitVec 32) (s : State) : State :=
  s.take h 0x0C06 [.c] true (some 0) (decide (clear.toNat ≤ 1)) (fun s =>
    let d := s.dram
    match s.winResult window.toNat offset.toNat (d.log.flatMap LogEntry.bytes)
      (le 2 d.log.length ++ le 2 (min 0xFFFF d.dropCorr) ++ le 2 (min 0xFFFF d.dropUnc)) with
    | .ok data pay s1 =>
      .ok data pay (if clear = 1 then { s1 with dram := { s1.dram with log := [], dropCorr := 0, dropUnc := 0 } } else s1)
    | r => r)

/-- DRAM_LOG_READ. -/
def execDramLogRead (h : Hdr) (window clear : BitVec 8) (offset : BitVec 32) (s : State) :
    Host.Outcome State Fault Refusal := (takeDramLogRead h window clear offset s).out

/-! ## Windows and BAR2 -/

/-- Regions of DRAM in use: windows and the stagger buffer (R253), as base and size. -/
def State.regions (s : State) : List (Nat × Nat) :=
  s.dram.windows.map (fun w => (w.2.base, w.2.size)) ++ (if s.aln.stagSize = 0 then [] else [(s.aln.stagBase, s.aln.stagSize)]) ++
    (match s.aln.stagOld with | some (a, n, _) => [(a, n)] | none => []) ++
    (match s.mode.apply.bind (·.room) with | some (a, n, _) => if n = 0 then [] else [(a, n)] | none => [])

/-- The lowest place for `n` bytes between `lo` and `hi` outside every region in use (log entry 17). -/
def State.findRoom (lo hi n : Nat) (s : State) : Option Nat :=
  let used := s.regions
  let starts := lo :: (used.map (fun r => r.1 + r.2)).filter (fun a => decide (lo ≤ a))
  let good := starts.filter (fun a => decide (a + n ≤ hi) && used.all (fun r => decide (r.1 + r.2 ≤ a) || decide (a + n ≤ r.1)))
  good.foldl (fun b a => match b with | none => some a | some x => some (min x a)) none

/-- A channel that has failed training in the normal layout forbids every allocation (R455). -/
def State.dramHw (s : State) : Bool := !s.dram.resilient && s.dram.chOk != 0xFF

/-- Change the window table. -/
def State.setWin (w : Nat) (x : Option Window) (s : State) : State :=
  { s with dram := { s.dram with windows := match x with | some y => sput w y s.dram.windows | none => sdrop w s.dram.windows } }

/-- WIN_CREATE (R552, R654). -/
def takeWinCreate (h : Hdr) (window part : BitVec 8) (size : BitVec 32) (s : State) : State :=
  s.take h 0x0C01 [.w] true (some 0) (decide (part.toNat ≤ 1) && size != 0) (fun s =>
    let n := size.toNat * 65536
    let room := if part = 1 then s.findRoom 0 s.protSize n else s.findRoom s.protSize s.dramSize n
    if (s.win window.toNat).isSome then .fail cState [] s
    else if s.dramHw then .fail cHw [] s
    else match room with
      | none => .fail cResource [] s
      | some a => .ok [] [] (s.setWin window.toNat (some { base := a, size := n, prot := part == 1, bar2 := none })))

/-- WIN_CREATE. -/
def execWinCreate (h : Hdr) (window part : BitVec 8) (size : BitVec 32) (s : State) : Host.Outcome State Fault Refusal :=
  (takeWinCreate h window part size s).out

/-- Two ranges overlap. -/
def overlaps (a n b m : Nat) : Bool := decide (a < b + m) && decide (b < a + n)

/-- WIN_MAP (R552, R654). -/
def takeWinMap (h : Hdr) (window : BitVec 8) (bar2Off : BitVec 32) (s : State) : State :=
  s.take h 0x0C02 [.w] true (some 0) true (fun s =>
    let a := bar2Off.toNat * 65536
    match s.win window.toNat with
    | none => .fail cState [] s
    | some w =>
      if w.bar2.isSome then .fail cState [] s
      else if decide (2 ^ 32 < a + w.size) ||
          s.dram.windows.any (fun p => match p.2.bar2 with | some b => overlaps a w.size b p.2.size | none => false)
        then .fail cRange [] s
      else .ok [] [] (s.setWin window.toNat (some { w with bar2 := some a })))

/-- WIN_MAP. -/
def execWinMap (h : Hdr) (window : BitVec 8) (bar2Off : BitVec 32) (s : State) : Host.Outcome State Fault Refusal :=
  (takeWinMap h window bar2Off s).out

/-- WIN_UNMAP (R553, R654). -/
def takeWinUnmap (h : Hdr) (window : BitVec 8) (s : State) : State :=
  s.take h 0x0C03 [.w] true (some 0) true (fun s =>
    match s.win window.toNat with
    | none => .fail cState [] s
    | some w =>
      if w.bar2.isNone || s.dma.chans.any (fun c => c.2.window == some window.toNat && c.2.state == .running)
        then .fail cState [] s
      else .ok [] [] (s.setWin window.toNat (some { w with bar2 := none })))

/-- WIN_UNMAP. -/
def execWinUnmap (h : Hdr) (window : BitVec 8) (s : State) : Host.Outcome State Fault Refusal := (takeWinUnmap h window s).out

/-- The window is in use (R579). -/
def State.winInUse (w : Nat) (s : State) : Bool :=
  s.dma.chans.any (fun c => c.2.window == some w) ||
    s.host.ctxs.any (fun c => match c.2.buf with | some b => b.window == w | none => false) ||
    (s.ring.cap != 0 && s.ring.window == w) ||
    (match s.sv.job with
     | some j => j.refWin == w || j.refs.any (fun r => r.window == w && r.state == .waiting)
     | none => false)

/-- WIN_FREE (R579, R654). -/
def takeWinFree (h : Hdr) (window : BitVec 8) (s : State) : State :=
  s.take h 0x0C04 [.w] true (some 0) true (fun s =>
    match s.win window.toNat with
    | none => .fail cState [] s
    | some w =>
      if w.bar2.isSome || s.winInUse window.toNat then .fail cState [] s
      else .ok [] [] (s.setWin window.toNat none))

/-- WIN_FREE. -/
def execWinFree (h : Hdr) (window : BitVec 8) (s : State) : Host.Outcome State Fault Refusal := (takeWinFree h window s).out

/-- The data address behind a BAR2 address (R552, R553). -/
def State.bar2Addr (a : Nat) (s : State) : Option Nat :=
  s.dram.windows.findSome? (fun p => match p.2.bar2 with
    | some b => if b ≤ a && a < b + p.2.size then some (p.2.base + (a - b)) else none
    | none => none)

/-- The accesses for the bytes of a BAR2 access that lie in DRAM, one range a block. -/
def State.bar2Reqs (port : Nat) (write : Bool) (as : List Nat) (s : State) : State :=
  ((as.map (· / 64)).eraseDups).foldl (fun (s : State) b =>
    let l := as.filter (fun a => a / 64 == b)
    s.dramReq port write (l.headD 0) l.length) s

/-- BAR2_READ (R553, R472): byte by byte, 0 with BAR2_MISS outside every mapped window; POISON is passed on. -/
def execBar2Read (t : Nat) (port : BitVec 1) (addr : BitVec 32) (len : Nat) (s : State) : Host.Outcome State Fault Refusal :=
  let _ := port
  let s1 := s.atTime t
  if s1.mode.mode == .boot then (s1.emit (.hostRead (List.replicate len 0) false)).out
  else
    let as := (List.range len).map (fun i => s1.bar2Addr (addr.toNat + i))
    let bs := as.map (fun a => match a with | some x => sget 0 x s1.dram.mem | none => 0)
    let bad := as.any (fun a => match a with | some x => s1.dram.poison.contains (x / 64) | none => false)
    let s2 := s1.bar2Reqs 4 false (as.filterMap id)
    ((s2.emit (.hostRead bs bad)).pulseIf (as.any Option.isNone) 241).out

/-- The bytes of a BAR2 write that reach DRAM, one by one. -/
def State.bar2Put : Nat → List Byte → State → State
  | _, [], s => s
  | a, b :: bs, s =>
    match s.bar2Addr a with
    | some x => State.bar2Put (a + 1) bs { s with dram := { s.dram with mem := sset 0 x b s.dram.mem } }
    | none => State.bar2Put (a + 1) bs s

/-- BAR2_WRITE (R553, R460): byte by byte, discarded with BAR2_MISS outside every mapped window; full writes of a block end
its POISON. -/
def execBar2Write (t : Nat) (port : BitVec 1) (addr : BitVec 32) (data : List Byte) (s : State) :
    Host.Outcome State Fault Refusal :=
  let _ := port
  let s1 := s.atTime t
  if s1.mode.mode == .boot then s1.out
  else
    let as := (List.range data.length).map (fun i => s1.bar2Addr (addr.toNat + i))
    let hit := as.filterMap id
    let full := fun b => (List.range 64).all (fun i => hit.contains (64 * b + i))
    let s2 := State.bar2Put addr.toNat data s1
    let s3 := { s2 with dram := { s2.dram with poison := s2.dram.poison.filter (fun b => !full b) } }
    let s4 := s3.bar2Reqs 5 true hit
    (s4.pulseIf (as.any Option.isNone) 241).out

end Sys2Proof.Machine
end

