-- ==== Sys2Proof/Machine/PortOps.lean ====
section
/-! DEFINITION. Pattern programs, tap maps, channel assignment, spares and port states: what the commands and events of the
segment ports share (chapter "Segment ports, pattern generator and analogue front ends"). -/

namespace Sys2Proof.Machine

/-! ## Programs -/

/-- Program length in quarter-slots (R127). -/
def PatProgram.len (q : PatProgram) : Nat := q.ls.length + q.rep.length * q.nrep + q.bl.length

/-- SV entries of a section. -/
def svCount (l : List (BitVec 16)) : Nat := (l.filter (fun e => e.getLsbD 9)).length

/-- SV entries of the program, which are the slots of a tap line (R126, R128). -/
def PatProgram.slots (q : PatProgram) : Nat := svCount q.ls + svCount q.rep * q.nrep + svCount q.bl

/-- The program with its repeat section run at most twice: every group of 4 entries that the whole program has occurs in it,
since REP_LEN is a multiple of 4. -/
def PatProgram.short (q : PatProgram) : List (BitVec 16) :=
  q.ls ++ q.rep ++ (if 2 ≤ q.nrep then q.rep else []) ++ q.bl

/-- The quarter-slot-aligned groups of the shortened program. -/
def PatProgram.groups (q : PatProgram) : List (List (BitVec 16)) := chunks 4 (divUp q.short.length 4) q.short

/-- A group of a CDS program: each SV has an SR earlier in the group (R128). -/
def cdsGroup : Bool → List (BitVec 16) → Bool
  | _, [] => true
  | sr, e :: es => (!e.getLsbD 9 || sr) && cdsGroup (sr || e.getLsbD 8) es

/-- No SR or SV in the third or fourth entry of a group (R128, DENSE). -/
def denseGroup (g : List (BitVec 16)) : Bool := (g.drop 2).all (fun e => !e.getLsbD 8 && !e.getLsbD 9)

/-- The program can run under DENSE (R128). -/
def PatProgram.denseOk (q : PatProgram) : Bool := q.groups.all denseGroup

/-- The checks of R128 on a program. -/
def PatProgram.ok (dense : Bool) (q : PatProgram) : Bool :=
  q.len % 4 == 0 && decide (4 ≤ q.rep.length) && q.rep.length % 4 == 0 && decide (q.slots ≤ 1024) &&
    q.groups.all (fun g => decide (svCount g ≤ 1)) && (q.direct || q.groups.all (cdsGroup false)) &&
    (!dense || q.denseOk)

/-- DARK of the slots of a tap line, in order (R126). -/
def PatProgram.darks (q : PatProgram) : List Bool :=
  let d := fun (l : List (BitVec 16)) => (l.filter (fun e => e.getLsbD 9)).map (fun e => e.getLsbD 10)
  d q.ls ++ (List.replicate q.nrep (d q.rep)).flatten ++ d q.bl

/-- The program of the bank that a set of tables selects for a port (R131). -/
def progOf (banks : SMap PatProgram) (t : Tables) (p : Nat) : PatProgram :=
  sget PatProgram.reset (4 * p + (sget PatSel.reset p t.patSel).bank.toNat) banks

/-! ## Tap map and channels -/

/-- An entry of the tap map: input `t` of port `p` is number 16 p + t. -/
def tapEntry (t : Tables) (i : Nat) : TapEntry := sget TapEntry.reset i t.tapMap

/-- The enabled inputs of a port. -/
def enabledOf (t : Tables) (p : Nat) : List Nat := (List.range' (16 * p) 16).filter (fun i => (tapEntry t i).en)

/-- A port is in use (R174). -/
def inUse (t : Tables) (p : Nat) : Bool := !(enabledOf t p).isEmpty

/-- The dies of a member with a port in use. -/
def diesInUse (m : Member) (t : Tables) : List Nat :=
  (List.range m.dies).filter (fun k => (List.range' (12 * k) 12).any (inUse t))

/-- Slots per line of a die in quarter-slots: its longest active program (R124). -/
def dieLen (banks : SMap PatProgram) (t : Tables) (k : Nat) : Nat :=
  ((List.range' (12 * k) 12).map (fun p => (progOf banks t p).len)).foldl max 0

/-- The tap clock of every die after reset, in kHz: the manual gives none, and this one is within R122 under either profile (log entry
5). -/
def tapClkReset : Nat := 40000

/-- A die's tap clock in kHz. -/
def tapClkOf (t : Tables) (k : Nat) : Nat := sget tapClkReset k t.tapClk

/-- Columns that a tap covers, in time order (R139). -/
def TapEntry.columns (e : TapEntry) : List Int :=
  let n := if e.count = 0 then 1024 else e.count.toNat
  let st : Int := (if e.step2 then 2 else 1) * (if e.rev then -1 else 1)
  (List.range n).map (fun (i : Nat) => (e.col.toNat : Int) + (i : Int) * st)

/-- Adds columns to a set of columns held as the bits of a number; none where a column lies outside 0 to 8,191 or occurs
twice. -/
def addCols : List Int → Nat → Option Nat
  | [], acc => some acc
  | c :: cs, acc =>
    if 0 ≤ c ∧ c ≤ 8191 ∧ acc.testBit c.toNat = false then addCols cs (acc + 2 ^ c.toNat) else none

/-- The columns of a colour line of a port are covered once each and without a gap from 0 on (R139). -/
def lineCovered (t : Tables) (p c : Nat) : Bool :=
  let cols := ((enabledOf t p).filter (fun i => (tapEntry t i).line.toNat = c)).flatMap (fun i => (tapEntry t i).columns)
  match addCols cols 0 with
  | some acc => acc + 1 == 2 ^ cols.length
  | none => false

/-- FIRST + COUNT of every enabled tap lies within the selected program (R139). -/
def tapsFit (banks : SMap PatProgram) (t : Tables) (p : Nat) : Bool :=
  let n := (progOf banks t p).slots
  (enabledOf t p).all (fun i =>
    let e := tapEntry t i
    decide (e.first.toNat + (if e.count = 0 then 1024 else e.count.toNat) ≤ n))

/-- R139 for one port. -/
def check139 (banks : SMap PatProgram) (t : Tables) (p : Nat) : Bool :=
  (List.range 4).all (lineCovered t p) && tapsFit banks t p

/-- R99: tap clocks and slots per line among the dies with a port in use. -/
def check99 (m : Member) (dense : Bool) (banks : SMap PatProgram) (t : Tables) : Bool :=
  let ds := diesInUse m t
  let fs := ds.map (tapClkOf t)
  let ls := ds.map (fun k => dieLen banks t k / 4)
  if dense then fs.all (fun a => fs.all (fun b => decide (a ≤ 2 * b)))
  else fs.all (fun a => fs.all (fun b => a == b)) && ls.all (fun a => ls.all (fun b => a == b))

/-- R122 and R123: the tap clock range of the profile. -/
def clkRange (dense : Bool) (f : Nat) : Bool := decide (10000 ≤ f) && decide (f ≤ if dense then 40000 else 80000)

/-- Channels that the inputs of a die take (R140): input, channel, and whether it is the channel's second tap. -/
def assign (t : Tables) (dense : Bool) (k : Nat) : List (Nat × Nat × Bool) :=
  let ins := (List.range' (12 * k) 12).map (enabledOf t)
  if dense then
    (ins.foldl (fun (r : List (Nat × Nat × Bool) × Nat) l =>
      (r.1 ++ l.zipIdx.map (fun x => (x.1, r.2 + x.2 / 2, x.2 % 2 == 1)), r.2 + divUp l.length 2)) ([], 0)).1
  else (ins.flatten.zipIdx.take 96).map (fun x => (x.1, x.2, false))

/-- Channels that a die's tap map asks for (R140), 96 at most being there. -/
def channelsUsed (t : Tables) (dense : Bool) (k : Nat) : Nat :=
  let ns := (List.range' (12 * k) 12).map (fun p => (enabledOf t p).length)
  if dense then (ns.map (fun n => divUp n 2)).sum else ns.sum

/-- R140. -/
def check140 (m : Member) (dense : Bool) (t : Tables) : Bool :=
  (List.range m.dies).all (fun k => decide (channelsUsed t dense k ≤ 96))

/-- Covered columns of a colour line of a port (R207): the sum of COUNT over its taps. -/
def lineWidth (t : Tables) (p c : Nat) : Nat :=
  (((enabledOf t p).filter (fun i => (tapEntry t i).line.toNat = c)).map (fun i =>
    if (tapEntry t i).count = 0 then 1024 else (tapEntry t i).count.toNat)).sum

/-- The channel of an input, with whether it is the second tap. -/
def State.chanOfTap (i : Nat) (s : State) : Option (Nat × Bool) :=
  ((assign s.active s.dense (i / 192)).find? (fun x => x.1 == i)).map (·.2)

/-- The taps assigned to a home channel of a die. -/
def State.tapsOfChan (k ch : Nat) (s : State) : List Nat :=
  ((assign s.active s.dense k).filter (fun x => x.2.1 == ch)).map (·.1)

/-! ## Channels, spares and failures -/

/-- A channel of a die. -/
def State.ch (k c : Nat) (s : State) : Channel := sget Channel.reset c (s.die k).chans

/-- Change a channel of a die. -/
def State.setCh (k c : Nat) (f : Channel → Channel) (s : State) : State :=
  s.setDie k (fun d => { d with chans := supd Channel.reset c f d.chans })

/-- Spares are channels 96 to 103. -/
def spares : List Nat := List.range' 96 8

/-- The spare that carries a home channel's taps. -/
def State.coverOf (k home : Nat) (s : State) : Option Nat := spares.find? (fun c => (s.ch k c).covers == some home)

/-- A spare is free (R145). -/
def State.isFree (k c : Nat) (s : State) : Bool :=
  let x := s.ch k c
  !x.failed && !(x.covers.isSome && x.forFault)

/-- F of R148: the free spares of a die. -/
def State.freeSpares (k : Nat) (s : State) : Nat := (spares.filter (fun c => s.isFree k c)).length

/-- A spare that can take taps now: free, carrying none, in no handover and not in its own step; the lowest one is taken (log
entry 18). -/
def State.pickSpare (k : Nat) (s : State) : Option Nat :=
  let d := s.die k
  spares.find? (fun c => s.isFree k c && (s.ch k c).covers.isNone && d.rotCh != some c &&
    (match d.handover with | some h => h.spare != c | none => true))

/-- The home channel whose taps a channel carries now. -/
def State.carries (k c : Nat) (s : State) : Option Nat :=
  if c < 96 then (if (s.coverOf k c).isSome || (s.ch k c).failed then none else some c) else (s.ch k c).covers

/-- A channel carries taps (R148). -/
def State.carriesTaps (k c : Nat) (s : State) : Bool :=
  match s.carries k c with
  | some home => !(s.tapsOfChan k home).isEmpty
  | none => false

/-- A cause of the port event of R162 (bits as PORT_STATUS_READ has them), with its event. -/
def State.portEvent (p : Nat) (causes : BitVec 6) (s : State) : State :=
  (s.setSeg p (fun x => { x with causes := x.causes ||| causes })).pulse (32 + p)

/-- A port's state becomes another, with the cause "state change". -/
def State.portTo (p : Nat) (st : PortSt) (s : State) : State :=
  if (s.seg p).state == st then s else (s.setSeg p (fun x => { x with state := st })).portEvent p 2

/-- ACTIVE and COVERED follow the carriers of the port's taps (R157). -/
def State.syncCover (p : Nat) (s : State) : State :=
  let st := (s.seg p).state
  if st == .active || st == .covered then
    let cov := (enabledOf s.active p).any (fun i =>
      match s.chanOfTap i with
      | some x => (s.coverOf (p / 12) x.1).isSome
      | none => false)
    s.portTo p (if cov then .covered else .active)
  else s

/-- The same for every port of a die. -/
def State.syncDie (k : Nat) (s : State) : State := (List.range' (12 * k) 12).foldl (fun (s : State) p => s.syncCover p) s

/-- BG_HALT and BG_SLOW follow the free spares (R148); a halt raises the event of every port of the die. -/
def State.spareNote (k : Nat) (s : State) : State :=
  let f := s.freeSpares k
  let was := (s.die k).bgHalt
  let s1 := s.setDie k (fun d => { d with bgHalt := decide (f ≤ 1), bgSlow := f == 2 })
  if decide (f ≤ 1) && !was then (List.range' (12 * k) 12).foldl (fun (s : State) p => s.portEvent p 8) s1 else s1

/-- Ports whose taps a home channel has. -/
def State.portsOfChan (k home : Nat) (s : State) : List Nat := ((s.tapsOfChan k home).map (· / 16)).eraseDups

/-- A channel is declared failed (R144): the ports whose taps it carried have their event; uncovered taps wait for a
substitution; a spare that stood in during the channel's own step keeps the taps. -/
def State.declareFailed (k c : Nat) (s : State) : State :=
  if (s.ch k c).failed then s
  else
    let carried := if c < 96 then some c else (s.ch k c).covers
    let s1 := s.setCh k c (fun x => { x with failed := true })
    let s2 := (match carried with
      | some home => (s.portsOfChan k home).foldl (fun (s : State) p => s.portEvent p 4) s1
      | none => s1)
    let s3 :=
      if c < 96 then
        match s.coverOf k c with
        | some sp => s2.setCh k sp (fun x => { x with forFault := true })
        | none => s2.setDie k (fun d => { d with pendingSub := d.pendingSub ++ [c] })
      else
        match (s.ch k c).covers with
        | some home =>
          let s4 := s2.setCh k c (fun x => { x with covers := none, forFault := false })
          if (s.ch k c).forFault then s4.setDie k (fun d => { d with pendingSub := d.pendingSub ++ [home] }) else s4
        | none => s2
    (s3.spareNote k).syncDie k

/-- Taps of a die's failed home channels that no spare carries (R145), with their home channels. -/
def State.deadTaps (s : State) : List Nat :=
  (List.range s.board.member.dies).flatMap (fun k =>
    (assign s.active s.dense k).filterMap (fun x =>
      if (s.ch k x.2.1).failed && (s.coverOf k x.2.1).isNone then some x.1 else none))

/-- Handover time in ns (R142): max(0.15 ms, 3 line periods) in a capture mode; the line period is that of V_EST. -/
def State.handoverNs (s : State) : Nat :=
  let v := s.vNow.natAbs
  if s.mode.mode.isCapture && v != 0 then max 150000 (divUp (3 * 16 * 1000000000) v) else 150000

/-- Modes in which port states change (R51) and channels hand over. -/
def State.portsMove (s : State) : Bool :=
  s.mode.mode == .idle || s.mode.mode == .diagnose || s.mode.mode.isCapture

/-- Temperature bin of a trim set (R151), from Q8.8. -/
def trimBin (t : Int) : Nat := if t < 2560 then 0 else if t < 12800 then 1 else if t < 21760 then 2 else 3

/-- Acceptance of a calibration (R150), figures in 1/16 LSB. -/
def calAccepted (r : CalResult) : Bool :=
  decide (r.offRes.natAbs ≤ 8) && decide (r.gainRes.natAbs ≤ 8) && decide (r.inl ≤ 16) && decide (r.runDiff ≤ 8) && !r.fired

/-- An accepted calibration replaces the set of the temperature's bin (R151, R154). -/
def Channel.calibrated (r : CalResult) (temp : Int) (now : Nat) (x : Channel) : Channel :=
  { x with sets := x.sets.set (trimBin temp) { tag := temp, off := r.off, gain := r.gain, elem := r.elem },
           offRes := r.offRes, gainRes := r.gainRes, inl := r.inl, calTemp := temp, calAt := some now, calFails := 0 }

/-- One figure of the trims at a temperature (R152): linear between the sets whose tags bracket it, the nearest outside. -/
def trimAt (sets : List TrimSet) (temp : Int) (f : TrimSet → Int) : Int :=
  let below := sets.filter (fun x => decide (x.tag ≤ temp))
  let above := sets.filter (fun x => decide (temp < x.tag))
  let lo := below.foldl (fun (b : Option TrimSet) x => match b with | none => some x | some y => if y.tag < x.tag then some x else b) none
  let hi := above.foldl (fun (b : Option TrimSet) x => match b with | none => some x | some y => if x.tag < y.tag then some x else b) none
  match lo, hi with
  | some a, some b => f a + divRound ((f b - f a) * (temp - a.tag)) (b.tag - a.tag)
  | some a, none => f a
  | none, some b => f b
  | none, none => 0

/-- The element selection: that of the set whose tag is nearest (R152). -/
def trimElem (sets : List TrimSet) (temp : Int) : Nat :=
  match sets.foldl (fun (b : Option TrimSet) x =>
    match b with
    | none => some x
    | some y => if (x.tag - temp).natAbs < (y.tag - temp).natAbs then some x else b) none with
  | some x => x.elem
  | none => 0

/-- A trim moves by at most one unit towards its goal (R152). -/
def oneStep (now goal : Int) : Int := if now < goal then now + 1 else if goal < now then now - 1 else now

/-- The update of a channel's trims (R152). -/
def Channel.trimmed (temp : Int) (x : Channel) : Channel :=
  { x with off := oneStep x.off (trimAt x.sets temp TrimSet.off), gain := oneStep x.gain (trimAt x.sets temp TrimSet.gain),
           elem := trimElem x.sets temp }

/-- A die's trim sets as the NV store keeps them: 16 bytes a set, four sets a channel, in 8 KiB (log entry 19). -/
def State.trimBytes (k : Nat) (s : State) : List Byte :=
  padTo 8192 0 ((List.range 104).flatMap (fun c => (s.ch k c).sets.flatMap (fun x =>
    leS 2 x.tag ++ leS 4 x.off ++ leS 4 x.gain ++ le 4 x.elem ++ le 2 0)))

/-- A die's failed-channel record: one bit a channel. -/
def State.failedBytes (k : Nat) (s : State) : List Byte := le 13 (mkBits 104 (fun c => (s.ch k c).failed))

/-- Trim sets read back from their record. -/
def trimSetsOf (bs : List Byte) (c : Nat) : List TrimSet :=
  (List.range 4).map (fun j =>
    let o := 64 * c + 16 * j
    { tag := rdS bs o 2, off := rdS bs (o + 2) 4, gain := rdS bs (o + 6) 4, elem := rd bs (o + 10) 4 })

/-- A die loses its power or is reset. What the core has declared about its channels, and the counts of SPARE_STATUS, stand (R55, R146,
R164); a handover and a rotation step in progress end. -/
def State.dieOff (k : Nat) (s : State) : State :=
  let s1 := s.setDie k (fun d =>
    { d with powered := false, rotCh := none, rotUntil := 0, handover := none, pendingSub := [], progAt := 0, progEnd := 0, running := false,
             line := none, trigs := [], checkHits := [], backs := [], trimTemp := none, io33 := false })
  { s1 with ports := { s1.ports with clamp := s1.ports.clamp.filter (fun c => decide (c.1 / 192 ≠ k)) },
            clk := { s1.clk with lockFe := s1.clk.lockFe &&& ~~~(BitVec.twoPow 4 k) } }

/-- A die comes up and finds its pattern voltage (R66, R146, R153): its trim sets are those saved; its failed channels are those
declared since the device's reset, right after one those of the record; each failed home channel is to be covered anew. -/
def State.restoreTrims (k : Nat) (s : State) : State :=
  let d := s.die k
  let kept := match s.nvData (.failedCh k) with | some bs => leVal bs | none => 0
  let failed := fun c => if d.chans.isEmpty then bit kept c else (s.ch k c).failed
  let temp := s.dieTemp k
  let mk := fun c =>
    let sets := match s.nvData (.trims k) with | some bs => trimSetsOf bs c | none => Channel.reset.sets
    { s.ch k c with sets := sets, failed := failed c, covers := none, forFault := false, off := trimAt sets temp TrimSet.off,
                    gain := trimAt sets temp TrimSet.gain, elem := trimElem sets temp }
  let s1 := s.setDie k (fun _ => { d with
    powered := true, io33 := s.board.vddio33.getLsbD k, chans := (List.range 104).foldl (fun m c => sset Channel.reset c (mk c) m) [],
    pendingSub := (List.range 96).filter failed })
  s1.spareNote k

/-- The spares take the taps of the failed channels that wait for one (R144). -/
def State.substitute (k : Nat) (s : State) : State :=
  let todo := (s.die k).pendingSub
  let s1 := todo.foldl (fun (s : State) c =>
    match s.pickSpare k with
    | some sp => (s.setCh k sp (fun x => { x with covers := some c, forFault := true })).setDie k (fun d =>
        { d with pendingSub := d.pendingSub.filter (· != c) })
    | none => s) s
  (s1.spareNote k).syncDie k

/-- Trim sets and failed channels of every die go to the NV store (R153); `none` where the store refuses. -/
def State.saveTrims (ctx : Option Nat) (s : State) : Option State :=
  (List.range s.board.member.dies).foldl (fun (r : Option State) k =>
    r.bind (fun s => (s.nvPut (.trims k) (s.trimBytes k) .trim ctx).bind (fun s =>
      s.nvPut (.failedCh k) (s.failedBytes k) .trim ctx))) (some s)

/-- No figures yet of a tap in qualification. -/
def QualTap.reset : QualTap := { sum := 0, sq := 0, n := 0, darkSeen := false, bad := false }

/-! ## Power and port states -/

/-- The power-down actions of SWAP (R157): outputs low now, power off after 100 us, outputs released 1 ms later. The outputs of a port
without power are at high impedance already (R72). -/
def State.powerDown (p : Nat) (s : State) : State :=
  s.setSeg p (fun x =>
    if x.powered then { x with outLow := true, outHiZ := false, offAt := some (s.now + 100000), releaseAt := none, run := none }
    else { x with outLow := false, outHiZ := true, offAt := none, releaseAt := none, run := none })

/-- A port that has read absent enters SWAP (R159). -/
def State.removePort (p : Nat) (s : State) : State := (s.powerDown p).portTo p .swap

/-- Ports removed while no state could be entered (R51, R159). -/
def State.removals (s : State) : State :=
  (List.range s.board.member.ports).foldl (fun (s : State) p =>
    let x := s.seg p
    if !x.pres && x.ever && x.state != .swap then s.removePort p else s) s

/-- In THERMAL_HOLD and SCRUB a QUALIFY ends (R51). -/
def State.endQualify (s : State) : State :=
  (List.range s.board.member.ports).foldl (fun (s : State) p =>
    if (s.seg p).state == .qualify then (s.setSeg p (fun x => { x with run := none })).portTo p .isolated else s) s

/-- In STANDBY every port is unpowered (R51) and so at high impedance (R72), its state kept. -/
def State.portsOff (s : State) : State :=
  (List.range s.board.member.ports).foldl (fun (s : State) p =>
    s.setSeg p (fun x => { x with powered := false, outLow := false, outHiZ := true })) s

/-- Ports are powered again on leaving STANDBY, but for those in SWAP. -/
def State.portsOn (s : State) : State :=
  (List.range s.board.member.ports).foldl (fun (s : State) p =>
    s.setSeg p (fun x => { x with powered := x.pres && x.state != .swap, outHiZ := !(x.pres && x.state != .swap) })) s

/-- States that a port-state command is accepted from (R157). -/
def PortCmd.from (x : PortUnit) : PortCmd → Bool
  | .isolate => x.state == .active || x.state == .covered || x.state == .qualify
  | .swap => x.state == .isolated
  | .qualify _ _ _ => x.state == .swap && x.pres
  | .release => x.state == .qualify && x.qual == 1

/-- The opcode that stages a port-state command. -/
def PortCmd.op : PortCmd → Nat
  | .isolate => 0x0206 | .swap => 0x0207 | .qualify _ _ _ => 0x0208 | .release => 0x0209

/-- The action of a port-state command at its apply (R157). The HW_TRIP latch holds PPWR_EN_p low (R62). -/
def State.portAct (p : Nat) (c : PortCmd) (s : State) : State :=
  match c with
  | .isolate => (s.setSeg p (fun x => { x with run := none })).portTo p .isolated
  | .swap => (s.powerDown p).portTo p .swap
  | .qualify bank settle lines =>
    let sel := fun (t : Tables) => { t with patSel := supd PatSel.reset p (fun q => { q with bank := bank }) t.patSel }
    let s1 := { s with active := sel s.active, shadow := sel s.shadow }
    (s1.setSeg p (fun x =>
      { x with powered := !s.rst.thermTrip, outLow := false, outHiZ := s.rst.thermTrip, offAt := none, releaseAt := none, qual := 0, qualLines := 0,
               run := some { phase := .powering, until_ := s.now + settle * 1000000, lines := lines, settled := 0, inRun := 0,
                             done := 0, started := false, taps := [] } })).portTo p .qualify
  | .release => ((s.setSeg p (fun x => { x with run := none })).portTo p .active).syncCover p

/-- The staged port-state changes at their apply line (R158, R653): the opcodes of those that took effect, and how many were
dropped. -/
def State.applyPorts (s : State) : List Nat × Nat × State :=
  let r := s.staged.ports.foldl (fun (r : List Nat × Nat × State) x =>
    match x.2 with
    | some c =>
      if c.from (r.2.2.seg x.1) then (c.op :: r.1, r.2.1, r.2.2.portAct x.1 c) else (r.1, r.2.1 + 1, r.2.2.portEvent x.1 32)
    | none => r) ([], 0, s)
  (r.1, r.2.1, { r.2.2 with staged := { r.2.2.staged with ports := [] } })

end Sys2Proof.Machine
end

