-- ==== Sys2Proof/Machine/Ports.lean ====
section
/-! DEFINITION. The commands of the Ports and AFE family and the events of ports, spares and calibration (chapter "Segment
ports, pattern generator and analogue front ends", R564, R565). -/

namespace Sys2Proof.Machine

/-- A port of this member (R4). -/
def State.hasSeg (p : Nat) (s : State) : Bool := decide (p < s.board.member.ports)

/-- CFG_PROFILE (R48). -/
def takeCfgProfile (h : Hdr) (profile : BitVec 8) (s : State) : State :=
  s.take h 0x0200 [.idle] true (some 0) (decide (profile.toNat ≤ 1)) (fun s =>
    let s1 := { s with mode := { s.mode with profile := if profile = 0 then .fast else .dense } }
    .ok [] [] ((List.range s.board.member.dies).foldl (fun (s : State) k => s.syncDie k) s1))

/-- CFG_PROFILE. -/
def execCfgProfile (h : Hdr) (profile : BitVec 8) (s : State) : Host.Outcome State Fault Refusal :=
  (takeCfgProfile h profile s).out

/-- A length field with its zero rule (R127). -/
def zeroIs (d v : Nat) : Nat := if v = 0 then d else v

/-- A bank that the pending apply selects for a port (R131). -/
def State.pendingBank (p bank : Nat) (s : State) : Bool :=
  (s.locked [0x0202] && (sget PatSel.reset p s.shadow.patSel).bank.toNat == bank) ||
  (s.locked [0x0208] && (match sget none p s.staged.ports with | some (.qualify b _ _) => b.toNat == bank | _ => false))

/-- PAT_BANK_STAGE (R99, R128, R131). -/
def takePatBankStage (h : Hdr) (bank mode lsLen repLen : BitVec 8) (nrep blLen : BitVec 16) (ports : BitVec 64) (s : State) :
    State :=
  let ls := zeroIs 256 lsLen.toNat
  let rep := zeroIs 64 repLen.toNat
  let bl := zeroIs 512 blLen.toNat
  s.take h 0x0201 [.s] true (some (2 * (ls + rep + bl)))
    (decide (bank.toNat ≤ 3) && decide (mode.toNat ≤ 1) && decide (repLen.toNat < 64) && decide (nrep.toNat < 1024) &&
      decide (blLen.toNat < 512) && decide (ports.toNat < 2 ^ s.board.member.ports)) (fun s =>
    let es := (chunks 2 (ls + rep + bl) (s.payload h)).map (fun b => BitVec.ofNat 16 (leVal b))
    let q : PatProgram :=
      { direct := mode = 1, ls := es.take ls, rep := (es.drop ls).take rep, nrep := zeroIs 1024 nrep.toNat,
        bl := es.drop (ls + rep) }
    let ps := setBits 64 ports.toNat
    let banks := ps.foldl (fun m p => sset PatProgram.reset (4 * p + bank.toNat) q m) s.banks
    if es.any (fun e => decide (2 ^ 11 ≤ e.toNat)) || !q.ok s.dense ||
        !check99 s.board.member s.dense banks s.shadowView then .fail cRange [] s
    else if ps.any (fun p => (sget PatSel.reset p s.active.patSel).bank.toNat == bank.toNat) then .fail cState [] s
    else if ps.any (fun p => s.pendingBank p bank.toNat) then
      .wait (s.setCtx h.ctx.toNat (fun x =>
        { x with deferred := some (.patBankStage h bank mode lsLen repLen nrep blLen ports) }))
    else .ok [] [] { s with banks := banks })

/-- PAT_BANK_STAGE. -/
def execPatBankStage (h : Hdr) (bank mode lsLen repLen : BitVec 8) (nrep blLen : BitVec 16) (ports : BitVec 64)
    (s : State) : Host.Outcome State Fault Refusal := (takePatBankStage h bank mode lsLen repLen nrep blLen ports s).out

/-- The checks of R99 and R139 on the shadow tables after a change (R651). -/
def State.portChecks (ps : List Nat) (t : Tables) (s : State) : Bool :=
  ps.all (check139 s.banks t) && check99 s.board.member s.dense s.banks t

/-- PAT_SELECT_STAGE (R131, R139). -/
def takePatSelectStage (h : Hdr) (ports : BitVec 64) (bank drive : BitVec 8) (s : State) : State :=
  s.take h 0x0202 [.s] true (some 0)
    (decide (bank.toNat ≤ 3) && decide (drive.toNat ≤ 2) && decide (ports.toNat < 2 ^ s.board.member.ports)) (fun s =>
    s.staging (.patSelectStage h ports bank drive) h [0x0202, 0x0208] (fun s =>
      let ps := setBits 64 ports.toNat
      let f := fun (t : Tables) =>
        { t with patSel := ps.foldl (fun m p => sset PatSel.reset p { bank := bank.setWidth 2, drive := drive } m) t.patSel }
      if s.portChecks ps (f s.shadowView) then .ok [] [] (s.stage 0x0202 f) else .fail cRange [] s))

/-- PAT_SELECT_STAGE. -/
def execPatSelectStage (h : Hdr) (ports : BitVec 64) (bank drive : BitVec 8) (s : State) :
    Host.Outcome State Fault Refusal := (takePatSelectStage h ports bank drive s).out

/-- One tap's settings from 8 bytes (R564), with whether every field is in range (R132). -/
def tapAfeOf (bs : List Byte) : TapAfe × Bool :=
  ({ pga := BitVec.ofNat 6 (rd bs 0 1), offset := rdS bs 2 2, clampEn := rd bs 4 1 == 1, clampK := BitVec.ofNat 3 (rd bs 5 1),
     clampTgt := BitVec.ofNat 14 (rd bs 6 2) },
   decide (rd bs 0 1 < 64) && rd bs 1 1 == 0 && decide (-512 ≤ rdS bs 2 2) && decide (rdS bs 2 2 ≤ 511) &&
     decide (rd bs 4 1 ≤ 1) && decide (rd bs 5 1 < 8) && decide (rd bs 6 2 < 16384))

/-- AFE_STAGE (R132). -/
def takeAfeStage (h : Hdr) (port range : BitVec 8) (s : State) : State :=
  s.take h 0x0203 [.s] true (some 128) (s.hasSeg port.toNat && decide (range.toNat ≤ 3)) (fun s =>
    s.staging (.afeStage h port range) h [0x0203] (fun s =>
      let xs := (chunks 8 16 (s.payload h)).map tapAfeOf
      if xs.all (·.2) then
        .ok [] [] (s.stage 0x0203 (fun t =>
          { t with afe := sset AfePort.reset port.toNat { range := range.setWidth 2, taps := xs.map (·.1) } t.afe }))
      else .fail cRange [] s))

/-- AFE_STAGE. -/
def execAfeStage (h : Hdr) (port range : BitVec 8) (s : State) : Host.Outcome State Fault Refusal :=
  (takeAfeStage h port range s).out

/-- One entry of the tap map (R138), with whether its reserved bits are 0. -/
def tapEntryOf (v : Nat) : TapEntry × Bool :=
  ({ en := bit v 0, line := BitVec.ofNat 2 (bits v 1 2), rev := bit v 3, step2 := bit v 4, first := BitVec.ofNat 10 (bits v 8 10),
     count := BitVec.ofNat 10 (bits v 18 10), col := BitVec.ofNat 13 (bits v 32 13) },
   bits v 5 3 == 0 && bits v 28 4 == 0 && bits v 45 19 == 0)

/-- Some shading set is valid or staged (R212). -/
def State.anySet (s : State) : Bool := s.shd.place.any (fun p => p.2.isSome) || s.shd.staged.isSome

/-- TAP_MAP_STAGE (R139, R140, R99, R212). -/
def takeTapMapStage (h : Hdr) (firstPort count : BitVec 8) (s : State) : State :=
  let p0 := firstPort.toNat
  let n := count.toNat
  s.take h 0x0204 [.s] true (some (128 * n)) (decide (p0 + n ≤ s.board.member.ports)) (fun s =>
    s.staging (.tapMapStage h firstPort count) h [0x0204] (fun s =>
      let es := (chunks 8 (16 * n) (s.payload h)).map (fun b => tapEntryOf (leVal b))
      let f := fun (t : Tables) =>
        { t with tapMap := es.zipIdx.foldl (fun m x => sset TapEntry.reset (16 * p0 + x.2) x.1.1 m) t.tapMap }
      let t := f s.shadowView
      let widthOf := fun (t : Tables) => (List.range' p0 n).flatMap (fun p => (List.range 4).map (lineWidth t p))
      if !(es.all (·.2) && s.portChecks (List.range' p0 n) t && (s.dense || check140 s.board.member false t)) then
        .fail cRange [] s
      else if s.anySet && widthOf t != widthOf s.shadow then .fail cState [] s
      else .ok ((List.range 4).flatMap (fun k => le 1 (channelsUsed t s.dense k))) [] (s.stage 0x0204 f)))

/-- TAP_MAP_STAGE. -/
def execTapMapStage (h : Hdr) (firstPort count : BitVec 8) (s : State) : Host.Outcome State Fault Refusal :=
  (takeTapMapStage h firstPort count s).out

/-- TAP_CLOCK_STAGE (R122, R123). -/
def takeTapClockStage (h : Hdr) (die : BitVec 8) (freq : BitVec 32) (s : State) : State :=
  s.take h 0x0205 [.s] true (some 0) (decide (die.toNat < s.board.member.dies) && clkRange s.dense freq.toNat) (fun s =>
    s.staging (.tapClockStage h die freq) h [0x0205] (fun s =>
      let f := fun (t : Tables) => { t with tapClk := sset tapClkReset die.toNat freq.toNat t.tapClk }
      if s.mode.mode.isCapture && tapClkOf s.active die.toNat != freq.toNat then .fail cState [] s
      else if check99 s.board.member s.dense s.banks (f s.shadowView) then .ok [] [] (s.stage 0x0205 f)
      else .fail cRange [] s))

/-- TAP_CLOCK_STAGE. -/
def execTapClockStage (h : Hdr) (die : BitVec 8) (freq : BitVec 32) (s : State) : Host.Outcome State Fault Refusal :=
  (takeTapClockStage h die freq s).out

/-- A port-state command is staged (R157): checked against the port's present state. The four commands write one staged
state per port, so they lock one another (R24). -/
def stagePort (i : Instr) (h : Hdr) (port : Nat) (c : PortCmd) (more : State → Bool) (s : State) : Res :=
  s.staging i h [0x0206, 0x0207, 0x0208, 0x0209] (fun s =>
    if !c.from (s.seg port) then .fail cState [] s
    else if !more s then .fail cRange [] s
    else .ok [] [] (({ s with staged := { s.staged with ports := sset none port (some c) s.staged.ports } }).stage c.op id))

/-- PORT_ISOLATE (R157). -/
def takePortIsolate (h : Hdr) (port : BitVec 8) (s : State) : State :=
  s.take h 0x0206 [.s] true (some 0) (s.hasSeg port.toNat) (stagePort (.portIsolate h port) h port.toNat .isolate (fun _ => true))

/-- PORT_ISOLATE. -/
def execPortIsolate (h : Hdr) (port : BitVec 8) (s : State) : Host.Outcome State Fault Refusal := (takePortIsolate h port s).out

/-- PORT_SWAP (R157). -/
def takePortSwap (h : Hdr) (port : BitVec 8) (s : State) : State :=
  s.take h 0x0207 [.s] true (some 0) (s.hasSeg port.toNat) (stagePort (.portSwap h port) h port.toNat .swap (fun _ => true))

/-- PORT_SWAP. -/
def execPortSwap (h : Hdr) (port : BitVec 8) (s : State) : Host.Outcome State Fault Refusal := (takePortSwap h port s).out

/-- PORT_QUALIFY (R157, R160, R139). -/
def takePortQualify (h : Hdr) (port bank pwrSettle : BitVec 8) (qualLines : BitVec 16) (s : State) : State :=
  s.take h 0x0208 [.s] true (some 0)
    (s.hasSeg port.toNat && decide (bank.toNat ≤ 3) && decide (pwrSettle.toNat ≤ 100) &&
      (qualLines == 0 || decide (64 ≤ qualLines.toNat)))
    (stagePort (.portQualify h port bank pwrSettle qualLines) h port.toNat
      (.qualify (bank.setWidth 2) (zeroIs 20 pwrSettle.toNat) (zeroIs 1024 qualLines.toNat)) (fun s =>
        let t := s.shadowView
        s.portChecks [port.toNat]
          { t with patSel := supd PatSel.reset port.toNat (fun q => { q with bank := bank.setWidth 2 }) t.patSel }))

/-- PORT_QUALIFY. -/
def execPortQualify (h : Hdr) (port bank pwrSettle : BitVec 8) (qualLines : BitVec 16) (s : State) :
    Host.Outcome State Fault Refusal := (takePortQualify h port bank pwrSettle qualLines s).out

/-- PORT_RELEASE (R157). -/
def takePortRelease (h : Hdr) (port : BitVec 8) (s : State) : State :=
  s.take h 0x0209 [.s] true (some 0) (s.hasSeg port.toNat) (stagePort (.portRelease h port) h port.toNat .release (fun _ => true))

/-- PORT_RELEASE. -/
def execPortRelease (h : Hdr) (port : BitVec 8) (s : State) : Host.Outcome State Fault Refusal := (takePortRelease h port s).out

/-! ## Foreground calibration -/

/-- AFE_FG_CAL (R155): every channel of the dies leaves service, and rotation stops on them. A second one ends with BUSY. -/
def takeAfeFgCal (h : Hdr) (dies : BitVec 8) (s : State) : State :=
  s.take h 0x020A [.idleDiag] true (some 0) (decide (dies.toNat < 2 ^ s.board.member.dies)) (fun s =>
    if s.ports.fgCal.isSome then .fail cBusy [] s
    else
      let s1 := (setBits 4 dies.toNat).foldl (fun (s : State) k =>
        s.setDie k (fun d => { d with rotCh := none, handover := none, backs := [] })) s
      .go { s1 with ports := { s1.ports with fgCal := some (h.ctx.toNat, dies.setWidth 4) } })

/-- AFE_FG_CAL. -/
def execAfeFgCal (h : Hdr) (dies : BitVec 8) (s : State) : Host.Outcome State Fault Refusal := (takeAfeFgCal h dies s).out

/-- What foreground calibration found of one channel (R156): accepted, it is back in service, and a spare that carries its taps is to
hand them back; otherwise it is declared failed. -/
def State.fgResult (s : State) (r : CalResult) : State :=
  let k := r.die.toNat
  let c := r.chan.toNat
  if calAccepted r then
    let s1 := s.setCh k c (fun x => { x.calibrated r (s.dieTemp k) s.now with failed := false, hoFails := 0 })
    let s2 := s1.setDie k (fun d => { d with pendingSub := d.pendingSub.filter (· != c) })
    match s2.coverOf k c with
    | some sp => (s2.setCh k sp (fun x => { x with forFault := false })).setDie k (fun d => { d with backs := d.backs ++ [c] })
    | none => s2
  else (s.setCh k c (fun x => { x with failed := false })).declareFailed k c

/-- The next handover back after a foreground calibration (R156). -/
def State.startBack (k : Nat) (s : State) : State :=
  match (s.die k).handover, (s.die k).backs with
  | none, c :: rest =>
    let s1 := s.setDie k (fun d => { d with backs := rest })
    match s.coverOf k c with
    | some sp =>
      let ho : Handover := { spare := sp, home := c, readyAt := s.now + s.handoverNs, back := true, attempt := 1,
                             recal := false, passed := false, fg := true }
      s1.setDie k (fun d => { d with handover := some ho })
    | none => s1
  | _, _ => s

/-- AFE_FG_CAL_DONE (R155, R156). -/
def execAfeFgCalDone (t : Nat) (results : List CalResult) (s : State) : Host.Outcome State Fault Refusal :=
  let s1 := s.atTime t
  match s1.ports.fgCal with
  | none => s1.out
  | some (n, dies) =>
    let rs := results.filter (fun r => dies.getLsbD r.die.toNat && decide (r.chan.toNat < 104))
    let s2 := rs.foldl State.fgResult { s1 with ports := { s1.ports with fgCal := none } }
    let s3 := (setBits 4 dies.toNat).foldl (fun (s : State) k => ((s.spareNote k).substitute k).startBack k) s2
    let s4 := (s3.saveTrims none).getD s3
    let bad := rs.filter (fun r => !calAccepted r)
    (if bad.isEmpty then s4.done n (le 1 0)
     else s4.finish n .failed cCal (le 1 bad.length) (bad.flatMap (fun r => le 1 r.die.toNat ++ le 1 r.chan.toNat))).out

/-- AFE_TRIM_SAVE (R153): ends when the last record is committed. -/
def takeAfeTrimSave (h : Hdr) (s : State) : State :=
  s.take h 0x020B [.s] true (some 0) true (fun s =>
    match s.saveTrims (some h.ctx.toNat) with
    | some s1 => .go s1
    | none => .fail cHw [] s)

/-- AFE_TRIM_SAVE. -/
def execAfeTrimSave (h : Hdr) (s : State) : Host.Outcome State Fault Refusal := (takeAfeTrimSave h s).out

/-- The status of R154. -/
def State.chanStatus (k c : Nat) (s : State) : Nat :=
  let x := s.ch k c
  if x.failed then 5
  else if 96 ≤ c then (if x.covers.isSome then 4 else 3)
  else if (s.coverOf k c).isSome then 1
  else if (s.tapsOfChan k c).isEmpty then 2 else 0

/-- A record of R154; a channel never calibrated since reset reports the largest time. -/
def State.residRec (k c : Nat) (s : State) : List Byte :=
  let x := s.ch k c
  let ms := match x.calAt with | some a => min 0xFFFFFFFF ((s.now - a) / 1000000) | none => 0xFFFFFFFF
  leS 2 x.offRes ++ leS 2 x.gainRes ++ le 2 x.inl ++ leS 2 x.calTemp ++ le 4 ms ++ le 1 (s.chanStatus k c) ++ le 3 0

/-- AFE_RESID_READ (R154). -/
def takeAfeResidRead (h : Hdr) (die window : BitVec 8) (offset : BitVec 32) (s : State) : State :=
  s.take h 0x020C [.c] true (some 0) (decide (die.toNat < s.board.member.dies)) (fun s =>
    s.winResult window.toNat offset.toNat ((List.range 104).flatMap (fun c => s.residRec die.toNat c)) [])

/-- AFE_RESID_READ. -/
def execAfeResidRead (h : Hdr) (die window : BitVec 8) (offset : BitVec 32) (s : State) : Host.Outcome State Fault Refusal :=
  (takeAfeResidRead h die window offset s).out

/-- Codes of the port states (R163). -/
def PortSt.code : PortSt → Nat
  | .active => 0 | .covered => 1 | .isolated => 2 | .swap => 3 | .qualify => 4

/-- PORT_STATUS_READ (R565): the causes returned are cleared. -/
def takePortStatusRead (h : Hdr) (port : BitVec 8) (s : State) : State :=
  s.take h 0x020D [.c] true (some 0) (s.hasSeg port.toNat) (fun s =>
    let x := s.seg port.toNat
    .ok (le 1 x.state.code ++ le 1 (b2n x.pres) ++ le 1 x.causes.toNat ++ le 1 x.qual.toNat ++ le 4 x.qualLines) []
      (s.setSeg port.toNat (fun x => { x with causes := 0 })))

/-- PORT_STATUS_READ. -/
def execPortStatusRead (h : Hdr) (port : BitVec 8) (s : State) : Host.Outcome State Fault Refusal :=
  (takePortStatusRead h port s).out

/-! ## Rotation and spares -/

/-- Modes in which background calibration runs (R31, R55). -/
def State.calibrating (s : State) : Bool := s.mode.mode == .idle || s.mode.mode == .diagnose || s.mode.mode.isCapture

/-- A die under foreground calibration. -/
def State.inFgCal (k : Nat) (s : State) : Bool :=
  match s.ports.fgCal with
  | some (_, dies) => dies.getLsbD k
  | none => false

/-- The next channel of the rotation: ascending from where the last step left off; failed channels take no step (R148). -/
def State.nextRot (k : Nat) (s : State) : Option Nat :=
  ((List.range 104).map (fun i => ((s.die k).rotNext + i) % 104)).find? (fun c => !(s.ch k c).failed)

/-- The step of a channel ends: with two free spares a rest of one step length follows (R148), and after the last channel a
cycle is complete. -/
def State.endStep (k c : Nat) (s : State) : State :=
  let len := 2100000 + (if s.carriesTaps k c then 2 * s.handoverNs else 0)
  let last := !((List.range' (c + 1) (103 - c)).any (fun d => !(s.ch k d).failed))
  s.setDie k (fun d =>
    { d with rotCh := none, handover := none, rotNext := (c + 1) % 104, cycles := if last then d.cycles + 1 else d.cycles,
             rotUntil := if s.freeSpares k = 2 then s.now + len else s.now })

/-- BG_CAL_STEP_START (R147, R148): a channel that carries taps first hands them to a spare. -/
def execBgCalStepStart (t : Nat) (die : BitVec 2) (s : State) : Host.Outcome State Fault Refusal :=
  let s1 := s.atTime t
  let k := die.toNat
  let d := s1.die k
  if s1.calibrating && d.powered && !d.bgHalt && d.rotCh.isNone && d.handover.isNone && decide (d.rotUntil ≤ s1.now) && !s1.inFgCal k then
    match s1.nextRot k with
    | none => s1.out
    | some c =>
      if s1.carriesTaps k c then
        match (s1.setDie k (fun d => { d with rotCh := some c })).pickSpare k with
        | some sp =>
          let ho : Handover := { spare := sp, home := c, readyAt := s1.now + s1.handoverNs, back := false, attempt := 1,
                                 recal := false, passed := false, fg := false }
          (s1.setDie k (fun d => { d with rotCh := some c, handover := some ho })).out
        | none => s1.out
      else (s1.setDie k (fun d => { d with rotCh := some c, rotUntil := s1.now + 2100000 })).out
  else s1.out

/-- The output source changes at a handover (R142): out to the spare, or back to the channel. -/
def State.switchTaps (k : Nat) (h : Handover) (s : State) : State :=
  let home := if h.home < 96 then some h.home else if h.back then (s.ch k h.spare).covers else (s.ch k h.home).covers
  let fault := decide (96 ≤ h.home)
  let s1 :=
    if h.back then
      let s2 := s.setCh k h.spare (fun x => { x with covers := none, forFault := false, hoFails := 0 })
      if h.home < 96 then s2 else s2.setCh k h.home (fun x => { x with covers := home, forFault := true })
    else
      let s2 := s.setCh k h.spare (fun x => { x with covers := home, forFault := fault, hoFails := 0 })
      if h.home < 96 then s2 else s2.setCh k h.home (fun x => { x with covers := none, forFault := false })
  (s1.setCh k (if h.back then h.home else h.spare) (fun x => { x with hoFails := 0 })).syncDie k

/-- A handover is over: the channel's step ends, or the next channel hands its taps back (R156). -/
def State.handed (k : Nat) (h : Handover) (s : State) : State :=
  if h.fg then (s.setDie k (fun d => { d with handover := none })).startBack k else s.endStep k h.home

/-- The source changes at the end of a handover (R142): out, the measurement of the channel begins. -/
def State.takeOver (k : Nat) (h : Handover) (s : State) : State :=
  let s1 := s.switchTaps k h
  if h.back then s1.handed k h
  else s1.setDie k (fun d => { d with handover := some { h with attempt := 0, passed := false }, rotUntil := s.now + 2100000 })

/-- A handover fails for good (R143, R144): the side that would have taken the taps over is declared failed. -/
def State.takerFails (k : Nat) (h : Handover) (s : State) : State :=
  let s1 := s.declareFailed k (if h.back then h.home else h.spare)
  if h.back then s1.handed k h else s1.setDie k (fun d => { d with rotCh := none, handover := none, rotUntil := s.now })

/-- HANDOVER_COMPARE (R142, R143): means of the DARK slots in 1/16 LSB. In a capture mode the source changes at the next line boundary
of the die. The side that would take the taps over fails a comparison, is recalibrated, and is declared failed at its second in a row
(log entry 20). -/
def execHandoverCompare (t : Nat) (die : BitVec 2) (spareMean chanMean : Int) (s : State) : Host.Outcome State Fault Refusal :=
  let s1 := s.atTime t
  let k := die.toNat
  match (s1.die k).handover with
  | none => s1.out
  | some h =>
    let taker := if h.back then h.home else h.spare
    if h.attempt = 0 || h.recal || h.passed || !s1.portsMove || decide (s1.now < h.readyAt) then s1.out
    else if (spareMean - chanMean).natAbs ≤ 16 then
      (if s1.mode.mode.isCapture then s1.setDie k (fun d => { d with handover := some { h with passed := true } })
       else s1.takeOver k h).out
    else if h.attempt = 1 then
      ((s1.setCh k taker (fun x => { x with hoFails := x.hoFails + 1 })).setDie k (fun d =>
        { d with handover := some { h with attempt := 2, recal := true }, rotUntil := s1.now + 2100000 })).out
    else ((s1.setCh k taker (fun x => { x with hoFails := x.hoFails + 1 })).takerFails k h).out

/-- SPARE_SUBSTITUTION (R51, R144). -/
def execSpareSubstitution (t : Nat) (die : BitVec 2) (s : State) : Host.Outcome State Fault Refusal :=
  let s1 := s.atTime t
  (if s1.portsMove then s1.substitute die.toNat else s1).out

/-- The result of a measurement of channel `c` that is not accepted (R150): one further step at once, in which the taps stay where they
are (DEDUCED: log entry 176), and at the second failure `last`. -/
def State.notAccepted (k c : Nat) (last : State → State) (s : State) : State :=
  if (s.ch k c).calFails = 0 then
    (s.setCh k c (fun x => { x with calFails := 1 })).setDie k (fun d => { d with rotUntil := s.now + 2100000 })
  else last s

/-- BG_MEASUREMENT_END (R143, R150, R151): accepted, the trims are in and the taps come back, or the handover is tried again; not
accepted twice, the channel measured is declared failed. -/
def execBgMeasurementEnd (t : Nat) (die : BitVec 2) (result : CalResult) (s : State) : Host.Outcome State Fault Refusal :=
  let s1 := s.atTime t
  let k := die.toNat
  let d := s1.die k
  let accepted := fun (c : Nat) => s1.setCh k c (Channel.calibrated result (s1.dieTemp k) s1.now)
  if !s1.portsMove || decide (s1.now < d.rotUntil) then s1.out
  else
    match d.handover, d.rotCh with
    | some h, _ =>
      let taker := if h.back then h.home else h.spare
      if h.recal then
        (if calAccepted result then
          (accepted taker).setDie k (fun d => { d with handover := some { h with recal := false, readyAt := s1.now + s1.handoverNs } })
         else s1.notAccepted k taker (fun s => s.takerFails k h)).out
      else if h.attempt != 0 then s1.out
      else if calAccepted result then
        let ho : Handover := { h with back := true, attempt := 1, readyAt := s1.now + s1.handoverNs }
        ((accepted h.home).setDie k (fun d => { d with handover := some ho })).out
      else (s1.notAccepted k h.home (fun s => (s.declareFailed k h.home).endStep k h.home)).out
    | none, some c =>
      (if calAccepted result then (accepted c).endStep k c
       else s1.notAccepted k c (fun s => (s.declareFailed k c).endStep k c)).out
    | none, none => s1.out

/-- The trims of a die follow a temperature (R152). -/
def State.trimDie (k : Nat) (temp : Int) (s : State) : State :=
  s.setDie k (fun d =>
    { d with trimTemp := none, chans := (List.range 104).foldl (fun m c => supd Channel.reset c (Channel.trimmed temp) m) d.chans })

/-- TRIM_UPDATE (R152): every channel of the powered dies, where lines run from the die's next line boundary on. -/
def execTrimUpdate (t : Nat) (s : State) : Host.Outcome State Fault Refusal :=
  let s1 := s.atTime t
  ((List.range s1.board.member.dies).foldl (fun (s : State) k =>
    if !(s.die k).powered then s
    else if s.mode.mode.isCapture then s.setDie k (fun d => { d with trimTemp := some (s.dieTemp k) })
    else s.trimDie k (s.dieTemp k)) s1).out

/-- TRIM_SAVE_HOURLY (R153). -/
def execTrimSaveHourly (t : Nat) (s : State) : Host.Outcome State Fault Refusal :=
  let s1 := s.atTime t
  if s1.mode.mode == .boot || decide (s1.now < s1.sec.trimAt + 3600000000000) then s1.out
  else
    let s2 := { s1 with sec := { s1.sec with trimAt := s1.now } }
    ((s2.saveTrims none).getD s2).out

/-! ## Presence, swap and qualification -/

/-- PRES_FILTER_CHANGE (R159): in BOOT, from the end of the SRAM wipe on, only PRES follows. -/
def execPresFilterChange (t : Nat) (port : BitVec 6) (present : Bool) (s : State) : Host.Outcome State Fault Refusal :=
  let s1 := s.atTime t
  let p := port.toNat
  let x := s1.seg p
  if !s1.hasSeg p || x.pres == present || !s1.rst.phase.linksAllowed then s1.out
  else if s1.mode.mode == .boot then (s1.setSeg p (fun x => { x with pres := present })).out
  else
    let cut := !present && x.run.isSome
    let s2 := s1.setSeg p (fun x =>
      { x with pres := present, ever := x.ever || present, run := if present then x.run else none,
               qual := if cut then 2 else x.qual })
    let s3 := s2.portEvent p (if cut then 17 else 1)
    (if !present && s3.portsMove && x.state != .swap then s3.removePort p else s3).out

/-- SWAP_POWER_OFF (R157). -/
def execSwapPowerOff (t : Nat) (port : BitVec 6) (s : State) : Host.Outcome State Fault Refusal :=
  let s1 := s.atTime t
  match (s1.seg port.toNat).offAt with
  | some d =>
    if d ≤ s1.now then
      (s1.setSeg port.toNat (fun x => { x with powered := false, offAt := none, releaseAt := some (s1.now + 1000000) })).out
    else s1.out
  | none => s1.out

/-- SWAP_OUTPUT_RELEASE (R157). -/
def execSwapOutputRelease (t : Nat) (port : BitVec 6) (s : State) : Host.Outcome State Fault Refusal :=
  let s1 := s.atTime t
  match (s1.seg port.toNat).releaseAt with
  | some d =>
    if d ≤ s1.now then
      (s1.setSeg port.toNat (fun x => { x with outLow := false, outHiZ := true, releaseAt := none })).out
    else s1.out
  | none => s1.out

/-- QUALIFY_SETTLE_END (R157): the port's program starts at the next line boundary. -/
def execQualifySettleEnd (t : Nat) (port : BitVec 6) (s : State) : Host.Outcome State Fault Refusal :=
  let s1 := s.atTime t
  match (s1.seg port.toNat).run with
  | some r =>
    if r.phase == .powering && decide (r.until_ ≤ s1.now) then
      (s1.setSeg port.toNat (fun x => { x with run := some { r with phase := .settling, started := false } })).out
    else s1.out
  | none => s1.out

/-- The verdict on one tap (R160), from sums over its unsaturated DARK slots. -/
def QualTap.pass (tgt : Nat) (q : QualTap) : Bool :=
  !q.bad && (if q.n = 0 then !q.darkSeen
    else decide (((q.sum : Int) - tgt * q.n).natAbs ≤ 16 * q.n) && decide (q.n * q.sq ≤ q.sum * q.sum + 16 * q.n * q.n))

/-- The verdict on a port (R160). -/
def State.qualPass (p : Nat) (r : QualRun) (s : State) : Bool :=
  let afe := sget AfePort.reset p s.active.afe
  (enabledOf s.active p).all (fun i =>
    (sget QualTap.reset i r.taps).pass
      (afe.taps.getD (i % 16) TapAfe.reset).clampTgt.toNat) && (s.seg p).pres

/-- QUALIFICATION_DONE (R160). -/
def execQualificationDone (t : Nat) (port : BitVec 6) (s : State) : Host.Outcome State Fault Refusal :=
  let s1 := s.atTime t
  let p := port.toNat
  match (s1.seg p).run with
  | some r =>
    if r.phase == .capturing && decide (r.lines ≤ r.done) then
      let ok := s1.qualPass p r
      let s2 := s1.setSeg p (fun x => { x with run := none, qual := if ok then 1 else 2, qualLines := r.done })
      let s3 := s2.portEvent p 16
      (if ok then s3 else s3.portTo p .isolated).out
    else s1.out
  | none => s1.out

/-! ## Die resets -/

/-- FE_DIE_RESET (R107, R109): the die's SRAM is wiped, with the programs of its ports, and its ports are ISOLATED. -/
def execFeDieReset (t : Nat) (die : BitVec 2) (s : State) : Host.Outcome State Fault Refusal :=
  let s1 := s.atTime t
  let k := die.toNat
  if decide (s1.board.member.dies ≤ k) || s1.mode.mode == .boot then s1.out
  else
    let s2 := s1.dieOff k
    let s3 := { s2 with banks := s2.banks.filter (fun b => decide (b.1 / 48 ≠ k)) }
    let s4 := (List.range' (12 * k) 12).foldl (fun (s : State) p =>
      (s.setSeg p (fun x => { x with run := none })).portTo p .isolated) s3
    (s4.pulse 4).out

/-- FE_DIE_RESET_END (R107): the core die powers the die up again, and its trims are restored. -/
def execFeDieResetEnd (t : Nat) (die : BitVec 2) (s : State) : Host.Outcome State Fault Refusal :=
  let s1 := s.atTime t
  let k := die.toNat
  if decide (s1.board.member.dies ≤ k) || (s1.die k).powered || s1.mode.mode == .boot || s1.mode.mode == .standby ||
      s1.therm.shutdown then s1.out
  else
    let s2 := (s1.restoreTrims k).substitute k
    ({ s2 with clk := { s2.clk with lockFe := s2.clk.lockFe ||| BitVec.twoPow 4 k } }).out

end Sys2Proof.Machine
end

