-- ==== Sys2Proof/Machine/Frontend.lean ====
section
/-! DEFINITION. A line on a front-end die: program start, the conversion of a slot, and program end with clamps and
qualification (R129 to R137, R160, R175, R177). -/

namespace Sys2Proof.Machine

/-- A slot that has not been sampled. -/
def TapWord.none : TapWord := { code := 0, sat := false, bad := true }

/-- The raw code is at least `m` (R133): 16,384 x G x V / FS + 1/2 is at least `m`, where G is 10 to the power n / 70. Both sides
are raised to the 70th power, so the comparison is exact; `x` and `fs` are in nV. -/
def rawGe (n x fs m : Nat) : Bool := m == 0 || decide (((2 * m - 1) * fs) ^ 70 ≤ 10 ^ n * (32768 * x) ^ 70)

/-- The largest code below 2 * `b` more than `m` that `ge` allows, by halving steps. -/
def searchCode (ge : Nat → Bool) : Nat → Nat → Nat
  | 0, m => m
  | k + 1, m => searchCode ge k (if ge (m + 2 ^ k) then m + 2 ^ k else m)

/-- The rounded result of R133 before it is limited; anything above 16,383 shows as 16,384 or more. A tie rounds up (log entry
21). -/
def rawCode (n : Nat) (v : Int) (fs : Nat) : Nat := if v ≤ 0 then 0 else searchCode (rawGe n v.toNat fs) 15 0

/-- A shift right of a two's-complement number. -/
def sar (v : Int) (k : Nat) : Int := v / (2 ^ k : Nat)

/-- The clamp correction of a tap (R134). -/
def clampCorr (acc : Int) : Int := sar (acc + 8) 4

/-- The word of a slot (R135), from its raw code, whether it is saturated under R133, and the clamp correction. -/
def tapWord (raw : Nat) (sat : Bool) (corr : Int) (bad : Bool) : TapWord :=
  let sum := (raw : Int) + corr
  if sat || decide (16383 < sum) then { code := 0x3FFF, sat := true, bad := bad }
  else { code := BitVec.ofNat 14 sum.toNat, sat := false, bad := bad }

/-- A line in flight. -/
def State.lineRec (seq : BitVec 32) (s : State) : Option LineRec := s.lines.find? (fun r => r.tag.seq == seq)

/-- Change a line in flight. -/
def State.setLine (seq : BitVec 32) (f : LineRec → LineRec) (s : State) : State :=
  { s with lines := s.lines.map (fun r => if r.tag.seq == seq then f r else r) }

/-- A slot of a line. -/
def LineRec.word (r : LineRec) (i slot : Nat) : TapWord := sget TapWord.none (1024 * i + slot) r.words

/-- The line boundary of a die (R142, R152, R157): a handover whose comparison has passed changes the source, new trims come into force,
and ports that have settled start to qualify. -/
def State.dieBoundary (k : Nat) (s : State) : State :=
  let s1 := match (s.die k).handover with
    | some h => if h.passed then s.takeOver k h else s
    | none => s
  let s2 := match (s1.die k).trimTemp with
    | some temp => s1.trimDie k temp
    | none => s1
  (List.range' (12 * k) 12).foldl (fun (s : State) p => s.setSeg p (fun x => { x with run := x.run.map (fun r =>
    if r.phase == .settling then { r with started := true } else r) })) s2

/-- FE_PROGRAM_START (R129, R175): the oldest trigger that waits, once no program runs. -/
def execFeProgramStart (t : Nat) (die : BitVec 2) (s : State) : Host.Outcome State Fault Refusal :=
  let s1 := s.atTime t
  let k := die.toNat
  let d := s1.die k
  match d.trigs with
  | [] => s1.out
  | g :: rest =>
    if d.running || !d.powered then s1.out
    else
      let s2 := (if g.isSome then s1.dieBoundary k else s1).setDie k (fun d =>
        { d with running := true, line := g, trigs := rest, checkHits := [], progAt := s1.now,
                 progEnd := s1.now + divUp (dieLen s1.banks s1.active k * 250000) (tapClkOf s1.active k) })
      let s3 := match g with
        | some q => s2.setLine q (fun r => { r with dieAt := sset none k (some s1.now) r.dieAt })
        | none => s2
      ({ s3 with ports := { s3.ports with
          clamp := s3.ports.clamp.map (fun (c : Nat × Clamp) => if c.1 / 192 = k then (c.1, { c.2 with sum := 0, n := 0 }) else c) } }).out

/-- The home channel of an input in a line (R20, R140). -/
def LineRec.chanOf (r : LineRec) (i : Nat) : Option Nat :=
  ((assign r.tabs (r.profile == .dense) (i / 192)).find? (fun x => x.1 == i)).map (fun x => x.2.1)

/-- The channel whose redundancy check marks a tap (R137): its home channel, or the spare that covers it. -/
def State.checkedBy (r : LineRec) (i : Nat) (s : State) : Option Nat :=
  (r.chanOf i).map (fun c => (s.coverOf (i / 192) c).getD c)

/-- A slot is sampled (R130, R133 to R137): `sv` and `sr` are VIN - VREF in nV at the video and the reset sample. Words of a flush
are discarded (R177), and an input that carries no tap, or of a port in SWAP (R161), is not converted. -/
def State.sampleSlot (port : BitVec 6) (input : BitVec 4) (slot : BitVec 10) (sv sr : Int) (overRange residue : Bool) (s1 : State) :
    State :=
  let p := port.toNat
  let i := 16 * p + input.toNat
  let k := p / 12
  let d := s1.die k
  match d.line.bind (fun q => s1.lineRec q) with
  | none => s1
  | some r =>
    let q := progOf s1.banks r.tabs p
    if !d.running || !(tapEntry r.tabs i).en || (r.chanOf i).isNone || (s1.seg p).state == .swap || decide (q.slots ≤ slot.toNat) then s1
    else
      let afe := sget AfePort.reset p r.tabs.afe
      let a := afe.taps.getD input.toNat TapAfe.reset
      let v := (if q.direct then sv else sv - sr) + 390625 * a.offset
      let c := rawCode a.pga.toNat v (500000000 * (afe.range.toNat + 1))
      let sat := overRange || decide (16383 < c)
      let raw := if sat then 16383 else c
      let cl := sget Clamp.reset i s1.ports.clamp
      let w := tapWord raw sat (clampCorr cl.acc) residue
      let s2 := s1.setLine r.tag.seq (fun r => { r with words := sset TapWord.none (1024 * i + slot.toNat) w r.words })
      let dark := q.darks.getD slot.toNat false && !sat
      let s3 := if dark then { s2 with ports := { s2.ports with
          clamp := sset Clamp.reset i { cl with sum := cl.sum + raw, n := cl.n + 1 } s2.ports.clamp } } else s2
      match (if residue then s1.checkedBy r i else none) with
       | some c =>
         let n := sget 0 c d.checkHits + 1
         let s4 := s3.setDie k (fun d => { d with checkHits := sset 0 c n d.checkHits })
         if n = 17 then s4.declareFailed k c else s4
       | none => s3

/-- The clamp of a tap at the end of a line (R134). -/
def Clamp.endLine (a : TapAfe) (c : Clamp) : Clamp :=
  if a.clampEn && c.n != 0 then
    let m : Int := ((c.sum + c.n / 2) / c.n : Nat)
    { acc := clampI (-32768) 32767 (c.acc + sar (16 * ((a.clampTgt.toNat : Int) - m) - c.acc) a.clampK.toNat), sum := 0, n := 0 }
  else { c with sum := 0, n := 0 }

/-- The dark mean of a tap in the line in progress lies within the settling band, or the tap takes no part (R160). -/
def Clamp.settledOk (a : TapAfe) (c : Clamp) : Bool :=
  !a.clampEn || c.n == 0 || decide ((((c.sum + c.n / 2) / c.n : Nat) - (a.clampTgt.toNat : Int)).natAbs ≤ 16)

/-- What a line adds to a tap's qualification figures (R160). -/
def QualTap.addLine (ws : List TapWord) (darks : List Bool) (q : QualTap) : QualTap :=
  let ds := (ws.zip darks).filter (fun x => x.2)
  let cs := (ds.filter (fun x => !x.1.sat)).map (fun x => x.1.code.toNat)
  let flat := match ws with | w :: _ => ws.all (fun x => x.code == w.code) | [] => false
  { sum := q.sum + cs.sum, sq := q.sq + (cs.map (fun c => c * c)).sum, n := q.n + cs.length,
    darkSeen := q.darkSeen || !ds.isEmpty, bad := q.bad || flat || ws.any TapWord.bad }

/-- A line ends for a port in qualification (R160). -/
def State.qualLine (r : LineRec) (p : Nat) (s : State) : State :=
  match (s.seg p).run with
  | none => s
  | some run =>
    let afe := sget AfePort.reset p r.tabs.afe
    let is := enabledOf r.tabs p
    let q := progOf s.banks r.tabs p
    if !run.started then s
    else
    match run.phase with
    | .settling =>
      let good := is.all (fun i => (sget Clamp.reset i s.ports.clamp).settledOk (afe.taps.getD (i % 16) TapAfe.reset))
      let inRun := if good then run.inRun + 1 else 0
      let settled := run.settled + 1
      s.setSeg p (fun x => { x with run := some { run with
        settled := settled, inRun := inRun, phase := if 8 ≤ inRun || 256 ≤ settled then .capturing else .settling } })
    | .capturing =>
      if run.lines ≤ run.done then s
      else
        let taps := is.foldl (fun m i =>
          supd QualTap.reset i (QualTap.addLine ((List.range q.slots).map (r.word i)) q.darks) m) run.taps
        s.setSeg p (fun x => { x with qualLines := run.done + 1, run := some { run with taps := taps, done := run.done + 1 } })
    | _ => s

/-- The last entry of a program (R127). -/
def PatProgram.lastOut (q : PatProgram) : BitVec 8 := (q.bl.getLastD 0).setWidth 8

/-- A program ends (R129, R134): it runs its full time, and the outputs hold its last OUT value; qualification and clamps take
the line in; a flush leaves the accumulators alone (R177). -/
def State.programEnd (k : Nat) (s1 : State) : State :=
  let d := s1.die k
  if !d.running || decide (s1.now < d.progEnd) then s1
  else
    let line := d.line.bind (fun q => s1.lineRec q)
    let tabs := match line with | some r => r.tabs | none => s1.active
    let ps := List.range' (12 * k) 12
    let s2 := ps.foldl (fun (s : State) p => s.setSeg p (fun x => { x with out := (progOf s.banks tabs p).lastOut }))
      (s1.setDie k (fun d => { d with running := false, line := none }))
    match line with
    | none => s2
    | some r =>
      let s3 := ps.foldl (fun (s : State) p => s.qualLine r p) s2
      let clamps := (ps.flatMap (enabledOf r.tabs)).foldl (fun m i =>
        supd Clamp.reset i (Clamp.endLine ((sget AfePort.reset (i / 16) r.tabs.afe).taps.getD (i % 16) TapAfe.reset)) m) s3.ports.clamp
      { s3 with ports := { s3.ports with clamp := clamps } }

/-! ## The link queues (R96, R97) -/

/-- Every word of a line has left every die: no die runs its program or waits to. -/
def State.allWords (r : LineRec) (s : State) : Bool :=
  !s.ports.dies.any (fun d => (d.2.running && d.2.line == some r.tag.seq) || d.2.trigs.contains (some r.tag.seq))

/-- The pipeline admits words of a line once it has taken every word of every earlier line (R97). -/
def State.admitted (r : LineRec) (s : State) : Bool := s.lines.all (fun x => !x.started || decide (r.cap ≤ x.cap) || s.allWords x)

/-- The words that wait in the link queue of a die (R96): those of lines not yet admitted. -/
def State.linkQueue (k : Nat) (s : State) : SMap TapWord :=
  (s.lines.filter (fun r => !s.admitted r)).flatMap (fun r => r.words.filter (fun w => w.1 / 196608 = k))

/-- Words of 16 bits that a link queue holds (R96). -/
def linkWords : Nat := 192 * 1024 * 3 / 2

end Sys2Proof.Machine
end

