-- ==== Sys2Proof/Machine/Madc.lean ====
section
/-! DEFINITION. The monitor converters: conversions, the loop, accumulator sets, cross-check, calibration and injected
conversions (chapter "Monitor conversion subsystem", R577). -/

namespace Sys2Proof.Machine

/-- Expected code of MCH_LOW (R407). -/
def eLo : Nat := 45511

/-- Expected code of MCH_SHARED (R407). -/
def eSh : Nat := 364089

/-- A converter: 0 MADC-A, 1 MADC-B. -/
def State.conv (c : Nat) (s : State) : Conv := if c = 0 then s.madc.convA else s.madc.convB

/-- Change a converter. -/
def State.setConv (c : Nat) (f : Conv → Conv) (s : State) : State :=
  if c = 0 then { s with madc := { s.madc with convA := f s.madc.convA } }
  else { s with madc := { s.madc with convB := f s.madc.convB } }

/-- Change the subsystem. -/
def State.setMadc (f : Madc → Madc) (s : State) : State := { s with madc := f s.madc }

/-- The converter takes part in the loop: SAR or NORMAL. -/
def Conv.runs (k : Conv) : Bool := k.state == .sar || k.state == .normal

/-- The converter is in service, calibrating or not. -/
def Conv.inService (k : Conv) : Bool := k.runs || k.state == .cal

/-- Converters in service. -/
def State.convs (s : State) : List Nat := [0, 1].filter (fun c => (s.conv c).inService)

/-! ## Sets -/

/-- Configuration of a set; those of the supply block are fixed (R413). -/
def State.setCfg (n : Nat) (s : State) : SetCfg :=
  if n < 64 then sget SetCfg.reset n s.madc.sets
  else { win := 16, unit := 1, curve := 0, scale := if n < 68 then 1800 else 3600, offset := 0 }

/-- A set. -/
def State.accSet (n : Nat) (s : State) : AccSet := sget AccSet.reset n s.madc.acc

/-- The thermistor curve between its points (R417). -/
def curveAt (m : Int) : List (Nat × Int) → Int
  | [] => 0
  | [p] => p.2
  | p :: q :: rest =>
    if m < p.1 then p.2
    else if m < q.1 then
      p.2 + ((q.2 - p.2) * (m - p.1) + (((q.1 : Int) - p.1) / 2)) / ((q.1 : Int) - p.1)
    else curveAt m (q :: rest)

/-- The derived value of a snapshot (R417). -/
def State.derive (n : Nat) (a : SetAcc) (s : State) : Int :=
  if a.count = 0 then 0
  else
    let m : Int := ((a.sum + a.count / 2) / a.count : Nat)
    let c := s.setCfg n
    if c.unit = 1 ∨ c.unit = 2 then (m * c.scale + 2 ^ 19) / 2 ^ 20 + c.offset
    else if c.unit = 3 then curveAt m (sget [] c.curve s.madc.curves)
    else 0

/-- A conversion joins an open window (R415). -/
def SetAcc.add (code : Nat) (oor sarKind : Bool) (a : SetAcc) : SetAcc :=
  if oor then { a with ovr := true, sar := a.sar || sarKind, taken := a.taken + 1 }
  else { a with sum := a.sum + code, count := a.count + 1, min := if a.count = 0 then code else Nat.min a.min code,
                max := if a.count = 0 then code else Nat.max a.max code, sar := a.sar || sarKind, taken := a.taken + 1 }

/-- A conversion addressed to a set: the window closes when it is full, or at once (R415, R419, R426). -/
def State.accumulate (n code : Nat) (oor sarKind close : Bool) (s : State) : State :=
  let a := s.accSet n
  let w := a.work.add code oor sarKind
  let pub := close || decide ((s.setCfg n).win ≤ w.taken)
  let a1 : AccSet :=
    if pub then { work := SetAcc.reset, snap := w, suspect := s.madc.mismatch, dv := s.derive n w, seq := a.seq + 1,
                  at_ := some s.now, sticky := a.sticky || oor }
    else { a with work := w, sticky := a.sticky || oor }
  (s.setMadc (fun m => { m with acc := sset AccSet.reset n a1 m.acc })).pulseIf (oor && !a.sticky) 176

/-- A set is stale (R415). -/
def State.stale (n : Nat) (s : State) : Bool :=
  let a := s.accSet n
  a.snap.ovr || (match a.at_ with | some t => decide (t + 100000000 < s.now) | none => true)

/-- A record of R418. -/
def State.accRec (n : Nat) (s : State) : List Byte :=
  let a := s.accSet n
  let age := match a.at_ with | some t => min 0xFFFFFFFF ((s.now - t) / 1000) | none => 0xFFFFFFFF
  le 6 a.snap.sum ++ le 2 a.snap.count ++ le 3 a.snap.min ++ le 3 a.snap.max ++
    le 1 (b2n a.snap.ovr + 2 * b2n a.sticky + 4 * b2n (s.stale n) + 8 * b2n a.snap.sar + 16 * b2n a.suspect) ++ le 1 0 ++
    leS 4 a.dv ++ le 4 a.seq.toNat ++ le 4 age ++ le 4 0

/-- A lamp temperature channel: the DV of its set in Q8.8, none while it is stale (R215, R217, R417). -/
def State.lampTemp (n : Nat) (s : State) : Option Int :=
  if (s.setCfg n).unit = 3 && !s.stale n then some (s.accSet n).dv else none

/-! ## Conversions -/

/-- The work of a converter uses the SAR kind. -/
def Conv.sarKind (k : Conv) : Bool :=
  match k.work with
  | .entry e _ => k.state == .sar || e.sar
  | .shared => k.state == .sar
  | .supply _ _ => true
  | .test n => decide (n % 68 < 64)
  | _ => k.state == .sar

/-- Length of a conversion in ns (R409). -/
def Madc.convNs (m : Madc) (sarKind : Bool) (settle : Nat) : Nat :=
  if sarKind then max (10000 * settle) 2000 + 1000 else max (10000 * settle) 50000 + 40 * m.mult * m.tm

/-- A converter starts a conversion of some work; SETTLE counts where the multiplexer switches. -/
def State.startConv (c : Nat) (w : ConvWork) (settle : Nat) (s : State) : State :=
  s.setConv c (fun k =>
    let k1 := { k with work := w }
    let kind := match w with
      | .inject => k.state == .sar || (match s.madc.inj with | some i => i.sar | none => false)
      | _ => k1.sarKind
    { k1 with startAt := s.now, endAt := s.now + s.madc.convNs kind settle })

/-- The settle delay with which a piece of work goes on. -/
def workSettle (resumed : Bool) : ConvWork → Nat
  | .entry e left => if resumed || left = e.rep then e.settle else 0
  | _ => 0

/-- The code of a raw conversion after the correction of R421; a SAR code is shifted left by 8 first (R409). -/
def Conv.code (k : Conv) (sarKind : Bool) (raw : Nat) : Nat :=
  let r : Int := if sarKind then 256 * raw else raw
  let lo : Int := if sarKind then k.sarLo else k.intLo
  let hi : Int := if sarKind then k.sarHi else k.intHi
  (clampI 0 (2 ^ 20 - 1) (eLo + divRound ((r - lo) * (eSh - eLo)) (hi - lo))).toNat

/-- The supply channels a converter converts: its own four, or all eight when it runs alone; two a block on the ML9624
(R413, R414). -/
def State.supplyChans (c : Nat) (s : State) : List Nat :=
  let n := s.board.member.dies
  let a := List.range' 66 n
  let b := List.range' 70 n
  if s.convs.length = 2 then (if c = 0 then a else b) else a ++ b

/-- A calibration can start: the first one of a converter waits until T_m is fixed or valid (R411). -/
def State.calReady (c : Nat) (s : State) : Bool := s.madc.mainsOk || (s.conv c).state == .normal

/-- Every converter in service idles, none calibrating. -/
def State.allIdle (s : State) : Bool := s.convs.all (fun c => (s.conv c).runs && (s.conv c).work == .none) && !s.convs.isEmpty

/-- The supply comparison of R98 and R101, at 5% of nominal with release at 4.5%: the seams of the dies concerned. -/
def State.supplySkew (s : State) : State :=
  let n := s.board.member.dies
  let all := (List.range 2).flatMap (fun r => (List.range n).flatMap (fun a =>
    ((List.range n).filter (fun b => decide (a < b))).map (fun b => (r, a, b))))
  let beyond := all.filter (fun x =>
    let nom : Nat := if x.1 = 0 then 800 else 3300
    let v := fun k => (s.accSet (64 + 4 * x.1 + k)).dv
    let d := (v x.2.1 - v x.2.2).natAbs
    if s.clk.pairs.contains (16 * x.1 + 4 * x.2.1 + x.2.2) then decide (45 * nom < 1000 * d) else decide (50 * nom < 1000 * d))
  let hit := fun j => beyond.any (fun x => x.2.1 == j || x.2.1 == j + 1 || x.2.2 == j || x.2.2 == j + 1)
  { s with clk := { s.clk with
      pairs := beyond.map (fun x => 16 * x.1 + 4 * x.2.1 + x.2.2),
      skewSupply := BitVec.ofNat 3 (mkBits (n - 1) hit) } }

/-- The loop boundary (R412, R413): stagings take effect, and accepted converters become NORMAL. A changed set discards its
open window. -/
def State.loopBoundary (s : State) : State :=
  let s0 := s.supplySkew
  let m := s0.madc
  let cfg := m.nextCfg.getD (m.mainsSrc, m.mult, m.calPeriod)
  let valid := m.mainsOk
  let up := fun (k : Conv) => if k.toNormal && k.state == .sar then { k with state := .normal, toNormal := false } else k
  let src := cfg.1
  { s0 with madc := { m with
      mainsSrc := src, mult := cfg.2.1, calPeriod := cfg.2.2,
      calNextAt := if m.nextCfg.isSome then s.now + cfg.2.2 * 60000000000 else m.calNextAt,
      tm := if src = 0 then 500000 else if src = 1 then 416667 else m.tmLast,
      periods := if src = 2 && m.mainsSrc != 2 then [] else m.periods,
      mainsOk := if src = 2 then (m.mainsSrc == 2 && valid) else true,
      seq := m.nextSeq.getD m.seq,
      sets := m.nextSets.foldl (fun t x => sset SetCfg.reset x.1 x.2 t) m.sets,
      curves := m.nextCurves.foldl (fun t x => sset [] x.1 x.2 t) m.curves,
      acc := m.nextSets.foldl (fun t x => supd AccSet.reset x.1 (fun a => { a with work := SetAcc.reset }) t) m.acc,
      nextCfg := none, nextSeq := none, nextSets := [], nextCurves := [],
      convA := up m.convA, convB := up m.convB, pos := 0, phase := 0, loop := m.loop + 1 } }

/-- Both converters, or the one in service, convert MCH_SHARED when the last entry has been taken and all are free (R413). -/
def State.tryShared (s : State) : State :=
  if s.madc.phase = 0 && decide (s.madc.seq.length ≤ s.madc.pos) && s.allIdle then
    let s1 := s.setMadc (fun m => { m with phase := 1 })
    s1.convs.foldl (fun (s : State) c => (s.setConv c (fun k => { k with sharedIs := none })).startConv c .shared 0) s1
  else s

/-- A free converter takes the next entry (R413). -/
def State.takeEntry (c : Nat) (s : State) : State :=
  if (s.conv c).runs && (s.conv c).work == .none && s.madc.phase = 0 then
    match s.madc.seq[s.madc.pos]? with
    | some e => (s.setMadc (fun m => { m with pos := m.pos + 1 })).startConv c (.entry e e.rep) e.settle
    | none => s
  else s

/-- A converter is taken into calibration (R421, R423), which lasts 2 x T_m + 100 us. -/
def State.startCal (c : Nat) (cont : ConvWork) (s : State) : State :=
  let s1 := s.setMadc (fun m => { m with calRun := some c, calLeft := m.calLeft.filter (· != c) })
  s1.setConv c (fun k =>
    { k with back := k.state, state := .cal, work := .none, resume := cont, startAt := s.now, endAt := s.now + 80 * s.madc.tm + 100000 })

/-- What a converter does at the end of a conversion, with what is left of its work (R423, R426): an injected conversion first,
then a calibration, then its own work, then the table. -/
def State.convNext (c : Nat) (cont : ConvWork) (resumed : Bool) (s : State) : State :=
  let s0 := s.setConv c (fun k => { k with work := .none })
  let waiting := match s.madc.inj with | some i => i.onConv.isNone | none => false
  if waiting then
    let settle := match s.madc.inj with | some i => i.settle | none => 0
    ((s0.setMadc (fun m => { m with inj := m.inj.map (fun i => { i with onConv := some c }) })).setConv c (fun k =>
      { k with resume := cont })).startConv c .inject settle
  else if s.madc.inj.isNone && s.madc.calRun.isNone && s.madc.calLeft.contains c && s.calReady c then s0.startCal c cont
  else if cont != .none then s0.startConv c cont (workSettle resumed cont)
  else
    let s1 := s0.takeEntry c
    let s2 := if s1.madc.phase = 1 && s1.allIdle then
        let s3 := s1.loopBoundary
        [0, 1].foldl (fun (s : State) d => s.takeEntry d) s3
      else s1
    s2.tryShared

/-- Idle converters look for work, after something has changed that they may wait for. -/
def State.kickConvs (s : State) : State :=
  [0, 1].foldl (fun (s : State) c => if (s.conv c).runs && (s.conv c).work == .none then s.convNext c .none false else s) s

/-- A MADC_CAL ends when both converters are done (R422). -/
def State.calDone (s : State) : State :=
  match s.madc.calCtx with
  | some n =>
    if s.madc.calLeft.isEmpty && s.madc.calRun.isNone then
      let f := s.madc.calFailed
      let s1 := s.setMadc (fun m => { m with calCtx := none, calFailed := 0 })
      if f = 0 then s1.done n (le 1 0) else s1.finish n .failed cHw (le 1 f) []
    else s
  | none => s

/-- Both converters are FAILED (R424). -/
def State.bothFailed (s : State) : Bool := (s.conv 0).state == .failed && (s.conv 1).state == .failed

/-- An injected conversion ends with ERR_HW once both converters are FAILED (R424). -/
def State.injectLost (s : State) : State :=
  match s.madc.inj with
  | some i => if s.bothFailed then (s.setMadc (fun m => { m with inj := none })).failWith i.ctx cHw else s
  | none => s

/-- A converter leaves service: its injected conversion waits for one to come back, or ends with ERR_HW (R424). -/
def State.convOut (c : Nat) (st : ConvState) (s : State) : State :=
  let s1 := s.setConv c (fun k => { k with state := st, failed := k.failed || st == .failed, work := .none, resume := .none, discard := 0, toNormal := false })
  let s2 := s1.setMadc (fun m =>
    { m with calLeft := m.calLeft.filter (· != c), calRun := if m.calRun = some c then none else m.calRun })
  (s2.setMadc (fun m =>
    { m with inj := m.inj.map (fun i => if i.onConv = some c then { i with onConv := none } else i) })).injectLost

/-- A converter is declared FAILED (R425). -/
def State.convFail (c : Nat) (s : State) : State :=
  let s1 := s.convOut c .failed
  let s2 := s1.setMadc (fun m => { m with calFailed := if m.calCtx.isSome then m.calFailed ||| 2 ^ c else m.calFailed })
  ((s2.pulse 178).calDone).kickConvs

/-- A calibration of every converter in service is asked for (R422). -/
def State.calRequest (s : State) : State := s.setMadc (fun m => { m with calLeft := s.convs })

/-- The cross-check at the end of a shared conversion (R420). -/
def State.crossCheck (s : State) : State :=
  let off := fun (x : Nat) => decide (524 < ((x : Int) - eSh).natAbs)
  match s.convs with
  | [c] =>
    match (s.conv c).sharedIs with
    | some x =>
      if off x then (s.setMadc (fun m => { m with mismatch := true })).pulse 177
      else s.setMadc (fun m => { m with mismatch := false })
    | none => s
  | _ =>
    match (s.conv 0).sharedIs, (s.conv 1).sharedIs with
    | some a, some b =>
      let d := ((a : Int) - b).natAbs
      let s1 := s.setMadc (fun m => { m with diff := min 0xFFFF d })
      if !((s.conv 0).state == .normal && (s.conv 1).state == .normal) then s1
      else if d ≤ 524 then s1.setMadc (fun m => { m with mismatch := false })
      else
        let s2 := (s1.setMadc (fun m => { m with disagree := satAdd 0xFFFF m.disagree 1 })).pulse 177
        if off a && !off b then s2.convFail 0
        else if off b && !off a then s2.convFail 1
        else (s2.setMadc (fun m => { m with mismatch := true })).calRequest
    | _, _ => s

/-- A step of MADC_TEST ends (R425): 64 SAR and 4 integrating conversions of MCH_LOW, then of MCH_SHARED. -/
def State.testStep (c n code : Nat) (oor : Bool) (s : State) : State :=
  let want := if n < 68 then eLo else eSh
  let bad := oor || decide (2 ^ 20 < 100 * ((code : Int) - want).natAbs)
  let s1 := s.setConv c (fun k => { k with testBad := k.testBad || bad })
  if n < 135 then s1.startConv c (.test (n + 1)) 0
  else
    let ok := !(s1.conv c).testBad
    let s2 := s1.setConv c (fun k => { k with state := if ok then .sar else .failed, failed := !ok, work := .none })
    let s3 := s2.setMadc (fun m => { m with testCtx := none, calLeft := if ok then m.calLeft ++ [c] else m.calLeft })
    (match s.madc.testCtx with
     | some x => s3.done x.1 (le 1 (b2n ok))
     | none => s3).injectLost.kickConvs

/-- The end of a conversion (R415, R419, R426). -/
def State.convEnd (c raw : Nat) (oor : Bool) (s : State) : State :=
  let k := s.conv c
  let kind := match k.work with
    | .inject => k.state == .sar || (match s.madc.inj with | some i => i.sar | none => false)
    | _ => k.sarKind
  let code := k.code kind raw
  if k.discard != 0 then (s.setConv c (fun k => { k with discard := k.discard - 1 })).startConv c k.work 0
  else
    let s1 := s.setConv c (fun k => { k with discard := if oor then (if kind then 2 else 1) else 0 })
    match k.work with
    | .none => s
    | .entry e left =>
      let s2 := s1.accumulate e.set code oor kind false
      s2.convNext c (if left ≤ 1 then .none else .entry e (left - 1)) false
    | .shared =>
      let s2 := s1.setConv c (fun k => { k with sharedIs := some code })
      let s3 := if s2.convs.all (fun d => (s2.conv d).sharedIs.isSome) then s2.crossCheck else s2
      if (s3.conv c).runs then s3.convNext c (.supply (s3.supplyChans c) 16) false else s3
    | .supply chs left =>
      match chs with
      | [] => s1.convNext c .none false
      | ch :: rest =>
        let s2 := s1.accumulate (ch - 2) code oor true false
        s2.convNext c (if 1 < left then .supply chs (left - 1) else if rest.isEmpty then .none else .supply rest 16) false
    | .inject =>
      match s1.madc.inj with
      | some i =>
        let s2 := (s1.accumulate i.set code oor kind true).setMadc (fun m => { m with inj := none })
        let s3 := s2.done i.ctx (s2.accRec i.set)
        let r := k.resume
        (s3.setConv c (fun k => { k with resume := .none })).convNext c r true
      | none => s1
    | .test n => s1.testStep c n code oor

/-- MADC_CONVERSION_END (R415): at the end of its time. -/
def execMadcConversionEnd (t : Nat) (conv : BitVec 1) (raw : Nat) (outOfRange : Bool) (s : State) :
    Host.Outcome State Fault Refusal :=
  let s1 := s.atTime t
  let k := s1.conv conv.toNat
  if k.work == .none || k.state == .cal || decide (s1.now < k.endAt) then s1.out
  else ((s1.convEnd conv.toNat raw outOfRange).kickConvs).out

/-- A calibration is accepted (R421). -/
def calAccept (lo hi : Nat) : Bool :=
  let d : Int := (hi : Int) - lo
  let e : Int := (eSh : Int) - eLo
  decide (((lo : Int) - eLo).natAbs ≤ 5243) && decide (0 < d) && decide (99 * d ≤ 100 * e) && decide (100 * e ≤ 101 * d)

/-- MADC_CALIBRATION_END (R421): the means of the four measurements. -/
def execMadcCalibrationEnd (t : Nat) (conv : BitVec 1) (lo hi sarLo sarHi : Nat) (s : State) : Host.Outcome State Fault Refusal :=
  let s1 := s.atTime t
  let c := conv.toNat
  let k := s1.conv c
  if k.state != .cal || decide (s1.now < k.endAt) then s1.out
  else if calAccept lo hi then
    let s2 := s1.setConv c (fun k =>
      { k with state := k.back, intLo := lo, intHi := hi, sarLo := sarLo, sarHi := sarHi, resume := .none,
               toNormal := k.back == .sar })
    ((((s2.setMadc (fun m => { m with calRun := none })).convNext c k.resume true).calDone).kickConvs).out
  else (s1.convFail c).out

/-- MADC_CAL_PERIODIC (R422). -/
def execMadcCalPeriodic (t : Nat) (s : State) : Host.Outcome State Fault Refusal :=
  let s1 := s.atTime t
  let m := s1.madc
  if m.calPeriod = 0 || !m.seqGo || decide (s1.now < m.calNextAt) then s1.out
  else
    ((s1.setMadc (fun m => { m with calNextAt := s1.now + m.calPeriod * 60000000000 })).calRequest.kickConvs).out

/-- MADC_CONV_TIMEOUT (R425). -/
def execMadcConvTimeout (t : Nat) (conv : BitVec 1) (s : State) : Host.Outcome State Fault Refusal :=
  let s1 := s.atTime t
  let c := conv.toNat
  let k := s1.conv c
  if k.work == .none || decide (s1.now < k.startAt + 2 * (k.endAt - k.startAt)) then s1.out
  else match k.work, s1.madc.testCtx with
    | .test _, some x =>
      (((s1.convOut c .failed).setMadc (fun m => { m with testCtx := none })).done x.1 (le 1 0)).out
    | _, _ => (s1.convFail c).out

/-- The last eight periods make a valid measurement (R411): each within 45 to 65 Hz and within 1% of their mean. -/
def mainsValid (ps : List Nat) : Bool :=
  let sum := ps.sum
  ps.length == 8 && ps.all (fun t => decide (384616 ≤ t) && decide (t ≤ 555555) && decide (100 * ((8 * t : Int) - sum).natAbs ≤ sum))

/-- MAINS_REF_CROSSING (R411): `ticks` of CLK_AON since the crossing before. -/
def execMainsRefCrossing (t : Nat) (ticks : Nat) (s : State) : Host.Outcome State Fault Refusal :=
  let s1 := s.atTime t
  let ps := (ticks :: s1.madc.periods).take 8
  let ok := mainsValid ps
  ((s1.setMadc (fun m =>
    if m.mainsSrc != 2 then m
    else { m with periods := ps, mainsOk := ok, tm := if ok then (ps.sum + 4) / 8 else m.tm,
                  tmLast := if ok then (ps.sum + 4) / 8 else m.tmLast })).kickConvs).out

/-! ## Commands -/

/-- The channel may be named (R408): its result code otherwise. -/
def State.madcChan (ch : Nat) (s : State) : Nat :=
  if ch = 64 then cConflict
  else if 79 < ch then cRange
  else if s.board.member.dies = 2 && (ch = 68 || ch = 69 || ch = 72 || ch = 73) then cRange
  else cOk

/-- ERR_CONFLICT naming MCH_SHARED (R408, R582). -/
def sharedConflict : List Byte := conflictData 3 64 6 0

/-- MADC_CFG_STAGE (R412). -/
def takeMadcCfgStage (h : Hdr) (mainsSrc mult calPeriod : BitVec 8) (s : State) : State :=
  s.take h 0x0A00 [.s] true (some 0) (decide (mainsSrc.toNat ≤ 2) && decide (1 ≤ mult.toNat) && decide (mult.toNat ≤ 16))
    (fun s => .ok [] [] (s.setMadc (fun m => { m with nextCfg := some (mainsSrc.toNat, mult.toNat, calPeriod.toNat) })))

/-- MADC_CFG_STAGE. -/
def execMadcCfgStage (h : Hdr) (mainsSrc mult calPeriod : BitVec 8) (s : State) : Host.Outcome State Fault Refusal :=
  (takeMadcCfgStage h mainsSrc mult calPeriod s).out

/-- An entry of the sequence table (R412), with whether its reserved bits are 0. -/
def seqEntryOf (v : Nat) : SeqEntry × Bool :=
  ({ ch := bits v 0 7, sar := bit v 7, rep := zeroIs' 256 (bits v 8 8), settle := bits v 16 8, set := bits v 24 6 }, bits v 30 2 == 0)
where
  /-- The zero rule of REP. -/
  zeroIs' (d v : Nat) : Nat := if v = 0 then d else v

/-- MADC_SEQ_STAGE (R408, R412). -/
def takeMadcSeqStage (h : Hdr) (len : BitVec 8) (s : State) : State :=
  s.take h 0x0A01 [.s] true (some (4 * len.toNat)) (decide (len.toNat ≤ 128)) (fun s =>
    let es := (chunks 4 len.toNat (s.payload h)).map (fun b => seqEntryOf (leVal b))
    if es.any (fun e => !e.2 || s.madcChan e.1.ch == cRange) then .fail cRange [] s
    else if es.any (fun e => s.madcChan e.1.ch == cConflict) then .fail cConflict sharedConflict s
    else .ok [] [] (s.setMadc (fun m => { m with nextSeq := some (es.map (·.1)) })))

/-- MADC_SEQ_STAGE. -/
def execMadcSeqStage (h : Hdr) (len : BitVec 8) (s : State) : Host.Outcome State Fault Refusal := (takeMadcSeqStage h len s).out

/-- One set configuration of 12 bytes (R577), with whether it is in range (R416). -/
def setCfgOf (bs : List Byte) : SetCfg × Bool :=
  ({ win := if rd bs 0 1 = 0 then 256 else rd bs 0 1, unit := rd bs 1 1, curve := rd bs 2 1, scale := rdS bs 4 4, offset := rdS bs 8 4 },
   decide (rd bs 1 1 ≤ 3) && decide (rd bs 2 1 ≤ 3) && rd bs 3 1 == 0)

/-- A curve of 16 points (R416). -/
def curveOf (bs : List Byte) : List (Nat × Int) := (chunks 8 16 bs).map (fun b => (rd b 0 4, rdS b 4 2))

/-- Codes of a curve are 20 bits and ascend. -/
def curveOk (c : List (Nat × Int)) : Bool :=
  c.all (fun p => decide (p.1 < 2 ^ 20)) && (c.zip (c.drop 1)).all (fun x => decide (x.1.1 < x.2.1))

/-- MADC_SET_STAGE (R412, R416). -/
def takeMadcSetStage (h : Hdr) (first count curves : BitVec 8) (s : State) : State :=
  let n := count.toNat
  let cs := setBits 4 curves.toNat
  s.take h 0x0A02 [.s] true (some (12 * n + 128 * cs.length))
    (decide (first.toNat + n ≤ 64) && decide (curves.toNat < 16)) (fun s =>
    let p := s.payload h
    let xs := (chunks 12 n p).map setCfgOf
    let raw := chunks 128 cs.length (p.drop (12 * n))
    let ks := raw.map curveOf
    if xs.all (·.2) && ks.all curveOk && raw.all (fun b => (chunks 8 16 b).all (fun q => rd q 6 2 == 0)) then
      .ok [] [] (s.setMadc (fun m =>
        { m with nextSets := m.nextSets ++ xs.zipIdx.map (fun x => (first.toNat + x.2, x.1.1)),
                 nextCurves := m.nextCurves ++ cs.zip ks }))
    else .fail cRange [] s)

/-- MADC_SET_STAGE. -/
def execMadcSetStage (h : Hdr) (first count curves : BitVec 8) (s : State) : Host.Outcome State Fault Refusal :=
  (takeMadcSetStage h first count curves s).out

/-- MADC_CAL (R422). -/
def takeMadcCal (h : Hdr) (s : State) : State :=
  s.take h 0x0A03 [.s] true (some 0) true (fun s =>
    if s.madc.calCtx.isSome then .fail cBusy [] s
    else if s.convs.isEmpty then .fail cHw (le 1 3) s
    else .go (((s.setMadc (fun m => { m with calCtx := some h.ctx.toNat, calFailed := 0 })).calRequest).kickConvs))

/-- MADC_CAL. -/
def execMadcCal (h : Hdr) (s : State) : Host.Outcome State Fault Refusal := (takeMadcCal h s).out

/-- MADC_INJECT (R424, R426, R408). -/
def takeMadcInject (h : Hdr) (ch kind settle set : BitVec 8) (s : State) : State :=
  s.take h 0x0A04 [.c] true (some 0)
    (decide (kind.toNat ≤ 1) && decide (set.toNat ≤ 63) && s.madcChan ch.toNat != cRange) (fun s =>
    if s.madc.inj.isSome then .fail cBusy [] s
    else if s.bothFailed then .fail cHw [] s
    else if s.madcChan ch.toNat = cConflict then .fail cConflict sharedConflict s
    else
      let i : Inject := { ctx := h.ctx.toNat, ch := ch.toNat, sar := kind = 1, settle := settle.toNat, set := set.toNat, onConv := none }
      .go ((s.setMadc (fun m => { m with inj := some i })).kickConvs))

/-- MADC_INJECT. -/
def execMadcInject (h : Hdr) (ch kind settle set : BitVec 8) (s : State) : Host.Outcome State Fault Refusal :=
  (takeMadcInject h ch kind settle set s).out

/-- MADC_TEST (R425): one at a time. -/
def takeMadcTest (h : Hdr) (conv : BitVec 8) (s : State) : State :=
  s.take h 0x0A05 [.s] true (some 0) (decide (conv.toNat ≤ 1)) (fun s =>
    if s.madc.testCtx.isSome then .fail cBusy [] s
    else
      let c := conv.toNat
      let s1 := (s.convOut c .test).setConv c (fun k => { k with testBad := false })
      let s2 := (s1.setMadc (fun m => { m with testCtx := some (h.ctx.toNat, c) })).startConv c (.test 0) 0
      .go (s2.calDone.kickConvs))

/-- MADC_TEST. -/
def execMadcTest (h : Hdr) (conv : BitVec 8) (s : State) : Host.Outcome State Fault Refusal := (takeMadcTest h conv s).out

/-- MADC_ACC_READ (R418). -/
def takeMadcAccRead (h : Hdr) (window clear : BitVec 8) (offset : BitVec 32) (mask : BitVec 64) (maskHi : BitVec 8) (s : State) :
    State :=
  s.take h 0x0A06 [.c] true (some 0) (decide (clear.toNat ≤ 1)) (fun s =>
    let ns := setBits 72 (mask.toNat + 2 ^ 64 * maskHi.toNat)
    match s.winResult window.toNat offset.toNat (ns.flatMap (fun n => s.accRec n)) [] with
    | .ok data pay s1 =>
      .ok data pay (if clear = 1 then s1.setMadc (fun m =>
        { m with acc := ns.foldl (fun t n => supd AccSet.reset n (fun a => { a with sticky := false }) t) m.acc }) else s1)
    | r => r)

/-- MADC_ACC_READ. -/
def execMadcAccRead (h : Hdr) (window clear : BitVec 8) (offset : BitVec 32) (mask : BitVec 64) (maskHi : BitVec 8) (s : State) :
    Host.Outcome State Fault Refusal := (takeMadcAccRead h window clear offset mask maskHi s).out

/-- At BOOT exit the converters start in SAR, SEQ_GO is set and the first calibration is asked for (R410, R422, R424). -/
def State.madcStart (s : State) : State :=
  let on := fun (k : Conv) => { k with state := .sar }
  let s1 := s.setMadc (fun m =>
    { m with convA := on m.convA, convB := on m.convB, seqGo := true, calLeft := [0, 1], mainsOk := m.mainsSrc != 2 || m.mainsOk,
             calNextAt := s.now + m.calPeriod * 60000000000 })
  s1.kickConvs

end Sys2Proof.Machine
end

