-- ==== Sys2Proof/Machine/PixOps.lean ====
section
/-! DEFINITION. Per-pixel correction of one line: shading sets, the choice between them, dark offset and gain, replacement and
linearisation (chapter "Per-pixel correction and temperature-set shading"). -/

namespace Sys2Proof.Machine

/-! ## Pixels and slots of the shading store (R207, R208) -/

/-- Covered columns of the four colour lines of a port. -/
def portPixels (t : Tables) (p : Nat) : Nat := ((List.range 4).map (lineWidth t p)).sum

/-- N of R207. -/
def pixCount (m : Member) (t : Tables) : Nat := ((List.range m.ports).map (portPixels t)).sum

/-- Slots of the store for N pixels (R207). -/
def shdSlots (n : Nat) : Nat := if n = 0 then 5 else min 5 (2097152 / n)

/-- SETS_MAX (R207). -/
def setsMax (m : Member) (t : Tables) : Nat := shdSlots (pixCount m t) - 1

/-- Index of column 0 of a colour line of a port (R208). -/
def pixBase (t : Tables) (p c : Nat) : Nat :=
  ((List.range p).map (portPixels t)).sum + ((List.range c).map (lineWidth t p)).sum

/-- The active copy of a set, while it is valid. -/
def State.activeSet (k : Nat) (s : State) : Option ShdSet :=
  (sget none k s.shd.place).map (fun sl => sget ShdSet.reset sl s.shd.slots)

/-- The spare slot, one of those that N leaves (R207). -/
def State.spareSlot (s : State) : Nat :=
  let n := shdSlots (pixCount s.board.member s.shadow)
  if s.shd.spare < n then s.shd.spare else n - 1

/-- The staged copy of a set. -/
def State.stagedSet (k : Nat) (s : State) : Option ShdSet :=
  if s.shd.staged == some k then some (sget ShdSet.reset s.spareSlot s.shd.slots) else none

/-- The sets as the next apply will leave them, by number. -/
def State.shdView (s : State) : List (Nat × ShdSet) :=
  (List.range 4).filterMap (fun k =>
    match s.stagedSet k with
    | some x => some (k, x)
    | none => if s.shd.cleared.contains k then none else (s.activeSet k).map (fun x => (k, x)))

/-- The valid sets by number. -/
def State.validSets (s : State) : List (Nat × ShdSet) :=
  (List.range 4).filterMap (fun k => (s.activeSet k).map (fun x => (k, x)))

/-! ## Shading temperatures and the choice of sets (R218 to R222) -/

/-- The formula of R218, in Q8.8. -/
def thetaOf (w : Nat) (fe lamp : Int) : Int := fe + sar ((w : Int) * (lamp - fe)) 4

/-- The tag of a set for a zone and colour line (R218). -/
def tagOf (cfg : ShdCfg) (x : ShdSet) (z c : Nat) : Int :=
  thetaOf (cfg.wts.getD c 0) (x.tFe.getD z 0) ((x.tLamp.getD z []).getD (cfg.rows.getD c 0).toNat 0)

/-- Any two of some tags differ by at least 2.0 degrees (R219). -/
def tagsApart : List Int → Bool
  | [] => true
  | t :: ts => ts.all (fun u => decide (512 ≤ (t - u).natAbs)) && tagsApart ts

/-- R219 over every zone and colour line. -/
def check219 (m : Member) (cfg : ShdCfg) (sets : List (Nat × ShdSet)) : Bool :=
  (List.range m.ports).all (fun z => (List.range 4).all (fun c => tagsApart (sets.map (fun x => tagOf cfg x.2 z c))))

/-- The entry with the least tag. -/
def lowestTag (l : List (Nat × Int)) : Option (Nat × Int) :=
  l.foldl (fun (b : Option (Nat × Int)) x => match b with | none => some x | some y => if x.2 < y.2 then some x else b) none

/-- The entry with the greatest tag. -/
def highestTag (l : List (Nat × Int)) : Option (Nat × Int) :=
  l.foldl (fun (b : Option (Nat × Int)) x => match b with | none => some x | some y => if y.2 < x.2 then some x else b) none

/-- The choice of R220 for a shading temperature, from the tags of the valid sets by number. -/
def chooseOf (tags : List (Nat × Int)) (th : Int) : Choice :=
  match lowestTag tags, highestTag tags with
  | some lo, some hi =>
    if th ≤ lo.2 then { a := lo.1, b := lo.1, f := 0 }
    else if hi.2 ≤ th then { a := hi.1, b := hi.1, f := 0 }
    else
      match highestTag (tags.filter (fun x => decide (x.2 ≤ th))), lowestTag (tags.filter (fun x => decide (th < x.2))) with
      | some x, some y => { a := x.1, b := y.1, f := (256 * (th - x.2) / (y.2 - x.2)).toNat }
      | _, _ => Choice.reset
  | _, _ => Choice.reset

/-- The shading temperature lies beyond the tags by more than OOT_MARGIN (R222). -/
def outOfTags (margin : Int) (tags : List (Nat × Int)) (th : Int) : Bool :=
  match lowestTag tags, highestTag tags with
  | some lo, some hi => decide (th < lo.2 - margin) || decide (hi.2 + margin < th)
  | _, _ => false

/-- A filtered temperature in Q8.8 (R216): of the die for j = 0, of row j - 1 otherwise. -/
def filtered (fs : SMap Filter) (z j : Nat) : Int := sar (sget Filter.reset (5 * z + j) fs).val 8

/-- The shading temperature of a zone and colour line (R218). -/
def thetaNow (cfg : ShdCfg) (fs : SMap Filter) (z c : Nat) : Int :=
  thetaOf (cfg.wts.getD c 0) (filtered fs z 0) (filtered fs z ((cfg.rows.getD c 0).toNat + 1))

/-- Zones and colour lines of a member. -/
def zoneLines (m : Member) : List (Nat × Nat) := (List.range m.ports).flatMap (fun z => (List.range 4).map (fun c => (z, c)))

/-- The choices of every zone and colour line (R221), keyed by 4 x zone + colour line. -/
def choicesOf (m : Member) (cfg : ShdCfg) (fs : SMap Filter) (sets : List (Nat × ShdSet)) : SMap Choice :=
  (zoneLines m).foldl (fun r x =>
    sset Choice.reset (4 * x.1 + x.2)
      (chooseOf (sets.map (fun k => (k.1, tagOf cfg k.2 x.1 x.2))) (thetaNow cfg fs x.1 x.2)) r) []

/-- OOT of SHD_STATUS (R222). -/
def ootOf (m : Member) (cfg : ShdCfg) (fs : SMap Filter) (sets : List (Nat × ShdSet)) : Bool :=
  (zoneLines m).any (fun x =>
    outOfTags cfg.margin (sets.map (fun k => (k.1, tagOf cfg k.2 x.1 x.2))) (thetaNow cfg fs x.1 x.2))

/-! ## Dark offset, gain and replacement (R223 to R228) -/

/-- A pixel after R224: whether it is defective, whether by a fault (R226, R228), its value and SAT. -/
structure ShPix where
  bad   : Bool
  fault : Bool
  v     : Nat
  sat   : Bool
  deriving DecidableEq, Repr

/-- DARK of a pixel word (R208). -/
def darkOf (w : BitVec 32) : Int := signed 16 w.toNat

/-- GAIN of a pixel word (R208). -/
def gainOf (w : BitVec 32) : Nat := bits w.toNat 16 16

/-- Interpolation between the sets (R223). -/
def between (f : Nat) (a b : Int) : Int := a + sar ((b - a) * f + 128) 8

/-- The corrected value (R224): 16 bits and SAT. -/
def applyGain (x : Nat) (d : Int) (g : Nat) : Nat × Bool :=
  let z := sar (((x : Int) - d) * g + 8192) 14
  if z < 0 then (0, false) else if 65535 < z then (65535, true) else (z.toNat, false)

/-- One pixel through R223 to R225: its index, DATA, SAT and DEFPIX as it arrives, in the sets of a line. -/
def shadeOne (sets : SMap ShdSet) (ch : Choice) (idx x : Nat) (sat defpix : Bool) : ShPix :=
  if sets.isEmpty then
    let r := applyGain x 0 0x4000
    { bad := defpix, fault := defpix, v := if sat then 65535 else r.1, sat := sat || r.2 }
  else
    let a := sget ShdSet.reset ch.a sets
    let b := sget ShdSet.reset ch.b sets
    let wa := sget 0 idx a.words
    let wb := sget 0 idx b.words
    let unc := a.bad.contains idx || b.bad.contains idx
    let d := if ch.a = ch.b then darkOf wa else between ch.f (darkOf wa) (darkOf wb)
    let g := if ch.a = ch.b then gainOf wa else (between ch.f (gainOf wa) (gainOf wb)).toNat
    let r := applyGain x d g
    { bad := gainOf wa == 0 || gainOf wb == 0 || defpix || unc, fault := defpix || unc, v := if sat then 65535 else r.1,
      sat := sat || r.2 }

/-- The nearest non-defective of two neighbours, with its distance. -/
def nearOf (x1 x2 : Option ShPix) : Option (Nat × ShPix) :=
  match x1, x2 with
  | some a, some b => if a.bad then (if b.bad then none else some (2, b)) else some (1, a)
  | some a, none => if a.bad then none else some (1, a)
  | none, _ => none

/-- Replacement of one pixel by its neighbours to the left (nearest first) and to the right (R228). -/
def fixPix (l1 l2 : Option ShPix) (x : ShPix) (r1 r2 : Option ShPix) : Pix :=
  if !x.bad then { data := BitVec.ofNat 16 x.v, sat := x.sat, defpix := false, interp := false, stitch := false }
  else
    match nearOf l1 l2, nearOf r1 r2 with
    | some (dl, l), some (dr, r) =>
      { data := BitVec.ofNat 16 ((l.v * dr + r.v * dl + (dl + dr) / 2) / (dl + dr)), sat := l.sat || r.sat,
        defpix := false, interp := x.fault, stitch := false }
    | some (_, l), none => { data := BitVec.ofNat 16 l.v, sat := l.sat, defpix := false, interp := x.fault, stitch := false }
    | none, some (_, r) => { data := BitVec.ofNat 16 r.v, sat := r.sat, defpix := false, interp := x.fault, stitch := false }
    | none, none => Pix.none

/-- Replacement along a tap line (R227, R228). -/
def replaceAll (l1 l2 : Option ShPix) : List ShPix → List Pix
  | [] => []
  | x :: xs => fixPix l1 l2 x xs.head? (xs.drop 1).head? :: replaceAll (some x) l1 xs

/-- The input is masked in a line: its port is (R52), or no channel carries it (R145). -/
def LineRec.isDead (r : LineRec) (i : Nat) : Bool := r.masked.contains (i / 16) || r.dead.contains i

/-- A tap line after correction (step 3 of R206): columns with their pixels, in time order. -/
def LineRec.tap (r : LineRec) (i : Nat) : List (Int × Pix) :=
  let e := tapEntry r.tabs i
  let p := i / 16
  let c := e.line.toNat
  let ch := sget Choice.reset (4 * p + c) r.choices
  let base := pixBase r.tabs p c
  let xs := e.columns.zipIdx.map (fun x =>
    let w := r.word i (e.first.toNat + x.2)
    shadeOne r.sets ch (base + x.1.toNat) (4 * w.code.toNat) w.sat (w.bad || r.isDead i))
  e.columns.zip (replaceAll none none xs)

/-- A column of a colour line of a port among tap lines. -/
def pixAt (taps : List (Int × Pix)) (u : Int) : Pix :=
  match taps.find? (fun x => x.1 == u) with
  | some x => x.2
  | none => Pix.none

/-- A colour line of a port after correction, by column. -/
def LineRec.shaded (r : LineRec) (p c : Nat) : List Pix :=
  let taps := ((enabledOf r.tabs p).filter (fun i => (tapEntry r.tabs i).line.toNat = c)).flatMap r.tap
  (List.range (lineWidth r.tabs p c)).map (fun (u : Nat) => pixAt taps u)

/-! ## Linearisation (R229 to R231) -/

/-- Entry E[k] of a table, the empty list standing for the table of R231. -/
def linEntry (tab : List Nat) (k : Nat) : Int :=
  if 4096 ≤ k then 65535 else if tab.isEmpty then 16 * (k : Int) else (tab.getD k 0 : Nat)

/-- The output of R229. -/
def linValue (tab : List Nat) (v : Nat) : Int :=
  let e := linEntry tab (v / 16)
  e + sar ((linEntry tab (v / 16 + 1) - e) * (v % 16 : Nat) + 8) 4

/-- A pixel through linearisation (R230). -/
def linPix (tab : List Nat) (x : Pix) : Pix :=
  if x.defpix then { x with data := 0 }
  else if x.sat then { x with data := 0xFFFF }
  else { x with data := BitVec.ofInt 16 (linValue tab x.data.toNat) }

/-- A colour line of a port as it leaves the correction stage. -/
def LineRec.corrected (r : LineRec) (p c : Nat) : List Pix := (r.shaded p c).map (linPix (sget [] c r.tabs.lin))

end Sys2Proof.Machine
end

