-- ==== Sys2Proof/Machine/LineOps.lean ====
section
/-! DEFINITION. What the line tables are checked against, and the pure arithmetic of line timing, alignment and the page ring
(chapters "Line timing, exposure and seamless stop-restart", "Colour-line alignment and segment stitching" and "The
Skillet path: fixed-latency streak detection"). -/

namespace Sys2Proof.Machine

/-! ## T_MIN (R174) -/

/-- The program time of a die in ns, rounded up. -/
def dieTime (banks : SMap PatProgram) (t : Tables) (k : Nat) : Nat := divUp (dieLen banks t k * 250000) (tapClkOf t k)

/-- The dies whose programs T_MIN is taken from: those with a port in use, or all. -/
def timedDies (m : Member) (t : Tables) : List Nat :=
  let ds := diesInUse m t
  if ds.isEmpty then List.range m.dies else ds

/-- T_MIN of a device with identity 0 and some followers, or alone (R174, R196). The programs of the other devices of a bar decide
the largest of theirs (log entry 30). -/
def tMinOf (m : Member) (banks : SMap PatProgram) (t : Tables) : Nat :=
  let own := ((timedDies m t).map (dieTime banks t)).foldl max 0
  if t.ltSrc.followers = 0 then own else max (max 6400 own) Config.barTMin

/-- T_MIN in force. -/
def State.tMin (s : State) : Nat := tMinOf s.board.member s.banks s.active

/-! ## The strobe table (R180 to R183) -/

/-- Enabled slots of a phase, in table order. -/
def Strobe.phase (t : Strobe) (ph : Nat) : List Slot := ((t.slots.drop (4 * ph)).take 4).filter (·.en)

/-- Slots in ascending order, each starting 200 ns or more after the one before has ended. -/
def slotsSpaced : List Slot → Bool
  | a :: b :: l => decide (a.start.toNat < b.start.toNat) && decide (a.start.toNat + a.width.toNat + 160 ≤ b.start.toNat) && slotsSpaced (b :: l)
  | _ => true

/-- First START of a phase, 0 with no enabled slot, in 1.25 ns. -/
def Strobe.firstStart (t : Strobe) (ph : Nat) : Nat :=
  match t.phase ph with
  | x :: _ => x.start.toNat
  | [] => 0

/-- R181 for one phase: T_MIN in ns, `f` the tap clock of the slowest die in kHz. -/
def Strobe.phaseOk (t : Strobe) (tMin f ph : Nat) : Bool :=
  let l := t.phase ph
  slotsSpaced l &&
    (match l.head?, l.getLast? with
     | some a, some z =>
       decide (4 * (3 * f + 750000) ≤ 5 * a.start.toNat * f) &&
         decide (5 * (z.start.toNat + z.width.toNat) + 800 ≤ 4 * tMin + 5 * t.firstStart ((ph + 1) % t.phases))
     | _, _ => true) &&
    (l.isEmpty || (List.range 4).all (fun c => l.any (fun x => x.wt.getD c 0 != 0)))

/-- R181. -/
def check181 (m : Member) (banks : SMap PatProgram) (t : Tables) : Bool :=
  let fs := (timedDies m t).map (tapClkOf t)
  let f := fs.foldl min (fs.headD tapClkReset)
  (List.range t.strobe.phases).all (t.strobe.phaseOk (tMinOf m banks t) f)

/-- delta_c of a colour line at a speed in 1/16 line/s (R183): 64 x V x (t_c - STB_REF), saturated to 8 bits. -/
def Strobe.delta (t : Strobe) (ph : Nat) (v : Int) (c : Nat) : Int :=
  let l := t.phase ph
  if l.isEmpty then 0
  else
    let w : Int := ((l.map (fun x => (x.wt.getD c 0).toNat)).sum : Nat)
    let m : Int := ((l.map (fun x => (x.wt.getD c 0).toNat * (2 * x.start.toNat + x.width.toNat))).sum : Nat)
    clampI (-128) 127 (divRound (64 * v * 5 * (m - 2 * t.stbRef.toNat * w)) (16 * 8 * 1000000000 * w))

/-! ## Alignment and stitching (R243 to R250, R258, R259) -/

/-- The entry of a port. -/
def alnOf (t : Tables) (p : Nat) : AlnEntry := sget AlnEntry.reset p t.aln

/-- OFS (R245). -/
def ofsOf (t : Tables) (p c : Nat) : Int := ((alnOf t p).align.getD c 0).toNat + (alnOf t p).along

/-- DEPTH (R245). -/
def depthOf (t : Tables) (p c : Nat) : Nat := (sar (ofsOf t p c + 191) 6).toNat + 2

/-- Ports that take part in stitching. -/
def alnPorts (m : Member) (t : Tables) : List Nat := (List.range m.ports).filter (fun p => (alnOf t p).en)

/-- Insertion by ascending X. -/
def insertX (t : Tables) (p : Nat) : List Nat → List Nat
  | [] => [p]
  | q :: l => if (alnOf t p).x.toNat < (alnOf t q).x.toNat then p :: q :: l else q :: insertX t p l

/-- The output order (R247). -/
def alnOrder (m : Member) (t : Tables) : List Nat := (alnPorts m t).foldl (fun l p => insertX t p l) []

/-- Neighbouring pairs of a list. -/
def pairs {α : Type} (l : List α) : List (α × α) := l.zip (l.drop 1)

/-- R246 and R247 for a neighbouring pair; BW and SC of the rightmost port stand in none. With a hard cut there are no blend
columns (log entry 31). -/
def pairOk (t : Tables) (a b : Nat) : Bool :=
  let ea := alnOf t a
  let xa := ea.x.toNat
  let xb := (alnOf t b).x.toNat
  let wa := lineWidth t a 0
  let bw := ea.bw.toNat
  let ov := ((xa + 64 * wa : Nat) - (xb : Int)) / 64
  decide (xa < xb) && decide (16 ≤ ov) && decide (ov ≤ 128) && bw % 2 == 0 && decide (bw ≤ 128) &&
    (bw == 0 || (decide (divUp xb 64 + 2 + bw / 2 ≤ ea.sc.toNat) && decide (ea.sc.toNat + bw / 2 + 2 ≤ xa / 64 + wa)))

/-- R245 and R247. -/
def check247 (m : Member) (t : Tables) : Bool :=
  (alnPorts m t).all (fun p =>
    (List.range 4).all (fun c => lineWidth t p c == lineWidth t p 0 && decide (-64 ≤ ofsOf t p c) && decide (ofsOf t p c ≤ 4095))) &&
    (pairs (alnOrder m t)).all (fun x => pairOk t x.1 x.2)

/-- R249. -/
def check249 (m : Member) (t : Tables) : Bool :=
  decide (((alnPorts m t).map (fun p => ((List.range 4).map (fun c => depthOf t p c * lineWidth t p 0)).sum)).sum ≤ 9122611)

/-- Two tables agree in what R248 holds fixed in a capture mode. -/
def sameDelays (m : Member) (a b : Tables) : Bool :=
  a.stagger == b.stagger && (List.range m.ports).all (fun p =>
    (alnOf a p).row == (alnOf b p).row && (alnOf a p).en == (alnOf b p).en &&
      (List.range 4).all (fun c => depthOf a p c == depthOf b p c))

/-- Pixels of a delayed line (R253). -/
def stagPixels (m : Member) (t : Tables) : Nat := (((alnPorts m t).filter (fun p => !(alnOf t p).row)).map (portPixels t)).sum

/-- LB of R253: bytes of one delayed line. -/
def stagLine (m : Member) (t : Tables) : Nat := 64 * divUp (12 * stagPixels m t) 512

/-- WARM of R257. -/
def warmOf (m : Member) (t : Tables) : Nat :=
  ((alnPorts m t).map (fun p => ((List.range 4).map (fun c => depthOf t p c - 2)).foldl max 0)).foldl max 0

/-! ## The Skillet path (R323, R324, R341 to R343) -/

/-- Enabled groups. -/
def sklGroups (t : Tables) : List (Nat × SklGroup) := t.sklMap.filter (fun x => x.2.en)

/-- NG (R341). -/
def sklNg (t : Tables) : Nat := (sklGroups t).foldl (fun n x => max n (x.1 + 1)) 0

/-- S (R342). -/
def sklS (t : Tables) : Nat := divUp (sklNg t) (8 * t.sklCfg.lanes)

/-- R343; without SLK_EN no frame is sent and nothing is checked (log entry 32). -/
def check343 (m : Member) (banks : SMap PatProgram) (t : Tables) : Bool :=
  !t.sklCfg.slkEn || decide ((sklS t + 16) * 8 ≤ tMinOf m banks t)

/-- Two groups share a column. -/
def groupsMeet (a b : SklGroup) : Bool :=
  a.port == b.port && decide (a.first < b.first + b.width) && decide (b.first < a.first + a.width)

/-- No two groups of a list share a column. -/
def groupsApart : List (Nat × SklGroup) → Bool
  | [] => true
  | x :: l => l.all (fun y => !groupsMeet x.2 y.2) && groupsApart l

/-- R324, against the tap map. -/
def check324 (m : Member) (t : Tables) : Bool :=
  (sklGroups t).all (fun x => decide (x.2.port < m.ports) && decide (x.2.first + x.2.width ≤ lineWidth t x.2.port t.sklCfg.line)) &&
    groupsApart (sklGroups t)

/-! ## Line products and the page ring (R264, R265, R652) -/

/-- A size rounded up to 64 bytes. -/
def up64 (n : Nat) : Nat := 64 * divUp n 64

/-- Channels of a mask. -/
def chans (mask : BitVec 8) : List Nat := (List.range 4).filter (fun c => mask.getLsbD c)

/-- Bytes of a line product (R264, R265). -/
def productSize (pf : Nat) (mask : BitVec 8) (count : Nat) : Nat :=
  64 + (chans mask).length * up64 (if pf % 4 = 0 || pf % 4 = 2 then 2 * count else count) + (if 2 ≤ pf then up64 (divUp count 4) else 0)

/-- Bytes of the main product of a line; none without pixels (log entry 33). -/
def Product.size (x : Product) : Nat := if x.count = 0 then 0 else productSize x.pf.toNat x.chMask x.count

/-- Crop line products that page line `y` can need. -/
def cropsSize (l : List CropReq) (y : Nat) : Nat :=
  ((l.filter (fun c => decide (c.y ≤ y) && decide (y < c.y + c.h))).map (fun c => productSize c.pf (BitVec.ofNat 8 c.chMask) c.w)).sum

/-- The largest space that the line products of one line can need, with the crops that come with a page's reference (R652). -/
def ringLine (t : Tables) (extra : List CropReq) : Nat :=
  let cs := t.sv.crops ++ extra
  t.product.size + (cs.map (fun c => cropsSize cs c.y)).foldl max 0

/-- The ring line that the tables and the references submitted need (R652). -/
def State.ringNeed (t : Tables) (s : State) : Nat :=
  let refs := match s.sv.job with
    | some j => j.refs.map (fun (r : RefSub) => ringLine t r.crops)
    | none => []
  refs.foldl max (ringLine t [])

/-- A ring is set. -/
def State.hasRing (s : State) : Bool := s.ring.cap != 0

/-- FILL (R190, R652). -/
def State.fill (s : State) : Nat := (s.ring.pages.map (fun p => p.lines + p.reserved)).sum

/-- Products staged for later lines still fit the ring line in force (R652). -/
def State.fitsRing (t : Tables) (s : State) : Bool := !s.hasRing || decide (s.ringNeed t ≤ s.ring.rl)

/-- Lines of the largest page in a mode (R190): none in SHEET_SCAN. -/
def LtPage.largest (x : LtPage) (m : Mode) : Option Nat :=
  match m with
  | .webDense | .webFast | .patchMeasure => some (divUp x.pageLen 64)
  | .sheetInspect => some (if x.maxLen = 0 then 16777216 else x.maxLen)
  | _ => none

/-- MAX_LEN in lines (R187). -/
def LtPage.longest (x : LtPage) : Nat := if x.maxLen = 0 then 16777216 else x.maxLen

/-- The three checks of R191 for a ring capacity and a page and a pacing table: the page of the web modes and PATCH_MEASURE, the
sheet of SHEET_INSPECT, and the sheet of SHEET_SCAN. -/
def check191 (cap : Nat) (t : Tables) : Bool :=
  decide (divUp t.ltPage.pageLen 64 ≤ cap) && decide (t.ltPage.longest ≤ cap) && decide (t.ltPage.longest ≤ t.ltPace.lwm)

/-- The checks of R191 at a staging or RING_SET: none without a ring. -/
def pageFits (cap : Nat) (t : Tables) : Bool := cap == 0 || check191 cap t

/-- The speed ceiling of AX_A in SHEET_SCAN, in 1/16 microstep/s (R403, R447). -/
def State.ceiling (t : Tables) (s : State) : Nat := (sget MotCfg.reset 0 t.motCfg).vRun * s.simmer.ceil / 4096

/-- D_stop of R193 at a speed in 1/16 microstep/s, in pitches; none without a deceleration. -/
def stopPitches (t : Tables) (v : Nat) : Option Nat :=
  let dec := (sget MotCfg.reset 0 t.motCfg).decStop
  if v = 0 then some 0 else if dec = 0 then none else some (divUp (v * v * 2 ^ 32) (512 * dec * t.ltSrc.div.toNat))

/-- R193: the stop distance fits above HWM. -/
def stopFits (cap v : Nat) (t : Tables) : Bool :=
  match stopPitches t v with
  | some d => decide (d + 16 + t.ltPace.hwm ≤ cap)
  | none => false

end Sys2Proof.Machine
end

