-- ==== Sys2Proof/Machine/Illum.lean ====
section
/-! DEFINITION. Illumination: dose, lamp-switch chains, lamp test and supervision (chapter "Illumination drive", R573, R574). -/

namespace Sys2Proof.Machine

/-! ## Rows and lamps (R347, R348) -/

/-- A row. -/
def State.row (w : Nat) (s : State) : RowUnit := sget RowUnit.reset w s.ilm.rows

/-- Change a row. -/
def State.setRow (w : Nat) (f : RowUnit → RowUnit) (s : State) : State :=
  { s with ilm := { s.ilm with rows := supd RowUnit.reset w f s.ilm.rows } }

/-- The configuration of a row. -/
def rowCfg (t : Tables) (w : Nat) : IlmRow := sget IlmRow.reset w t.ilmRow

/-- A chain. -/
def State.chain (c : Nat) (s : State) : ChainUnit := if c = 0 then s.ilm.chain0 else s.ilm.chain1

/-- Change a chain. -/
def State.setChain (c : Nat) (f : ChainUnit → ChainUnit) (s : State) : State :=
  if c = 0 then { s with ilm := { s.ilm with chain0 := f s.ilm.chain0 } }
  else { s with ilm := { s.ilm with chain1 := f s.ilm.chain1 } }

/-- Lamps of a chain in index order (R348), as (row, zone, lamp). -/
def chainLamps (zones : Nat) (t : Tables) (c : Nat) : List (Nat × Nat × Nat) :=
  [2 * c, 2 * c + 1].flatMap (fun w => (List.range zones).flatMap (fun z => (List.range (rowCfg t w).lpz).map (fun n => (w, z, n))))

/-- N_c (R348). -/
def chainLen (zones : Nat) (t : Tables) (c : Nat) : Nat := zones * ((rowCfg t (2 * c)).lpz + (rowCfg t (2 * c + 1)).lpz)

/-- Number of a lamp in the lists of failed and reserve lamps: 1,024 x row + 16 x zone + lamp. -/
def lampKey (x : Nat × Nat × Nat) : Nat := 1024 * x.1 + 16 * x.2.1 + x.2.2

/-- The bits a chain is driven with (R358). -/
def State.chainBits (c : Nat) (s : State) : List Bool :=
  let pat := sget [] c s.active.lsw
  (chainLamps s.board.member.ports s.active c).zipIdx.map (fun x =>
    let k := lampKey x.1
    (pat.getD x.2 false || s.ilm.failed.contains k) && !s.ilm.resUsed.contains k)

/-! ## Dose (R352 to R357) -/

/-- DIM of a slot; one never staged lights at 4,096 (R352). -/
def dimOf (t : Tables) (i : Nat) : Nat := if t.dim.getD i 0 = 0 then 4096 else t.dim.getD i 0

/-- The compensated level (R354). -/
def levelOf (dim k : Nat) : Nat := min 4096 (max 1 ((dim * k + 8192) / 16384))

/-- Analogue code and on-time of a slot (R355), from its level, the cap and the slot's width in 1.25 ns. -/
def driveOf (cfg : IlmRow) (cap l width : Nat) : Nat × Nat :=
  let a0 := (l * 4096 + cfg.dNom - 1) / cfg.dNom
  let a := max (max (min (min a0 cap) 4096) l) 512
  let code := (cfg.iRef * a + 2048) / 4096
  (code, min width ((2 * width * l * cfg.iRef + 4096 * code) / (2 * 4096 * code)))

/-- The drive of a slot of a strobe table for its row, with the row's factor and cap. -/
def Tables.slotDrive (t : Tables) (i k cap : Nat) : Nat × Nat :=
  let x := t.strobe.slots.getD i Slot.reset
  driveOf (rowCfg t x.row.toNat) cap (levelOf (dimOf t i) k) x.width.toNat

/-- The drive of a slot with the tables, factors and caps in force. -/
def State.slotDrive (i : Nat) (s : State) : Nat × Nat :=
  let w := (s.active.strobe.slots.getD i Slot.reset).row.toNat
  s.active.slotDrive i (s.row w).k (s.row w).cap

/-- The drive of a slot in a line (R353, R357, R367). -/
def LineRec.slotDrive (r : LineRec) (i : Nat) : Nat × Nat :=
  let x := r.lamps.getD (r.tabs.strobe.slots.getD i Slot.reset).row.toNat (0x4000, 4096)
  r.tabs.slotDrive i x.1 x.2

/-- Interpolation of R353, with floor division. -/
def tcompAt (t : Int) : List (Int × Nat) → Nat
  | [] => 0x4000
  | [(_, k)] => k
  | (t0, k0) :: (t1, k1) :: l =>
    if t < t0 then k0
    else if t < t1 then (k0 + (((k1 : Int) - k0) * (t - t0) + (t1 - t0) / 2) / (t1 - t0)).toNat
    else tcompAt t ((t1, k1) :: l)

/-- Filtered temperatures of the lamp channels assigned to a row, without the stale ones (R353). -/
def State.rowTemps (w : Nat) (s : State) : List Int :=
  ((List.range s.board.member.ports).filter (fun z =>
    s.active.shdCfg.lamps.getD (4 * z + w) 0x7F != 0x7F && !(sget Filter.reset (5 * z + w + 1) s.shd.filters).stale)).map
      (fun z => filtered s.shd.filters z (w + 1))

/-- ILM_TCOMP_UPDATE (R353): an enabled row without a valid channel holds its factor (log entry 35). -/
def execIlmTcompUpdate (t : Nat) (s : State) : Host.Outcome State Fault Refusal :=
  ((List.range 4).foldl (fun (s : State) w =>
    let ts := s.rowTemps w
    if ts.isEmpty then s.setRow w (fun r => { r with held := (rowCfg s.active w).en })
    else
      let c := sget IlmTcomp.reset w s.active.tcomp
      s.setRow w (fun r => { r with held := false, nextK := tcompAt (meanOf ts) (c.temps.zip c.ks) })) (s.atTime t)).out

/-- P_w of a row (R370). -/
def State.rowPower (w : Nat) (s : State) : Nat :=
  let v := (Config.rowSet w false).toNat
  let i := (Config.rowSet w true).toNat
  if !(rowCfg s.active w).en then 0
  else if s.stale v || s.stale i || (s.setCfg v).unit != 1 || (s.setCfg i).unit != 2 then 0xFFFF
  else min 65534 (((s.accSet v).dv * (s.accSet i).dv / 1000).toNat)

/-- ILM_POWER_UPDATE (R370). -/
def execIlmPowerUpdate (t : Nat) (s : State) : Host.Outcome State Fault Refusal :=
  ((List.range 4).foldl (fun (s : State) w => s.setRow w (fun r => { r with power := s.rowPower w })) (s.atTime t)).out

/-! ## Slots (R350, R351, R356, R369) -/

/-- A row may light (R62, R350): it is enabled, has no fault, lines are captured outside the dark passes, and HW_TRIP has not latched. -/
def State.mayLight (w : Nat) (s : State) : Bool :=
  s.mode.mode.isCapture && !s.ilm.dark && !s.rst.thermTrip && (rowCfg s.active w).en && !(s.row w).fault

/-- Enabled slots of a phase that name a row, by index in the table. -/
def Strobe.rowSlots (t : Strobe) (ph w : Nat) : List Nat :=
  (List.range' (4 * ph) 4).filter (fun i => let x := t.slots.getD i Slot.reset; x.en && decide (x.row.toNat = w))

/-- START of a slot of a line, in ns since its trigger, times 4. -/
def LineRec.slotAt (r : LineRec) (i : Nat) : Nat := 5 * (r.tabs.strobe.slots.getD i Slot.reset).start.toNat

/-- The end of a slot of a line, as START. -/
def LineRec.slotEnd (r : LineRec) (i : Nat) : Nat := r.slotAt i + 5 * (r.tabs.strobe.slots.getD i Slot.reset).width.toNat

/-- The lines whose slots may still light: the one in progress and the one before it (R181). -/
def State.slotLines (s : State) : List LineRec :=
  s.lines.filter (fun r => s.lt.seqValid && (r.tag.seq == s.lt.seq || r.tag.seq + 1 == s.lt.seq))

/-- The slot comes after the latest that the row has driven. -/
def RowUnit.after (x : RowUnit) (seq : BitVec 32) (i : Nat) : Bool :=
  match x.lastSlot with
  | some (q, j) => if q == seq then decide (j < i) else !(q == seq + 1)
  | none => true

/-- The next slot of a row in the lines triggered, with its line: one that the row has not driven and that is not over. -/
def State.dueSlot (w : Nat) (s : State) : Option (LineRec × Nat) :=
  (s.slotLines.flatMap (fun r => (r.tabs.strobe.rowSlots (r.tag.seq.toNat % r.tabs.strobe.phases) w).map (fun i => (r, i)))).find?
    (fun (x : LineRec × Nat) => (s.row w).after x.1.tag.seq x.2 && decide (4 * s.now < 4 * x.1.trigAt + x.1.slotEnd x.2))

/-- The first slot of a row in the line to come. -/
def State.nextSlot (w : Nat) (s : State) : Option (BitVec 32 × Nat) :=
  let t := s.active.strobe
  let q := if s.lt.seqValid then s.lt.seq + 1 else 0
  ((t.rowSlots (q.toNat % t.phases) w).head?).map (fun i => (q, i))

/-- The regulator of a row starts for a slot. -/
def State.regulate (w : Nat) (seq : BitVec 32) (i : Nat) (d : Nat × Nat) (s : State) : State :=
  s.setRow w (fun r => { r with run := some { seq := seq, slot := i, aCode := d.1, on := d.2, lit := false, fallAt := 0, endAt := 0 } })

/-- ILM_REG_START (R351): the regulator starts switching for the row's next slot, at the later of START - REG_LEAD and the end of the slot
before. START - REG_LEAD may lie before the trigger of the slot's line. -/
def execIlmRegStart (t : Nat) (row : BitVec 2) (s : State) : Host.Outcome State Fault Refusal :=
  let s1 := s.atTime t
  let w := row.toNat
  if !s1.mayLight w || (s1.row w).run.isSome || decide (s1.now < (s1.row w).regTo) then s1.out
  else
    (match s1.dueSlot w with
     | some (r, i) =>
       if 4 * s1.now + 4 * (rowCfg r.tabs w).regLead < 4 * r.trigAt + r.slotAt i then s1
       else s1.regulate w r.tag.seq i (r.slotDrive i)
     | none =>
       match s1.nextSlot w with
       | some (q, i) => s1.regulate w q i (s1.slotDrive i)
       | none => s1).out

/-- LSTB_RISE (R20, R356), (WIDTH - ON) div 2 ticks after START, with the tables, the factor and the cap of its line. -/
def execLstbRise (t : Nat) (row : BitVec 2) (s : State) : Host.Outcome State Fault Refusal :=
  let s1 := s.atTime t
  let w := row.toNat
  match (s1.row w).run, s1.dueSlot w with
  | some x, some (r, i) =>
    let d := r.slotDrive i
    let wid := (r.tabs.strobe.slots.getD i Slot.reset).width.toNat
    let rise := r.slotAt i + 5 * ((wid - d.2) / 2)
    let z : SlotRun :=
      { seq := r.tag.seq, slot := i, aCode := d.1, on := d.2, lit := true, fallAt := r.trigAt + (rise + 5 * d.2) / 4,
        endAt := r.trigAt + r.slotEnd i / 4 }
    (if s1.mayLight w && !x.lit && decide (4 * r.trigAt + rise ≤ 4 * s1.now + 3) then s1.setRow w (fun y => { y with run := some z })
     else s1).out
  | _, _ => s1.out

/-- LSTB_FALL (R351, R356, R369): the on-time ends; the regulator goes on to the end of the slot. `mean` is the mean current in units of
the analogue code. -/
def execLstbFall (t : Nat) (row : BitVec 2) (mean : Nat) (s : State) : Host.Outcome State Fault Refusal :=
  let s1 := s.atTime t
  let w := row.toNat
  match (s1.row w).run with
  | some x =>
    if !x.lit || decide (s1.now < x.fallAt) then s1.out
    else
      let off := decide (x.aCode < 10 * (if mean < x.aCode then x.aCode - mean else mean - x.aCode))
      let first := off && (s1.row w).curSeq != some x.seq
      ((s1.setRow w (fun r =>
        { r with run := none, lastSlot := some (x.seq, x.slot), regTo := x.endAt,
                 curSeq := if off then some x.seq else r.curSeq })).pulseIf first 148).out
  | none => s1.out

/-- ILM_OV_OC_DETECT (R369): `vfb` in 1.80 V / 1,024, `current` in I_FS / 1,024. A report within both limits ends the condition
that R574 asks about. -/
def execIlmOvOcDetect (t : Nat) (row : BitVec 2) (vfb current : Nat) (s : State) : Host.Outcome State Fault Refusal :=
  let s1 := s.atTime t
  let w := row.toNat
  let bad := decide ((rowCfg s1.active w).vOv < vfb) || decide (1280 < current)
  if !bad then (s1.setRow w (fun r => { r with ovNow := false })).out
  else ((s1.setRow w (fun r => { r with ovNow := true, fault := true, run := none, regTo := 0 })).pulseIf (!(s1.row w).fault) 149).out

/-! ## Staging commands (R349, R352, R353, R574) -/

/-- A row configuration from its payload (R573), with whether its fields are in range (R349). -/
def ilmRowOf (b : List Byte) : IlmRow × Bool :=
  ({ en := rd b 0 1 == 1, lpz := rd b 1 1, iRef := rd b 2 2, fSw := rd b 4 2, dead := rd b 6 1, regLead := rd b 8 2, vOv := rd b 10 2,
     dNom := rd b 12 2, capMin := rd b 14 2, autoRes := rd b 16 1 == 1, pMax := rd b 18 2 },
   decide (rd b 0 1 ≤ 1) && decide (rd b 1 1 ≤ 16) && decide (8 ≤ rd b 2 2) && decide (rd b 2 2 ≤ 1023) && decide (500 ≤ rd b 4 2) &&
     decide (rd b 4 2 ≤ 2000) && decide (2 ≤ rd b 6 1) && decide (rd b 6 1 ≤ 63) && rd b 7 1 == 0 && decide (100 ≤ rd b 8 2) &&
     decide (rd b 8 2 ≤ 5000) && decide (1 ≤ rd b 10 2) && decide (rd b 10 2 ≤ 1023) && decide (512 ≤ rd b 12 2) &&
     decide (rd b 12 2 ≤ 4096) && decide (512 ≤ rd b 14 2) && decide (rd b 14 2 ≤ 4096) && decide (rd b 16 1 ≤ 1) &&
     rd b 17 1 == 0 && decide (1 ≤ rd b 18 2))

/-- Failed lamps of a row. -/
def State.failedOf (w : Nat) (s : State) : List Nat := s.ilm.failed.filter (fun k => k / 1024 == w)

/-- ILM_ROW_STAGE (R349). -/
def takeIlmRowStage (h : Hdr) (row : BitVec 8) (s : State) : State :=
  s.take h 0x0800 [.s] true (some 20) (decide (row.toNat ≤ 3)) (fun s =>
    s.staging (.ilmRowStage h row) h [0x0800] (fun s =>
      let w := row.toNat
      let x := ilmRowOf (s.payload h)
      if !x.2 || (x.1.lpz != (rowCfg s.active w).lpz && !(s.failedOf w).isEmpty) then .fail cRange [] s
      else .ok [] [] (s.stage 0x0800 (fun t => { t with ilmRow := sset IlmRow.reset w x.1 t.ilmRow }))))

/-- ILM_ROW_STAGE. -/
def execIlmRowStage (h : Hdr) (row : BitVec 8) (s : State) : Host.Outcome State Fault Refusal := (takeIlmRowStage h row s).out

/-- ILM_LEVEL_STAGE (R352). -/
def takeIlmLevelStage (h : Hdr) (s : State) : State :=
  s.take h 0x0801 [.s] true (some 32) true (fun s =>
    s.staging (.ilmLevelStage h) h [0x0801] (fun s =>
      let ds := (chunks 2 16 (s.payload h)).map leVal
      if ds.all (fun d => decide (1 ≤ d) && decide (d ≤ 4096)) then .ok [] [] (s.stage 0x0801 (fun t => { t with dim := ds }))
      else .fail cRange [] s))

/-- ILM_LEVEL_STAGE. -/
def execIlmLevelStage (h : Hdr) (s : State) : Host.Outcome State Fault Refusal := (takeIlmLevelStage h s).out

/-- Temperatures that ascend by at least 1.0 degree. -/
def tempsRise : List Int → Bool
  | a :: b :: l => decide (a + 256 ≤ b) && tempsRise (b :: l)
  | _ => true

/-- ILM_TCOMP_STAGE (R353). -/
def takeIlmTcompStage (h : Hdr) (row : BitVec 8) (s : State) : State :=
  s.take h 0x0802 [.s] true (some 32) (decide (row.toNat ≤ 3)) (fun s =>
    s.staging (.ilmTcompStage h row) h [0x0802] (fun s =>
      let xs := chunks 4 8 (s.payload h)
      let c : IlmTcomp := { temps := xs.map (fun b => rdS b 0 2), ks := xs.map (fun b => rd b 2 2) }
      if tempsRise c.temps then .ok [] [] (s.stage 0x0802 (fun t => { t with tcomp := sset IlmTcomp.reset row.toNat c t.tcomp }))
      else .fail cRange [] s))

/-- ILM_TCOMP_STAGE. -/
def execIlmTcompStage (h : Hdr) (row : BitVec 8) (s : State) : Host.Outcome State Fault Refusal := (takeIlmTcompStage h row s).out

/-- ILM_LAMP_CLEAR (R366, R574): LAMP 0xFF names every lamp of the zone. -/
def takeIlmLampClear (h : Hdr) (row zone lamp : BitVec 8) (s : State) : State :=
  s.take h 0x0805 [.s] true (some 0)
    (decide (row.toNat ≤ 3) && decide (zone.toNat < s.board.member.ports) && (decide (lamp.toNat < 16) || lamp == 0xFF)) (fun s =>
    s.staging (.ilmLampClear h row zone lamp) h [0x0805] (fun s =>
      let ls := if lamp = 0xFF then List.range 16 else [lamp.toNat]
      let ks := ls.map (fun n => lampKey (row.toNat, zone.toNat, n))
      .ok [] [] (({ s with staged := { s.staged with lamps := s.staged.lamps ++ ks } }).stage 0x0805 id)))

/-- ILM_LAMP_CLEAR. -/
def execIlmLampClear (h : Hdr) (row zone lamp : BitVec 8) (s : State) : Host.Outcome State Fault Refusal :=
  (takeIlmLampClear h row zone lamp s).out

/-- ILM_ROW_CLEAR (R369, R574). -/
def takeIlmRowClear (h : Hdr) (row : BitVec 8) (s : State) : State :=
  s.take h 0x0806 [.s] true (some 0) (decide (row.toNat ≤ 3)) (fun s =>
    s.staging (.ilmRowClear h row) h [0x0806] (fun s =>
      if (s.row row.toNat).ovNow then .fail cState [] s
      else .ok [] [] (({ s with staged := { s.staged with rows := s.staged.rows ++ [row.toNat] } }).stage 0x0806 id)))

/-- ILM_ROW_CLEAR. -/
def execIlmRowClear (h : Hdr) (row : BitVec 8) (s : State) : Host.Outcome State Fault Refusal := (takeIlmRowClear h row s).out

/-! ## Lamp-switch chains (R358 to R366) -/

/-- Some zone of an enabled row has every lamp closed (R358). -/
def closesZone (zones : Nat) (t : Tables) (c : Nat) (pat : List Bool) : Bool :=
  let lamps := (chainLamps zones t c).zip pat
  [2 * c, 2 * c + 1].any (fun w => (rowCfg t w).en && (rowCfg t w).lpz != 0 && (List.range zones).any (fun z =>
    (lamps.filter (fun x => x.1.1 == w && x.1.2.1 == z)).all (fun x => x.2)))

/-- LSW_STAGE (R358, R363): it ends when its bits have been shifted. One already being shifted on the chain is BUSY (log entry
36). -/
def takeLswStage (h : Hdr) (chain discard : BitVec 8) (nbits : BitVec 16) (s : State) : State :=
  let c := chain.toNat
  let n := if discard = 1 then 0 else chainLen s.board.member.ports s.shadow c
  s.take h 0x0803 [.s] true (some (divUp n 8)) (decide (c ≤ 1) && decide (discard.toNat ≤ 1) && nbits.toNat == n) (fun s =>
    s.staging (.lswStage h chain discard nbits) h [0x0803] (fun s =>
      let pat := (List.range n).map (fun i => bit (leVal (s.payload h)) i)
      if discard = 0 && (setBits (8 * divUp n 8) (leVal (s.payload h))).any (fun i => decide (n ≤ i)) then .fail cRange [] s
      else if (s.chain c).staging.isSome then .fail cBusy [] s
      else if discard = 0 && closesZone s.board.member.ports s.shadow c pat then .fail cRange [] s
      else .go (s.setChain c (fun x => { x with staging := some (h.ctx.toNat, discard = 1), shifted := false, bits := pat }))))

/-- LSW_STAGE. -/
def execLswStage (h : Hdr) (chain discard : BitVec 8) (nbits : BitVec 16) (s : State) : Host.Outcome State Fault Refusal :=
  (takeLswStage h chain discard nbits s).out

/-- An LSW_STAGE whose bits have been shifted completes (R358, R363). -/
def State.lswDone (c : Nat) (s : State) : State :=
  match (s.chain c).staging with
  | none => s
  | some (n, false) =>
    let pat := (s.chain c).bits
    ((s.setChain c (fun x => { x with staging := none, shifted := false, hold := true })).stage 0x0803
      (fun t => { t with lsw := sset [] c pat t.lsw })).done n []
  | some (n, true) =>
    let s2 := s.setChain c (fun x => { x with staging := none, shifted := false, hold := false })
    let s3 := { s2 with shadow := { s2.shadow with lsw := sset [] c (sget [] c s2.active.lsw) s2.shadow.lsw } }
    let s4 := if (s3.chain (1 - c)).hold then s3
      else { s3 with staged := { s3.staged with keys := s3.staged.keys.filter (· != 0x0803) } }
    s4.done n []

/-- Patterns shifted while a pending apply locked their table complete once it is free (R21, R24). -/
def State.lswResume (s : State) : State :=
  [0, 1].foldl (fun (s : State) c => if (s.chain c).shifted && !s.locked [0x0803] then s.lswDone c else s) s

/-- LSW_SHIFT_DONE (R363). -/
def execLswShiftDone (t : Nat) (chain : BitVec 1) (s : State) : Host.Outcome State Fault Refusal :=
  let s1 := s.atTime t
  (if (s1.chain chain.toNat).staging.isSome then (s1.setChain chain.toNat (fun x => { x with shifted := true })).lswResume else s1).out

/-- A lamp is marked FAILED (R364), as the latch in line `seq` has captured it: the zone's lowest trimmed lamp that is neither failed nor in
use as a reserve is lit. -/
def State.lampFailed (c : Nat) (x : Nat × Nat × Nat) (seq : BitVec 32) (s : State) : State :=
  let cfg := rowCfg s.active x.1
  let pat := sget [] c s.active.lsw
  let res := if cfg.autoRes then
      ((chainLamps s.board.member.ports s.active c).zipIdx.find? (fun y =>
        y.1.1 == x.1 && y.1.2.1 == x.2.1 && pat.getD y.2 false && !s.ilm.failed.contains (lampKey y.1) &&
          !s.ilm.resUsed.contains (lampKey y.1))).map (fun y => lampKey y.1)
    else none
  let ilm := { s.ilm with
    failed := s.ilm.failed ++ [lampKey x], resUsed := s.ilm.resUsed ++ res.toList, lfRow := x.1, lfZone := x.2.1, lfLamp := x.2.2,
    lfRes := res.isSome, lfValid := true, faultSeq := seq, restSeq := seq }
  let s1 := ({ s with ilm := ilm }.pulse 144).pulseIf (cfg.autoRes && res.isNone) 145
  if res.isSome then s1.setChain c (fun k => { k with pend := k.pend ++ [lampKey x] }) else s1

/-- No enabled slot is between its START and 200 ns after its end (R360). -/
def State.darkNow (s : State) : Bool :=
  s.slotLines.all (fun r =>
    (List.range' (4 * (r.tag.seq.toNat % r.tabs.strobe.phases)) 4).all (fun i =>
      !(r.tabs.strobe.slots.getD i Slot.reset).en || decide (4 * s.now < 4 * r.trigAt + r.slotAt i) ||
        decide (4 * r.trigAt + r.slotEnd i + 800 ≤ 4 * s.now)))

/-- The first line that a latch made now lights whole (R365): the line in progress before its first slot, else the next one. -/
def State.litFrom (s : State) : BitVec 32 :=
  match s.lineRec s.lt.seq with
  | some r => if 4 * s.now < 4 * r.trigAt + 5 * r.tabs.strobe.firstStart (r.tag.seq.toNat % r.tabs.strobe.phases) then s.lt.seq
    else s.lt.seq + 1
  | none => s.lt.seq + 1

/-- LSW_FRAME_LATCH (R359 to R365): the frame's bits are set, in a dark interval; the statuses returned with it were captured by the latch
before, and concern the shunts that the latch before that one has set. -/
def execLswFrameLatch (t : Nat) (chain : BitVec 1) (ret : List Bool) (s : State) : Host.Outcome State Fault Refusal :=
  let s1 := s.atTime t
  let c := chain.toNat
  let ch := s1.chain c
  let n := chainLen s1.board.member.ports s1.active c
  if n = 0 || ch.hold || ch.staging.isSome || s1.mode.mode == .boot || s1.mode.mode == .standby || !s1.darkNow then s1.out
  else
    let lit := !ch.pend.isEmpty
    let s2 := s1.setChain c (fun k => { k with prev := k.driven, driven := s1.chainBits c, pend := [], latchSeq := s1.lt.seq })
    let s3 := if lit then { s2 with ilm := { s2.ilm with restSeq := s1.litFrom } } else s2
    let st := padTo n false ret
    if st.all id then ((s3.setChain c (fun k => { k with err := true })).pulse 146).out
    else
      ((chainLamps s1.board.member.ports s1.active c).zipIdx.foldl (fun (s : State) x =>
        if st.getD (n - 1 - x.2) false && !ch.prev.getD x.2 false && !s.ilm.failed.contains (lampKey x.1) then s.lampFailed c x.1 ch.latchSeq
        else s) s3).out

/-- The apply line: staged patterns reach their shunts with a latch of both chains, and staged clearings take effect (R360,
R363, R366, R574). A reserve that waits is lit with the latch (R365), and a row that regulates for a slot it has not lit takes its slot
anew from the tables in force (R367). -/
def State.applyIllum (keys : List Nat) (s : State) : State :=
  let s1 := if keys.contains 0x0803 then
      [0, 1].foldl (fun (s : State) c =>
        let x := s.setChain c (fun k =>
          { k with hold := k.hold && k.staging.isSome, prev := k.driven, driven := s.chainBits c, pend := [], latchSeq := s.lt.seq })
        if (s.chain c).pend.isEmpty then x else { x with ilm := { x.ilm with restSeq := if s.lt.seqValid then s.lt.seq + 1 else s.lt.seq } }) s
    else s
  let s0 := if keys.any (fun k => [0x0301, 0x0800].contains k) then
      (List.range 4).foldl (fun (s : State) w => s.setRow w (fun r => { r with run := r.run.filter (·.lit) })) s1
    else s1
  let s2 := if keys.contains 0x0805 then
      { s0 with ilm := { s0.ilm with failed := s0.ilm.failed.filter (fun k => !s0.staged.lamps.contains k),
                                     resUsed := s0.ilm.resUsed.filter (fun k => !s0.staged.lamps.contains k) },
                staged := { s0.staged with lamps := [] } }
    else s0
  if keys.contains 0x0806 then
    let s3 := s2.staged.rows.foldl (fun (s : State) w => if (s.row w).ovNow then s else s.setRow w (fun r => { r with fault := false })) s2
    { s3 with staged := { s3.staged with rows := [] } }
  else s2

/-- A line boundary brings the compensation factors and caps into force (R353, R357). -/
def State.rowBoundary (s : State) : State :=
  (List.range 4).foldl (fun (s : State) w => s.setRow w (fun r => { r with k := r.nextK, cap := r.nextCap })) s

/-- Entry into a capture mode from IDLE clears LSW_ERR (R371). -/
def State.illumEntry (s : State) : State :=
  ((s.setChain 0 (fun k => { k with err := false })).setChain 1 (fun k => { k with err := false }))

/-! ## Lamp test (R368) -/

/-- Lamps of a row whose shunts are open. -/
def State.openShunts (w : Nat) (s : State) : Nat :=
  let c := w / 2
  (((chainLamps s.board.member.ports s.active c).zip (s.chainBits c)).filter (fun x => x.1.1 == w && !x.2)).length

/-- The record of a row that has had its pulses, zeros of any other. -/
def State.lampRecord (x : LampTest) (w : Nat) (s : State) : List Byte :=
  let n := x.n.getD w 0
  if n < x.lines || !x.rows.getLsbD w then List.replicate 16 0
  else
    let i := divRound (x.iSum.getD w 0) n
    let v := divRound (x.vSum.getD w 0) n
    let cond := divRound (v - x.vOfs) x.vLamp
    let o := s.openShunts w
    leS 2 i ++ leS 2 v ++ leS 2 (max 0 cond) ++ le 2 o ++ leS 2 ((o : Int) - max 0 cond) ++ le 2 (min 0xFFFF (x.ratio.getD w 0)) ++ le 4 0

/-- A lamp test ends, with the records of the rows finished. -/
def State.lampTestEnd (st : OpState) (code : Nat) (s : State) : State :=
  match s.ilm.test with
  | none => s
  | some x =>
    ({ s with ilm := { s.ilm with test := none } }).finish x.ctx st code [] ((List.range 4).flatMap (fun w => s.lampRecord x w))

/-- LAMP_TEST (R368). A second one is BUSY (log entry 36). -/
def takeLampTest (h : Hdr) (rows testCode : BitVec 8) (testNs lines : BitVec 16) (whenB : BitVec 8) (vLamp vOfs : BitVec 16)
    (s : State) : State :=
  s.take h 0x0804 [.j, .k] true (some 0)
    (decide (rows.toNat < 16) && decide (1 ≤ testCode.toNat) && decide (testCode.toNat ≤ 127) && decide (80 ≤ testNs.toNat) &&
      decide (testNs.toNat ≤ 400) && lines != 0 && decide (whenB.toNat ≤ 1)) (fun s =>
    if s.ilm.test.isSome then .fail cBusy [] s
    else
      let x : LampTest :=
        { ctx := h.ctx.toNat, rows := rows.setWidth 4, code := testCode.toNat, ns := testNs.toNat, lines := lines.toNat,
          when_ := whenB.toNat, vLamp := vLamp.toNat, vOfs := vOfs.toNat, plen := 0, iSum := List.replicate 4 0,
          vSum := List.replicate 4 0, n := List.replicate 4 0, ratio := List.replicate 4 0, last := List.replicate 4 none }
      let s1 := { s with ilm := { s.ilm with test := some x } }
      .go (if rows = 0 then s1.lampTestEnd .done cOk else s1))

/-- LAMP_TEST. -/
def execLampTest (h : Hdr) (rows testCode : BitVec 8) (testNs lines : BitVec 16) (whenB : BitVec 8) (vLamp vOfs : BitVec 16)
    (s : State) : Host.Outcome State Fault Refusal := (takeLampTest h rows testCode testNs lines whenB vLamp vOfs s).out

/-- The gap after the last slot of the line in progress holds a test pulse (R368), the next line coming no earlier than T_MIN. -/
def State.pulseFits (ns : Nat) (s : State) : Bool :=
  let t := s.active.strobe
  let ph := s.lt.seq.toNat % t.phases
  match (t.phase ph).getLast? with
  | some z => decide (5 * (z.start.toNat + z.width.toNat) + 4 * (ns + 400) ≤ 4 * s.tMin + 5 * t.firstStart ((ph + 1) % t.phases))
  | none => decide (ns + 400 ≤ s.tMin)

/-- The line in progress is a gap line. -/
def State.inGap (s : State) : Bool := match s.lineRec s.lt.seq with | some r => r.tag.gap | none => false

/-- LAMP_TEST_PULSE (R368): current in mA and voltage in mV, once per row and eligible line. -/
def execLampTestPulse (t : Nat) (row : BitVec 2) (current voltage : Nat) (s : State) : Host.Outcome State Fault Refusal :=
  let s1 := s.atTime t
  let w := row.toNat
  match s1.ilm.test with
  | none => s1.out
  | some x =>
    let n := x.n.getD w 0
    if !x.rows.getLsbD w || decide (x.lines ≤ n) || !s1.lt.seqValid || !s1.mayLight w || x.last.getD w none == some s1.lt.seq ||
        (x.when_ == 0 && !s1.inGap) || !s1.pulseFits x.ns then s1.out
    else
      let ratio := match s1.active.strobe.rowSlots (s1.lt.seq.toNat % s1.active.strobe.phases) w with
        | i :: _ =>
          let d := match s1.lineRec s1.lt.seq with | some r => r.slotDrive i | none => s1.slotDrive i
          if x.when_ = 0 || d.1 * d.2 = 0 then 0 else (65536 * 4 * x.code * x.ns / (5 * d.1 * d.2))
        | [] => 0
      let x1 := { x with iSum := x.iSum.set w (x.iSum.getD w 0 + current), vSum := x.vSum.set w (x.vSum.getD w 0 + voltage),
                         n := x.n.set w (n + 1), ratio := x.ratio.set w ratio, last := x.last.set w (some s1.lt.seq) }
      let s2 := { s1 with ilm := { s1.ilm with test := some x1 } }
      let fin := n + 1 = x.lines
      let s3 := if fin then s2.setCtx x.ctx (fun c => { c with partials := c.partials + 1, opState := .partialResult }) else s2
      (if fin && (List.range 4).all (fun v => !x.rows.getLsbD v || decide (x.lines ≤ x1.n.getD v 0)) then s3.lampTestEnd .done cOk
       else s3).out

end Sys2Proof.Machine
end

