-- ==== Sys2Proof/Machine/Shading.lean ====
section
/-! DEFINITION. The commands of the Correction and calibration family, zone temperatures, the shading store's patrol, and shading
calibration (chapter "Per-pixel correction and temperature-set shading", R568). -/

namespace Sys2Proof.Machine

/-! ## Staging of sets (R207 to R212) -/

/-- Change the shading unit. -/
def State.setShd (f : ShdUnit → ShdUnit) (s : State) : State := { s with shd := f s.shd }

/-- Keys of the staged copy and of the staged removal of a set, which the next apply counts. -/
def setKeys (k : Nat) : List Nat := [0x10000 * (k + 1) + 0x0400, 0x10000 * (k + 1) + 0x0402]

/-- A set is staged into the spare slot (R210). -/
def State.stageSet (k : Nat) (x : ShdSet) (s : State) : State :=
  let sl := s.spareSlot
  let s1 := s.setShd (fun u => { u with slots := sset ShdSet.reset sl x u.slots, spare := sl, staged := some k, quality := [], qSet := k, qPorts := 0,
                                        cleared := u.cleared.filter (· != k) })
  { s1 with staged := { s1.staged with keys := s1.staged.keys ++ [0x10000 * (k + 1) + 0x0400] } }

/-- What every staging of a set asks first (R210, R233): no calibration runs, and no other set is staged. -/
def State.setBusy (k : Nat) (s : State) : Option Nat :=
  if s.shd.cal.isSome then some cBusy
  else if s.shd.staged.isSome && s.shd.staged != some k then some cResource
  else none

/-- Tags of an image (R208). -/
def imageTags (bs : List Byte) : List Int × List (List Int) :=
  ((List.range 48).map (fun z => rdS bs (16 + 10 * z) 2),
   (List.range 48).map (fun z => (List.range 4).map (fun r => rdS bs (18 + 10 * z + 2 * r) 2)))

/-- N, FORMAT, the reserved bytes and, on a smaller member, the tags of absent zones (R208, R209). -/
def imageOk (m : Member) (n : Nat) (bs : List Byte) : Bool :=
  rd bs 0 4 == n && rd bs 4 1 == 1 && ((bs.drop 5).take 11).all (· == 0) && ((bs.drop 496).take 16).all (· == 0) &&
    ((bs.drop (16 + 10 * m.ports)).take (10 * (48 - m.ports))).all (· == 0)

/-- Words of an image. -/
def imageWords (n : Nat) (bs : List Byte) : SMap (BitVec 32) :=
  ((chunks 4 n bs).zipIdx.map (fun x => (x.2, BitVec.ofNat 32 (leVal x.1)))).filter (fun x => x.2 != 0)

/-- The set's tags keep the separation of R219 from the other sets. -/
def State.apartWith (k : Nat) (x : ShdSet) (s : State) : Bool :=
  check219 s.board.member s.shadow.shdCfg ((k, x) :: s.shdView.filter (fun y => y.1 != k))

/-- SHD_SET_LOAD (R209, R210). -/
def takeShdSetLoad (h : Hdr) (set window : BitVec 8) (offset : BitVec 32) (s : State) : State :=
  let k := set.toNat
  s.take h 0x0400 [.s] true (some 0) (decide (k < setsMax s.board.member s.shadow)) (fun s =>
    s.staging (.shdSetLoad h set window offset) h (setKeys k) (fun s =>
      let n := pixCount s.board.member s.shadow
      match s.setBusy k with
      | some e => .fail e [] s
      | none =>
        if (s.win window.toNat).isNone then .fail cState [] s
        else if !s.winHas window.toNat offset.toNat (512 + 4 * n) then .fail cRange [] s
        else
          let r := s.dramRead 9 (s.winAddr window.toNat offset.toNat) (512 + 4 * n)
          let tags := imageTags r.1
          let x : ShdSet := { tFe := tags.1, tLamp := tags.2, words := imageWords n (r.1.drop 512), bad := [] }
          if imageOk s.board.member n r.1 && s.apartWith k x then .ok [] [] (r.2.stageSet k x) else .fail cRange [] r.2))

/-- SHD_SET_LOAD. -/
def execShdSetLoad (h : Hdr) (set window : BitVec 8) (offset : BitVec 32) (s : State) : Host.Outcome State Fault Refusal :=
  (takeShdSetLoad h set window offset s).out

/-- SHD_SET_PATCH (R210). Patching a set that is not valid ends with ERR_STATE (log entry 25). -/
def takeShdSetPatch (h : Hdr) (set window tags : BitVec 8) (offset nwords : BitVec 32) (s : State) : State :=
  let k := set.toNat
  let hd := if tags = 1 then 512 else 0
  s.take h 0x0401 [.s] true (some 0) (decide (k < setsMax s.board.member s.shadow) && decide (tags.toNat ≤ 1)) (fun s =>
    s.staging (.shdSetPatch h set window tags offset nwords) h (setKeys k) (fun s =>
      let n := pixCount s.board.member s.shadow
      match s.setBusy k, s.activeSet k with
      | some e, _ => .fail e [] s
      | none, none => .fail cState [] s
      | none, some old =>
        if (s.win window.toNat).isNone then .fail cState [] s
        else if !s.winHas window.toNat offset.toNat (hd + 8 * nwords.toNat) then .fail cRange [] s
        else
          let r := s.dramRead 9 (s.winAddr window.toNat offset.toNat) (hd + 8 * nwords.toNat)
          let es := (chunks 8 nwords.toNat (r.1.drop hd)).map (fun b => (rd b 0 4, BitVec.ofNat 32 (rd b 4 4)))
          let tg := imageTags r.1
          let x : ShdSet :=
            { tFe := if tags = 1 then tg.1 else old.tFe, tLamp := if tags = 1 then tg.2 else old.tLamp,
              words := es.foldl (fun m e => sset 0 e.1 e.2 m) old.words,
              bad := old.bad.filter (fun i => !es.any (fun e => e.1 == i)) }
          if es.all (fun e => decide (e.1 < n)) && (tags != 1 || imageOk s.board.member n r.1) && s.apartWith k x then
            .ok [] [] (r.2.stageSet k x)
          else .fail cRange [] r.2))

/-- SHD_SET_PATCH. -/
def execShdSetPatch (h : Hdr) (set window tags : BitVec 8) (offset nwords : BitVec 32) (s : State) :
    Host.Outcome State Fault Refusal := (takeShdSetPatch h set window tags offset nwords s).out

/-- SHD_SET_CLEAR (R211). -/
def takeShdSetClear (h : Hdr) (set : BitVec 8) (s : State) : State :=
  let k := set.toNat
  s.take h 0x0402 [.s] true (some 0) (decide (k < setsMax s.board.member s.shadow)) (fun s =>
    s.staging (.shdSetClear h set) h (setKeys k) (fun s =>
      if s.shd.cal.isSome then .fail cBusy [] s
      else
        let s1 := s.setShd (fun u => { u with cleared := if u.cleared.contains k then u.cleared else u.cleared ++ [k] })
        .ok [] [] { s1 with staged := { s1.staged with keys := s1.staged.keys ++ [0x10000 * (k + 1) + 0x0402] } }))

/-- SHD_SET_CLEAR. -/
def execShdSetClear (h : Hdr) (set : BitVec 8) (s : State) : Host.Outcome State Fault Refusal := (takeShdSetClear h set s).out

/-- SHD_SET_DISCARD (R210). -/
def takeShdSetDiscard (h : Hdr) (s : State) : State :=
  s.take h 0x0403 [.s] true (some 0) true (fun s =>
    let ops := match s.shd.staged with | some k => [0x10000 * (k + 1) + 0x0400] | none => []
    s.staging (.shdSetDiscard h) h ops (fun s =>
      let s1 := s.setShd (fun u => { u with staged := none })
      .ok [] [] { s1 with staged := { s1.staged with keys := s1.staged.keys.filter (fun k => !ops.contains k) } }))

/-- SHD_SET_DISCARD. -/
def execShdSetDiscard (h : Hdr) (s : State) : Host.Outcome State Fault Refusal := (takeShdSetDiscard h s).out

/-- The image of a set (R208). -/
def ShdSet.image (n : Nat) (x : ShdSet) : List Byte :=
  le 4 n ++ [1] ++ List.replicate 11 0 ++
    (List.range 48).flatMap (fun z => leS 2 (x.tFe.getD z 0) ++ (List.range 4).flatMap (fun r => leS 2 ((x.tLamp.getD z []).getD r 0))) ++
    List.replicate 16 0 ++ (List.range n).flatMap (fun i => le 4 (sget 0 i x.words).toNat)

/-- SHD_SET_READ (R209). A copy that does not exist ends with ERR_STATE (log entry 25). -/
def takeShdSetRead (h : Hdr) (set window copy : BitVec 8) (offset : BitVec 32) (s : State) : State :=
  s.take h 0x0404 [.c] true (some 0) (decide (set.toNat ≤ 3) && decide (copy.toNat ≤ 1)) (fun s =>
    let x := if copy = 0 then s.activeSet set.toNat else s.stagedSet set.toNat
    let n := pixCount s.board.member (if copy = 0 then s.active else s.shadow)
    match x with
    | some x => s.winResult window.toNat offset.toNat (x.image n) []
    | none => .fail cState [] s)

/-- SHD_SET_READ. -/
def execShdSetRead (h : Hdr) (set window copy : BitVec 8) (offset : BitVec 32) (s : State) : Host.Outcome State Fault Refusal :=
  (takeShdSetRead h set window copy offset s).out

/-- At the apply line the staged set takes the spare slot, its previous slot becomes the spare, and removals follow (R210,
R211); the choices are made anew from the temperatures at acceptance (R221). -/
def State.applySets (keys : List Nat) (s : State) : State :=
  let n := shdSlots (pixCount s.board.member s.active)
  let inKey := fun (o k : Nat) => keys.contains (0x10000 * (k + 1) + o)
  let s1 :=
    match s.shd.staged with
    | some k =>
      if inKey 0x0400 k then
        let sl := s.spareSlot
        let place := sset none k (some sl) s.shd.place
        let spare := match sget none k s.shd.place with
          | some o => o
          | none => ((List.range n).find? (fun j => !place.any (fun x => x.2 == some j))).getD sl
        s.setShd (fun u => { u with place := place, spare := spare, staged := none })
      else s
    | none => s
  let gone := s1.shd.cleared.filter (inKey 0x0402)
  let s2 := s1.setShd (fun u => { u with place := gone.foldl (fun m k => sset none k none m) u.place,
                                         cleared := u.cleared.filter (fun k => !gone.contains k) })
  if (List.range 4).any (fun k => inKey 0x0400 k || inKey 0x0402 k) then
    let ch := choicesOf s2.board.member s2.active.shdCfg s2.shd.accFilters s2.validSets
    s2.setShd (fun u => { u with nextChoices := ch })
  else s2

/-! ## Zone temperatures (R215 to R217, R221, R222) and the store's patrol (R214) -/

/-- The input of a filter, in Q8.16; none for a stale lamp channel. -/
def State.filterIn (z j : Nat) (s : State) : Option Int :=
  let fe := 256 * s.dieTemp (z / 12)
  if j = 0 then some fe
  else
    let ch := (s.active.shdCfg.lamps.getD (4 * z + (j - 1)) 0x7F).toNat
    if ch = 0x7F then some fe else (s.lampTemp ch).map (fun t => 256 * t)

/-- Every filter of the member's zones, changed by a rule. -/
def State.filters (f : Filter → Int → Filter) (s : State) : SMap Filter :=
  ((List.range s.board.member.ports).flatMap (fun z => (List.range 5).map (fun j => (z, j)))).foldl (fun m x =>
    supd Filter.reset (5 * x.1 + x.2) (fun q =>
      match s.filterIn x.1 x.2 with
      | some v => f q v
      | none => { q with stale := true }) m) s.shd.filters

/-- The filters take new values, and the 192 choices and OOT are computed from them (R221, R222). -/
def State.putFilters (fs : SMap Filter) (s : State) : State :=
  let cfg := s.active.shdCfg
  let sets := s.validSets
  s.setShd (fun u => { u with filters := fs, nextChoices := choicesOf s.board.member cfg fs sets,
                              oot := ootOf s.board.member cfg fs sets })

/-- Entry into a capture mode from IDLE loads each filter with its input, and the choices follow it (R216, R221; log entry 159). -/
def State.loadFilters (s : State) : State := s.putFilters (s.filters (fun _ v => { val := v, stale := false }))

/-- ZONE_TEMP_UPDATE: the filters, then the 192 choices and OOT (R216, R217, R221, R222). -/
def execZoneTempUpdate (t : Nat) (s : State) : Host.Outcome State Fault Refusal :=
  let s1 := s.atTime t
  (s1.putFilters (s1.filters (fun q v => { val := q.val + sar (v - q.val) s1.active.shdCfg.filtSh, stale := false }))).out

/-- A read of the shading store meets wrong bits in a word (R214): one is corrected, more make the word uncorrectable, once per word, and
its pixel defective in the lines in flight that use it as in every later one. -/
def State.shdEcc (slot word bitsBad : Nat) (s : State) : State :=
  let x := sget ShdSet.reset slot s.shd.slots
  if bitsBad = 0 then s
  else if bitsBad = 1 then (s.setShd (fun u => { u with corr := satAdd 0xFFFF u.corr 1 })).pulse 80
  else if x.bad.contains word then s
  else
    let mark := fun (y : ShdSet) => { y with bad := y.bad ++ [word] }
    let s1 := s.setShd (fun u => { u with uncorr := satAdd 0xFFFF u.uncorr 1, slots := sset ShdSet.reset slot (mark x) u.slots })
    ({ s1 with lines := s1.lines.map (fun (r : LineRec) =>
      { r with sets := r.sets.map (fun (y : Nat × ShdSet) => if sget none y.1 r.places == some slot then (y.1, mark y.2) else y) }) }).pulse 81

/-- SHD_PATROL_READ (R214). -/
def execShdPatrolRead (t : Nat) (slot : BitVec 3) (word : BitVec 21) (bitsBad : BitVec 2) (s : State) :
    Host.Outcome State Fault Refusal :=
  let s1 := s.atTime t
  let n := pixCount s1.board.member s1.active
  (if shdSlots n ≤ slot.toNat || n ≤ word.toNat then s1 else s1.shdEcc slot.toNat word.toNat bitsBad.toNat).out

/-- Correction's own read of the store for a pixel (R214, R224): `ecc` gives, by slot of the store, the wrong bits of its word in the
sets that the line uses. -/
def State.shdRead (i slot : Nat) (ecc : List (BitVec 3 × BitVec 2)) (s : State) : State :=
  match ((s.die (i / 192)).line).bind (fun q => s.lines.find? (fun r => r.tag.seq == q)) with
  | none => s
  | some r =>
    let e := tapEntry r.tabs i
    let ch := sget Choice.reset (4 * (i / 16) + e.line.toNat) r.choices
    let used := [ch.a, ch.b].filterMap (fun k => sget none k r.places)
    match (if slot < e.first.toNat then none else e.columns[slot - e.first.toNat]?) with
    | none => s
    | some u =>
      let w := pixBase r.tabs (i / 16) e.line.toNat + u.toNat
      if r.sets.isEmpty || !e.en then s
      else ecc.foldl (fun (s : State) x => if used.contains x.1.toNat then s.shdEcc x.1.toNat w x.2.toNat else s) s

/-! ## Configuration and linearisation (R218, R229) -/

/-- The shading configuration of a payload (R568), with whether its fields are in range. -/
def shdCfgOf (bs : List Byte) : ShdCfg × Bool :=
  let c : ShdCfg :=
    { rows := (List.range 4).map (fun i => BitVec.ofNat 8 (rd bs (2 * i) 1)), wts := (List.range 4).map (fun i => rd bs (2 * i + 1) 1),
      filtSh := rd bs 8 1, margin := rdS bs 10 2, lamps := (bs.drop 12).take 192 }
  (c, c.rows.all (fun r => decide (r.toNat ≤ 3)) && c.wts.all (fun w => decide (w ≤ 16)) && decide (c.filtSh ≤ 10) &&
    rd bs 9 1 == 0 && c.lamps.all (fun l => decide (l.toNat < 64) || l == 0x7F))

/-- SHD_CFG_STAGE (R218, R219). -/
def takeShdCfgStage (h : Hdr) (s : State) : State :=
  s.take h 0x0406 [.s] true (some 204) true (fun s =>
    s.staging (.shdCfgStage h) h [0x0406] (fun s =>
      let c := shdCfgOf (s.payload h)
      if c.2 && check219 s.board.member c.1 s.shdView then .ok [] [] (s.stage 0x0406 (fun t => { t with shdCfg := c.1 }))
      else .fail cRange [] s))

/-- SHD_CFG_STAGE. -/
def execShdCfgStage (h : Hdr) (s : State) : Host.Outcome State Fault Refusal := (takeShdCfgStage h s).out

/-- LIN_STAGE (R229). -/
def takeLinStage (h : Hdr) (line : BitVec 8) (s : State) : State :=
  s.take h 0x0407 [.s] true (some 8192) (decide (line.toNat ≤ 3)) (fun s =>
    s.staging (.linStage h line) h [0x0407] (fun s =>
      let es := (chunks 2 4096 (s.payload h)).map leVal
      .ok [] [] (s.stage 0x0407 (fun t => { t with lin := sset [] line.toNat es t.lin }))))

/-- LIN_STAGE. -/
def execLinStage (h : Hdr) (line : BitVec 8) (s : State) : Host.Outcome State Fault Refusal := (takeLinStage h line s).out

/-! ## Shading calibration (R232 to R240) -/

/-- Change the calibration in progress. -/
def State.setCal (f : ShdCal → ShdCal) (s : State) : State := s.setShd (fun u => { u with cal := u.cal.map f })

/-- The command of the calibration ends (R237). -/
def State.shdCalEnd (s : State) : State :=
  match s.shd.cal with
  | none => s
  | some c =>
    let r := c.result.getD (BitVec.ofNat 8 cHw, [], [])
    let st : OpState := if r.1.toNat = cOk then .done else if r.1.toNat = cAborted then .aborted else .failed
    let s1 := s.setShd (fun u => { u with cal := none })
    ({ s1 with ilm := { s1.ilm with dark := false } }).finish c.ctx st r.1.toNat r.2.1 r.2.2

/-- A move of the device's own, of tile 0's speeds (R402). -/
def State.tileMove (x : Nat) (target : Int) (s : State) : State :=
  let e := s.active.tiles.tiles.getD 0 TileEntry.reset
  s.queueMove x { ctx := none, kind := if x = 1 then .move target e.vB e.accB e.decB else .move target e.vC e.accC e.decC }

/-- The result is known: the tile goes out where the device brought it in (R234), and the command ends after that. -/
def State.shdCalOut (code : Nat) (data pay : List Byte) (s : State) : State :=
  match s.shd.cal with
  | none => s
  | some c =>
    let s1 := s.setCal (fun c => { c with result := some (BitVec.ofNat 8 code, data, pay) })
    let s2 := { s1 with ilm := { s1.ilm with dark := false } }
    if c.tile then s2.setCal (fun c => { c with step := .moveOut, left := 3 }) else s2.shdCalEnd

/-- An axis stands still with nothing queued. -/
def State.axisIdle (x : Nat) (s : State) : Bool := !(s.axis x).running && (s.axis x).queue.isEmpty && (s.axis x).v == 0

/-- The tile has arrived: SETTLE_MS runs (R234). -/
def State.shdSettle (s : State) : State :=
  s.setCal (fun c => { c with step := .settle, until_ := some (s.now + 1000000 * c.settle) })

/-- Moves of the tile follow one another (R402): in, AX_C then AX_B; out, AX_B then AX_C. A move that did not reach its target
ends the command with ERR_HW (log entry 26). -/
def State.tileStep (s : State) : State :=
  match s.shd.cal with
  | none => s
  | some c =>
    let tt := s.active.tiles
    let e := tt.tiles.getD 0 TileEntry.reset
    let hw := fun (s : State) => (s.setCal (fun c => { c with result := some (BitVec.ofNat 8 cHw, [], []) })).shdCalEnd
    match c.step, c.left with
    | .moveIn, 2 =>
      if !s.axisIdle 2 then s else if (s.axis 2).pos = e.cPos then (s.tileMove 1 e.bPos).setCal (fun c => { c with left := 1 }) else hw s
    | .moveIn, _ => if !s.axisIdle 1 then s else if (s.axis 1).pos = e.bPos then s.shdSettle else hw s
    | .moveOut, 3 =>
      if s.axisIdle 1 && s.axisIdle 2 then (s.tileMove 1 tt.bPark).setCal (fun c => { c with left := 2 }) else s
    | .moveOut, 2 =>
      if !s.axisIdle 1 then s else if (s.axis 1).pos = tt.bPark then (s.tileMove 2 tt.cWork).setCal (fun c => { c with left := 1 }) else hw s
    | .moveOut, _ => if !s.axisIdle 2 then s else if (s.axis 2).pos = tt.cWork then s.shdCalEnd else hw s
    | _, _ => s

/-- MB_ABORT of a SHD_CALIBRATE: nothing is staged and the tile returns (R568). -/
def State.shdAbort (s : State) : State :=
  match s.shd.cal with
  | none => s
  | some c => ((if c.step == .moveIn then (s.stopAll 1).stopAll 2 else s).shdCalOut cAborted [] []).tileStep

/-- A SHD_CALIBRATE ends where THERMAL_HOLD stops the axes (R43, R399): the tile stays where it rests. -/
def State.shdAbandon (s : State) : State := (s.shdCalOut cAborted [] []).shdCalEnd

/-- SHD_CALIBRATE (R232 to R234, R402). -/
def takeShdCalibrate (h : Hdr) (set tileAuto : BitVec 8) (settleMs : BitVec 16) (ports : BitVec 64)
    (targetRed targetGrn targetBlu targetNir : BitVec 16) (defLo defHi : BitVec 8) (darkMax : BitVec 16) (s : State) : State :=
  let ts := [targetRed.toNat, targetGrn.toNat, targetBlu.toNat, targetNir.toNat]
  s.take h 0x0405 [.k] true (some 0)
    (decide (set.toNat < setsMax s.board.member s.active) && decide (tileAuto.toNat ≤ 1) && decide (settleMs.toNat ≤ 1000) &&
      decide (ports.toNat < 2 ^ s.board.member.ports) && ts.all (fun x => decide (0x1000 ≤ x))) (fun s =>
    match s.setBusy set.toNat with
    | some e => .fail e [] s
    | none =>
      let portOk := fun p => let st := (s.seg p).state; st == .active || st == .covered || st == .qualify
      let axOk := fun x => (s.axis x).homed && s.axisIdle x
      if !(setBits 64 ports.toNat).all portOk then .fail cState [] s
      else if tileAuto = 1 && !(axOk 1 && axOk 2) then .fail cState [] s
      else
        let c : ShdCal :=
          { ctx := h.ctx.toNat, set := set.toNat, ports := ports, tile := tileAuto = 1, settle := settleMs.toNat, targets := ts,
            defLo := zeroIs 50 defLo.toNat, defHi := zeroIs 150 defHi.toNat, darkMax := zeroIs 0x2000 darkMax.toNat,
            step := .moveIn, until_ := none, left := 2, retried := false, sums := [], tagSum := [], tagN := 0, result := none,
            aborted := false }
        let s1 := s.setShd (fun u => { u with cal := some c })
        .go (if tileAuto = 1 then s1.tileMove 2 (s.active.tiles.tiles.getD 0 TileEntry.reset).cPos else s1.shdSettle))

/-- SHD_CALIBRATE. -/
def execShdCalibrate (h : Hdr) (set tileAuto : BitVec 8) (settleMs : BitVec 16) (ports : BitVec 64)
    (targetRed targetGrn targetBlu targetNir : BitVec 16) (defLo defHi : BitVec 8) (darkMax : BitVec 16) (s : State) :
    Host.Outcome State Fault Refusal :=
  (takeShdCalibrate h set tileAuto settleMs ports targetRed targetGrn targetBlu targetNir defLo defHi darkMax s).out

/-- The dark passes begin: strobes are suppressed (R234). -/
def State.shdDark (s : State) : State :=
  { s.setCal (fun c => { c with step := .dark, until_ := none, left := 576, sums := [], tagSum := [], tagN := 0 }) with
    ilm := { s.ilm with dark := true } }

/-- SHD_CAL_SETTLE_END (R234). -/
def execShdCalSettleEnd (t : Nat) (s : State) : Host.Outcome State Fault Refusal :=
  let s1 := s.atTime t
  match s1.shd.cal with
  | some c => (if c.step == .settle && (match c.until_ with | some u => decide (u ≤ s1.now) | none => false) then s1.shdDark else s1).out
  | none => s1.out

/-- A pixel's DATA joins one of the four sums. -/
def CalPix.add (dark first : Bool) (x : Nat) (bad : Bool) (q : CalPix) : CalPix :=
  let b := q.bad || bad
  match dark, first with
  | true, true => { q with d1 := q.d1 + x, bad := b }
  | true, false => { q with d2 := q.d2 + x, bad := b }
  | false, true => { q with w1 := q.w1 + x, bad := b }
  | false, false => { q with w2 := q.w2 + x, bad := b }

/-- The pixels of a port in a line at the input of correction: index, DATA, and DEFPIX. -/
def LineRec.rawPixels (r : LineRec) (p : Nat) : List (Nat × Nat × Bool) :=
  (enabledOf r.tabs p).flatMap (fun i =>
    let e := tapEntry r.tabs i
    let base := pixBase r.tabs p e.line.toNat
    e.columns.zipIdx.map (fun x =>
      let w := r.word i (e.first.toNat + x.2)
      (base + x.1.toNat, 4 * w.code.toNat, w.bad || r.isDead i)))

/-! ### The set that the sums give (R235, R236) -/

/-- A pass mean (R235). -/
def passMean (sum : Nat) : Int := ((sum + 128) / 256 : Nat)

/-- D1 + D2 and R1 + R2 of a pixel. -/
def CalPix.darkSum (q : CalPix) : Int := passMean q.d1 + passMean q.d2
@[inherit_doc CalPix.darkSum] def CalPix.respSum (q : CalPix) : Int := passMean q.w1 + passMean q.w2 - q.darkSum

/-- D of R236. -/
def CalPix.dark (q : CalPix) : Int := (q.darkSum + 1) / 2

/-- The two passes agree (R235). -/
def CalPix.agrees (q : CalPix) : Bool :=
  let dd := passMean q.d1 - passMean q.d2
  let dr := passMean q.w1 - passMean q.d1 - (passMean q.w2 - passMean q.d2)
  decide (dd.natAbs ≤ 163) && decide (800 * (dr.natAbs : Int) ≤ q.respSum)

/-- G of R236 for a target, 0x10000 or more where it exceeds its field. -/
def CalPix.gain (target : Nat) (q : CalPix) : Nat :=
  if q.respSum ≤ 0 then 0x10000 else (65536 * target + q.respSum.toNat) / (2 * q.respSum.toNat)

/-- Entry of rank `k` (from 0) of some numbers: the least one below or at which more than `k` lie. -/
def rankOf (l : List Int) (k : Nat) : Int :=
  match l.filter (fun x => decide (k < (l.filter (fun y => decide (y ≤ x))).length)) with
  | [] => 0
  | x :: xs => xs.foldl min x

/-- The median, doubled; of an even number of values whose middle two differ, a value that R236 leaves open (log entry 27). -/
def median2 (l : List Int) : Int :=
  if l.isEmpty then 0
  else
    let lo := rankOf l ((l.length - 1) / 2)
    let hi := rankOf l (l.length / 2)
    if lo = hi then 2 * lo else Config.midPair lo hi

/-- The pixel is defective (R236); `med2` is twice the median of R1 + R2. -/
def CalPix.defective (c : ShdCal) (target : Nat) (med2 : Int) (q : CalPix) : Bool :=
  q.bad || decide ((c.darkMax : Int) < q.dark) || decide (200 * q.respSum < c.defLo * med2) ||
    decide ((c.defHi : Int) * med2 < 200 * q.respSum) || decide (0xFFFF < q.gain target)

/-- The sums of a zone and colour line: pixel index and sums. -/
def ShdCal.zone (t : Tables) (z cl : Nat) (c : ShdCal) : List (Nat × CalPix) :=
  let base := pixBase t z cl
  (List.range' base (lineWidth t z cl)).map (fun i => (i, sget CalPix.reset i c.sums))

/-- Twice the median response of a zone and colour line, over the pixels that arrived as measurements. -/
def zoneMedian2 (l : List (Nat × CalPix)) : Int := median2 ((l.filter (fun x => !x.2.bad)).map (fun x => x.2.respSum))

/-- Ports of a calibration, as (zone, colour line). -/
def ShdCal.zoneList (c : ShdCal) : List (Nat × Nat) := (setBits 48 c.ports.toNat).flatMap (fun z => (List.range 4).map (fun cl => (z, cl)))

/-- The defective pixels of a zone and colour line. -/
def ShdCal.defects (t : Tables) (z cl : Nat) (c : ShdCal) : List Nat :=
  let l := c.zone t z cl
  let m := zoneMedian2 l
  (l.filter (fun x => x.2.defective c (c.targets.getD cl 0) m)).map (·.1)

/-- The pixels that fail R235. -/
def ShdCal.failing (t : Tables) (c : ShdCal) : List Nat :=
  c.zoneList.flatMap (fun x =>
    let ds := c.defects t x.1 x.2
    ((c.zone t x.1 x.2).filter (fun y => !ds.contains y.1 && !y.2.agrees)).map (·.1))

/-- A pixel word. -/
def pixWord (d : Int) (g : Nat) : BitVec 32 := BitVec.ofNat 32 (unsign 16 d + 65536 * g)

/-- The set computed from the sums, over the words of the active copy (R232, R234, R236). -/
def ShdCal.result_ (t : Tables) (old : Option ShdSet) (c : ShdCal) : ShdSet :=
  let tag := fun z j => divRound (sget 0 (5 * z + j) c.tagSum) c.tagN
  let base := old.getD ShdSet.reset
  let ws := c.zoneList.foldl (fun (m : SMap (BitVec 32)) x =>
    let ds := c.defects t x.1 x.2
    (c.zone t x.1 x.2).foldl (fun m y =>
      sset 0 y.1 (if ds.contains y.1 then 0 else pixWord y.2.dark (y.2.gain (c.targets.getD x.2 0))) m) m) base.words
  let mine := c.zoneList.flatMap (fun x => (c.zone t x.1 x.2).map (·.1))
  { tFe := (List.range 48).map (fun z => tag z 0), tLamp := (List.range 48).map (fun z => (List.range 4).map (fun r => tag z (r + 1))),
    words := ws, bad := base.bad.filter (fun i => !mine.contains i) }

/-! ### Quality figures (R240) -/

/-- 10,000 x standard deviation / mean, rounded to nearest (log entry 28). -/
def spread (l : List Nat) : Nat :=
  let n := l.length
  let sm := l.sum
  let v := n * (l.map (fun x => x * x)).sum - sm * sm
  if sm = 0 then 0 else min 0xFFFF ((searchCode (fun k => decide (k * k * (sm * sm) ≤ 400000000 * v)) 24 0 + 1) / 2)

/-- A defective pixel of a tap has no non-defective neighbour within 2 slots (R228). -/
def unrecovered (bads : List Bool) : Nat :=
  (bads.zipIdx.filter (fun x =>
    x.1 && ([x.2 + 1, x.2 + 2].all (fun j => bads.getD j true)) &&
      (x.2 = 0 || bads.getD (x.2 - 1) true) && (decide (x.2 < 2) || bads.getD (x.2 - 2) true))).length

/-- The figures of a zone and colour line. -/
def ShdCal.quality (t : Tables) (z cl : Nat) (c : ShdCal) : Quality :=
  let ds := c.defects t z cl
  let good := (c.zone t z cl).filter (fun x => !ds.contains x.1)
  let base := pixBase t z cl
  let taps := (enabledOf t z).filter (fun i => (tapEntry t i).line.toNat = cl)
  { rnu := spread (good.map (fun x =>
      (applyGain ((passMean x.2.w1 + passMean x.2.w2 + 1) / 2).toNat x.2.dark (x.2.gain (c.targets.getD cl 0))).1)),
    prnu := spread (good.map (fun x => x.2.respSum.toNat)), defects := min 0xFFFF ds.length,
    unrecov := min 0xFFFF ((taps.map (fun i =>
      unrecovered ((tapEntry t i).columns.map (fun u => ds.contains (base + u.toNat))))).sum) }

/-! ### The course of a calibration -/

/-- Step 4 (R234, R237): the sums are checked; they are taken once more, or the set is staged, or the command fails. A set
locked by a pending apply waits for its swap (R24). -/
def State.shdCalCheck (s : State) : State :=
  match s.shd.cal with
  | none => s
  | some c =>
    if c.step != .white || c.left != 0 || s.locked (setKeys c.set) then s
    else
      let bad := c.failing s.active
      if !bad.isEmpty then
        if c.retried then s.shdCalOut cCal (le 4 bad.length) ((bad.take 16).flatMap (le 4))
        else s.shdDark.setCal (fun c => { c with retried := true })
      else
        let x := c.result_ s.active (s.activeSet c.set)
        if !s.apartWith c.set x then s.shdCalOut cRange [] []
        else
          let q := c.zoneList.foldl (fun m z => sset Quality.reset (4 * z.1 + z.2) (c.quality s.active z.1 z.2) m) []
          ((s.stageSet c.set x).setShd (fun u => { u with quality := q, qPorts := c.ports })).shdCalOut cOk (le 4 0) []

/-- A line in CALIBRATE joins the calibration (R234, R238): the first 64 of each colour of pass are discarded, but for a DEFPIX that a
pixel arrives with (R236). -/
def State.shdCalLine (r : LineRec) (s : State) : State :=
  match s.shd.cal with
  | none => s
  | some c =>
    if !(c.step == .dark || c.step == .white) || c.left = 0 then s
    else
      let dark := c.step == .dark
      let px := (setBits 48 c.ports.toNat).flatMap r.rawPixels
      let sums := px.foldl (fun m x => supd CalPix.reset x.1
        (CalPix.add dark (decide (256 < c.left)) (if 512 < c.left then 0 else x.2.1) x.2.2) m) c.sums
      let tags := if dark || 512 < c.left then c.tagSum else
        ((List.range s.board.member.ports).flatMap (fun z => (List.range 5).map (fun j => (z, j)))).foldl (fun m x =>
          supd 0 (5 * x.1 + x.2) (fun v => v + filtered s.shd.filters x.1 x.2) m) c.tagSum
      let n := if dark || 512 < c.left then c.tagN else c.tagN + 1
      let done := (if dark then 576 - c.left else 1152 - c.left) + 1
      let s1 := (s.setCal (fun c => { c with sums := sums, tagSum := tags, tagN := n, left := c.left - 1 })).setCtx c.ctx
        (fun x => { x with progress := 4095 * done / 1152 })
      if 1 < c.left then s1
      else if dark then
        { s1.setCal (fun c => { c with step := .white, left := 576 }) with ilm := { s1.ilm with dark := false } }
      else s1.shdCalCheck

/-- The figures of a zone and colour line that no calibration of the set has measured (R240): its defective pixels are those whose G is
0. RNU and PRNU are of white passes that did not take place: free values (DESIGN CHOICE: log entry 188). -/
def ShdSet.figures (x : ShdSet) (t : Tables) (z c : Nat) (free : Nat × Nat) : Quality :=
  let n := lineWidth t z c
  let base := pixBase t z c
  let bad := fun (u : Nat) => gainOf (sget 0 (base + u) x.words) == 0
  let taps := (enabledOf t z).filter (fun i => (tapEntry t i).line.toNat = c)
  if n = 0 then Quality.reset
  else
    { rnu := free.1, prnu := free.2, defects := min 0xFFFF ((List.range n).filter bad).length,
      unrecov := min 0xFFFF ((taps.map (fun i => unrecovered ((tapEntry t i).columns.map (fun u => bad u.toNat)))).sum) }

/-- SHD_QUALITY_READ (R240): of the staged set, or of the set staged last, once it is active. -/
def takeShdQualityRead (h : Hdr) (window : BitVec 8) (offset : BitVec 32) (s : State) : State :=
  s.take h 0x0408 [.c] true (some 0) true (fun s =>
    let x := (match s.shd.staged with | some k => s.stagedSet k | none => s.activeSet s.shd.qSet).getD ShdSet.reset
    let t := if s.shd.staged.isSome then s.shadow else s.active
    let r := s.frees 16 384
    let bs := (List.range 48).flatMap (fun z => (List.range 4).flatMap (fun c =>
      let k := 4 * z + c
      let q := if s.shd.qPorts.getLsbD z then sget Quality.reset k s.shd.quality
        else x.figures t z c (r.1.getD (2 * k) 0, r.1.getD (2 * k + 1) 0)
      le 2 q.rnu ++ le 2 q.prnu ++ le 2 q.defects ++ le 2 q.unrecov ++ leS 2 (tagOf t.shdCfg x z c) ++ le 2 0))
    r.2.winResult window.toNat offset.toNat bs [])

/-- SHD_QUALITY_READ. -/
def execShdQualityRead (h : Hdr) (window : BitVec 8) (offset : BitVec 32) (s : State) : Host.Outcome State Fault Refusal :=
  (takeShdQualityRead h window offset s).out

end Sys2Proof.Machine
end

