-- ==== Sys2Proof/Machine/EightTen.lean ====
section
/-! DEFINITION. The 8b/10b code of IEEE 802.3 clause 36 on the lanes of the streak link (R77, R341). A symbol is written with its first
bit, `a`, as the most significant. -/

namespace Sys2Proof.Machine

/-- The 6-bit halves of D0 to D31 with negative running disparity. -/
def sixNeg : List Nat :=
  [0b100111, 0b011101, 0b101101, 0b110001, 0b110101, 0b101001, 0b011001, 0b111000] ++
  [0b111001, 0b100101, 0b010101, 0b110100, 0b001101, 0b101100, 0b011100, 0b010111] ++
  [0b011011, 0b100011, 0b010011, 0b110010, 0b001011, 0b101010, 0b011010, 0b111010] ++
  [0b110011, 0b100110, 0b010110, 0b110110, 0b001110, 0b101110, 0b011110, 0b101011]

/-- The 4-bit halves of x.0 to x.7 with negative running disparity, the primary one of x.7. -/
def fourNeg : List Nat := [0b1011, 0b1001, 0b0101, 0b1100, 0b1101, 0b1010, 0b0110, 0b1110]

/-- The one-bits among `n`. -/
def ones (n v : Nat) : Nat := (setBits n v).length

/-- A half of `n` bits under a running disparity: a half with a disparity, or one of a pair, is turned over where that is positive. -/
def halfOf (n : Nat) (paired : Bool) (rd : Bool) (v : Nat) : Nat := if rd && (paired || 2 * ones n v != n) then 2 ^ n - 1 - v else v

/-- The running disparity after `n` bits. -/
def rdAfter (n v : Nat) (rd : Bool) : Bool := if n < 2 * ones n v then true else if 2 * ones n v < n then false else rd

/-- A data character: its symbol and the running disparity after it. -/
def dataSymbol (b : Byte) (rd : Bool) : BitVec 10 × Bool :=
  let x := b.toNat % 32
  let y := b.toNat / 32
  let six := halfOf 6 (x == 7) rd (sixNeg.getD x 0)
  let rd1 := rdAfter 6 six rd
  let alt := y == 7 && (if rd1 then [11, 13, 14].contains x else [17, 18, 20].contains x)
  let four := halfOf 4 (y == 3) rd1 (if alt then 0b0111 else fourNeg.getD y 0)
  (BitVec.ofNat 10 (16 * six + four), rdAfter 4 four rd1)

/-- A special character from its symbol with negative running disparity. -/
def specialSymbol (v : BitVec 10) (rd : Bool) : BitVec 10 × Bool :=
  let w := if rd then ~~~v else v
  (w, rdAfter 10 w.toNat rd)

/-- K28.5, the idle character, K27.7 and K29.7. -/
def symIdle : BitVec 10 := 0b0011111010
@[inherit_doc symIdle] def symSof : BitVec 10 := 0b1101101000
@[inherit_doc symIdle] def symEof : BitVec 10 := 0b1011101000

/-- Data characters in order. -/
def dataSymbols : List Byte → Bool → List (BitVec 10) × Bool
  | [], rd => ([], rd)
  | b :: bs, rd =>
    let x := dataSymbol b rd
    let r := dataSymbols bs x.2
    (x.1 :: r.1, r.2)

/-- A frame between SOF and EOF. -/
def frameSymbols (bs : List Byte) (rd : Bool) : List (BitVec 10) × Bool :=
  let a := specialSymbol symSof rd
  let b := dataSymbols bs a.2
  let c := specialSymbol symEof b.2
  (a.1 :: b.1 ++ [c.1], c.2)

/-- The running disparity after `n` idle characters: each turns it over. -/
def rdIdle (n : Nat) (rd : Bool) : Bool := if n % 2 = 1 then !rd else rd

end Sys2Proof.Machine
end

