-- ==== Sys2Proof/Machine/LineCmds.lean ====
section
/-! DEFINITION. The staging commands of the Line timing family and of stitching, and the page ring's two commands (R566, R567,
R569, R652). -/

namespace Sys2Proof.Machine

/-! ## Shared balls and the timer (R58, R167, R567) -/

/-- A MOT_FOLLOW runs or waits on AX_A. -/
def State.followsA (s : State) : Bool :=
  (s.axis 0).queue.any (fun m => match m.kind with | .follow => true | _ => false)

/-- AX_A claims the balls of encoder 1. -/
def State.axisClaims (s : State) : Bool := s.active.io.enc1 == 2 || s.shadow.io.enc1 == 2 || s.followsA

/-- A source table claims them. -/
def LtSrc.claims (x : LtSrc) : Bool := x.src == 1 || x.chkTol != 0

/-- The line-timing unit claims them. -/
def State.ltClaims (s : State) : Bool :=
  s.active.ltSrc.claims || s.shadow.ltSrc.claims || s.active.ltPage.cue == 6 || s.shadow.ltPage.cue == 6

/-- The balls belong to AX_A, or to the line-timing unit (R582). -/
def ballsOfAxis : List Byte := conflictData 1 0 2 0
@[inherit_doc ballsOfAxis] def ballsOfLt : List Byte := conflictData 1 0 1 0

/-! ## Line timing (R166, R171, R177, R181, R191, R193) -/

/-- LT_SRC_STAGE (R165, R166, R171, R567). -/
def takeLtSrcStage (h : Hdr) (src flags followers filtEnc filtSheet : BitVec 8) (chkTol : BitVec 16) (div : BitVec 64)
    (genPeriod flushPeriod : BitVec 32) (s : State) : State :=
  let dv := div.toNat / 2 ^ 32
  let fl := zeroIs 200000 flushPeriod.toNat
  s.take h 0x0300 [.s] true (some 0)
    (decide (src.toNat ≤ 4) && (src != 4 || s.rst.uzsId != 0) && decide (flags.toNat < 8) && decide (followers.toNat ≤ 3) &&
      decide (filtEnc.toNat ≤ 15) && decide (filtSheet.toNat ≤ 100) && decide (1 ≤ dv) && decide (dv ≤ 65535) &&
      (src != 3 || genPeriod != 0) && decide (20000 ≤ fl) && decide (fl ≤ 10000000)) (fun s =>
    s.staging (.ltSrcStage h src flags followers filtEnc filtSheet chkTol div genPeriod flushPeriod) h [0x0300] (fun s =>
      let x : LtSrc :=
        { src := src, interp := flags.getLsbD 0, dir0 := flags.getLsbD 1, dir1 := flags.getLsbD 2, followers := followers,
          filtEnc := filtEnc, filtSheet := filtSheet, chkTol := chkTol, div := div, genPeriod := genPeriod,
          flushPeriod := flushPeriod }
      if x.claims && s.axisClaims then .fail cConflict ballsOfAxis s
      else if src = 3 && !(s.axis 0).queue.isEmpty then .fail cConflict (conflictData 2 0 2 0) s
      else .ok [] [] (s.stage 0x0300 (fun t => { t with ltSrc := x }))))

/-- LT_SRC_STAGE. -/
def execLtSrcStage (h : Hdr) (src flags followers filtEnc filtSheet : BitVec 8) (chkTol : BitVec 16) (div : BitVec 64)
    (genPeriod flushPeriod : BitVec 32) (s : State) : Host.Outcome State Fault Refusal :=
  (takeLtSrcStage h src flags followers filtEnc filtSheet chkTol div genPeriod flushPeriod s).out

/-- One slot from 12 bytes (R566), with whether its checked fields are in range (R180). -/
def slotOf (bs : List Byte) : Slot × Bool :=
  let en := rd bs 0 1 == 1
  ({ en := en, row := BitVec.ofNat 8 (rd bs 1 1), start := BitVec.ofNat 16 (rd bs 2 2), width := BitVec.ofNat 16 (rd bs 4 2),
     wt := (bs.drop 6).take 4 },
   decide (rd bs 0 1 ≤ 1) && rd bs 10 2 == 0 && (!en || (decide (rd bs 1 1 ≤ 3) && rd bs 4 2 != 0)))

/-- LT_STROBE_STAGE (R180, R181). -/
def takeLtStrobeStage (h : Hdr) (s : State) : State :=
  s.take h 0x0301 [.s] true none true (fun s =>
    s.staging (.ltStrobeStage h) h [0x0301] (fun s =>
      let b := s.payload h
      let ph := rd b 0 1
      let xs := (chunks 12 (4 * ph) (b.drop 4)).map slotOf
      let f := fun (t : Tables) => { t with strobe := { phases := ph, stbRef := BitVec.ofNat 16 (rd b 2 2), slots := xs.map (·.1) } }
      if (ph == 1 || ph == 2 || ph == 4) && b.length == 4 + 48 * ph && rd b 1 1 == 0 && xs.all (·.2) &&
          check181 s.board.member s.banks (f s.shadowView) then .ok [] [] (s.stage 0x0301 f)
      else .fail cRange [] s))

/-- LT_STROBE_STAGE. -/
def execLtStrobeStage (h : Hdr) (s : State) : Host.Outcome State Fault Refusal := (takeLtStrobeStage h s).out

/-- The page table of a payload (R566), with whether its fields are in range (R185, R187). -/
def ltPageOf (b : List Byte) : LtPage × Bool :=
  ({ pageLen := rd b 0 4, cue := rd b 4 1, cueDist := rdS b 8 4, gateSrc := rd b 12 1, gatePol := rd b 13 1 == 1,
     skewSrc := rd b 14 1, sensorDist := rd b 16 4, lead := rdS b 20 2, trail := rdS b 22 2, maxLen := rd b 24 4 },
   decide (64 ≤ rd b 0 4) && decide (rd b 4 1 ≤ 6) && rd b 5 3 == 0 && decide (rd b 12 1 ≤ 3) && decide (rd b 13 1 ≤ 1) &&
     (decide (rd b 14 1 ≤ 3) || rd b 14 1 == 7) && rd b 15 1 == 0 && decide (-32767 ≤ rdS b 20 2) &&
     decide (-32767 ≤ rdS b 22 2) && decide (rd b 24 4 ≤ 16777215))

/-- LT_PAGE_STAGE (R185 to R188, R191, R567). -/
def takeLtPageStage (h : Hdr) (s : State) : State :=
  s.take h 0x0302 [.s] true (some 28) true (fun s =>
    s.staging (.ltPageStage h) h [0x0302] (fun s =>
      let x := ltPageOf (s.payload h)
      let f := fun (t : Tables) => { t with ltPage := x.1 }
      if !(x.2 && pageFits s.ring.cap (f s.shadowView)) then .fail cRange [] s
      else if x.1.cue == 6 && s.axisClaims then .fail cConflict ballsOfAxis s
      else .ok [] [] (s.stage 0x0302 f)))

/-- LT_PAGE_STAGE. -/
def execLtPageStage (h : Hdr) (s : State) : Host.Outcome State Fault Refusal := (takeLtPageStage h s).out

/-- LT_PACE_STAGE (R191, R193). -/
def takeLtPaceStage (h : Hdr) (hwm lwm : BitVec 32) (takeup : BitVec 16) (s : State) : State :=
  s.take h 0x0303 [.s] true (some 0)
    (lwm != 0 && decide (lwm.toNat < hwm.toNat) && (!s.hasRing || decide (hwm.toNat < s.ring.cap))) (fun s =>
    s.staging (.ltPaceStage h hwm lwm takeup) h [0x0303] (fun s =>
      let f := fun (t : Tables) => { t with ltPace := { hwm := hwm.toNat, lwm := lwm.toNat, takeup := takeup.toNat } }
      let t := f s.shadowView
      if pageFits s.ring.cap t && (!s.hasRing || stopFits s.ring.cap (s.ceiling t) t) then .ok [] [] (s.stage 0x0303 f)
      else .fail cRange [] s))

/-- LT_PACE_STAGE. -/
def execLtPaceStage (h : Hdr) (hwm lwm : BitVec 32) (takeup : BitVec 16) (s : State) : Host.Outcome State Fault Refusal :=
  (takeLtPaceStage h hwm lwm takeup s).out

/-- IO_ASSIGN_STAGE (R566, R567). -/
def takeIoAssignStage (h : Hdr) (enc1 fev15 : BitVec 8) (fevMask : BitVec 16) (rejMin rejDist : BitVec 32) (rejWidth : BitVec 16)
    (s : State) : State :=
  s.take h 0x0304 [.s] true (some 0)
    (decide (enc1.toNat ≤ 2) && decide (fev15.toNat ≤ 1) && (fev15 != 1 || rejWidth != 0)) (fun s =>
    s.staging (.ioAssignStage h enc1 fev15 fevMask rejMin rejDist rejWidth) h [0x0304] (fun s =>
      if enc1 = 2 && s.ltClaims then .fail cConflict ballsOfLt s
      else if enc1 = 1 && s.followsA then .fail cConflict ballsOfAxis s
      else .ok [] [] (s.stage 0x0304 (fun t =>
        { t with io := { enc1 := enc1, fev15 := fev15, fevMask := fevMask, rejMin := rejMin.toNat, rejDist := rejDist.toNat,
                         rejWidth := rejWidth.toNat } }))))

/-- IO_ASSIGN_STAGE. -/
def execIoAssignStage (h : Hdr) (enc1 fev15 : BitVec 8) (fevMask : BitVec 16) (rejMin rejDist : BitVec 32)
    (rejWidth : BitVec 16) (s : State) : Host.Outcome State Fault Refusal :=
  (takeIoAssignStage h enc1 fev15 fevMask rejMin rejDist rejWidth s).out

/-! ## The page ring (R191, R652, R579) -/

/-- A product queue (R486). -/
def isProductQueue (q : Nat) : Bool := decide (2816 ≤ q) && decide (q ≤ 6911)

/-- RING_SET (R191, R652). A ring that still holds pages is kept (R45, R192): ERR_STATE (log entry 29). The checks of R191 look at the
tables staged, which the next entry into a capture mode brings into force (R34). A ring line is never shorter than the smallest line
product, 64 bytes, also where the layout in force stores none (DESIGN CHOICE: log entry 173). -/
def takeRingSet (h : Hdr) (window : BitVec 8) (offset size : BitVec 32) (qDesc : BitVec 16) (s : State) : State :=
  s.take h 0x0C05 [.w] true (some 0) (isProductQueue qDesc.toNat) (fun s =>
    let rl := max 64 (s.ringNeed s.active)
    let c := size.toNat / rl
    if (s.win window.toNat).isNone || !s.ring.pages.isEmpty then .fail cState [] s
    else if !s.winHas window.toNat offset.toNat size.toNat || c = 0 || !pageFits c s.shadowView then
      .fail cRange [] s
    else
      .ok (le 4 c ++ le 4 rl) [] { s with ring :=
        { window := window.toNat, offset := offset.toNat, size := size.toNat, qDesc := qDesc.toNat, cap := c, rl := rl, wp := 0,
          pages := [], cur := none, warmStart := none, full := s.ring.full, drops := s.ring.drops } })

/-- RING_SET. -/
def execRingSet (h : Hdr) (window : BitVec 8) (offset size : BitVec 32) (qDesc : BitVec 16) (s : State) :
    Host.Outcome State Fault Refusal := (takeRingSet h window offset size qDesc s).out

/-- The first page of the ring with a key that is closed and not released becomes released. -/
def markReleased (key : BitVec 32) : List RingPage → Option (List RingPage)
  | [] => none
  | p :: ps =>
    if p.firstSeq == key && !p.isOpen && !p.released then some ({ p with released := true } :: ps)
    else (markReleased key ps).map (p :: ·)

/-- Released pages at the old end leave the ring (R652). -/
def dropReleased : List RingPage → List RingPage
  | [] => []
  | p :: ps => if p.released then dropReleased ps else p :: ps

/-- PAGE_RELEASE (R652, R579). -/
def takePageRelease (h : Hdr) (firstSeq : BitVec 32) (s : State) : State :=
  s.take h 0x0D03 [.b] true (some 0) true (fun s =>
    match markReleased firstSeq s.ring.pages with
    | none => .fail cState [] s
    | some ps =>
      let s1 := { s with ring := { s.ring with pages := dropReleased ps } }
      .ok (le 4 s1.fill) [] s1)

/-- PAGE_RELEASE. -/
def execPageRelease (h : Hdr) (firstSeq : BitVec 32) (s : State) : Host.Outcome State Fault Refusal :=
  (takePageRelease h firstSeq s).out

/-! ## Alignment, colour transform and product (R246 to R249, R263 to R265) -/

/-- One entry of R246, with whether its reserved bits are 0. -/
def alnEntryOf (v : Nat) : AlnEntry × Bool :=
  ({ align := (List.range 4).map (fun c => BitVec.ofNat 12 (bits v (12 * c) 12)), along := signed 7 (bits v 48 7), row := bit v 55,
     en := bit v 56, x := BitVec.ofNat 24 (bits v 64 24), bw := BitVec.ofNat 8 (bits v 88 8), sc := BitVec.ofNat 18 (bits v 96 18) },
   bits v 57 7 == 0 && bits v 114 14 == 0)

/-- The code with which a table of R246 is turned away, if any: R247, R248, R249. -/
def State.alnFault (t : Tables) (s : State) : Option Nat :=
  if !check247 s.board.member t then some cRange
  else if s.mode.mode.isCapture && !sameDelays s.board.member s.active t then some cState
  else if !check249 s.board.member t then some cResource
  else none

/-- ALN_TABLE_STAGE (R247 to R249). -/
def takeAlnTableStage (h : Hdr) (stagger : BitVec 16) (firstPort count : BitVec 8) (s : State) : State :=
  let p0 := firstPort.toNat
  let n := count.toNat
  s.take h 0x0500 [.s] true (some (16 * n)) (decide (stagger.toNat ≤ 1024) && decide (p0 + n ≤ s.board.member.ports)) (fun s =>
    s.staging (.alnTableStage h stagger firstPort count) h [0x0500] (fun s =>
      let es := (chunks 16 n (s.payload h)).map (fun b => alnEntryOf (leVal b))
      let f := fun (t : Tables) =>
        { t with stagger := stagger.toNat, aln := es.zipIdx.foldl (fun m x => sset AlnEntry.reset (p0 + x.2) x.1.1 m) t.aln }
      if !es.all (·.2) then .fail cRange [] s
      else
        match s.alnFault (f s.shadowView) with
        | some e => .fail e [] s
        | none => .ok [] [] (s.stage 0x0500 f)))

/-- ALN_TABLE_STAGE. -/
def execAlnTableStage (h : Hdr) (stagger : BitVec 16) (firstPort count : BitVec 8) (s : State) :
    Host.Outcome State Fault Refusal := (takeAlnTableStage h stagger firstPort count s).out

/-- XFORM_STAGE (R263). -/
def takeXformStage (h : Hdr) (s : State) : State :=
  s.take h 0x0501 [.s] true (some 40) true (fun s =>
    s.staging (.xformStage h) h [0x0501] (fun s =>
      let xs := (chunks 2 20 (s.payload h)).map (fun b => signed 16 (leVal b))
      .ok [] [] (s.stage 0x0501 (fun t => { t with xform := { m := xs.take 16, o := xs.drop 16 } }))))

/-- XFORM_STAGE. -/
def execXformStage (h : Hdr) (s : State) : Host.Outcome State Fault Refusal := (takeXformStage h s).out

/-- PRODUCT_STAGE (R264, R265, R652). -/
def takeProductStage (h : Hdr) (pf chMask : BitVec 8) (firstCol count : BitVec 32) (queue : BitVec 16) (s : State) : State :=
  s.take h 0x0502 [.s] true (some 0)
    (decide (pf.toNat ≤ 3) && decide (chMask.toNat < 16) && (count == 0 || isProductQueue queue.toNat)) (fun s =>
    s.staging (.productStage h pf chMask firstCol count queue) h [0x0502] (fun s =>
      let f := fun (t : Tables) =>
        { t with product := { pf := pf, chMask := chMask, firstCol := firstCol.toNat, count := count.toNat, queue := queue.toNat } }
      if s.fitsRing (f s.shadowView) then .ok [] [] (s.stage 0x0502 f) else .fail cResource [] s))

/-- PRODUCT_STAGE. -/
def execProductStage (h : Hdr) (pf chMask : BitVec 8) (firstCol count : BitVec 32) (queue : BitVec 16) (s : State) :
    Host.Outcome State Fault Refusal := (takeProductStage h pf chMask firstCol count queue s).out

end Sys2Proof.Machine
end

