-- ==== Sys2Proof/Machine/Skillet.lean ====
section
/-! DEFINITION. The commands and events of the Skillet family (chapter "The Skillet path: fixed-latency streak detection",
R572). -/

namespace Sys2Proof.Machine

/-! ## Staging commands (R323 to R326, R338, R342, R343) -/

/-- SKL_CFG_STAGE (R326, R342, R343). -/
def takeSklCfgStage (h : Hdr) (en line latLimit slkEn lanes : BitVec 8) (s : State) : State :=
  s.take h 0x0700 [.s] true (some 0)
    (decide (en.toNat ≤ 1) && decide (line.toNat ≤ 3) && decide (slkEn.toNat ≤ 1) && (lanes == 1 || lanes == 2 || lanes == 4)) (fun s =>
    s.staging (.sklCfgStage h en line latLimit slkEn lanes) h [0x0700] (fun s =>
      let x : SklCfg := { en := en == 1, line := line.toNat, latLimit := latLimit.toNat, slkEn := slkEn == 1, lanes := lanes.toNat }
      let f := fun (t : Tables) => { t with sklCfg := x }
      if check343 s.board.member s.banks (f s.shadowView) then .ok [] [] (s.stage 0x0700 f) else .fail cRange [] s))

/-- SKL_CFG_STAGE. -/
def execSklCfgStage (h : Hdr) (en line latLimit slkEn lanes : BitVec 8) (s : State) : Host.Outcome State Fault Refusal :=
  (takeSklCfgStage h en line latLimit slkEn lanes s).out

/-- An entry of the group map (R323), with whether its reserved fields are 0. -/
def sklGroupOf (v : Nat) : SklGroup × Bool :=
  ({ en := bit v 0, port := bits v 1 6, first := bits v 7 13, width := zeroIs 64 (bits v 20 6), cls := bits v 26 4,
     expect := bits v 32 16 }, bits v 30 2 == 0 && bits v 48 16 == 0)

/-- SKL_MAP_STAGE (R323, R324, R343). -/
def takeSklMapStage (h : Hdr) (first count : BitVec 16) (s : State) : State :=
  let n := count.toNat
  s.take h 0x0701 [.s] true (some (8 * n)) (decide (1 ≤ n) && decide (first.toNat + n ≤ 16384)) (fun s =>
    s.staging (.sklMapStage h first count) h [0x0701] (fun s =>
      let es := (chunks 8 n (s.payload h)).map (fun b => sklGroupOf (leVal b))
      let f := fun (t : Tables) =>
        { t with sklMap := es.zipIdx.foldl (fun m x => sset SklGroup.reset (first.toNat + x.2) x.1.1 m) t.sklMap }
      let v := f s.shadowView
      if es.all (·.2) && check324 s.board.member v && check343 s.board.member s.banks v then .ok [] [] (s.stage 0x0701 f)
      else .fail cRange [] s))

/-- SKL_MAP_STAGE. -/
def execSklMapStage (h : Hdr) (first count : BitVec 16) (s : State) : Host.Outcome State Fault Refusal :=
  (takeSklMapStage h first count s).out

/-- SKL_PROFILE_STAGE (R323): a staging of the group map that writes EXPECT alone. -/
def takeSklProfileStage (h : Hdr) (first count : BitVec 16) (s : State) : State :=
  let n := count.toNat
  s.take h 0x0702 [.s] true (some (2 * n)) (decide (1 ≤ n) && decide (first.toNat + n ≤ 16384)) (fun s =>
    s.staging (.sklProfileStage h first count) h [0x0701] (fun s =>
      let es := (chunks 2 n (s.payload h)).map leVal
      .ok [] [] (s.stage 0x0701 (fun t =>
        { t with sklMap := es.zipIdx.foldl (fun m x =>
            supd SklGroup.reset (first.toNat + x.2) (fun g => { g with expect := x.1 }) m) t.sklMap }))))

/-- SKL_PROFILE_STAGE. -/
def execSklProfileStage (h : Hdr) (first count : BitVec 16) (s : State) : Host.Outcome State Fault Refusal :=
  (takeSklProfileStage h first count s).out

/-- A class entry from 16 bytes (R572), with whether it is in range (R325). -/
def sklClassOf (b : List Byte) : SklClass × Bool :=
  let k := rd b 0 2
  let m := rd b 2 2
  ({ k := k, m := m, clr := rd b 4 2, thr := rd b 6 2, pol := rd b 8 1, exp := bit (rd b 9 1) 0, freeze := bit (rd b 9 1) 1,
     step := rd b 10 1, route := BitVec.ofNat 16 (rd b 12 2) },
   decide (8 ≤ k) && decide (k ≤ 256) && decide (1 ≤ m) && decide (m ≤ k) && decide (rd b 4 2 < m) && decide (rd b 8 1 ≤ 2) &&
     decide (rd b 9 1 < 4) && rd b 11 1 == 0 && rd b 14 2 == 0)

/-- SKL_CLASS_STAGE (R325). -/
def takeSklClassStage (h : Hdr) (first count : BitVec 8) (s : State) : State :=
  let n := count.toNat
  s.take h 0x0703 [.s] true (some (16 * n)) (decide (1 ≤ n) && decide (first.toNat + n ≤ 16)) (fun s =>
    s.staging (.sklClassStage h first count) h [0x0703] (fun s =>
      let es := (chunks 16 n (s.payload h)).map sklClassOf
      if es.all (·.2) then
        .ok [] [] (s.stage 0x0703 (fun t =>
          { t with sklClass := es.zipIdx.foldl (fun m x => sset SklClass.reset (first.toNat + x.2) x.1.1 m) t.sklClass }))
      else .fail cRange [] s))

/-- SKL_CLASS_STAGE. -/
def execSklClassStage (h : Hdr) (first count : BitVec 8) (s : State) : Host.Outcome State Fault Refusal :=
  (takeSklClassStage h first count s).out

/-- SKL_FEV_STAGE (R338). -/
def takeSklFevStage (h : Hdr) (s : State) : State :=
  s.take h 0x0704 [.s] true (some 64) true (fun s =>
    s.staging (.sklFevStage h) h [0x0704] (fun s =>
      let es := chunks 4 16 (s.payload h)
      if es.all (fun b => decide (rd b 0 1 ≤ 1) && decide (rd b 1 1 ≤ 1)) then
        .ok [] [] (s.stage 0x0704 (fun t =>
          { t with sklFev := es.zipIdx.foldl (fun m x =>
              sset SklFev.reset x.2 { mode := rd x.1 0 1, actLow := rd x.1 1 1 == 1, minHi := rd x.1 2 2 } m) [] }))
      else .fail cRange [] s))

/-- SKL_FEV_STAGE. -/
def execSklFevStage (h : Hdr) (s : State) : Host.Outcome State Fault Refusal := (takeSklFevStage h s).out

/-- A group as SKL_FLAGS_READ lays it out (R572). -/
def GroupSt.word (g : GroupSt) : Nat := b2n g.flag + 2 * b2n g.masked + 256 * g.count

/-- SKL_FLAGS_READ (R332). -/
def takeSklFlagsRead (h : Hdr) (window : BitVec 8) (offset : BitVec 32) (s : State) : State :=
  s.take h 0x0705 [.c] true (some 0) true (fun s =>
    s.winResult window.toNat offset.toNat
      ((List.range 16384).flatMap (fun g => le 4 (sget GroupSt.reset g s.skl.snap).word)) [])

/-- SKL_FLAGS_READ. -/
def execSklFlagsRead (h : Hdr) (window : BitVec 8) (offset : BitVec 32) (s : State) : Host.Outcome State Fault Refusal :=
  (takeSklFlagsRead h window offset s).out

/-! ## Groups and pins (R327 to R331, R338, R340) -/

/-- Modes with Skillet outputs (R31). -/
def Mode.hasSkillet (m : Mode) : Bool := m.isRun

/-- Fixed latency (R50). -/
def sklFixed (m : Mode) (p : Profile) : Bool := m == .webFast || (m == .sheetInspect && p == .fast)

/-- The evaluation of R327 for a group of some width with an expected value, from the sum and the count of its valid pixels. -/
def GroupSt.eval (c : SklClass) (width expect sum nv : Nat) (g : GroupSt) : GroupSt :=
  let shift := fun (b : Bool) (g : GroupSt) =>
    let count := g.count + b2n b - b2n (g.hist.getLsbD (c.k - 1))
    { g with hist := g.hist <<< 1 ||| BitVec.ofNat 256 (b2n b), count := count,
             flag := if count ≤ c.clr then false else if c.m ≤ count then true else g.flag }
  if (width + 1) / 2 ≤ nv then
    let mean := (sum + nv / 2) / nv
    let med := if c.exp && g.warm = 0 then mean else g.med
    let d : Int := (mean : Int) - (if c.exp then med else expect)
    let beyond := (c.pol == 0 && decide ((c.thr : Int) < d)) || (c.pol == 1 && decide ((c.thr : Int) < -d)) ||
      (c.pol == 2 && decide (c.thr < d.natAbs))
    let warming := c.exp && decide (g.warm < c.k)
    let med' :=
      if c.exp && c.step != 0 && !(c.freeze && g.flag) then
        if med < mean then min (med + c.step) 0xFFFF else if mean < med then med - c.step else med
      else med
    shift (beyond && !warming) { g with masked := false, med := med', warm := if warming then g.warm + 1 else g.warm }
  else shift false { g with masked := true }

/-- The pixels of a group in a line (R321, R322): the sum and the count of the valid ones. -/
def LineRec.groupSum (r : LineRec) (e : SklGroup) : Nat × Nat :=
  let px := (((r.shaded e.port r.tabs.sklCfg.line).drop e.first).take e.width).filter (fun x => !x.defpix)
  ((px.map (fun x => x.data.toNat)).sum, px.length)

/-- Route output `n` (R338). -/
def State.route? (n : Nat) (s : State) : Bool :=
  s.skl.groups.any (fun g =>
    let e := sget SklGroup.reset g.1 s.skl.map
    g.2.flag && e.en && (sget SklClass.reset e.cls s.skl.cls).route.getLsbD n)

/-- A pin follows its route output (R338), or is inactive (R340). -/
def FevPin.follow (x : SklFev) (now : Nat) (out route : Bool) (p : FevPin) : FevPin :=
  if !out then FevPin.reset
  else if x.mode = 0 then { on := route, holdTo := none }
  else if route then (if p.on then p else { on := true, holdTo := some (now + x.minHi) })
  else
    match p.holdTo with
    | some e => if now < e then p else FevPin.reset
    | none => FevPin.reset

/-- Every pin follows. -/
def State.fevUpdate (s : State) : State :=
  { s with skl := { s.skl with pins := (List.range 16).foldl (fun m n =>
      supd FevPin.reset n (FevPin.follow (sget SklFev.reset n s.skl.fev) s.now s.skl.out (s.route? n)) m) s.skl.pins } }

/-- The level of the ball of FASTEV_n (R339, R340, R57, R58): driven by the path only while it is assigned to it, else low, as until the
assignment configures it. The ball of FASTEV_15 is REJECT_OUT's, an active-high pulse, while FEV15 = 1 and to the end of a pulse in
progress, and then inactive until the next evaluated line of a group on route 15 (R631). -/
def State.fevBall (n : Nat) (s : State) : Bool :=
  let x := sget SklFev.reset n s.skl.fev
  if n = 15 && (s.skl.fev15 == 1 || s.skl.rejHold) then s.sv.rejUntil.isSome
  else s.skl.fevMask.getLsbD n && (((sget FevPin.reset n s.skl.pins).on && !(n == 15 && s.skl.fevWait)) != x.actLow)

/-- Groups that a new map or new classes restart (R331). -/
def sklRestarts (old new : SMap SklGroup) (oldC newC : SMap SklClass) (g : Nat) : Bool :=
  let a := sget SklGroup.reset g old
  let b := sget SklGroup.reset g new
  { a with expect := 0 } != { b with expect := 0 } ||
    (sget SklClass.reset b.cls oldC).k != (sget SklClass.reset b.cls newC).k

/-- The tables of a line come into force at the Skillet stage (R20, R326, R331), with the assignment of the FASTEV balls (R631). Lanes
that SLK_EN enables start with negative disparity (R341; log entry 185). -/
def State.sklTables (t : Tables) (s : State) : State :=
  let toPath := s.skl.fev15 == 1 && t.io.fev15 != 1
  let toReject := s.skl.fev15 != 1 && t.io.fev15 == 1
  ({ s with skl := { s.skl with
      slkLive := t.sklCfg.slkEn, rd := if s.skl.slkLive then s.skl.rd else List.replicate 4 false,
      rdAt := if s.skl.slkLive then s.skl.rdAt else s.now, map := t.sklMap, cls := t.sklClass, fev := t.sklFev, fevMask := t.io.fevMask, fev15 := t.io.fev15,
      rejHold := if toPath then s.sv.rejUntil.isSome else !toReject && s.skl.rejHold, fevWait := !toReject && !toPath && s.skl.fevWait,
      pins := if toReject then sset FevPin.reset 15 FevPin.reset s.skl.pins else s.skl.pins,
      groups := s.skl.groups.filter (fun g => !sklRestarts s.skl.map t.sklMap s.skl.cls t.sklClass g.1) } }).fevUpdate

/-- Entry into a capture mode from IDLE (R328, R346). -/
def State.sklEntry (s : State) : State :=
  (({ s with skl := { s.skl with
      groups := [], snap := [], cur := none, evaluated := [], maxLat := 0, frames := [], out := false, closed := false } }).sklTables
    s.active)

/-! ## Streak frames (R341 to R344) -/

/-- The lanes send frames. -/
def State.slkOn (s : State) : Bool := s.active.sklCfg.en && s.active.sklCfg.slkEn && s.mode.mode.hasSkillet

/-- The characters of a lane's frame between SOF and EOF (R341, R342). -/
def slkLane (t : Tables) (flags : SMap GroupSt) (uzsId seq info lane : Nat) : List Byte :=
  let n := sklS t
  let on := fun g => (sget SklGroup.reset g t.sklMap).en && (sget GroupSt.reset g flags).flag
  let body := le 4 seq ++ le 2 (sklNg t) ++ le 1 (lane + 4 * uzsId) ++ le 1 info ++
    (List.range n).map (fun i => BitVec.ofNat 8 (mkBits 8 (fun j => on (8 * n * lane + 8 * i + j))))
  body ++ le 4 (crc32c 0 body).toNat

/-- A line has Skillet outputs (R31, R326). -/
def LineRec.sklRuns (r : LineRec) : Bool := r.tabs.sklCfg.en && r.mode.hasSkillet

/-- The frame of a line joins those that wait (R344): `due` is when its first bit must leave at the latest. -/
def State.slkQueue (r : LineRec) (due : Nat) (s : State) : State :=
  let s1 := { s with skl := { s.skl with closed := true } }
  if !(r.sklRuns && r.tabs.sklCfg.slkEn) then s1
  else
    let late := decide (due < s.skl.frameEnd) || !s.skl.frames.isEmpty
    let info := b2n r.tag.gap + 2 * b2n (!sklFixed r.mode r.profile) + 4 * b2n (s.skl.groups.any (fun g => g.2.masked)) + 8 * b2n late
    let frame := (List.range r.tabs.sklCfg.lanes).map (slkLane r.tabs s.skl.groups s.rst.uzsId.toNat r.tag.seq.toNat info)
    let s2 := { s1 with skl := { s1.skl with frames := s.skl.frames ++ [frame], waits := satAdd 0xFFFF s.skl.waits (b2n late) } }
    s2.pulseIf late 131

/-! ## The line of the Skillet stage (R20, R97, R332) -/

/-- The next line that the stage has not begun. -/
def State.sklNext (s : State) : Option LineRec :=
  match s.skl.cur with
  | some q =>
    if (s.lineRec q).isSome then ((s.lines.dropWhile (fun r => r.tag.seq != q)).drop 1).find? (·.started)
    else s.lines.find? (·.started)
  | none => s.lines.find? (·.started)

/-- Every enabled group of a line has closed. -/
def State.sklAll (r : LineRec) (s : State) : Bool := !r.sklRuns || (sklGroups r.tabs).all (fun g => s.skl.evaluated.contains g.1)

/-- The stage begins a line: its tables come into force, and the state of the groups is what SKL_FLAGS_READ gives (R332). -/
def State.sklBegin (r : LineRec) (s : State) : State :=
  let s1 := match s.skl.cur.bind (fun q => s.lineRec q) with
    | some p => if s.skl.closed then s else s.slkQueue p s.now
    | none => s
  ({ s1 with skl := { s1.skl with cur := some r.tag.seq, evaluated := [], closed := false, snap := s1.skl.groups,
                                  out := r.sklRuns } }).sklTables r.tabs

/-- The first word of a line has come to the stage, or the line is over without one. -/
def State.sklArrived (r : LineRec) (s : State) : Bool := s.admitted r && (!r.words.isEmpty || s.allWords r)

/-- The line of the stage is over: all its words are taken and all its groups have closed. A line without an enabled group has its frame
then. -/
def State.sklOver (s : State) : Bool × State :=
  match s.skl.cur.bind (fun q => s.lineRec q) with
  | none => (true, s)
  | some r =>
    if s.allWords r && s.sklAll r then (true, if s.skl.closed then s else s.slkQueue r s.now) else (false, s)

/-- The stage goes on to the lines that have arrived, one at a time. -/
def State.sklGo : Nat → State → State
  | 0, s => s
  | n + 1, s =>
    let x := s.sklOver
    if !x.1 then s
    else
      match x.2.sklNext with
      | some r => if x.2.sklArrived r then State.sklGo n (x.2.sklBegin r) else x.2
      | none =>
        if x.2.lt.run || !x.2.skl.out then x.2
        else ({ x.2 with skl := { x.2.skl with out := false, snap := x.2.skl.groups } }).fevUpdate

/-- The stage is brought up to date. After the last line of a capture the pins are inactive (R340). -/
def State.sklTick (s : State) : State := s.sklGo (s.lines.length + 1)

/-- A group has its evaluation still to come in a line. -/
def State.sklOpen (g : Nat) (r : LineRec) (s : State) : Bool :=
  r.sklRuns && (sget SklGroup.reset g r.tabs.sklMap).en && !s.skl.evaluated.contains g

/-- The line a group's evaluation belongs to, with the stage brought to it: the stage's own, or the one after it once that has arrived. -/
def State.sklLine (g : Nat) (s : State) : Option (LineRec × State) :=
  let later : Option (LineRec × State) := match s.sklNext with
    | some r => if s.sklArrived r then (let s1 := s.sklBegin r; if s1.sklOpen g r then some (r, s1) else none) else none
    | none => none
  match s.skl.cur.bind (fun q => s.lineRec q) with
  | some r => if s.sklOpen g r then some (r, s) else later
  | none => later

/-! ## The closing word (R334, R335) -/

/-- The quarter-slots of a section's SV entries, from a quarter-slot on. -/
def svIx (l : List (BitVec 16)) (off : Nat) : List Nat := l.zipIdx.filterMap (fun e => if e.1.getLsbD 9 then some (off + e.2) else none)

/-- The quarter-slot of each slot of a program. -/
def PatProgram.svAt (q : PatProgram) : List Nat :=
  let a := q.ls.length
  svIx q.ls 0 ++ (List.range q.nrep).flatMap (fun n => svIx q.rep (a + n * q.rep.length)) ++ svIx q.bl (a + q.nrep * q.rep.length)

/-- The quarter-slot of the closing word of a group (R334): of the slot two after the last of its columns, or, where none is sampled there,
four quarter-slots after the last for each slot beyond. -/
def LineRec.closeAt (banks : SMap PatProgram) (r : LineRec) (e : SklGroup) : Option Nat :=
  let q := progOf banks r.tabs e.port
  let slots := ((enabledOf r.tabs e.port).filter (fun i => (tapEntry r.tabs i).line.toNat = r.tabs.sklCfg.line)).flatMap (fun i =>
    let x := tapEntry r.tabs i
    x.columns.zipIdx.filterMap (fun c =>
      if (e.first : Int) ≤ c.1 ∧ c.1 < ((e.first + e.width : Nat) : Int) then some (x.first.toNat + c.2) else none))
  match slots with
  | [] => none
  | _ =>
    let last := slots.foldl max 0
    let sv := q.svAt
    if last + 2 < sv.length then sv[last + 2]? else (sv.getLast?).map (fun z => z + 4 * (last + 3 - sv.length))

/-- When the closing word of a group enters the link (R334, R335): at `entryNs`, which lies within 3.5 conversion periods and 2.25 ns after
the instant of its sample; none while that has not come. -/
def State.entryOf (r : LineRec) (e : SklGroup) (entryNs : Nat) (s : State) : Option Nat :=
  match sget none (e.port / 12) r.dieAt, r.closeAt s.banks e with
  | some a, some ix =>
    let f := max 1 (tapClkOf r.tabs (e.port / 12))
    let sv := a + ix * 250000 / f
    if s.now < sv then none else some (max sv (min entryNs (sv + divUp 3500000 f + 3)))
  | _, _ => some entryNs

/-- The latency of a group (R333, R335, R336): the total of the stages, and what its closing word waited in its link queue. -/
def sklLatency (dense : Bool) (wait : Nat) : Nat := if dense then 22 + (wait - 14) else 14 + (wait - 6)

/-- SKL_GROUP_EVAL (R327, R329, R332 to R337): `entryNs` is when the closing word entered the link, within the bounds of R335. -/
def execSklGroupEval (t : Nat) (group : BitVec 14) (entryNs : Nat) (s : State) : Host.Outcome State Fault Refusal :=
  let s1 := (s.atTime t).sklTick
  let g := group.toNat
  match s1.sklLine g with
  | none => s1.out
  | some (r, s2) =>
    let e := sget SklGroup.reset g r.tabs.sklMap
    let c := sget SklClass.reset e.cls r.tabs.sklClass
    match s2.entryOf r e entryNs with
    | none => s2.out
    | some entry =>
      let x := sget GroupSt.reset g s2.skl.groups
      let sum := r.groupSum e
      let y := if r.tag.gap then x else x.eval c e.width e.expect sum.1 sum.2
      let s3 := { s2 with skl := { s2.skl with groups := sset GroupSt.reset g y s2.skl.groups, evaluated := s2.skl.evaluated ++ [g],
                                               fevWait := s2.skl.fevWait && !c.route.getLsbD 15 } }
      let s4 := (s3.pulseIf (y.flag && !x.flag) 128).fevUpdate
      (if s4.sklAll r then
        let lat := sklLatency (r.profile == Profile.dense) (s4.now - entry)
        let s5 := if r.tag.gap then s4 else
          ({ s4 with skl := { s4.skl with lastLat := min 0xFF lat, maxLat := max s4.skl.maxLat (min 0xFF lat) } }).pulseIf
            (r.tabs.sklCfg.latLimit != 0 && decide (r.tabs.sklCfg.latLimit < lat)) 130
        (s5.slkQueue r (entry + 50)).sklTick
      else s4).out

/-- FASTEV_STRETCH_END (R338). -/
def execFastevStretchEnd (t : Nat) (pin : BitVec 4) (s : State) : Host.Outcome State Fault Refusal :=
  let s1 := s.atTime t
  (match (sget FevPin.reset pin.toNat s1.skl.pins).holdTo with
   | some e => if s1.now < e then s1 else s1.fevUpdate
   | none => s1).out

/-- SLK_FRAME_START (R77, R341 to R344): all lanes on one character boundary; between the frames they have sent idle characters. -/
def execSlkFrameStart (t : Nat) (s : State) : Host.Outcome State Fault Refusal :=
  let s1 := (s.atTime t).sklTick
  (match s1.skl.frames with
   | [] => s1
   | f :: rest =>
     if s1.now < s1.skl.frameEnd then s1
     else
       let len := (f.map List.length).foldl max 0 + 2
       let idle := (s1.now - s1.skl.rdAt) / 8
       let syms : List (List (BitVec 10) × Bool) := (List.range 4).map (fun l =>
         let rd := rdIdle idle (s1.skl.rd.getD l false)
         match f[l]? with
         | some bs => frameSymbols bs rd
         | none => ([], rdIdle len rd))
       let after := syms.map (fun (y : List (BitVec 10) × Bool) => y.2)
       let sent := syms.map (fun (y : List (BitVec 10) × Bool) => y.1)
       let s2 := { s1 with skl := { s1.skl with frames := rest, frameEnd := s1.now + 8 * len, rd := after,
                                                rdAt := s1.now + 8 * len } }
       (List.range f.length).foldl (fun (s : State) l => s.emit (.streakFrame l (sent.getD l []))) s2).out

/-! ## Words and the ends of programs, which the stage follows -/

/-- AFE_SLOT_SAMPLE: the slot's word, the words of the shading store that its correction reads, and the Skillet stage. -/
def execAfeSlotSample (t : Nat) (port : BitVec 6) (input : BitVec 4) (slot : BitVec 10) (sv sr : Int)
    (overRange : Bool) (checks : SampleChecks) (s : State) : Host.Outcome State Fault Refusal :=
  let s1 := (s.atTime t).sampleSlot port input slot sv sr overRange checks.residue
  ((s1.shdRead (16 * port.toNat + input.toNat) slot.toNat checks.ecc).sklTick).out

/-- FE_PROGRAM_END. -/
def execFeProgramEnd (t : Nat) (die : BitVec 2) (s : State) : Host.Outcome State Fault Refusal :=
  (((s.atTime t).programEnd die.toNat).sklTick).out

end Sys2Proof.Machine
end

