-- ==== Sys2Proof/Machine/Stitch.lean ====
section
/-! DEFINITION. One stitched line: along-track interpolation, the 12-bit code, cross-track placement, seams, colour transform and
line products (stages 7 to 10 of R206; chapter "Colour-line alignment and segment stitching"). -/

namespace Sys2Proof.Machine

/-! ## The interpolator (R250, R251) -/

/-- 1,024 x h(n / 64) of R250. -/
def kernelAt (n : Nat) : Int :=
  let m : Int := n
  if n ≤ 64 then divRound (1536 * m ^ 3 - 163840 * m ^ 2 + 268435456) 262144
  else divRound (-512 * m ^ 3 + 163840 * m ^ 2 - 16777216 * m + 536870912) 262144

/-- The index of the largest of some numbers, the first of equals. -/
def maxIx (l : List Int) : Nat :=
  (l.zipIdx.foldl (fun (b : Int × Nat) x => if b.1 < x.1 then x else b) (l.headD 0, 0)).2

/-- The four coefficients of a phase (R250). -/
def coefs (phi : Nat) : List Int :=
  let c := [kernelAt (64 + phi), kernelAt phi, kernelAt (64 - phi), kernelAt (128 - phi)]
  let k := maxIx c
  c.set k (c.getD k 0 + (1024 - c.sum))

/-- The output of R251 for the four taps. -/
def interpPix (phi : Nat) (xs : List Pix) : Pix :=
  let cs := coefs phi
  let interp := xs.any (·.interp)
  if xs.any (fun x => x.sat || x.defpix) then
    let a := xs.getD 1 Pix.none
    let b := xs.getD 2 Pix.none
    let near := if phi < 32 then a else b
    let far := if phi < 32 then b else a
    let p := if near.defpix then far else near
    if p.defpix then { Pix.none with interp := interp } else { p with interp := interp }
  else
    let v := sar (((cs.zip xs).map (fun x => x.1 * (x.2.data.toNat : Int))).sum + 512) 10
    { data := BitVec.ofInt 16 (clampI 0 65535 v), sat := false, defpix := false, interp := interp, stitch := false }

/-! ## Alignment (R243 to R245) -/

/-- The captures of a line and of those before it. -/
def State.captureBefore (r : LineRec) (d : Nat) (s : State) : Option LineRec :=
  if r.cap < d then none else s.lines.find? (fun x => x.started && x.cap == r.cap - d)

/-- D before its limits (R243). -/
def delayOf (r : LineRec) (p c : Nat) : Int := 128 + ofsOf r.tabs p c + r.delta.getD c 0

/-- D within its limits (R245). -/
def delayLimited (r : LineRec) (p c : Nat) : Nat :=
  (clampI 64 (64 * ((depthOf r.tabs p c : Int) - 2) + 63) (delayOf r p c)).toNat

/-- A limit acts in the line (R245). -/
def LineRec.clamped (m : Member) (r : LineRec) : Bool :=
  (alnPorts m r.tabs).any (fun p => (List.range 4).any (fun c => (delayLimited r p c : Int) != delayOf r p c))

/-- A colour line of a port, aligned (R244). -/
def State.aligned (r : LineRec) (p c : Nat) (s : State) : List Pix :=
  let d := delayLimited r p c
  let w := lineWidth r.tabs p 0
  let taps := (List.range 4).map (fun j =>
    match s.captureBefore r (d / 64 + j - 1) with
    | some x => x.corrected p c
    | none => [])
  (List.range w).map (fun u => interpPix (d % 64) (taps.map (fun l => l.getD u Pix.none)))

/-! ## The 12-bit code (R252) -/

/-- First value and first code of segment `g`. -/
def segBase (g : Nat) : Nat := if g = 0 then 0 else 512 * (2 ^ g - 1)
@[inherit_doc segBase] def segCode (g : Nat) : Nat := 1 + 512 * g

/-- The segment of a value. -/
def segOf (v : Nat) : Nat :=
  if v < 512 then 0 else if v < 1536 then 1 else if v < 3584 then 2 else if v < 7680 then 3 else if v < 15872 then 4
  else if v < 32256 then 5 else 6

/-- The code of a pixel. -/
def code12 (x : Pix) : Nat :=
  if x.defpix then 0
  else if x.sat then 0xFFF
  else
    let v := x.data.toNat
    let g := segOf v
    segCode g + (v - segBase g) / 2 ^ g

/-- The expansion of a code. -/
def expand12 (k : Nat) : Pix :=
  if k = 0 then Pix.none
  else if k = 0xFFF then { data := 0xFFFF, sat := true, defpix := false, interp := false, stitch := false }
  else
    let g := min 6 ((k - 1) / 512)
    let v := segBase g + (k - segCode g) * 2 ^ g + (if g = 0 then 0 else 2 ^ (g - 1))
    { data := BitVec.ofNat 16 v, sat := false, defpix := false, interp := false, stitch := false }

/-- Codes as the bit string of R253, padded to 64 bytes. -/
def packCodes : List Nat → List Byte
  | [] => []
  | [a] => le 2 a
  | a :: b :: l => le 3 (a + 4096 * b) ++ packCodes l

/-- Codes from the bit string. -/
def unpackCodes (bs : List Byte) (n : Nat) : List Nat :=
  (List.range n).map (fun i => if i % 2 = 0 then rd bs (3 * (i / 2)) 2 % 4096 else rd bs (3 * (i / 2) + 1) 2 / 16)

/-- Ports of a row that take part in stitching. -/
def rowPorts (m : Member) (t : Tables) (second : Bool) : List Nat := (alnPorts m t).filter (fun p => (alnOf t p).row == second)

/-- The pixels of a port by colour line. -/
abbrev PortLines := List (Nat × List (List Pix))

/-- The aligned lines of some ports. -/
def State.alignedOf (r : LineRec) (ports : List Nat) (s : State) : PortLines :=
  ports.map (fun p => (p, (List.range 4).map (fun c => s.aligned r p c)))

/-- The pixels in the order of R253. -/
def flatOf (l : PortLines) : List Pix := l.flatMap (fun x => x.2.flatten)

/-- Pixels in the order of R253 back to ports and colour lines. -/
def splitTo (t : Tables) : List Nat → List Pix → PortLines
  | [], _ => []
  | p :: ps, l =>
    let w := lineWidth t p 0
    (p, chunks w 4 l) :: splitTo t ps (l.drop (4 * w))

/-! ## Placement, seams and the lane (R259 to R261) -/

/-- First and last output column at which a port covers all four columns of the interpolation (R259). -/
def firstCover (t : Tables) (p : Nat) : Nat := divUp (alnOf t p).x.toNat 64 + 1
@[inherit_doc firstCover] def lastCover (t : Tables) (p : Nat) : Nat := divUp (alnOf t p).x.toNat 64 + lineWidth t p 0 - 3

/-- The lane (R259), its first column and its width: from the lowest to the highest column at which an enabled port has all four of its
columns. -/
def laneOf (m : Member) (t : Tables) : Nat × Nat :=
  let ps := (alnPorts m t).filter (fun p => decide (4 ≤ lineWidth t p 0))
  match ps with
  | [] => (0, 0)
  | p :: _ =>
    let a := (ps.map (firstCover t)).foldl min (firstCover t p)
    (a, (ps.map (lastCover t)).foldl max 0 + 1 - a)

/-- A port's value at an output column (R259). -/
def placed (t : Tables) (p : Nat) (l : List Pix) (u : Nat) : Pix :=
  let v : Int := 64 * (u : Int) - (alnOf t p).x.toNat
  let i := v / 64
  interpPix (v % 64).toNat ((List.range 4).map (fun (j : Nat) =>
    let k := i - 1 + (j : Int)
    if k < 0 then Pix.none else l.getD k.toNat Pix.none))

/-- A blend column (R260, R261): the weight of `b`, and whether the seam is flagged. -/
def blend (w : Nat) (stitch : Bool) (a b : Pix) : Pix :=
  if a.defpix && b.defpix then { Pix.none with stitch := stitch }
  else if a.defpix then { b with stitch := stitch }
  else if b.defpix then { a with stitch := stitch }
  else { data := BitVec.ofNat 16 ((a.data.toNat * (256 - w) + b.data.toNat * w + 128) / 256), sat := a.sat || b.sat,
         defpix := false, interp := false, stitch := stitch }

/-- The seam between two ports is named by R101: they lie on neighbouring dies whose condition holds. -/
def seamFlagged (seams : List Nat) (a b : Nat) : Bool :=
  (a / 12 + 1 == b / 12 && seams.contains (a / 12)) || (b / 12 + 1 == a / 12 && seams.contains (b / 12))

/-- The value of a colour line at an output column, along the output order (R260). -/
def seamed (t : Tables) (seams : List Nat) (val : Nat → Pix) (u : Nat) : List Nat → Pix
  | [] => Pix.none
  | [a] => val a
  | a :: b :: l =>
    let bw := (alnOf t a).bw.toNat
    let u0 : Int := ((alnOf t a).sc.toNat : Int) - (bw / 2 : Nat)
    if (u : Int) < u0 then val a
    else if (u : Int) < u0 + bw then
      blend (((2 * ((u : Int) - u0).toNat + 1) * 128) / bw) (seamFlagged seams a b) (val a) (val b)
    else seamed t seams val u (b :: l)

/-! ## Colour transform (R263) -/

/-- The output channels of a column from RED, GRN, BLU and NIR. -/
def Xform.pix (x : Xform) (xs : List Pix) : OutPix :=
  let chan := fun (i : Nat) =>
    let used := (List.range 4).filter (fun j => x.m.getD (4 * i + j) 0 != 0)
    let bad := used.any (fun j => (xs.getD j Pix.none).defpix)
    let sat := used.any (fun j => (xs.getD j Pix.none).sat)
    let sum := ((List.range 4).map (fun j => x.m.getD (4 * i + j) 0 * ((xs.getD j Pix.none).data.toNat : Int))).sum
    (if bad then 0 else (clampI 0 65535 (sar (sum + 2048) 12 + x.o.getD i 0)).toNat, sat, bad)
  let cs := (List.range 4).map chan
  { v := cs.map (·.1), sat := cs.map (·.2.1), defpix := cs.map (·.2.2), stitch := xs.any (·.stitch) }

/-- Stages 9 and 10 for a line: the lane's pixels. -/
def lanePix (m : Member) (t : Tables) (seams : List Nat) (l : PortLines) : List OutPix :=
  let o := alnOrder m t
  let lane := laneOf m t
  (List.range lane.2).map (fun k =>
    let u := lane.1 + k
    t.xform.pix ((List.range 4).map (fun c =>
      seamed t seams (fun p => placed t p ((((l.find? (fun x => x.1 == p)).map (·.2)).getD []).getD c []) u) u o)))

/-! ## Line products (R264, R265) -/

/-- A pixel outside the lane (R259). -/
def OutPix.none : OutPix :=
  { v := [0, 0, 0, 0], sat := List.replicate 4 false, defpix := List.replicate 4 true, stitch := false }

/-- The tag's bytes (R179). -/
def LineTag.bytes (x : LineTag) : List Byte :=
  le 4 x.seq.toNat ++ le 4 x.pitch.toNat ++ leS 4 x.vEst ++ le 2 (min 0xFFFF x.lateNs) ++
    le 1 (b2n (x.lateNs != 0) + 2 * b2n x.first + 4 * b2n x.last + 8 * b2n x.gap + 16 * x.phase.toNat + 64 * b2n x.restart) ++
    le 1 (min 0xFF x.skipped)

/-- The flag code of a pixel for the channels of a mask (R264). -/
def OutPix.code (mask : BitVec 8) (x : OutPix) : Nat :=
  if (chans mask).any (fun c => x.defpix.getD c false) then 2
  else if (chans mask).any (fun c => x.sat.getD c false) then 1
  else if x.stitch then 3 else 0

/-- A value in 8 bits (R264). -/
def to8 (v : Nat) : Nat := min 0xFF ((v + 128) / 256)

/-- Four flag codes a byte. -/
def packFlags (l : List Nat) : List Byte :=
  (chunks 4 (divUp l.length 4) l).map (fun g => BitVec.ofNat 8 (g.zipIdx.map (fun x => x.1 * 4 ^ x.2)).sum)

/-- A plane padded to 64 bytes. -/
def plane (bs : List Byte) : List Byte := bs ++ List.replicate (up64 bs.length - bs.length) 0

/-- A line product (R265) of some pixels, from the first column on; `high` are bits 3 to 5 of LFLAGS. -/
def lineProduct (tag : LineTag) (high : Nat) (pf : Nat) (mask : BitVec 8) (first : Nat) (px : List OutPix) : List Byte :=
  let cs := chans mask
  let some_ := fun (f : OutPix → Nat → Bool) => px.any (fun x => cs.any (f x))
  let lf := b2n (some_ (fun x c => x.sat.getD c false)) + 2 * b2n (some_ (fun x c => x.defpix.getD c false)) +
    4 * b2n (px.any (·.stitch)) + high
  tag.bytes ++ le 4 first ++ le 4 px.length ++ le 1 pf ++ le 1 mask.toNat ++ le 1 lf ++ List.replicate 37 0 ++
    cs.flatMap (fun c => plane (px.flatMap (fun x =>
      if pf % 4 = 0 || pf % 4 = 2 then le 2 (x.v.getD c 0) else le 1 (to8 (x.v.getD c 0))))) ++
    (if 2 ≤ pf then plane (packFlags (px.map (OutPix.code mask))) else [])

/-- The pixels of a line from a column on, with those outside the lane as R259 has them. -/
def OutLine.cut (o : OutLine) (first n : Nat) : List OutPix :=
  (List.range n).map (fun i => if first + i < o.col0 then OutPix.none else o.pix.getD (first + i - o.col0) OutPix.none)

end Sys2Proof.Machine
end

