-- ==== Sys2Proof/Machine/Sieve.lean ====
section
/-! DEFINITION. What Sieve, Tongs, Ladle and Preview compute from the lines of a page: pure functions of the page and of its
reference (chapter "Inspection services: Sieve, Tongs, Ladle, Preview and Crop", R288 to R306). -/

namespace Sys2Proof.Machine

/-! ## Lists -/

/-- Insertion by an order. -/
def insertBy {α : Type} (lt : α → α → Bool) (x : α) : List α → List α
  | [] => [x]
  | y :: l => if lt x y then x :: y :: l else y :: insertBy lt x l

/-- Insertion sort. -/
def sortBy {α : Type} (lt : α → α → Bool) (l : List α) : List α := l.foldr (insertBy lt) []

/-- The lower median (R291). -/
def lowMedian (l : List Int) : Int := (sortBy (fun a b => decide (a < b)) l).getD ((l.length - 1) / 2) 0

/-- A rational rounded to nearest, half away from zero. -/
def roundQ (q : ℚ) : Int := if 0 ≤ q then (q + 1 / 2).floor else -((-q + 1 / 2).floor)

/-! ## The reduced page (R288) -/

/-- The job's view of a page: SV_X0, RX, RY, and the lines. -/
structure PageView where
  x0    : Nat
  rx    : Nat
  ry    : Nat
  lines : List OutLine

/-- A reduced pixel. -/
structure RedPix where
  v      : List Nat
  valid  : Bool
  sat    : Bool
  stitch : Bool

/-- Pixels of a page line. -/
def PageView.cut (g : PageView) (y x n : Nat) : List OutPix :=
  match g.lines[y]? with
  | some o => o.cut x n
  | none => List.replicate n OutPix.none

/-- Reduced pixel (k, l). -/
def PageView.red (g : PageView) (k l : Nat) : RedPix :=
  let px := (List.range g.ry).flatMap (fun j => g.cut (g.ry * l + j) (g.x0 + g.rx * k) g.rx)
  let n := g.rx * g.ry
  { v := (List.range 4).map (fun c =>
      let s := (px.map (fun x => x.v.getD c 0)).sum
      min 255 (((s + n / 2) / n + 128) / 256)),
    valid := px.all (fun x => !x.defpix.any id), sat := px.any (fun x => x.sat.any id), stitch := px.any (·.stitch) }

/-- Whole reduced columns from SV_X0 to the end of the lane, and whole reduced lines. -/
def PageView.width (g : PageView) : Nat :=
  match g.lines.head? with
  | some o => (o.col0 + o.pix.length - g.x0) / g.rx
  | none => 0
@[inherit_doc PageView.width] def PageView.height (g : PageView) : Nat := g.lines.length / g.ry

/-- Y of R285. -/
def RedPix.y (p : RedPix) : Nat := p.v.sum

/-! ## The reference (R285, R292) -/

/-- A decoded reference as its slot in DRAM holds it: rows of 4-channel pixels, and the pyramid row by row. -/
structure RefView where
  width  : Nat
  height : Nat
  rows   : List (List (List Nat))
  pyr    : List Nat

/-- No registration. -/
def TileReg.none : TileReg := { predicted := false, coarse := false, fx := 0, fy := 0 }

/-- A pixel lies inside the reference. -/
def RefView.has (r : RefView) (x y : Int) : Bool :=
  decide (0 ≤ x) && decide (x < r.width) && decide (0 ≤ y) && decide (y < r.height)

/-- A pixel of the reference. -/
def RefView.px (r : RefView) (x y : Int) : List Nat := (r.rows.getD y.toNat []).getD x.toNat []

/-- Y at a pixel of the reference. -/
def RefView.y (r : RefView) (x y : Int) : Nat := (r.px x y).sum

/-- A cell of the pyramid (R285). -/
def RefView.cell (r : RefView) (x y : Int) : Nat := r.pyr.getD (y.toNat * divUp r.width 8 + x.toNat) 0

/-- The pyramid of a page: the means of Y over 8 x 8 pixels, rounded to nearest (log entry 40). -/
def pyramid (w h : Nat) (rows : List (List (List Nat))) : List Nat :=
  (List.range (divUp h 8)).flatMap (fun j => (List.range (divUp w 8)).map (fun i =>
    ((((rows.drop (8 * j)).take 8).flatMap (fun l => ((l.drop (8 * i)).take 8).map List.sum)).sum + 32) / 64))

/-- The whole cell lies inside the reference. -/
def RefView.hasCell (r : RefView) (x y : Int) : Bool := r.has (8 * x) (8 * y) && r.has (8 * x + 7) (8 * y + 7)

/-- The position that a pixel is sampled at lies inside the reference (R293): every pixel that R292 weighs exists. -/
def RefView.covers (r : RefView) (px py : Int) : Bool :=
  r.has (px / 16) (py / 16) && (px % 16 == 0 || r.has (px / 16 + 1) (py / 16)) && (py % 16 == 0 || r.has (px / 16) (py / 16 + 1))

/-- The reference value of a channel at a position in 1/16 pixel (R292). -/
def RefView.sample (r : RefView) (c : Nat) (px py : Int) : Nat :=
  let x := px / 16
  let y := py / 16
  let fx := (px % 16).toNat
  let fy := (py % 16).toNat
  let at_ := fun (a b : Int) => (r.px a b).getD c 0
  ((16 - fx) * (16 - fy) * at_ x y + fx * (16 - fy) * at_ (x + 1) y + (16 - fx) * fy * at_ x (y + 1) +
    fx * fy * at_ (x + 1) (y + 1) + 128) / 256

/-! ## The global transform (R289) -/

/-- One axis from its marks (reduced position, reference position): shift, scale, and whether the scale was limited. -/
def axisFit (l : List (ℚ × ℚ)) : ℚ × ℚ × Bool :=
  if l.isEmpty then (0, 1, false)
  else
    let n : ℚ := l.length
    let mx := (l.map (·.1)).sum / n
    let mr := (l.map (·.2)).sum / n
    let hi := (l.map (·.1)).foldl max (l.headD (0, 0)).1
    let lo := (l.map (·.1)).foldl min (l.headD (0, 0)).1
    let sxx := (l.map (fun m => (m.1 - mx) * (m.1 - mx))).sum
    let sxr := (l.map (fun m => (m.1 - mx) * (m.2 - mr))).sum
    let s := if 2 ≤ l.length ∧ 1024 ≤ hi - lo then sxr / sxx else 1
    let s' := max (199 / 200) (min (201 / 200) s)
    (mr - s' * mx, s', s != s')

/-- The transform: TX, SX, TY, SY, SCALE_LIMIT and NO_MARKS. -/
structure Fit where
  tx : ℚ
  sx : ℚ
  ty : ℚ
  sy : ℚ
  limited : Bool
  none : Bool

/-- The fit to the marks found in GLOBAL windows. -/
def fitOf (g : PageView) (wins : List TongsWin) (marks : SMap Mark) : Fit :=
  let ms := wins.zipIdx.filterMap (fun (w : TongsWin × Nat) =>
    let m := sget Mark.reset w.2 marks
    if w.1.isGlobal && (m.status == 0 || m.status == 2) then some (w.1, m) else Option.none)
  let xs := ms.map (fun (w : TongsWin × Mark) => ((((w.2.x : ℚ) / 256 - g.x0) / g.rx), (w.1.refX : ℚ) / 16))
  let ys := ms.map (fun (w : TongsWin × Mark) => (((w.2.y : ℚ) / 256 / g.ry), (w.1.refY : ℚ) / 16))
  let fx := axisFit xs
  let fy := axisFit ys
  { tx := fx.1, sx := fx.2.1, ty := fy.1, sy := fy.2.1, limited := fx.2.2 || fy.2.2, none := ms.isEmpty }

/-- A tile's prediction P (R290); the centre of tile (tx, ty) is (128 tx + 64, 128 ty + 64) (log entry 40). -/
def Fit.predict (f : Fit) (tx ty : Nat) : Int × Int :=
  let cx : ℚ := 128 * tx + 64
  let cy : ℚ := 128 * ty + 64
  (roundQ (f.tx + f.sx * cx - cx), roundQ (f.ty + f.sy * cy - cy))

/-! ## Registration of a tile (R290, R291, R314) -/

/-- Tiles across and down. -/
def PageView.tilesX (g : PageView) : Nat := divUp g.width 128
@[inherit_doc PageView.tilesX] def PageView.tilesY (g : PageView) : Nat := divUp g.height 128

/-- The reduced pixels of a tile. -/
def PageView.tilePx (g : PageView) (tx ty : Nat) : List (Nat × Nat) :=
  (List.range' (128 * ty) (min 128 (g.height - 128 * ty))).flatMap (fun y =>
    (List.range' (128 * tx) (min 128 (g.width - 128 * tx))).map (fun x => (x, y)))

/-- The valid pixels of a tile. -/
def PageView.validPx (g : PageView) (tx ty : Nat) : List (Nat × Nat) := (g.tilePx tx ty).filter (fun p => (g.red p.1 p.2).valid)

/-- The cells of a tile that are valid, with their mean Y. -/
def PageView.cells (g : PageView) (tx ty : Nat) : List (Int × Int × Nat) :=
  (List.range 16).flatMap (fun j => (List.range 16).filterMap (fun i =>
    let cx := 16 * tx + i
    let cy := 16 * ty + j
    let ps := (List.range 8).flatMap (fun b => (List.range 8).filterMap (fun a =>
      if 8 * cx + a < g.width ∧ 8 * cy + b < g.height then
        let p := g.red (8 * cx + a) (8 * cy + b)
        if p.valid then some p.y else none
      else none))
    if 32 ≤ ps.length then some ((cx : Int), (cy : Int), (ps.sum + ps.length / 2) / ps.length) else none))

/-- Offsets of -n to +n on both axes. -/
def offsets (n : Nat) : List (Int × Int) :=
  (List.range (2 * n + 1)).flatMap (fun (j : Nat) => (List.range (2 * n + 1)).map (fun (i : Nat) => ((i : Int) - n, (j : Int) - n)))

/-- The better of two offsets by SAD and the tie rule of R290. -/
def betterOff (a b : Nat × Int × Int) : Bool :=
  let m := fun (o : Int × Int) => o.1.natAbs + o.2.natAbs
  decide (a.1 < b.1) || (a.1 == b.1 && (decide (m a.2 < m b.2) || (m a.2 == m b.2 &&
    (decide (a.2.2 < b.2.2) || (a.2.2 == b.2.2 && decide (a.2.1 < b.2.1))))))

/-- The best offset of a search. -/
def bestOff (n : Nat) (sad : Int × Int → Nat) : Nat × Int × Int :=
  (offsets n).foldl (fun (b : Nat × Int × Int) o => if betterOff (sad o, o) b then (sad o, o) else b) (sad (0, 0), 0, 0)

/-- The refinement of one axis (R290). -/
def refine (k : Int) (lim : Int) (edge : Bool) (sm s0 sp : Nat) : Int :=
  let den : Int := 2 * ((sm : Int) - 2 * s0 + sp)
  if edge || decide (den ≤ 0) then 0 else clampI (-lim) lim (divRound (k * ((sm : Int) - sp)) den)

/-- Both axes of a refinement. -/
def refine2 (k lim : Int) (n : Nat) (sad : Int × Int → Nat) (b : Nat × Int × Int) : Int × Int :=
  (refine k lim (b.2.1.natAbs == n) (sad (b.2.1 - 1, b.2.2)) b.1 (sad (b.2.1 + 1, b.2.2)),
   refine k lim (b.2.2.natAbs == n) (sad (b.2.1, b.2.2 - 1)) b.1 (sad (b.2.1, b.2.2 + 1)))

/-- The coarse estimate C of a tile, with its best SAD and its valid cells. -/
def coarseOf (g : PageView) (r : RefView) (p : Int × Int) (tx ty : Nat) : (Int × Int) × Nat × Nat :=
  let bx := p.1 / 8
  let by_ := p.2 / 8
  let cs := g.cells tx ty
  let used := cs.filter (fun c => (offsets 4).all (fun o => r.hasCell (c.1 + bx + o.1) (c.2.1 + by_ + o.2)))
  let sad := fun (o : Int × Int) =>
    (used.map (fun c => ((c.2.2 : Int) - r.cell (c.1 + bx + o.1) (c.2.1 + by_ + o.2)).natAbs)).sum
  let b := bestOff 4 sad
  let q := refine2 8 4 4 sad b
  ((8 * (bx + b.2.1) + q.1, 8 * (by_ + b.2.2) + q.2), b.1, cs.length)

/-- The fine search about C: the offset F in 1/16 pixel. -/
def fineOf (g : PageView) (r : RefView) (c : Int × Int) (tx ty : Nat) : Int × Int :=
  let ps := (g.validPx tx ty).filter (fun p =>
    (offsets 2).all (fun d => r.has ((p.1 : Int) + c.1 + d.1) ((p.2 : Int) + c.2 + d.2)))
  let sad := fun (d : Int × Int) =>
    (ps.map (fun p => (((g.red p.1 p.2).y : Int) - r.y ((p.1 : Int) + c.1 + d.1) ((p.2 : Int) + c.2 + d.2)).natAbs)).sum
  let b := bestOff 2 sad
  let q := refine2 16 8 2 sad b
  (16 * (c.1 + b.2.1) + q.1, 16 * (c.2 + b.2.2) + q.2)

/-- A tile is searched (R291). -/
def PageView.searched (g : PageView) (tx ty : Nat) : Bool := decide (1024 ≤ (g.validPx tx ty).length)

/-- M of a tile row (R291). -/
def rowMedian (g : PageView) (r : RefView) (f : Fit) (ty : Nat) : Int :=
  lowMedian (((List.range g.tilesX).filter (fun tx => g.searched tx ty)).map (fun tx => (coarseOf g r (f.predict tx ty) tx ty).1.2))

/-- The registration of a tile; `reduced` says that its row has the response of stage 2 (R314). -/
def tileReg (g : PageView) (r : RefView) (f : Fit) (flagMad : Nat) (reduced : Bool) (tx ty : Nat) : TileReg :=
  let p := f.predict tx ty
  if !g.searched tx ty then { predicted := true, coarse := false, fx := 16 * p.1, fy := 16 * p.2 }
  else
    let c := coarseOf g r p tx ty
    if decide (2 < (c.1.2 - rowMedian g r f ty).natAbs) || (reduced && decide (c.2.1 ≤ flagMad * c.2.2)) then
      { predicted := false, coarse := true, fx := 16 * c.1.1, fy := 16 * c.1.2 }
    else
      let q := fineOf g r c.1 tx ty
      { predicted := false, coarse := false, fx := q.1, fy := q.2 }

/-! ## Defects (R293 to R295) -/

/-- An over-pixel: where it lies, its class, its differences, and what its record takes from it. -/
structure OverPix where
  x      : Nat
  y      : Nat
  cls    : Nat
  d      : List Int
  hit    : List Bool
  sat    : Bool
  stitch : Bool
  edge   : Bool
  reg    : TileReg

/-- The class at a reference pixel (R293). -/
def SieveTab.classAt (t : SieveTab) (x y : Int) : Nat :=
  t.regions.foldl (fun k q =>
    if (q.x0 : Int) ≤ x ∧ x < q.x1 ∧ (q.y0 : Int) ≤ y ∧ y < q.y1 then q.cls else k) 0

/-- A class of the table; an absent one checks nothing (R276). -/
def SieveTab.cls (t : SieveTab) (k : Nat) : SieveClass := t.classes.getD k { thr := [0, 0, 0, 0], minArea := 0, ignore := false }

/-- The over-pixel at a reduced pixel, if it is one. -/
def overAt (g : PageView) (r : RefView) (t : SieveTab) (reg : TileReg) (x y : Nat) : Option OverPix :=
  let p := g.red x y
  let px : Int := 16 * x + reg.fx
  let py : Int := 16 * y + reg.fy
  let k := t.classAt (px / 16) (py / 16)
  let c := t.cls k
  if !p.valid || c.ignore || !r.covers px py then none
  else
    let d := (List.range 4).map (fun i => ((p.v.getD i 0 : Nat) : Int) - r.sample i px py)
    let hit := (List.range 4).map (fun i => c.thr.getD i 0 != 0 && decide (c.thr.getD i 0 < (d.getD i 0).natAbs))
    if !hit.any id then none
    else
      let onPage := fun (u v : Int) => decide (0 ≤ u) && decide (u < g.width) && decide (0 ≤ v) && decide (v < g.height)
      let good := fun (u v : Int) =>
        !onPage u v || ((g.red u.toNat v.toNat).valid && r.covers (16 * u + reg.fx) (16 * v + reg.fy))
      some { x := x, y := y, cls := k, d := d, hit := hit, sat := p.sat, stitch := p.stitch,
             edge := (offsets 1).any (fun o => !good (x + o.1) (y + o.2)), reg := reg }

/-- The over-pixels of a tile. -/
def tileOver (g : PageView) (r : RefView) (t : SieveTab) (reg : TileReg) (tx ty : Nat) : List OverPix :=
  (g.tilePx tx ty).filterMap (fun p => overAt g r t reg p.1 p.2)

/-- Two over-pixels of one class touch. -/
def OverPix.touches (a b : OverPix) : Bool :=
  a.cls == b.cls && decide (((a.x : Int) - b.x).natAbs ≤ 1) && decide (((a.y : Int) - b.y).natAbs ≤ 1)

/-- Blobs by 8-connectivity (R294). -/
def blobsOf (l : List OverPix) : List (List OverPix) :=
  l.foldl (fun (bs : List (List OverPix)) p =>
    let q := bs.partition (fun b => b.any p.touches)
    (p :: q.1.flatten) :: q.2) []

/-- Raster order. -/
def OverPix.before (a b : OverPix) : Bool := decide (a.y < b.y) || (a.y == b.y && decide (a.x < b.x))

/-- The lowest line of a blob. -/
def lowestLine (b : List OverPix) : Nat := (b.map (·.y)).foldl max 0

/-- Blobs with their pixels in raster order, in raster order of their first pixel. -/
def orderBlobs (bs : List (List OverPix)) : List (List OverPix) :=
  sortBy (fun a b => match a, b with | p :: _, q :: _ => p.before q | _, _ => false) (bs.map (sortBy OverPix.before))

/-- A defect record (R295) of a blob in raster order. -/
def defectRecord (page index : Nat) (b : List OverPix) : List Byte :=
  match b with
  | [] => []
  | p :: _ =>
    let xs := b.map (·.x)
    let ys := b.map (·.y)
    let xl := xs.foldl min p.x
    let yl := ys.foldl min p.y
    let peakOf := fun c => (b.map (fun q => (q.d.getD c 0).natAbs)).foldl max 0
    let peak := ((List.range 4).map peakOf).foldl max 0
    let c := ((List.range 4).find? (fun c => peakOf c == peak)).getD 0
    let mean := divRound (16 * (b.map (fun q => q.d.getD c 0)).sum) b.length
    let merged := b.any (fun q => q.x / 128 != p.x / 128 || q.y / 128 != p.y / 128)
    let flags := b2n merged + 2 * b2n (b.any (·.reg.coarse)) + 4 * b2n (b.any (·.reg.predicted)) + 8 * b2n (b.any (·.sat)) +
      16 * b2n (b.any (·.stitch)) + 32 * b2n (decide (mean < 0)) + 64 * b2n (b.any (·.edge))
    le 4 page ++ le 2 index ++ le 1 p.cls ++ le 1 flags ++ le 4 xl ++ le 4 yl ++ le 2 (min 0xFFFF (xs.foldl max 0 + 1 - xl)) ++
      le 2 (min 0xFFFF (ys.foldl max 0 + 1 - yl)) ++ le 4 b.length ++
      le 1 (mkBits 4 (fun i => b.any (fun q => q.hit.getD i false))) ++ le 1 peak ++ leS 2 mean ++ leS 2 p.reg.fx ++ leS 2 p.reg.fy

/-! ## Tongs (R298, R299) -/

/-- The measurement of a window (R298). BG is rounded to nearest (log entry 41). -/
def measureMark (g : PageView) (w : TongsWin) : Mark :=
  let rows := (List.range w.wh).map (fun j => (j, g.cut (w.y0 + j) w.x0 w.ww))
  let px := rows.flatMap (fun r => r.2.zipIdx.map (fun x => (x.2, r.1, x.1)))
  let frame := fun (i j : Nat) => decide (i < 4) || decide (w.ww ≤ i + 4) || decide (j < 4) || decide (w.wh ≤ j + 4)
  let fr := px.filter (fun p => frame p.1 p.2.1)
  let bg := divRound ((fr.map (fun p => p.2.2.v.getD w.ch 0)).sum : Nat) fr.length
  let ws := px.filterMap (fun p =>
    let k := bg - (p.2.2.v.getD w.ch 0 : Nat)
    if p.2.2.defpix.getD w.ch false || p.2.2.sat.getD w.ch false || decide (k < w.contrast) || decide (k ≤ 0) then none
    else some (w.x0 + p.1, w.y0 + p.2.1, k.toNat, frame p.1 p.2.1))
  let sw : Int := ((ws.map (fun p => p.2.2.1)).sum : Nat)
  let dead := (px.filter (fun p => p.2.2.defpix.getD w.ch false)).length
  let found := decide (w.minPx ≤ ws.length)
  { status := if px.length < 2 * dead then 3 else if !found then 1 else if ws.any (·.2.2.2) then 2 else 0,
    x := if found then divRound (256 * ((ws.map (fun p => p.2.2.1 * p.1)).sum : Nat)) sw else 0,
    y := if found then divRound (256 * ((ws.map (fun p => p.2.2.1 * p.2.1)).sum : Nat)) sw else 0 }

/-- The mark was found. -/
def Mark.found (m : Mark) : Bool := m.status == 0 || m.status == 2

/-- A position in 1/256 pixel in 0.1 um (R298). -/
def toTenths (r : Nat) (v : Int) : Int := divRound (v * 254000) (256 * r)

/-- A mark record (R300). -/
def markRecord (b : Board) (page ix : Nat) (w : TongsWin) (m : Mark) : List Byte :=
  le 4 page ++ le 1 0 ++ le 1 ix ++ le 1 m.status ++ le 1 w.group ++
    leS 4 (if m.found then toTenths b.dpi m.x else 0) ++ leS 4 (if m.found then toTenths b.lpi m.y else 0)

/-- A registration record (R299, R300) of member window `ix`; `ref` are the marks of the page that its reference window is taken
from. -/
def regRecord (b : Board) (page ix : Nat) (wins : List TongsWin) (grp : TongsGroup) (marks ref : SMap Mark) (w : TongsWin) :
    List Byte :=
  let m := sget Mark.reset ix marks
  let ri := ((List.range wins.length).find? (fun i =>
    match wins[i]? with | some x => x.group == w.group && !x.member | none => false)).getD 0
  let r := sget Mark.reset ri ref
  let ok := m.found && r.found
  let rx := if grp.kind = 1 then grp.mirrorX - toTenths b.dpi r.x else toTenths b.dpi r.x
  le 4 page ++ le 1 1 ++ le 1 ix ++ le 1 (b2n !ok) ++ le 1 w.group ++
    leS 4 (if ok then toTenths b.dpi m.x - rx - w.nomDx else 0) ++
    leS 4 (if ok then toTenths b.lpi m.y - toTenths b.lpi r.y - w.nomDy else 0)

/-! ## Ladle (R302 to R304) -/

/-- The mean of a channel over lines Y0 to Y0 + 15 of a column lies below the threshold (R302). -/
def belowBar (g : PageView) (t : LadleStrip) (u : Nat) : Bool :=
  decide ((((g.lines.drop t.y0).take 16).map (fun o => ((o.cut u 1).headD OutPix.none).v.getD t.ch 0)).sum < t.barThr * 16)

/-- The start bar of a strip (R302): the column at which it ends. -/
def findBar (g : PageView) (t : LadleStrip) : Option Nat :=
  let below := fun u => decide (u < t.x0 + t.search) && belowBar g t u
  match (List.range' t.x0 t.search).find? (fun u => (List.range 4).all (fun i => below (u + i))) with
  | none => none
  | some b => (List.range' (b + 4) (t.x0 + t.search - (b + 4))).find? (fun u => !below u)

/-- Running figures of one channel of a patch (R303). -/
structure PatchAcc where
  count : Nat
  sum   : Nat
  sq    : Nat
  min_  : Nat
  max_  : Nat
  ovf   : Bool

/-- One sample joins the figures. -/
def PatchAcc.add (sh : Nat) (a : PatchAcc) (x : Nat) : PatchAcc :=
  let top := 2 ^ 48 - 1
  let q := (x / 2 ^ sh) * (x / 2 ^ sh)
  { count := min top (a.count + 1), sum := min top (a.sum + x), sq := min top (a.sq + q),
    min_ := if a.count = 0 then x else min a.min_ x, max_ := max a.max_ x,
    ovf := a.ovf || decide (top < a.count + 1) || decide (top < a.sum + x) || decide (top < a.sq + q) }

/-- Some flag excludes the pixel (R303). -/
def OutPix.flagged (p : OutPix) : Bool := p.defpix.any id || p.sat.any id

/-- The samples of a patch: groups of `k` consecutive lines of a column, none where a pixel of the group is excluded. A group
that the last lines do not fill is not taken (log entry 42). -/
def patchSamples (g : PageView) (x w y h k : Nat) : List (Option (List Nat)) :=
  (List.range (h / k)).flatMap (fun j => (List.range w).map (fun i =>
    let px := (List.range k).flatMap (fun d => g.cut (y + k * j + d) (x + i) 1)
    if px.any OutPix.flagged then none
    else some ((List.range 4).map (fun c =>
      let s := (px.map (fun p => p.v.getD c 0)).sum
      if k = 1 then s else s * 16 / k))))

/-- The record of a patch (R304). `open_` gives MIN and MAX of a channel without a sample, which the manual does not state. -/
def patchRecord (g : PageView) (t : LadleStrip) (integrate : Bool) (page strip i bar : Nat) (open_ : Nat) : List Byte :=
  let x := bar + t.gap + i * t.pitch / 64 + t.margin
  let w := t.pw - 2 * t.margin
  let y := t.y0 + t.margin
  let h := t.y1 + 1 - t.y0 - 2 * t.margin
  let k := if integrate then t.integ else 1
  let ss := if integrate then
      (patchSamples g x w y h k).map (fun o => if k = 1 then o.map (fun l => l.map (· * 16)) else o)
    else patchSamples g x w y h 1
  let accs := (List.range 4).map (fun c =>
    ss.foldl (fun (a : PatchAcc) o => match o with | some l => a.add t.sqSh (l.getD c 0) | none => a)
      { count := 0, sum := 0, sq := 0, min_ := open_ % 2 ^ 24, max_ := open_ / 2 ^ 24 % 2 ^ 24, ovf := false })
  let fixMax := fun (a : PatchAcc) (c : Nat) =>
    if a.count = 0 then a.max_ else (ss.filterMap (fun o => o.map (fun l => l.getD c 0))).foldl max 0
  le 4 page ++ le 1 strip ++ le 1 (b2n (accs.any (·.ovf)) + 2 * b2n integrate) ++ le 2 i ++ le 4 x ++ le 4 y ++ le 2 w ++ le 2 h ++
    le 4 (ss.filter (·.isNone)).length ++ le 1 (if integrate then t.integ else 1) ++ le 1 t.sqSh ++ List.replicate 6 0 ++
    accs.zipIdx.flatMap (fun a => le 6 a.1.count ++ le 6 a.1.sum ++ le 6 a.1.sq ++ le 3 a.1.min_ ++ le 3 (fixMax a.1 a.2))

/-! ## Preview (R306) -/

/-- A cell of the Preview: the mean of a channel over `n` x `n` pixels without DEFPIX, in 8 bits. -/
def previewCell (g : PageView) (col0 width n c i j : Nat) : Nat :=
  let px := (List.range n).flatMap (fun b => (g.cut (n * j + b) (col0 + n * i) (min n (width - n * i))).filterMap (fun p =>
    if p.defpix.getD c false then none else some (p.v.getD c 0)))
  if px.isEmpty then 0 else to8 ((px.sum + px.length / 2) / px.length)

/-- Rows of cells in an MCU row: 8, or 16 with subsampled colour (R306). -/
def mcuRows (t : PreviewTab) : Nat := if t.colour then 16 else 8

/-- The 8-bit values of the cells of an MCU row: by channel, the lines of cells that the page has there. -/
def previewRow (g : PageView) (t : PreviewTab) (n row : Nat) : List (List (List Nat)) :=
  match g.lines.head? with
  | none => []
  | some o =>
    let chs := if t.colour then [0, 1, 2] else [t.pvCh]
    let have_ := divUp g.lines.length n - mcuRows t * row
    chs.map (fun c => (List.range (min (mcuRows t) have_)).map (fun j =>
      (List.range (divUp o.pix.length n)).map (fun i => previewCell g o.col0 o.pix.length n c i (mcuRows t * row + j))))

end Sys2Proof.Machine
end

