-- ==== Sys2Proof/Machine/Jpeg.lean ====
section
/-! DEFINITION. The baseline JPEG of the Preview (R305, R306; ISO/IEC 10918-1 with the tables of its Annex K, JFIF 1.02). -/

namespace Sys2Proof.Machine

/-! ## Tables -/

/-- The numbers from `a` to `b`. -/
def upTo (a b : Nat) : List Nat := List.range' a (b + 1 - a)

/-- Runs of consecutive numbers. -/
def runsOf (l : List (Nat × Nat)) : List Nat := l.flatMap (fun x => upTo x.1 x.2)

/-- The quantisation tables of Annex K.1 in zig-zag order: luminance, chrominance. -/
def quantLum : List Nat :=
  [16, 11, 12, 14, 12, 10, 16, 14, 13, 14, 18, 17, 16, 19, 24, 40, 26, 24, 22, 22, 24, 49, 35, 37, 29, 40, 58, 51, 61, 60, 57, 51] ++
  [56, 55, 64, 72, 92, 78, 64, 68, 87, 69, 55, 56, 80, 109, 81, 87, 95, 98, 103, 104, 103, 62, 77, 113, 121, 112, 100, 120, 92, 101] ++
  [103, 99]
@[inherit_doc quantLum] def quantChr : List Nat :=
  [17, 18, 18, 24, 21, 24, 47, 26, 26, 47, 99, 66, 56, 66] ++ List.replicate 50 99

/-- The two tables in force: those loaded, or those of Annex K (R305). -/
def quantOf (qt : Option (List Byte)) : List Nat × List Nat :=
  match qt with
  | some b => ((b.take 64).map (·.toNat), ((b.drop 64).take 64).map (·.toNat))
  | none => (quantLum, quantChr)

/-- A Huffman table: how many codes there are of each length from 1 to 16, and their symbols in order. -/
structure HuffTab where
  counts : List Nat
  vals   : List Nat

/-- Table K.3, luminance DC. -/
def huffDcLum : HuffTab := { counts := [0, 1, 5] ++ List.replicate 6 1 ++ List.replicate 7 0, vals := List.range 12 }

/-- Table K.4, chrominance DC. -/
def huffDcChr : HuffTab := { counts := [0, 3] ++ List.replicate 9 1 ++ List.replicate 5 0, vals := List.range 12 }

/-- Table K.5, luminance AC. -/
def huffAcLum : HuffTab :=
  { counts := [0, 2, 1, 3, 3, 2, 4, 3, 5, 5, 4, 4, 0, 0, 1, 125]
    vals := upTo 0x01 0x03 ++ [0x00, 0x04, 0x11, 0x05, 0x12, 0x21, 0x31, 0x41, 0x06, 0x13, 0x51, 0x61, 0x07, 0x22, 0x71] ++
      [0x14, 0x32, 0x81, 0x91, 0xA1, 0x08, 0x23, 0x42, 0xB1, 0xC1, 0x15, 0x52, 0xD1, 0xF0, 0x24, 0x33, 0x62, 0x72, 0x82] ++
      runsOf [(0x09, 0x0A), (0x16, 0x1A), (0x25, 0x2A), (0x34, 0x3A)] ++ (upTo 4 8).flatMap (fun h => upTo (16 * h + 3) (16 * h + 10)) ++
      (upTo 9 13).flatMap (fun h => upTo (16 * h + 2) (16 * h + 10)) ++ runsOf [(0xE1, 0xEA), (0xF1, 0xFA)] }

/-- Table K.6, chrominance AC. -/
def huffAcChr : HuffTab :=
  { counts := [0, 2, 1, 2, 4, 4, 3, 4, 7, 5, 4, 4, 0, 1, 2, 119]
    vals := upTo 0x00 0x03 ++ [0x11, 0x04, 0x05, 0x21, 0x31, 0x06, 0x12, 0x41, 0x51, 0x07, 0x61, 0x71, 0x13, 0x22, 0x32, 0x81] ++
      [0x08, 0x14, 0x42, 0x91, 0xA1, 0xB1, 0xC1, 0x09, 0x23, 0x33, 0x52, 0xF0, 0x15, 0x62, 0x72, 0xD1, 0x0A, 0x16, 0x24, 0x34] ++
      [0xE1, 0x25, 0xF1] ++ runsOf [(0x17, 0x1A), (0x26, 0x2A), (0x35, 0x3A)] ++
      (upTo 4 7).flatMap (fun h => upTo (16 * h + 3) (16 * h + 10)) ++ (upTo 8 15).flatMap (fun h => upTo (16 * h + 2) (16 * h + 10)) }

/-! ## Coding -/

/-- A number in `n` bits, most significant first. -/
def msb (n v : Nat) : List Bool := (List.range n).map (fun i => bit v (n - 1 - i))

/-- The code of the symbol at index `i` (Annex C): `code` is the first code of length `len`. -/
def huffCode : List Nat → Nat → Nat → Nat → List Bool
  | [], _, _, _ => []
  | n :: l, len, code, i => if i < n then msb len (code + i) else huffCode l (len + 1) (2 * (code + n)) (i - n)

/-- The code of a symbol. -/
def HuffTab.code (t : HuffTab) (v : Nat) : List Bool := huffCode t.counts 1 0 (t.vals.idxOf v)

/-- The category of a value: how many bits its magnitude has. -/
def category (v : Int) : Nat := if v = 0 then 0 else Nat.log2 v.natAbs + 1

/-- The bits that follow a category. -/
def extra (v : Int) : List Bool :=
  let n := category v
  msb n (if 0 ≤ v then v.toNat else (v + 2 ^ n - 1).toNat)

/-- The AC coefficients of a block, with the zeros seen so far. -/
def codeAc (t : HuffTab) : Nat → List Int → List Bool
  | 0, [] => []
  | _ + 1, [] => t.code 0x00
  | z, v :: l =>
    if v = 0 then codeAc t (z + 1) l
    else (List.replicate (z / 16) (t.code 0xF0)).flatten ++ t.code (16 * (z % 16) + category v) ++ extra v ++ codeAc t 0 l

/-- A block of 64 zig-zag coefficients after the DC value of the block before it. -/
def codeBlock (dc ac : HuffTab) (prev : Int) (b : List Int) : List Bool :=
  let d := clampI (-2047) 2047 (b.headD 0 - prev)
  dc.code (category d) ++ extra d ++ codeAc ac 0 (b.drop 1)

/-- Coded bits as bytes: filled up with 1-bits, a zero byte after each 0xFF. -/
def stuffed (bs : List Bool) : List Byte :=
  let n := divUp bs.length 8
  (chunks 8 n (bs ++ List.replicate (8 * n - bs.length) true)).flatMap (fun g =>
    let v := g.foldl (fun a x => 2 * a + b2n x) 0
    if v = 0xFF then [0xFF#8, 0#8] else [BitVec.ofNat 8 v])

/-! ## Components -/

/-- A plane: lines of samples. -/
abbrev Plane := List (List Int)

/-- A sample of a plane; beyond its edges the last column and line go on (A.2.4). -/
def planeAt (p : Plane) (x y : Nat) : Int :=
  let l := p.getD (min y (p.length - 1)) []
  l.getD (min x (l.length - 1)) 0

/-- The 8 x 8 samples of a block. -/
def blockOf (p : Plane) (bx by_ : Nat) : List Int :=
  (List.range 8).flatMap (fun j => (List.range 8).map (fun i => planeAt p (8 * bx + i) (8 * by_ + j)))

/-- The JFIF equations on R, G and B, rounded and limited to 8 bits. -/
def toYcc (r g b : Int) : List Int :=
  [divRound (2990 * r + 5870 * g + 1140 * b) 10000,
   divRound (-1687 * r - 3313 * g + 5000 * b) 10000 + 128,
   divRound (5000 * r - 4187 * g - 813 * b) 10000 + 128].map (clampI 0 255)

/-- A plane at half the size: means of 2 x 2 samples, rounded to nearest (DEDUCED: log entry 86). -/
def halved (w h : Nat) (p : Plane) : Plane :=
  (List.range (divUp h 2)).map (fun j => (List.range (divUp w 2)).map (fun i =>
    divRound (planeAt p (2 * i) (2 * j) + planeAt p (2 * i + 1) (2 * j) + planeAt p (2 * i) (2 * j + 1) +
      planeAt p (2 * i + 1) (2 * j + 1)) 4))

/-- The quantised zig-zag coefficients of a block: what ISO/IEC 10918-1 leaves to the accuracy of the coder is open, within its limits. -/
def coefsOf (q : List Nat) (b : List Int) : List Int :=
  let c := Config.quantised (b.map (· - 128)) q
  (List.range 64).map (fun i => clampI (-1023) 1023 (c.getD i 0))

/-- The blocks of an MCU row in coding order: component, and place in its plane. -/
def mcuBlocks (colour : Bool) (mcus : Nat) : List (Nat × Nat × Nat) :=
  (List.range mcus).flatMap (fun k =>
    if colour then [(0, 2 * k, 0), (0, 2 * k + 1, 0), (0, 2 * k, 1), (0, 2 * k + 1, 1), (1, k, 0), (2, k, 0)] else [(0, k, 0)])

/-- The coded bytes of an MCU row from its cells by channel: one restart interval (R305). -/
def jpegRow (colour : Bool) (qt : Option (List Byte)) (cells : List (List (List Nat))) : List Byte :=
  let q := quantOf qt
  let h := (cells.headD []).length
  let w := ((cells.headD []).headD []).length
  let at_ := fun (c x y : Nat) => (((cells.getD c []).getD y []).getD x 0 : Int)
  let ycc := fun (k : Nat) => (List.range h).map (fun y => (List.range w).map (fun x => (toYcc (at_ 0 x y) (at_ 1 x y) (at_ 2 x y)).getD k 0))
  let planes : List Plane := if colour then [ycc 0, halved w h (ycc 1), halved w h (ycc 2)] else [(cells.headD []).map (fun l => l.map Int.ofNat)]
  let mcus := divUp w (if colour then 16 else 8)
  let out := (mcuBlocks colour mcus).foldl (fun (r : List Bool × List Int) b =>
    let cs := coefsOf (if b.1 = 0 then q.1 else q.2) (blockOf (planes.getD b.1 []) b.2.1 b.2.2)
    let bits_ := if b.1 = 0 then codeBlock huffDcLum huffAcLum (r.2.getD 0 0) cs else codeBlock huffDcChr huffAcChr (r.2.getD b.1 0) cs
    (r.1 ++ bits_, r.2.set b.1 (cs.headD 0))) ([], [0, 0, 0])
  stuffed out.1

/-! ## Markers -/

/-- A number with its most significant byte first. -/
def be2 (v : Nat) : List Byte := [BitVec.ofNat 8 (v / 256), BitVec.ofNat 8 v]

/-- A marker segment. -/
def segment (code : Nat) (bs : List Byte) : List Byte := [0xFF#8, BitVec.ofNat 8 code] ++ be2 (2 + bs.length) ++ bs

/-- Tables under one marker, in one segment or in one each, which is open. -/
def tablesOf (code : Nat) (l : List (List Byte)) : List Byte :=
  if Config.jpegOneSegment then segment code l.flatten else l.flatMap (segment code)

/-- The entry of a Huffman table. -/
def HuffTab.entry (t : HuffTab) (tc th : Nat) : List Byte := le 1 (16 * tc + th) ++ t.counts.flatMap (le 1) ++ t.vals.flatMap (le 1)

/-- SOI to SOS of a JPEG (R305, R306). Whether a grey image carries the tables that it does not use is open, and so are units and density
of its APP0. -/
def jpegHead (colour : Bool) (qt : Option (List Byte)) (w lines : Nat) : List Byte :=
  let q := quantOf qt
  let both := colour || Config.jpegGreyTables
  let qs := (0, q.1) :: (if both then [(1, q.2)] else [])
  let hs := [huffDcLum.entry 0 0, huffAcLum.entry 1 0] ++ (if both then [huffDcChr.entry 0 1, huffAcChr.entry 1 1] else [])
  let comps := if colour then [[1#8, 0x22#8, 0#8], [2#8, 0x11#8, 1#8], [3#8, 0x11#8, 1#8]] else [[1#8, 0x11#8, 0#8]]
  let scan := if colour then [[1#8, 0x00#8], [2#8, 0x11#8], [3#8, 0x11#8]] else [[1#8, 0x00#8]]
  [0xFF#8, 0xD8#8] ++
    segment 0xE0 ([0x4A#8, 0x46#8, 0x49#8, 0x46#8, 0#8, 1#8, 2#8] ++ (List.range 5).map Config.jfifDensity ++ [0#8, 0#8]) ++
    tablesOf 0xDB (qs.map (fun x => le 1 x.1 ++ x.2.flatMap (le 1))) ++
    segment 0xC0 ([8#8] ++ be2 lines ++ be2 w ++ le 1 comps.length ++ comps.flatten) ++ tablesOf 0xC4 hs ++
    segment 0xDD (be2 (divUp w (if colour then 16 else 8))) ++ segment 0xDA (le 1 scan.length ++ scan.flatten ++ [0#8, 63#8, 0#8])

/-- A JPEG from the coded MCU rows: RSTn between them, EOI after the last. -/
def jpegOf (colour : Bool) (qt : Option (List Byte)) (w lines : Nat) (rows : List (List Byte)) : List Byte :=
  jpegHead colour qt w lines ++
    rows.zipIdx.flatMap (fun r => (if r.2 = 0 then [] else [0xFF#8, BitVec.ofNat 8 (0xD0 + (r.2 - 1) % 8)]) ++ r.1) ++ [0xFF#8, 0xD9#8]

end Sys2Proof.Machine
end

