-- ==== Sys2Proof/Machine/Sha.lean ====
section
/-! DEFINITION. The hash function that the chain of page summaries (R315, R317) and Trivet (R586) use: SHA-256 of FIPS 180-4, the
constants computed from the primes and the message schedule kept as a window that slides with the rounds. -/

namespace Sys2Proof.Machine

/-- The floor of the `k`-th root of `v`, from `r` on, by its `n` low bits from the highest down. -/
def rootFrom (k v : Nat) : Nat → Nat → Nat
  | 0, r => r
  | n + 1, r => rootFrom k v n (if (r + 2 ^ n) ^ k ≤ v then r + 2 ^ n else r)

/-- The first 32 bits of the fractional part of the `k`-th root of a number below 2,048, for the square and the cube root. -/
def rootBits (k p : Nat) : BitVec 32 := BitVec.ofNat 32 (rootFrom k (p * 2 ^ (32 * k)) 38 0)

/-- The primes up to the 64th: what no number up to 17, the root of 311, divides. -/
def shaPrimes : List Nat :=
  (List.range' 2 310).filter (fun n => [2, 3, 5, 7, 11, 13, 17].all (fun d => n == d || n % d != 0))

/-- The constants of the 64 rounds. -/
def shaCubes : List (BitVec 32) := shaPrimes.map (rootBits 3)

/-- The working variables before the first block. -/
def shaStart : List (BitVec 32) := (shaPrimes.take 8).map (rootBits 2)

/-- Three rotations of a word, added bit by bit. -/
def spin (i j k : Nat) (x : BitVec 32) : BitVec 32 := x.rotateRight i ^^^ x.rotateRight j ^^^ x.rotateRight k

/-- The working variables `v` and the window `w` of the next 16 words of the schedule, oldest first. -/
structure ShaState where
  v : List (BitVec 32)
  w : List (BitVec 32)
  deriving DecidableEq, Repr

/-- One round with its constant: the oldest word of the window is used, and the word 16 places on joins it. -/
def ShaState.turn (x : ShaState) (k : BitVec 32) : ShaState :=
  let v := fun i => x.v.getD i 0
  let w := fun i => x.w.getD i 0
  let choice := v 6 ^^^ (v 4 &&& (v 5 ^^^ v 6))
  let most := (v 0 &&& v 1) ||| (v 2 &&& (v 0 ||| v 1))
  let t := v 7 + spin 6 11 25 (v 4) + choice + k + w 0
  let low := (w 1).rotateRight 7 ^^^ (w 1).rotateRight 18 ^^^ w 1 >>> 3
  let high := (w 14).rotateRight 17 ^^^ (w 14).rotateRight 19 ^^^ w 14 >>> 10
  { v := (t + spin 2 13 22 (v 0) + most) :: x.v.take 3 ++ (v 3 + t) :: (x.v.drop 4).take 3,
    w := x.w.drop 1 ++ [w 0 + low + w 9 + high] }

/-- `n` bytes of a number, most significant first. -/
def be (n v : Nat) : List Byte := (le n v).reverse

/-- The rounds of one block of 64 bytes, added to the variables before it. -/
def shaFold (v : List (BitVec 32)) (block : List Byte) : List (BitVec 32) :=
  let w := (chunks 4 16 block).map (fun b => BitVec.ofNat 32 (leVal b.reverse))
  v.zipWith (· + ·) (shaCubes.foldl ShaState.turn { v := v, w := w }).v

/-- SHA-256: a message of `8 * n` bits is followed by a one, by zeros up to 8 bytes before the end of a block, and by its length. -/
def sha256 (bs : List Byte) : List Byte :=
  let n := bs.length
  let msg := bs ++ [0x80] ++ List.replicate (63 - (n + 8) % 64) 0 ++ be 8 (8 * n)
  ((chunks 64 (msg.length / 64) msg).foldl shaFold shaStart).flatMap (fun x => be 4 x.toNat)

end Sys2Proof.Machine
end

