-- ==== Sys2Proof/Machine/Services.lean ====
section
/-! DEFINITION. The staging commands of the Services family, their table images, and the decoder of the Reference Raster Format
(chapter "Inspection services: Sieve, Tongs, Ladle, Preview and Crop", R570). -/

namespace Sys2Proof.Machine

/-! ## Staging (R276 to R278, R289, R293, R297, R301, R305, R307, R314, R626) -/

/-- A Sieve class and a region from the payload (R570), each with whether it is in range. -/
def sieveClassOf (b : List Byte) : SieveClass × Bool :=
  ({ thr := (b.take 4).map (·.toNat), minArea := zeroIs 1 (rd b 4 2), ignore := rd b 6 1 == 1 }, decide (rd b 6 1 ≤ 1) && rd b 7 1 == 0)
@[inherit_doc sieveClassOf] def sieveRegionOf (b : List Byte) : SieveRegion × Bool :=
  ({ x0 := rd b 0 4, y0 := rd b 4 4, x1 := rd b 8 4, y1 := rd b 12 4, cls := rd b 16 1 },
   decide (1 ≤ rd b 16 1) && decide (rd b 16 1 ≤ 15) && rd b 17 3 == 0)

/-- SV_SIEVE_STAGE (R293, R314). -/
def takeSvSieveStage (h : Hdr) (nclass nregion : BitVec 8) (flagMad : BitVec 16) (s : State) : State :=
  let n := nclass.toNat
  let m := nregion.toNat
  s.take h 0x0604 [.s] true (some (8 * n + 20 * m)) (decide (n ≤ 16) && decide (flagMad.toNat ≤ 1020)) (fun s =>
    s.staging (.svSieveStage h nclass nregion flagMad) h [0x0604] (fun s =>
      let b := s.payload h
      let cs := (chunks 8 n b).map sieveClassOf
      let rs := (chunks 20 m (b.drop (8 * n))).map sieveRegionOf
      if cs.all (·.2) && rs.all (·.2) then
        .ok [] [] (s.stage 0x0604 (fun t =>
          { t with sv := { t.sv with sieve := { classes := cs.map (·.1), regions := rs.map (·.1), flagMad := flagMad.toNat } } }))
      else .fail cRange [] s))

/-- SV_SIEVE_STAGE. -/
def execSvSieveStage (h : Hdr) (nclass nregion : BitVec 8) (flagMad : BitVec 16) (s : State) :
    Host.Outcome State Fault Refusal := (takeSvSieveStage h nclass nregion flagMad s).out

/-- A Tongs window and a group from the payload (R570), each with whether it is in range (R297, R299). -/
def tongsWinOf (ry : Nat) (b : List Byte) : TongsWin × Bool :=
  let y0 := rd b 4 4
  let ww := rd b 8 2
  let wh := rd b 10 2
  let g := rd b 28 1
  ({ x0 := rd b 0 4, y0 := y0, ww := ww, wh := wh, ch := rd b 12 1, isGlobal := rd b 13 1 == 1, contrast := rd b 14 2,
     minPx := rd b 16 2, refX := rdS b 20 4, refY := rdS b 24 4, group := g, member := rd b 29 1 == 1, nomDx := rdS b 32 4,
     nomDy := rdS b 36 4 },
   decide (16 ≤ ww) && decide (ww ≤ 512) && decide (16 ≤ wh) && decide (wh ≤ 512) && decide (rd b 12 1 ≤ 3) && decide (rd b 13 1 ≤ 1) &&
     decide (1 ≤ rd b 16 2) && rd b 18 2 == 0 && (decide (g ≤ 15) || g == 0xFF) && decide (rd b 29 1 ≤ 1) && rd b 30 2 == 0 &&
     (rd b 13 1 == 0 || decide (y0 + wh ≤ 4096 * ry)))
@[inherit_doc tongsWinOf] def tongsGroupOf (b : List Byte) : TongsGroup × Bool :=
  ({ group := rd b 0 1, kind := rd b 1 1, backLag := rd b 2 1, mirrorX := rdS b 4 4 },
   decide (rd b 0 1 ≤ 15) && decide (rd b 1 1 ≤ 1) && rd b 3 1 == 0 &&
     (rd b 1 1 == 0 || (decide (1 ≤ rd b 2 1) && decide (rd b 2 1 ≤ 15))))

/-- Every group has one reference window and at most 8 windows (R278, R297). -/
def groupsOk (ws : List TongsWin) (gs : List TongsGroup) : Bool :=
  (List.range 16).all (fun g =>
    let own := ws.filter (fun w => w.group == g)
    decide (own.length ≤ 8) &&
      ((own.isEmpty && !gs.any (fun x => x.group == g)) || (own.filter (fun w => !w.member)).length == 1))

/-- RX and RY of R288. -/
def rxOf (b : Board) : Nat := max 1 (b.dpi / 600)
@[inherit_doc rxOf] def ryOf (b : Board) : Nat := max 1 (b.lpi / 600)

/-- SV_TONGS_STAGE (R289, R297, R299). -/
def takeSvTongsStage (h : Hdr) (nwin ngroup : BitVec 8) (s : State) : State :=
  let n := nwin.toNat
  let m := ngroup.toNat
  s.take h 0x0605 [.s] true (some (40 * n + 8 * m)) (decide (n ≤ 64) && decide (m ≤ 16)) (fun s =>
    s.staging (.svTongsStage h nwin ngroup) h [0x0605] (fun s =>
      let b := s.payload h
      let ws := (chunks 40 n b).map (tongsWinOf (ryOf s.board))
      let gs := (chunks 8 m (b.drop (40 * n))).map tongsGroupOf
      if ws.all (·.2) && gs.all (·.2) && groupsOk (ws.map (·.1)) (gs.map (·.1)) then
        .ok [] [] (s.stage 0x0605 (fun t =>
          { t with sv := { t.sv with tongs := { wins := ws.map (·.1), groups := gs.map (·.1) } } }))
      else .fail cRange [] s))

/-- SV_TONGS_STAGE. -/
def execSvTongsStage (h : Hdr) (nwin ngroup : BitVec 8) (s : State) : Host.Outcome State Fault Refusal :=
  (takeSvTongsStage h nwin ngroup s).out

/-- A Ladle strip from the payload (R570), with whether it is in range (R278, R301). -/
def ladleStripOf (b : List Byte) : LadleStrip × Bool :=
  let i := rd b 17 1
  ({ x0 := rd b 0 4, search := rd b 4 2, y0 := rd b 8 4, y1 := rd b 12 4, ch := rd b 16 1, integ := i, barThr := rd b 18 2,
     gap := rd b 20 2, npatch := rd b 22 2, pitch := rd b 24 4, pw := rd b 28 2, margin := rd b 30 1, sqSh := rd b 31 1,
     marked := rd b 32 1 == 1 },
   rd b 6 2 == 0 && decide (rd b 16 1 ≤ 3) && [1, 2, 4, 8, 16].contains i && decide (1 ≤ rd b 22 2) && decide (rd b 22 2 ≤ 256) &&
     decide (rd b 31 1 ≤ 8) && decide (rd b 32 1 ≤ 1) && rd b 33 3 == 0)

/-- SV_LADLE_STAGE (R301). -/
def takeSvLadleStage (h : Hdr) (nstrip : BitVec 8) (s : State) : State :=
  let n := nstrip.toNat
  s.take h 0x0606 [.s] true (some (36 * n)) (decide (n ≤ 8)) (fun s =>
    s.staging (.svLadleStage h nstrip) h [0x0606] (fun s =>
      let xs := (chunks 36 n (s.payload h)).map ladleStripOf
      if xs.all (·.2) then .ok [] [] (s.stage 0x0606 (fun t => { t with sv := { t.sv with ladle := xs.map (·.1) } }))
      else .fail cRange [] s))

/-- SV_LADLE_STAGE. -/
def execSvLadleStage (h : Hdr) (nstrip : BitVec 8) (s : State) : Host.Outcome State Fault Refusal := (takeSvLadleStage h nstrip s).out

/-- SV_PREVIEW_STAGE (R305, R306). -/
def takeSvPreviewStage (h : Hdr) (colour pvCh qt : BitVec 8) (s : State) : State :=
  s.take h 0x0607 [.s] true (some (if qt = 1 then 128 else 0))
    (decide (colour.toNat ≤ 1) && decide (pvCh.toNat ≤ 3) && decide (qt.toNat ≤ 1)) (fun s =>
    s.staging (.svPreviewStage h colour pvCh qt) h [0x0607] (fun s =>
      let b := s.payload h
      .ok [] [] (s.stage 0x0607 (fun t =>
        { t with sv := { t.sv with preview := { colour := colour == 1, pvCh := pvCh.toNat,
                                                qt := if qt = 1 then some b else t.sv.preview.qt } } }))))

/-- SV_PREVIEW_STAGE. -/
def execSvPreviewStage (h : Hdr) (colour pvCh qt : BitVec 8) (s : State) : Host.Outcome State Fault Refusal :=
  (takeSvPreviewStage h colour pvCh qt s).out

/-- A crop from 20 bytes (R570), with whether it is in range (R264). -/
def cropOf (b : List Byte) : CropReq × Bool :=
  ({ x := rd b 0 4, y := rd b 4 4, w := rd b 8 4, h := rd b 12 4, pf := rd b 16 1, chMask := rd b 17 1 },
   decide (rd b 16 1 ≤ 3) && decide (rd b 17 1 < 16) && rd b 18 2 == 0)

/-- SV_CROP_STAGE (R307, R652). -/
def takeSvCropStage (h : Hdr) (ncrop : BitVec 8) (s : State) : State :=
  let n := ncrop.toNat
  s.take h 0x0608 [.s] true (some (20 * n)) (decide (n ≤ 16)) (fun s =>
    s.staging (.svCropStage h ncrop) h [0x0608] (fun s =>
      let xs := (chunks 20 n (s.payload h)).map cropOf
      let f := fun (t : Tables) => { t with sv := { t.sv with crops := xs.map (·.1) } }
      if !xs.all (·.2) then .fail cRange [] s
      else if s.fitsRing (f s.shadowView) then .ok [] [] (s.stage 0x0608 f) else .fail cResource [] s))

/-- SV_CROP_STAGE. -/
def execSvCropStage (h : Hdr) (ncrop : BitVec 8) (s : State) : Host.Outcome State Fault Refusal := (takeSvCropStage h ncrop s).out

/-- DIAG_SV_BYPASS (R626). -/
def takeDiagSvBypass (h : Hdr) (mask : BitVec 8) (s : State) : State :=
  s.take h 0x0F01 [.s] true (some 0) (decide (mask.toNat < 32)) (fun s =>
    s.staging (.diagSvBypass h mask) h [0x0F01] (fun s =>
      .ok [] [] (s.stage 0x0F01 (fun t => { t with sv := { t.sv with bypass := mask.extractLsb' 0 5 } }))))

/-- DIAG_SV_BYPASS. -/
def execDiagSvBypass (h : Hdr) (mask : BitVec 8) (s : State) : Host.Outcome State Fault Refusal := (takeDiagSvBypass h mask s).out

/-! ## Table images (R315, R562)

The image of a table is the value parameters of its staging command, laid out at their offsets from byte 16 on and padded to
48 bytes, where it has any, then the payload (log entry 43). -/

/-- The image of the Sieve table. -/
def SieveTab.image (t : SieveTab) : List Byte :=
  padTo 48 0 (le 1 t.classes.length ++ le 1 t.regions.length ++ le 2 t.flagMad) ++
    t.classes.flatMap (fun c => (List.range 4).flatMap (fun i => le 1 (c.thr.getD i 0)) ++ le 2 c.minArea ++ le 1 (b2n c.ignore) ++ le 1 0) ++
    t.regions.flatMap (fun q => le 4 q.x0 ++ le 4 q.y0 ++ le 4 q.x1 ++ le 4 q.y1 ++ le 1 q.cls ++ le 3 0)

/-- The image of the Tongs table. -/
def TongsTab.image (t : TongsTab) : List Byte :=
  padTo 48 0 (le 1 t.wins.length ++ le 1 t.groups.length) ++
    t.wins.flatMap (fun w => le 4 w.x0 ++ le 4 w.y0 ++ le 2 w.ww ++ le 2 w.wh ++ le 1 w.ch ++ le 1 (b2n w.isGlobal) ++ le 2 w.contrast ++
      le 2 w.minPx ++ le 2 0 ++ leS 4 w.refX ++ leS 4 w.refY ++ le 1 w.group ++ le 1 (b2n w.member) ++ le 2 0 ++ leS 4 w.nomDx ++
      leS 4 w.nomDy) ++
    t.groups.flatMap (fun g => le 1 g.group ++ le 1 g.kind ++ le 1 g.backLag ++ le 1 0 ++ leS 4 g.mirrorX)

/-- The image of the Ladle table. -/
def ladleImage (l : List LadleStrip) : List Byte :=
  padTo 48 0 (le 1 l.length) ++ l.flatMap (fun t => le 4 t.x0 ++ le 2 t.search ++ le 2 0 ++ le 4 t.y0 ++ le 4 t.y1 ++ le 1 t.ch ++
    le 1 t.integ ++ le 2 t.barThr ++ le 2 t.gap ++ le 2 t.npatch ++ le 4 t.pitch ++ le 2 t.pw ++ le 1 t.margin ++ le 1 t.sqSh ++
    le 1 (b2n t.marked) ++ le 3 0)

/-- The image of the Preview table. -/
def PreviewTab.image (t : PreviewTab) : List Byte :=
  padTo 48 0 (le 1 (b2n t.colour) ++ le 1 t.pvCh ++ le 1 (b2n t.qt.isSome)) ++ t.qt.getD []

/-- The image of the static crops. -/
def cropsImage (l : List CropReq) : List Byte :=
  padTo 48 0 (le 1 l.length) ++
    l.flatMap (fun c => le 4 c.x ++ le 4 c.y ++ le 4 c.w ++ le 4 c.h ++ le 1 c.pf ++ le 1 c.chMask ++ le 2 0)

/-- The service tables in ascending opcode (R276, R315). -/
def SvTabs.image (t : SvTabs) : List Byte :=
  t.sieve.image ++ t.tongs.image ++ ladleImage t.ladle ++ t.preview.image ++ cropsImage t.crops

/-! ## The Reference Raster Format (R279 to R283) -/

/-- The bits of some bytes, most significant first. -/
def bitsOf (bs : List Byte) : List Bool := bs.flatMap (fun b => (List.range 8).map (fun i => b.getLsbD (7 - i)))

/-- A field of `n` bits, most significant first. -/
def takeBits : Nat → Nat → List Bool → Option (Nat × List Bool)
  | 0, v, bs => some (v, bs)
  | _ + 1, _, [] => none
  | n + 1, v, b :: bs => takeBits n (2 * v + b2n b) bs

/-- The one-bits before a zero-bit, or `fuel` of them without one (R282). -/
def countOnes : Nat → Nat → List Bool → Option (Nat × List Bool)
  | 0, q, bs => some (q, bs)
  | _ + 1, _, [] => none
  | f + 1, q, b :: bs => if b then countOnes f (q + 1) bs else some (q, bs)

/-- Rice(k) (R282). -/
def rice (k : Nat) (bs : List Bool) : Option (Nat × List Bool) :=
  match countOnes 16 0 bs with
  | none => none
  | some (q, r) => if q = 16 then takeBits 8 0 r else (takeBits k 0 r).map (fun x => (q * 2 ^ k + x.1, x.2))

/-- The zero-bits before a one-bit, which is kept. -/
def countZeros : List Bool → Nat × List Bool
  | false :: bs => let r := countZeros bs; (r.1 + 1, r.2)
  | bs => (0, bs)

/-- The values m of a channel-line of `n` pixels still to come (R282); each step takes one token. -/
def lineMs (k : Nat) (run : Bool) : Nat → Nat → List Bool → Option (List Nat × List Bool)
  | _, 0, bs => some ([], bs)
  | 0, _ + 1, _ => none
  | f + 1, n + 1, bs =>
    if !run then
      match rice k bs with
      | none => none
      | some (m, r) => (lineMs k run f n r).map (fun x => (m :: x.1, x.2))
    else
      match bs with
      | [] => none
      | true :: r =>
        match rice k r with
        | none => none
        | some (m, r) => (lineMs k run f n r).map (fun x => (m :: x.1, x.2))
      | false :: r =>
        let z := countZeros r
        match takeBits (z.1 + 1) 0 z.2 with
        | none => none
        | some (l, r) => if n + 1 < l then none else (lineMs k run f (n + 1 - l) r).map (fun x => (List.replicate l 0 ++ x.1, x.2))

/-- The prediction of R281. -/
def predictPx (pred a b c : Nat) : Nat :=
  match pred with
  | 0 => 0
  | 1 => a
  | 2 => b
  | _ => if max a b ≤ c then min a b else if c ≤ min a b then max a b else a + b - c

/-- The pixels of a channel-line from its values m and the line above (R281). -/
def unfoldLine (pred : Nat) : Nat → Nat → List Nat → List Nat → List Nat
  | _, _, _, [] => []
  | a, c, up, m :: ms =>
    let b := up.headD 0
    let e : Int := if m % 2 = 0 then m / 2 else 256 - (m + 1) / 2
    let x := ((predictPx pred a b c + e) % 256).toNat
    x :: unfoldLine pred x b (up.drop 1) ms

/-- One channel-line: its pixels and the bytes after it; `up` is empty on the first line of a band. -/
def decodeLine (width : Nat) (up : List Nat) (bs : List Byte) : Option (List Nat × List Byte) :=
  match bs with
  | [] => none
  | hdr :: rest =>
    let h := hdr.toNat
    let bits_ := bitsOf rest
    if bits h 6 2 != 0 then none
    else
      match lineMs (bits h 2 3) (bit h 5) (width + 1) width bits_ with
      | none => none
      | some (ms, r) =>
        let used := bits_.length - r.length
        let pad := (8 - used % 8) % 8
        if (r.take pad).any id then none else some (unfoldLine (bits h 0 2) 0 0 up ms, rest.drop ((used + 7) / 8))

/-- The four channel-lines of a line: the pixels by channel and the bytes after them, or the bytes left where it fails. -/
def decodeRow (width : Nat) : Nat → List (List Nat) → List Byte → Except Nat (List (List Nat) × List Byte)
  | 0, _, bs => .ok ([], bs)
  | n + 1, ups, bs =>
    match decodeLine width (ups.headD []) bs with
    | none => .error bs.length
    | some (x, r) => (decodeRow width n (ups.drop 1) r).map (fun y => (x :: y.1, y.2))

/-- The lines of a band. -/
def decodeBand (width : Nat) : Nat → List (List Nat) → List Byte → Except Nat (List (List (List Nat)) × List Byte)
  | 0, _, bs => .ok ([], bs)
  | n + 1, ups, bs =>
    match decodeRow width 4 ups bs with
    | .error e => .error e
    | .ok (x, r) => (decodeBand width n x r).map (fun y => (x :: y.1, y.2))

/-- Channel-lines to pixels of four channels. -/
def weave (width : Nat) (l : List (List Nat)) : List (List Nat) :=
  (List.range width).map (fun x => l.map (fun c => c.getD x 0))

/-- The bands from number `i` on (R280); the byte offset of the first error (R283). -/
def decodeBands (width height nb : Nat) : Nat → Nat → Nat → List Byte → Except Nat (List (List (List Nat)))
  | 0, _, _, _ => .ok []
  | n + 1, i, off, bs =>
    let len := rd bs 4 4
    let body := (bs.drop 16).take len
    if rd bs 0 4 != i || bs.length < 16 then .error off
    else if rd bs 12 4 != 0 then .error (off + 12)
    else if body.length < len then .error (off + 4)
    else if (crc32c 0 body).toNat != rd bs 8 4 then .error (off + 8)
    else
      match decodeBand width (if i + 1 = nb then height - 128 * (nb - 1) else 128) [] body with
      | .error left => .error (off + 16 + (len - left))
      | .ok (rows, rest) =>
        if !rest.isEmpty then .error (off + 16 + (len - rest.length))
        else (decodeBands width height nb n (i + 1) (off + 16 + len) (bs.drop (16 + len))).map (fun y => rows ++ y)

/-- A stream (R279 to R283): width, height, PAGE_ID and rows of pixels, or the byte offset of the error (log entry 44). -/
def decodeRrf (bs : List Byte) : Except Nat (Nat × Nat × Nat × List (List (List Nat))) :=
  let w := rd bs 8 4
  let h := rd bs 12 4
  let nb := rd bs 24 4
  if bs.length < 64 then .error bs.length
  else if rd bs 0 4 != 0x31465252 then .error 0
  else if rd bs 4 1 != 1 then .error 4
  else if rd bs 5 1 != 4 then .error 5
  else if rd bs 6 2 != 0 then .error 6
  else if w = 0 || decide (131072 < w) then .error 8
  else if h = 0 || decide (16777216 < h) then .error 12
  else if nb != divUp h 128 then .error 24
  else if (bs.drop 28).take 32 != List.replicate 32 0 then .error 28
  else if (crc32c 0 (bs.take 60)).toNat != rd bs 60 4 then .error 60
  else (decodeBands w h nb nb 0 64 (bs.drop 64)).map (fun rows => (w, h, rd bs 16 8, rows.map (weave w)))

end Sys2Proof.Machine
end

