-- ==== Sys2Proof/Machine/SvJobs.lean ====
section
/-! DEFINITION. Service jobs: references, pages, units of work under Simmer's budgets, records, summaries and the chain (R273 to
R275, R284 to R287, R307 to R318, R443). -/

namespace Sys2Proof.Machine

/-! ## The job and its pages -/

/-- Change the active job. -/
def State.setJob (f : Job → Job) (s : State) : State := { s with sv := { s.sv with job := s.sv.job.map f } }

/-- A page of the job. -/
def State.svPage (k : Nat) (s : State) : Option SvPage := s.sv.job.bind (fun j => j.pages.find? (fun p => p.seq == k))

/-- The page number `n` pages on (R275). -/
def pageAfter (pg n : Nat) : Nat := (pg + n) % 0xFFFFFFFF

/-- Change a page of the job. -/
def State.setPage (k : Nat) (f : SvPage → SvPage) (s : State) : State :=
  s.setJob (fun j => { j with pages := j.pages.map (fun p => if p.seq == k then f p else p) })

/-- The page as the computations of the services see it. -/
def Job.view (j : Job) (b : Board) (p : SvPage) : PageView := { x0 := j.x0, rx := rxOf b, ry := ryOf b, lines := p.lines }

/-- Progress of a service on a page. -/
def SvPage.at (p : SvPage) (k : Nat) : SvProg := p.prog.getD k .off

/-- A service is in progress on a page (R312). -/
def SvPage.going (p : SvPage) (k : Nat) : Bool := p.at k == .going

/-- A unit is over, done or skipped. -/
def SvPage.over (p : SvPage) (u : SvUnit) : Bool := p.finished.contains u || p.lost.contains u

/-- A page of a mode is run by a service (R277). -/
def Mode.serves (m : Mode) (k : Nat) : Bool := if m == .patchMeasure then k == 1 || k == 2 else m.isRun

/-- The PART flag of a service on a page, with its event (R312, R472, R626). -/
def State.svPart (pg k : Nat) (s : State) : State :=
  match s.svPage pg with
  | some p => (s.setPage pg (fun p => { p with part := p.part.set k true })).pulseIf (!p.part.getD k false) (103 + k)
  | none => s

/-- A record goes to the result queue of a service. -/
def State.svRecord (k : Nat) (bs : List Byte) (s : State) : State :=
  match s.sv.job with
  | some j => s.pushHard (j.queues.getD k 0) bs
  | none => s

/-- A result queue holds back its service (R312). -/
def State.svHeld (k : Nat) (s : State) : Bool :=
  match s.sv.job with
  | some j => !(sget [] (j.queues.getD k 0) s.pantry.held).isEmpty
  | none => false

/-! ## The crop share (R308, R461) -/

/-- Data channels in service, as R308 and R477 count them. -/
def State.servCh (s : State) : Nat :=
  if s.dram.resilient then (if s.dram.rebuild.isSome then 6 else 7) else (setBits 8 s.dram.chOk.toNat).length

/-- The sustained rate of the DRAM in bytes/s (R308). -/
def State.sustained (s : State) : ℚ := 115200000000 * s.servCh / 8 * s.board.dataRate / 9600

/-- The speed ceiling or request in force in line/s (R403, R447). -/
def State.ceilLines (s : State) : Option ℚ :=
  if s.mode.mode == .sheetScan then
    some ((s.ceiling s.active : ℚ) / 16 * 4294967296 / max 1 s.active.ltSrc.div.toNat)
  else if s.simmer.speedReq then some ((s.simmer.vEntry.natAbs : ℚ) / 16 * s.simmer.ceil / 4096)
  else none

/-- L of R308 in line/s. -/
def State.lineBound (s : State) : ℚ :=
  let l : ℚ := 1000000000 / max 1 s.tMin
  match s.ceilLines with
  | some c => min l c
  | none => l

/-- Bytes per output pixel of a crop format (R308), in quarters. -/
def cropQuarters (pf mask : Nat) : Nat :=
  (chans (BitVec.ofNat 8 mask)).length * (if pf % 2 = 0 then 8 else 4) + (if 2 ≤ pf then 1 else 0)

/-- A_max (R308) for a largest reference width. The crop format is that of the static crop with the most bytes per pixel, or the
product's without one (log entry 45). -/
def State.aMaxOf (width : Nat) (sieve : Bool) (s : State) : Nat :=
  let t := s.active
  let m := s.board.member
  let taps := fun (ps : List Nat) => ((ps.map (fun p => (enabledOf t p).length)).sum : Nat)
  let slots := ((timedDies m t).map (fun k => dieLen s.banks t k / 4)).foldl max 0
  let l := s.lineBound
  let lref := l * 600 / max 1 s.board.lpi
  let q := if t.sv.crops.isEmpty then cropQuarters t.product.pf.toNat t.product.chMask.toNat
           else (t.sv.crops.map (fun c => cropQuarters c.pf c.chMask)).foldl max 0
  let stag : ℚ := 3 * (taps (rowPorts m t false) : ℚ) * slots * l
  let ref : ℚ := width * 4 * lref * 138 / 128
  let sv : ℚ := if sieve then width * 8 * lref else 0
  let full : ℚ := 2 * ((taps (List.range m.ports) : ℚ) * slots * l) * (q : ℚ) / 16
  if full ≤ 0 then 100
  else (clampI 0 100 (100 * (s.sustained - stag - ref - sv - 25600000000) / full).floor).toNat

/-- What A_max is computed anew for when it changes (R308): the line-rate bound and the DRAM channels in service. The data rate is fixed. -/
def State.aMaxKey (s : State) : List Nat :=
  [s.tMin, s.servCh] ++
    (if s.mode.mode == .sheetScan then [1, s.ceiling s.active, s.active.ltSrc.div.toNat]
     else if s.simmer.speedReq then [2, s.simmer.vEntry.natAbs, s.simmer.ceil] else [0])

/-- A_max is computed where one of these has changed (R308). The tables change at a swap only, before and after which this is asked. -/
def State.aMaxTrack (s : State) : State :=
  s.setJob (fun j => if j.aKey == s.aMaxKey then j else { j with aKey := s.aMaxKey, aMax := s.aMaxOf j.width (j.en.getLsbD 0) })

/-- A_max in force; 0 without a job. -/
def State.aMax (s : State) : Nat :=
  match s.aMaxTrack.sv.job with
  | some j => j.aMax
  | none => 0

/-! ## References and working data in DRAM (R285, R287, R288, R456) -/

/-- Bytes of a reference slot (R285): the page at 4 bytes a pixel and the pyramid at 2 bytes a cell. -/
def slotBytes (w h : Nat) : Nat := up64 (4 * w * h) + up64 (2 * divUp w 8 * divUp h 8)

/-- Where the slot of a reference begins (R285). -/
def State.slotAt (j : Job) (k : Nat) (s : State) : Nat := s.winAddr j.refWin (k * slotBytes j.width j.height)

/-- What the slot of a decoded reference holds: the page line by line, and after the room for the largest page the pyramid. -/
def State.refView (r : RefSub) (s : State) : RefView :=
  match s.sv.job with
  | none => { width := 0, height := 0, rows := [], pyr := [] }
  | some j =>
    let a := s.slotAt j r.slot
    let line := fun (y : Nat) => (chunks 4 r.width (memRead (a + 4 * r.width * y) (4 * r.width) s.dram.mem)).map (fun px => px.map (·.toNat))
    let cells := divUp r.width 8 * divUp r.height 8
    { width := r.width, height := r.height, rows := (List.range r.height).map line,
      pyr := (chunks 2 cells (memRead (a + up64 (4 * j.width * j.height)) (2 * cells) s.dram.mem)).map leVal }

/-- A slot that no reference holds, if there is one: a decoded one waiting for its page, or one that Sieve works with. -/
def Job.freeSlot (j : Job) : Option Nat :=
  let used := (j.refs.filter (fun r => r.state == .decoded)).map (·.slot) ++
    ((j.pages.filter (fun p => p.going 0)).filterMap (fun p => p.ref.map (·.slot)))
  (List.range j.slots).find? (fun k => !used.contains k)

/-- A decoded reference is written to its slot on the SIEVE port (R285, R456). -/
def State.slotWrite (j : Job) (k w h : Nat) (rows : List (List (List Nat))) (s : State) : State :=
  let a := s.slotAt j k
  (s.dramWrite 6 a (rows.flatMap (fun l => l.flatMap (fun px => px.map (BitVec.ofNat 8))))).dramWrite 6
    (a + up64 (4 * j.width * j.height)) ((pyramid w h rows).flatMap (le 2))

/-- The band of reference lines for a tile row with median `m` is fetched on RT_REF, each line at full WIDTH (R287, R291). -/
def State.bandFetch (r : RefSub) (ty : Nat) (m : Int) (s : State) : State :=
  match s.sv.job with
  | none => s
  | some j =>
    let first := (128 * (ty : Int) + m - 5).toNat
    let last := min (r.height : Int) (128 * (ty : Int) + m + 133)
    s.dramReq 3 false (s.slotAt j r.slot + 4 * r.width * first) (4 * r.width * (last.toNat - first))

/-- Working data of a service unit is written or read on its port; no rule says where it lies. -/
def State.svIo (port : Nat) (write : Bool) (page unit n : Nat) (s : State) : State := s.dramReq port write (64 * Config.svBlock port page unit) n

/-- A tile's number on its page. -/
def tileKey (tx ty : Nat) : Nat := 65536 * ty + tx

/-- The reduced tiles of a tile row are written on the SIEVE port (R288, R310). -/
def State.reducedOut (j : Job) (p : SvPage) (ty : Nat) (s : State) : State :=
  if !p.going 0 then s
  else (List.range (j.view s.board p).tilesX).foldl (fun (s : State) tx => s.svIo 6 true p.seq (tileKey tx ty) 65536) s

/-! ## Defects (R294 to R296) -/

/-- Over-pixels of the tile rows below a bound, tiles skipped giving none. -/
def overRows (g : PageView) (p : SvPage) (r : RefView) (rows : Nat) : List OverPix :=
  (List.range rows).flatMap (fun ty => (List.range g.tilesX).flatMap (fun tx =>
    if p.finished.contains (.tile (BitVec.ofNat 32 p.seq) tx ty) then
      tileOver g r p.tabs.sieve (sget TileReg.none (tileKey tx ty) p.regs) tx ty
    else []))

/-- A defect is numbered and, up to the limit, stored (R296). -/
def State.defect (pg : Nat) (b : List OverPix) (s : State) : State :=
  match s.svPage pg with
  | none => s
  | some p =>
    let s1 := s.setPage pg (fun p => { p with found := p.found + 1, stored := min 4096 (p.found + 1) })
    if p.found < 4096 then s1.svRecord 0 (defectRecord pg p.found b) else s1.pulseIf (p.found == 4096) 99

/-- The blobs whose lowest line lies in tile row `row` are complete (R294), with tile rows below `rows` labelled. -/
def State.emitBlobs (pg row rows : Nat) (s : State) : State :=
  match s.sv.job, s.svPage pg with
  | some j, some p =>
    match p.ref with
    | none => s
    | some r =>
      let g := j.view s.board p
      let bs := (blobsOf (overRows g p (s.refView r) rows)).filter (fun b =>
        lowestLine b / 128 == row && (match b with | q :: _ => decide ((p.tabs.sieve.cls q.cls).minArea ≤ b.length) | [] => false))
      (orderBlobs bs).foldl (fun (s : State) b => s.defect pg b) s
  | _, _ => s

/-- The Sieve of a page is over: its REJECT_OUT pulse is due where there is one (R567). -/
def State.judge (pg : Nat) (s : State) : State :=
  match s.svPage pg with
  | some p =>
    if p.judged || p.isOpen || p.at 0 == .off || p.going 0 then s
    else
      let s1 := s.setPage pg (fun p => { p with judged := true })
      if s.active.io.fev15 == 1 && decide (s.active.io.rejMin ≤ p.found) then
        { s1 with sv := { s1.sv with rejects := s1.sv.rejects ++ [p.lastPos + s.active.io.rejDist] } }
      else s1
  | none => s

/-! ## Ends of services on a page (R312) -/

/-- A service on a page ends. -/
def State.svSet (pg k : Nat) (x : SvProg) (s : State) : State := s.setPage pg (fun p => { p with prog := p.prog.set k x })

/-- The records of a Ladle page in patch order (R304): of each strip as far as its patches are over without a gap, or to the end. MIN and
MAX of a patch without a sample are not stated. -/
def State.ladleOut (pg : Nat) (last : Bool) (s : State) : State :=
  match s.sv.job, s.svPage pg with
  | some j, some p =>
    let g := j.view s.board p
    p.tabs.ladle.zipIdx.foldl (fun (s : State) t =>
      match (p.bars.find? (fun b => b.1 == t.2)).bind (·.2) with
      | none => s
      | some bar =>
        let unit := fun (i : Nat) => SvUnit.patch (BitVec.ofNat 32 pg) t.2 i
        let from_ := sget 0 t.2 p.patchOut
        let upto := if last then t.1.npatch else ((List.range t.1.npatch).takeWhile (fun i => p.over (unit i))).length
        let ready := (List.range' from_ (upto - from_)).filter (fun i => p.finished.contains (unit i))
        (ready.foldl (fun (s : State) i =>
          let f := s.free 48
          (f.2.setPage pg (fun p => { p with patches := p.patches + 1 })).svRecord 2
            (patchRecord g t.1 (p.mode == .patchMeasure) pg t.2 i bar f.1)) s).setPage pg
          (fun p => { p with patchOut := sset 0 t.2 upto p.patchOut })) s
  | _, _ => s

/-- A service on a page is closed early: its remaining units are skipped, and the blobs labelled so far are complete. -/
def State.svCut (pg k : Nat) (s : State) : State :=
  match s.svPage pg with
  | some p =>
    if !p.going k then s
    else
      let s1 := ((if k = 2 then s.ladleOut pg true else s).svSet pg k .closed).svPart pg k
      if k = 0 then (if p.rowsOut = 0 then s1 else s1.emitBlobs pg (p.rowsOut - 1) p.rowsOut).judge pg else s1
  | none => s

/-- A third page opens for a service: the older of two in progress is closed (R312). -/
def State.svCrowd (k : Nat) (s : State) : State :=
  match s.sv.job with
  | some j =>
    match j.pages.filter (fun p => p.going k) with
    | p :: _ :: _ => s.svCut p.seq k
    | _ => s
  | none => s

/-- Tile rows of Sieve whose tiles are all over are labelled (R294). -/
def State.sieveRows (pg : Nat) : Nat → State → State
  | 0, s => s
  | n + 1, s =>
    match s.sv.job, s.svPage pg with
    | some j, some p =>
      let g := j.view s.board p
      let ty := p.rowsOut
      let all := (List.range g.tilesX).all (fun tx => p.over (.tile (BitVec.ofNat 32 pg) tx ty))
      let there := if p.isOpen then decide (128 * (ty + 1) ≤ g.height) else decide (ty < g.tilesY)
      if there && all then
        let s1 := s.setPage pg (fun p => { p with rowsOut := ty + 1 })
        State.sieveRows pg n (if ty = 0 then s1 else s1.emitBlobs pg (ty - 1) (ty + 1))
      else s
    | _, _ => s

/-- Sieve's progress on a page. -/
def State.sieveGo (pg : Nat) (s : State) : State :=
  match s.sv.job, s.svPage pg with
  | some j, some p =>
    if !p.going 0 then s
    else
      let n := (j.view s.board p).tilesY
      let s1 := s.sieveRows pg (n + 1)
      match s1.svPage pg with
      | some q =>
        if !q.isOpen && decide (n ≤ q.rowsOut) then
          (((if n = 0 then s1 else s1.emitBlobs pg (n - 1) n).svSet pg 0 .complete).judge pg)
        else s1
      | none => s1
  | _, _ => s

/-- The marks of an earlier page; page numbers wrap (R275). -/
def State.marksOf (pg : Nat) (s : State) : SMap Mark :=
  match s.svPage pg, s.sv.job with
  | some p, _ => p.marks
  | none, some j => ((j.past.find? (fun x => x.1 == pg)).map (·.2)).getD []
  | none, none => []

/-- Tongs's progress on a page: once every window is over, the registration records (R299, R300). -/
def State.tongsGo (pg : Nat) (s : State) : State :=
  match s.svPage pg with
  | some p =>
    let ws := p.tabs.tongs.wins
    if !p.going 1 || !(List.range ws.length).all (fun i => p.over (.window (BitVec.ofNat 32 pg) i)) then s
    else
      let s1 := ws.zipIdx.foldl (fun (s : State) w =>
        if w.1.group = 0xFF || !w.1.member then s
        else
          let grp := (p.tabs.tongs.groups.find? (fun x => x.group == w.1.group)).getD
            { group := w.1.group, kind := 0, backLag := 0, mirrorX := 0 }
          let ref := if grp.kind = 1 then s.marksOf ((pg + 0xFFFFFFFF - grp.backLag) % 0xFFFFFFFF) else p.marks
          s.svRecord 1 (regRecord s.board pg w.2 ws grp p.marks ref w.1)) s
      s1.svSet pg 1 .complete
  | none => s

/-- The patches of the strips that Ladle has looked at. -/
def SvPage.patchUnits (p : SvPage) : List SvUnit :=
  p.tabs.ladle.zipIdx.flatMap (fun t =>
    match (p.bars.find? (fun b => b.1 == t.2)).bind (·.2) with
    | some _ => (List.range t.1.npatch).map (fun i => SvUnit.patch (BitVec.ofNat 32 p.seq) t.2 i)
    | none => [])

/-- Ladle's progress on a page. -/
def State.ladleGo (pg : Nat) (s : State) : State :=
  match s.svPage pg with
  | some p =>
    if !p.going 2 then s
    else
      let s1 := s.ladleOut pg false
      if !p.isOpen && p.patchUnits.all p.over then s1.svSet pg 2 .complete else s1
  | none => s

/-- Pixels across a Preview cell (R306, R314). -/
def SvPage.cell (p : SvPage) : Nat := if p.decimated then 16 else 8

/-- MCU rows of a closed page. -/
def SvPage.mcuCount (p : SvPage) : Nat := divUp (divUp p.lines.length p.cell) (mcuRows p.tabs.preview)

/-- The JPEGs of a page (R305, R306): one for every 65,520 lines of the Preview. -/
def SvPage.jpegs (p : SvPage) : List Byte :=
  let t := p.tabs.preview
  let w := match p.lines.head? with | some o => divUp o.pix.length p.cell | none => 0
  let lines := divUp p.lines.length p.cell
  let rows := 65520 / mcuRows t
  (List.range (divUp lines 65520)).flatMap (fun i =>
    jpegOf t.colour t.qt w (min 65520 (lines - 65520 * i))
      ((List.range' (rows * i) (min rows (p.mcuCount - rows * i))).map (fun r => sget [] r p.coded)))

/-- Preview's progress on a page: the product is released once the page has closed. -/
def State.previewGo (pg : Nat) (s : State) : State :=
  match s.svPage pg with
  | some p =>
    if p.going 3 && !p.isOpen && (List.range p.mcuCount).all (fun r => p.over (.mcuRow (BitVec.ofNat 32 pg) r)) then
      (s.svRecord 3 p.jpegs).svSet pg 3 .complete
    else s
  | none => s

/-- Crop's progress on a page. -/
def State.cropGo (pg : Nat) (s : State) : State :=
  match s.svPage pg with
  | some p => if p.going 4 && !p.isOpen && !s.svHeld 4 then s.svSet pg 4 .complete else s
  | none => s

/-- Every page of the job is brought up to date. -/
def State.svAdvance (s : State) : State :=
  match s.sv.job with
  | some j => (j.pages.map (·.seq)).foldl (fun (s : State) k => ((((s.tongsGo k).sieveGo k).ladleGo k).previewGo k).cropGo k) s
  | none => s

/-! ## Dispatch (R310, R311, R443) -/

/-- The fit of a page can be made: every GLOBAL window is over, or Tongs has ended (R289). -/
def SvPage.fitReady (p : SvPage) : Bool :=
  !p.going 1 || p.tabs.tongs.wins.zipIdx.all (fun (w : TongsWin × Nat) => !w.1.isGlobal || p.over (.window (BitVec.ofNat 32 p.seq) w.2))

/-- The ready units of a service on a page. -/
def readyUnits (g : PageView) (p : SvPage) (k : Nat) : List SvUnit :=
  let pg := BitVec.ofNat 32 p.seq
  if !p.going k then []
  else
    (match k with
     | 0 =>
       if !p.fitReady then []
       else (List.range g.tilesY).flatMap (fun ty =>
         if p.isOpen && decide (g.height < 128 * (ty + 1)) then [] else (List.range g.tilesX).map (fun tx => SvUnit.tile pg tx ty))
     | 1 => p.tabs.tongs.wins.zipIdx.filterMap (fun (w : TongsWin × Nat) =>
         if p.isOpen && decide (p.lines.length < w.1.y0 + w.1.wh) then none else some (SvUnit.window pg w.2))
     | 2 => p.patchUnits
     | _ => (List.range p.mcuCount).filterMap (fun r =>
         if p.isOpen && decide (p.lines.length < (r + 1) * p.cell * mcuRows p.tabs.preview) then none
         else some (SvUnit.mcuRow pg r))).filter (fun u => !p.issued.contains u)

/-- Ready units in the order of R311; a service whose queue is full waits. -/
def State.svReady (s : State) : List SvUnit :=
  match s.sv.job with
  | some j => [1, 0, 2, 3].flatMap (fun k => if s.svHeld k then [] else j.pages.flatMap (fun p => readyUnits (j.view s.board p) p k))
  | none => []

/-- The page of a unit. -/
def unitPage : SvUnit → Nat
  | .tile p _ _ => p.toNat
  | .window p _ => p.toNat
  | .patch p _ _ => p.toNat
  | .mcuRow p _ => p.toNat

/-- The service of a unit. -/
def unitService : SvUnit → Nat
  | .tile _ _ _ => 0
  | .window _ _ => 1
  | .patch _ _ _ => 2
  | .mcuRow _ _ => 3

/-- What a unit leaves on its page when it is dispatched: the response that its tile row has (R314) and the tile's registration, the coded
MCU row. -/
def SvPage.begin_ (g : PageView) (ref : Option RefView) (stage : Nat) (u : SvUnit) (p : SvPage) : SvPage :=
  match u with
  | .tile _ tx ty =>
    let less := if p.reduced.any (fun x => x.1 == ty) then p.reduced else sput ty (decide (2 ≤ stage)) p.reduced
    let reg := match ref with
      | some r => tileReg g r (fitOf g p.tabs.tongs.wins p.marks) p.tabs.sieve.flagMad (sget false ty less) tx ty
      | none => TileReg.none
    { p with issued := p.issued ++ [u], reduced := less, regs := sput (tileKey tx ty) reg p.regs }
  | .mcuRow _ r =>
    { p with issued := p.issued ++ [u],
             coded := sput r (jpegRow p.tabs.preview.colour p.tabs.preview.qt (previewRow g p.tabs.preview p.cell r)) p.coded }
  | _ => { p with issued := p.issued ++ [u] }

/-- The cost of a unit that is being dispatched (R310): nJ and bytes. -/
def unitCost (p : SvPage) (u : SvUnit) : Nat × Nat :=
  match u with
  | .tile _ tx ty =>
    let x := sget TileReg.none (tileKey tx ty) p.regs
    (if x.coarse || x.predicted then 2500 else 6000, 133376)
  | .window _ _ => (1200, 64)
  | .patch _ _ _ => (800, 128)
  | .mcuRow _ r => (40000, (sget [] r p.coded).length)

/-- The DRAM traffic of a unit that is dispatched (R287, R288, R310, R456): with the first tile of its row the band of the reference, the
reduced tile and its pyramid, the working data of Tongs and Ladle, the bytes of the Preview. -/
def State.unitIo (g : PageView) (p : SvPage) (u : SvUnit) (s : State) : State :=
  match u with
  | .tile _ tx ty =>
    match p.ref with
    | none => s
    | some r =>
      let first := !p.issued.any (fun v => match v with | .tile _ _ y => y == ty | _ => false)
      let v := s.refView r
      let s1 := if first then s.bandFetch r ty (rowMedian g v (fitOf g p.tabs.tongs.wins p.marks) ty) else s
      let pyr := match s.sv.job with | some j => s.slotAt j r.slot + up64 (4 * j.width * j.height) | none => 0
      (s1.svIo 6 false p.seq (tileKey tx ty) 65536).dramReq 6 false (pyr + 32 * (divUp r.width 8 * ty + tx)) 2304
  | .window _ i => s.svIo 7 true p.seq i 64
  | .patch _ k i => s.svIo 7 true p.seq (65536 * (k + 1) + i) 128
  | .mcuRow _ r => s.svIo 8 true p.seq r (sget [] r p.coded).length

/-- A unit is dispatched if both buckets can pay for it (R443). -/
def State.svStart (u : SvUnit) (s : State) : Option State :=
  match s.sv.job, s.svPage (unitPage u) with
  | some j, some p =>
    let g := j.view s.board p
    let q := p.begin_ g (p.ref.map (fun r => s.refView r)) s.simmer.stage u
    let c := unitCost q u
    if c.1 ≤ s.simmer.energy ∧ c.2 ≤ s.simmer.bytes then
      let s1 := s.setPage (unitPage u) (fun _ => { q with stage := max q.stage s.simmer.stage })
      some (({ s1 with simmer := { s1.simmer with energy := s.simmer.energy - c.1, bytes := s.simmer.bytes - c.2 } }).unitIo g
        { q with issued := p.issued } u)
    else none
  | _, _ => some s

/-- Ready units are dispatched until one cannot be paid for; none while no Stockpot pair serves (R17). -/
def State.svDispatch (s : State) : State :=
  if !s.served then s
  else (s.svReady.foldl (fun (r : State × Bool) u =>
    if r.2 then r else match r.1.svStart u with | some s1 => (s1, false) | none => (r.1, true)) (s, false)).1

/-- What a unit that has been done leaves. The records of patches follow in their order. -/
def State.svDone (u : SvUnit) (s : State) : State :=
  match s.sv.job, s.svPage (unitPage u) with
  | some j, some p =>
    let g := j.view s.board p
    let s1 := s.setPage p.seq (fun p => { p with finished := p.finished ++ [u] })
    match u with
    | .window _ i =>
      match p.tabs.tongs.wins[i]? with
      | some w =>
        let m := measureMark g w
        ((s1.setPage p.seq (fun p => { p with marks := sput i m p.marks })).svRecord 1 (markRecord s.board p.seq i w m)).pulseIf
          (!m.found) 100
      | none => s1
    | _ => s1
  | _, _ => s

/-- SERVICE_UNIT_COMPLETE (R443): a unit that has read POISON is skipped (R472). -/
def execServiceUnitComplete (t : Nat) (unit : SvUnit) (poison : Bool) (s : State) : Host.Outcome State Fault Refusal :=
  let s1 := s.atTime t
  (match s1.svPage (unitPage unit) with
   | some p =>
     if !p.issued.contains unit || p.over unit || !p.going (unitService unit) then s1
     else
       let s2 := if poison then (s1.setPage p.seq (fun p => { p with lost := p.lost ++ [unit] })).svPart p.seq (unitService unit)
                 else s1.svDone unit
       s2.svAdvance.svDispatch
   | none => s1).out

/-! ## Pages as they open, fill and close -/

/-- The crops of a page in the order of R309, with their sources. -/
def cropList (t : SvTabs) (ref : Option RefSub) : List CropOut :=
  t.crops.zipIdx.map (fun c => { req := c.1, id := c.2, perPage := false, begun := false }) ++
    (match ref with
     | some r => r.crops.zipIdx.map (fun c => { req := c.1, id := c.2, perPage := true, begun := false })
     | none => [])

/-- Admission (R309): areas in quarter pixels against A_max percent of the page. -/
def admitCrops (limit k : Nat) : Nat → List CropOut → List CropOut
  | _, [] => []
  | used, c :: l =>
    let a := c.req.w * c.req.h * k
    if used + a ≤ limit then c :: admitCrops limit k (used + a) l else []

/-- Lines of a page as R309 counts its area. -/
def pageLines (t : Tables) (m : Mode) : Nat :=
  if m.isWeb then divUp t.ltPage.pageLen 64 else zeroIs 16777216 t.ltPage.maxLen

/-- A page opens (R275, R276, R286, R309, R312): `tr` is the capture whose tag its first line carries. Services take no new page while no
Stockpot pair serves (R17). -/
def State.svOpen (tr : LineRec) (dropped short : Bool) (s0 : State) : State :=
  let s := s0.aMaxTrack
  match s.sv.job with
  | none => s
  | some j =>
    if j.closing || !s.served then s
    else
      let pg := j.nextPage
      let tabs := tr.tabs.sv
      let wanted := fun k => j.en.getLsbD k && tr.mode.serves k && !(dropped && decide (3 ≤ k))
      let ref := j.refs.find? (fun r => r.page == pg)
      let good := ref.filter (fun r => r.state == .decoded)
      let isBad := match ref with | some r => r.state == .bad | none => false
      let late := wanted 0 && good.isNone && !isBad
      let runs := fun k => wanted k && !tabs.bypass.getLsbD k && (k != 0 || good.isSome)
      let s1 := (List.range 5).foldl (fun (s : State) k => if runs k then s.svCrowd k else s) s
      let dec := decide (1 ≤ s.simmer.stage)
      let want := cropList tabs ref
      let unit := if dec then 1 else 4
      let adm := admitCrops (4 * s.aMax * ((laneOf s.board.member tr.tabs).2 * pageLines tr.tabs tr.mode) / 100) unit 0 want
      let page : SvPage :=
        { seq := pg, firstSeq := tr.tag.seq, mode := tr.mode, tabs := tabs, isOpen := true, dropped := dropped,
          seqGap := !dropped && j.gapPages != 0, gapPages := j.gapPages, short := short, lines := [], ref := good,
          refLate := late, refBad := wanted 0 && isBad, close := 0, stage := s.simmer.stage, decimated := dec,
          lead := tr.gate.lead, trail := none, skew := none, lastPos := 0,
          prog := (List.range 5).map (fun k => if runs k then .going else .off), part := List.replicate 5 false, issued := [],
          finished := [], lost := [], reduced := [], fewer := [], rowsOut := 0, found := 0, stored := 0, regs := [], patches := 0,
          noBar := false, bars := [], patchOut := [], marks := [], crops := if runs 4 then adm else [],
          refused := if runs 4 then want.length - adm.length else 0, coded := [], judged := false }
      let s2 := s1.setJob (fun j =>
        { j with nextPage := pageAfter pg 1, wrapped := j.wrapped || pg == 0xFFFFFFFE, pages := j.pages ++ [page],
                 refs := j.refs.filter (fun r => r.page != pg), gapPages := if dropped then j.gapPages + 1 else 0 })
      let s3 := match ref with
        | some r => if r.state == RefState.waiting then s2.done r.ctx (le 4 pg ++ le 1 1 ++ le 3 0 ++ le 4 0) else s2
        | none => s2
      let s4 := (s3.pulseIf late 97).pulseIf (runs 4 && decide (adm.length < want.length)) 102
      (List.range 5).foldl (fun (s : State) k => if wanted k && tabs.bypass.getLsbD k then s.svPart pg k else s) s4

/-- What line `y` of a page does to the strips of Ladle: with its first line a strip gets the response of the stage (R314), with its last,
or line 15 of the search if that comes later, its start bar is looked for (R302). -/
def State.svStrips (pg y : Nat) (s : State) : State :=
  match s.sv.job, s.svPage pg with
  | some j, some p =>
    if !p.going 2 then s
    else
      let g := j.view s.board p
      p.tabs.ladle.zipIdx.foldl (fun (s : State) t =>
        let less := decide (2 ≤ s.simmer.stage) && !t.1.marked
        let s1 := if t.1.y0 = y && less then s.setPage pg (fun p => { p with fewer := p.fewer ++ [t.2] }) else s
        let out := match s1.svPage pg with | some q => q.fewer.contains t.2 | none => true
        if max t.1.y1 (t.1.y0 + 15) != y || out then s1
        else
          match findBar g t.1 with
          | some b => s1.setPage pg (fun p => { p with bars := sput t.2 (some b) p.bars })
          | none => (s1.setPage pg (fun p => { p with bars := sput t.2 none p.bars, noBar := true })).pulse 101) s
  | _, _ => s

/-- The line product of a crop for page line `y` (R307): with DECIM 2 for every second line, its pixels open. -/
def CropOut.line (o : OutLine) (dec : Bool) (y fresh : Nat) (c : CropOut) : Option (List Byte) :=
  let x0 := max c.req.x o.col0
  let x1 := min (c.req.x + c.req.w) (o.col0 + o.pix.length)
  let mask := BitVec.ofNat 8 c.req.chMask
  if y < c.req.y || c.req.y + c.req.h ≤ y || x1 ≤ x0 then none
  else if !dec then some (lineProduct o.tag o.lflags c.req.pf mask x0 (o.cut x0 (x1 - x0)))
  else if (y - c.req.y) % 2 = 1 then none
  else
    let n := divUp (x1 - x0) 2
    let p := lineProduct o.tag o.lflags c.req.pf mask x0 ((List.range n).map (fun i => ((o.cut (x0 + 2 * i) 1).headD OutPix.none)))
    some (p.take 64 ++ padTo (p.length - 64) 0 (Config.freeBytes fresh))

/-- The crop header (R307). -/
def CropOut.header (pg : Nat) (o : OutLine) (dec : Bool) (c : CropOut) : List Byte :=
  let x0 := max c.req.x o.col0
  let x1 := min (c.req.x + c.req.w) (o.col0 + o.pix.length)
  le 4 pg ++ le 2 c.id ++ le 1 (b2n c.perPage) ++ le 1 (if dec then 2 else 1) ++ le 4 x0 ++ le 4 c.req.y ++ le 4 (x1 - x0) ++
    le 4 c.req.h ++ List.replicate 40 0

/-- Simmer charges each 64 KiB of crops written (R310). -/
def State.cropCharge (n : Nat) (s : State) : State :=
  let b := s.sv.cropBytes + n
  let k := b / 65536
  { s with sv := { s.sv with cropBytes := b % 65536 },
           simmer := { s.simmer with energy := s.simmer.energy - 900 * k, bytes := s.simmer.bytes - 131072 * k } }

/-- The crops of the open page take line `y`: the crop line products, for the ring, and what is left. -/
def State.svCrops (pg y : Nat) (o : OutLine) (s : State) : List (List Byte) × State :=
  match s.svPage pg with
  | none => ([], s)
  | some p =>
    p.crops.zipIdx.foldl (fun (r : List (List Byte) × State) c =>
      match c.1.line o p.decimated y r.2.fresh with
      | none => r
      | some bs =>
        let s1 := if p.decimated then { r.2 with fresh := r.2.fresh + 1 } else r.2
        let s2 := if c.1.begun then s1 else
          (s1.setPage pg (fun p => { p with crops := p.crops.set c.2 { c.1 with begun := true } })).svRecord 4 (c.1.header pg o p.decimated)
        (r.1 ++ [bs], (s2.svRecord 4 bs).cropCharge bs.length)) ([], s)

/-- A stitched line joins the open page of the job. -/
def State.svLine (o : OutLine) (s : State) : List (List Byte) × State :=
  match s.sv.job, s.sv.job.bind (fun j => j.pages.find? (·.isOpen)) with
  | some j, some p =>
    let y := p.lines.length
    let q := { p with lines := p.lines ++ [o], stage := max p.stage s.simmer.stage, lastPos := 64 * (o.tag.pitch.toNat : Int) }
    let rows := 128 * ryOf s.board
    let s1 := s.setPage p.seq (fun _ => q)
    let s2 := if (y + 1) % rows = 0 then s1.reducedOut j q (y / rows) else s1
    (s2.svStrips p.seq y).svCrops p.seq y o
  | _, _ => ([], s)

/-- The open page of the job closes (R316, R188). -/
def State.svClose (e : PageEnd) (s : State) : State :=
  match s.sv.job, s.sv.job.bind (fun j => j.pages.find? (·.isOpen)) with
  | some j, some p =>
    let g := j.view s.board p
    let s1 := if g.height % 128 = 0 then s else s.reducedOut j p (g.height / 128)
    (s1.setPage p.seq (fun p =>
      { p with isOpen := false, close := e.code, trail := e.trail, skew := e.skew,
               short := p.short || e.code == 5 || e.code == 7 })).svAdvance
  | _, _ => s

/-! ## Summaries and the chain (R315 to R318) -/

/-- The tiles of a page that Sieve has not done (R312). -/
def tilesSkipped (g : PageView) (p : SvPage) : Nat :=
  if p.at 0 == .off then 0
  else g.tilesX * g.tilesY - (p.finished.filter (fun u => (unitService u) == 0)).length

/-- Tiles with COARSE_ONLY or PREDICTED (R291, R314). -/
def tilesCoarse (p : SvPage) : Nat :=
  (p.finished.filter (fun u =>
    match u with
    | .tile _ tx ty =>
      let x := sget TileReg.none (tileKey tx ty) p.regs
      x.coarse || x.predicted
    | _ => false)).length

/-- A page summary (R316). -/
def summaryOf (j : Job) (g : PageView) (p : SvPage) : List Byte :=
  let f := fitOf g p.tabs.tongs.wins p.marks
  let sieve := p.at 0 != .off
  let tags := p.lines.map (·.tag)
  let vs := tags.map (·.vEst)
  let part := fun k => p.part.getD k false
  let flags := mkBits 19 (fun i => [p.dropped, p.seqGap, p.refLate, p.refBad, sieve && f.none, sieve && f.limited,
    decide (4096 < p.found), part 0, part 1, part 2, part 3, p.refused != 0,
    p.reduced.any (·.2) || !p.fewer.isEmpty, p.decimated, p.short, tags.any (fun t => t.lateNs != 0 || t.skipped != 0),
    p.lines.any (fun o => o.pix.any (·.stitch)), p.noBar, part 4].getD i false)
  let edge := fun (x : Option Int) => match x with | some v => leS 4 v | none => le 4 0xFFFFFFFF
  le 4 p.seq ++ le 4 j.id.toNat ++ le 8 ((p.ref.map (·.pageId)).getD 0) ++ le 4 p.firstSeq.toNat ++ le 4 p.lines.length ++
    le 4 flags ++ le 2 p.gapPages ++ le 2 0 ++ le 4 p.found ++ le 2 p.stored ++ le 2 (tilesSkipped g p) ++ le 2 (tilesCoarse p) ++
    le 1 (p.marks.filter (fun m => m.2.found)).length ++ le 1 (p.marks.filter (fun m => !m.2.found)).length ++ le 2 p.patches ++
    le 1 (p.crops.filter (·.begun)).length ++ le 1 p.refused ++ leS 4 (roundQ (16 * f.tx)) ++ leS 4 (roundQ (16 * f.ty)) ++
    leS 4 (roundQ (1000000 * (f.sx - 1))) ++ leS 4 (roundQ (1000000 * (f.sy - 1))) ++ edge p.lead ++ edge p.trail ++
    (match p.skew with | some v => leS 4 v | none => le 4 0x80000000) ++ leS 4 (vs.headD 0) ++ leS 4 (vs.foldl min (vs.headD 0)) ++
    leS 4 (vs.foldl max (vs.headD 0)) ++ le 1 p.close ++ le 1 p.stage ++ List.replicate 70 0 ++ j.chain

/-- Codes of the lifecycle states (R600). -/
def Lifecycle.code : Lifecycle → Nat
  | .blank => 0 | .vendor => 1 | .provisioned => 2 | .field => 3 | .returned => 4 | .scrap => 5

/-- The signed part of the inspection record (R615). -/
def State.inspection (j : Job) (isEnd : Bool) (s : State) : List Byte :=
  le 4 0x52494C4D ++ le 2 1 ++ le 2 576 ++ padTo 8 0 s.board.serial ++ le 4 j.id.toNat ++ le 4 (j.pushed.getD 0xFFFFFFFF) ++
    le 4 j.count ++ le 1 (b2n isEnd) ++ le 1 s.sec.lifecycle.code ++ le 2 0 ++ j.hash ++ j.chain ++ s.sec.mBody ++ s.sec.dikHash ++
    le 4 s.lt.seq.toNat ++ List.replicate 28 0

/-- A request that a context waits for goes to Trivet; `reqs` keeps the order of arrival, its first 8 being those that Trivet holds
and the rest those that still wait in the Trivet queues (R585). -/
def State.askTrivet (r : TrivetReq) (s : State) : State :=
  ({ s with sec := { s.sec with reqs := s.sec.reqs ++ [r], hashCrossed := if s.sec.reqs.isEmpty then 0 else s.sec.hashCrossed } }).emit
    (.trivetRequest r.opcode r.body)

/-- A closing job whose last summary has been pushed is over (R274): SV_JOB_END waits for the signature, or ends without one
where there is no DIK (R615) or the debug port is open (R607). The chain head of a job that ended by itself is signed as well, for no
command (R274; DEDUCED: log entry 87). -/
def State.svFinish (s : State) : State :=
  match s.sv.job with
  | none => s
  | some j =>
    if !(j.closing && j.pages.isEmpty) then s
    else
      let s1 := { s with sv := { s.sv with job := none } }
      let may := s.sec.dik && !s.sec.debugOpen
      let ask : TrivetReq :=
        { opcode := 0x0601, ctx := j.endCtx.getD 256, body := s.inspection j true, target := b2n j.endCtx.isNone, window := 0, offset := 0 }
      match j.endCtx with
      | none => if may then s1.askTrivet ask else s1
      | some n => if may then s1.askTrivet ask else s1.failWith n (if s.sec.debugOpen then cState else cLifecycle)

/-- The job takes no more pages; the references that wait are discarded with their commands aborted (log entry 46). -/
def State.svEnd (ctx : Option Nat) (s : State) : State :=
  match s.sv.job with
  | none => s
  | some j =>
    let s1 := s.setJob (fun j => { j with closing := true, endCtx := if ctx.isSome then ctx else j.endCtx, refs := [] })
    ((j.refs.filter (fun r => r.state == .waiting)).foldl (fun (s : State) r => s.failWith r.ctx cAborted) s1).svFinish

/-- The summary being pushed has gone into its queue whole: the page leaves the job (R317). -/
def State.summaryDone (s : State) : State :=
  match s.sv.job with
  | none => s
  | some j =>
    match j.summing, j.pages with
    | some bs, p :: rest =>
      if s.svHeld 5 then s
      else
        let s1 := s.setJob (fun j =>
          { j with pages := rest, past := (j.past ++ [(p.seq, p.marks)]).drop (j.past.length - 15), chain := sha256 bs,
                   pushed := some p.seq, count := j.count + 1, summing := none })
        ({ s1 with sv := { s1.sv with lastSum := BitVec.ofNat 32 p.seq } }).svFinish
    | _, _ => s

/-- PAGE_SUMMARY_PUSH (R317): the oldest page, once every service is over, its records are in their queues and the summary queue has
room. -/
def execPageSummaryPush (t : Nat) (s : State) : Host.Outcome State Fault Refusal :=
  let s1 := (s.atTime t).svAdvance
  (match s1.sv.job with
   | none => s1
   | some j =>
     match j.summing, j.pages with
     | some _, _ => s1.summaryDone
     | none, [] => s1.svFinish
     | none, p :: _ =>
       if p.isOpen || p.prog.any (· == SvProg.going) || [0, 1, 2, 5].any (fun k => s1.svHeld k) || !s1.hasRoom (j.queues.getD 5 0) then s1
       else
         let bs := summaryOf j (j.view s1.board p) p
         ((s1.svRecord 5 bs).setJob (fun j => { j with summing := some bs })).summaryDone).out

/-! ## The commands of a job (R273, R274, R284, R318, R571) -/

/-- A queue that SV_JOB_START can name (R273). -/
def isResultQueue (q : Nat) : Bool := decide (768 ≤ q) && decide (q ≤ 2815)

/-- SV_JOB_START (R273, R285, R308, R315, R571, R581). -/
def takeSvJobStart (h : Hdr) (jobId : BitVec 32) (en slots refWindow : BitVec 8) (width height : BitVec 32)
    (qSieve qTongs qLadle qPreview qCrop qSummary : BitVec 16) (x0 : BitVec 32) (s : State) : State :=
  let qs := [qSieve, qTongs, qLadle, qPreview, qCrop, qSummary].map (·.toNat)
  let named := (List.range 6).filterMap (fun k => if k = 5 || en.getLsbD k then qs[k]? else none)
  let sieve := en.getLsbD 0
  s.take h 0x0600 [.j] true (some 0)
    (decide (en.toNat < 32) && decide (2 ≤ slots.toNat) && decide (slots.toNat ≤ 8) && named.all isResultQueue &&
      (!sieve || (decide (1 ≤ width.toNat) && decide (width.toNat ≤ 131072) && decide (1 ≤ height.toNat) &&
        decide (height.toNat ≤ 16777216)))) (fun s =>
    let need := slots.toNat * slotBytes width.toNat height.toNat
    let clash := named.find? (fun q => decide (1 < (named.filter (· == q)).length))
    if s.sv.job.isSome then .fail cState [] s
    else if sieve && (s.win refWindow.toNat).isNone then .fail cState [] s
    else if (en.getLsbD 3 || en.getLsbD 4) && s.active.diagPort != 0xFF then
      .fail cConflict (conflictData 6 0 9 s.active.diagPort) s
    else if clash.isSome then .fail cConflict (conflictData 4 (clash.getD 0) 8 0) s
    else if sieve && !s.winHas refWindow.toNat 0 need then .fail cResource [] s
    else
      let hdr := le 4 jobId.toNat ++ le 4 s.lt.seq.toNat ++ sha256 s.active.sv.image ++ List.replicate 24 0
      let j : Job :=
        { id := jobId, en := en.extractLsb' 0 5, slots := slots.toNat, refWin := refWindow.toNat, width := width.toNat,
          height := height.toNat, queues := (List.range 6).map (fun k => if k = 5 || en.getLsbD k then qs.getD k 0 else 0),
          x0 := x0.toNat, nextPage := 0, refs := [], pages := [], past := [],
          hash := sha256 hdr, chain := sha256 hdr, pushed := none, count := 0, gapPages := 0, closing := false, endCtx := none,
          wrapped := false, aMax := 0, aKey := [], summing := none }
      let s1 := { s with sv := { s.sv with job := some j, lastSum := 0xFFFFFFFF } }
      let s2 := s1.aMaxTrack
      .ok (le 1 s2.aMax) [] (s2.svRecord 5 hdr))

/-- SV_JOB_START. -/
def execSvJobStart (h : Hdr) (jobId : BitVec 32) (en slots refWindow : BitVec 8) (width height : BitVec 32)
    (qSieve qTongs qLadle qPreview qCrop qSummary : BitVec 16) (x0 : BitVec 32) (s : State) : Host.Outcome State Fault Refusal :=
  (takeSvJobStart h jobId en slots refWindow width height qSieve qTongs qLadle qPreview qCrop qSummary x0 s).out

/-- SV_JOB_END (R274, R318). -/
def takeSvJobEnd (h : Hdr) (s : State) : State :=
  s.take h 0x0601 [.j] true (some 0) true (fun s =>
    match s.sv.job with
    | some j => if j.closing then .fail cState [] s else .go (s.svEnd (some h.ctx.toNat))
    | none => .fail cState [] s)

/-- SV_JOB_END. -/
def execSvJobEnd (h : Hdr) (s : State) : Host.Outcome State Fault Refusal := (takeSvJobEnd h s).out

/-- How many pages after the next one a page number stands (R275, R284). -/
def Job.ahead (j : Job) (pg : Nat) : Nat := (pg + 0xFFFFFFFF - j.nextPage) % 0xFFFFFFFF

/-- The page has opened already (R284). After a wrap, a number of the half behind the next page is one that has (DEDUCED: log entry 181). -/
def Job.opened (j : Job) (pg : Nat) : Bool := if j.wrapped then decide (2 ^ 31 ≤ j.ahead pg) else decide (pg < j.nextPage)

/-- The lowest page without a reference that has not opened (R284). -/
def Job.unbound (j : Job) : Nat :=
  (((List.range (j.refs.length + 1)).map (pageAfter j.nextPage)).find? (fun k => !j.refs.any (fun r => r.page == k))).getD j.nextPage

/-- SV_REF_SUBMIT (R278, R284, R652). Crops of the submission that need a longer ring line than the ring has are turned away (R652). -/
def takeSvRefSubmit (h : Hdr) (window ncrops : BitVec 8) (offset length pageSeq : BitVec 32) (s : State) : State :=
  let n := ncrops.toNat
  let cs := (chunks 20 n (s.payload h)).map cropOf
  s.take h 0x0602 [.j] true (some (20 * n)) (decide (n ≤ 16) && cs.all (·.2)) (fun s =>
    match s.sv.job with
    | none => .fail cState [] s
    | some j =>
      let pg := if pageSeq = 0xFFFFFFFF then j.unbound else pageSeq.toNat
      if j.closing || (s.win window.toNat).isNone || j.opened pg then .fail cState [] s
      else if !s.winHas window.toNat offset.toNat length.toNat then .fail cRange [] s
      else if s.hasRing && decide (s.ring.rl < ringLine s.active (cs.map (·.1))) then .fail cResource [] s
      else
        match j.refs.find? (fun r => r.page == pg) with
        | some r => .fail cConflict (conflictData 5 (pg % 2 ^ 24) 0x0A r.ctx) s
        | none =>
          if 64 ≤ (j.refs.filter (fun r => r.state == .waiting)).length then .fail cQueueFull [] s
          else
            let r : RefSub :=
              { ctx := h.ctx.toNat, page := pg, window := window.toNat, offset := offset.toNat, length := length.toNat,
                crops := cs.map (·.1), state := .waiting, pageId := 0, width := 0, height := 0, slot := 0 }
            .go (s.setJob (fun j => { j with refs := insertBy (fun (a b : RefSub) => decide (j.ahead a.page < j.ahead b.page)) r j.refs })))

/-- SV_REF_SUBMIT. -/
def execSvRefSubmit (h : Hdr) (window ncrops : BitVec 8) (offset length pageSeq : BitVec 32) (s : State) :
    Host.Outcome State Fault Refusal := (takeSvRefSubmit h window ncrops offset length pageSeq s).out

/-- SV_CHAIN_SIGN (R318, R615). -/
def takeSvChainSign (h : Hdr) (s : State) : State :=
  s.take h 0x0603 [.j] true (some 0) true (fun s =>
    match s.sv.job with
    | none => .fail cState [] s
    | some j =>
      if s.sec.debugOpen then .fail cState [] s
      else if !s.sec.dik then .fail cLifecycle [] s
      else .go (s.askTrivet { opcode := 0x0603, ctx := h.ctx.toNat, body := s.inspection j false, target := 0, window := 0,
                              offset := 0 }))

/-- SV_CHAIN_SIGN. -/
def execSvChainSign (h : Hdr) (s : State) : Host.Outcome State Fault Refusal := (takeSvChainSign h s).out

/-- REF_DECODE_DONE (R285, R286): the waiting reference with the lowest PAGE_SEQ has been decoded into a free slot, or is found
bad. -/
def execRefDecodeDone (t : Nat) (s : State) : Host.Outcome State Fault Refusal :=
  let s1 := s.atTime t
  (match s1.sv.job with
   | none => s1
   | some j =>
     match j.refs.find? (fun (r : RefSub) => r.state == RefState.waiting) with
     | none => s1
     | some r =>
       match j.freeSlot with
       | none => s1
       | some k =>
         let rdv := s1.dramRead 6 (s1.winAddr r.window r.offset) r.length
         let s2 := rdv.2
         let got := decodeRrf rdv.1
         let bad := fun (e : Nat) =>
           ((s2.setJob (fun (j : Job) => { j with refs := j.refs.map (fun (x : RefSub) => if x.page == r.page then { x with state := RefState.bad } else x) })).done
             r.ctx (le 4 r.page ++ le 1 2 ++ le 3 0 ++ le 4 e)).pulse 98
         match got with
         | .error e => bad e
         | .ok (w, h, id, rows) =>
           if j.width < w then bad 8
           else if j.height < h then bad 12
           else
             (((s2.slotWrite j k w h rows).setJob (fun (j : Job) => { j with refs := j.refs.map (fun (x : RefSub) =>
                 if x.page == r.page then { x with state := .decoded, pageId := id, width := w, height := h, slot := k } else x) })).done
               r.ctx (le 4 r.page ++ le 1 0 ++ le 3 0 ++ le 4 0))).out

/-- MB_ABORT of SV_REF_SUBMIT: before decoding starts (R570). -/
def State.refAbort (n : Nat) (s : State) : Option State :=
  match s.sv.job with
  | some j =>
    if j.refs.any (fun r => r.ctx == n && r.state == .waiting) then
      some ((s.setJob (fun j => { j with refs := j.refs.filter (fun r => !(r.ctx == n && r.state == .waiting)) })).failWith n cAborted)
    else none
  | none => none

end Sys2Proof.Machine
end

