-- ==== Sys2Proof/Machine/Lines.lean ====
section
/-! DEFINITION. What a line becomes: the row-stagger buffer, stitched lines, pages in the ring and their descriptors, the diagnostic
tap, and the alignment calibration (chapters "Colour-line alignment and segment stitching", "Line timing, exposure and
seamless stop-restart" and "Single-fault masking, online test and live replacement"). -/

namespace Sys2Proof.Machine

/-! ## The diagnostic tap (R627) -/

/-- A queue has room for a whole record of `n` bytes now. -/
def State.roomFor (q n : Nat) (s : State) : Bool :=
  let k := divUp n 64
  let x := s.q q
  x.en && (x.limit == 0 || decide (x.cells.length + k ≤ x.limit)) && decide (k + (if q < 768 then 0 else 1024) ≤ s.freeCells - s.freedNow)

/-- The pixels of a port as the tap shows them: before the masking of R52, unaligned. -/
def LineRec.tapPix (r : LineRec) (p : Nat) : List OutPix × Bool :=
  let x := { r with masked := r.masked.erase p }
  let cs := (List.range 4).map (x.corrected p)
  let n := (cs.map List.length).foldl max 0
  let at_ := fun (c u : Nat) => (cs.getD c []).getD u Pix.none
  ((List.range n).map (fun u =>
    { v := (List.range 4).map (fun c => (at_ c u).data.toNat), sat := (List.range 4).map (fun c => (at_ c u).sat),
      defpix := (List.range 4).map (fun c => (at_ c u).defpix), stitch := false }),
   cs.any (fun l => l.any (·.interp)))

/-- The tap's line product of a line. -/
def State.tapLine (r : LineRec) (s : State) : State :=
  if r.tabs.diagPort = 0xFF then s
  else
    let x := r.tapPix r.tabs.diagPort
    let bs := lineProduct r.tag (if x.2 then 32 else 0) 2 0x0F#8 0 x.1
    if s.roomFor r.tabs.diagQ bs.length then s.pushHard r.tabs.diagQ bs
    else { s with diag := { s.diag with tapDrops := satAdd 0xFFFF s.diag.tapDrops 1 } }

/-- DIAG_TAP_STAGE (R627, R581). -/
def takeDiagTapStage (h : Hdr) (port : BitVec 8) (queue : BitVec 16) (s : State) : State :=
  s.take h 0x0F00 [.s] true (some 0) (port == 0xFF || (decide (port.toNat < s.board.member.ports) && isProductQueue queue.toNat)) (fun s =>
    s.staging (.diagTapStage h port queue) h [0x0F00] (fun s =>
      let scratch := match s.sv.job with
        | some j => if j.en.getLsbD 3 then some 3 else if j.en.getLsbD 4 then some 4 else none
        | none => none
      match scratch with
      | some k => if port != 0xFF then .fail cConflict (conflictData 6 0 8 k) s
        else .ok [] [] (s.stage 0x0F00 (fun t => { t with diagPort := port.toNat, diagQ := queue.toNat }))
      | none => .ok [] [] (s.stage 0x0F00 (fun t => { t with diagPort := port.toNat, diagQ := queue.toNat }))))

/-- DIAG_TAP_STAGE. -/
def execDiagTapStage (h : Hdr) (port : BitVec 8) (queue : BitVec 16) (s : State) : Host.Outcome State Fault Refusal :=
  (takeDiagTapStage h port queue s).out

/-! ## Pages in the ring (R190, R192, R652) -/

/-- A page is admitted at its first line (R190); with no ring set every page is. -/
def State.admits (tr : LineRec) (s : State) : Bool :=
  !s.hasRing ||
    (match tr.tabs.ltPage.largest tr.mode with
     | some n => decide (n ≤ s.ring.cap - s.fill)
     | none => true)

/-- A page opens with the line whose tag its first line carries; one that is not admitted is dropped whole (R192). -/
def State.openPage (tr : LineRec) (short : Bool) (s : State) : State :=
  let ok := s.admits tr
  let page : RingPage :=
    { firstSeq := tr.tag.seq, firstRl := s.ring.wp, lines := 0, isOpen := true, released := false,
      reserved := (tr.tabs.ltPage.largest tr.mode).getD 0 }
  let s1 := { s with ring := { s.ring with
    full := !ok, drops := if ok then s.ring.drops else satAdd 0xFFFFFFFF s.ring.drops 1,
    cur := some { firstSeq := tr.tag.seq, admitted := ok, lines := 0 },
    pages := if ok && s.hasRing then s.ring.pages ++ [page] else s.ring.pages } }
  (s1.pulseIf (!ok) 96).svOpen tr (!ok) short

/-- The open page closes: its reservation ends, its descriptor is pushed, and so its services (R190, R652, R316). -/
def State.closePage (e : PageEnd) (s : State) : State :=
  match s.ring.cur with
  | none => s
  | some c =>
    let seq := match s.sv.job.bind (fun j => j.pages.find? (·.isOpen)) with
      | some p => p.seq
      | none => 0xFFFFFFFF
    let ps := s.ring.pages.map (fun (p : RingPage) => if p.isOpen then { p with isOpen := false, reserved := 0 } else p)
    let s1 := { s with ring := { s.ring with cur := none, pages := ps } }
    let s2 := match s.ring.pages.find? (·.isOpen) with
      | some p =>
        s1.pushHard s.ring.qDesc (le 4 c.firstSeq.toNat ++ le 4 p.lines ++ le 4 p.firstRl ++ le 4 seq ++ le 1 e.code ++ le 15 0)
      | none => s1
    s2.svClose e

/-- One line product stored where the write pointer stands (R652). -/
def State.ringPut (bs : List Byte) (s : State) : State :=
  let off := s.ring.offset + s.ring.wp * s.ring.rl
  let s1 := if bs.isEmpty then s else s.dramWrite 0 (s.winAddr s.ring.window off) (bs.take s.ring.rl)
  let ps := s.ring.pages.map (fun (p : RingPage) => if p.isOpen then { p with lines := p.lines + 1, reserved := p.reserved - 1 } else p)
  { s1 with ring := { s1.ring with wp := (s.ring.wp + 1) % s.ring.cap, pages := ps } }

/-- A stitched line joins the open page: services take it, and its line products are stored when the page was admitted (R192). -/
def State.writeLine (r : LineRec) (o : OutLine) (s : State) : State :=
  match s.ring.cur with
  | none => s
  | some c =>
    let x := r.tabs.product
    let main := if x.count = 0 then [] else lineProduct o.tag o.lflags x.pf.toNat x.chMask x.firstCol (o.cut x.firstCol x.count)
    let sv := s.svLine o
    let s1 := { sv.2 with ring := { sv.2.ring with cur := some { c with lines := c.lines + 1 } } }
    if !c.admitted then s1
    else
      let s2 := if s1.hasRing then s1.ringPut (main ++ sv.1.flatten) else s1
      if main.isEmpty || !(s2.q x.queue).en then s2 else s2.pushHard x.queue main

/-! ## The row-stagger buffer (R252 to R254) -/

/-- The buffer that a capture's delayed line goes to (R253): its place and its line size. -/
def State.stagHome (r : LineRec) (s : State) : Nat × Nat :=
  if stagLine s.board.member r.tabs = s.aln.stagLb then (s.aln.stagBase, s.aln.stagLb)
  else match s.aln.stagOld with
    | some (a, _, lb) => (a, lb)
    | none => (s.aln.stagBase, s.aln.stagLb)

/-- Every pixel of a row through the code of R252 and back. -/
def recode (l : PortLines) : PortLines := l.map (fun x => (x.1, x.2.map (fun c => c.map (fun q => expand12 (code12 q)))))

/-- Some pixel of a row carries INTERP. -/
def anyInterp (l : PortLines) : Bool := l.any (fun x => x.2.any (fun c => c.any (·.interp)))

/-- The delayed line of this capture is written, and recorded on chip (R252, R253). -/
def State.stagWrite (r : LineRec) (l : PortLines) (s : State) : State :=
  let h := s.stagHome r
  let a := h.1 + h.2 * (r.cap % (r.tabs.stagger + 2))
  let s1 := if !s.aln.stagOn || h.2 = 0 then s else s.dramWrite 1 a (padTo h.2 0 (packCodes ((flatOf l).map code12)))
  { s1 with aln := { s1.aln with stagRecs :=
    s1.aln.stagRecs ++ [{ capture := r.cap, replaced := anyInterp l, place := a, bytes := h.2 }] } }

/-- The pixels of a delayed line that a late or poisoned read affects (R254): of a late line all, as the event does not say which were in
time (DESIGN CHOICE: log entry 177), of a poisoned one those with a bit in a poisoned block of 64 bytes. -/
def State.stagBad (x : StagRec) (late poison : Bool) (s : State) (i : Nat) : Bool :=
  let block := fun (n : Nat) => s.dram.poison.contains ((x.place + n) / 64)
  late || poison || block (12 * i / 8) || block ((12 * i + 11) / 8)

/-- The first-seen row of the stitched line that capture `r` completes (R254 to R256): the delayed line read back, or, where an apply has
changed ALIGN or ALONG in between, the same capture aligned by the table in force (DEDUCED: log entry 178), and whether data was
missing. -/
def State.stagRead (r : LineRec) (late poison : Bool) (s : State) : PortLines × Bool × State :=
  let m := s.board.member
  let ports := rowPorts m r.tabs false
  let absent := splitTo r.tabs ports (List.replicate (stagPixels m r.tabs) Pix.none)
  match s.captureBefore r r.tabs.stagger, s.aln.stagRecs.find? (fun x => x.capture + r.tabs.stagger == r.cap) with
  | some old, some x =>
    let rdv := s.dramRead 2 x.place x.bytes
    let n := stagPixels m old.tabs
    if n = 0 then ([], false, s)
    else
      let bad := poison || s.poisoned x.place x.bytes
      let s1 := if late then (({ rdv.2 with aln := { rdv.2.aln with stagMiss := true, lateCnt := satAdd 0xFFFF s.aln.lateCnt 1 } }).pulse 85)
        else rdv.2
      let s2 := if bad then ({ s1 with aln := { s1.aln with stagMiss := true } }).pulse 86 else s1
      let moved := ports.any (fun p => (alnOf old.tabs p).align != (alnOf r.tabs p).align || (alnOf old.tabs p).along != (alnOf r.tabs p).along)
      let px := if moved then
          (flatOf (s.alignedOf { old with tabs := { old.tabs with aln := r.tabs.aln } } ports)).map (fun q => expand12 (code12 q))
        else (unpackCodes rdv.1 n).map expand12
      let out := px.zipIdx.map (fun q => if s.stagBad x late poison q.2 then Pix.none else q.1)
      (splitTo old.tabs ports out, late || bad, s2)
  | _, _ => (absent, false, s)

/-! ## The alignment calibration (R267 to R270) -/

/-- ALN_CALIBRATE ends with a code: bytes 16 on name the failing ports (R569). -/
def State.alnOut (code : Nat) (ports : List Nat) (s : State) : State :=
  match s.aln.cal with
  | none => s
  | some c =>
    let ps := ports.take 16
    let data := if ps.isEmpty then le 1 0 else le 1 ps.length ++ ps.flatMap (le 1)
    let st := if code = cOk then OpState.done else if code = cAborted then OpState.aborted else OpState.failed
    ({ s with aln := { s.aln with cal := none } }).finish c.ctx st code data []

/-- MB_ABORT of ALN_CALIBRATE: nothing is staged. -/
def State.alnAbort (s : State) : State := s.alnOut cAborted []

/-- A table entry as R246 lays it out. -/
def AlnEntry.bytes (e : AlnEntry) : List Byte :=
  le 16 (((e.align.zipIdx.map (fun x => x.1.toNat * 2 ^ (12 * x.2))).sum) + unsign 7 e.along * 2 ^ 48 + b2n e.row * 2 ^ 55 +
    b2n e.en * 2 ^ 56 + e.x.toNat * 2 ^ 64 + e.bw.toNat * 2 ^ 88 + e.sc.toNat * 2 ^ 96)

/-- What one run sees of the target (R266, R267): for each measured port and colour line the along-track centroid of every ladder bar in
1/64 line, bar 0 being the one after the start bar, and for each pair of neighbours the cross-track centroid of its seam bar in either
port's columns in 1/64 pixel, from the first and from the second half of the bars. How darkness is weighed is open, so the centroids
are free values. -/
structure AlnSeen where
  ports : List Nat
  cent  : List (List (List Nat))
  pairs : List (Nat × Nat)
  seam  : List (List Nat)

/-- The centroids of a run. -/
def State.alnSeen (c : AlnCal) (s : State) : AlnSeen × State :=
  let m := s.board.member
  let ps := setBits m.ports c.ports.toNat
  let prs := (pairs (alnOrder m s.active)).filter (fun x => ps.contains x.1 && ps.contains x.2)
  let a := s.frees 24 (4 * c.nbars * ps.length)
  let b := a.2.frees 24 (4 * prs.length)
  ({ ports := ps, cent := (chunks (4 * c.nbars) ps.length a.1).map (chunks c.nbars 4), pairs := prs, seam := chunks 4 prs.length b.1 }, b.2)

/-- The bars of a colour line of a port. -/
def AlnSeen.bars (x : AlnSeen) (p l : Nat) : List Nat := (x.cent.getD (x.ports.idxOf p) []).getD l []

/-- The colour line of a port that sees a bar last. -/
def AlnSeen.last (x : AlnSeen) (p : Nat) : Nat := maxIx ((List.range 4).map (fun l => ((x.bars p l).sum : Int)))

/-- The summed differences of two lines over some bars. -/
def barDiff (a b : List Nat) : Int := ((a.zip b).map (fun x => (x.1 : Int) - x.2)).sum

/-- Two sums over `n` and `k` bars agree within 2/64 in their means (R268). -/
def agrees (a b : Int) (n k : Nat) : Bool := decide ((a * k - b * n).natAbs ≤ 2 * n * k)

/-- An estimate from the first and from the second half of the bars agrees (R268). -/
def halvesAgree (a b : List Nat) : Bool :=
  let n := a.length / 2
  agrees (barDiff (a.take n) (b.take n)) (barDiff (a.drop n) (b.drop n)) n (a.length - n)

/-- The X of every port reached from the reference port by seam bars, in one half of the bars (R267): the two ports of a seam place its bar
at one column. -/
def AlnSeen.chain (x : AlnSeen) (half ref xRef : Nat) : List (Nat × Int) :=
  let d := fun (k : Nat) => ((x.seam.getD k []).getD half 0 : Int) - (x.seam.getD k []).getD (2 + half) 0
  let known := fun (l : List (Nat × Int)) (p : Nat) => (l.find? (fun y => y.1 == p)).map (·.2)
  let right := x.pairs.zipIdx.foldl (fun l q =>
    match known l q.1.1, known l q.1.2 with
    | some a, none => l ++ [(q.1.2, a + d q.2)]
    | _, _ => l) [(ref, (xRef : Int))]
  x.pairs.zipIdx.reverse.foldl (fun l q =>
    match known l q.1.1, known l q.1.2 with
    | none, some b => l ++ [(q.1.1, b - d q.2)]
    | _, _ => l) right

/-- The ports whose two estimates differ by more than R268 allows. -/
def AlnSeen.failing (x : AlnSeen) (c : AlnCal) : List Nat :=
  let a := x.chain 0 c.refPort c.xRef
  let b := x.chain 1 c.refPort c.xRef
  let ref := x.bars c.refPort (x.last c.refPort)
  x.ports.filter (fun p =>
    let own := x.bars p (x.last p)
    !((List.range 4).all (fun l => halvesAgree own (x.bars p l)) && halvesAgree ref own &&
      (a.zip b).all (fun y => y.1.1 != p || decide ((y.1.2 - y.2.2).natAbs ≤ 2))))

/-- The measured fields of a port before they are brought into their widths (R267): ALIGN by colour line, ALONG with `stagger` lines
between the two rows, and X. Means are rounded to nearest (DEDUCED: log entry 180). -/
def AlnSeen.fields (x : AlnSeen) (t : Tables) (c : AlnCal) (stagger p : Nat) : List Int × Int × Int :=
  let own := x.bars p (x.last p)
  let off := divRound (barDiff (x.bars c.refPort (x.last c.refPort)) own) c.nbars
  let row := fun (q : Nat) => if (alnOf t q).row then 0 else (stagger : Int)
  let of_ := fun (l : List (Nat × Int)) => ((l.find? (fun y => y.1 == p)).map (·.2)).getD ((alnOf t p).x.toNat : Int)
  ((List.range 4).map (fun l => divRound (barDiff own (x.bars p l)) c.nbars), off - 64 * (row p - row c.refPort),
   divRound (of_ (x.chain 0 c.refPort c.xRef) + of_ (x.chain 1 c.refPort c.xRef)) 2)

/-- Each of the fields has a place in its entry (R246). -/
def fieldsFit (f : List Int × Int × Int) : Bool :=
  f.1.all (fun v => decide (0 ≤ v) && decide (v ≤ 4095)) && decide (-64 ≤ f.2.1) && decide (f.2.1 ≤ 63) && decide (0 ≤ f.2.2) &&
    decide (f.2.2 < 2 ^ 24)

/-- The measured table (R267): EN, ROW and BW are those in force. -/
def AlnSeen.table (x : AlnSeen) (t : Tables) (c : AlnCal) (stagger : Nat) : SMap AlnEntry :=
  x.ports.foldl (fun e p =>
    let f := x.fields t c stagger p
    supd AlnEntry.reset p (fun y => { y with align := f.1.map (fun v => BitVec.ofNat 12 v.toNat), along := f.2.1,
                                             x := BitVec.ofNat 24 f.2.2.toNat }) e) t.aln

/-- SC at the middle of each overlap (R267). -/
def withCentres (m : Member) (t : Tables) : Tables :=
  { t with aln := (pairs (alnOrder m t)).foldl (fun e x =>
      let mid := ((alnOf t x.1).x.toNat + 64 * lineWidth t x.1 0 + (alnOf t x.2).x.toNat) / 128
      supd AlnEntry.reset x.1 (fun y => { y with sc := BitVec.ofNat 18 mid }) e) t.aln }

/-- RESID (R270) in 0.01 px of differences in 0.01 px. -/
def residOf (l : List Int) : Nat := min 0xFFFF (Nat.sqrt ((l.map (fun d => d.natAbs * d.natAbs)).sum / max 1 l.length))

/-- DSTEP (R270) of two means. -/
def dstepOf (a b : Nat) : Nat := min 0xFFFF (divRound (20000 * ((a : Int) - b).natAbs) (a + b : Nat)).toNat

/-- The figures of the seams (R270). The differences over 256 lines of each seam bar and the two means on white ground are what the target
shows: free values. -/
def State.seamFigures : List (Nat × Nat) → State → List SeamQ × State
  | [], s => ([], s)
  | x :: l, s =>
    let d := s.frees 12 256
    let a := d.2.free 16
    let b := a.2.free 16
    let r := b.2.seamFigures l
    ({ portA := x.1, portB := x.2, resid := residOf (d.1.map (signed 12)), dstep := dstepOf a.1 b.1 } :: r.1, r.2)

/-- The run is accepted (R269, R270) with `stagger` lines measured between the rows. -/
def State.alnAccept (c : AlnCal) (x : AlnSeen) (stagger : Nat) (s : State) : State :=
  let m := s.board.member
  let t := withCentres m { s.active with aln := x.table s.active c stagger }
  let q := s.seamFigures (pairs (alnOrder m t))
  let bytes := le 2 stagger ++ (List.range m.ports).flatMap (fun p => (alnOf t p).bytes)
  let s1 := (q.2.dramWrite 9 (s.winAddr c.window c.offset) bytes)
  let s2 := { s1 with aln := { s1.aln with seams := q.1 } }
  let view := { s.shadowView with aln := t.aln, stagger := stagger }
  if stagger != s.active.stagger then s2.alnOut cState []
  else if !check247 m view then s2.alnOut cRange []
  else if !check249 m view then s2.alnOut cResource []
  else (s2.stage 0x0500 (fun t0 => { t0 with aln := t.aln, stagger := stagger })).alnOut cOk []

/-- The bars have been captured: the estimates of the two halves are compared, once more after a first failure (R268), and each value
must fit its field (R267). Where ports of both rows are measured, how their offsets part into STAGGER and ALONG is open: STAGGER is a
free value. -/
def State.alnVerdict (c : AlnCal) (s : State) : State :=
  let seen := s.alnSeen c
  let bad := seen.1.failing c
  if !bad.isEmpty && !c.retried then { seen.2 with aln := { seen.2.aln with cal := some { c with found := 0, retried := true } } }
  else if !bad.isEmpty then seen.2.alnOut cCal bad
  else
    let rows := seen.1.ports.map (fun p => (alnOf s.active p).row)
    let g := if rows.contains true && rows.contains false then seen.2.free 11 else (s.active.stagger, seen.2)
    let out := seen.1.ports.filter (fun p => decide (1024 < g.1) || !fieldsFit (seen.1.fields s.active c g.1 p))
    if out.isEmpty then g.2.alnAccept c seen.1 g.1 else g.2.alnOut cRange out

/-- The verdict of a run; while a pending apply locks the table it would stage, it waits for the swap (R24). -/
def State.alnJudge (c : AlnCal) (s : State) : State := if s.locked [0x0500] then s else s.alnVerdict c

/-- A line in CALIBRATE: whether a bar of the target ends with it is open. -/
def State.alnCalLine (r : LineRec) (s : State) : State :=
  match s.aln.cal with
  | none => s
  | some c =>
    if r.mode != .calibrate || decide (c.nbars ≤ c.found) then s
    else
      let f := s.free 1
      if f.1 = 0 then f.2
      else
        let n := c.found + 1
        let c1 := { c with found := n }
        let s1 := ({ f.2 with aln := { f.2.aln with cal := some c1 } }).setCtx c.ctx (fun x => { x with progress := 4095 * n / c.nbars })
        if n < c.nbars then s1 else s1.alnJudge c1

/-- ALN_CALIBRATE (R267, R569). -/
def takeAlnCalibrate (h : Hdr) (ports : BitVec 64) (nbars : BitVec 16) (refPort window : BitVec 8) (xRef offset timeout : BitVec 32)
    (s : State) : State :=
  let n := zeroIs 64 nbars.toNat
  let m := s.board.member
  s.take h 0x0503 [.k] true (some 0)
    (decide (16 ≤ n) && decide (n ≤ 256) && decide (ports.toNat < 2 ^ m.ports) && bit ports.toNat refPort.toNat &&
      decide (xRef.toNat < 2 ^ 24)) (fun s =>
    if (s.win window.toNat).isNone then .fail cState [] s
    else if !s.winHas window.toNat offset.toNat (2 + 16 * m.ports) then .fail cRange [] s
    else if s.aln.cal.isSome || s.shd.cal.isSome then .fail cBusy [] s
    else
      let c : AlnCal :=
        { ctx := h.ctx.toNat, ports := ports, nbars := n, refPort := refPort.toNat, window := window.toNat, xRef := xRef.toNat,
          offset := offset.toNat, deadline := s.now + zeroIs 60000 timeout.toNat * 1000000, found := 0, retried := false }
      .go { s with aln := { s.aln with cal := some c } })

/-- ALN_CALIBRATE. -/
def execAlnCalibrate (h : Hdr) (ports : BitVec 64) (nbars : BitVec 16) (refPort window : BitVec 8) (xRef offset timeout : BitVec 32)
    (s : State) : Host.Outcome State Fault Refusal := (takeAlnCalibrate h ports nbars refPort window xRef offset timeout s).out

/-- ALN_CALIBRATE_TIMEOUT (R569). -/
def execAlnCalibrateTimeout (t : Nat) (s : State) : Host.Outcome State Fault Refusal :=
  let s1 := s.atTime t
  (match s1.aln.cal with
   | some c => if c.deadline ≤ s1.now then s1.alnOut cTimeout [] else s1
   | none => s1).out

/-- SEAM_QUALITY_READ (R270). -/
def takeSeamQualityRead (h : Hdr) (window : BitVec 8) (offset : BitVec 32) (s : State) : State :=
  s.take h 0x0504 [.c] true (some 0) true (fun s =>
    s.winResult window.toNat offset.toNat
      (s.aln.seams.flatMap (fun q => le 1 q.portA ++ le 1 q.portB ++ le 2 q.resid ++ le 2 q.dstep ++ le 2 0)) [])

/-- SEAM_QUALITY_READ. -/
def execSeamQualityRead (h : Hdr) (window : BitVec 8) (offset : BitVec 32) (s : State) : Host.Outcome State Fault Refusal :=
  (takeSeamQualityRead h window offset s).out

/-! ## A stitched line (R255 to R258) -/

/-- The next line to be completed: the oldest that has started, once no die runs or awaits its program. -/
def State.nextStitch (s : State) : Option LineRec :=
  match s.lines.find? (fun r => r.started && !r.done) with
  | none => none
  | some r =>
    if s.allWords r then some r else none

/-- Completed lines that no later line needs leave the record, and with the last of its lines the buffer of before an apply. -/
def State.trimLines (r : LineRec) (s : State) : State :=
  let m := s.board.member
  let keep := r.tabs.stagger + warmOf m r.tabs + 6
  let recs := s.aln.stagRecs.filter (fun x => decide (r.cap < x.capture + r.tabs.stagger + 1))
  let used := match s.aln.stagOld with
    | some (a, n, _) => recs.any (fun x => decide (a ≤ x.place) && decide (x.place < a + n)) || stagLine m r.tabs != s.aln.stagLb
    | none => false
  { s with lines := s.lines.filter (fun x => !x.done || decide (r.cap < x.cap + keep)),
           aln := { s.aln with stagRecs := recs, stagOld := if used then s.aln.stagOld else none } }

/-- How the open page ends when capture or its run mode does (R45, R258, R316, R655): with the code, and what is known of its sheet's
edges, from the first line not yet completed that ends the page or else from the gate. -/
def State.openEnd (code : Nat) (s : State) : PageEnd :=
  let done := fun (x : LineRec) => s.lines.any (fun r => r.done && decide (x.cap + r.tabs.stagger + 2 ≤ r.cap))
  match (s.lines.filter (fun x => !done x)).findSome? (fun x => x.gate.closePrev <|> x.gate.closeAfter) with
  | some e => { e with code := code }
  | none => { code := code, trail := s.lt.gate.bind (·.trail), skew := s.lt.gate.bind (·.skew) }

/-- The stitched line meets the pages (R185 to R190, R255 to R258, R655): `r` is the capture that completed it, `tr` the line
whose tag it carries. -/
def State.toPages (r tr : LineRec) (o : OutLine) (s : State) : State :=
  let s0 := if decide (tr.cap < warmOf s.board.member r.tabs) then s else { s with aln := { s.aln with warmup := false } }
  if r.mode == .calibrate then s0.closePage (s0.openEnd 7)
  else
    let s1 := match tr.gate.closePrev with
      | some e => s0.closePage e
      | none => s0
    if tr.tag.gap || !tr.mode.isRun then s1
    else
      let s2 := (if tr.tag.first then s1.openPage tr tr.gate.short else s1).writeLine r o
      match tr.gate.closeAfter with
      | some e => s2.closePage e
      | none => s2

/-- The stitched line that capture `r` completes (R252 to R257). Its first flagged line under R101 is the one that the first capture
after the detection completes (DEDUCED: log entry 179). -/
def State.stitch (r : LineRec) (late poison : Bool) (s : State) : State :=
  let m := s.board.member
  let second := s.alignedOf r (rowPorts m r.tabs true)
  let first := s.alignedOf r (rowPorts m r.tabs false)
  let d := (s.stagWrite r first).stagRead r late poison
  let s3 := d.2.2
  let g := r.tabs.stagger
  let repl := anyInterp second || s3.aln.stagRecs.any (fun x => x.capture + g == r.cap && x.replaced)
  match s3.captureBefore r (g + 2) with
  | none => s3
  | some tr =>
    let px := lanePix m r.tabs r.seams (d.1 ++ recode second)
    s3.toPages r tr
      { tag := tr.tag, lflags := 8 * b2n (r.clamped m) + 16 * b2n d.2.1 + 32 * b2n repl, col0 := (laneOf m r.tabs).1, pix := px }

/-- STITCHED_LINE_COMPLETE (R255): `late` and `poison` say how the delayed data came back (R254). -/
def execStitchedLineComplete (t : Nat) (late poison : Bool) (s : State) : Host.Outcome State Fault Refusal :=
  let s0 := s.atTime t
  match s0.nextStitch with
  | none => s0.out
  | some r =>
    let m := s0.board.member
    let s1 := s0.setLine r.tag.seq (fun x => { x with done := true })
    let s2 := if r.clamped m then
        ({ s1 with aln := { s1.aln with clamped := true, clampCnt := satAdd 0xFFFF s1.aln.clampCnt 1 } }).pulse 84
      else s1
    let s3 := ((s2.shdCalLine r).alnCalLine r).tapLine r
    ((s3.stitch r late poison).trimLines r).out

end Sys2Proof.Machine
end

