-- ==== Sys2Proof/Machine/Apply.lean ====
section
/-! DEFINITION. The apply: what it would bring into force, the checks repeated at its acceptance, and the swap at its line
(chapters "Architecture and data flow", R19 to R24, R650, R651; "Line timing, exposure and seamless stop-restart", R166,
R198; "Command reference", R559 to R561). -/

namespace Sys2Proof.Machine

/-! ## What a swap brings into force -/

/-- The source table that an apply leaves in force: without a mode change SRC, DIV and GEN_PERIOD stay (R166). -/
def LtSrc.pull (withMode : Bool) (a sh : LtSrc) : LtSrc :=
  if withMode then sh else { sh with src := a.src, div := a.div, genPeriod := a.genPeriod }

/-- The Skillet configuration that an apply leaves in force: without a mode change EN and LINE stay (R326). -/
def SklCfg.pull (withMode : Bool) (a sh : SklCfg) : SklCfg :=
  if withMode then sh else { sh with en := a.en, line := a.line }

/-- One table swapped in, by the opcode of its staging command; `a` are the tables in force, `sh` the shadow copies. -/
def Tables.pull (withMode : Bool) (a sh t : Tables) (op : Nat) : Tables :=
  match op with
  | 0x0202 => { t with patSel := sh.patSel }
  | 0x0203 => { t with afe := sh.afe }
  | 0x0204 => { t with tapMap := sh.tapMap }
  | 0x0205 => { t with tapClk := if withMode then sh.tapClk else t.tapClk }
  | 0x0300 => { t with ltSrc := a.ltSrc.pull withMode sh.ltSrc }
  | 0x0301 => { t with strobe := sh.strobe }
  | 0x0302 => { t with ltPage := sh.ltPage }
  | 0x0303 => { t with ltPace := sh.ltPace }
  | 0x0304 => { t with io := sh.io }
  | 0x0406 => { t with shdCfg := sh.shdCfg }
  | 0x0407 => { t with lin := sh.lin }
  | 0x0500 => { t with aln := sh.aln, stagger := sh.stagger }
  | 0x0501 => { t with xform := sh.xform }
  | 0x0502 => { t with product := sh.product }
  | 0x0604 => { t with sv := { t.sv with sieve := sh.sv.sieve } }
  | 0x0605 => { t with sv := { t.sv with tongs := sh.sv.tongs } }
  | 0x0606 => { t with sv := { t.sv with ladle := sh.sv.ladle } }
  | 0x0607 => { t with sv := { t.sv with preview := sh.sv.preview } }
  | 0x0608 => { t with sv := { t.sv with crops := sh.sv.crops } }
  | 0x0700 => { t with sklCfg := a.sklCfg.pull withMode sh.sklCfg }
  | 0x0701 => { t with sklMap := sh.sklMap }
  | 0x0703 => { t with sklClass := sh.sklClass }
  | 0x0704 => { t with sklFev := sh.sklFev }
  | 0x0800 => { t with ilmRow := sh.ilmRow }
  | 0x0801 => { t with dim := sh.dim }
  | 0x0802 => { t with tcomp := sh.tcomp }
  | 0x0803 => { t with lsw := sh.lsw }
  | 0x0900 => { t with motCfg := sh.motCfg }
  | 0x0901 => { t with ramps := sh.ramps }
  | 0x0902 => { t with tiles := sh.tiles }
  | 0x0F00 => { t with diagPort := sh.diagPort, diagQ := sh.diagQ }
  | 0x0F01 => { t with sv := { t.sv with bypass := sh.sv.bypass } }
  | _ => t

/-- The tables in force after the keys have been swapped in from some shadow copies. -/
def pulled (withMode : Bool) (a sh : Tables) (keys : List Nat) : Tables := keys.foldl (Tables.pull withMode a sh) a

/-- The tables that an apply of some keys leaves in force, a staged PORT_QUALIFY's bank selection included (R157, R651). -/
def State.willBe (withMode : Bool) (keys : List Nat) (s : State) : Tables :=
  let t := pulled withMode s.active s.shadow keys
  if keys.contains 0x0208 then { t with patSel := qualifyBanks s.staged.ports t.patSel } else t

/-- A staging that an apply without a mode change holds back (R123, R166, R326). -/
def heldBack (a sh : Tables) (op : Nat) : Bool :=
  op == 0x0205 || (op == 0x0300 && a.ltSrc.pull false sh.ltSrc != sh.ltSrc) || (op == 0x0700 && a.sklCfg.pull false sh.sklCfg != sh.sklCfg)

/-- Opcodes of the port-state commands (R157). -/
def isPortOp (op : Nat) : Bool := decide (0x0206 ≤ op) && decide (op ≤ 0x0209)

/-! ## The repeated checks (R651) -/

/-- The allocation of R253 for the tables that would be in force: none where DRAM has no room. In a capture mode a delayed line of
another size takes a buffer of its own from the apply line on, and the lines already stored stay where they are (log entry 171). -/
def State.stagRoom (t : Tables) (s : State) : Option (Option (Nat × Nat × Nat)) :=
  let lb := stagLine s.board.member t
  let size := (t.stagger + 2) * lb
  if s.mode.mode.isCapture && lb == s.aln.stagLb && decide (size ≤ s.aln.stagSize) then some none
  else (s.findRoom s.protSize s.dramSize size).map (fun a => if s.mode.mode.isCapture then some (a, size, lb) else none)

/-- The code of the first repeated check that fails for the tables that would be in force, if any. `all` asks for every check, as on
entry into a capture mode, the only moment at which a tap clock comes into force (R123). The manual says of no order
among the repeated checks; the model makes them in the order in which R651 lists them (DESIGN CHOICE: log entry 170). -/
def State.applyFault (t : Tables) (keys : List Nat) (all : Bool) (s : State) : Option Nat :=
  let b := s.board.member
  let dense := s.dense
  let some_ := fun (l : List Nat) => all || l.any keys.contains
  let prog := some_ [0x0202, 0x0204, 0x0208]
  let used := (List.range b.ports).filter (inUse t)
  let sets := all || keys.any (fun k => k == 0x0406 || decide (0x10000 ≤ k))
  if prog && !check99 b dense s.banks t then some cRange
  else if all && !(List.range b.dies).all (fun k => clkRange dense (tapClkOf t k)) then some cRange
  else if prog && !used.all (fun p => (progOf s.banks t p).ok dense && check139 s.banks t p) then some cRange
  else if some_ [0x0204] && !dense && !check140 b dense t then some cRange
  else if (prog || some_ [0x0300, 0x0301]) && !check181 b s.banks t then some cRange
  else if some_ [0x0302, 0x0303] && s.hasRing && !check191 s.ring.cap t then some cRange
  else if sets && !check219 b t.shdCfg s.shdView then some cRange
  else if some_ [0x0204, 0x0500] && !check247 b t then some cRange
  else if some_ [0x0204, 0x0500] && !check249 b t then some cResource
  else if some_ [0x0204, 0x0700, 0x0701] && !check324 b t then some cRange
  else if (prog || some_ [0x0300, 0x0700, 0x0701]) && !check343 b s.banks t then some cRange
  else if (s.stagRoom t).isNone then some cResource
  else none

/-! ## The swap -/

/-- The balls of encoder 1 serve it (R58, R165, R567): assigned to it, or unassigned and claimed by the line-timing unit (log
entry 160). -/
def State.encOne (s : State) : Bool :=
  s.active.io.enc1 == 1 ||
    (s.active.io.enc1 == 0 && (s.active.ltSrc.src == 1 || s.active.ltSrc.chkTol != 0 || s.active.ltPage.cue == 6))

/-- Encoder 1 serves as a check, and the pitches of the two differ by more than CHK_TOL (R170). -/
def State.encCheck (s : State) : Bool :=
  let d := s.active.ltSrc.div.toNat
  s.lt.run && s.srcNow != 1 && s.encOne && s.active.ltSrc.chkTol != 0 &&
    decide (s.active.ltSrc.chkTol.toNat * d * 2 ^ 32 <
      64 * ((s.lt.enc0.past - s.lt.enc1.past) * d + (s.lt.enc0.sum - s.lt.enc1.sum) * 2 ^ 64).natAbs)

/-- Coverage follows a covered tap to its new home channel (R141). -/
def State.coverMove (old : State) (k : Nat) (s : State) : State :=
  let s1 := spares.foldl (fun (s : State) c =>
    match (s.ch k c).covers with
    | none => s
    | some h =>
      match (old.tapsOfChan k h).findSome? (fun i => s.chanOfTap i) with
      | some x => if x.1 = h then s else s.setCh k c (fun y => { y with covers := some x.1 })
      | none => s) s
  let open_ := (List.range 96).filter (fun c => (s1.ch k c).failed && (s1.coverOf k c).isNone && !(s1.tapsOfChan k c).isEmpty)
  s1.setDie k (fun d => { d with pendingSub := d.pendingSub ++ open_.filter (fun c => !d.pendingSub.contains c) })

/-- An apply crosses the hashing of the attestation that Trivet works on (R614): twice Trivet starts anew, at the line of the apply. -/
def State.hashCross (s : State) : State :=
  match s.sec.reqs with
  | r :: rest =>
    if r.opcode = 0x0E00 then
      let n := s.sec.hashCrossed + 1
      { s with sec := { s.sec with hashCrossed := n, reqs := (if n ≤ 2 then { r with target := s.lt.seq.toNat } else r) :: rest } }
    else s
  | [] => s

/-- The lock of an apply is gone (R24): what completed under it goes on, an alignment or shading calibration and a pattern whose bits
have been shifted. -/
def State.unlocked (s : State) : State :=
  let s1 := match s.shd.cal with
    | some c => if c.step == ShdCalStep.white && c.left = 0 then s.shdCalCheck else s
    | none => s
  let s2 := match s1.aln.cal with
    | some c => if c.nbars ≤ c.found then s1.alnJudge c else s1
    | none => s1
  s2.lswResume

/-- The pitches seen so far keep the DIV they were seen under (R170). -/
def Encoder.moved (div : Nat) (e : Encoder) : Encoder :=
  if div = 0 then e else { e with past := e.past + e.sum * 2 ^ 64 / div, sum := 0 }

/-- The swap (R19, R20, R158, R360, R614, R653): how many tables it has brought into force and how many stagings it has not (R21), and what
is left. A trigger or Skillet table of which an apply without a mode change holds back some fields counts as not applied, and not as
applied, though its other fields come into force (DESIGN CHOICE: log entry 172). -/
def State.swap (keys : List Nat) (withMode : Bool) (s0 : State) : (Nat × Nat) × State :=
  let s := s0.aMaxTrack
  let isHeld := fun (k : Nat) => !withMode && heldBack s.active s.shadow k
  let held := (s.staged.keys.filter (fun k => keys.contains k && isHeld k)).length
  let t := pulled withMode s.active s.shadow keys
  let gone := fun (k : Nat) => keys.contains k && !isHeld k
  let lt := if t.ltSrc.div == s.active.ltSrc.div then s.lt
    else { s.lt with enc0 := s.lt.enc0.moved s.active.ltSrc.div.toNat, enc1 := s.lt.enc1.moved s.active.ltSrc.div.toNat }
  let s1 := { s with active := t, lt := lt, staged := { s.staged with keys := s.staged.keys.filter (fun k => !gone k) } }
  let ports := if keys.any isPortOp then s1.applyPorts else ([], 0, s1)
  let s2 := (ports.2.2.applySets keys).applyIllum keys
  let s3 := if keys.contains 0x0204 then
      (List.range s.board.member.dies).foldl (fun (x : State) k => (State.coverMove s k x).syncDie k) s2
    else s2
  let s4 := if keys.any (fun k => k == 0x0900 || k == 0x0901) then
      let s5 := s3.axesConfigured
      { s5 with axes := s5.axes.map (fun (a : Nat × Axis) => (a.1, { a.2 with stagedCfg := false })) }
    else s3
  let s7 := if s4.mode.mode.isCapture then s4 else s4.sklTables s4.active
  let tabs := (keys.eraseDups.filter (fun k => !isPortOp k && !isHeld k)).length
  let s8 := s7.hashCross
  ((tabs + ports.1.eraseDups.length, held + ports.2.1), (s8.pulseIf (s8.encCheck && !s.encCheck) 90).aMaxTrack)

/-! ## Modes and lines -/

/-- The target mode is entered: MODE, TARGET, TRANSIT and MODE_SEQ in one update (R36). In SHEET_SCAN pacing drives AX_A (R403). -/
def State.modeTo (m : Mode) (s : State) : State :=
  let s1 := { s with mode := { s.mode with mode := m, target := m, transit := false, trans := none, modeSeq := s.mode.modeSeq + 1 } }
  let s2 := if m == .sheetScan && !(s.mode.mode == .sheetScan) then
      { s1.setAx 0 (fun a => { a with owned := true }) with lt := { s1.lt with pace := .run, paceSlow := false } }
    else s1
  let s3 := if m.isCapture then s2 else { s2 with skl := { s2.skl with out := false } }
  (s3.pulse 1).fevUpdate

/-- LINE_SEQ of the next line to be triggered. -/
def State.nextSeq (s : State) : BitVec 32 := if s.lt.seqValid then s.lt.seq + 1 else s.lt.seq

/-- The device is the master of a bar (R196). -/
def State.isMaster (s : State) : Bool := s.rst.uzsId == 0 && s.active.ltSrc.followers != 0

/-- How many lines a target lies ahead of the next one. -/
def State.ahead (target : BitVec 32) (s : State) : Nat := (target - s.nextSeq).toNat

/-- A target line can be resolved at acceptance (R23, R198): it has not passed, lies at most 2^31 lines ahead, and on a bar is the
third line after acceptance or a later one. Whether its trigger comes 10 us after acceptance shows at the trigger. -/
def State.targetOk (target : BitVec 32) (s : State) : Bool :=
  decide (s.ahead target < 2 ^ 31) && (!s.isMaster || decide (2 ≤ s.ahead target))

/-- The apply that a command sets going (R23, R198, R221). -/
def State.startApply (ctx : Nat) (target : Option (BitVec 32)) (m : Option Mode) (s : State) : State :=
  let keys := s.staged.keys.eraseDups
  let a : PendingApply :=
    { ctx := some ctx, accepted := s.now, target := target, keys := keys, held := 0, newMode := m, announced := false,
      room := (s.stagRoom (s.willBe m.isSome keys)).join }
  { s with mode := { s.mode with apply := some a }, shd := { s.shd with accFilters := s.shd.filters } }

/-- The pending apply ends without effect: its command ends with a code, and every shadow stays staged (R560, R561). -/
def State.dropApply (code : Nat) (s : State) : State :=
  match s.mode.apply with
  | none => s
  | some a =>
    let s1 := { s with mode := { s.mode with
      apply := none, transit := if a.newMode.isSome then false else s.mode.transit,
      target := if a.newMode.isSome then s.mode.mode else s.mode.target } }
    let s2 := s1.unlocked
    match a.ctx with
    | some n => s2.failWith n code
    | none => s2

/-- The unit starts its position anew where SRC, DIV or GEN_PERIOD change with the mode (R166). -/
def State.srcChanged (old : LtSrc) (s : State) : State :=
  let x := s.active.ltSrc
  if old.src == x.src && old.div == x.div && old.genPeriod == x.genPeriod then s
  else { s with lt := { s.lt with
    pos := 0, next := if x.src = 3 then (2 ^ 32 : Nat) else x.div.toNat, counts := [], vEst := 0, interpAt := none,
    genAt := if x.src = 3 then some (256 * s.now + x.genPeriod.toNat) else none } }

/-- Sheets and cues are not the same starts: those of a sheet mode end with it (R655). -/
def State.startsKept (old new : Mode) (s : State) : State :=
  let sheet := fun (m : Mode) => m.isRun && !m.isWeb
  if sheet old || sheet new then { s with lt := { s.lt with starts := [], skewLead := none } } else s

/-- Boundaries and cue starts before the first line of a run mode that follows CALIBRATE start no page (R655). -/
def State.pagesAnew (s : State) : State :=
  let p : Int := 64 * (s.lt.pitchIx : Int)
  let len := s.active.ltPage.pageLen
  let nextB := match s.lt.boundary with | none => 0 | some b => b + len
  { s with lt := { s.lt with
    starts := s.lt.starts.filter (fun x => decide (p ≤ x.pos)),
    boundary := if s.active.ltPage.cue != 0 then s.lt.boundary
      else if nextB < p then some (nextB + (p - 1 - nextB) / max 1 len * max 1 len) else s.lt.boundary } }

/-- The row-stagger buffer that an apply brings with it (R253). -/
def State.stagMove (room : Option (Nat × Nat × Nat)) (s : State) : State :=
  match room with
  | some (a, n, lb) =>
    { s with aln := { s.aln with stagBase := a, stagSize := n, stagLb := lb, stagOld := some (s.aln.stagBase, s.aln.stagSize, s.aln.stagLb) } }
  | none => s

/-- The mode of an apply comes into force with its tables (R41, R166, R655); `old` is the state before the swap. -/
def State.modeWith (s : State) (old : State) (m : Mode) : State :=
  let s1 := (s.srcChanged old.active.ltSrc).startsKept old.mode.mode m
  (if old.mode.mode == .calibrate && m.isRun then s1.pagesAnew else s1).modeTo m

/-- The pending apply takes effect at a line (R21, R41). -/
def State.applyAt (seq : BitVec 32) (s : State) : State :=
  match s.mode.apply with
  | none => s
  | some a =>
    let r := { s with mode := { s.mode with apply := none } }.swap a.keys a.newMode.isSome
    let s1 := r.2.stagMove a.room
    let s2 := match a.newMode with
      | some m => s1.modeWith s m
      | none => s1
    let notApplied := if a.newMode.isSome then 0 else r.1.2
    (match a.ctx with
     | some n => s2.done n (le 4 seq.toNat ++ le 2 r.1.1 ++ le 2 notApplied)
     | none => s2).unlocked

/-- SYNC_APPLY (R21, R23, R560, R650, R651). -/
def takeSyncApply (h : Hdr) (when_ : BitVec 8) (target : BitVec 32) (s : State) : State :=
  s.take h 0x0102 [.c] true (some 0) (decide (when_.toNat ≤ 1)) (fun s =>
    let m := s.mode.mode
    let keys := s.staged.keys.eraseDups
    if s.mode.transit || s.mode.apply.isSome then .fail cBusy [] s
    else if !(m.isCapture || m == .idle || m == .diagnose) then .fail cState [] s
    else
      match s.applyFault (s.willBe false keys) keys false with
      | some e => .fail e [] s
      | none =>
        if m.isCapture then
          if when_ = 1 && !s.targetOk target then .fail cState [] s
          else
            let tgt := if when_ = 1 then some target else if s.isMaster then some (s.nextSeq + 2) else none
            .go (s.startApply h.ctx.toNat tgt none)
        else
          let r := { s with shd := { s.shd with accFilters := s.shd.filters } }.swap keys false
          .ok (le 4 0 ++ le 2 r.1.1 ++ le 2 r.1.2) [] r.2)

/-- SYNC_APPLY. -/
def execSyncApply (h : Hdr) (when_ : BitVec 8) (target : BitVec 32) (s : State) : Host.Outcome State Fault Refusal :=
  (takeSyncApply h when_ target s).out

end Sys2Proof.Machine
end

