-- ==== Sys2Proof/Machine/Gating.lean ====
section
/-! DEFINITION. Positions, pages and sheets as the trigger side sees them (chapter "Line timing, exposure and seamless
stop-restart", R185 to R188, R655). Positions are in 1/64 pitch; pitch index k lies at 64 k. -/

namespace Sys2Proof.Machine

/-- The position at this moment (R186): POS, moved on from the latest count by at most one unit at the speed estimate, rounded. -/
def State.edgePos (s : State) : Int :=
  let dt := match s.lt.counts.head? with | some c => s.now - c | none => 0
  let frac := clampI (-(2 ^ 32 - 1)) (2 ^ 32 - 1) (s.vNow * s.divNow * dt / 16000000000)
  64 * ((s.lt.pitchIx : Int) + 1) - divRound (64 * (s.lt.next - (s.lt.pos + frac))) s.divNow

/-- Change the line-timing unit. -/
def State.setLt (f : LineUnit → LineUnit) (s : State) : State := { s with lt := f s.lt }

/-! ## Cues and sheets (R186 to R188) -/

/-- A cue sets a pending page start; with 64 pending it sets none. -/
def State.cueAt (e : Int) (s : State) : State :=
  if !s.lt.run || !s.mode.mode.isWeb then s
  else if 64 ≤ s.lt.starts.length then s.pulse 108
  else s.setLt (fun l => { l with starts := l.starts ++
    [{ pos := e + s.active.ltPage.cueDist, lead := e, endPos := none, trail := none, skew := none }] })

/-- A leading edge of the gate sensor (R188). -/
def State.sheetLead (e : Int) (s : State) : State :=
  let t := s.active.ltPage
  s.setLt (fun l => { l with
    starts := l.starts ++ [{ pos := e + t.sensorDist - t.lead, lead := e, endPos := none, trail := none,
                             skew := l.skewLead.map (fun x => x - e) }],
    skewLead := none })

/-- A trailing edge of the gate sensor belongs to the newest sheet that has none. -/
def State.sheetTrail (e : Int) (s : State) : State :=
  let t := s.active.ltPage
  let end_ := e + t.sensorDist + t.trail
  match s.lt.starts.getLast? with
  | some x =>
    if x.endPos.isSome then s
    else s.setLt (fun l => { l with starts := l.starts.dropLast ++ [{ x with endPos := some end_, trail := some e }] })
  | none => s.setLt (fun l => { l with gate := l.gate.map (fun g =>
      if g.endPos.isSome then g else { g with endPos := some end_, trail := some e }) })

/-- A leading edge of the skew sensor belongs to the newest sheet that has none, or to the next one. -/
def State.skewEdge (e : Int) (s : State) : State :=
  match s.lt.starts.getLast?, s.lt.gate with
  | some x, _ =>
    if x.skew.isSome then s.setLt (fun l => { l with skewLead := some e })
    else s.setLt (fun l => { l with starts := l.starts.dropLast ++ [{ x with skew := some (e - x.lead) }] })
  | none, some g =>
    match g.skew, g.lead with
    | none, some p => s.setLt (fun l => { l with gate := some { g with skew := some (e - p) } })
    | _, _ => s.setLt (fun l => { l with skewLead := some e })
  | none, none => s.setLt (fun l => { l with skewLead := some e })

/-! ## The gating of a line -/

/-- What gating decides for a line: first and last line of a page, gap, and the closes and opening that go with it. -/
structure Gated where
  first : Bool
  last  : Bool
  gap   : Bool
  info  : GateInfo
  st    : State

/-- A page end without a sheet's edges. -/
def PageEnd.plain (code : Nat) : PageEnd := { code := code, trail := none, skew := none }

/-- A page end with what is known of its sheet. -/
def GatePage.ended (g : GatePage) (code : Nat) : PageEnd := { code := code, trail := g.trail, skew := g.skew }

/-- The latest boundary at or before a position, on the grid of `len` from `b`. -/
def lastBoundary (b p : Int) (len : Nat) : Int := if len = 0 then b else b + (p - b) / len * len

/-- A line of the web modes without a cue (R185). -/
def State.gateGrid (p : Int) (s : State) : Gated :=
  let len := s.active.ltPage.pageLen
  let nextB := match s.lt.boundary with | none => 0 | some b => b + len
  let begins := decide (nextB ≤ p)
  let b := if begins then some (lastBoundary nextB p len) else s.lt.boundary
  let opened := begins || s.lt.gate.isSome
  let last := opened && (match b with | some x => decide (x + len ≤ p + 64) | none => false)
  let page : GatePage := { endPos := none, trail := none, skew := none, lead := none, lines := 0 }
  { first := begins, last := last, gap := !opened,
    info := { closePrev := if begins && s.lt.gate.isSome then some (PageEnd.plain 3) else none,
              closeAfter := if last then some (PageEnd.plain 3) else none, lead := none, short := false },
    st := s.setLt (fun l => { l with boundary := b, gate := if last || !opened then none else some page }) }

/-- A line of the web modes with a cue (R186): the oldest pending start is taken in its turn, and by PAGE_LEN from the boundary at the
latest a page starts as if a cue had arrived. -/
def State.gateCue (p : Int) (s : State) : Gated :=
  let len := s.active.ltPage.pageLen
  let limit := s.lt.boundary.map (· + (len : Int))
  let inTime := fun (x : PageStart) => match limit with | some e => decide (x.pos ≤ e) | none => true
  let byStart := match s.lt.starts with | x :: _ => decide (x.pos ≤ p) && inTime x | [] => false
  let fall := !byStart && (match limit with | some e => decide (e ≤ p) | none => false)
  let hit := if byStart then s.lt.starts.takeWhile (fun x => decide (x.pos ≤ p)) else []
  let rest := if byStart then s.lt.starts.dropWhile (fun x => decide (x.pos ≤ p))
    else if fall then s.lt.starts.filter (fun x => decide (p < x.pos)) else s.lt.starts
  let begins := byStart || fall
  let b := match hit.getLast? with
    | some x => some x.pos
    | none => if fall then limit.map (fun e => lastBoundary e p len) else s.lt.boundary
  let lead : Option Int := match hit.head? with | some x => some x.lead | none => if fall then none else s.lt.gate.bind (·.lead)
  let opened := begins || s.lt.gate.isSome
  let byLen : Bool := match b with | some x => decide (x + len ≤ p + 64) | none => false
  let byCue : Bool := match rest, b with
    | x :: _, some y => decide (x.pos ≤ p + 64) && decide (x.pos ≤ y + len)
    | x :: _, none => decide (x.pos ≤ p + 64)
    | [], _ => false
  let last := opened && (byCue || byLen)
  let page : GatePage := { endPos := none, trail := none, skew := none, lead := lead, lines := 0 }
  { first := begins, last := last, gap := !opened,
    info := { closePrev := if begins && s.lt.gate.isSome then some (PageEnd.plain (if fall then 3 else 4)) else none,
              closeAfter := if last then some (PageEnd.plain (bif byCue then 4 else 3)) else none,
              lead := if begins then lead else none, short := false },
    st := (s.setLt (fun l => { l with starts := rest, boundary := b, gate := if last || !opened then none else some page })).pulseIf fall 91 }

/-- A line of the sheet modes (R188). A sheet whose leading edge is already known and whose page opens at the next line ends the open page
with this line (R179). -/
def State.gateSheet (p : Int) (s : State) : Gated :=
  let max_ := zeroIs 16777216 s.active.ltPage.maxLen
  let past := fun (e : Option Int) => match e with | some x => decide (x < p) | none => false
  let ended := s.lt.gate.filter (fun g => past g.endPos)
  let cur := s.lt.gate.filter (fun g => !past g.endPos)
  let hit := (s.lt.starts.filter (fun x => decide (x.pos ≤ p) && !past x.endPos)).getLast?
  let rest := s.lt.starts.filter (fun x => decide (p < x.pos))
  let next := rest.any (fun x => decide (x.pos ≤ p + 64) && (match x.endPos with | some e => decide (p + 64 ≤ e) | none => true))
  let closePrev := match ended, hit, cur with
    | some g, _, _ => some (g.ended 0)
    | none, some _, some g => some (g.ended 2)
    | _, _, _ => none
  let page : Option GatePage := match hit with
    | some x => some { endPos := x.endPos, trail := x.trail, skew := x.skew, lead := some x.lead, lines := 1 }
    | none => cur.map (fun g => { g with lines := g.lines + 1 })
  let close := match page with
    | none => none
    | some g =>
      if (match g.endPos with | some e => decide (e < p + 64) | none => false) then some (g.ended 0)
      else if max_ ≤ g.lines then some (g.ended 1)
      else if next then some (g.ended 2) else none
  let long := match close with | some e => e.code == 1 | none => false
  let met := match close with | some e => e.code == 2 | none => false
  { first := hit.isSome, last := close.isSome, gap := page.isNone,
    info := { closePrev := closePrev, closeAfter := close, lead := hit.map (·.lead), short := false },
    st := ((s.setLt (fun l => { l with starts := rest, gate := if close.isSome then none else page })).pulseIf long 92).pulseIf
      ((hit.isSome && cur.isSome) || met) 93 }

/-- A line of CALIBRATE belongs to no page; the web grid goes on (R655). -/
def State.gateNone (p : Int) (s : State) : Gated :=
  let t := s.active.ltPage
  let nextB := match s.lt.boundary with | none => 0 | some b => b + t.pageLen
  let b := if t.cue != 0 then none else if nextB ≤ p then some (lastBoundary nextB p t.pageLen) else s.lt.boundary
  { first := false, last := false, gap := true, info := { GateInfo.gap with closePrev := s.lt.gate.map (·.ended 7) },
    st := s.setLt (fun l => { l with gate := none, boundary := b, starts := l.starts.filter (fun x => decide (p < x.pos)), skewLead := none }) }

/-- The gating of a line on the device that decides it (R185 to R189, R655). -/
def State.gateLine (s : State) : Gated :=
  let p : Int := 64 * (s.lt.pitchIx : Int)
  if !s.mode.mode.isRun then s.gateNone p
  else if s.mode.mode.isWeb then (if s.active.ltPage.cue = 0 then s.gateGrid p else s.gateCue p)
  else s.gateSheet p

/-- The gating of a follower's line (R199): GATE decides; the code of a close is what the mode implies. -/
def State.gateFollow (gate : Nat) (s : State) : Gated :=
  let isOpen := s.lt.gate.isSome
  let first := s.mode.mode.isRun && gate == 1
  let inPage := first || (s.mode.mode.isRun && gate == 0 && isOpen)
  let code := if s.mode.mode.isWeb then (if s.active.ltPage.cue = 0 then 3 else 4) else if first then 2 else 0
  let page : GatePage := { endPos := none, trail := none, skew := none, lead := none, lines := 0 }
  { first := first, last := false, gap := !inPage,
    info := { closePrev := if isOpen && (first || !inPage) then some (PageEnd.plain code) else none, closeAfter := none, lead := none,
              short := false },
    st := s.setLt (fun l => { l with gate := if inPage then some page else none }) }

/-- Warm-up lines, the first of a capture, are gap lines, and a page that begins among them begins at the first line after them
(R257). -/
def Gated.warm (cap : Nat) (g : Gated) : Gated :=
  let s := g.st
  let wait := if g.info.closePrev.isSome then none else s.ring.warmStart
  let keep := fun (w : Option GateInfo) => { s with ring := { s.ring with warmStart := w } }
  if cap < warmOf s.board.member s.active then
    let w := if g.info.closeAfter.isSome || g.gap then none else if g.first then some g.info else wait
    { g with first := false, last := false, gap := true, info := GateInfo.gap, st := keep w }
  else if g.first || g.gap then { g with st := keep none }
  else match wait with
    | some i => { g with first := true, info := { g.info with lead := i.lead, short := true }, st := keep none }
    | none => g

end Sys2Proof.Machine
end

