-- ==== Sys2Proof/Machine/ModeOps.lean ====
section
/-! DEFINITION. What the transitions between modes do (chapter "Operating modes and transitions", R38 to R46), with entry into
THERMAL_HOLD (R43). -/

namespace Sys2Proof.Machine

/-- The transitions that SET_MODE may ask for (R38). -/
def permits (old new : Mode) : Bool :=
  match old with
  | .idle => new == .standby || new == .diagnose || new == .scrub || new.isCapture
  | .standby | .diagnose | .thermalHold => new == .idle
  | .boot | .scrub => false
  | _ => new == .idle || new.isCapture

/-- A transition begins (R35, R36). -/
def State.transTo (m : Mode) (ctx : Option Nat) (discarded : Nat) (s : State) : State :=
  { s with mode := { s.mode with
      target := m, transit := true,
      trans := some { ctx := ctx, accepted := s.now, discarded := discarded, bytes := 0 } } }

/-- No further line trigger or flush trigger is issued (R43, R45). -/
def State.stopTriggers (s : State) : State :=
  s.setLt (fun l => { l with run := false, pend := none, pendSkips := 0, interpAt := none, genAt := none })

/-- A running command with one place in the machine ends ABORTED. -/
def State.abortCtx (n : Option Nat) (s : State) : State :=
  match n with
  | some n => s.failWith n cAborted
  | none => s

/-- Calibrations and tests that the new mode does not allow end early (R547), but for SHD_CALIBRATE. -/
def State.cutRest (s : State) : State :=
  let s1 := (s.alnAbort).lampTestEnd .aborted cAborted
  let s2 := ({ s1 with ports := { s1.ports with fgCal := none } }).abortCtx (s1.ports.fgCal.map (fun (x : Nat × BitVec 4) => x.1))
  let s3 := ({ s2 with dram := { s2.dram with trainCtx := none } }).abortCtx s2.dram.trainCtx
  ({ s3 with diag := { s3.diag with selfTest := none } }).abortCtx (s3.diag.selfTest.map SelfTest.ctx)

/-- Calibrations and tests that the new mode does not allow end early (R547). -/
def State.cutShort (s : State) : State := (s.shdAbort).cutRest

/-- A front-end die is busy with a line. -/
def FeDie.busy (d : FeDie) : Bool := d.powered && (d.running || !d.trigs.isEmpty)

/-- The line in progress is complete, with its products (R43, R45). -/
def State.linesOver (s : State) : Bool :=
  s.lines.all (·.done) && !s.ports.dies.any (fun d => d.2.busy)

/-- Writes of RT ports still wait for DRAM (R499). -/
def State.panBusy (s : State) : Bool := s.dram.chans.any (fun c => c.2.reqs.any (fun r => r.cls == 0 && r.write))

/-- The Pan queues are empty, with both pointers at word 0 (R499). -/
def State.panClear (s : State) : State :=
  { s with pantry := { s.pantry with pan := [] },
           dram := { s.dram with
             panic := 0,
             chans := s.dram.chans.map (fun (c : Nat × DramChan) =>
               (c.1, { c.2 with reqs := c.2.reqs.filter (fun r => r.cls != 0), flight := c.2.flight.filter (fun r => r.cls != 0) })) } }

/-- Capture ends (R45, R258, R274): lines that need later captures are discarded, the open page closes with its last completed
line, the job ends. -/
def State.endCapture (code : Nat) (s : State) : State :=
  let s1 := (s.closePage (s.openEnd code)).svEnd none
  { s1 with
    lines := [], ring := { s1.ring with warmStart := none },
    lt := { s1.lt with starts := [], boundary := none, gate := none, skewLead := none } }

/-- The row-stagger buffer is released (R253). -/
def State.stagFree (s : State) : State :=
  { s with aln := { s.aln with warmup := false, stagOn := false, stagBase := 0, stagSize := 0, stagLb := 0, stagOld := none, stagRecs := [] } }

/-- Front-end dies that stand without power are powered up, their PLLs lock and their trims are restored (R38, R439). -/
def State.diesOn (s : State) : State :=
  (List.range s.board.member.dies).foldl (fun (s : State) k =>
    if (s.die k).powered then s
    else
      let s1 := (s.restoreTrims k).substitute k
      { s1 with clk := { s1.clk with lockFe := s1.clk.lockFe ||| BitVec.twoPow 4 k } }) s

/-- Every front-end die is powered down. -/
def State.diesOff (s : State) : State := (List.range s.board.member.dies).foldl (fun (s : State) k => s.dieOff k) s

/-- Dies, ports and axes have their power again (R38, R51, R399); while the HW_TRIP latch is set their outputs stay low (R62). -/
def State.powerUp (s : State) : State :=
  if s.rst.thermTrip then s.diesOn else ((s.diesOn).portsOn).gatesOn

/-- DRAM outside the protected partition is zeroed (R480). -/
def State.zeroRest (s : State) : State :=
  let a := s.protSize
  { s with dram := { s.dram with
      mem := s.dram.mem.filter (fun c => decide (c.1 < a)), poison := s.dram.poison.filter (fun b => decide (64 * b < a)) } }

/-- Entry into a capture mode from IDLE (R34, R172, R178, R203, R204, R253, R257, R271, R328, R499): how many tables are applied,
and what is left. -/
def State.captureEntry (s : State) : Nat × State :=
  let r := { s with shd := { s.shd with accFilters := s.shd.filters } }.swap s.staged.keys.eraseDups true
  let s1 := (((r.2.panClear).loadFilters).sklEntry).illumEntry
  let x := s1.active.ltSrc
  let lt : LineUnit := { s1.lt with
    run := true, pos := 0, next := if x.src = 3 then (2 ^ 32 : Nat) else x.div.toNat, counts := [], vEst := 0,
    lastTrig := none, lastAny := none, pend := none, pendSkips := 0, pitchIx := 0, interpAt := none,
    genAt := if x.src = 3 then some (256 * s1.now + x.genPeriod.toNat) else none, seq := 0, seqValid := false, caps := 0,
    skipCnt := 0, encErr := false, enc0 := { s1.lt.enc0 with sum := 0, past := 0 }, enc1 := { s1.lt.enc1 with sum := 0, past := 0 },
    starts := [], boundary := none, gate := none, skewLead := none, pace := .run, paceSlow := false, paceBack := 0 }
  (r.1.1, { s1 with
    lt := lt, lines := [],
    ring := { s1.ring with drops := 0, warmStart := none },
    uzs := { s1.uzs with lost := false, seqErr := false, stopped := false, missed := false, applySeen := none, badRun := 0, lineAt := none },
    ilm := { s1.ilm with dark := false },
    shd := { s1.shd with choices := s1.shd.nextChoices },
    aln := { s1.aln with warmup := true, clamped := false, stagMiss := false, stagOn := true, stagRecs := [] } })

/-! ## Entry into THERMAL_HOLD -/

/-- Entry into THERMAL_HOLD begins (R43, R399, R560): it preempts everything else. A SET_MODE that was leaving THERMAL_HOLD ends, and the
hold goes on. In BOOT the entry waits for the exit. -/
def State.holdEnter (s : State) : State :=
  if s.mode.mode == .boot || s.mode.target == .thermalHold then s
  else
    let ctx := s.mode.trans.bind (·.ctx)
    let s1 := (s.dropApply cAborted).abortCtx ctx
    if s1.mode.mode == .thermalHold then
      { s1 with mode := { s1.mode with target := .thermalHold, transit := false, trans := none } }
    else
      let moves : Bool := match s1.shd.cal with | some c => c.step == .moveIn || c.step == .moveOut | none => false
      (((if moves then s1.shdAbandon else s1).stopTriggers).transTo .thermalHold none 0).stopAxes

/-! ## Arrival in the target mode -/

/-- The command that asked for the transition ends (R39, R562): after it the first line is line 0 (R178). -/
def State.transDone (x : Transition) (tables : Nat) (s : State) : State :=
  match x.ctx with
  | some n => s.done n (le 4 0 ++ le 2 tables ++ le 2 x.discarded)
  | none => s

/-- What has to be over before the target mode is entered. -/
def State.canArrive (s : State) : Bool :=
  match s.mode.target with
  | .idle => s.linesOver && !(s.axis 0).owned && !s.panBusy
  | .thermalHold => s.linesOver
  | _ => true

/-- IDLE is entered from a capture mode, STANDBY, DIAGNOSE or THERMAL_HOLD (R38, R45, R159, R253, R439, R480, R499). -/
def State.idleEntry (s : State) : State :=
  match s.mode.mode with
  | .standby => (((s.zeroRest).powerUp).removals)
  | .diagnose => s.cutShort
  | .thermalHold =>
    let s1 := (((s.stagFree).panClear).powerUp).removals
    { s1 with therm := { s1.therm with released := false, holdSince := none }, ilm := { s1.ilm with dark := false } }
  | .scrub => s.removals
  | _ => (((s.endCapture 5).cutShort).stagFree).panClear

/-- STANDBY is entered (R44, R51, R153, R399, R480). -/
def State.standbyEntry (s : State) : State :=
  let s1 := (s.saveTrims none).getD s
  let s2 := { s1 with ring := { s1.ring with pages := [], cur := none } }
  (((s2.cutShort).portsOff).diesOff).gatesOff

/-- THERMAL_HOLD is entered (R43, R51, R274, R350, R437). From STANDBY, DRAM is brought up as on a wake (R480). -/
def State.holdEntry (s : State) : State :=
  let s0 := if s.mode.mode == .standby then s.zeroRest else s
  let s1 := (((s0.endCapture 6).shdAbandon).cutRest).endQualify
  let s2 := if s1.therm.shutdown then s1.diesOff else s1
  { s2 with therm := { s2.therm with holdSince := some s2.now, released := false }, ilm := { s2.ilm with dark := true } }

/-- The target mode is entered, once it can be (R36 to R46). -/
def State.arrive (s : State) : State :=
  match s.mode.trans with
  | none => s
  | some x =>
    let m := s.mode.target
    if !s.canArrive then s
    else
      match m with
      | .idle => ((s.idleEntry).modeTo .idle).transDone x 0
      | .standby => ((s.standbyEntry).modeTo .standby).transDone x 0
      | .thermalHold => ((s.holdEntry).modeTo .thermalHold).transDone x 0
      | .diagnose => ((s.cutShort).modeTo .diagnose).transDone x 0
      | .scrub =>
        let s1 := ((s.cutShort).endQualify).modeTo .scrub
        ({ s1 with dram := { s1.dram with pos := 0 } }).transDone x 0
      | m =>
        let e := s.captureEntry
        (e.2.modeTo m).transDone x e.1

end Sys2Proof.Machine
end

