-- ==== Sys2Proof/Machine/Modes.lean ====
section
/-! DEFINITION. SET_MODE and the ends of transitions (chapter "Operating modes and transitions", R38 to R49; R403, R455, R560,
R651). -/

namespace Sys2Proof.Machine

/-- A mode accepts the profile (R49). -/
def Mode.fitsProfile (m : Mode) (dense : Bool) : Bool :=
  match m with
  | .webDense => dense
  | .webFast => !dense
  | _ => true

/-- A DMA channel is RUNNING or ABORTING (R44). -/
def State.dmaBusy (s : State) : Bool := s.dma.chans.any (fun c => c.2.state == .running || c.2.state == .aborting)

/-- AX_A is at rest with an empty queue (R403). -/
def State.axAtRest (s : State) : Bool := !(s.axis 0).running && (s.axis 0).queue.isEmpty && (s.axis 0).v == 0 && !(s.axis 0).owned

/-- Why a permitted SET_MODE is refused, if it is (R44, R49, R165, R191, R403, R439, R455, R651); `t` are the tables that will be
in force and `all` says that every repeated check applies. -/
def State.modeFault (m : Mode) (t : Tables) (all : Bool) (s : State) : Option Nat :=
  if s.mode.mode == .thermalHold && !s.therm.released then some cState
  else if (m == .standby || m == .diagnose || m == .scrub) && s.anyAxisBusy then some cState
  else if (m == .standby || m == .scrub) && s.dmaBusy then some cState
  else if !m.isCapture then none
  else if s.dramHw then some cHw
  else if !m.fitsProfile s.dense then some cState
  else if m == .sheetScan && !s.axAtRest then some cState
  else
    match s.applyFault t s.staged.keys.eraseDups all with
    | some e => some e
    | none =>
      if m.isRun && s.hasRing && !check191 s.ring.cap t then some cRange
      else if m == .sheetScan && s.rst.uzsId == 0 && t.ltSrc.src == 3 then some cState
      else none

/-- A change between capture modes is accepted: it is an apply that carries the mode (R41, R198). -/
def State.changeMode (n : Nat) (m : Mode) (when_ : Nat) (target : BitVec 32) (s : State) : Res :=
  if when_ = 1 && !s.targetOk target then .fail cState [] s
  else
    let tgt := if when_ = 1 then some target else if s.isMaster then some (s.nextSeq + 2) else none
    let s1 := s.startApply n tgt (some m)
    .go { s1 with mode := { s1.mode with target := m, transit := true } }

/-- Entry into a capture mode from IDLE is accepted, with the row-stagger buffer (R253). -/
def State.acceptCapture (n : Nat) (m : Mode) (t : Tables) (s : State) : Res :=
  let lb := stagLine s.board.member t
  let size := (t.stagger + 2) * lb
  match s.findRoom s.protSize s.dramSize size with
  | none => .fail cResource [] s
  | some base =>
    .go ({ s with aln := { s.aln with stagBase := base, stagSize := size, stagLb := lb } }.transTo m (some n) 0)

/-- What SET_MODE does. -/
def State.setModeBody (n : Nat) (m : Mode) (when_ : Nat) (target : BitVec 32) (s : State) : Res :=
  let old := s.mode.mode
  let t := s.willBe true s.staged.keys.eraseDups
  if s.mode.transit then .fail cBusy [] s
  else if m == old then .ok (le 8 0) [] s
  else if !permits old m then .fail cState [] s
  else if old.isCapture && m.isCapture && s.mode.apply.isSome then .fail cBusy [] s
  else
    match s.modeFault m t (old == .idle) with
    | some e => .fail e [] s
    | none =>
      if old.isCapture && m.isCapture then s.changeMode n m when_ target
      else if m.isCapture then s.acceptCapture n m t
      else if old.isCapture then .go (((s.dropApply cAborted).stopTriggers).transTo .idle (some n) 0)
      else .go (s.transTo m (some n) (if m == .standby then s.ring.pages.length else 0))

/-- SET_MODE (R38, R562). -/
def takeSetMode (h : Hdr) (mode when_ : BitVec 8) (target : BitVec 32) (s : State) : State :=
  s.take h 0x0101 [.c] true (some 0) ((Mode.ofCode mode.toNat).isSome && decide (when_.toNat ≤ 1)) (fun s =>
    s.setModeBody h.ctx.toNat ((Mode.ofCode mode.toNat).getD .boot) when_.toNat target)

/-- SET_MODE. -/
def execSetMode (h : Hdr) (mode when_ : BitVec 8) (target : BitVec 32) (s : State) : Host.Outcome State Fault Refusal :=
  (takeSetMode h mode when_ target s).out

/-- MODE_TRANSITION_DONE (R36, R38): the transition in progress completes, once what it waits for is over. -/
def execModeTransitionDone (t : Nat) (s : State) : Host.Outcome State Fault Refusal := ((s.atTime t).arrive).out

/-- SCRUB_COMPLETE (R46): job data are erased, the scrub pass is complete, and IDLE is entered. The Skillet store is erased with
the service working memory, which leaves every group with EN = 0 (R346). -/
def execScrubComplete (t : Nat) (s : State) : Host.Outcome State Fault Refusal :=
  let s1 := s.atTime t
  if s1.mode.mode == .scrub && !s1.mode.transit then
    let s2 := { s1 with
      dram := { s1.dram with mem := [], poison := [], pos := 0, passes := s1.dram.passes + 1 },
      active := { s1.active with sklMap := [] }, shadow := { s1.shadow with sklMap := [] },
      skl := { s1.skl with map := [], groups := [], snap := [] } }
    ((s2.idleEntry).modeTo .idle).out
  else s1.out

end Sys2Proof.Machine
end

