-- ==== Sys2Proof/Machine/FaultTest.lean ====
section
/-! DEFINITION. The Stockpot pairs, the heartbeat, the diagnostics of DIAGNOSE and the JTAG port (chapter "Single-fault
masking, online test and live replacement", and R551). -/

namespace Sys2Proof.Machine

/-! ## Stockpot pairs -/

/-- State of a pair. -/
def Cpu.pair (k : Nat) (c : Cpu) : PairState := if k = 0 then c.pair0 else c.pair1

/-- Change the state of a pair. -/
def Cpu.setPair (k : Nat) (p : PairState) (c : Cpu) : Cpu := if k = 0 then { c with pair0 := p } else { c with pair1 := p }

/-- Halts of a pair since the device reset. -/
def Cpu.halts (k : Nat) (c : Cpu) : Nat := if k = 0 then c.all0 else c.all1

/-- One more halt of a pair; HALTS_n saturates (R625). -/
def Cpu.countHalt (k : Nat) (c : Cpu) : Cpu :=
  if k = 0 then { c with all0 := c.all0 + 1, halts0 := satAdd 3 c.halts0 1 }
  else { c with all1 := c.all1 + 1, halts1 := satAdd 3 c.halts1 1 }

/-- A pair in service halts (R623, R624): Trivet restarts it, unless this is its fourth halt. A serving pair hands over to a
standby. -/
def State.halt (k : Nat) (s : State) : State :=
  if (s.cpu.pair k).inService then
    let c := (s.cpu.countHalt k).setPair k (if 4 ≤ s.cpu.halts k + 1 then .out else .restarting)
    if s.cpu.pair k == .serving && s.cpu.pair (1 - k) == .standby then
      ({ s with cpu := { c.setPair (1 - k) .serving with serving := 1 - k, failovers := satAdd 0xFFFF c.failovers 1 } }).pulse 5
    else { s with cpu := c }
  else s

/-- LOCKSTEP_MISMATCH (R623). -/
def execLockstepMismatch (t : Nat) (pair : BitVec 1) (s : State) : Host.Outcome State Fault Refusal :=
  ((s.atTime t).halt pair.toNat).out

/-- PAIR_RESTART_DONE (R624): standby, or serving where no pair serves; a pair that fails stays out of service. -/
def execPairRestartDone (t : Nat) (pair : BitVec 1) (ok : Bool) (s : State) : Host.Outcome State Fault Refusal :=
  let s1 := s.atTime t
  let k := pair.toNat
  if s1.cpu.pair k == .restarting then
    (if !ok then { s1 with cpu := s1.cpu.setPair k .out }
     else if s1.served then { s1 with cpu := s1.cpu.setPair k .standby }
     else { s1 with cpu := { s1.cpu.setPair k .serving with serving := k } }).out
  else s1.out

/-- STANDBY_SELFTEST (R624): a failure is a halt of the standby. -/
def execStandbySelftest (t : Nat) (ok : Bool) (s : State) : Host.Outcome State Fault Refusal :=
  let s1 := s.atTime t
  (if ok || s1.mode.mode == .boot then s1
   else if s1.cpu.pair0 == .standby then s1.halt 0
   else if s1.cpu.pair1 == .standby then s1.halt 1
   else s1).out

/-- HEARTBEAT_TICK (R551). -/
def execHeartbeatTick (t : Nat) (s : State) : Host.Outcome State Fault Refusal :=
  let s1 := s.atTime t
  (if s1.served && !(s1.mode.mode == .boot) then { s1 with host := { s1.host with beat := s1.host.beat + 1, beatBy := s1.cpu.serving } }
   else s1).out

/-! ## Diagnostics -/

/-- DIAG_PATTERN (R632, R580): how many pixels differ depends on the fault it looks for, so a run of one line or more has a
free value. A run that cannot end within the bound of R580 ends ERR_TIMEOUT (R547). -/
def takeDiagPattern (h : Hdr) (pattern : BitVec 8) (lines : BitVec 32) (s : State) : State :=
  s.take h 0x0F02 [.d] true (some 0) (decide (pattern.toNat ≤ 3)) (fun s =>
    if lines = 0 then .ok (le 4 0) [] s
    else if 10000000000 < lines.toNat * s.tMin then .fail cTimeout [] s
    else
      let r := s.free 32
      .ok (le 4 r.1) [] r.2)

/-- DIAG_PATTERN. -/
def execDiagPattern (h : Hdr) (pattern : BitVec 8) (lines : BitVec 32) (s : State) : Host.Outcome State Fault Refusal :=
  (takeDiagPattern h pattern lines s).out

/-- DIAG_SELFTEST (R633): the first test starts; with no test named the command ends at once. -/
def takeDiagSelftest (h : Hdr) (tests : BitVec 32) (s : State) : State :=
  s.take h 0x0F03 [.d] true (some 0) (decide (tests.toNat < 2 ^ 15)) (fun s =>
    match setBits 15 tests.toNat with
    | [] => .ok (le 4 0) [] s
    | k :: ks =>
      if s.diag.selfTest.isSome then .fail cBusy [] s
      else .go { s with diag := { s.diag with
        selfTest := some { ctx := h.ctx.toNat, cur := k, left := ks, failed := [], aborted := false } } })

/-- DIAG_SELFTEST. -/
def execDiagSelftest (h : Hdr) (tests : BitVec 32) (s : State) : Host.Outcome State Fault Refusal :=
  (takeDiagSelftest h tests s).out

/-- The FAILED mask. -/
def SelfTest.mask (x : SelfTest) : Nat := mkBits 32 (fun i => x.failed.contains i)

/-- SELFTEST_TEST_DONE (R633). -/
def execSelftestTestDone (t : Nat) (result : BitVec 8) (durMs : BitVec 16) (detail : BitVec 32) (s : State) :
    Host.Outcome State Fault Refusal :=
  let s1 := s.atTime t
  match s1.diag.selfTest with
  | none => s1.out
  | some x =>
    let s2 := s1.partialRec x.ctx 0 (le 1 x.cur ++ le 1 result.toNat ++ le 2 durMs.toNat ++ le 4 (if result = 1 then detail.toNat else 0))
    let y := { x with failed := if result = 1 then x.failed ++ [x.cur] else x.failed }
    let over_ := { s2 with diag := { s2.diag with selfTest := none } }
    if y.aborted then (over_.finish y.ctx .aborted cAborted (le 4 y.mask) []).out
    else match y.left with
      | k :: ks => ({ s2 with diag := { s2.diag with selfTest := some { y with cur := k, left := ks } } }).out
      | [] => (over_.done y.ctx (le 4 y.mask)).out

/-! ## JTAG -/

/-- The device's compliance-enable condition (R634). -/
def State.complies (s : State) : Bool := s.mode.mode == .diagnose || !s.rst.porst

/-- The instruction takes the balls from their functional drive. -/
def irDrives : JtagIr → Bool
  | .extest | .clamp | .highz => true
  | _ => false

/-- The boundary-scan register holds the balls (R634). -/
def State.ballsScanned (s : State) : Bool := irDrives s.rst.jtagIr && s.complies

/-- The cells that the boundary register has at a ball (R635). -/
inductive Cells where
  | driveCapture | captureOnly | none | tap
  deriving DecidableEq, Repr

/-- The table of boundary cells (R57, R635). ZQ, which the table does not name, is an analogue ball and has none; the side-band signals
of PCIe are CMOS and open-drain balls (DEDUCED: log entry 186). -/
def ballCells : Ball → Cells
  | .pat _ _ | .ppwrEn _ | .ppresN _ | .lp5x _ _ | .dramResetN => .driveCapture
  | .perstN _ | .clkreqN _ | .wakeN _ | .prsntN _ | .pcieSplit => .driveCapture
  | .xspiCk | .xspiCsN _ | .xspiDq _ | .xspiDqs | .xspiResetN => .driveCapture
  | .sheet _ | .stepIn _ | .dirIn _ | .mg _ _ _ | .motFltN _ | .lrGh _ | .lrGl _ | .lstb _ => .driveCapture
  | .lswClk _ | .lswDat _ | .lswLat _ | .lswRet _ | .fastev _ | .slk _ => .driveCapture
  | .uzsClk | .uzsLine | .uzsDat | .uzsId _ | .dbgTx | .dbgRx | .hostAlertN => .driveCapture
  | .porstN | .sysrstN | .resetOutN | .thermtripN => .driveCapture
  | .encA _ | .encB _ | .encZ _ | .mainsRef => .captureOnly
  | .vin _ _ | .vref _ | .zq _ | .pcieTx _ | .pcieRx _ | .pcieRefclk _ | .mi _ _ | .mv _ _ | .lrCs _ | .lrVfb _ | .mon _ | .mref => .none
  | .xtalIn | .xtalOut | .sysclk => .none
  | .tck | .tms | .tdi | .tdo | .trstN => .tap

/-- The instruction selects the boundary register for scans. -/
def irScans : JtagIr → Bool
  | .samplePreload | .extest => true
  | _ => false

/-- JTAG_INSTRUCTION (R634, R635, R606): a debug instruction that is not open selects BYPASS. `scan` is what the scans under the
instruction load into the cells that drive. -/
def execJtagInstruction (t : Nat) (scan : JtagScan) (s : State) : Host.Outcome State Fault Refusal :=
  let s1 := s.atTime t
  let ir' := if scan.ir == .debug && !s1.sec.debugOpen then JtagIr.bypass else scan.ir
  let cells := if irScans ir' then scan.cells.filter (fun (c : Ball × Bool) => ballCells c.1 == .driveCapture) else []
  let kept := s1.rst.bsr.filter (fun (c : Ball × Bool) => !cells.any (fun x => x.1 == c.1))
  ({ s1 with rst := { s1.rst with jtagIr := ir', bsr := cells ++ kept } }).out

end Sys2Proof.Machine
end

