-- ==== Sys2Proof/Machine/HostLink.lean ====
section
/-! DEFINITION. Host ports: link states, port resets, removal, failover, and the host's handling of events and vectors (chapters
"Host link, hot-plug and command mailbox" and "Event catalogue and register map"). -/

namespace Sys2Proof.Machine

/-- The contexts a port owns (R539). -/
def State.ctxsOf (p : Nat) (s : State) : List Nat := (List.range 256).filter (fun n => (s.ctx n).owner == p)

/-- The port exists: port 1 only in the split layout (R59). -/
def State.hasPort (p : Nat) (s : State) : Bool := p == 0 || s.host.split

/-- The route table or the enables change: a vector whose condition becomes 1 sends its message (R640). -/
def State.rerouted (f : EvUnit → EvUnit) (s : State) : State :=
  let s1 := { s with ev := f s.ev }
  let pvs := (List.range 2).flatMap (fun p => (List.range 64).map (fun v => (p, v)))
  (pvs.filter (fun x => !s.vecCond x.1 x.2 && s1.vecCond x.1 x.2)).foldl (fun s x => s.msix x.1 x.2) s1

/-- MSI-X table and configuration space return to their reset values (R537). -/
def State.funcReset (p : Nat) (s : State) : State := s.setPort p (fun h => { h with msix := [], d3 := false })

/-- The port's link takes another state; `since` is when it was last lost or taken down. -/
def State.linkTo (p : Nat) (l : PortLink) (s : State) : State :=
  s.setPort p (fun h => { h with link := l, since := if h.link.isDown then h.since else s.now })

/-- What follows the completion entry of a command: OP_STATUS shows the final state (R546), a port that QUIESCE has prepared is
QUIESCED (R538), and the reset of DEV_RESET or of a lifecycle transition comes 100 us later (R108, R605). -/
def State.entryDone (n : Nat) (e : Ending) (s : State) : State :=
  let s1 := s.setCtx n (fun x => { x with ending := none, opState := e.state, result := e.result, discard := false })
  if e.state == .done then
    match e.opcode with
    | 0x0103 => { s1 with rst := { s1.rst with devResetAt := some (s1.now + 100000) } }
    | 0x0104 => if (s1.port (s1.ctx n).owner).link == .up then s1.linkTo (s1.ctx n).owner .quiesced else s1
    | 0x0E03 => { s1 with rst := { s1.rst with secResetAt := some (s1.now + 100000) } }
    | _ => s1
  else s1

/-- A command of a reset port: its completion entry is discarded (R537). -/
def State.discardEntry (n : Nat) (s : State) : State :=
  let s1 := s.setCtx n (fun x => { x with rung := false })
  match (s1.ctx n).ending with
  | some e => s1.entryDone n e
  | none => s1.setCtx n (fun x => { x with discard := x.cur.isSome })

/-- A port reset (R537). The function's vectors are reset first, so that no message leaves it. -/
def State.portReset (p : Nat) (s : State) : State :=
  let s1 := ((List.range 64).filter (fun c => (s.chan c).port == p)).foldl (State.dmaKill .idle) (s.funcReset p)
  let s2 := (s.ctxsOf p).foldl (fun s n => ((s.flushQ (256 + n)).flushQ (512 + n)).discardEntry n) s1
  s2.funcReset p

/-- The link of an UP port is lost (R537): a bus error, HOST_LINK_DOWN, and the port in the state given. The manual names no
faulting address for it: a free value. -/
def State.lossOf (p : Nat) (l : PortLink) (s : State) : State :=
  let r := s.free 64
  ((((r.2.linkTo p l).funcReset p).busError 4 p r.1).pulse 240)

/-- PERST_N_ASSERT (R537). -/
def execPerstNAssert (t : Nat) (port : BitVec 1) (s : State) : Host.Outcome State Fault Refusal :=
  let s1 := s.atTime t
  let p := port.toNat
  if s1.hasPort p then
    (((s1.portReset p).linkTo p .down).setPort p (fun h => { h with perst := false, width := 0, speed := 0 })).dmaOut
  else s1.out

/-- PERST_N_RELEASE (R535): training starts. -/
def execPerstNRelease (t : Nat) (port : BitVec 1) (s : State) : Host.Outcome State Fault Refusal :=
  let s1 := s.atTime t
  (if s1.hasPort port.toNat then s1.setPort port.toNat (fun h => { h with perst := true }) else s1).out

/-- Widths and speeds to which a link can train (R59, R80, R554): 16 lanes in the one-port layout, 8 in the split one. -/
def State.trains (width : BitVec 5) (speed : BitVec 3) (s : State) : Bool :=
  [1, 2, 4, 8, 16].contains width.toNat && (!s.host.split || decide (width.toNat ≤ 8)) && decide (1 ≤ speed.toNat) && decide (speed.toNat ≤ 5)

/-- LINK_UP (R59, R80, R536): from DOWN or LOST, with PERST_N high and a card present. -/
def execLinkUp (t : Nat) (port : BitVec 1) (width : BitVec 5) (speed : BitVec 3) (s : State) :
    Host.Outcome State Fault Refusal :=
  let s1 := s.atTime t
  let p := port.toNat
  let h := s1.port p
  if s1.hasPort p && h.link.isDown && h.perst && h.prsnt && s1.rst.phase.linksAllowed && s1.trains width speed then
    let s2 := s1.setPort p (fun h => { h with link := .up, width := width, speed := speed })
    ((s2.ctxsOf p).foldl (fun s n => if (s.ctx n).shut then s.setCtx n (fun x => { x with shut := false }) else s) s2).out
  else s1.out

/-- LINK_LOSS (R536, R537): an UP port is LOST; a QUIESCED port goes DOWN, and as it carries no channel traffic there is no bus error (R526). -/
def execLinkLoss (t : Nat) (port : BitVec 1) (s : State) : Host.Outcome State Fault Refusal :=
  let s1 := s.atTime t
  let p := port.toNat
  match (s1.port p).link with
  | .up => (s1.lossOf p .lost).dmaOut
  | .quiesced => (((s1.linkTo p .down).funcReset p).pulse 240).out
  | _ => s1.out

/-- FUNCTION_LEVEL_RESET (R537). -/
def execFunctionLevelReset (t : Nat) (port : BitVec 1) (s : State) : Host.Outcome State Fault Refusal :=
  let s1 := s.atTime t
  (if s1.hasPort port.toNat then s1.portReset port.toNat else s1).dmaOut

/-- HOT_RESET (R537). -/
def execHotReset (t : Nat) (port : BitVec 1) (s : State) : Host.Outcome State Fault Refusal :=
  let s1 := s.atTime t
  (if s1.hasPort port.toNat then s1.portReset port.toNat else s1).dmaOut

/-- D3HOT_ENTRY (R534, R537). -/
def execD3hotEntry (t : Nat) (port : BitVec 1) (s : State) : Host.Outcome State Fault Refusal :=
  let s1 := s.atTime t
  (if s1.hasPort port.toNat then (s1.portReset port.toNat).setPort port.toNat (fun h => { h with d3 := true }) else s1).dmaOut

/-- PRSNT_N_CHANGE (R536, R537): a card pulled from an UP port is a link loss that leaves the port DOWN; from a QUIESCED port as LINK_LOSS. -/
def execPrsntNChange (t : Nat) (port : BitVec 1) (high : Bool) (s : State) : Host.Outcome State Fault Refusal :=
  let s1 := s.atTime t
  let p := port.toNat
  if s1.hasPort p then
    let s2 := s1.setPort p (fun h => { h with prsnt := !high })
    (if high then
      match (s1.port p).link with
      | .up => s2.lossOf p .down
      | .quiesced => ((s2.linkTo p .down).funcReset p).pulse 240
      | _ => s2.linkTo p .down
    else s2).dmaOut
  else s1.out

/-- Aborts the channels of a port that have not ended their descriptor, counting them (R538, R524). -/
def State.quiesceAbort (p : Nat) (s : State) : Nat × State :=
  let cs := (List.range 64).filter (fun c => (s.chan c).port == p && (s.chan c).state == .running)
  (cs.length, cs.foldl (fun s c => s.dmaAbort c) s)

/-- QUIESCE (R538). -/
def takeQuiesce (h : Hdr) (dmaMode : BitVec 8) (timeout : BitVec 32) (s : State) : State :=
  s.take h 0x0104 [.c] true (some 0) (decide (dmaMode.toNat ≤ 1) && decide (timeout.toNat ≤ 60000)) (fun s =>
    let n := h.ctx.toNat
    let p := (s.ctx n).owner
    if s.host.split && !((s.port (1 - p)).link == .up) then .fail cState [] s
    else
      let s1 := (s.ctxsOf p).foldl (fun s k => s.setCtx k (fun x => { x with shut := true })) s
      let r := if dmaMode = 1 then s1.quiesceAbort p else (0, s1)
      let ms := if timeout = 0 then 1000 else timeout.toNat
      .go ((r.2.setPort p (fun x => { x with quiesce := some (n, dmaMode == 1, s.now + ms * 1000000, r.1) })).quiesceCheck p))

/-- QUIESCE. -/
def execQuiesce (h : Hdr) (dmaMode : BitVec 8) (timeout : BitVec 32) (s : State) : Host.Outcome State Fault Refusal :=
  (takeQuiesce h dmaMode timeout s).out

/-- QUIESCE_TIMEOUT (R538). -/
def execQuiesceTimeout (t : Nat) (port : BitVec 1) (s : State) : Host.Outcome State Fault Refusal :=
  let s1 := s.atTime t
  let p := port.toNat
  match (s1.port p).quiesce with
  | some (n, m, d, k) =>
    if d ≤ s1.now then
      let r := s1.quiesceAbort p
      (r.2.setPort p (fun x => { x with quiesce := if (r.2.port p).quiesce.isSome then some (n, m, d, k + r.1) else none })).dmaOut
    else s1.out
  | none => s1.out

/-- MB_TAKEOVER (R540, R642). -/
def takeMbTakeover (h : Hdr) (s : State) : State :=
  s.take h 0x0105 [.c] true (some 0) true (fun s =>
    let p := (s.ctx h.ctx.toNat).owner
    let o := 1 - p
    let hp := s.port o
    let gone := hp.link == .quiesced || (hp.link.isDown && decide (hp.since + 10000000 ≤ s.now))
    if !s.host.split || !gone then .fail cState [] s
    else
      let cs := s.ctxsOf o
      let ds := (List.range 64).filter (fun c => (s.chan c).port == o && ((s.chan c).window.isSome || (s.chan c).queue.isSome))
      let rs : SMap Route := s.ev.route.filter (fun r => !r.2.toCpu && b2n r.2.port == o)
      let s1 := cs.foldl (fun s n => s.setCtx n (fun x => { x with owner := p, shut := false })) s
      let s2 := ds.foldl (fun s c => s.setChan c (fun x => { x with port := p })) s1
      let s3 := { s2 with host := { s2.host with movedRoutes := List.map Prod.fst rs } }
      .ok (le 1 cs.length ++ le 1 ds.length) [] (s3.rerouted (fun e =>
        { e with route := List.foldl (fun (m : SMap Route) (r : Nat × Route) => sset Route.reset r.1 { r.2 with port := p == 1 } m) e.route rs })))

/-- MB_TAKEOVER. -/
def execMbTakeover (h : Hdr) (s : State) : Host.Outcome State Fault Refusal := (takeMbTakeover h s).out

/-- MB_GIVEBACK (R540, R642): to a port that is UP, from the other one. -/
def takeMbGiveback (h : Hdr) (port : BitVec 8) (s : State) : State :=
  s.take h 0x0106 [.c] true (some 0) (decide (port.toNat ≤ 1)) (fun s =>
    let p := port.toNat
    if !s.host.split || (s.ctx h.ctx.toNat).owner == p || !((s.port p).link == .up) then .fail cState [] s
    else
      let s1 := (List.range' (128 * p) 128).foldl (fun s n => s.setCtx n (fun x => { x with owner := p })) s
      let s2 := { s1 with host := { s1.host with movedRoutes := [] } }
      .ok [] [] (s2.rerouted (fun e =>
        { e with route := s.host.movedRoutes.foldl (fun (m : SMap Route) i => supd Route.reset i (fun r => { r with port := p == 1 }) m) e.route })))

/-- MB_GIVEBACK. -/
def execMbGiveback (h : Hdr) (port : BitVec 8) (s : State) : Host.Outcome State Fault Refusal := (takeMbGiveback h port s).out

/-- MB_BUF_SET (R544, R563, R654): SIZE 0 releases the buffer and names no window. -/
def takeMbBufSet (h : Hdr) (window : BitVec 8) (offset size : BitVec 32) (s : State) : State :=
  s.take h 0x0108 [.c] true (some 0) (size.toNat % 64 == 0) (fun s =>
    if size = 0 then .ok [] [] (s.setCtx h.ctx.toNat (fun x => { x with buf := none }))
    else if (s.win window.toNat).isNone then .fail cState [] s
    else if !s.winHas window.toNat offset.toNat size.toNat then .fail cRange [] s
    else .ok [] [] (s.setCtx h.ctx.toNat (fun x =>
      { x with buf := some { window := window.toNat, offset := offset.toNat, size := size.toNat } })))

/-- MB_BUF_SET. -/
def execMbBufSet (h : Hdr) (window : BitVec 8) (offset size : BitVec 32) (s : State) : Host.Outcome State Fault Refusal :=
  (takeMbBufSet h window offset size s).out

/-- A write to EV_LATCH_j (R638, R640): `resets` are sources that set their latch again in the same cycle. -/
def State.latchWrite (j : Nat) (data : BitVec 32) (resets : BitVec 256) (s : State) : State :=
  let mask : BitVec 256 := data.setWidth 256 <<< (32 * j)
  let hold := s.ev.raw &&& ~~~s.ev.edge
  let kept := resets ||| hold
  let latch := (s.ev.latch &&& ~~~mask) ||| (s.ev.latch &&& mask &&& kept) ||| (mask &&& resets)
  let counts := s.ev.latch &&& mask &&& ~~~(hold &&& ~~~resets)
  let s1 := { s with ev := { s.ev with latch := latch } }
  let pvs := ((List.range 256).filter (fun i => counts.getLsbD i && !(s.route i).toCpu)).map
    (fun i => (b2n (s.route i).port, (s.route i).vec.toNat))
  (pvs.eraseDups.filter (fun x => s.vecCond x.1 x.2 && s1.vecCond x.1 x.2)).foldl (fun s x => s.msix x.1 x.2) s1

/-- EV_LATCH_WRITE (R640). -/
def execEvLatchWrite (t : Nat) (j : BitVec 3) (data : BitVec 32) (resets : BitVec 256) (s : State) :
    Host.Outcome State Fault Refusal :=
  let s1 := s.atTime t
  (if s1.mode.mode == .boot then s1 else s1.latchWrite j.toNat data resets).out

/-- A vector is unmasked: a held message goes if its condition, or a channel's INT on the vector, still holds (R640). -/
def State.unmask (p v : Nat) (s : State) : State :=
  let e := sget MsixEntry.reset v (s.port p).msix
  let s1 := s.setPort p (fun h => { h with msix := sset MsixEntry.reset v { e with ctrl := e.ctrl &&& ~~~1#32, pending := false } h.msix })
  let dma := s.dma.chans.any (fun c => c.2.int && c.2.intEn && c.2.port == p && decide (c.2.vec.toNat = v))
  if e.pending && (s.vecCond p v || dma) then s1.msix p v else s1

/-- MSIX_UNMASK (R640). -/
def execMsixUnmask (t : Nat) (port : BitVec 1) (vec : BitVec 6) (s : State) : Host.Outcome State Fault Refusal :=
  ((s.atTime t).unmask port.toNat vec.toNat).out

end Sys2Proof.Machine
end

