-- ==== Sys2Proof/Machine/Thermal.lean ====
section
/-! DEFINITION. The thermal unit: sensors, cross-check, region values, level and rate limits (chapter "Temperature sensing and the
Simmer scheduler", R429 to R439, R449, R450; R62). -/

namespace Sys2Proof.Machine

/-- Sensors of the device (R429). -/
def State.sensors (s : State) : List Nat := List.range (16 + 2 * s.board.member.dies)

/-- The front-end sensors with the core sensor that each names (R430). -/
def feSensor : List (Nat × Nat) :=
  [(16, 0), (17, 1), (18, 2), (19, 3), (20, 12), (21, 13), (22, 14), (23, 15)]

/-- The neighbours of a sensor in the order of R430. -/
def neighbours (i : Nat) : List Nat :=
  if i < 16 then
    let r := i / 4
    let c := i % 4
    (if r < 3 then [i + 4] else []) ++ (if 0 < r then [i - 4] else []) ++ (if c < 3 then [i + 1] else []) ++
      (if 0 < c then [i - 1] else []) ++ (feSensor.filter (fun x => x.2 == i)).map (·.1)
  else
    (if i % 2 = 0 then i + 1 else i - 1) :: (feSensor.filter (fun x => x.1 == i)).map (·.2)

/-- The neighbours that the device has. -/
def State.nearOf (i : Nat) (s : State) : List Nat := (neighbours i).filter (fun j => s.sensors.contains j)

/-- The valid neighbours. -/
def State.validNear (i : Nat) (s : State) : List Nat := (s.nearOf i).filter (fun j => !(s.sensor j).suspect)

/-- Change a sensor. -/
def State.setSensor (i : Nat) (f : Sensor → Sensor) (s : State) : State :=
  { s with therm := { s.therm with sensors := supd Sensor.reset i f s.therm.sensors } }

/-- G_ij in Q8.16. -/
def State.diff (i j : Nat) (s : State) : Int := sget 0 (32 * i + j) s.therm.g

/-- The factory values of G_ij are loaded (R431). -/
def State.loadModel (s : State) : State :=
  let g := s.sensors.foldl (fun (m : SMap Int) i =>
    (s.nearOf i).foldl (fun (m : SMap Int) j => sset 0 (32 * i + j) (clampI (-655360) 655360 (Config.factoryDiff i j)) m) m) []
  { s with therm := { s.therm with g := g, noModel := false } }

/-- The prediction of a sensor in Q8.8 from some readings (R431): the mean over its valid neighbours. -/
def State.predict (ts : List Int) (i : Nat) (s : State) : Option Int :=
  let l := s.validNear i
  if l.isEmpty then none else some (divRound ((l.map (fun j => 256 * ts.getD j 0 + s.diff i j)).sum) (256 * l.length))

/-- One sensor meets its sample (R432): its prediction, its own history, and whether it is suspect. `old` is the state before any sensor
of this sample was judged. -/
def State.judgeSensor (old : State) (ts : List Int) (s : State) (i : Nat) : State :=
  let x := old.sensor i
  let v : Int := ts.getD i 0
  let p := old.predict ts i
  let rise : Int := match (x.raw.drop 4).head? with | some y => v - y | none => 0
  let off : Nat := match p with | some q => (v - q).natAbs | none => 0
  let s1 := s.setSensor i (fun y => { y with reading := v, pred := p.getD y.pred, raw := (v :: x.raw).take 5 })
  if s.therm.noModel then s1
  else if x.suspect then
    let calm : Nat := if p.isSome && decide (off ≤ 1536) && decide (rise ≤ 128) then x.calm + 1 else 0
    s1.setSensor i (fun y => if 1000 ≤ calm then { y with suspect := false, calm := 0, hist := [] } else { y with calm := calm })
  else if decide (3072 < off) || decide ((256 : Int) < rise) then
    (s1.setSensor i (fun y => { y with suspect := true, calm := 0, hist := [] })).pulse 192
  else s1

/-- The expected differences learn from valid pairs (R431). -/
def State.learn (s : State) : State :=
  if s.therm.noModel then s
  else
    let good := fun i => !(s.sensor i).suspect
    let g := (s.sensors.filter good).foldl (fun (m : SMap Int) i =>
      ((s.nearOf i).filter good).foldl (fun (m : SMap Int) j =>
        let old := s.diff i j
        sset 0 (32 * i + j)
          (clampI (-655360) 655360 (old + sar (256 * ((s.sensor i).reading - (s.sensor j).reading) - old) 14)) m) m) s.therm.g
    { s with therm := { s.therm with g := g } }

/-- The largest of some values. -/
def largest : List Int → Option Int
  | [] => none
  | x :: l => some (l.foldl max x)

/-- The value of a region (R433); with no valid sensor on the device the manual gives none, and `open_` stands in. -/
def State.regionValue (open_ : Int) (i : Nat) (s : State) : Int :=
  let read := fun j => (s.sensor j).reading
  if !(s.sensor i).suspect then read i
  else
    match largest ((s.validNear i).map read) with
    | some v => v
    | none => (largest ((s.sensors.filter (fun j => !(s.sensor j).suspect)).map read)).getD open_

/-- Rise of a region over the last `n` samples, or since its history began (R436). -/
def riseOver (n : Nat) (v : Int) (hist : List Int) : Int :=
  match (hist.take n).getLast? with
  | some y => v - y
  | none => 0

/-- Every region takes its value, with its rate history (R433, R436). -/
def State.regionsTake (s : State) : State :=
  let f := if s.sensors.all (fun i => (s.sensor i).suspect) then s.free 16 else (0, s)
  f.2.sensors.foldl (fun (x : State) i =>
    let v := s.regionValue (signed 16 f.1) i
    x.setSensor i (fun y =>
      { y with value := v, hist := (v :: y.hist).take 200, good := if riseOver 200 v y.hist ≤ 128 then y.good + 1 else 0 })) f.2

/-- Some region has risen by more than 1.0 degree over the last `n` ms; `old` holds the histories before this sample. -/
def State.rising (n : Nat) (old s : State) : Bool :=
  s.sensors.any (fun i =>
    let h := if (old.sensor i).suspect == (s.sensor i).suspect then (old.sensor i).hist else []
    decide (256 < riseOver n (s.sensor i).value h))

/-- T_hot with its region (R433). -/
def State.hottest (s : State) : Int × Nat :=
  s.sensors.foldl (fun (b : Int × Nat) i => if b.1 < (s.sensor i).value then ((s.sensor i).value, i) else b) ((s.sensor 0).value, 0)

/-- HW_TRIP (R62, R397, R434): the latch, and every gate and power output forced low. -/
def State.hwTrip (s : State) : State :=
  if s.rst.thermTrip then s
  else
    let s1 := { s with rst := { s.rst with thermTrip := true, tripSeen := true }, ilm := { s.ilm with dark := true } }
    let s2 := (List.range 4).foldl (fun (s : State) x =>
      if (s.motCfg x).en then s.haltAxis x .hardFault 4 else s.setAx x (fun a => { a with gates := false })) s1
    let s3 := (List.range 4).foldl (fun (s : State) w => s.setRow w (fun r => { r with run := none, regTo := 0 })) s2
    s3.portsOff

/-- SHUTDOWN (R437): Trivet starts no further line program; records not yet committed are given up, but for the one whose line is
being programmed, and the command that asked for one ends with ERR_HW. Then THERMAL_HOLD is entered. -/
def State.shutdownNow (s : State) : State :=
  let now_ := (s.sec.writes.take 1).filter (fun w => w.waitSince.isNone)
  let gone := s.sec.writes.drop now_.length
  let ctxs := (gone.filterMap (·.ctx)).eraseDups
  let left := now_.map (fun (w : NvWrite) => if w.ctx.any ctxs.contains then { w with ctx := none } else w)
  let s1 := { s with sec := { s.sec with writes := left, stopNv := true, svnDue := s.sec.svnDue || gone.any (·.why == NvWhy.svn) },
                     therm := { s.therm with shutdown := true, nvBlock := true, nvSafe := left.isEmpty } }
  let s2 := (((ctxs.foldl (fun (s : State) n => s.failWith n cHw) s1)).pulse 194).holdEnter
  let s3 := { s2 with therm := { s2.therm with released := false } }
  if s3.mode.mode == .thermalHold then s3.diesOff else s3

/-- The SVN counter of the running image's key domain is raised to its FW_SVN (R598); while NV_BLOCK holds the raise waits. -/
def State.svnRaise (s : State) : State :=
  if !s.sec.svnDue then s
  else
    let owner := s.sec.keyId == 1
    let cur := if owner then s.sec.svnOwner else s.sec.svnVendor
    if s.sec.fwSvn.toNat ≤ cur.toNat then { s with sec := { s.sec with svnDue := false } }
    else
      match s.nvPut (if owner then .svnOwner else .svnVendor) (le 4 s.sec.fwSvn.toNat) .svn none with
      | some s1 => { s1 with sec := { s1.sec with svnDue := false } }
      | none => s

/-- THERM_SAMPLE (R429 to R439): one sample of every sensor, in Q8.8. -/
def execThermSample (t : Nat) (readings : List Int) (s : State) : Host.Outcome State Fault Refusal :=
  let s0 := s.atTime t
  if !s0.rst.phase.linksAllowed then s0.out
  else
    let s1 := if s0.therm.noModel && decide (s0.rst.endedAt + 2000000 ≤ s0.now) then s0.loadModel else s0
    let ts := (List.range 24).map (fun i => clampI (-14080) 38400 (readings.getD i (s1.sensor i).reading))
    let s2 := ((s1.sensors.foldl (State.judgeSensor s1 ts) s1).learn)
    let s3 := s2.regionsTake
    let hot := s3.hottest
    let th := hot.1
    let hold := fun (since : Option Nat) (on : Bool) => if on then some (since.getD s3.now) else none
    let warnR := if State.rising 200 s1 s3 then true else s3.therm.rorWarn && !s3.sensors.all (fun i => decide (200 ≤ (s3.sensor i).good))
    let trip := State.rising 50 s1 s3
    let x := s3.therm
    let s4 := { s3 with therm := { x with
      tHot := th, hotReg := hot.2, warn := if 25600 ≤ th then true else x.warn && decide (24832 ≤ th),
      nvBlock := if 29440 ≤ th then true else x.nvBlock && decide (28160 ≤ th), rorWarn := warnR, rorTrip := x.rorTrip || trip,
      coolSince := hold x.coolSince (decide (th ≤ s3.simmer.cfg.tRelease)),
      hotSince := hold x.hotSince (decide (s3.simmer.cfg.tHold ≤ th)) } }
    let s5 := s4.pulseIf (trip && !x.rorTrip) 196
    let s6 := if decide (30720 ≤ th) && !x.shutdown then s5.shutdownNow else s5
    let lied := s6.sensors.any (fun i =>
      (s6.sensor i).suspect && decide (32000 ≤ (s6.sensor i).reading) && (s6.nearOf i).any (fun j => decide (28160 ≤ (s6.sensor j).reading)))
    (if decide (32000 ≤ th) || lied then s6.hwTrip else s6.svnRaise).out

/-! ## Registers and THERM_READ -/

/-- THERM_STATUS (R449). -/
def State.thermStatus (s : State) : Nat :=
  let x := s.therm
  unsign 16 x.tHot + 2 ^ 16 * x.hotReg + 2 ^ 21 * b2n x.warn + 2 ^ 22 * b2n x.nvBlock + 2 ^ 23 * b2n x.shutdown +
    2 ^ 24 * b2n x.nvSafe + 2 ^ 25 * b2n x.rorWarn + 2 ^ 26 * b2n x.rorTrip + 2 ^ 27 * b2n x.released + 2 ^ 28 * b2n x.noModel

/-- THERM_SUSPECT (R449). -/
def State.thermSuspect (s : State) : Nat := mkBits 24 (fun i => (s.sensor i).suspect)

/-- THERM_TEMP_j (R450). -/
def State.thermTemp (j : Nat) (s : State) : Nat :=
  let f := fun i => if s.sensors.contains i then unsign 16 (s.sensor i).value else 0x8000
  f (2 * j) + 2 ^ 16 * f (2 * j + 1)

/-- Blocked intervals among the last 100 (R443). -/
def Simmer.blockedCount (x : Simmer) : Nat := (x.blocked.filter id).length

/-- SIMMER_STATUS, SIMMER_BUDGET and SIMMER_POWER (R451), powers in 0.1 W, bandwidth in 0.01 GB/s. -/
def State.simmerStatus (s : State) : Nat :=
  let x := s.simmer
  x.stage + 8 * b2n x.speedReq + 16 * b2n (x.blocked.headD false) + 2 ^ 8 * x.blockedCount + 2 ^ 16 * x.ceil
@[inherit_doc State.simmerStatus] def State.simmerBudget (s : State) : Nat :=
  min 0xFFFF (s.simmer.pOpt / 100) + 2 ^ 16 * min 0xFFFF (s.simmer.bOpt / 10000)
@[inherit_doc State.simmerStatus] def State.simmerPower (s : State) : Nat :=
  min 0xFFFF (s.simmer.pDev / 100) + 2 ^ 16 * min 0xFFFF (s.simmer.pLamp / 100)

/-- What THERM_READ writes (R577). -/
def State.thermBytes (s : State) : List Byte :=
  let regs := [s.thermStatus, s.thermSuspect] ++ (List.range 12).map (fun j => s.thermTemp j) ++
    [s.simmerStatus, s.simmerBudget, s.simmerPower]
  regs.flatMap (le 4) ++
    (List.range 24).flatMap (fun i =>
      if s.sensors.contains i then
        leS 2 (s.sensor i).reading ++ leS 2 (s.sensor i).pred ++ [Config.sensorState (s.sensor i).suspect] ++ le 3 0
      else le 2 0x8000 ++ le 2 0x8000 ++ [Config.absentSensor] ++ le 3 0) ++
    s.sensors.flatMap (fun i => (s.nearOf i).flatMap (fun j => leS 4 (s.diff i j)))

/-- THERM_READ (R451, R577). -/
def takeThermRead (h : Hdr) (window : BitVec 8) (offset : BitVec 32) (s : State) : State :=
  s.take h 0x0B02 [.c] true (some 0) true (fun s => s.winResult window.toNat offset.toNat s.thermBytes [])

/-- THERM_READ. -/
def execThermRead (h : Hdr) (window : BitVec 8) (offset : BitVec 32) (s : State) : Host.Outcome State Fault Refusal :=
  (takeThermRead h window offset s).out

end Sys2Proof.Machine
end

