-- ==== Sys2Proof/Machine/Reset.lean ====
section
/-! DEFINITION. Clocks, device resets, the wipe and the boot sequence (chapter "Clock domains, power sequencing, reset and
wipe", R94, R98 to R121; "Security, lifecycle and attestation", R591, R597, R598, R605, R610). -/

namespace Sys2Proof.Machine

/-! ## Device resets (R108 to R112) -/

/-- RST_CAUSE codes (R108). -/
def ResetSource.code : ResetSource → Nat
  | .powerOn => 1 | .porst => 2 | .sysrst => 3 | .brownout => 4 | .command => 5 | .trivet => 6 | .sysclk => 7

/-- A host port at a device reset (R108, R554): its link goes down; its pins keep their levels. -/
def HostPort.cleared (x : HostPort) : HostPort := { HostPort.reset with perst := x.perst, prsnt := x.prsnt }

/-- What every device reset leaves (R112): the reset values, but for the pins' levels, the always-on domain, the fuses and the NV
store. Memory keeps its bytes until its wipe (R115). -/
def State.cleared (s : State) : State :=
  let r := State.reset
  { r with
    now := s.now, board := s.board, fresh := s.fresh, pending := s.pending,
    rst := { s.rst with devResetAt := none, secResetAt := none, imageB := false, wipeDone := false, resetOut := false },
    clk := { r.clk with aonSrc := s.clk.aonSrc, xtalLocked := s.clk.xtalLocked },
    host := { r.host with port0 := s.host.port0.cleared, port1 := s.host.port1.cleared, split := s.host.split },
    axes := s.axes.map (fun (a : Nat × Axis) => (a.1, { Axis.reset with fltPin := a.2.fltPin })),
    lt := { r.lt with enc0 := { s.lt.enc0 with sum := 0 }, enc1 := { s.lt.enc1 with sum := 0 }, sheets := s.lt.sheets },
    dram := { r.dram with mem := s.dram.mem, poison := s.dram.poison },
    sec := { r.sec with fuse := s.sec.fuse, vrkHash := s.sec.vrkHash, romKeyHash := s.sec.romKeyHash, nv := s.sec.nv, reserve := s.sec.reserve,
                        vddNvLow := s.sec.vddNvLow } }

/-- A device reset is recognised (R108, R110, R111): RST_CAUSE is updated, and the sequence starts from its beginning with the wider
reach of the two. `wide` sources reach the THERMTRIP_N latch and the source of CLK_AON as well; the crystal that has dropped out stays
out until the next power-on reset (R94; DEDUCED: log entry 182). A reset that SYSCLK's loss holds stays held by it (R110). -/
def State.deviceReset (src : ResetSource) (ends : Option Nat) (s : State) : State :=
  let wide := src == .porst || src == .powerOn
  let s1 := s.cleared
  let r := s1.rst
  { s1 with
    clk := { s1.clk with aonSrc := s1.clk.aonSrc && !wide },
    rst := { r with
      last := BitVec.ofNat 4 src.code, prev := r.last, wipeRetry := false,
      count := if r.count = 0xFF then 0xFF else r.count + 1, thermTrip := r.thermTrip && !wide, phase := .inReset,
      wipeTries := 0, wide := wide || (!s.rst.resetOut && r.wide), endsAt := ends } }

/-- The reset ends when nothing holds it any longer (R108, R110, R113): the SRAM wipe starts. -/
def State.endReset (s : State) : State :=
  let due := match s.rst.endsAt with | some a => decide (a ≤ s.now) | none => true
  if s.rst.phase == .inReset && s.rst.porst && s.rst.sysrst && s.rst.sysclkAt.isNone && due then
    { s with rst := { s.rst with phase := .sramWipe, endsAt := none, endedAt := s.now } }
  else s

/-- POWER_ON_RESET (R108, R111): the always-on domain as well. -/
def execPowerOnReset (t : Nat) (s : State) : Host.Outcome State Fault Refusal :=
  let s1 := s.atTime t
  let s2 := s1.cleared
  ({ s2 with
      rst := { ResetUnit.reset with porst := s1.rst.porst, sysrst := s1.rst.sysrst, endsAt := some (s1.now + 1000),
                                    uzsId := s1.rst.uzsId, powerAt := s1.now },
      clk := ClkUnit.reset }).out

/-- PORST_N_ASSERT (R108). -/
def execPorstNAssert (t : Nat) (s : State) : Host.Outcome State Fault Refusal :=
  let s1 := (s.atTime t).deviceReset .porst none
  ({ s1 with rst := { s1.rst with porst := false } }).out

/-- PORST_N_RELEASE (R59, R108, R119): the straps are sampled, and the reset ends. -/
def execPorstNRelease (t : Nat) (split : Bool) (uzsId : BitVec 2) (s : State) : Host.Outcome State Fault Refusal :=
  let s1 := s.atTime t
  let s2 := { s1 with rst := { s1.rst with porst := true, uzsId := uzsId }, host := { s1.host with split := split } }
  s2.endReset.out

/-- SYSRST_N_ASSERT (R108). -/
def execSysrstNAssert (t : Nat) (s : State) : Host.Outcome State Fault Refusal :=
  let s1 := (s.atTime t).deviceReset .sysrst none
  ({ s1 with rst := { s1.rst with sysrst := false } }).out

/-- SYSRST_N_RELEASE (R108). -/
def execSysrstNRelease (t : Nat) (s : State) : Host.Outcome State Fault Refusal :=
  let s1 := s.atTime t
  (({ s1 with rst := { s1.rst with sysrst := true } }).endReset).out

/-- CORE_BROWNOUT (R107, R108): the reset lasts 1 us. -/
def execCoreBrownout (t : Nat) (s : State) : Host.Outcome State Fault Refusal :=
  let s1 := s.atTime t
  (s1.deviceReset .brownout (some (s1.now + 1000))).out

/-- SYSCLK_LOSS (R108): the reset is held until SYSCLK_OK has been 1 for 100 us. -/
def execSysclkLoss (t : Nat) (s : State) : Host.Outcome State Fault Refusal :=
  let s1 := s.atTime t
  let s2 := s1.deviceReset .sysclk none
  ({ s2 with rst := { s2.rst with sysclkAt := some (s1.now + 100000) } }).out

/-- DEV_RESET (R108): accepted here, it takes place 100 us after its completion entry, which without an entry is its end. -/
def takeDevReset (h : Hdr) (kind : BitVec 8) (s : State) : State :=
  s.take h 0x0103 [.c] true (some 0) (kind == 0) (fun s =>
    if h.flags.getLsbD 0 then .ok [] [] { s with rst := { s.rst with devResetAt := some (s.now + 100000) } } else .ok [] [] s)

/-- DEV_RESET. -/
def execDevReset (h : Hdr) (kind : BitVec 8) (s : State) : Host.Outcome State Fault Refusal := (takeDevReset h kind s).out

/-- A delayed reset is due. -/
def State.due (at_ : Option Nat) (s : State) : Bool := match at_ with | some a => decide (a ≤ s.now) | none => false

/-- DEV_RESET_EXPIRY (R108). -/
def execDevResetExpiry (t : Nat) (s : State) : Host.Outcome State Fault Refusal :=
  let s1 := s.atTime t
  (if s1.due s1.rst.devResetAt then s1.deviceReset .command (some (s1.now + 1000)) else s1).out

/-- TRIVET_SECURITY_RESET (R605). -/
def execTrivetSecurityReset (t : Nat) (s : State) : Host.Outcome State Fault Refusal :=
  let s1 := s.atTime t
  (if s1.due s1.rst.secResetAt then s1.deviceReset .trivet (some (s1.now + 1000)) else s1).out

/-- RESET_END (R108, R113): with it SYSCLK_OK has been 1 for 100 us where a SYSCLK loss held the reset. -/
def execResetEnd (t : Nat) (s : State) : Host.Outcome State Fault Refusal :=
  let s1 := s.atTime t
  (({ s1 with rst := { s1.rst with sysclkAt := s1.rst.sysclkAt.filter (fun (a : Nat) => decide (s1.now < a)) } }).endReset).out

/-! ## The wipe and the boot sequence (R113 to R118) -/

/-- SRAM_WIPE_DONE (R110, R114): a failed check is retried once; the THERMTRIP_N latch holds the device in reset. -/
def execSramWipeDone (t : Nat) (ok : Bool) (s : State) : Host.Outcome State Fault Refusal :=
  let s1 := s.atTime t
  let r := s1.rst
  if !(r.phase == .sramWipe) then s1.out
  else if !ok then
    (if r.wipeTries = 0 then { s1 with rst := { r with wipeRetry := true, wipeTries := 1 } }
     else { s1 with rst := { r with phase := .held } }).out
  else if r.thermTrip then ({ s1 with rst := { r with phase := .held } }).out
  else
    ({ s1 with rst := { r with phase := .romRun, resetOut := true, wide := false },
               clk := { s1.clk with sysclkOk := true, lockPix := true, lockMem := true, lockSys := true, lockHost0 := true,
                                    lockHost1 := s1.host.split } }).out

/-- The image key domain of a lifecycle state (R600): true for the owner's. -/
def Lifecycle.ownerDomain : Lifecycle → Bool
  | .provisioned | .field => true
  | _ => false

/-- The state a lifecycle code names. -/
def Lifecycle.ofCode (n : Nat) : Option Lifecycle :=
  match n with
  | 0 => some .blank | 1 => some .vendor | 2 => some .provisioned | 3 => some .field | 4 => some .returned | 5 => some .scrap
  | _ => none

/-- The lifecycle state (R600): fused, or PROVISIONED and FIELD from their record. -/
def State.lifecycleNow (s : State) : Lifecycle :=
  match s.sec.fuse, s.nvData .lifecycle with
  | .vendor, some [b] => if b = 2 then .provisioned else if b = 3 then .field else .vendor
  | f, _ => f

/-- The NV classes that a transition wipes, as regions (R602), with whether it is permitted. -/
def transWipes (old new : Lifecycle) : Option (List Nat) :=
  match old, new with
  | .blank, .vendor => some []
  | .vendor, .provisioned => some []
  | .provisioned, .field => some []
  | .field, .provisioned => some []
  | .provisioned, .returned => some [3, 2, 4]
  | .field, .returned => some [3, 2, 4]
  | .provisioned, .scrap => some [3, 2, 4, 1]
  | .field, .scrap => some [3, 2, 4, 1]
  | .vendor, .scrap => some [2, 1]
  | .returned, .scrap => some [2, 1]
  | _, _ => none

/-- The record of a journalled state; a state held in fuses has none. -/
def Lifecycle.journalled (x : Lifecycle) : Bool := x == .provisioned || x == .field

/-- A record is written at once, as the NV mount does (R605, R610). -/
def State.nvSet (id : NvId) (data : List Byte) (s : State) : State :=
  s.nvCommit { id := id, data := data, left := 0, begun := true, waitSince := none, ctx := none, why := .newState }

/-- The contents of the pending record once it is cleared. -/
def pendingNone : List Byte := [0xFF]

/-- An interrupted transition is completed at the mount (R605). -/
def State.resumeTransition (s : State) : State :=
  match s.nvData .pending with
  | some [b] =>
    match Lifecycle.ofCode b.toNat with
    | none => s
    | some new =>
      let s1 := s.nvWipe ((transWipes s.lifecycleNow new).getD [])
      let s2 := if new.journalled then s1.nvSet .lifecycle [b] else { s1 with sec := { s1.sec with fuse := new } }
      let s3 := s2.nvSet .pending pendingNone
      { s3 with sec := { s3.sec with transPend := true } }
  | _ => s

/-- Every slot that is not valid and does not carry VOID gets VOID (R610). -/
def NvSlot.repaired (x : NvSlot) : NvSlot := if x.valid then x else { x with marker := .void }

/-- The mount needs line programs (R605, R610): a slot to be given VOID, or a transition to be completed. -/
def State.mountWrites (s : State) : Bool :=
  s.sec.nv.any (fun (r : NvRec) => r.slot0.repaired != r.slot0 || r.slot1.repaired != r.slot1) ||
  (match s.nvData .pending with | some [b] => (Lifecycle.ofCode b.toNat).isSome | _ => false)

/-- A word of a record, 0 where there is none. -/
def State.nvWord (id : NvId) (s : State) : Nat := match s.nvData id with | some bs => leVal bs | none => 0

/-- The correction table of a compensated circuit (R121). -/
def compTable (circuit : Nat) : List Int := (List.range 8).map (fun i => (Config.compPoint circuit i).toInt)

/-- NV_MOUNT (R117, R121, R453, R589, R591, R597, R605, R610, R613, R618). In SCRAP, and where the vendor key stored does not match
VRK_HASH, no slot is tried. While VDD_NV is low, a mount that needs
line programs waits (R107). -/
def execNvMount (t : Nat) (s : State) : Host.Outcome State Fault Refusal :=
  let s1 := s.atTime t
  if !(s1.rst.phase == .romRun) || (s1.sec.vddNvLow && s1.mountWrites) then s1.out
  else
    let s2 := { s1 with sec := { s1.sec with
      nv := s1.sec.nv.map (fun (r : NvRec) => { r with slot0 := r.slot0.repaired, slot1 := r.slot1.repaired }) } }
    let s3 := s2.resumeTransition
    let life : Lifecycle := s3.lifecycleNow
    let ch := s3.frees 8 32
    let s4 := ch.2
    let owner := s4.nvData .ownerKey
    let dik := s4.nvData .dik
    let zero := List.replicate 32 (0 : Byte)
    let hashOf := fun (x : Option (List Byte)) => match x with | some bs => sha256 (bs.take 416) | none => zero
    ({ s4 with
        rst := { s4.rst with phase := if life == Lifecycle.scrap || s4.sec.romKeyHash != s4.sec.vrkHash then .bootFail else .imageA },
        clk := { s4.clk with aonComp := true,
                             comp := (List.range 6).map (fun i => (i, { CompTrim.reset with points := compTable i })) },
        dram := { s4.dram with resilient := s4.nvWord .ownerCfg == 1 },
        sec := { s4.sec with
          lifecycle := life, mounted := true, debugOpen := life == Lifecycle.blank, owner := owner.isSome, dik := dik.isSome, entropyOk := true,
          challenge := ch.1.map (BitVec.ofNat 8), ownerHash := hashOf owner, dikHash := hashOf dik,
          epoch := BitVec.ofNat 32 (match owner with | some bs => rd bs 20 4 | none => 0),
          svnVendor := BitVec.ofNat 32 (s4.nvWord .svnVendor), svnOwner := BitVec.ofNat 32 (s4.nvWord .svnOwner) } }).out

/-- Steps 1 to 3 of the verification of a header (R596, R597). -/
def State.headerOk (hd : List Byte) (s : State) : Bool :=
  let owner := s.sec.lifecycle.ownerDomain
  let key := rd hd 16 1
  hd.length == 512 && rd hd 0 4 == 0x57464C4D && decide (1 ≤ rd hd 12 4) && decide (rd hd 12 4 ≤ 3145728) && rd hd 18 2 == 2 &&
    rd hd 17 1 == 0 && rd hd 20 12 == 0 && rd hd 96 32 == 0 && key == b2n owner &&
    (!owner || (hd.drop 64).take 32 == s.sec.ownerHash) &&
    decide ((if owner then s.sec.svnOwner else s.sec.svnVendor).toNat ≤ rd hd 8 4)

/-- BOOT_IMAGE_VERIFIED (R118, R597): `hdr` is the slot's header, `sigOk` the verdict of its signature and `bodyHash` the hash of the
body loaded. Slot B follows slot A; when both fail, BOOT_FAIL is set. -/
def execBootImageVerified (t : Nat) (hdr : List Byte) (sigOk : Bool) (bodyHash : BitVec 256) (s : State) :
    Host.Outcome State Fault Refusal :=
  let s1 := s.atTime t
  let body := (le 32 bodyHash.toNat).reverse
  let good := s1.headerOk hdr && sigOk && (hdr.drop 32).take 32 == body
  let inA := s1.rst.phase == .imageA
  if !(inA || s1.rst.phase == .imageB) then s1.out
  else if good then
    ({ s1 with
        rst := { s1.rst with phase := .released, imageB := !inA },
        cpu := { s1.cpu with pair0 := .serving, pair1 := .standby, serving := 0 },
        sec := { s1.sec with mHdr := sha256 hdr, mBody := body, fwVersion := BitVec.ofNat 32 (rd hdr 4 4),
                             fwSvn := BitVec.ofNat 32 (rd hdr 8 4), keyId := rd hdr 16 1 } }).out
  else ({ s1 with rst := { s1.rst with phase := if inA then .imageB else .bootFail } }).out

/-- Channels that training has found (R455, R475, R482): each that failed is declared so; in the resilient layout channel 7 stands in for a
failed one. -/
def State.trained (chOk : BitVec 8) (s : State) : State :=
  let bad := (List.range 8).filter (fun c => !chOk.getLsbD c)
  let s1 := bad.foldl (fun (s : State) _ => s.pulse 213) s
  let d := s1.dram
  match bad with
  | [] => { s1 with dram := { d with chOk := chOk, failedCh := 15, spared := none, spare := if d.resilient then 0 else 3 } }
  | c :: _ =>
    let stands := d.resilient && !bad.contains 7
    { s1 with dram := { d with chOk := chOk, failedCh := c, spared := if stands then some c else none, spare := if stands then 2 else 3 } }

/-- DRAM_TRAINING_DONE (R115, R117, R455, R475): at boot the wipe starts; in DIAGNOSE it ends DRAM_TRAIN, and a channel that fails the
retraining is declared failed. -/
def execDramTrainingDone (t : Nat) (chOk : BitVec 8) (s : State) : Host.Outcome State Fault Refusal :=
  let s1 := s.atTime t
  if s1.rst.phase == .released then
    let s2 := s1.trained chOk
    ({ s2 with rst := { s2.rst with phase := .dramWipe } }).out
  else
    match s1.dram.trainCtx with
    | some n =>
      let away := match s1.dram.spared with | some c => if s1.dram.spare = 2 then BitVec.twoPow 8 c else 0 | none => 0
      let bad := (List.range 8).filter (fun c => s1.dram.chOk.getLsbD c && !chOk.getLsbD c)
      let s2 := bad.foldl (fun (s : State) c => s.chFail c)
        { s1 with dram := { s1.dram with trainCtx := none, chOk := chOk &&& ~~~away } }
      (s2.done n (le 1 s2.dram.chOk.toNat)).out
    | none => s1.out

/-- DRAM_WIPE_DONE (R115, R481): every byte reads 0. -/
def execDramWipeDone (t : Nat) (s : State) : Host.Outcome State Fault Refusal :=
  let s1 := s.atTime t
  if s1.rst.phase == .dramWipe then
    ({ s1 with rst := { s1.rst with phase := .restore, wipeDone := true },
               dram := { s1.dram with mem := [], poison := [], wipeDone := true } }).out
  else s1.out

/-- Ports at BOOT exit (R51, R53): one that reads present and passes its power-on check is ACTIVE, every other ISOLATED. -/
def State.portsBoot (powerOk : BitVec 64) (s : State) : State :=
  (List.range s.board.member.ports).foldl (fun (s : State) p =>
    let ok := (s.seg p).pres && powerOk.getLsbD p
    s.setSeg p (fun x => { x with state := if ok then .active else .isolated, ever := x.pres, powered := x.pres, outHiZ := !x.pres })) s

/-- The contexts of the split layout (R541): 128 to 255 belong to port 1. -/
def State.contextsBoot (s : State) : State :=
  if s.host.split then (List.range' 128 128).foldl (fun (s : State) n => s.setCtx n (fun x => { x with owner := 1 })) s else s

/-- BOOT_EXIT (R51, R117, R410, R541, R598): the configuration is restored, and the device enters IDLE. -/
def execBootExit (t : Nat) (powerOk : BitVec 64) (s : State) : Host.Outcome State Fault Refusal :=
  let s1 := s.atTime t
  if !(s1.rst.phase == .restore) then s1.out
  else
    let s2 := ((((s1.diesOn).portsBoot powerOk).bindFixed).contextsBoot).madcStart
    let s3 := { s2 with rst := { s2.rst with phase := .done }, sec := { s2.sec with svnDue := true, trimAt := s2.now } }
    ((s3.modeTo .idle).svnRaise).out

/-! ## Clocks (R94, R98 to R102, R120, R121) -/

/-- AON_XTAL_SWITCH (R94): 2 to 5 ms after power-on. -/
def execAonXtalSwitch (t : Nat) (s : State) : Host.Outcome State Fault Refusal :=
  let s1 := s.atTime t
  let age := s1.now - s1.rst.powerAt
  (if !s1.clk.aonSrc && !s1.clk.xtalLocked && decide (2000000 ≤ age) && decide (age ≤ 5000000) then
    { s1 with clk := { s1.clk with aonSrc := true } } else s1).out

/-- AON_XTAL_LOSS (R94): the RC oscillator stays selected until the next power-on reset. -/
def execAonXtalLoss (t : Nat) (s : State) : Host.Outcome State Fault Refusal :=
  let s1 := s.atTime t
  (if s1.clk.aonSrc then ({ s1 with clk := { s1.clk with aonSrc := false, xtalLocked := true } }).pulse 2 else s1).out

/-- The temperatures of a compensation table's points in Q8.8 (R121). -/
def compTemps : List Int := [-40, -15, 10, 35, 60, 80, 100, 120].map (· * 256)

/-- The correction at a temperature: linear between the points, held outside. -/
def compAt (th : Int) : List (Int × Int) → Int
  | [] => 0
  | [(_, v)] => v
  | (t0, v0) :: (t1, v1) :: l =>
    if th ≤ t0 then v0 else if th < t1 then v0 + divRound ((v1 - v0) * (th - t0)) (t1 - t0) else compAt th ((t1, v1) :: l)

/-- The temperature that a circuit is corrected with (R120): of the RC oscillator, the core bandgap, and the dies. -/
def State.circuitTemp (i : Nat) (s : State) : Int :=
  if i < 2 then (s.sensor (Config.circuitSensor i).toNat).value else s.dieTemp (i - 2)

/-- OSC_COMP_UPDATE (R121): each trim moves by at most one unit. -/
def execOscCompUpdate (t : Nat) (s : State) : Host.Outcome State Fault Refusal :=
  let s1 := s.atTime t
  if !s1.clk.aonComp then s1.out
  else
    let comp := s1.clk.comp.map (fun (x : Nat × CompTrim) =>
      (x.1, { x.2 with trim := oneStep x.2.trim (compAt (s1.circuitTemp x.1) (compTemps.zip x.2.points)) }))
    ({ s1 with clk := { s1.clk with comp := comp } }).out

/-- REGION_COMPARE (R98, R99, R101): 25 degrees between adjacent dies, cleared at 23. -/
def execRegionCompare (t : Nat) (s : State) : Host.Outcome State Fault Refusal :=
  let s1 := s.atTime t
  let bitOf := fun (j : Nat) =>
    let d := (s1.dieTemp j - s1.dieTemp (j + 1)).natAbs
    if s1.board.member.dies ≤ j + 1 then false else if 6400 < d then true else s1.clk.skewTemp.getLsbD j && decide (5888 < d)
  ({ s1 with clk := { s1.clk with skewTemp := BitVec.ofNat 3 (mkBits 3 bitOf) } }).out

end Sys2Proof.Machine
end

