-- ==== Sys2Proof/Machine/Regs.lean ====
section
/-! DEFINITION. What every register of BAR0 reads (chapter "Event catalogue and register map", R643 to R649, and the status
registers of every other chapter). -/

namespace Sys2Proof.Machine

/-! ## Identity and status -/

/-- DEV_ID and DEV_STEP (R646). -/
def State.devId (s : State) : Nat := 0x6D57 + 2 ^ 16 * (match s.board.member with | .ml9648 => 0x9648 | .ml9624 => 0x9624)
@[inherit_doc State.devId] def State.devStep (s : State) : Nat := 0xB1 + 2 ^ 8 * (2 ^ s.board.member.dies - 1)

/-- DEV_MODE (R35). -/
def State.devMode (s : State) : Nat :=
  let m := s.mode
  m.mode.code + 2 ^ 4 * m.target.code + 2 ^ 8 * b2n m.transit + 2 ^ 9 * (match m.profile with | .fast => 0 | .dense => 1) +
    2 ^ 16 * m.modeSeq.toNat

/-- DEV_STATUS (R53). -/
def State.devStatus (s : State) : Nat :=
  mkBits 9 (fun i => s.causes.getD i false) + 2 ^ 15 * b2n s.degraded + 2 ^ 16 * b2n (s.rst.phase == .bootFail) +
    2 ^ 17 * b2n s.rst.imageB + 2 ^ 18 * s.cpu.serving + 2 ^ 19 * b2n s.isMaster

/-- DEV_HEARTBEAT (R551). -/
def State.heartbeat (s : State) : Nat := s.host.beat.toNat + 2 ^ 24 * s.host.beatBy

/-- RST_CAUSE (R111). -/
def State.rstCause (s : State) : Nat :=
  let r := s.rst
  r.last.toNat + 2 ^ 4 * r.prev.toNat + 2 ^ 8 * b2n r.tripSeen + 2 ^ 9 * b2n r.wipeRetry + 2 ^ 16 * r.count.toNat

/-- Dies in use run unequal tap clocks (R102). -/
def State.mixedClk (s : State) : Bool :=
  decide (1 < ((diesInUse s.board.member s.active).map (tapClkOf s.active)).eraseDups.length)

/-- CLK_STATUS (R102). -/
def State.clkStatus (s : State) : Nat :=
  let c := s.clk
  mkBits 8 (fun i => [c.aonSrc, c.aonComp, c.sysclkOk, c.lockPix, c.lockMem, c.lockSys, c.lockHost0, c.lockHost1].getD i false) +
    2 ^ 8 * c.lockFe.toNat + 2 ^ 16 * c.skewTemp.toNat + 2 ^ 19 * c.skewSupply.toNat + 2 ^ 24 * b2n s.mixedClk

/-! ## Line timing, ring and ports -/

/-- LT_STATUS (R201). -/
def State.ltStatus (s : State) : Nat :=
  s.srcNow % 8 + 2 ^ 3 * b2n s.lt.run + 2 ^ 4 * b2n s.lt.pend.isSome +
    2 ^ 5 * b2n (s.ports.dies.any (fun (d : Nat × FeDie) => d.2.running && d.2.line.isNone)) + 2 ^ 6 * b2n s.lt.encErr +
    2 ^ 16 * min 0xFFFF s.lt.skipCnt

/-- PACE_STATE (R203). -/
def Pace.code : Pace → Nat
  | .run => 0 | .decel => 1 | .rest => 2 | .reverse => 3 | .approach => 4

/-- RING_STATUS (R203). -/
def State.ringStatus (s : State) : Nat :=
  min 0xFFFFFF s.fill + 2 ^ 24 * (if s.mode.mode == .sheetScan then s.lt.pace.code else 0) + 2 ^ 27 * b2n s.ring.full +
    2 ^ 28 * b2n s.ring.cur.isSome

/-- UZS_STATUS (R204). -/
def State.uzsStatus (s : State) : Nat :=
  let u := s.uzs
  let n := if s.rst.uzsId == 0 then s.active.ltSrc.followers.toNat else 0
  s.rst.uzsId.toNat + 2 ^ 2 * b2n u.lost + 2 ^ 3 * b2n u.seqErr +
    ((List.range (min 3 n)).map (fun j => 2 ^ (8 * j + 8) *
      ((u.status.getD j 0).toNat + 2 ^ 6 * b2n (u.seen.getD j false) + 2 ^ 7 * b2n (u.perr.getD j false)))).sum

/-- PORT_STATE_j (R163): a port that the member lacks reads STATE 2 and PRES 0. -/
def State.portState (j : Nat) (s : State) : Nat :=
  ((List.range 8).map (fun i =>
    let p := s.seg (8 * j + i)
    2 ^ (4 * i) * (if 8 * j + i < s.board.member.ports then p.state.code + 8 * b2n p.pres else 2))).sum

/-- SPARE_STATUS_k (R164): 0 for a die that the member lacks. -/
def State.spareStatus (k : Nat) (s : State) : Nat :=
  if s.board.member.dies ≤ k then 0
  else
    let d := s.die k
    s.freeSpares k + 2 ^ 4 * (spares.filter (fun c => (s.ch k c).covers.isSome && (s.ch k c).forFault)).length +
      2 ^ 8 * (spares.filter (fun c => (s.ch k c).failed)).length + 2 ^ 12 * (d.rotCh.getD 0x7F) + 2 ^ 19 * b2n d.bgHalt +
      2 ^ 20 * b2n d.bgSlow + 2 ^ 24 * d.cycles.toNat

/-! ## Pixels, services, Skillet -/

/-- SHD_STATUS (R241). -/
def State.shdStatus (s : State) : Nat :=
  let u := s.shd
  let has := fun (k : Nat) => (sget none k u.place).isSome
  mkBits 4 has + 2 ^ 4 * (u.staged.getD 7) + 2 ^ 8 * setsMax s.board.member s.active + 2 ^ 11 * b2n (!(List.range 4).any has) +
    2 ^ 12 * b2n (u.filters.any (fun f => f.2.stale)) + 2 ^ 13 * b2n u.oot + 2 ^ 14 * b2n u.cal.isSome

/-- ALN_STATUS (R271). -/
def State.alnStatus (s : State) : Nat :=
  let a := s.aln
  b2n a.warmup + 2 * b2n a.stagOn + 4 * b2n a.clamped + 8 * b2n a.stagMiss + 2 ^ 16 * (s.active.stagger % 2 ^ 11)

/-- SV_STATUS (R319): the backlog counts the pages in progress of a service. -/
def State.svStatus (s : State) : Nat :=
  match s.sv.job with
  | none => 0
  | some j =>
    let backlog := ((List.range 5).map (fun k => (j.pages.filter (fun p => p.going k)).length)).foldl max 0
    1 + 2 * j.en.toNat + 2 ^ 8 * min 0xFF (j.refs.filter (fun r => r.state == .decoded)).length + 2 ^ 16 * s.aMax +
      2 ^ 24 * min 3 backlog

/-- SKL_STATUS, SKL_GROUPS, SKL_LAT and SKL_FEV (R346). -/
def State.sklStatus (s : State) : Nat :=
  let c := s.active.sklCfg
  b2n c.en + 2 * b2n (sklFixed s.mode.mode s.mode.profile) + 4 * (c.line % 4) + 2 ^ 4 * b2n s.slkOn +
    2 ^ 5 * (if c.lanes = 4 then 2 else if c.lanes = 2 then 1 else 0) + 2 ^ 16 * sklNg s.active
@[inherit_doc State.sklStatus] def State.sklGroupsReg (s : State) : Nat :=
  (s.skl.snap.filter (fun g => g.2.flag)).length + 2 ^ 16 * (s.skl.snap.filter (fun g => g.2.masked)).length
@[inherit_doc State.sklStatus] def State.sklLat (s : State) : Nat :=
  min 0xFF s.skl.lastLat + 2 ^ 8 * min 0xFF s.skl.maxLat + 2 ^ 16 * s.skl.waits
@[inherit_doc State.sklStatus] def State.sklFevReg (s : State) : Nat := mkBits 16 (fun n => (sget FevPin.reset n s.skl.pins).on)

/-! ## Illumination and motion -/

/-- ILM_STATUS (R371). -/
def State.ilmStatus (s : State) : Nat :=
  mkBits 4 (fun w => (rowCfg s.active w).en) + 2 ^ 4 * mkBits 4 (fun w => (s.row w).fault) +
    2 ^ 8 * mkBits 4 (fun w => decide ((s.row w).cap < 4096)) + 2 ^ 12 * b2n (s.ilm.chain0.hold || s.ilm.chain1.hold) +
    2 ^ 13 * b2n s.ilm.chain0.err + 2 ^ 14 * b2n s.ilm.chain1.err + 2 ^ 15 * b2n (s.ilm.rows.any (fun r => r.2.held)) +
    2 ^ 16 * min 0xFF s.ilm.failed.length + 2 ^ 24 * min 0xFF s.ilm.resUsed.length

/-- LAMP_FAULT (R373). -/
def State.lampFault (s : State) : Nat :=
  s.ilm.lfRow % 4 + 4 * (s.ilm.lfZone % 64) + 2 ^ 8 * (s.ilm.lfLamp % 16) + 2 ^ 12 * b2n s.ilm.lfRes + 2 ^ 13 * b2n s.ilm.lfValid

/-- STATE and KIND of MOT_STATUS_x (R404). -/
def MotState.code : MotState → Nat
  | .off => 0 | .rest => 1 | .moving => 2 | .stopping => 3 | .following => 4 | .homing => 5 | .hardFault => 6 | .stalled => 7
@[inherit_doc MotState.code] def MoveKind.code : MoveKind → Nat
  | .move .. => 1 | .table .. => 2 | .jog .. => 3 | .coord .. => 4 | .follow => 5 | .home .. => 6

/-- MOT_STATUS_x, MOT_POS_x, MOT_VEL_x and MOT_LOAD_x (R404), at word `i` of the axis. -/
def Axis.reg (i : Nat) (a : Axis) : Nat :=
  let kind := if a.running then (match a.queue with | m :: _ => m.kind.code | [] => 0) else 0
  match i with
  | 0 => a.state.code + 2 ^ 3 * b2n a.homed + 2 ^ 4 * b2n a.hold + 2 ^ 5 * b2n a.gates + 2 ^ 6 * b2n a.fltPin + 2 ^ 7 * b2n a.owned +
      2 ^ 8 * a.queue.length + 2 ^ 12 * a.cause + 2 ^ 16 * kind + 2 ^ 24 * min 0xFF a.stalls
  | 1 => unsign 32 a.pos
  | 2 => unsign 32 a.vel
  | _ => (match a.lambda with | some v => unsign 16 v | none => 0x8000) + 2 ^ 16 * a.margin

/-! ## Monitor, DRAM, Pantry, security, test -/

/-- States of a converter (R427). -/
def ConvState.code : ConvState → Nat
  | .off => 0 | .sar => 1 | .normal => 2 | .cal => 3 | .failed => 4 | .test => 5

/-- MADC_STATUS (R427). -/
def State.madcStatus (s : State) : Nat :=
  let x := s.madc
  x.convA.state.code + 2 ^ 3 * x.convB.state.code + 2 ^ 6 * b2n x.convA.failed + 2 ^ 7 * b2n x.convB.failed + 2 ^ 8 * b2n x.mismatch +
    2 ^ 9 * b2n x.mainsOk + 2 ^ 10 * b2n x.inj.isSome + 2 ^ 11 * b2n (!x.calLeft.isEmpty || x.calRun.isSome) + 2 ^ 16 * x.loop.toNat

/-- OVR_STICKY of 32 sets (R428). -/
def State.madcOvr (j : Nat) (s : State) : Nat := mkBits 32 (fun i => (sget AccSet.reset (32 * j + i) s.madc.acc).sticky)

/-- DRAM_STATUS (R482). -/
def State.dramStatus (s : State) : Nat :=
  let d := s.dram
  d.chOk.toNat + 2 ^ 8 * b2n d.resilient + 2 ^ 9 * b2n d.wipeDone + 2 ^ 10 * d.spare + 2 ^ 12 * d.failedCh +
    2 ^ 16 * ((List.range 8).map (fun c => (s.dch c).cls)).foldl max 0 + 2 ^ 18 * mkBits 4 s.inPanic

/-- The channel with the largest owed count, and that count (R464, R483). -/
def State.mostOwed (s : State) : Nat × Nat :=
  (List.range 8).foldl (fun (b : Nat × Nat) c =>
    let owed := divUp (s.dch c).debt (tRefi (s.dch c).cls)
    if b.2 < owed then (c, owed) else b) (0, divUp (s.dch 0).debt (tRefi (s.dch 0).cls))

/-- DRAM_REFRESH and DRAM_SCRUB (R483). -/
def State.dramRefresh (s : State) : Nat :=
  let b := s.mostOwed
  min 15 b.2 + 2 ^ 4 * refCeiling (s.dch b.1).cls + 2 ^ 16 * s.dram.forced
@[inherit_doc State.dramRefresh] def State.dramScrub (s : State) : Nat :=
  let pos := match s.dram.rebuild with
    | some r => if s.mode.mode == .scrub then s.dram.pos / 8 else r.pos
    | none => s.dram.pos / 8
  s.dram.passes.toNat + 2 ^ 16 * min 4095 (4096 * pos / max 1 s.chanBlocks)

/-- HOST_STATUS (R554). -/
def State.hostStatus (s : State) : Nat :=
  let code := fun (l : PortLink) => match l with | .down => 0 | .up => 1 | .quiesced => 2 | .lost => 3
  let p0 := s.host.port0
  let p1 := s.host.port1
  code p0.link + 4 * (if s.host.split then code p1.link else 0) + 2 ^ 4 * b2n s.host.split + 2 ^ 5 * p0.width.toNat +
    2 ^ 10 * p1.width.toNat + 2 ^ 15 * p0.speed.toNat + 2 ^ 18 * p1.speed.toNat

/-- SEC_STATUS (R618). -/
def State.secStatus (s : State) : Nat :=
  let x := s.sec
  x.lifecycle.code + 2 ^ 3 * b2n x.debugOpen + 2 ^ 4 * b2n x.owner + 2 ^ 5 * b2n x.dik + 2 ^ 6 * b2n x.transPend + 2 ^ 7 * b2n x.entropyOk +
    2 ^ 16 * x.violations

/-- States of a pair (R625). -/
def PairState.code : PairState → Nat
  | .serving => 0 | .standby => 1 | .restarting => 2 | .out => 3

/-- CPU_STATUS and DIAG_STATUS (R625, R629). -/
def State.cpuStatus (s : State) : Nat :=
  let c := s.cpu
  c.pair0.code + 4 * c.pair1.code + 2 ^ 4 * c.halts0 + 2 ^ 6 * c.halts1 + 2 ^ 16 * c.failovers
@[inherit_doc State.cpuStatus] def State.diagStatus (s : State) : Nat :=
  let on := s.active.diagPort != 0xFF
  (if on then s.active.diagPort else 0) + 2 ^ 6 * b2n on + 2 ^ 7 * b2n s.diag.selfTest.isSome + 2 ^ 16 * s.diag.tapDrops

/-! ## The live status mirrors (R648) -/

/-- The word at an offset of the mirrors, from 0x0040_0000; a reserved offset reads 0 (R647). -/
def State.mirror (o : Nat) (s : State) : Nat :=
  if o < 0xC0 then
    match o with
    | 0x00 => s.rstCause | 0x04 => s.clkStatus
    | 0x40 => s.ltStatus | 0x44 => unsign 32 s.vNow | 0x48 => s.lt.seq.toNat | 0x4C => s.ringStatus
    | 0x50 => min 0xFFFFFFFF s.ring.drops | 0x54 => s.uzsStatus
    | 0x60 => s.shdStatus | 0x64 => s.shd.corr + 2 ^ 16 * s.shd.uncorr
    | 0x70 => s.alnStatus | 0x74 => s.aln.clampCnt + 2 ^ 16 * s.aln.lateCnt
    | 0x80 => s.svStatus | 0x84 => s.sv.lastSum.toNat
    | 0x90 => s.sklStatus | 0x94 => s.sklGroupsReg | 0x98 => s.sklLat | 0x9C => s.sklFevReg
    | 0xA0 => s.ilmStatus
    | 0xA4 => (s.row 0).power + 2 ^ 16 * (s.row 1).power | 0xA8 => (s.row 2).power + 2 ^ 16 * (s.row 3).power
    | 0xAC => s.lampFault | 0xB0 => s.ilm.faultSeq.toNat | 0xB4 => s.ilm.restSeq.toNat
    | _ => 0
  else if o < 0x100 then (s.axis ((o - 0xC0) / 16)).reg (o / 4 % 4)
  else if o < 0x118 then s.portState ((o - 0x100) / 4)
  else if 0x120 ≤ o ∧ o < 0x130 then s.spareStatus ((o - 0x120) / 4)
  else if 0x180 ≤ o ∧ o < 0x1B0 then s.thermTemp ((o - 0x180) / 4)
  else if 0x280 ≤ o ∧ o < 0x2B0 then sget 0 ((o - 0x280) / 4) s.dram.latched / 64
  else if 0x400 ≤ o ∧ o < 0x800 then mkBits 32 (fun i => (s.q (8 * (o - 0x400) + i)).pending)
  else
    match o with
    | 0x140 => s.madcStatus | 0x144 => s.madc.tm | 0x148 => min 0xFFFF s.madc.diff + 2 ^ 16 * s.madc.disagree
    | 0x14C => s.madcOvr 0 | 0x150 => s.madcOvr 1
    | 0x160 => s.thermStatus | 0x164 => s.thermSuspect | 0x168 => s.simmerStatus | 0x16C => s.simmerBudget | 0x170 => s.simmerPower
    | 0x1C0 => s.dramStatus | 0x1C4 => s.dramRefresh | 0x1C8 => s.dram.corr + 2 ^ 16 * s.dram.uncorr | 0x1CC => s.dramScrub
    | 0x200 => s.hostStatus
    | 0x220 => s.freeCells + 2 ^ 17 * b2n s.pantry.low | 0x224 => s.pantry.retired.length + 2 ^ 16 * s.pantry.perrCnt
    | 0x240 => s.secStatus | 0x260 => s.cpuStatus | 0x264 => s.diagStatus
    | _ => 0

/-- What a read of a mirror clears (R7): the RC fields. -/
def State.mirrorClear (o : Nat) (s : State) : State :=
  if 0xC0 ≤ o ∧ o < 0x100 then
    if o % 16 = 12 then s.setAx ((o - 0xC0) / 16) (fun a => { a with margin := 0xFF }) else s
  else
    match o with
    | 0x64 => { s with shd := { s.shd with corr := 0, uncorr := 0 } }
    | 0x74 => { s with aln := { s.aln with clampCnt := 0, lateCnt := 0 } }
    | 0x98 => { s with skl := { s.skl with waits := 0 } }
    | 0x148 => { s with madc := { s.madc with disagree := 0 } }
    | 0x14C => { s with madc := { s.madc with acc := s.madc.acc.map (fun (x : Nat × AccSet) => (x.1, if x.1 < 32 then { x.2 with sticky := false } else x.2)) } }
    | 0x150 => { s with madc := { s.madc with acc := s.madc.acc.map (fun (x : Nat × AccSet) =>
        (x.1, if 32 ≤ x.1 ∧ x.1 < 64 then { x.2 with sticky := false } else x.2)) } }
    | 0x1C4 => { s with dram := { s.dram with forced := 0 } }
    | 0x1C8 => { s with dram := { s.dram with corr := 0, uncorr := 0 } }
    | 0x224 => { s with pantry := { s.pantry with perrCnt := 0 } }
    | 0x240 => { s with sec := { s.sec with violations := 0 } }
    | 0x260 => { s with cpu := { s.cpu with failovers := 0 } }
    | 0x264 => { s with diag := { s.diag with tapDrops := 0 } }
    | _ => s

/-! ## Contexts, queues, DMA channels, events, vectors -/

/-- STATE of OP_STATUS_n (R541). -/
def OpState.code : OpState → Nat
  | .idle => 0 | .queued => 1 | .running => 2 | .partialResult => 3 | .done => 4 | .failed => 5 | .aborted => 6

/-- A register of context `n` (R541). -/
def State.ctxReg (n i : Nat) (s : State) : Nat :=
  let x := s.ctx n
  match i with
  | 1 => 2 ^ 28 * x.opState.code + 2 ^ 20 * x.result.toNat + 2 ^ 8 * min 4095 x.progress + x.seq.toNat
  | 2 => x.partials % 2 ^ 24
  | 3 => x.owner + 2 * b2n (s.paused n)
  | _ => 0

/-- EMPTY to PENDING, and FULL: a push that needs a new cell would be refused (R507). -/
def State.qFull (n : Nat) (s : State) : Bool :=
  if n < 32 then decide (512 ≤ (sget PanQueue.reset n s.pantry.pan).words) else !s.cellRoom n

/-- A word of a queue's window below Q_POP (R505 to R507). Q_0 to Q_31 are the Pan queues. -/
def State.queueReg (n i : Nat) (s : State) : Nat :=
  let q := s.q n
  let pan := sget PanQueue.reset n s.pantry.pan
  let words := if n < 32 then pan.words else q.words
  let none_ := if n < 32 then pan.words == 0 else q.cells.isEmpty
  match i with
  | 0 => b2n (if n < 32 then s.mode.mode != .boot else q.en) + 2 * b2n (decide (n < 32)) + 4 * qAccess n + 2 ^ 4 * b2n q.whole +
      2 ^ 5 * q.ngrp.toNat
  | 1 => q.limit + 2 ^ 16 * q.wm
  | 2 => (if n < 32 then pan.head else match q.cells.head? with | some c => c.id | none => 0) + 2 ^ 16 * b2n none_
  | 3 =>
    let tail := if n < 32 then (if pan.words = 0 then pan.head else (pan.head + pan.words - 1) % 512, b2n (pan.words != 0) * 64)
      else match q.cells.getLast? with | some c => (c.id, c.bytes.length) | none => (0, 0)
    tail.1 + 2 ^ 16 * b2n none_ + 2 ^ 17 * tail.2
  | 4 => words
  | 5 => b2n (words == 0) + 2 * b2n (s.qFull n) + 4 * b2n q.underrun + 8 * b2n q.overflow + 2 ^ 4 * b2n q.perr + 2 ^ 5 * b2n q.pending +
      2 ^ 8 * q.lastCount + 2 ^ 16 * q.drops
  | _ => 0

/-- STATE of DMA_STAT_c (R531). -/
def DmaState.code : DmaState → Nat
  | .idle => 0 | .running => 1 | .idleAtEnd => 2 | .aborting => 3 | .stopped => 4

/-- A register of DMA channel `c` (R531). -/
def State.chanReg (c i : Nat) (s : State) : Nat :=
  let x := s.chan c
  match i with
  | 0 => 4 * b2n x.intEn + 8 * x.vec.toNat
  | 1 => x.state.code + 8 * b2n x.kick + 2 ^ 4 * b2n x.qWait + 2 ^ 8 * x.code.toNat + 2 ^ 12 * b2n x.int + 2 ^ 13 * b2n x.perr +
      2 ^ 16 * x.carry.length
  | 2 => x.desc % 2 ^ 32
  | 3 => x.desc / 2 ^ 32
  | 4 => x.residue
  | 5 => x.crc.toNat
  | 7 => (x.queue.getD 0) + 2 ^ 13 * b2n x.queue.isSome + 2 ^ 14 * b2n x.window.isSome + 2 ^ 15 * x.port + 2 ^ 16 * (x.window.getD 0)
  | _ => 0

/-- A global register of the DMA engine (R532). -/
def State.dmaReg (i : Nat) (s : State) : Nat :=
  let d := s.dma
  let ints := fun (j : Nat) => mkBits 32 (fun k => (s.chan (32 * j + k)).int)
  match i with
  | 0 => d.errAddr % 2 ^ 32
  | 1 => d.errAddr / 2 ^ 32
  | 2 => b2n d.latched + 2 * d.kind.toNat + 2 ^ 4 * d.errPort + 2 ^ 16 * d.count
  | 4 => ints 0
  | 5 => ints 1
  | _ => 0

/-- The sources of the catalogue (R644); every other source is reserved. -/
def inCatalogue (i : Nat) : Bool :=
  decide (i < 9) || (decide (16 ≤ i) && decide (i < 20)) || (decide (32 ≤ i) && decide (i < 80)) ||
    (decide (80 ≤ i) && decide (i < 109)) || (decide (128 ≤ i) && decide (i < 132)) || (decide (144 ≤ i) && decide (i < 150)) ||
    (decide (160 ≤ i) && decide (i < 180)) || (decide (192 ≤ i) && decide (i < 200)) || (decide (208 ≤ i) && decide (i < 216)) ||
    (decide (224 ≤ i) && decide (i < 234)) || i == 240 || i == 241

/-- The sources that this member has: the ML9624 is without those of the absent ports (R4). -/
def isSource (m : Member) (i : Nat) : Bool := inCatalogue i && !(decide (32 + m.ports ≤ i) && decide (i < 80))

/-- A register of the event block, at word `i` (R643). Reserved sources read 0 in every field (R642); those of absent ports
read 0 in EV_RAW and EV_LATCH and keep the reset value elsewhere (R4). -/
def State.eventReg (i : Nat) (s : State) : Nat :=
  let e := s.ev
  let pick := fun (has : Nat → Bool) (b : BitVec 256) => mkBits 32 (fun k => b.getLsbD (32 * (i % 8) + k) && has (32 * (i % 8) + k))
  let word := pick (isSource s.board.member)
  if i < 8 then word e.raw else if i < 16 then word e.latch else if i < 24 then word e.enable
  else if i < 32 then pick inCatalogue e.edge
  else if i < 40 then word (e.latch &&& e.enable)
  else if 256 ≤ i ∧ i < 512 ∧ inCatalogue (i - 256) then
    let r := s.route (i - 256)
    r.vec.toNat + 2 ^ 8 * b2n r.toCpu + 2 ^ 9 * b2n r.port + 2 ^ 10 * b2n r.wake
  else 0

/-- A word of a function's MSI-X table or pending-bit array (R533). -/
def State.msixReg (p i : Nat) (s : State) : Nat :=
  let e := sget MsixEntry.reset (i / 4) (s.port p).msix
  if i < 256 then
    match i % 4 with
    | 0 => e.addr.toNat % 2 ^ 32
    | 1 => e.addr.toNat / 2 ^ 32
    | 2 => e.data.toNat
    | _ => e.ctrl.toNat
  else if 1024 ≤ i ∧ i < 1026 then mkBits 32 (fun k => (sget MsixEntry.reset (32 * (i - 1024) + k) (s.port p).msix).pending)
  else 0

/-! ## BAR0 (R535, R539, R647) -/

/-- The word that a port reads at an address aligned to 4; in BOOT only the identity block reads. -/
def State.readWord (p a : Nat) (s : State) : Nat :=
  if a < 0x10000 then
    match a with
    | 0x00 => s.devId | 0x04 => s.devStep | 0x08 => s.devMode | 0x0C => s.devStatus | 0x10 => s.heartbeat
    | _ => 0
  else if s.mode.mode == .boot then 0
  else if a < 0x14000 then
    let n := (a - 0x10000) / 64
    if (s.ctx n).owner == p then s.ctxReg n (a / 4 % 16) else 0
  else if 0x100000 ≤ a ∧ a < 0x200000 then s.queueReg ((a - 0x100000) / 128) (a / 4 % 32)
  else if 0x200000 ≤ a ∧ a < 0x204000 then s.chanReg ((a - 0x200000) / 256) (a / 4 % 64)
  else if 0x204000 ≤ a ∧ a < 0x204018 then s.dmaReg (a / 4 % 8)
  else if 0x300000 ≤ a ∧ a < 0x310000 then s.eventReg ((a - 0x300000) / 4)
  else if 0x400000 ≤ a ∧ a < 0x600000 then s.mirror (a - 0x400000)
  else if 0x600000 ≤ a ∧ a < 0x602000 then s.msixReg p ((a - 0x600000) / 4)
  else 0

/-- The RC fields that a read of a word clears (R7, R507). -/
def State.readClears (a : Nat) (s : State) : State :=
  if s.mode.mode == .boot then s
  else if 0x100000 ≤ a ∧ a < 0x200000 then
    (if a / 4 % 32 = 5 then s.setQ ((a - 0x100000) / 128) (fun q => { q with drops := 0 }) else s)
  else if 0x400000 ≤ a ∧ a < 0x600000 then s.mirrorClear (a - 0x400000)
  else s

end Sys2Proof.Machine
end

