-- ==== Sys2Proof/Machine/LineTiming.lean ====
section
/-! DEFINITION. Counted units, crossings, triggers, flushes and the line tag (chapter "Line timing, exposure and seamless
stop-restart", R165 to R183), and REJECT_OUT (R567). -/

namespace Sys2Proof.Machine

/-! ## The issue of a line (R174 to R179) -/

/-- A powered die takes a trigger: a line, or none for a flush (R177). -/
def State.trigDies (line : Option (BitVec 32)) (s : State) : State :=
  (List.range s.board.member.dies).foldl (fun (s : State) k =>
    if (s.die k).powered then s.setDie k (fun d => { d with trigs := d.trigs ++ [line] }) else s) s

/-- A line starts on the device: its programs can run (R175). -/
def State.startLine (seq : BitVec 32) (s : State) : State :=
  (s.setLine seq (fun r => { r with started := true })).trigDies (some seq)

/-- The pending apply meets the line about to be issued (R23, R198). -/
def State.applyDue (seq : BitVec 32) (s : State) : State :=
  match s.mode.apply with
  | none => s
  | some a =>
    match a.target with
    | none => if a.accepted + 10000 ≤ s.now then s.applyAt seq else s
    | some x =>
      if x == seq then (if a.accepted + 10000 ≤ s.now then s.applyAt seq else s.dropApply cState)
      else if s.isMaster && decide ((x - seq).toNat ≤ 2) then { s with mode := { s.mode with apply := some { a with announced := true } } }
      else s

/-- The record of a line at its trigger (R20, R52, R101, R145, R179, R183, R220). -/
def State.lineAt (seq : BitVec 32) (vEst : Int) (late skipped phase : Nat) (restart started : Bool) (g : Gated) : LineRec :=
  let s := g.st
  let t := s.active
  { tag := { seq := seq, pitch := BitVec.ofNat 32 s.lt.pitchIx, vEst := vEst, lateNs := late, first := g.first, last := g.last,
             gap := g.gap, phase := BitVec.ofNat 2 phase, restart := restart, skipped := skipped },
    trigAt := s.now, mode := s.mode.mode, profile := s.mode.profile, tabs := t, sets := s.validSets, places := s.shd.place, choices := s.shd.choices,
    delta := (List.range 4).map (t.strobe.delta phase vEst),
    lamps := (List.range 4).map (fun w => ((s.row w).k, (s.row w).cap)), masked := (List.range s.board.member.ports).filter (fun p => (s.seg p).state.isMasked),
    dead := s.deadTaps, seams := (List.range 3).filter (fun k => s.clk.skewTemp.getLsbD k || s.clk.skewSupply.getLsbD k),
    cap := s.lt.caps, gate := g.info, started := started, done := false, dieAt := [], words := [] }

/-- A line boundary: factors, caps and shading choices come into force (R220, R353, R357). -/
def State.lineBoundary (s : State) : State :=
  let s1 := s.rowBoundary
  { s1 with shd := { s1.shd with choices := s1.shd.nextChoices } }

/-- A line is issued (R176, R178, R179): `late` is its lateness in ns. -/
def State.issueLine (late : Nat) (s : State) : State :=
  let seq := s.nextSeq
  let v := s.vNow
  let s1 := (s.applyDue seq).lineBoundary
  let restart := s1.lt.pace == .approach && s1.mode.mode == .sheetScan
  let g := s1.gateLine.warm s1.lt.caps
  let r := State.lineAt seq v late (if restart then 0 else s.lt.pendSkips) (seq.toNat % s1.active.strobe.phases) restart (!s1.isMaster) g
  let s2 := { g.st with lines := g.st.lines ++ [r] }
  let s3 := s2.setLt (fun l =>
    { l with seq := seq, seqValid := true, caps := l.caps + 1, lastTrig := some s.now, lastAny := some s.now, pend := none,
             pendSkips := 0, pace := if restart then .run else l.pace })
  let s4 := (s3.pulseIf (late != 0) 87).pulseIf restart 95
  if s4.isMaster then s4 else s4.startLine seq

/-- A trigger is requested (R176). -/
def State.requestTrigger (s : State) : State :=
  let s1 := s.setLt (fun l => { l with pitchIx := l.pitchIx + 1, interpAt := none })
  let s2 := if s1.lt.pend.isSome then
      (s1.setLt (fun l => { l with pend := none, pendSkips := l.pendSkips + 1, skipCnt := satAdd 0xFFFF l.skipCnt 1 })).pulse 88
    else s1
  let early := match s2.lt.lastAny with | some t => decide (s2.now < t + s2.tMin) | none => false
  if early then s2.setLt (fun l => { l with pend := some s2.now }) else s2.issueLine 0

/-! ## Counted units (R168 to R173) -/

/-- V_EST at a count (R169), in 1/16 line/s, from the time stamps before it, newest first. -/
def vEstOf (div now : Nat) (counts : List Nat) (sgn : Int) : Int :=
  let recent := counts.filter (fun c => decide (now ≤ c + 1000000))
  let n := min 16 recent.length
  let back := if n = 0 then (counts.head?.filter (fun c => decide (now ≤ c + 10000000))).map (fun c => (1, c))
    else recent[n - 1]?.map (fun c => (n, c))
  match back with
  | some (n, c) => sgn * divRound (16 * n * 1000000000 * 2 ^ 32 : Nat) (max 1 (now - c) * div : Nat)
  | none => 0

/-- V_EST at a count (R169). -/
def State.speedNow (sgn : Int) (s : State) : Int :=
  if s.srcNow ≤ 1 then vEstOf s.divNow s.now s.lt.counts sgn else s.vNow

/-- Crossings trigger lines: not at rest or in reverse while the unit paces (R194). -/
def State.crossOk (s : State) : Bool :=
  !(s.mode.mode == .sheetScan && (s.lt.pace == .rest || s.lt.pace == .reverse))

/-- NEXT advances and a trigger is requested (R172). -/
def State.crossing (s : State) : State := (s.setLt (fun l => { l with next := l.next + s.divNow })).requestTrigger

/-- One counted unit (R172, R173). -/
def State.lineCount (d : Int) (s : State) : State :=
  if !s.lt.run then s
  else
    let v := s.speedNow d
    let s1 := s.setLt (fun l => { l with pos := l.pos + d * 2 ^ 32, counts := (s.now :: l.counts).take 16, vEst := v, interpAt := none })
    if !s1.crossOk then s1
    else
      let s2 := if s1.lt.next ≤ s1.lt.pos then s1.crossing else s1
      let left := s2.lt.next - s2.lt.pos
      if s2.active.ltSrc.interp && decide (s2.srcNow ≤ 1) && decide (0 < d) && decide (0 < v) && decide (0 < left) &&
          decide (left < 2 ^ 32) then
        s2.setLt (fun l => { l with interpAt := some (s2.now + (16000000000 * left / (v * s2.divNow)).toNat) })
      else s2

/-- A valid transition of the two inputs counts by its direction; A leading B counts +1 (R168; log entry 50). -/
def quadDir (e : Encoder) (a b : Bool) : Int := if a != e.a then (if a != b then 1 else -1) else (if b == a then 1 else -1)

/-- ENC_EDGE (R168, R170, R172): the levels after the filter. -/
def execEncEdge (t : Nat) (enc : BitVec 1) (a b : Bool) (s : State) : Host.Outcome State Fault Refusal :=
  let s1 := s.atTime t
  let second := enc.toNat = 1
  let e := if second then s1.lt.enc1 else s1.lt.enc0
  let put := fun (x : Encoder) => s1.setLt (fun l => if second then { l with enc1 := x } else { l with enc0 := x })
  if (second && !s1.encOne) || (a == e.a && b == e.b) then (put { e with a := a, b := b }).out
  else if a != e.a && b != e.b then
    (((put { e with a := a, b := b }).setLt (fun l => { l with encErr := true, faults := l.faults + 1 })).pulse 89).out
  else
    let inv := if second then s1.active.ltSrc.dir1 else s1.active.ltSrc.dir0
    let d := if inv then -(quadDir e a b) else quadDir e a b
    let s2 := put { e with a := a, b := b, sum := if s1.lt.run then e.sum + d else e.sum }
    let s3 := s2.pulseIf (s2.encCheck && !s1.encCheck) 90
    (if s3.srcNow = enc.toNat then s3.lineCount d else s3).out

/-- ENC_INDEX (R186). -/
def execEncIndex (t : Nat) (enc : BitVec 1) (s : State) : Host.Outcome State Fault Refusal :=
  let s1 := s.atTime t
  (if s1.rst.uzsId = 0 && s1.active.ltPage.cue = 5 + enc.toNat && (enc = 0 || s1.encOne) then s1.cueAt s1.edgePos else s1).out

/-- SHEET_EDGE (R186 to R188): a rising edge is the cue of a sheet sensor (log entry 51). -/
def execSheetEdge (t : Nat) (n : BitVec 2) (high : Bool) (s : State) : Host.Outcome State Fault Refusal :=
  let s1 := s.atTime t
  let was := s1.lt.sheets.getD n.toNat false
  let s2 := s1.setLt (fun l => { l with sheets := l.sheets.set n.toNat high })
  let x := s2.active.ltPage
  if was == high || !s2.lt.run || !s2.mode.mode.isRun || s2.rst.uzsId != 0 then s2.out
  else if s2.mode.mode.isWeb then (if x.cue = n.toNat + 1 && high then s2.cueAt s2.edgePos else s2).out
  else
    let present := high != x.gatePol
    let s3 := if x.gateSrc = n.toNat then (if present then s2.sheetLead s2.edgePos else s2.sheetTrail s2.edgePos) else s2
    (if x.skewSrc = n.toNat && present then s3.skewEdge s2.edgePos else s3).out

/-- GENERATOR_PERIOD (R165, R171). -/
def execGeneratorPeriod (t : Nat) (s : State) : Host.Outcome State Fault Refusal :=
  let s1 := s.atTime t
  match s1.lt.genAt with
  | some g =>
    if s1.lt.run && s1.srcNow == 3 && decide (g < 256 * s1.now + 256) then
      ((s1.setLt (fun l => { l with genAt := some (g + s1.active.ltSrc.genPeriod.toNat) })).lineCount 1).out
    else s1.out
  | none => s1.out

/-- INTERP_TRIGGER (R173). -/
def execInterpTrigger (t : Nat) (s : State) : Host.Outcome State Fault Refusal :=
  let s1 := s.atTime t
  match s1.lt.interpAt with
  | some x => (if s1.lt.run && decide (x ≤ s1.now) && s1.crossOk then s1.crossing else s1).out
  | none => s1.out

/-- PENDING_TRIGGER_ISSUE (R176). -/
def execPendingTriggerIssue (t : Nat) (s : State) : Host.Outcome State Fault Refusal :=
  let s1 := s.atTime t
  match s1.lt.pend, s1.lt.lastAny with
  | some q, some l => (if s1.lt.run && decide (l + s1.tMin ≤ s1.now) then s1.issueLine (s1.now - q) else s1).out
  | _, _ => s1.out

/-- A flush is due (R177). -/
def State.flushDue (s : State) : Bool :=
  let p := s.active.ltSrc.flushPeriod.toNat
  let period := zeroIs 200000 p
  s.lt.run && decide (s.srcNow ≤ 2) && s.lt.pend.isNone &&
    (match s.lt.lastAny with | some l => decide (l + max period s.tMin ≤ s.now) | none => true) &&
    (s.vNow == 0 || decide (s.vNow * 2 * s.tMin * s.divNow < (s.lt.next - s.lt.pos) * 16000000000))

/-- FLUSH_TRIGGER (R177): every program runs, and LINE_SEQ does not advance. -/
def execFlushTrigger (t : Nat) (s : State) : Host.Outcome State Fault Refusal :=
  let s1 := s.atTime t
  (if s1.flushDue then (s1.setLt (fun l => { l with lastAny := some s1.now })).trigDies none else s1).out

/-- V_EST_TIMEOUT (R169). -/
def execVEstTimeout (t : Nat) (s : State) : Host.Outcome State Fault Refusal :=
  let s1 := s.atTime t
  let due := match s1.lt.counts.head? with | some c => decide (c + 10000000 ≤ s1.now) | none => true
  (if due && decide (s1.srcNow ≤ 1) then s1.setLt (fun l => { l with vEst := 0 }) else s1).out

/-! ## REJECT_OUT (R567) -/

/-- REJECT_OUT_PULSE: the position of a pulse is reached; a pulse that is being issued goes on. -/
def execRejectOutPulse (t : Nat) (s : State) : Host.Outcome State Fault Refusal :=
  let s1 := s.atTime t
  let due := s1.sv.rejects.filter (fun x => decide (x ≤ s1.edgePos))
  (if due.isEmpty then s1
   else
     let end_ := if s1.active.io.fev15 = 1 then some (s1.now + 1000 * s1.active.io.rejWidth) else s1.sv.rejUntil
     { s1 with sv := { s1.sv with rejects := s1.sv.rejects.filter (fun x => !decide (x ≤ s1.edgePos)), rejUntil := end_ } }).out

/-- REJECT_OUT_END. -/
def execRejectOutEnd (t : Nat) (s : State) : Host.Outcome State Fault Refusal :=
  let s1 := s.atTime t
  (match s1.sv.rejUntil with
   | some x =>
     if x ≤ s1.now then
       { s1 with sv := { s1.sv with rejUntil := none },
                 skl := { s1.skl with rejHold := false, fevWait := s1.skl.fevWait || s1.skl.rejHold } }
     else s1
   | none => s1).out

end Sys2Proof.Machine
end

