-- ==== Sys2Proof/Machine/Uzon.lean ====
section
/-! DEFINITION. The Uzon sync bus (chapter "Line timing, exposure and seamless stop-restart", R196 to R200; R42, R78). -/

namespace Sys2Proof.Machine

/-! ## Frames (R196, R197) -/

/-- CRC-8 with polynomial 0x07 and initial value 0 over bits in the order in which they are sent. -/
def crc8 (l : List Bool) : BitVec 8 :=
  l.foldl (fun c b => if c.getLsbD 7 != b then (c <<< 1) ^^^ 0x07#8 else c <<< 1) 0

/-- The low `n` bits of a number, least significant first. -/
def bitsLsb (n v : Nat) : List Bool := (List.range n).map (bit v)

/-- Bits as bytes, the first bit lowest. -/
def packBits (l : List Bool) : List Byte := le (divUp l.length 8) (mkBits l.length (fun i => l.getD i false))

/-- SPEED in units of 8 lines/s, saturated, from V_EST in 1/16 line/s. -/
def speedField (v : Int) : Nat := unsign 16 (clampI (-32767) 32767 (divRound v 128))

/-- GATE of a line. -/
def gateField (x : LineTag) : Nat := if x.gap then 2 else if x.first then 1 else 0

/-- The master's frame of a line. -/
def frameOf (r : LineRec) (applyIn : Nat) : List Bool :=
  let body := bitsLsb 16 r.tag.seq.toNat ++ bitsLsb 4 r.mode.code ++ bitsLsb 2 applyIn ++ bitsLsb 2 r.tag.phase.toNat ++
    bitsLsb 2 (gateField r.tag) ++ bitsLsb 16 (speedField r.tag.vEst)
  [true] ++ body ++ (bitsLsb 8 (crc8 body).toNat).reverse

/-- Lines until the apply line, 0 for none. -/
def State.applyIn (seq : BitVec 32) (s : State) : Nat :=
  match s.mode.apply.bind (·.target) with
  | some x => if (x - seq).toNat = 2 then 2 else if (x - seq).toNat = 1 then 1 else 0
  | none => 0

/-- The latest admission was refused, or FILL is at or above HWM (R197). -/
def State.isHigh (s : State) : Bool := decide (s.active.ltPace.hwm ≤ s.fill) || s.ring.full

/-- FILL is at or below LWM. -/
def State.isLow (s : State) : Bool := decide (s.fill ≤ s.active.ltPace.lwm)

/-- A follower's slot (R197). -/
def State.slotOut (s : State) : List Byte :=
  let b := [s.lt.run, s.degraded, s.simmer.speedReq, s.isHigh, s.isLow, s.uzs.missed]
  packBits ([false, true] ++ b ++ [(b.filter id).length % 2 == 1])

/-- The status of the followers whose slot the latest line brought whole. -/
def State.slotsHeard (s : State) : List (BitVec 6) :=
  ((List.range s.active.ltSrc.followers.toNat).filter (fun i => s.uzs.seen.getD i false && !s.uzs.perr.getD i false)).map
    (fun i => s.uzs.status.getD i 0)

/-- The bar is at or above HWM, or at or below LWM (R199): this device and every follower that captures. -/
def State.barHigh (s : State) : Bool :=
  decide (s.active.ltPace.hwm ≤ s.fill) || (s.isMaster && s.slotsHeard.any (fun x => x.getLsbD 0 && x.getLsbD 3))
@[inherit_doc State.barHigh] def State.barLow (s : State) : Bool :=
  s.isLow && (!s.isMaster || s.slotsHeard.all (fun x => !x.getLsbD 0 || x.getLsbD 4))

/-! ## Lines over the bus (R78, R198, R200) -/

/-- The device takes part in a bar. -/
def State.onBar (s : State) : Bool := s.rst.uzsId != 0 || s.isMaster

/-- UZS_LINE_SAMPLED: the line starts 160 ns later (R78). -/
def execUzsLineSampled (t : Nat) (s : State) : Host.Outcome State Fault Refusal :=
  let s1 := s.atTime t
  (if s1.onBar then { s1 with uzs := { s1.uzs with lineAt := some (s1.now + 160) } } else s1).out

/-- A follower's apply at its line (R198, R651): a failed check applies nothing. -/
def State.followApply (keys : List Nat) (s : State) : State :=
  let t := s.willBe false keys
  match s.applyFault t keys false with
  | some _ => ({ s with uzs := { s.uzs with missed := true, applySeen := none } }).unlocked
  | none =>
    let s1 := { s with uzs := { s.uzs with missed := false, applySeen := some (0, keys) },
                       shd := { s.shd with accFilters := s.shd.filters } }
    ((s1.swap keys false).2.stagMove (s.stagRoom t).join).unlocked

/-- A follower starts a line with its own count; the frame that follows sets the rest (R200). An announced apply and one that the
follower's own host has asked for meet their line first (R198, R650). -/
def State.followLine (s : State) : State :=
  let seq := s.nextSeq
  let s0 := match s.uzs.applySeen with
    | some (0, _) => s
    | some (1, keys) => s.followApply keys
    | some (k, keys) => { s with uzs := { s.uzs with applySeen := some (k - 1, keys) } }
    | none => s
  let s1 := s0.applyDue seq
  let s2 := (s1.setLt (fun l => { l with pitchIx := l.pitchIx + 1, vEst := s1.uzs.speed })).lineBoundary
  let g : Gated := { first := false, last := false, gap := true, info := GateInfo.gap, st := s2 }
  let r := State.lineAt seq s2.uzs.speed 0 0 (seq.toNat % s2.active.strobe.phases) false false g
  let s3 := { s2 with lines := s2.lines ++ [r], uzs := { s2.uzs with badRun := s2.uzs.badRun + 1 } }
  (s3.setLt (fun l => { l with seq := seq, seqValid := true, caps := l.caps + 1, lastTrig := some s.now, lastAny := some s.now })).startLine seq

/-- UZS_LINE_START (R78, R42): the master sends its frame, a follower in a capture mode starts its line. -/
def execUzsLineStart (t : Nat) (s : State) : Host.Outcome State Fault Refusal :=
  let s1 := s.atTime t
  match s1.uzs.lineAt with
  | none => s1.out
  | some x =>
    if s1.now < x then s1.out
    else
      let s2 : State := { s1 with uzs := { s1.uzs with lineAt := none } }
      if !(s2.rst.uzsId == 0) then (if s2.lt.run && !s2.uzs.stopped then s2.followLine else s2).out
      else
        match s2.lines.find? (fun r => !r.started) with
        | some r => ((s2.startLine r.tag.seq).emit (.uzonFrame (packBits (frameOf r (s2.applyIn r.tag.seq))))).out
        | none => s2.out

/-- A line in flight takes another number. -/
def State.renumber (old new : BitVec 32) (s : State) : State :=
  let f := fun (q : Option (BitVec 32)) => if q == some old then some new else q
  let s1 := s.setLine old (fun r => { r with tag := { r.tag with seq := new } })
  { s1.setLt (fun l => { l with seq := new }) with
    skl := { s1.skl with cur := f s1.skl.cur },
    ports := { s1.ports with dies := s1.ports.dies.map (fun (d : Nat × FeDie) => (d.1, { d.2 with line := f d.2.line, trigs := d.2.trigs.map f })) } }

/-- The fields of a good frame: SEQ_LO, MODE, APPLY_IN, PHASE, GATE and SPEED. -/
structure FrameIn where
  seqLo   : Nat
  mode    : Nat
  applyIn : Nat
  phase   : Nat
  gate    : Nat
  speed   : Int

/-- A received frame, none with a bad CRC or without SOF. -/
def frameIn (f : BitVec 51) : Option FrameIn :=
  let body := (List.range' 1 42).map f.getLsbD
  let crc := (List.range' 43 8).map f.getLsbD
  if f.getLsbD 0 && (bitsLsb 8 (crc8 body).toNat).reverse == crc then
    some { seqLo := (f.extractLsb' 1 16).toNat, mode := (f.extractLsb' 17 4).toNat, applyIn := (f.extractLsb' 21 2).toNat,
           phase := (f.extractLsb' 23 2).toNat, gate := (f.extractLsb' 25 2).toNat, speed := 128 * (f.extractLsb' 27 16).toInt }
  else none

/-- The line just started takes mode, gate, speed and phase (R196, R199). -/
def State.followFrame (gate phase : Nat) (s : State) : State :=
  let v := s.uzs.speed
  let g := (s.gateFollow gate).warm (s.lt.caps - 1)
  (g.st.setLine s.lt.seq (fun r =>
    { r with tag := { r.tag with vEst := v, first := g.first, gap := g.gap, phase := BitVec.ofNat 2 phase }, gate := g.info,
             mode := s.mode.mode, tabs := s.active, delta := (List.range 4).map (s.active.strobe.delta phase v) })).setLt
    (fun l => { l with vEst := v })

/-- The mode of the frame differs from the follower's: it is followed with an announced apply, under the checks of R651 on what comes into
force with it, and otherwise shows a missed one (R198). -/
def State.followMode (m : Mode) (s : State) : State :=
  let miss := { s with uzs := { s.uzs with missed := true } }
  if m == s.mode.mode || !m.isCapture then s
  else
    match s.uzs.applySeen with
    | some (0, all) =>
      let keys := s.staged.keys.filter (fun k => all.contains k && (k == 0x0300 || k == 0x0700))
      match s.applyFault (s.willBe true keys) keys false with
      | some _ => miss
      | none => (s.swap keys true).2.modeWith s m
    | _ => miss

/-- The frame of a line that this follower has started (R196, R198, R200). After two frames in a row that were not good it may have missed
both announcements of an apply, which only the master knows: APPLY_MISS is then a free bit (log entry 174). -/
def State.followRx (frame : BitVec 51) (s : State) : State :=
  let m := if s.uzs.badRun = 3 then s.free 1 else (0, s)
  let s0 := if m.1 = 1 then { m.2 with uzs := { m.2.uzs with missed := true } } else m.2
  match frameIn frame with
  | none =>
    let s1 := { s0 with uzs := { s0.uzs with crcErrs := s0.uzs.crcErrs + 1 } }
    s1.followFrame s1.uzs.gate.toNat (s1.lt.seq.toNat % s1.active.strobe.phases)
  | some f =>
    let own := s0.lt.seq.toNat % 65536
    let new := BitVec.ofNat 32 (s0.lt.seq.toNat - own + f.seqLo)
    let s2 := if own = f.seqLo then s0
      else ({ s0.renumber s0.lt.seq new with uzs := { s0.uzs with seqErr := true } }).pulse 7
    let s3 := { s2 with uzs := { s2.uzs with speed := f.speed, mode := BitVec.ofNat 4 f.mode, gate := BitVec.ofNat 2 f.gate, badRun := 0 } }
    let s4 := match Mode.ofCode f.mode with | some m => s3.followMode m | none => s3
    let s5 := match s4.uzs.applySeen with
      | some (0, _) => { s4 with uzs := { s4.uzs with applySeen := none } }
      | _ => s4
    let s6 := (s5.followFrame f.gate f.phase).unlocked
    match f.applyIn, s6.uzs.applySeen with
    | 2, _ => { s6 with uzs := { s6.uzs with applySeen := some (2, s6.staged.keys.eraseDups) } }
    | 1, none => { s6 with uzs := { s6.uzs with applySeen := some (1, s6.staged.keys.eraseDups) } }
    | _, _ => s6

/-- UZS_FRAME_RX (R197, R198, R200): a follower that captures takes the frame of its line, and every follower answers in its slot of the
line; in BOOT and STANDBY it drives nothing (log entry 174). -/
def execUzsFrameRx (t : Nat) (frame : BitVec 51) (s : State) : Host.Outcome State Fault Refusal :=
  let s1 := s.atTime t
  if s1.rst.uzsId = 0 then s1.out
  else
    let s2 := if s1.lt.run && !s1.uzs.stopped && s1.lt.seqValid then s1.followRx frame else s1
    (if s2.mode.mode == .boot || s2.mode.mode == .standby then s2 else s2.emit (.uzonSlot s2.rst.uzsId.toNat s2.slotOut)).out

/-- UZS_SLOT_RX (R197, R200, R204): a slot of a configured follower. A slot without its SOF brings no status and no parity: STATUS_j keeps
what it showed and PERR_j reads 0 (DESIGN CHOICE: log entry 175). -/
def execUzsSlotRx (t : Nat) (j : BitVec 2) (slot : BitVec 9) (s : State) : Host.Outcome State Fault Refusal :=
  let s1 := s.atTime t
  let i := j.toNat - 1
  if !s1.isMaster || j = 0 || decide (s1.active.ltSrc.followers.toNat < j.toNat) then s1.out
  else
    let st := slot.extractLsb' 2 6
    let sof := slot.getLsbD 1
    let par := ((List.range 7).filter (fun k => slot.getLsbD (k + 2))).length % 2 == 0
    let u := s1.uzs
    let s2 := { s1 with uzs := { u with seen := u.seen.set i sof, perr := u.perr.set i (sof && !par),
                                        status := if sof then u.status.set i st else u.status } }
    (s2.pulseIf (!sof || !par || u.status.getD i 0 != st) 8).out

/-- UZS_CLK_TIMEOUT (R200): the follower stops triggering until it is next brought from IDLE into a capture mode. -/
def execUzsClkTimeout (t : Nat) (s : State) : Host.Outcome State Fault Refusal :=
  let s1 := s.atTime t
  (if s1.rst.uzsId = 0 then s1
   else ({ s1 with uzs := { s1.uzs with lost := true, stopped := true, lineAt := none } }.setLt (fun l => { l with run := false })).pulse 6).out

end Sys2Proof.Machine
end

