-- ==== Sys2Proof/Machine/Simmer.lean ====
section
/-! DEFINITION. Simmer: configuration, budgets, stages, the speed ceiling and the lamp caps (chapter "Temperature sensing and the
Simmer scheduler", R439 to R448). -/

namespace Sys2Proof.Machine

/-- SIMMER_CFG_STAGE (R440): in force at the first refill after it. -/
def takeSimmerCfgStage (h : Hdr) (tTarget theta tRelease tHold dwell ceilMin : BitVec 16) (bucket : BitVec 8) (s : State) : State :=
  let x : SimCfg :=
    { tTarget := tTarget.toInt, theta := theta.toNat, tRelease := tRelease.toInt, tHold := tHold.toInt, dwell := dwell.toNat,
      ceilMin := ceilMin.toNat, bucket := bucket.toNat, pBoard := 0 }
  let within := fun (lo hi v : Int) => decide (lo ≤ v) && decide (v ≤ hi)
  s.take h 0x0B00 [.s, .t] true (some 0)
    (within 17920 25600 x.tTarget && decide (1 ≤ x.theta) && within 15360 24320 x.tRelease && within 26880 30208 x.tHold &&
      within 100 60000 x.dwell && within 512 4096 x.ceilMin && within 1 16 x.bucket) (fun s =>
    .ok [] [] { s with simmer := { s.simmer with nextCfg := some x } })

/-- SIMMER_CFG_STAGE. -/
def execSimmerCfgStage (h : Hdr) (tTarget theta tRelease tHold dwell ceilMin : BitVec 16) (bucket : BitVec 8) (s : State) :
    Host.Outcome State Fault Refusal := (takeSimmerCfgStage h tTarget theta tRelease tHold dwell ceilMin bucket s).out

/-- SIMMER_POWER_LIMIT (R440). -/
def takeSimmerPowerLimit (h : Hdr) (pBoard : BitVec 16) (s : State) : State :=
  s.take h 0x0B01 [.s, .t] true (some 0) true (fun s =>
    .ok [] [] { s with simmer := { s.simmer with nextBoard := some pBoard.toNat } })

/-- SIMMER_POWER_LIMIT. -/
def execSimmerPowerLimit (h : Hdr) (pBoard : BitVec 16) (s : State) : Host.Outcome State Fault Refusal :=
  (takeSimmerPowerLimit h pBoard s).out

/-- Change Simmer. -/
def State.setSim (f : Simmer → Simmer) (s : State) : State := { s with simmer := f s.simmer }

/-- What has been staged takes effect (R440). -/
def State.simmerConfigured (s : State) : State :=
  s.setSim (fun x =>
    let c := match x.nextCfg with | some c => { c with pBoard := x.cfg.pBoard } | none => x.cfg
    { x with cfg := { c with pBoard := x.nextBoard.getD c.pBoard }, nextCfg := none, nextBoard := none })

/-- P_lamp in mW (R370, R441). -/
def State.lampPower (s : State) : Nat :=
  ((List.range 4).map (fun w => if (s.row w).power = 0xFFFF then (rowCfg s.active w).pMax else (s.row w).power)).sum

/-- P_opt in mW (R441). -/
def State.optPower (pDev pMand pLamp : Nat) (s : State) : Nat :=
  let c := s.simmer.cfg
  let room : Int := (pDev : Int) + (c.tTarget - s.therm.tHot) * 1000000 / (256 * c.theta : Nat)
  let th := if s.therm.rorWarn then min room pDev else room
  let top : Int := if c.pBoard = 0 then th else min th ((100 * c.pBoard : Nat) - (pLamp : Int))
  (top - pMand).toNat

/-- Bytes of the latest 1 ms window on every port but SIEVE and LADLE_TONGS (R442). -/
def State.otherBytes (s : State) : Nat :=
  (((List.range 12).filter (fun p => p != 6 && p != 7)).map (fun p => sget 0 p s.dram.latched)).sum

/-- The bandwidth refill in bytes (R442). -/
def State.optBytes (s : State) : Nat := ((s.sustained / 1000).floor - (s.otherBytes : Int)).toNat

/-- A unit waits for tokens at the end of an interval (R443). -/
def State.unitWaits (s : State) : Bool :=
  match s.svReady.head? with
  | some u => (s.svStart u).isNone
  | none => false

/-- The buckets are refilled (R441 to R443). -/
def State.refill (pDev pMand : Nat) (s : State) : State :=
  let lamp := s.lampPower
  let p := s.optPower pDev pMand lamp
  let b := s.optBytes
  let waits := s.unitWaits
  s.setSim (fun x => { x with
    pDev := pDev, pLamp := lamp, pOpt := p, bOpt := b,
    energy := min (x.energy + 1000 * p) (1000 * p * x.cfg.bucket), bytes := min (x.bytes + b) (b * x.cfg.bucket),
    blocked := (waits :: x.blocked).take 100 })

/-! ## Stages (R445, R446) -/

/-- A condition has held for some ns. -/
def State.heldFor (ns : Nat) (since : Option Nat) (s : State) : Bool :=
  match since with
  | some t => decide (t + ns ≤ s.now)
  | none => false

/-- P_dev + P_lamp > P_BOARD, and at most 0.95 x P_BOARD; without a limit neither enters a stage nor holds one up (R448). -/
def Simmer.over (x : Simmer) : Bool := x.cfg.pBoard != 0 && decide (100 * x.cfg.pBoard < x.pDev + x.pLamp)
@[inherit_doc Simmer.over] def Simmer.under (x : Simmer) : Bool :=
  x.cfg.pBoard == 0 || decide (100 * (x.pDev + x.pLamp) ≤ 95 * (100 * x.cfg.pBoard))

/-- Every enabled row stands at its lowest cap. -/
def State.capsAtFloor (s : State) : Bool :=
  (List.range 4).all (fun w => !(rowCfg s.active w).en || (s.row w).nextCap == (rowCfg s.active w).capMin)

/-- The entry conditions of stages 1 to 4. -/
def State.entry (k : Nat) (s : State) : Bool :=
  let x := s.simmer
  let b := x.blockedCount
  let th := s.therm.tHot
  match k with
  | 1 => decide (20 ≤ b) || decide (x.cfg.tTarget - 1280 ≤ th)
  | 2 => s.heldFor 200000000 x.since1 || decide (x.cfg.tTarget ≤ th) || s.therm.rorWarn
  | 3 => s.heldFor 1000000000 x.since2 || decide (25600 ≤ th) || s.heldFor 100000000 x.floorSince
  | 4 => s.heldFor 10000000 s.therm.hotSince || s.therm.rorTrip || s.therm.shutdown
  | _ => false

/-- Every condition under which a stage can fall. -/
def State.mayFall (k : Nat) (s : State) : Bool :=
  let x := s.simmer
  let b := x.blockedCount
  let th := s.therm.tHot
  match k with
  | 1 => decide (b ≤ 5) && decide (th ≤ x.cfg.tTarget - 2048)
  | 2 => decide (b ≤ 5) && decide (th ≤ x.cfg.tTarget - 768) && !s.therm.rorWarn
  | 3 => decide (b ≤ 20) && decide (th ≤ 24832) && x.under
  | _ => false

/-- How long the conditions with a time have held. -/
def State.simmerTimers (s : State) : State :=
  let hold := fun (since : Option Nat) (on : Bool) => if on then some (since.getD s.now) else none
  let floor := s.simmer.over && s.capsAtFloor
  s.setSim (fun x => { x with
    since1 := hold x.since1 (decide (1 ≤ x.stage) && decide (20 ≤ x.blockedCount)),
    since2 := hold x.since2 (decide (2 ≤ x.stage) && decide (50 ≤ x.blockedCount)),
    floorSince := hold x.floorSince floor, lowSince := hold x.lowSince x.under })

/-- The stage changes (R446). -/
def State.stageTo (k : Nat) (s : State) : State :=
  if s.simmer.stage = k then s
  else
    let s1 := s.setJob (fun j => { j with pages := j.pages.map (fun (p : SvPage) => if p.isOpen then { p with stage := max p.stage k } else p) })
    (s1.setSim (fun x => { x with stage := k, dwellFrom := s.now })).pulse 197

/-- The evaluation of the stages: climbing at once, falling by one step after DWELL. Stage 4 enters THERMAL_HOLD. -/
def State.stages (s : State) : State :=
  let k := s.simmer.stage
  let top := ([1, 2, 3, 4].filter (fun j => s.entry j)).foldl max 0
  if k < top then
    let s1 := s.stageTo top
    if top = 4 then
      let s2 := s1.holdEnter
      { s2 with therm := { s2.therm with released := false } }
    else s1
  else if k = 0 || k = 4 then s
  else if s.mayFall k then
    if s.simmer.dwellFrom + s.simmer.cfg.dwell * 1000000 ≤ s.now then s.stageTo (k - 1) else s
  else s.setSim (fun x => { x with dwellFrom := s.now })

/-- THERMAL_HOLD is released (R439). -/
def State.release (s : State) : State :=
  if s.mode.mode == .thermalHold && !s.therm.released && !s.therm.rorWarn && s.heldFor 1000000000 s.therm.holdSince &&
      s.heldFor 1000000000 s.therm.coolSince then
    (({ s with therm := { s.therm with released := true, shutdown := false, rorTrip := false, nvSafe := false },
               sec := { s.sec with stopNv := false } }).pulse 199).stageTo 3
  else s

/-! ## The speed ceiling (R447) -/

/-- A capturing follower asks for less speed (R197, R447). -/
def State.followerAsks (s : State) : Bool := s.isMaster && s.uzs.status.any (fun x => x.getLsbD 0 && x.getLsbD 2)

/-- The ceiling's own condition: stage 3, and on the master of a bar in SHEET_SCAN a follower's request. -/
def State.wantsSlow (s : State) : Bool :=
  s.mode.mode.isCapture && (decide (3 ≤ s.simmer.stage) || (s.mode.mode == .sheetScan && s.followerAsks))

/-- A step down, not below CEIL_MIN. -/
def Simmer.ceilDown (x : Simmer) : Simmer := { x with ceil := min x.ceil (max x.cfg.ceilMin (x.ceil - 512)) }

/-- A rise of the ceiling to a value passes the check of R193, in every mode. -/
def State.mayRise (up : Nat) (s : State) : Bool :=
  !s.hasRing || stopFits s.ring.cap ((s.motCfg 0).vRun * up / 4096) s.active

/-- Start and end of slowing down, with the speed request. Outside the capture modes there is neither, and the ceiling is back at V_RUN as
soon as R193 lets it rise. -/
def State.ceiling3 (s : State) : State :=
  let want := s.wantsSlow
  let scan := s.mode.mode == .sheetScan
  let req := s.mode.mode.isCapture && !scan && decide (3 ≤ s.simmer.stage)
  let s1 := s.setSim (fun x => { x with speedReq := req })
  if !s.mode.mode.isCapture then s1.setSim (fun x => { x with ceil := if s.mayRise 4096 then 4096 else x.ceil, slow := false, stepAt := none })
  else if want && !s.simmer.slow then
    s1.setSim (fun x => { x.ceilDown with slow := true, vEntry := s.vNow, stepAt := some (s.now + 500000000) })
  else if !want && s.simmer.slow then
    s1.setSim (fun x => { x with slow := false, stepAt := if x.ceil < 4096 then some (s.now + 500000000) else none })
  else s1

/-- SIMMER_CEILING_STEP (R447). -/
def execSimmerCeilingStep (t : Nat) (s : State) : Host.Outcome State Fault Refusal :=
  let s1 := s.atTime t
  match s1.simmer.stepAt with
  | none => s1.out
  | some a =>
    if s1.now < a then s1.out
    else if s1.simmer.slow then
      let on := s1.entry 3 || (s1.mode.mode == .sheetScan && s1.followerAsks)
      (s1.setSim (fun x => { (if on then x.ceilDown else x) with stepAt := some (a + 500000000) })).out
    else
      let up := min 4096 (s1.simmer.ceil + 512)
      let c := if s1.mayRise up then up else s1.simmer.ceil
      (s1.setSim (fun x => { x with ceil := c, stepAt := if c < 4096 then some (a + 500000000) else none })).out

/-! ## Lamp caps (R448) -/

/-- Every enabled row's cap is lowered by 64, not below CAP_MIN_w. -/
def State.capsDown (s : State) : State :=
  (List.range 4).foldl (fun (s : State) w =>
    let c := rowCfg s.active w
    if c.en then s.setRow w (fun r => { r with nextCap := min r.nextCap (max c.capMin (r.nextCap - 64)) }) else s) s

/-- SIMMER_CAP_RAISE (R448). -/
def execSimmerCapRaise (t : Nat) (s : State) : Host.Outcome State Fault Refusal :=
  let s1 := s.atTime t
  if s1.heldFor 100000000 s1.simmer.lowSince && decide (s1.simmer.capRaiseAt ≤ s1.now) then
    let s2 := (List.range 4).foldl (fun (s : State) w =>
      s.setRow w (fun r => { r with nextCap := min 4096 (r.nextCap + 64) })) s1
    (s2.setSim (fun x => { x with capRaiseAt := s1.now + 10000000 })).out
  else s1.out

/-- SIMMER_REFILL (R441 to R448): `pDev` and `pMand` in mW come from the power model. Simmer runs on Stockpot, from BOOT exit. -/
def execSimmerRefill (t pDev pMand : Nat) (s : State) : Host.Outcome State Fault Refusal :=
  let s0 := s.atTime t
  if s0.mode.mode == .boot || !s0.served then s0.out
  else
    let s1 := (((s0.simmerConfigured).refill pDev pMand).simmerTimers).release
    let s2 := s1.stages.ceiling3
    (if s2.simmer.over then s2.capsDown else s2).svDispatch.out

end Sys2Proof.Machine
end

