-- ==== Sys2Proof/Machine/Images.lean ====
section
/-! DEFINITION. Table images, CFG_READ, RES_READ and DEV_IDENTIFY (chapter "Command reference", R555, R562 to R582). An image is
laid out as its staging command: where the command has value parameters, 48 bytes with each at its offset less 16 and the
selecting parameters 0, then the payload (log entry 43). -/

namespace Sys2Proof.Machine

/-! ## One entry of each table -/

/-- A pattern bank (R564). -/
def PatProgram.image (q : PatProgram) : List Byte :=
  padTo 48 0 (le 1 0 ++ le 1 (b2n q.direct) ++ le 1 q.ls.length ++ le 1 (q.rep.length % 64) ++ le 2 (q.nrep % 1024) ++
    le 2 (q.bl.length % 512)) ++ (q.ls ++ q.rep ++ q.bl).flatMap (fun e => le 2 e.toNat)

/-- The settings of a port (R564). -/
def AfePort.image (x : AfePort) : List Byte :=
  padTo 48 0 (le 1 0 ++ le 1 x.range.toNat) ++ x.taps.flatMap (fun a =>
    le 1 a.pga.toNat ++ le 1 0 ++ leS 2 a.offset ++ le 1 (b2n a.clampEn) ++ le 1 a.clampK.toNat ++ le 2 a.clampTgt.toNat)

/-- A tap map entry (R138). -/
def TapEntry.image (e : TapEntry) : List Byte :=
  le 8 (b2n e.en + 2 * e.line.toNat + 8 * b2n e.rev + 16 * b2n e.step2 + 2 ^ 8 * e.first.toNat + 2 ^ 18 * e.count.toNat +
    2 ^ 32 * e.col.toNat)

/-- The line-timing tables (R566). -/
def LtSrc.image (x : LtSrc) : List Byte :=
  padTo 48 0 (le 1 x.src.toNat ++ le 1 (b2n x.interp + 2 * b2n x.dir0 + 4 * b2n x.dir1) ++ le 1 x.followers.toNat ++ le 1 x.filtEnc.toNat ++
    le 1 x.filtSheet.toNat ++ le 1 0 ++ le 2 x.chkTol.toNat ++ le 8 x.div.toNat ++ le 4 x.genPeriod.toNat ++ le 4 x.flushPeriod.toNat)
@[inherit_doc LtSrc.image] def Strobe.image (x : Strobe) : List Byte :=
  le 1 x.phases ++ le 1 0 ++ le 2 x.stbRef.toNat ++ x.slots.flatMap (fun q =>
    le 1 (b2n q.en) ++ le 1 q.row.toNat ++ le 2 q.start.toNat ++ le 2 q.width.toNat ++ padTo 4 0 q.wt ++ le 2 0)
@[inherit_doc LtSrc.image] def LtPage.image (x : LtPage) : List Byte :=
  le 4 x.pageLen ++ le 1 x.cue ++ le 3 0 ++ leS 4 x.cueDist ++ le 1 x.gateSrc ++ le 1 (b2n x.gatePol) ++ le 1 x.skewSrc ++ le 1 0 ++
    le 4 x.sensorDist ++ leS 2 x.lead ++ leS 2 x.trail ++ le 4 x.maxLen
@[inherit_doc LtSrc.image] def LtPace.image (x : LtPace) : List Byte := padTo 48 0 (le 4 x.hwm ++ le 4 x.lwm ++ le 2 x.takeup)
@[inherit_doc LtSrc.image] def IoAssign.image (x : IoAssign) : List Byte :=
  padTo 48 0 (le 1 x.enc1.toNat ++ le 1 x.fev15.toNat ++ le 2 x.fevMask.toNat ++ le 4 x.rejMin ++ le 4 x.rejDist ++ le 2 x.rejWidth)

/-- The shading configuration and a linearisation table (R568). -/
def ShdCfg.image (c : ShdCfg) : List Byte :=
  (List.range 4).flatMap (fun i => le 1 (c.rows.getD i 0).toNat ++ le 1 (c.wts.getD i 0)) ++ le 1 c.filtSh ++ le 1 0 ++ leS 2 c.margin ++
    padTo 192 0 c.lamps
@[inherit_doc ShdCfg.image] def linImage (l : List Nat) : List Byte :=
  (List.range 4096).flatMap (fun i => leS 2 (linEntry l i))

/-- The colour transform and the product layout (R569). -/
def Xform.image (x : Xform) : List Byte := (x.m ++ x.o).flatMap (leS 2)
@[inherit_doc Xform.image] def Product.image (x : Product) : List Byte :=
  padTo 48 0 (le 1 x.pf.toNat ++ le 1 x.chMask.toNat ++ le 2 0 ++ le 4 x.firstCol ++ le 4 x.count ++ le 2 x.queue)

/-- Skillet's tables (R572). -/
def SklCfg.image (x : SklCfg) : List Byte :=
  padTo 48 0 (le 1 (b2n x.en) ++ le 1 x.line ++ le 1 x.latLimit ++ le 1 (b2n x.slkEn) ++ le 1 x.lanes)
@[inherit_doc SklCfg.image] def SklGroup.image (g : SklGroup) : List Byte :=
  le 8 (b2n g.en + 2 * g.port + 2 ^ 7 * g.first + 2 ^ 20 * (g.width % 64) + 2 ^ 26 * g.cls + 2 ^ 32 * g.expect)
@[inherit_doc SklCfg.image] def SklClass.image (c : SklClass) : List Byte :=
  le 2 c.k ++ le 2 c.m ++ le 2 c.clr ++ le 2 c.thr ++ le 1 c.pol ++ le 1 (b2n c.exp + 2 * b2n c.freeze) ++ le 1 c.step ++ le 1 0 ++
    le 2 c.route.toNat ++ le 2 0
@[inherit_doc SklCfg.image] def SklFev.image (x : SklFev) : List Byte := le 1 x.mode ++ le 1 (b2n x.actLow) ++ le 2 x.minHi

/-- The illumination tables (R573). -/
def IlmRow.image (x : IlmRow) : List Byte :=
  le 1 (b2n x.en) ++ le 1 x.lpz ++ le 2 x.iRef ++ le 2 x.fSw ++ le 1 x.dead ++ le 1 0 ++ le 2 x.regLead ++ le 2 x.vOv ++ le 2 x.dNom ++
    le 2 x.capMin ++ le 1 (b2n x.autoRes) ++ le 1 0 ++ le 2 x.pMax
@[inherit_doc IlmRow.image] def IlmTcomp.image (x : IlmTcomp) : List Byte :=
  (List.range 8).flatMap (fun i => leS 2 (x.temps.getD i 0) ++ le 2 (x.ks.getD i 0))
@[inherit_doc IlmRow.image] def lswImage (n : Nat) (l : List Bool) : List Byte :=
  padTo 48 0 (le 2 0 ++ le 2 n) ++ le (divUp n 8) (mkBits n (fun i => l.getD i false))

/-- The motion tables (R575). -/
def MotCfg.image (c : MotCfg) : List Byte :=
  le 1 (b2n c.en) ++ le 1 (b2n c.dirInv) ++ le 2 c.iFs ++ le 2 c.iRun ++ le 2 c.iHold ++ le 2 c.holdDelay ++ le 2 c.iTrip ++ le 2 c.rPh ++
    le 2 c.lPh ++ le 2 c.kE ++ le 1 c.kI ++ le 1 c.vbusSet ++ le 2 c.vbusNom ++ le 2 c.vbusMin ++ le 2 c.divMv ++ le 1 c.dead ++
    le 4 c.vLimit ++ le 4 c.aLimit ++ le 4 c.decStop ++ leS 8 c.posMin ++ leS 8 c.posMax ++ le 1 c.stallThr ++ le 1 c.stallN ++
    le 4 c.vStallMin ++ le 1 (b2n c.stallAct) ++ le 2 c.stepSize ++ le 1 (b2n c.stepEdge) ++ le 2 c.followMax ++ le 4 c.vRun ++
    le 4 c.vRev ++ le 4 c.aRun
@[inherit_doc MotCfg.image] def RampSeg.image (g : RampSeg) : List Byte := le 4 g.dur ++ leS 4 g.endPos ++ leS 4 g.endVel
@[inherit_doc MotCfg.image] def TileTab.image (t : TileTab) : List Byte :=
  leS 8 t.cWork ++ leS 8 t.bPark ++ t.tiles.flatMap (fun e => leS 8 e.bPos ++ leS 8 e.cPos ++ le 4 e.vB ++ le 4 e.accB ++ le 4 e.decB ++
    le 4 e.vC ++ le 4 e.accC ++ le 4 e.decC)

/-- The monitor tables (R577): a sequence, a set, a curve. -/
def seqImage (l : List SeqEntry) : List Byte :=
  padTo 48 0 (le 1 l.length) ++ l.flatMap (fun e =>
    le 4 (e.ch + 2 ^ 7 * b2n e.sar + 2 ^ 8 * (e.rep % 256) + 2 ^ 16 * e.settle + 2 ^ 24 * e.set))
@[inherit_doc seqImage] def SetCfg.image (c : SetCfg) : List Byte :=
  le 1 c.win ++ le 1 c.unit ++ le 1 c.curve ++ le 1 0 ++ leS 4 c.scale ++ leS 4 c.offset
@[inherit_doc seqImage] def curveImage (l : List (Nat × Int)) : List Byte :=
  padTo 128 0 (l.flatMap (fun (p : Nat × Int) => le 4 p.1 ++ leS 2 p.2 ++ le 2 0))

/-- Simmer's configuration (R577). -/
def SimCfg.image (c : SimCfg) : List Byte :=
  padTo 48 0 (leS 2 c.tTarget ++ le 2 c.theta ++ leS 2 c.tRelease ++ leS 2 c.tHold ++ le 2 c.dwell ++ le 2 c.ceilMin ++ le 1 c.bucket)

/-! ## Every table by opcode -/

/-- How many values INDEX takes: entries, ports, dies, rows and axes where the staging command names one, else 1 (R562). A bank is
named by 4 x port + bank, a segment by 64 x axis + segment, and the curves follow the 64 accumulator sets. -/
def State.imageCount (op : Nat) (s : State) : Nat :=
  let m := s.board.member
  match op with
  | 0x0201 => 4 * m.ports
  | 0x0202 | 0x0203 | 0x0204 | 0x0500 => m.ports
  | 0x0205 => m.dies
  | 0x0407 | 0x0800 | 0x0802 | 0x0900 => 4
  | 0x0701 | 0x0702 => 16384
  | 0x0703 => 16
  | 0x0803 => 2
  | 0x0901 => 256
  | 0x0A02 => 68
  | 0x0300 | 0x0301 | 0x0302 | 0x0303 | 0x0304 | 0x0406 | 0x0501 | 0x0502 | 0x0604 | 0x0605 | 0x0606 | 0x0607 | 0x0608 | 0x0700
  | 0x0704 | 0x0801 | 0x0902 | 0x0A00 | 0x0A01 | 0x0B00 | 0x0B01 | 0x0C00 | 0x0F00 | 0x0F01 => 1
  | _ => 0

/-- The image of an entry of a line-boundary table; `t` is its active or shadow copy. -/
def State.tabImage (t : Tables) (op i : Nat) (s : State) : List Byte :=
  match op with
  | 0x0201 => (sget PatProgram.reset i s.banks).image
  | 0x0202 => let q := sget PatSel.reset i t.patSel; padTo 48 0 (le 8 0 ++ le 1 q.bank.toNat ++ le 1 q.drive.toNat)
  | 0x0203 => (sget AfePort.reset i t.afe).image
  | 0x0204 => (List.range' (16 * i) 16).flatMap (fun k => (tapEntry t k).image)
  | 0x0205 => padTo 48 0 (le 4 0 ++ le 4 (tapClkOf t i))
  | 0x0300 => t.ltSrc.image
  | 0x0301 => t.strobe.image
  | 0x0302 => t.ltPage.image
  | 0x0303 => t.ltPace.image
  | 0x0304 => t.io.image
  | 0x0406 => t.shdCfg.image
  | 0x0407 => linImage (sget [] i t.lin)
  | 0x0500 => padTo 48 0 (le 2 t.stagger) ++ (sget AlnEntry.reset i t.aln).bytes
  | 0x0501 => t.xform.image
  | 0x0502 => t.product.image
  | 0x0604 => t.sv.sieve.image
  | 0x0605 => t.sv.tongs.image
  | 0x0606 => ladleImage t.sv.ladle
  | 0x0607 => t.sv.preview.image
  | 0x0608 => cropsImage t.sv.crops
  | 0x0700 => t.sklCfg.image
  | 0x0701 => (sget SklGroup.reset i t.sklMap).image
  | 0x0702 => le 2 (sget SklGroup.reset i t.sklMap).expect
  | 0x0703 => (sget SklClass.reset i t.sklClass).image
  | 0x0704 => (List.range 16).flatMap (fun n => (sget SklFev.reset n t.sklFev).image)
  | 0x0800 => (rowCfg t i).image
  | 0x0801 => t.dim.flatMap (le 2)
  | 0x0802 => (sget IlmTcomp.reset i t.tcomp).image
  | 0x0803 => lswImage (chainLen s.board.member.ports t i) (sget [] i t.lsw)
  | 0x0900 => (sget MotCfg.reset i t.motCfg).image
  | 0x0901 => (sget RampSeg.reset (256 * (i / 64) + i % 64) t.ramps).image
  | 0x0902 => t.tiles.image
  | 0x0F00 => padTo 48 0 (le 2 t.diagPort ++ le 2 t.diagQ)
  | 0x0F01 => padTo 48 0 (le 1 t.sv.bypass.toNat)
  | _ => []

/-- The image of a table that takes effect by itself: what is staged for it (`shadow`), or what is in force (R412, R440, R578). -/
def State.ownImage (shadow : Bool) (op i : Nat) (s : State) : List Byte :=
  let m := s.madc
  let pick := fun {α : Type} (staged : Option α) (now_ : α) => if shadow then staged.getD now_ else now_
  match op with
  | 0x0A00 => let c := pick m.nextCfg (m.mainsSrc, m.mult, m.calPeriod); padTo 48 0 (le 1 c.1 ++ le 1 c.2.1 ++ le 1 c.2.2)
  | 0x0A01 => seqImage (pick m.nextSeq m.seq)
  | 0x0A02 =>
    if i < 64 then (pick ((m.nextSets.reverse.find? (fun x => x.1 == i)).map (fun x => x.2)) (sget SetCfg.reset i m.sets)).image
    else curveImage (pick ((m.nextCurves.reverse.find? (fun x => x.1 == i - 64)).map (fun x => x.2)) (sget [] (i - 64) m.curves))
  | 0x0B00 => (pick s.simmer.nextCfg s.simmer.cfg).image
  | 0x0B01 => padTo 48 0 (le 2 (pick s.simmer.nextBoard s.simmer.cfg.pBoard))
  | 0x0C00 => padTo 48 0 (le 1 15 ++ le 1 (b2n s.dram.resilient) ++ le 1 s.dram.prot ++ le 1 s.dram.scrubH ++ le 2 s.dram.ageLimit)
  | _ => []

/-- The image that CFG_READ returns (R562). -/
def State.image (shadow : Bool) (op i : Nat) (s : State) : List Byte :=
  if op = 0x0A00 ∨ op = 0x0A01 ∨ op = 0x0A02 ∨ op = 0x0B00 ∨ op = 0x0B01 ∨ op = 0x0C00 then s.ownImage shadow op i
  else s.tabImage (if shadow then s.shadowView else s.active) op i

/-- The active images of a table in ascending INDEX (R613). -/
def State.images (op : Nat) (s : State) : List Byte := (List.range (s.imageCount op)).flatMap (fun i => s.image false op i)

/-! ## Commands -/

/-- DEV_IDENTIFY (R562). -/
def takeDevIdentify (h : Hdr) (s : State) : State :=
  s.take h 0x0100 [.c] true (some 0) true (fun s =>
    .ok (le 2 2 ++ le 1 (match s.board.member with | .ml9648 => 0 | .ml9624 => 1) ++ le 1 0xB1 ++ le 4 s.sec.fwVersion.toNat ++
      le 4 s.sec.fwSvn.toNat ++ le 1 (b2n s.rst.imageB) ++ le 1 s.sec.lifecycle.code ++ le 2 0 ++ padTo 8 0 s.board.serial) [] s)

/-- DEV_IDENTIFY. -/
def execDevIdentify (h : Hdr) (s : State) : Host.Outcome State Fault Refusal := (takeDevIdentify h s).out

/-- CFG_READ (R562). A TABLE that no staging command names, or an INDEX beyond its entries, ends with ERR_RANGE. -/
def takeCfgRead (h : Hdr) (table : BitVec 16) (copy : BitVec 8) (index : BitVec 32) (s : State) : State :=
  s.take h 0x0109 [.c] true (some 0) (decide (copy.toNat ≤ 1) && decide (index.toNat < s.imageCount table.toNat)) (fun s =>
    .ok [] (s.image (copy = 1) table.toNat index.toNat) s)

/-- CFG_READ. -/
def execCfgRead (h : Hdr) (table : BitVec 16) (copy : BitVec 8) (index : BitVec 32) (s : State) :
    Host.Outcome State Fault Refusal := (takeCfgRead h table copy index s).out

/-- A resource with its owner, 8 bytes (R547, R582). -/
abbrev ResRec := Nat × Nat × Nat × Nat

/-- The owner of the shared balls (R567, R630). -/
def State.ballOwner (s : State) : Nat × Nat :=
  if s.axisClaims then (2, 0)
  else if s.ltClaims then (1, 0)
  else if s.active.io.enc1 == 1 || s.shadow.io.enc1 == 1 then (3, 1) else (0, 0)

/-- The job's services as owners: whose queue a queue is (R582). -/
def Job.ownerOf (j : Job) (q : Nat) : Option (Nat × Nat) :=
  (List.range 5).findSome? (fun k => if j.en.getLsbD k && j.queues.getD k 0 == q then some (8, k) else none)

/-- Every shared resource with its owner (R562, R582, R630): balls, timer, the shared monitor channel, the queues and windows that
exist, the reference slots in use and the scratch region. -/
def State.resources (s : State) : List ResRec :=
  let fev := if s.active.io.fev15 == 1 then (5, 0) else if s.active.io.fevMask.getLsbD 15 then (4, 0) else (0, 0)
  let timer := if s.active.ltSrc.src == 3 || s.shadow.ltSrc.src == 3 then (1, 0) else if !(s.axis 0).queue.isEmpty then (2, 0) else (0, 0)
  let queues := (s.pantry.queues.filter (fun (q : Nat × Queue) => isBindable q.1)).map (fun (q : Nat × Queue) =>
    let o : Nat × Nat := match q.2.consumer with
      | some c => (7, c)
      | none => (match s.sv.job with | some j => (j.ownerOf q.1).getD (0, 0) | none => (0, 0))
    ((4, q.1, o.1, o.2) : ResRec))
  let slots : List ResRec := match s.sv.job with
    | some j => (j.refs.filter (fun r => r.state == .decoded)).map (fun r => (5, r.page % 2 ^ 24, 10, r.ctx))
    | none => []
  let scratch : Nat × Nat := match s.sv.job with
    | some j => if j.en.getLsbD 3 then (8, 3) else if j.en.getLsbD 4 then (8, 4) else (0, 0)
    | none => (0, 0)
  let tap : Nat × Nat := if s.active.diagPort != 0xFF then (9, s.active.diagPort) else scratch
  let wins := s.dram.windows.map (fun (w : Nat × Window) =>
    let c : Nat × Nat := match (s.dma.chans.find? (fun (c : Nat × DmaChan) => c.2.window == some w.1)) with | some c => (7, c.1) | none => (0, 0)
    ((7, w.1, c.1, c.2) : ResRec))
  let b := s.ballOwner
  [(1, 0, b.1, b.2), (1, 1, fev.1, fev.2), (2, 0, timer.1, timer.2), (3, 64, 6, 0)] ++ queues ++ slots ++
    [(6, 0, tap.1, tap.2)] ++ wins

/-- RES_READ (R562). -/
def takeResRead (h : Hdr) (s : State) : State :=
  s.take h 0x010A [.c] true (some 0) true (fun s =>
    .ok [] (s.resources.flatMap (fun r => conflictData r.1 r.2.1 r.2.2.1 r.2.2.2)) s)

/-- RES_READ. -/
def execResRead (h : Hdr) (s : State) : Host.Outcome State Fault Refusal := (takeResRead h s).out

end Sys2Proof.Machine
end

