-- ==== Sys2Proof/Machine/Motion.lean ====
section
/-! DEFINITION. The Motion family: staging and motion commands (chapter "Motion control", R377, R378, R384 to R403; R575, R576). -/

namespace Sys2Proof.Machine

/-! ## Staging (R377, R378, R390, R402) -/

/-- An axis moves, or has a move queued. -/
def State.axisBusy (x : Nat) (s : State) : Bool := !s.axisIdle x

/-- AX_A belongs to pacing (R378, R403, R576). -/
def State.pacedAxis (x : Nat) (s : State) : Bool := x == 0 && s.mode.mode == .sheetScan

/-- The axis configuration of a payload in the layout of R575, with whether its fields are in range (R377). -/
def motCfgOf (x : Nat) (b : List Byte) : MotCfg × Bool :=
  let c : MotCfg :=
    { en := rd b 0 1 == 1, dirInv := rd b 1 1 == 1, iFs := rd b 2 2, iRun := rd b 4 2, iHold := rd b 6 2, holdDelay := rd b 8 2,
      iTrip := rd b 10 2, rPh := rd b 12 2, lPh := rd b 14 2, kE := rd b 16 2, kI := rd b 18 1, vbusSet := rd b 19 1,
      vbusNom := rd b 20 2, vbusMin := rd b 22 2, divMv := rd b 24 2, dead := rd b 26 1, vLimit := rd b 27 4, aLimit := rd b 31 4,
      decStop := rd b 35 4, posMin := rdS b 39 8, posMax := rdS b 47 8, stallThr := rd b 55 1, stallN := rd b 56 1,
      vStallMin := rd b 57 4, stallAct := rd b 61 1 == 1, stepSize := rd b 62 2, stepEdge := rd b 64 1 == 1, followMax := rd b 65 2,
      vRun := rd b 67 4, vRev := rd b 71 4, aRun := rd b 75 4 }
  let within := fun (lo v hi : Nat) => decide (lo ≤ v) && decide (v ≤ hi)
  (c, decide (rd b 0 1 ≤ 1) && decide (rd b 1 1 ≤ 1) && decide (1 ≤ c.iFs) && within 1 c.iRun c.iFs && decide (c.iHold ≤ c.iRun) &&
      within c.iRun c.iTrip c.iFs && decide (c.vbusSet ≤ 63) && decide (256 ≤ c.divMv) && decide (5 ≤ c.dead) &&
      within 1 c.vLimit 64000000 && within 1 c.aLimit 1000000000 && within 1 c.decStop c.aLimit && decide (c.posMin < c.posMax) &&
      decide (c.stallThr ≤ 135) && decide (1 ≤ c.stallN) && decide (rd b 61 1 ≤ 1) && within 1 c.stepSize 256 &&
      decide (rd b 64 1 ≤ 1) && decide (1 ≤ c.followMax) &&
      (x != 0 || (within 1 c.vRun c.vLimit && within 1 c.vRev c.vLimit && within 1 c.aRun c.aLimit)))

/-- A staging for an axis: it must stand still with nothing queued (R378), and is then not applied yet. -/
def State.stageAxis (x op : Nat) (f : Tables → Tables) (s : State) : Res :=
  if s.axisBusy x then .fail cState [] s
  else .ok [] [] ((s.stage op f).setAx x (fun a => { a with stagedCfg := true }))

/-- MOT_AXIS_STAGE (R377, R378, R193). -/
def takeMotAxisStage (h : Hdr) (axis : BitVec 8) (s : State) : State :=
  let x := axis.toNat
  s.take h 0x0900 [.s] (!s.pacedAxis x) (some 79) (decide (x ≤ 3)) (fun s =>
    s.staging (.motAxisStage h axis) h [0x0900] (fun s =>
      let c := motCfgOf x (s.payload h)
      let f := fun (t : Tables) => { t with motCfg := sset MotCfg.reset x c.1 t.motCfg }
      let t := f s.shadowView
      if !c.2 || (x == 0 && s.hasRing && t.ltPace.hwm != 0 && !stopFits s.ring.cap (s.ceiling t) t) then .fail cRange [] s
      else s.stageAxis x 0x0900 f))

/-- MOT_AXIS_STAGE. -/
def execMotAxisStage (h : Hdr) (axis : BitVec 8) (s : State) : Host.Outcome State Fault Refusal := (takeMotAxisStage h axis s).out

/-- MOT_RAMP_STAGE (R378, R390). -/
def takeMotRampStage (h : Hdr) (axis first count : BitVec 8) (s : State) : State :=
  let x := axis.toNat
  let n := count.toNat
  s.take h 0x0901 [.s] (!s.pacedAxis x) (some (12 * n)) (decide (x ≤ 3) && decide (first.toNat + n ≤ 64)) (fun s =>
    s.staging (.motRampStage h axis first count) h [0x0901] (fun s =>
      let gs := (chunks 12 n (s.payload h)).map (fun b => ({ dur := rd b 0 4, endPos := rdS b 4 4, endVel := rdS b 8 4 } : RampSeg))
      if !gs.all (fun g => decide (1 ≤ g.dur) && decide (g.dur < 2 ^ 24)) then .fail cRange [] s
      else s.stageAxis x 0x0901 (fun t =>
        { t with ramps := gs.zipIdx.foldl (fun m g => sset RampSeg.reset (256 * x + first.toNat + g.2) g.1 m) t.ramps })))

/-- MOT_RAMP_STAGE. -/
def execMotRampStage (h : Hdr) (axis first count : BitVec 8) (s : State) : Host.Outcome State Fault Refusal :=
  (takeMotRampStage h axis first count s).out

/-- MOT_TILE_STAGE (R378, R402). -/
def takeMotTileStage (h : Hdr) (s : State) : State :=
  s.take h 0x0902 [.s] true (some 336) true (fun s =>
    s.staging (.motTileStage h) h [0x0902] (fun s =>
      let b := s.payload h
      let tile := fun (b : List Byte) =>
        ({ bPos := rdS b 0 8, cPos := rdS b 8 8, vB := rd b 16 4, accB := rd b 20 4, decB := rd b 24 4, vC := rd b 28 4,
           accC := rd b 32 4, decC := rd b 36 4 } : TileEntry)
      if s.axisBusy 1 || s.axisBusy 2 then .fail cState [] s
      else .ok [] [] (s.stage 0x0902 (fun t =>
        { t with tiles := { cWork := rdS b 0 8, bPark := rdS b 8 8, tiles := (chunks 40 8 (b.drop 16)).map tile } }))))

/-- MOT_TILE_STAGE. -/
def execMotTileStage (h : Hdr) (s : State) : Host.Outcome State Fault Refusal := (takeMotTileStage h s).out

/-! ## Acceptance of a motion command -/

/-- What turns a motion command on an axis away, if anything (R167, R377, R378, R398, R402): its code and inline data. MOT_STOP and
MOT_FAULT_CLEAR (`any`) need no applied configuration and no healthy bridge. -/
def State.motRefusal (x : Nat) (any : Bool) (s : State) : Option (Nat × List Byte) :=
  let tile := match s.shd.cal with | some c => c.tile | none => false
  if tile && (x == 1 || x == 2) then some (cBusy, [])
  else if !(s.motCfg x).en then some (cState, [])
  else if !any && ((s.axis x).stagedCfg || (s.axis x).state == .hardFault) then some (cState, [])
  else if !any && x == 0 && s.mode.mode.isCapture && s.srcNow == 3 then some (cConflict, conflictData 2 0 1 0)
  else none

/-- A move joins the queue of its axis and waits (R385, R387). -/
def State.acceptMove (x n : Nat) (k : MoveKind) (s : State) : Res :=
  if 4 ≤ (s.axis x).queue.length then .fail cQueueFull [] s else .wait (s.queueMove x { ctx := some n, kind := k })

/-- Speeds and accelerations of a move lie within the axis's limits (R384). Zero is turned away, for such a move would never end (log
entry 52). -/
def State.rateOk (x : Nat) (v : Nat) (as : List Nat) (s : State) : Bool :=
  decide (1 ≤ v) && decide (v ≤ (s.motCfg x).vLimit) && as.all (fun a => decide (1 ≤ a) && decide (a ≤ (s.motCfg x).aLimit))

/-- A target lies within the soft limits, or the axis is not referenced (R384). -/
def State.targetIn (x : Nat) (p : Int) (s : State) : Bool :=
  !(s.axis x).homed || (decide ((s.motCfg x).posMin ≤ p) && decide (p ≤ (s.motCfg x).posMax))

/-- MOT_MOVE (R384 to R388). -/
def takeMotMove (h : Hdr) (axis rel : BitVec 8) (target : BitVec 64) (vMax acc dec : BitVec 32) (s : State) : State :=
  let x := axis.toNat
  s.take h 0x0903 [.m] (!s.pacedAxis x) (some 0)
    (decide (x ≤ 3) && decide (rel.toNat ≤ 1) && s.rateOk x vMax.toNat [acc.toNat, dec.toNat]) (fun s =>
    match s.motRefusal x false with
    | some e => .fail e.1 e.2 s
    | none =>
      let goal := if rel = 1 then s.queueEnd x + target.toInt else target.toInt
      if rel = 0 && !(s.axis x).homed then .fail cState [] s
      else if !s.targetIn x goal then .fail cRange [] s
      else s.acceptMove x h.ctx.toNat (.move goal vMax.toNat acc.toNat dec.toNat))

/-- MOT_MOVE. -/
def execMotMove (h : Hdr) (axis rel : BitVec 8) (target : BitVec 64) (vMax acc dec : BitVec 32) (s : State) :
    Host.Outcome State Fault Refusal := (takeMotMove h axis rel target vMax acc dec s).out

/-! ### Ramp tables (R391) -/

/-- The velocity of a segment at tick k is (a k^2 + b k + c) / t^3 in 1/16 microstep/s, with t its length in ticks. -/
def velPoly (p0 v0 : Int) (g : RampSeg) : Int × Int × Int :=
  let t : Int := 10 * g.dur
  let d := 160000000 * (p0 - g.endPos)
  (6 * d + 3 * t * (v0 + g.endVel), -6 * d * t - t ^ 2 * (4 * v0 + 2 * g.endVel), t ^ 3 * v0)

/-- The ticks of a segment between which speed, position and stopping point are monotone: its ends, where its acceleration is 0, where
it is plus or minus `dec`, and where its velocity is 0. -/
def segTicks (p0 v0 : Int) (g : RampSeg) (dec : Nat) : List Nat :=
  let t : Int := 10 * g.dur
  let q := velPoly p0 v0 g
  let a := q.1
  let b := q.2.1
  let disc := b ^ 2 - 4 * a * q.2.2
  let root : Int := (Nat.sqrt disc.toNat : Nat)
  let at_ := fun (num den : Int) => if den = 0 then [] else [num / den, num / den + 1]
  let lin := fun (num : Int) => at_ num (2 * a)
  let bend := 16 * t ^ 3 * (dec : Int) / 10000000
  let roots := if disc < 0 then [] else if a = 0 then at_ (-q.2.2) b else lin (-b - root) ++ lin (-b + root)
  (([0, t] ++ lin (-b) ++ lin (bend - b) ++ lin (-bend - b) ++ roots).filter (fun k => decide (0 ≤ k) && decide (k ≤ t))).map Int.toNat

/-- Speed and acceleration of a segment keep to the limits, and with soft limits so do the curve and a stop from any point of it. -/
def segOk (c : MotCfg) (lims : Option (Int × Int)) (start p0 v0 : Int) (g : RampSeg) : Bool :=
  let t := 10 * g.dur
  let q := velPoly p0 v0 g
  let steep := fun (k : Int) => decide (((2 * q.1 * k + q.2.1).natAbs) * 10000000 ≤ 16 * t ^ 3 * c.aLimit)
  steep 0 && steep t && (segTicks p0 v0 g c.decStop).all (fun k =>
    let x := cubicAt p0 v0 g k
    decide (x.2.natAbs ≤ c.vLimit * 2 ^ 32) &&
      (match lims with
       | some (lo, hi) =>
         let p := start * 2 ^ 32 + x.1
         let stop := p + signedBy x.2 (brakeDist x.2.natAbs c.decStop)
         decide (lo * 2 ^ 32 ≤ p) && decide (p ≤ hi * 2 ^ 32) && decide (lo * 2 ^ 32 ≤ stop) && decide (stop ≤ hi * 2 ^ 32)
       | none => true))

/-- The segments of a table move, one after another. -/
def rampsOk (c : MotCfg) (lims : Option (Int × Int)) (start : Int) : Int → Int → List RampSeg → Bool
  | _, v0, [] => v0 == 0
  | p0, v0, g :: gs => g.dur != 0 && segOk c lims start p0 v0 g && rampsOk c lims start g.endPos g.endVel gs

/-- MOT_TABLE (R391). -/
def takeMotTable (h : Hdr) (axis first last : BitVec 8) (s : State) : State :=
  let x := axis.toNat
  s.take h 0x0904 [.m] (!s.pacedAxis x) (some 0) (decide (x ≤ 3) && decide (first.toNat ≤ last.toNat) && decide (last.toNat ≤ 63)) (fun s =>
    match s.motRefusal x false with
    | some e => .fail e.1 e.2 s
    | none =>
      let c := s.motCfg x
      let lims := if (s.axis x).homed then some (c.posMin, c.posMax) else none
      if !rampsOk c lims (s.queueEnd x) 0 0 (rampOf s.active x first.toNat last.toNat) then .fail cRange [] s
      else s.acceptMove x h.ctx.toNat (.table first.toNat last.toNat))

/-- MOT_TABLE. -/
def execMotTable (h : Hdr) (axis first last : BitVec 8) (s : State) : Host.Outcome State Fault Refusal :=
  (takeMotTable h axis first last s).out

/-- MOT_JOG (R384, R388). -/
def takeMotJog (h : Hdr) (axis : BitVec 8) (vMax acc : BitVec 32) (s : State) : State :=
  let x := axis.toNat
  s.take h 0x0905 [.m] (!s.pacedAxis x) (some 0) (decide (x ≤ 3) && s.rateOk x vMax.toInt.natAbs [acc.toNat]) (fun s =>
    match s.motRefusal x false with
    | some e => .fail e.1 e.2 s
    | none => s.acceptMove x h.ctx.toNat (.jog vMax.toInt acc.toNat))

/-- MOT_JOG. -/
def execMotJog (h : Hdr) (axis : BitVec 8) (vMax acc : BitVec 32) (s : State) : Host.Outcome State Fault Refusal :=
  (takeMotJog h axis vMax acc s).out

/-- MOT_COORD (R384, R392): speed and acceleration of the lead axis, and of the other one in proportion. -/
def takeMotCoord (h : Hdr) (targetB targetC : BitVec 64) (vMax acc dec : BitVec 32) (s : State) : State :=
  let db := (targetB.toInt - s.queueEnd 1).natAbs
  let dc := (targetC.toInt - s.queueEnd 2).natAbs
  let lead := if dc ≤ db then 1 else 2
  let dl := max db dc
  let df := min db dc
  let o := s.motCfg (3 - lead)
  let as := [acc.toNat, dec.toNat]
  s.take h 0x0906 [.m] true (some 0)
    (s.rateOk lead vMax.toNat as && decide (vMax.toNat * df ≤ o.vLimit * dl) && as.all (fun a => decide (a * df ≤ o.aLimit * dl))) (fun s =>
    match s.motRefusal 1 false, s.motRefusal 2 false with
    | some e, _ => .fail e.1 e.2 s
    | none, some e => .fail e.1 e.2 s
    | none, none =>
      if !((s.axis 1).homed && (s.axis 2).homed) then .fail cState [] s
      else if !(s.targetIn 1 targetB.toInt && s.targetIn 2 targetC.toInt) then .fail cRange [] s
      else if 4 ≤ (s.axis 1).queue.length || 4 ≤ (s.axis 2).queue.length then .fail cQueueFull [] s
      else
        let m : Move := { ctx := some h.ctx.toNat, kind := .coord targetB.toInt targetC.toInt vMax.toNat acc.toNat dec.toNat }
        .wait ((s.queueMove 1 m).queueMove 2 m))

/-- MOT_COORD. -/
def execMotCoord (h : Hdr) (targetB targetC : BitVec 64) (vMax acc dec : BitVec 32) (s : State) : Host.Outcome State Fault Refusal :=
  (takeMotCoord h targetB targetC vMax acc dec s).out

/-- MOT_FOLLOW (R393, R576): on AX_A the balls must be those of STEP_IN_A and DIR_IN_A. -/
def takeMotFollow (h : Hdr) (axis : BitVec 8) (s : State) : State :=
  let x := axis.toNat
  s.take h 0x0907 [.m] (!s.pacedAxis x) (some 0) (decide (x ≤ 3)) (fun s =>
    match s.motRefusal x false with
    | some e => .fail e.1 e.2 s
    | none =>
      if x = 0 && (s.active.io.enc1 == 1 || s.shadow.io.enc1 == 1) then .fail cConflict (conflictData 1 0 3 1) s
      else if x = 0 && s.ltClaims then .fail cConflict ballsOfLt s
      else if x = 0 && s.active.io.enc1 != 2 then .fail cState [] s
      else s.acceptMove x h.ctx.toNat .follow)

/-- MOT_FOLLOW. -/
def execMotFollow (h : Hdr) (axis : BitVec 8) (s : State) : Host.Outcome State Fault Refusal := (takeMotFollow h axis s).out

/-- MOT_HOME (R401). -/
def takeMotHome (h : Hdr) (axis dir : BitVec 8) (vHome : BitVec 32) (homePos : BitVec 64) (backoff homeMax : BitVec 32) (s : State) :
    State :=
  let x := axis.toNat
  s.take h 0x0908 [.m] (!s.pacedAxis x) (some 0)
    (decide (x ≤ 3) && decide (dir.toNat ≤ 1) && s.rateOk x vHome.toNat [] && (s.motCfg x).stallThr != 0 &&
      decide ((s.motCfg x).vStallMin ≤ vHome.toNat)) (fun s =>
    match s.motRefusal x false with
    | some e => .fail e.1 e.2 s
    | none => s.acceptMove x h.ctx.toNat (.home (dir == 1) vHome.toNat homePos.toInt backoff.toNat homeMax.toNat))

/-- MOT_HOME. -/
def execMotHome (h : Hdr) (axis dir : BitVec 8) (vHome : BitVec 32) (homePos : BitVec 64) (backoff homeMax : BitVec 32) (s : State) :
    Host.Outcome State Fault Refusal := (takeMotHome h axis dir vHome homePos backoff homeMax s).out

/-- The axis whose profile a running move follows. -/
def State.profileAxis (x : Nat) (m : Move) (s : State) : Nat := if m.isCoord then s.leadAxis else x

/-- MOT_ADJUST (R389). -/
def takeMotAdjust (h : Hdr) (axis : BitVec 8) (vMax acc dec : BitVec 32) (s : State) : State :=
  let x := axis.toNat
  s.take h 0x0909 [.m] (!s.pacedAxis x) (some 0) (decide (x ≤ 3) && s.rateOk x vMax.toNat [acc.toNat, dec.toNat]) (fun s =>
    match s.motRefusal x false with
    | some e => .fail e.1 e.2 s
    | none =>
      let a := s.axis x
      match a.queue.head? with
      | none => .fail cState [] s
      | some m =>
        let y := s.profileAxis x m
        let b := s.axis y
        let r := (b.target * 2 ^ 32 - b.p).natAbs
        let ends := match m.kind with | .move _ _ _ _ | .coord _ _ _ _ _ => true | _ => false
        let jog := match m.kind with | .jog _ _ => true | _ => false
        let kept := ends && decide (r < brakeDist b.v.natAbs dec.toNat)
        if !a.running || a.stopDec.isSome || !(ends || jog) then .fail cState [] s
        else .ok (le 1 (b2n kept)) [] (s.setAx y (fun b =>
          { b with vMax := vMax.toNat, acc := acc.toNat, dec := if kept then b.dec else dec.toNat })))

/-- MOT_ADJUST. -/
def execMotAdjust (h : Hdr) (axis : BitVec 8) (vMax acc dec : BitVec 32) (s : State) : Host.Outcome State Fault Refusal :=
  (takeMotAdjust h axis vMax acc dec s).out

/-- MOT_STOP (R395, R576): in SHEET_SCAN pacing brings AX_A to rest (log entry 53). -/
def takeMotStop (h : Hdr) (axis flush : BitVec 8) (s : State) : State :=
  let x := axis.toNat
  s.take h 0x090A [.m] true (some 0) (decide (x ≤ 3) && decide (flush.toNat ≤ 1)) (fun s =>
    match s.motRefusal x true with
    | some e => .fail e.1 e.2 s
    | none =>
      let s1 := if flush = 1 then s.flushMoves x else s
      let a := s1.axis x
      let wait := fun (s : State) => s.setAx x (fun a => { a with stops := a.stops ++ [(h.ctx.toNat, flush == 1)] })
      if a.owned && a.v != 0 then
        .go (wait (s1.setLt (fun l => { l with pace := if s1.pacedAxis x then .decel else l.pace, paceSlow := false })))
      else if !a.running then .ok (leS 8 a.pos) [] s1
      else .go (wait (s1.stopMove x cAborted)))

/-- MOT_STOP. -/
def execMotStop (h : Hdr) (axis flush : BitVec 8) (s : State) : Host.Outcome State Fault Refusal := (takeMotStop h axis flush s).out

/-- MOT_FAULT_CLEAR (R398): the windings are energised at the last angle with I_HOLD, unless HW_TRIP holds the gates low (R62). -/
def takeMotFaultClear (h : Hdr) (axis : BitVec 8) (s : State) : State :=
  let x := axis.toNat
  s.take h 0x090B [.m] (!s.pacedAxis x) (some 0) (decide (x ≤ 3)) (fun s =>
    match s.motRefusal x true with
    | some e => .fail e.1 e.2 s
    | none =>
      if (s.axis x).fltPin then .fail cState [] s
      else .ok [] [] (if (s.axis x).state == .hardFault then
        s.setAx x (fun a => { a with state := .rest, gates := !s.rst.thermTrip, hold := true, restAt := none, overRun := 0 }) else s))

/-- MOT_FAULT_CLEAR. -/
def execMotFaultClear (h : Hdr) (axis : BitVec 8) (s : State) : Host.Outcome State Fault Refusal := (takeMotFaultClear h axis s).out

end Sys2Proof.Machine
end

