-- ==== Sys2Proof/Machine/Security.lean ====
section
/-! DEFINITION. Trivet: the security commands, attestation, lifecycle transitions, and record writes of the NV store line by line
(chapter "Security, lifecycle and attestation"). -/

namespace Sys2Proof.Machine

/-! ## Requests and gates (R585, R586) -/

/-- One of the five commands that run one at a time ends (R585). -/
def State.secEnd (n : Nat) (st : OpState) (code : Nat) (pay : List Byte) (s : State) : State :=
  let s1 := s.finish n st code [] pay
  { s1 with sec := { s1.sec with secCtx := none, trans := none } }

/-- It fails. -/
def State.secFail (n code : Nat) (s : State) : State := s.secEnd n .failed code []

/-- An authorisation fails in the last group of R604. -/
def State.authFail (n : Nat) (s : State) : State := (s.secFail n cAuth).pulse 17

/-- The window lies in the protected partition. -/
def State.isProt (w : Nat) (s : State) : Bool := match s.win w with | some x => x.prot | none => false

/-- What turns a lifecycle command away first: another one runs (R585), or in STANDBY its payload buffer or window lies outside the
protected partition (R586). -/
def State.secGate (n : Nat) (window : Option Nat) (s : State) : Option Nat :=
  let bufOk := match (s.ctx n).buf with | some b => s.isProt b.window | none => true
  let winOk := match window with | some w => s.isProt w | none => true
  if s.sec.secCtx.isSome then some cBusy
  else if s.mode.mode == .standby && !(bufOk && winOk) then some cState
  else none

/-- The command goes to Trivet and keeps the others out. -/
def State.secAsk (r : TrivetReq) (s : State) : State :=
  let s1 := s.askTrivet r
  { s1 with sec := { s1.sec with secCtx := some r.ctx } }

/-- A new challenge from the DRBG (R613). -/
def State.newChallenge (s : State) : State :=
  let r := s.frees 8 32
  { r.2 with sec := { r.2.sec with challenge := r.1.map (BitVec.ofNat 8) } }

/-! ## Attestation (R612 to R614) -/

/-- The eight H fields (R612, R613). -/
def State.tableHashes (s : State) : List (List Byte) :=
  let all := fun (ops : List Nat) => ops.flatMap (fun op => s.images op)
  let n := pixCount s.board.member s.active
  let sets := (List.range 4).flatMap (fun k => match s.activeSet k with | some x => x.image n | none => [])
  [sha256 (all [0x0201, 0x0202, 0x0203, 0x0204, 0x0205] ++ (List.range s.board.member.dies).flatMap (fun k => s.trimBytes k)),
   sha256 (all [0x0406] ++ sets), sha256 (all [0x0407]), sha256 (all [0x0500, 0x0501, 0x0502]),
   sha256 (all [0x0301, 0x0800, 0x0801, 0x0802, 0x0803]), sha256 (all [0x0700, 0x0701, 0x0702, 0x0703, 0x0704]),
   sha256 s.active.sv.image, sha256 (all [0x0A00, 0x0A01, 0x0A02])]

/-- Bytes 0 to 527 of the report (R612). -/
def State.report (nonce : List Byte) (hs : List (List Byte)) (unstable : Bool) (tableSeq : Nat) (s : State) : List Byte :=
  let x := s.sec
  le 4 0x54414C4D ++ le 2 1 ++ le 2 912 ++ padTo 8 0 s.board.serial ++ le 1 x.lifecycle.code ++
    le 1 (b2n x.debugOpen + 2 * b2n unstable + 4 * b2n (!x.dik) + 8 * b2n s.rst.imageB) ++
    le 1 (match s.board.member with | .ml9648 => 0 | .ml9624 => 1) ++ le 1 0 ++ le 4 x.fwVersion.toNat ++ le 4 x.fwSvn.toNat ++
    le 4 x.svnVendor.toNat ++ le 4 (if x.owner then x.svnOwner.toNat else 0) ++ le 4 s.rstCause ++ le 4 s.devStatus ++ le 4 tableSeq ++
    padTo 32 0 nonce ++ padTo 32 0 x.vrkHash ++ padTo 32 0 (if x.owner then x.ownerHash else []) ++
    padTo 32 0 (if x.dik then x.dikHash else []) ++ padTo 32 0 x.mHdr ++ padTo 32 0 x.mBody ++ hs.flatten ++ padTo 32 0 x.challenge

/-- SEC_ATTEST (R589, R612 to R614). Without a DIK the report needs no signature and is written at once. -/
def takeSecAttest (h : Hdr) (nonce : BitVec 256) (window : BitVec 8) (offset : BitVec 32) (s : State) : State :=
  s.take h 0x0E00 [.c] true (some 0) true (fun s =>
    let w := window.toNat
    let no := le 32 nonce.toNat
    if (s.win w).isNone then .fail cState [] s
    else if !s.winHas w offset.toNat 912 then .fail cRange [] s
    else if !s.sec.dik then
      s.winResult w offset.toNat (s.report no s.tableHashes false s.lt.seq.toNat ++ List.replicate 384 0) []
    else if !s.sec.entropyOk then .fail cHw [] s
    else .go (s.askTrivet { opcode := 0x0E00, ctx := h.ctx.toNat, body := no, target := s.lt.seq.toNat, window := w,
                            offset := offset.toNat }))

/-- SEC_ATTEST. -/
def execSecAttest (h : Hdr) (nonce : BitVec 256) (window : BitVec 8) (offset : BitVec 32) (s : State) :
    Host.Outcome State Fault Refusal := (takeSecAttest h nonce window offset s).out

/-- The report is signed: the tables are those in force since the last attempt began, unless a third was crossed as well (R614),
when the H fields describe no single boundary. -/
def State.attestDone (r : TrivetReq) (crossed : Nat) (sig : List Byte) (s : State) : State :=
  let bad := decide (3 ≤ crossed)
  let f := if bad then s.frees 8 256 else ([], s)
  let hs := if bad then [f.1.map (BitVec.ofNat 8)] else s.tableHashes
  (f.2.winResult r.window r.offset (s.report r.body hs bad r.target ++ padTo 384 0 sig) []).apply r.ctx

/-! ## Owner key, images, identity (R592 to R599) -/

/-- SERIAL of a record is this device's. -/
def State.serialIs (bs : List Byte) (off : Nat) (s : State) : Bool := (bs.drop off).take 8 == padTo 8 0 s.board.serial

/-- The fields of an owner key record (R592, R593). -/
def State.ownerRecOk (bs : List Byte) (s : State) : Bool :=
  rd bs 0 4 == 0x4B4F4C4D && rd bs 4 2 == 1 && rd bs 6 2 == 1184 && (rd bs 8 8 == 0 || s.serialIs bs 8) && rd bs 16 4 == 65537 &&
    (if s.sec.lifecycle == Lifecycle.vendor then rd bs 800 384 == 0 else decide (s.sec.epoch.toNat < rd bs 20 4))

/-- SEC_OWNER_ENROL (R593). -/
def takeSecOwnerEnrol (h : Hdr) (s : State) : State :=
  s.take h 0x0E01 [.l] true (some 1184) (rd (s.payload h) 24 8 == 0) (fun s =>
    let n := h.ctx.toNat
    match s.secGate n none with
    | some e => .fail e [] s
    | none =>
      if !(s.sec.lifecycle == Lifecycle.vendor || s.sec.lifecycle == Lifecycle.provisioned) then .fail cLifecycle [] s
      else if !s.ownerRecOk (s.payload h) then .fail cAuth [] s
      else .go (s.secAsk { opcode := 0x0E01, ctx := n, body := s.payload h, target := 0, window := 0, offset := 0 }))

/-- SEC_OWNER_ENROL. -/
def execSecOwnerEnrol (h : Hdr) (s : State) : Host.Outcome State Fault Refusal := (takeSecOwnerEnrol h s).out

/-- SEC_IMAGE_WRITE (R599). -/
def takeSecImageWrite (h : Hdr) (slot window : BitVec 8) (offset length : BitVec 32) (s : State) : State :=
  s.take h 0x0E02 [.l] true (some 0) (decide (slot.toNat ≤ 1)) (fun s =>
    let n := h.ctx.toNat
    let w := window.toNat
    let a := s.winAddr w offset.toNat
    let hd := memRead a 512 s.dram.mem
    match s.secGate n (some w) with
    | some e => .fail e [] s
    | none =>
      if (s.win w).isNone then .fail cState [] s
      else if !s.winHas w offset.toNat length.toNat || length.toNat < 512 || length.toNat != 512 + rd hd 12 4 then .fail cRange [] s
      else if s.poisoned a length.toNat then .fail cHw [] s
      else if !s.headerOk hd then .fail cAuth [] s
      else
        let r : TrivetReq := { opcode := 0x0E02, ctx := n, body := memRead a length.toNat s.dram.mem, target := slot.toNat,
                               window := w, offset := offset.toNat }
        .go ((s.dramReq 9 false a length.toNat).secAsk r))

/-- SEC_IMAGE_WRITE. -/
def execSecImageWrite (h : Hdr) (slot window : BitVec 8) (offset length : BitVec 32) (s : State) :
    Host.Outcome State Fault Refusal := (takeSecImageWrite h slot window offset length s).out

/-- SEC_IDENTITY_GEN (R594). -/
def takeSecIdentityGen (h : Hdr) (s : State) : State :=
  s.take h 0x0E04 [.l] true (some 0) true (fun s =>
    let n := h.ctx.toNat
    match s.secGate n none with
    | some e => .fail e [] s
    | none =>
      if !(s.sec.lifecycle == Lifecycle.provisioned) then .fail cLifecycle [] s
      else if !s.sec.entropyOk then .fail cHw [] s
      else .go (s.secAsk { opcode := 0x0E04, ctx := n, body := [], target := 0, window := 0, offset := 0 }))

/-- SEC_IDENTITY_GEN. -/
def execSecIdentityGen (h : Hdr) (s : State) : Host.Outcome State Fault Refusal := (takeSecIdentityGen h s).out

/-- The public key record (R594). -/
def State.dikRecord (modulus sig : List Byte) (s : State) : List Byte :=
  le 4 0x4B504C4D ++ le 2 1 ++ le 2 800 ++ padTo 8 0 s.board.serial ++ le 4 65537 ++ le 12 0 ++ padTo 384 0 modulus ++ padTo 384 0 sig

/-! ## Lifecycle and debug port (R600 to R607) -/

/-- The signer that a transition or an unlocking needs (R600, R602): true for the owner. -/
def ownerSigns (old : Lifecycle) (new : Option Lifecycle) : Bool :=
  old.ownerDomain || (old == .vendor && new == some .provisioned)

/-- The precondition of a transition (R602). -/
def State.transReady (new : Lifecycle) (s : State) : Bool :=
  match s.sec.lifecycle, new with
  | .vendor, .provisioned => s.sec.owner
  | .provisioned, .field => s.sec.dik
  | _, _ => true

/-- The fields of an authorisation block (R603, R604). -/
def State.blockOk (bs : List Byte) (action target : Nat) (owner : Bool) (s : State) : Bool :=
  rd bs 0 4 == 0x55414C4D && rd bs 4 1 == action && rd bs 5 1 == target && rd bs 6 1 == b2n owner && s.serialIs bs 8 &&
    (bs.drop 16).take 32 == padTo 32 0 s.sec.challenge

/-- The last group of R604: the challenge is replaced whatever comes of it, which needs random numbers (R589); a block whose
fields do not match fails, and one whose fields match has its signature verified. -/
def State.authorise (h : Hdr) (op action target : Nat) (owner : Bool) (s : State) : Res :=
  let n := h.ctx.toNat
  let bs := s.payload h
  if !s.sec.entropyOk then .fail cHw [] s
  else if !s.blockOk bs action target owner then .fail cAuth [] (s.newChallenge.pulse 17)
  else .go (s.newChallenge.secAsk { opcode := op, ctx := n, body := bs, target := target, window := 0, offset := 0 })

/-- SEC_LIFECYCLE (R602 to R605). -/
def takeSecLifecycle (h : Hdr) (target : BitVec 8) (s : State) : State :=
  s.take h 0x0E03 [.l] true (some 432) (rd (s.payload h) 7 1 == 0) (fun s =>
    match s.secGate h.ctx.toNat none with
    | some e => .fail e [] s
    | none =>
      match Lifecycle.ofCode target.toNat with
      | none => .fail cLifecycle [] s
      | some new =>
        if (transWipes s.sec.lifecycle new).isNone then .fail cLifecycle [] s
        else if !s.transReady new then .fail cState [] s
        else s.authorise h 0x0E03 1 target.toNat (ownerSigns s.sec.lifecycle (some new)))

/-- SEC_LIFECYCLE. -/
def execSecLifecycle (h : Hdr) (target : BitVec 8) (s : State) : Host.Outcome State Fault Refusal := (takeSecLifecycle h target s).out

/-- SEC_DEBUG_UNLOCK (R606). -/
def takeSecDebugUnlock (h : Hdr) (s : State) : State :=
  s.take h 0x0E05 [.l] true (some 432) (rd (s.payload h) 7 1 == 0) (fun s =>
    match s.secGate h.ctx.toNat none with
    | some e => .fail e [] s
    | none =>
      if s.sec.lifecycle == Lifecycle.field || s.sec.lifecycle == Lifecycle.scrap then .fail cLifecycle [] s
      else s.authorise h 0x0E05 2 0 (ownerSigns s.sec.lifecycle none))

/-- SEC_DEBUG_UNLOCK. -/
def execSecDebugUnlock (h : Hdr) (s : State) : Host.Outcome State Fault Refusal := (takeSecDebugUnlock h s).out

/-! ## Trivet's answers -/

/-- A record write for a command: refused, the command ends with ERR_HW (R610). -/
def State.secPut (id : NvId) (data : List Byte) (why : NvWhy) (n : Nat) (s : State) : State :=
  match s.nvPut id data why (some n) with
  | some s1 => s1
  | none => s.secFail n cHw

/-- What follows a request that Trivet has served; `crossed` counts the applies that crossed a hashing. -/
def State.trivetDone (r : TrivetReq) (crossed : Nat) (ok : Bool) (out : List Byte) (s : State) : State :=
  let n := r.ctx
  match r.opcode with
  | 0x0601 | 0x0603 =>
    if r.target = 1 then (if s.sec.entropyOk && ok then { s with sv := { s.sv with signed := r.body ++ padTo 384 0 out } } else s)
    else if s.sec.entropyOk && ok then s.finish n .done cOk [] (r.body ++ padTo 384 0 out) else s.failWith n cHw
  | 0x0E00 => if s.sec.entropyOk && ok then s.attestDone r crossed out else s.failWith n cHw
  | 0x0E01 => if ok then s.secPut .ownerKey r.body .enrol n else s.secFail n cAuth
  | 0x0E02 => if ok then s.emit (.norProgram r.target r.body) else s.secFail n cAuth
  | 0x0E03 =>
    if !ok then s.authFail n
    else
      match Lifecycle.ofCode r.target with
      | some new =>
        ({ s with sec := { s.sec with trans := some (new, .commit) } }).secPut .pending (le 1 r.target) .pending n
      | none => s.secFail n cLifecycle
  | 0x0E04 => if s.sec.entropyOk && ok then s.secPut .dik (s.dikRecord (out.take 384) (out.drop 384)) .identity n else s.secFail n cHw
  | 0x0E05 => if ok then ({ s with sec := { s.sec with debugOpen := true } }).secEnd n .done cOk [] else s.authFail n
  | _ => s

/-- TRIVET_REQUEST_DONE (R585): the oldest request. `ok` is the verdict of a verification, or that a signature or a key could be
made; `out` what was made. -/
def execTrivetRequestDone (t : Nat) (ok : Bool) (out : List Byte) (s : State) : Host.Outcome State Fault Refusal :=
  let s1 := s.atTime t
  (match s1.sec.reqs with
   | [] => s1
   | r :: rest =>
     let left := match rest with
       | q :: l => (if q.opcode = 0x0E00 then { q with target := s1.lt.seq.toNat } else q) :: l
       | [] => []
     ({ s1 with sec := { s1.sec with reqs := left, hashCrossed := 0 } }).trivetDone r s1.sec.hashCrossed ok out).out

/-- NOR_WRITE_DONE (R599). -/
def execNorWriteDone (t : Nat) (readBackOk : Bool) (s : State) : Host.Outcome State Fault Refusal :=
  let s1 := s.atTime t
  (match s1.sec.secCtx with
   | some n =>
     let writing := (match (s1.ctx n).cur with | some c => c.opcode == 0x0E02 | none => false) && s1.sec.reqs.all (fun r => r.opcode != 0x0E02)
     if !writing then s1 else if readBackOk then s1.secEnd n .done cOk [] else s1.secFail n cHw
   | none => s1).out

/-! ## Record writes (R437, R598, R605, R609 to R611) -/

/-- The other slot of a record is erased (R594). -/
def State.nvForget (id : NvId) (s : State) : State :=
  s.setNv id (fun r => r.setSlot r.target (fun x => { NvSlot.blank with wear := x.wear }))

/-- What follows the commit of a record write; `rest` are the writes still to come. -/
def State.nvDone (w : NvWrite) (rest : List NvWrite) (s : State) : State :=
  let end_ := fun (s : State) => match w.ctx with | some n => s.done n [] | none => s
  let secPut := fun (id : NvId) (data : List Byte) (why : NvWhy) (s : State) => match w.ctx with | some n => s.secPut id data why n | none => s
  match w.why with
  | .trim => if rest.any (fun x => x.ctx == w.ctx) then s else end_ s
  | .layout => end_ s
  | .svn =>
    let v := BitVec.ofNat 32 (leVal w.data)
    if w.id == .svnOwner then { s with sec := { s.sec with svnOwner := v } } else { s with sec := { s.sec with svnVendor := v } }
  | .enrol =>
    let s1 := { s with sec := { s.sec with owner := true, ownerHash := sha256 (w.data.take 416), epoch := BitVec.ofNat 32 (rd w.data 20 4) } }
    (match w.ctx with | some n => s1.secEnd n .done cOk [] | none => s1)
  | .identity =>
    let s1 := s.nvForget .dik
    let s2 := { s1 with sec := { s1.sec with dik := true, dikHash := sha256 (w.data.take 416) } }
    (match w.ctx with | some n => s2.secEnd n .done cOk w.data | none => s2)
  | .pending =>
    match s.sec.trans with
    | some (new, _) =>
      let s1 := { s with sec := { s.sec with trans := some (new, .wipe) } }
      if new.journalled then secPut .lifecycle (le 1 new.code) .newState s1 else secPut .pending pendingNone .clear s1
    | none => s
  | .newState =>
    match s.sec.trans with
    | some (new, _) => secPut .pending pendingNone .clear { s with sec := { s.sec with trans := some (new, .clear) } }
    | none => s
  | .clear =>
    match w.ctx with
    | some n =>
      let quiet := match (s.ctx n).cur with | some c => c.noCpl | none => true
      let s1 := s.secEnd n .done cOk []
      if quiet then { s1 with rst := { s1.rst with secResetAt := some (s1.now + 100000) } } else s1
    | none => s

/-- A record write is given up: the command that asked for it ends with ERR_HW, and its other writes go on for nobody. -/
def State.nvDrop (w : NvWrite) (s : State) : State :=
  match w.ctx with
  | none => s
  | some n =>
    let s1 := { s with sec := { s.sec with writes := s.sec.writes.map (fun (x : NvWrite) => if x.ctx == some n then { x with ctx := none } else x) } }
    if s.sec.secCtx == some n then s1.secFail n cHw else s1.failWith n cHw

/-- NV_SAFE (R437): after SHUTDOWN, once no write is left. -/
def State.nvSafe (s : State) : State :=
  { s with therm := { s.therm with nvSafe := s.therm.nvSafe || (s.therm.shutdown && s.sec.stopNv && s.sec.writes.isEmpty) } }

/-- The first line of a record has been programmed: its slot no longer holds what its commit line names. Of a transition's next record,
the NV classes have been wiped before it, and a state held in fuses has been written (R605). -/
def State.nvStart (w : NvWrite) (s : State) : State :=
  let s1 := match s.sec.trans with
    | some (new, .wipe) =>
      if w.why == NvWhy.newState || w.why == NvWhy.clear then
        let x := s.nvWipe ((transWipes s.sec.lifecycle new).getD [])
        let step : TransStep := if new.journalled then .writeState else .clear
        { x with sec := { x.sec with fuse := if new.journalled then x.sec.fuse else new, trans := some (new, step) } }
      else s
    | _ => s
  s1.nvSpoil w.id

/-- NV_LINE_PROGRAM_DONE (R437, R609, R610). -/
def execNvLineProgramDone (t : Nat) (s : State) : Host.Outcome State Fault Refusal :=
  let s1 := s.atTime t
  match s1.sec.writes with
  | [] => s1.out
  | w :: rest =>
    if w.waitSince.isSome then s1.out
    else
      let s2 := if w.begun then s1 else s1.nvStart w
      let left := w.left - 1
      let go := fun (ws : List NvWrite) (x : State) => ({ x with sec := { x.sec with writes := ws } } : State)
      (if left = 0 then ((go rest s2).nvCommit w).nvDone w rest
       else if s1.sec.stopNv && 1 < left then (go rest s2).nvDrop w
       else
         let w1 := { w with left := left, begun := true, waitSince := if s1.sec.vddNvLow then some s1.now else none }
         go (w1 :: rest) s2).nvSafe.out

/-- VDD_NV_LOW (R107, R610): the line program in progress completes; every other write waits. -/
def execVddNvLow (t : Nat) (s : State) : Host.Outcome State Fault Refusal :=
  let s1 := s.atTime t
  let wait := fun (w : NvWrite) => ({ w with waitSince := some (w.waitSince.getD s1.now) } : NvWrite)
  let ws := match s1.sec.writes with | [] => [] | w :: rest => w :: rest.map wait
  ({ s1 with sec := { s1.sec with vddNvLow := true, writes := ws } }).out

/-- VDD_NV_RECOVER (R107). -/
def execVddNvRecover (t : Nat) (s : State) : Host.Outcome State Fault Refusal :=
  let s1 := s.atTime t
  ({ s1 with sec := { s1.sec with vddNvLow := false,
                                  writes := s1.sec.writes.map (fun (w : NvWrite) => { w with waitSince := none }) } }).out

/-- NV_WRITE_WAIT_TIMEOUT (R610): writes that have waited 10 ms end with ERR_HW. -/
def execNvWriteWaitTimeout (t : Nat) (s : State) : Host.Outcome State Fault Refusal :=
  let s1 := s.atTime t
  let late := fun (w : NvWrite) => match w.waitSince with | some a => decide (a + 10000000 ≤ s1.now) | none => false
  let gone := s1.sec.writes.filter late
  let s2 := { s1 with sec := { s1.sec with writes := s1.sec.writes.filter (fun w => !late w) } }
  let ctxs := (gone.filterMap (fun w => w.ctx)).eraseDups
  let s3 := { s2 with sec := { s2.sec with svnDue := s2.sec.svnDue || gone.any (·.why == NvWhy.svn) } }
  (ctxs.foldl (fun (x : State) n =>
    match gone.find? (fun w => w.ctx == some n) with | some w => x.nvDrop w | none => x) s3).nvSafe.out

/-! ## Health and access (R584, R589) -/

/-- ENTROPY_HEALTH_FAIL (R589). -/
def execEntropyHealthFail (t : Nat) (s : State) : Host.Outcome State Fault Refusal :=
  let s1 := s.atTime t
  ({ s1 with sec := { s1.sec with entropyOk := false } }).out

/-- SECURITY_ACCESS_VIOLATION (R584). -/
def execSecurityAccessViolation (t : Nat) (s : State) : Host.Outcome State Fault Refusal :=
  let s1 := s.atTime t
  (({ s1 with sec := { s1.sec with violations := satAdd 0xFFFF s1.sec.violations 1 } }).pulse 16).out

end Sys2Proof.Machine
end

