-- ==== Sys2Proof/Machine/Mailbox.lean ====
section
/-! DEFINITION. The command mailbox: commands read from their 64 bytes, taken from the submission queues, and their completion
entries (chapters "Host link, hot-plug and command mailbox", R541 to R549, and "Command reference", R555 to R580). -/

namespace Sys2Proof.Machine

/-! ## MB_ABORT -/

/-- The axis in whose queue a context's move stands, with the move. -/
def State.moveOf (k : Nat) (s : State) : Option (Nat × Move) :=
  (List.range 4).findSome? (fun x => ((s.axis x).queue.find? (fun m => m.ctx == some k)).map (fun m => (x, m)))

/-- A motion command is aborted (R561): a waiting one leaves its queue, the running one stops. -/
def State.abortMove (k : Nat) (s : State) : Option State :=
  match s.moveOf k with
  | none => none
  | some (x, m) =>
    let a := s.axis x
    if a.running && a.queue.head? == some m then some (s.stopMove x cAborted) else some (s.moveOver x m .aborted cAborted)

/-- The command that runs on a context is aborted, if its opcode is abortable now (R548, R561, and the A marks of R562 to R580). -/
def State.abortRun (k op : Nat) (s : State) : Option State :=
  match op with
  | 0x0101 | 0x0102 =>
    match s.mode.apply with
    | some a => if a.ctx == some k && !a.announced then some (s.dropApply cAborted) else none
    | none => none
  | 0x0405 => some s.shdAbort
  | 0x0503 => some s.alnAbort
  | 0x0602 => s.refAbort k
  | 0x0804 => some (s.lampTestEnd .aborted cAborted)
  | 0x0903 | 0x0904 | 0x0905 | 0x0906 | 0x0907 | 0x0908 => s.abortMove k
  | 0x0F03 => some { s with diag := { s.diag with selfTest := s.diag.selfTest.map (fun (x : SelfTest) => { x with aborted := true }) } }
  | _ => none

/-- MB_ABORT (R548). -/
def takeMbAbort (h : Hdr) (context seq : BitVec 8) (s : State) : State :=
  s.take h 0x0107 [.c] true (some 0) true (fun s =>
    let k := context.toNat
    match (s.ctx k).cur with
    | some c =>
      if c.seq == seq then
        match s.abortRun k c.opcode with
        | some s1 => .ok [] [] s1
        | none => .fail cState [] s
      else .fail cState [] s
    | none => .fail cState [] s)

/-- MB_ABORT. -/
def execMbAbort (h : Hdr) (context seq : BitVec 8) (s : State) : Host.Outcome State Fault Refusal := (takeMbAbort h context seq s).out

/-! ## Commands as bytes -/

/-- The reserved bytes of a command that lists these parameters (offset and size): bytes 7 to 15, and those of 16 to 63 that no
parameter covers (R11, R544, R555). -/
def reservedAt (fields : List (Nat × Nat)) : List Nat :=
  (List.range' 7 57).filter (fun i => decide (i < 16) || !fields.any (fun f => decide (f.1 ≤ i) && decide (i < f.1 + f.2)))

/-- The header of a command (R544). -/
def headOf (t n : Nat) (bs : List Byte) (fields : List (Nat × Nat)) : Hdr :=
  { t := t, ctx := BitVec.ofNat 8 n, seq := BitVec.ofNat 8 (rd bs 2 1), flags := BitVec.ofNat 8 (rd bs 3 1),
    plen := BitVec.ofNat 24 (rd bs 4 3), rsvBad := (reservedAt fields).any (fun i => bs.getD i 0 != 0) }

/-- The parameter of `w` bits at an offset. -/
def par {w : Nat} (bs : List Byte) (off : Nat) : BitVec w := BitVec.ofNat w (rd bs off (w / 8))

/-- The command that 64 bytes spell on context `n`, taken at `t` (R562 to R580); none for an opcode that is not defined. -/
def parseCmd (t n : Nat) (bs : List Byte) : Option Instr :=
  let hd := headOf t n bs
  match rd bs 0 2 with
  | 0x0100 => some (.devIdentify (hd []))
  | 0x0101 => some (.setMode (hd [(16, 1), (17, 1), (20, 4)]) (par bs 16) (par bs 17) (par bs 20))
  | 0x0102 => some (.syncApply (hd [(16, 1), (20, 4)]) (par bs 16) (par bs 20))
  | 0x0103 => some (.devReset (hd [(16, 1)]) (par bs 16))
  | 0x0104 => some (.quiesce (hd [(16, 1), (20, 4)]) (par bs 16) (par bs 20))
  | 0x0105 => some (.mbTakeover (hd []))
  | 0x0106 => some (.mbGiveback (hd [(16, 1)]) (par bs 16))
  | 0x0107 => some (.mbAbort (hd [(16, 1), (17, 1)]) (par bs 16) (par bs 17))
  | 0x0108 => some (.mbBufSet (hd [(16, 1), (20, 4), (24, 4)]) (par bs 16) (par bs 20) (par bs 24))
  | 0x0109 => some (.cfgRead (hd [(16, 2), (18, 1), (20, 4)]) (par bs 16) (par bs 18) (par bs 20))
  | 0x010A => some (.resRead (hd []))
  | 0x0200 => some (.cfgProfile (hd [(16, 1)]) (par bs 16))
  | 0x0201 =>
    some (.patBankStage (hd [(16, 1), (17, 1), (18, 1), (19, 1), (20, 2), (22, 2), (24, 8)])
      (par bs 16) (par bs 17) (par bs 18) (par bs 19) (par bs 20) (par bs 22) (par bs 24))
  | 0x0202 => some (.patSelectStage (hd [(16, 8), (24, 1), (25, 1)]) (par bs 16) (par bs 24) (par bs 25))
  | 0x0203 => some (.afeStage (hd [(16, 1), (17, 1)]) (par bs 16) (par bs 17))
  | 0x0204 => some (.tapMapStage (hd [(16, 1), (17, 1)]) (par bs 16) (par bs 17))
  | 0x0205 => some (.tapClockStage (hd [(16, 1), (20, 4)]) (par bs 16) (par bs 20))
  | 0x0206 => some (.portIsolate (hd [(16, 1)]) (par bs 16))
  | 0x0207 => some (.portSwap (hd [(16, 1)]) (par bs 16))
  | 0x0208 => some (.portQualify (hd [(16, 1), (17, 1), (18, 1), (20, 2)]) (par bs 16) (par bs 17) (par bs 18) (par bs 20))
  | 0x0209 => some (.portRelease (hd [(16, 1)]) (par bs 16))
  | 0x020A => some (.afeFgCal (hd [(16, 1)]) (par bs 16))
  | 0x020B => some (.afeTrimSave (hd []))
  | 0x020C => some (.afeResidRead (hd [(16, 1), (17, 1), (20, 4)]) (par bs 16) (par bs 17) (par bs 20))
  | 0x020D => some (.portStatusRead (hd [(16, 1)]) (par bs 16))
  | 0x0300 =>
    some (.ltSrcStage (hd [(16, 1), (17, 1), (18, 1), (19, 1), (20, 1), (22, 2), (24, 8), (32, 4), (36, 4)])
      (par bs 16) (par bs 17) (par bs 18) (par bs 19) (par bs 20) (par bs 22) (par bs 24) (par bs 32)
      (par bs 36))
  | 0x0301 => some (.ltStrobeStage (hd []))
  | 0x0302 => some (.ltPageStage (hd []))
  | 0x0303 => some (.ltPaceStage (hd [(16, 4), (20, 4), (24, 2)]) (par bs 16) (par bs 20) (par bs 24))
  | 0x0304 =>
    some (.ioAssignStage (hd [(16, 1), (17, 1), (18, 2), (20, 4), (24, 4), (28, 2)])
      (par bs 16) (par bs 17) (par bs 18) (par bs 20) (par bs 24) (par bs 28))
  | 0x0400 => some (.shdSetLoad (hd [(16, 1), (17, 1), (20, 4)]) (par bs 16) (par bs 17) (par bs 20))
  | 0x0401 =>
    some (.shdSetPatch (hd [(16, 1), (17, 1), (18, 1), (20, 4), (24, 4)])
      (par bs 16) (par bs 17) (par bs 18) (par bs 20) (par bs 24))
  | 0x0402 => some (.shdSetClear (hd [(16, 1)]) (par bs 16))
  | 0x0403 => some (.shdSetDiscard (hd []))
  | 0x0404 => some (.shdSetRead (hd [(16, 1), (17, 1), (18, 1), (20, 4)]) (par bs 16) (par bs 17) (par bs 18) (par bs 20))
  | 0x0405 =>
    some (.shdCalibrate (hd [(16, 1), (17, 1), (18, 2), (24, 8), (32, 2), (34, 2), (36, 2), (38, 2), (40, 1), (41, 1), (42, 2)])
      (par bs 16) (par bs 17) (par bs 18) (par bs 24) (par bs 32) (par bs 34) (par bs 36) (par bs 38)
      (par bs 40) (par bs 41) (par bs 42))
  | 0x0406 => some (.shdCfgStage (hd []))
  | 0x0407 => some (.linStage (hd [(16, 1)]) (par bs 16))
  | 0x0408 => some (.shdQualityRead (hd [(17, 1), (20, 4)]) (par bs 17) (par bs 20))
  | 0x0500 => some (.alnTableStage (hd [(16, 2), (18, 1), (19, 1)]) (par bs 16) (par bs 18) (par bs 19))
  | 0x0501 => some (.xformStage (hd []))
  | 0x0502 =>
    some (.productStage (hd [(16, 1), (17, 1), (20, 4), (24, 4), (28, 2)])
      (par bs 16) (par bs 17) (par bs 20) (par bs 24) (par bs 28))
  | 0x0503 =>
    some (.alnCalibrate (hd [(16, 8), (24, 2), (26, 1), (27, 1), (28, 4), (32, 4), (36, 4)])
      (par bs 16) (par bs 24) (par bs 26) (par bs 27) (par bs 28) (par bs 32) (par bs 36))
  | 0x0504 => some (.seamQualityRead (hd [(17, 1), (20, 4)]) (par bs 17) (par bs 20))
  | 0x0600 =>
    some (.svJobStart (hd [(16, 4), (20, 1), (21, 1), (22, 1), (24, 4), (28, 4), (32, 2), (34, 2), (36, 2), (38, 2), (40, 2), (42, 2), (44, 4)])
      (par bs 16) (par bs 20) (par bs 21) (par bs 22) (par bs 24) (par bs 28) (par bs 32) (par bs 34)
      (par bs 36) (par bs 38) (par bs 40) (par bs 42) (par bs 44))
  | 0x0601 => some (.svJobEnd (hd []))
  | 0x0602 =>
    some (.svRefSubmit (hd [(16, 1), (17, 1), (20, 4), (24, 4), (28, 4)])
      (par bs 16) (par bs 17) (par bs 20) (par bs 24) (par bs 28))
  | 0x0603 => some (.svChainSign (hd []))
  | 0x0604 => some (.svSieveStage (hd [(16, 1), (17, 1), (18, 2)]) (par bs 16) (par bs 17) (par bs 18))
  | 0x0605 => some (.svTongsStage (hd [(16, 1), (17, 1)]) (par bs 16) (par bs 17))
  | 0x0606 => some (.svLadleStage (hd [(16, 1)]) (par bs 16))
  | 0x0607 => some (.svPreviewStage (hd [(16, 1), (17, 1), (18, 1)]) (par bs 16) (par bs 17) (par bs 18))
  | 0x0608 => some (.svCropStage (hd [(16, 1)]) (par bs 16))
  | 0x0700 =>
    some (.sklCfgStage (hd [(16, 1), (17, 1), (18, 1), (19, 1), (20, 1)])
      (par bs 16) (par bs 17) (par bs 18) (par bs 19) (par bs 20))
  | 0x0701 => some (.sklMapStage (hd [(16, 2), (18, 2)]) (par bs 16) (par bs 18))
  | 0x0702 => some (.sklProfileStage (hd [(16, 2), (18, 2)]) (par bs 16) (par bs 18))
  | 0x0703 => some (.sklClassStage (hd [(16, 1), (17, 1)]) (par bs 16) (par bs 17))
  | 0x0704 => some (.sklFevStage (hd []))
  | 0x0705 => some (.sklFlagsRead (hd [(17, 1), (20, 4)]) (par bs 17) (par bs 20))
  | 0x0800 => some (.ilmRowStage (hd [(16, 1)]) (par bs 16))
  | 0x0801 => some (.ilmLevelStage (hd []))
  | 0x0802 => some (.ilmTcompStage (hd [(16, 1)]) (par bs 16))
  | 0x0803 => some (.lswStage (hd [(16, 1), (17, 1), (18, 2)]) (par bs 16) (par bs 17) (par bs 18))
  | 0x0804 =>
    some (.lampTest (hd [(16, 1), (17, 1), (18, 2), (20, 2), (22, 1), (24, 2), (26, 2)])
      (par bs 16) (par bs 17) (par bs 18) (par bs 20) (par bs 22) (par bs 24) (par bs 26))
  | 0x0805 => some (.ilmLampClear (hd [(16, 1), (17, 1), (18, 1)]) (par bs 16) (par bs 17) (par bs 18))
  | 0x0806 => some (.ilmRowClear (hd [(16, 1)]) (par bs 16))
  | 0x0900 => some (.motAxisStage (hd [(16, 1)]) (par bs 16))
  | 0x0901 => some (.motRampStage (hd [(16, 1), (17, 1), (18, 1)]) (par bs 16) (par bs 17) (par bs 18))
  | 0x0902 => some (.motTileStage (hd []))
  | 0x0903 =>
    some (.motMove (hd [(16, 1), (17, 1), (24, 8), (32, 4), (36, 4), (40, 4)])
      (par bs 16) (par bs 17) (par bs 24) (par bs 32) (par bs 36) (par bs 40))
  | 0x0904 => some (.motTable (hd [(16, 1), (17, 1), (18, 1)]) (par bs 16) (par bs 17) (par bs 18))
  | 0x0905 => some (.motJog (hd [(16, 1), (20, 4), (24, 4)]) (par bs 16) (par bs 20) (par bs 24))
  | 0x0906 =>
    some (.motCoord (hd [(24, 8), (32, 8), (40, 4), (44, 4), (48, 4)])
      (par bs 24) (par bs 32) (par bs 40) (par bs 44) (par bs 48))
  | 0x0907 => some (.motFollow (hd [(16, 1)]) (par bs 16))
  | 0x0908 =>
    some (.motHome (hd [(16, 1), (17, 1), (20, 4), (24, 8), (32, 4), (36, 4)])
      (par bs 16) (par bs 17) (par bs 20) (par bs 24) (par bs 32) (par bs 36))
  | 0x0909 => some (.motAdjust (hd [(16, 1), (20, 4), (24, 4), (28, 4)]) (par bs 16) (par bs 20) (par bs 24) (par bs 28))
  | 0x090A => some (.motStop (hd [(16, 1), (17, 1)]) (par bs 16) (par bs 17))
  | 0x090B => some (.motFaultClear (hd [(16, 1)]) (par bs 16))
  | 0x0A00 => some (.madcCfgStage (hd [(16, 1), (17, 1), (18, 1)]) (par bs 16) (par bs 17) (par bs 18))
  | 0x0A01 => some (.madcSeqStage (hd [(16, 1)]) (par bs 16))
  | 0x0A02 => some (.madcSetStage (hd [(16, 1), (17, 1), (18, 1)]) (par bs 16) (par bs 17) (par bs 18))
  | 0x0A03 => some (.madcCal (hd []))
  | 0x0A04 => some (.madcInject (hd [(16, 1), (17, 1), (18, 1), (19, 1)]) (par bs 16) (par bs 17) (par bs 18) (par bs 19))
  | 0x0A05 => some (.madcTest (hd [(16, 1)]) (par bs 16))
  | 0x0A06 =>
    some (.madcAccRead (hd [(16, 1), (17, 1), (20, 4), (24, 8), (32, 1)])
      (par bs 16) (par bs 17) (par bs 20) (par bs 24) (par bs 32))
  | 0x0B00 =>
    some (.simmerCfgStage (hd [(16, 2), (18, 2), (20, 2), (22, 2), (24, 2), (26, 2), (28, 1)])
      (par bs 16) (par bs 18) (par bs 20) (par bs 22) (par bs 24) (par bs 26) (par bs 28))
  | 0x0B01 => some (.simmerPowerLimit (hd [(16, 2)]) (par bs 16))
  | 0x0B02 => some (.thermRead (hd [(17, 1), (20, 4)]) (par bs 17) (par bs 20))
  | 0x0C00 =>
    some (.dramCfgStage (hd [(16, 1), (17, 1), (18, 1), (19, 1), (20, 2)])
      (par bs 16) (par bs 17) (par bs 18) (par bs 19) (par bs 20))
  | 0x0C01 => some (.winCreate (hd [(16, 1), (17, 1), (20, 4)]) (par bs 16) (par bs 17) (par bs 20))
  | 0x0C02 => some (.winMap (hd [(16, 1), (20, 4)]) (par bs 16) (par bs 20))
  | 0x0C03 => some (.winUnmap (hd [(16, 1)]) (par bs 16))
  | 0x0C04 => some (.winFree (hd [(16, 1)]) (par bs 16))
  | 0x0C05 => some (.ringSet (hd [(16, 1), (20, 4), (24, 4), (28, 2)]) (par bs 16) (par bs 20) (par bs 24) (par bs 28))
  | 0x0C06 => some (.dramLogRead (hd [(16, 1), (17, 1), (20, 4)]) (par bs 16) (par bs 17) (par bs 20))
  | 0x0C07 => some (.dramTrain (hd []))
  | 0x0C08 => some (.dramChRetire (hd [(16, 1)]) (par bs 16))
  | 0x0C09 => some (.dramChTest (hd [(16, 1), (17, 1)]) (par bs 16) (par bs 17))
  | 0x0C0A => some (.dramChRestore (hd [(16, 1)]) (par bs 16))
  | 0x0D00 =>
    some (.qBind (hd [(16, 2), (18, 1), (19, 1), (20, 2), (22, 2)])
      (par bs 16) (par bs 18) (par bs 19) (par bs 20) (par bs 22))
  | 0x0D01 => some (.qFlush (hd [(16, 2)]) (par bs 16))
  | 0x0D02 => some (.dmaBind (hd [(16, 1), (17, 1), (18, 2), (20, 1)]) (par bs 16) (par bs 17) (par bs 18) (par bs 20))
  | 0x0D03 => some (.pageRelease (hd [(16, 4)]) (par bs 16))
  | 0x0E00 => some (.secAttest (hd [(16, 32), (48, 1), (52, 4)]) (par bs 16) (par bs 48) (par bs 52))
  | 0x0E01 => some (.secOwnerEnrol (hd []))
  | 0x0E02 =>
    some (.secImageWrite (hd [(16, 1), (17, 1), (20, 4), (24, 4)])
      (par bs 16) (par bs 17) (par bs 20) (par bs 24))
  | 0x0E03 => some (.secLifecycle (hd [(16, 1)]) (par bs 16))
  | 0x0E04 => some (.secIdentityGen (hd []))
  | 0x0E05 => some (.secDebugUnlock (hd []))
  | 0x0F00 => some (.diagTapStage (hd [(16, 1), (18, 2)]) (par bs 16) (par bs 18))
  | 0x0F01 => some (.diagSvBypass (hd [(16, 1)]) (par bs 16))
  | 0x0F02 => some (.diagPattern (hd [(16, 1), (20, 4)]) (par bs 16) (par bs 20))
  | 0x0F03 => some (.diagSelftest (hd [(16, 4)]) (par bs 16))
  | _ => none

/-- A mailbox command at the head of its context's queue. An event is no command of the mailbox. -/
def State.runMail (i : Instr) (s : State) : State :=
  match i with
  | .devIdentify h => takeDevIdentify h s
  | .setMode h mode when target => takeSetMode h mode when target s
  | .syncApply h when target => takeSyncApply h when target s
  | .devReset h kind => takeDevReset h kind s
  | .quiesce h dmaMode timeout => takeQuiesce h dmaMode timeout s
  | .mbTakeover h => takeMbTakeover h s
  | .mbGiveback h port => takeMbGiveback h port s
  | .mbAbort h context seq => takeMbAbort h context seq s
  | .mbBufSet h window offset size => takeMbBufSet h window offset size s
  | .cfgRead h table copy index => takeCfgRead h table copy index s
  | .resRead h => takeResRead h s
  | .cfgProfile h profile => takeCfgProfile h profile s
  | .patBankStage h bank mode lsLen repLen nrep blLen ports => takePatBankStage h bank mode lsLen repLen nrep blLen ports s
  | .patSelectStage h ports bank drive => takePatSelectStage h ports bank drive s
  | .afeStage h port range => takeAfeStage h port range s
  | .tapMapStage h firstPort count => takeTapMapStage h firstPort count s
  | .tapClockStage h die freq => takeTapClockStage h die freq s
  | .portIsolate h port => takePortIsolate h port s
  | .portSwap h port => takePortSwap h port s
  | .portQualify h port bank pwrSettle qualLines => takePortQualify h port bank pwrSettle qualLines s
  | .portRelease h port => takePortRelease h port s
  | .afeFgCal h dies => takeAfeFgCal h dies s
  | .afeTrimSave h => takeAfeTrimSave h s
  | .afeResidRead h die window offset => takeAfeResidRead h die window offset s
  | .portStatusRead h port => takePortStatusRead h port s
  | .ltSrcStage h src flags followers filtEnc filtSheet chkTol div genPeriod flushPeriod => takeLtSrcStage h src flags followers filtEnc filtSheet chkTol div genPeriod flushPeriod s
  | .ltStrobeStage h => takeLtStrobeStage h s
  | .ltPageStage h => takeLtPageStage h s
  | .ltPaceStage h hwm lwm takeup => takeLtPaceStage h hwm lwm takeup s
  | .ioAssignStage h enc1 fev15 fevMask rejMin rejDist rejWidth => takeIoAssignStage h enc1 fev15 fevMask rejMin rejDist rejWidth s
  | .shdSetLoad h set window offset => takeShdSetLoad h set window offset s
  | .shdSetPatch h set window tags offset nwords => takeShdSetPatch h set window tags offset nwords s
  | .shdSetClear h set => takeShdSetClear h set s
  | .shdSetDiscard h => takeShdSetDiscard h s
  | .shdSetRead h set window copy offset => takeShdSetRead h set window copy offset s
  | .shdCalibrate h set tileAuto settleMs ports targetRed targetGrn targetBlu targetNir defLo defHi darkMax => takeShdCalibrate h set tileAuto settleMs ports targetRed targetGrn targetBlu targetNir defLo defHi darkMax s
  | .shdCfgStage h => takeShdCfgStage h s
  | .linStage h line => takeLinStage h line s
  | .shdQualityRead h window offset => takeShdQualityRead h window offset s
  | .alnTableStage h stagger firstPort count => takeAlnTableStage h stagger firstPort count s
  | .xformStage h => takeXformStage h s
  | .productStage h pf chMask firstCol count queue => takeProductStage h pf chMask firstCol count queue s
  | .alnCalibrate h ports nbars refPort window xRef offset timeout => takeAlnCalibrate h ports nbars refPort window xRef offset timeout s
  | .seamQualityRead h window offset => takeSeamQualityRead h window offset s
  | .svJobStart h jobId en slots refWindow width height qSieve qTongs qLadle qPreview qCrop qSummary x0 => takeSvJobStart h jobId en slots refWindow width height qSieve qTongs qLadle qPreview qCrop qSummary x0 s
  | .svJobEnd h => takeSvJobEnd h s
  | .svRefSubmit h window ncrops offset length pageSeq => takeSvRefSubmit h window ncrops offset length pageSeq s
  | .svChainSign h => takeSvChainSign h s
  | .svSieveStage h nclass nregion flagMad => takeSvSieveStage h nclass nregion flagMad s
  | .svTongsStage h nwin ngroup => takeSvTongsStage h nwin ngroup s
  | .svLadleStage h nstrip => takeSvLadleStage h nstrip s
  | .svPreviewStage h colour pvCh qt => takeSvPreviewStage h colour pvCh qt s
  | .svCropStage h ncrop => takeSvCropStage h ncrop s
  | .sklCfgStage h en line latLimit slkEn lanes => takeSklCfgStage h en line latLimit slkEn lanes s
  | .sklMapStage h first count => takeSklMapStage h first count s
  | .sklProfileStage h first count => takeSklProfileStage h first count s
  | .sklClassStage h first count => takeSklClassStage h first count s
  | .sklFevStage h => takeSklFevStage h s
  | .sklFlagsRead h window offset => takeSklFlagsRead h window offset s
  | .ilmRowStage h row => takeIlmRowStage h row s
  | .ilmLevelStage h => takeIlmLevelStage h s
  | .ilmTcompStage h row => takeIlmTcompStage h row s
  | .lswStage h chain discard nbits => takeLswStage h chain discard nbits s
  | .lampTest h rows testCode testNs lines when vLamp vOfs => takeLampTest h rows testCode testNs lines when vLamp vOfs s
  | .ilmLampClear h row zone lamp => takeIlmLampClear h row zone lamp s
  | .ilmRowClear h row => takeIlmRowClear h row s
  | .motAxisStage h axis => takeMotAxisStage h axis s
  | .motRampStage h axis first count => takeMotRampStage h axis first count s
  | .motTileStage h => takeMotTileStage h s
  | .motMove h axis rel target vMax acc dec => takeMotMove h axis rel target vMax acc dec s
  | .motTable h axis first last => takeMotTable h axis first last s
  | .motJog h axis vMax acc => takeMotJog h axis vMax acc s
  | .motCoord h targetB targetC vMax acc dec => takeMotCoord h targetB targetC vMax acc dec s
  | .motFollow h axis => takeMotFollow h axis s
  | .motHome h axis dir vHome homePos backoff homeMax => takeMotHome h axis dir vHome homePos backoff homeMax s
  | .motAdjust h axis vMax acc dec => takeMotAdjust h axis vMax acc dec s
  | .motStop h axis flush => takeMotStop h axis flush s
  | .motFaultClear h axis => takeMotFaultClear h axis s
  | .madcCfgStage h mainsSrc mult calPeriod => takeMadcCfgStage h mainsSrc mult calPeriod s
  | .madcSeqStage h len => takeMadcSeqStage h len s
  | .madcSetStage h first count curves => takeMadcSetStage h first count curves s
  | .madcCal h => takeMadcCal h s
  | .madcInject h ch kind settle set => takeMadcInject h ch kind settle set s
  | .madcTest h conv => takeMadcTest h conv s
  | .madcAccRead h window clear offset mask maskHi => takeMadcAccRead h window clear offset mask maskHi s
  | .simmerCfgStage h tTarget theta tRelease tHold dwell ceilMin bucket => takeSimmerCfgStage h tTarget theta tRelease tHold dwell ceilMin bucket s
  | .simmerPowerLimit h pBoard => takeSimmerPowerLimit h pBoard s
  | .thermRead h window offset => takeThermRead h window offset s
  | .dramCfgStage h fields layout protEighths scrubHours ageLimit => takeDramCfgStage h fields layout protEighths scrubHours ageLimit s
  | .winCreate h window part size => takeWinCreate h window part size s
  | .winMap h window bar2Off => takeWinMap h window bar2Off s
  | .winUnmap h window => takeWinUnmap h window s
  | .winFree h window => takeWinFree h window s
  | .ringSet h window offset size qDesc => takeRingSet h window offset size qDesc s
  | .dramLogRead h window clear offset => takeDramLogRead h window clear offset s
  | .dramTrain h => takeDramTrain h s
  | .dramChRetire h ch => takeDramChRetire h ch s
  | .dramChTest h ch passes => takeDramChTest h ch passes s
  | .dramChRestore h ch => takeDramChRestore h ch s
  | .qBind h queue en flags limit wm => takeQBind h queue en flags limit wm s
  | .qFlush h queue => takeQFlush h queue s
  | .dmaBind h channel window queue port => takeDmaBind h channel window queue port s
  | .pageRelease h firstSeq => takePageRelease h firstSeq s
  | .secAttest h nonce window offset => takeSecAttest h nonce window offset s
  | .secOwnerEnrol h => takeSecOwnerEnrol h s
  | .secImageWrite h slot window offset length => takeSecImageWrite h slot window offset length s
  | .secLifecycle h target => takeSecLifecycle h target s
  | .secIdentityGen h => takeSecIdentityGen h s
  | .secDebugUnlock h => takeSecDebugUnlock h s
  | .diagTapStage h port queue => takeDiagTapStage h port queue s
  | .diagSvBypass h mask => takeDiagSvBypass h mask s
  | .diagPattern h pattern lines => takeDiagPattern h pattern lines s
  | .diagSelftest h tests => takeDiagSelftest h tests s
  | _ => s

/-- A command whose opcode is not defined (check 1 of R545). -/
def State.takeUnknown (n : Nat) (bs : List Byte) (s : State) : State :=
  let h := headOf s.now n bs []
  ((s.begun h (rd bs 0 2)).failWith n cOpcode).setCtx n (fun x => { x with paused := true, rung := false })

/-- What a command does, after what has left the block before it in the same event. -/
def State.after (f : State → State) (s : State) : State :=
  let r := f s
  { r with host := { r.host with out := s.host.out ++ r.host.out } }

/-- A complete command waits in the submission queue of a context (R543). -/
def State.hasCmd (n : Nat) (s : State) : Bool :=
  match (s.q (256 + n)).cells with
  | c :: _ => !c.isOpen
  | [] => false

/-- Stockpot takes the command at the head of a submission queue. -/
def State.takeHead (n : Nat) (s : State) : State :=
  match (s.q (256 + n)).cells with
  | [] => s
  | c :: _ =>
    let s1 := (s.setQ (256 + n) (fun q => { q.noteCycle s.now with cells := q.cells.drop 1 })).freeCell 1
    match parseCmd s1.now n c.bytes with
    | some i => s1.after (State.runMail i)
    | none => s1.takeUnknown n c.bytes

/-- Stockpot takes every complete command of a context, as long as each ends before the next (R542, R543). -/
def State.drain (n : Nat) : Nat → State → State
  | 0, s => s
  | k + 1, s =>
    if !s.hasCmd n then s.setCtx n (fun x => { x with rung := false })
    else if s.canTake n then State.drain n k (s.takeHead n)
    else s

/-- Commands that a context may have waiting (R541), with one to clear `rung`. -/
def mailFuel : Nat := 65

/-! ## The three events of the mailbox -/

/-- A host write to MB_DOORBELL_n (R535, R538, R539, R543, R545). -/
def State.doorbell (p n : Nat) (s : State) : State :=
  if s.mode.mode == .boot || (s.ctx n).owner != p || (s.ctx n).shut then s
  else (s.setCtx n (fun x => { x with paused := false, rung := true })).drain n mailFuel

/-- MB_DOORBELL. -/
def execMbDoorbell (t : Nat) (port : BitVec 1) (n : BitVec 8) (s : State) : Host.Outcome State Fault Refusal :=
  ((s.atTime t).doorbell port.toNat n.toNat).dmaOut

/-- A staging that waited for its table is executed again (R24). -/
def State.resumeStaging (n : Nat) (s : State) : State :=
  match (s.ctx n).deferred with
  | none => s
  | some i =>
    let s1 := s.setCtx n (fun x => { x with cur := none, deferred := none, resume := true })
    (s1.after (State.runMail i)).setCtx n (fun x => { x with resume := false })

/-- MB_SWEEP (R24, R543, R559): waiting stagings first, then the submission queues of the UP ports, in ascending context number. -/
def execMbSweep (t : Nat) (s : State) : Host.Outcome State Fault Refusal :=
  let s1 := s.atTime t
  if s1.mode.mode == .boot || !s1.served then s1.out
  else
    let s2 := (List.range 256).foldl (fun (s : State) n => s.resumeStaging n) s1
    ((List.range 256).foldl (fun (s : State) n => if s.hasCmd n then s.drain n mailFuel else s) s2).dmaOut

/-- A completion entry (R546). -/
def Ending.bytes (e : Ending) (partials : Nat) : List Byte :=
  le 2 e.opcode ++ le 1 e.seq.toNat ++ le 1 e.state.code ++ le 1 e.result.toNat ++ le 3 e.rlen ++ le 4 partials ++ le 4 0 ++
    padTo 48 0 e.data

/-- COMPLETION_PUSH (R537, R546): a full completion queue makes Stockpot wait; a discarded entry is not pushed. -/
def execCompletionPush (t : Nat) (n : BitVec 8) (s : State) : Host.Outcome State Fault Refusal :=
  let s1 := s.atTime t
  let k := n.toNat
  let x := s1.ctx k
  match x.ending with
  | none => s1.out
  | some e =>
    if s1.mode.mode == .boot || !s1.served || !(x.discard || s1.hasRoom (512 + k)) then s1.out
    else
      let s2 := if x.discard then s1 else s1.pushHard (512 + k) (e.bytes x.partials)
      let s3 := s2.entryDone k e
      (if (s3.ctx k).rung then s3.drain k mailFuel else s3).dmaOut

end Sys2Proof.Machine
end

