-- ==== Sys2Proof/Machine/MotionDrive.lean ====
section
/-! DEFINITION. What the motion unit does by itself: the ramp tick with pacing, the PWM period, step inputs and the bridge
(chapter "Motion control", R375, R380 to R383, R386 to R403; R194, R195). -/

namespace Sys2Proof.Machine

/-! ## Starting moves (R385, R387) -/

/-- The state that a kind of move shows (R404). -/
def MoveKind.shows : MoveKind → MotState
  | .follow => .following
  | .home _ _ _ _ _ => .homing
  | _ => .moving

/-- The move at the head of an axis's queue starts; its context shows RUNNING. -/
def State.startMove (x : Nat) (m : Move) (s : State) : State :=
  let p := (s.axis x).pos
  let lim := (s.motCfg x).aLimit
  let f := fun (a : Axis) =>
    let b := { a with running := true, state := m.kind.shows, hold := false, restAt := none, start := p, startAt := s.now, stopDec := none,
                      backing := false, coarse := p, edgeAt := none, followV := 0, stallRun := 0 }
    match m.kind with
    | .move t v ac d => { b with target := t, vMax := v, acc := ac, dec := d }
    | .coord tb tc v ac d => { b with target := if x = 1 then tb else tc, vMax := v, acc := ac, dec := d }
    | .jog v ac => { b with target := p, vMax := v.natAbs, acc := ac, dec := 0 }
    | .table _ _ => { b with target := p, vMax := 0, acc := 0, dec := 0 }
    | .follow => { b with target := p, vMax := 0, acc := 0, dec := 0 }
    | .home _ v _ _ _ => { b with target := p, vMax := v, acc := lim, dec := lim, homed := false }
  let s1 := s.setAx x f
  match m.ctx with
  | some n => s1.setCtx n (fun c => { c with opState := .running })
  | none => s1

/-- The axis can start a move. -/
def Axis.ready (a : Axis) : Bool := !a.running && a.v == 0 && !a.owned && (a.state == .rest || a.state == .stalled)

/-- A queued move starts where the axis is at rest; a coordinated one when it heads both queues and both axes are at rest (R392). -/
def State.startNext (x : Nat) (s : State) : State :=
  let a := s.axis x
  match a.queue.head? with
  | none => s
  | some m =>
    if !a.ready then s
    else if m.isCoord then
      let o := 3 - x
      if (s.axis o).ready && (s.axis o).queue.head? == some m then (s.startMove x m).startMove o m else s
    else s.startMove x m

/-! ## One tick of an axis (R380, R381, R388 to R396, R401) -/

/-- Whole microsteps that the line-timing unit counts (R165, R172). -/
def State.lineCounts (d : Int) : Nat → State → State
  | 0, s => s
  | n + 1, s => (s.lineCount d).lineCounts d n

/-- Position and velocity after a tick; AX_A's microsteps are the counts of SRC = 2 (R380). -/
def State.moveTo (x : Nat) (p v : Int) (s : State) : State :=
  let old := (s.axis x).pos
  let s1 := s.setAx x (fun a => { a with p := p, v := v })
  if x = 0 && s.srcNow = 2 && s.lt.run then
    let d := (s1.axis 0).pos - old
    let s2 := s1.lineCounts (if d < 0 then -1 else 1) d.natAbs
    s2.setLt (fun l => { l with vEst := s2.speedNow 1 })
  else s1

/-- PROGRESS of a move (R387). -/
def State.moveProgress (x : Nat) (m : Move) (far : Int) (s : State) : State :=
  let a := s.axis x
  match m.ctx with
  | some n => s.setCtx n (fun c => { c with progress := if far = 0 then 0 else min 4095 (4096 * (a.pos - a.start).natAbs / far.natAbs) })
  | none => s

/-- The deceleration that stops from a speed within a distance. -/
def decFor (u r : Nat) : Nat := if r = 0 then 0 else divUp (u * u) (512 * 2 ^ 32 * r)

/-- A soft limit begins to stop a MOT_JOG or MOT_FOLLOW (R396). -/
def State.noteLimit (x : Nat) (s : State) : State :=
  if (s.axis x).state == .stopping then s else (s.setAx x (fun a => { a with state := .stopping, cause := 7 })).pulse (163 + 4 * x)

/-- Where a MOT_JOG or MOT_FOLLOW must stop on its way, if the limits hold and it does not already lie beyond. -/
def State.limitAhead (x : Nat) (v : Int) (s : State) : Option Int :=
  let a := s.axis x
  let c := s.motCfg x
  let lim := if v < 0 then c.posMin else c.posMax
  if a.homed && v != 0 && (if v < 0 then decide (lim * 2 ^ 32 ≤ a.p) else decide (a.p ≤ lim * 2 ^ 32)) then some lim else none

/-- A tick in which a wanted velocity meets a soft limit: it is taken, or the axis brakes so that it stops exactly there. -/
def State.limitedStep (x : Nat) (v : Int) (s : State) : State :=
  let a := s.axis x
  match s.limitAhead x (if v = 0 then a.v else v) with
  | none => s.moveTo x (drift a.p v) v
  | some lim =>
    let r := (lim * 2 ^ 32 - a.p).natAbs
    let dec := (s.motCfg x).decStop
    if a.state != .stopping && decide (brakeDist v.natAbs dec + tickDist v.natAbs ≤ r) then s.moveTo x (drift a.p v) v
    else
      let b := trapStep (lim * 2 ^ 32) (a.v.natAbs / 2 ^ 32) 0 (max dec (decFor a.v.natAbs r)) a.p a.v
      let s1 := (s.noteLimit x).moveTo x b.1 b.2.1
      if b.2.2 then s1.endMove x .done cOk else s1

/-- The follower of a coordinated move takes its place on the line (R392). -/
def State.onLine (l : Nat) (s : State) : State :=
  let f := 3 - l
  let a := s.axis l
  let b := s.axis f
  let dl := a.target - a.start
  let df := b.target - b.start
  s.setAx f (fun b => { b with p := (b.start + divRound (df * (a.pos - a.start)) dl) * 2 ^ 32, v := if dl = 0 then 0 else df * a.v / dl })

/-- The distance to the target of the running move; 0 for a move without one (R387). -/
def State.moveFar (x : Nat) (m : Move) (s : State) : Int :=
  let a := s.axis x
  match m.kind with
  | .move _ _ _ _ | .coord _ _ _ _ _ => a.target - a.start
  | .table f l => match (rampOf s.active x f l).getLast? with | some g => g.endPos | none => 0
  | .jog _ _ | .follow | .home _ _ _ _ _ => 0

/-- A stop in progress (R387, R395). -/
def State.stopStep (x : Nat) (coord : Bool) (dec : Nat) (s : State) : State :=
  let a := s.axis x
  let v := velStep 0 dec a.v
  let s0 := s.moveTo x (drift a.p v) v
  let s1 := match a.queue.head? with
    | some m => if a.running && s.moveFar x m != 0 then s0.moveProgress x m (s.moveFar x m) else s0
    | none => s0
  let s2 := if coord then s1.onLine x else s1
  if v = 0 then s2.endMove x (endState a.stopEnd.toNat) a.stopEnd.toNat else s2

/-- One tick of the running move. -/
def State.runStep (x : Nat) (m : Move) (s : State) : State :=
  let a := s.axis x
  let c := s.motCfg x
  match m.kind with
  | .move _ _ _ _ =>
    let r := trapStep (a.target * 2 ^ 32) a.vMax a.acc a.dec a.p a.v
    let s1 := (s.moveTo x r.1 r.2.1).moveProgress x m (a.target - a.start)
    if r.2.2 then s1.endMove x .done cOk else s1
  | .coord _ _ _ _ _ =>
    let r := trapStep (a.target * 2 ^ 32) a.vMax a.acc a.dec a.p a.v
    let s1 := ((s.moveTo x r.1 r.2.1).onLine x).moveProgress x m (a.target - a.start)
    if r.2.2 then s1.endMove x .done cOk else s1
  | .table f l =>
    let gs := rampOf s.active x f l
    let far := match gs.getLast? with | some g => g.endPos | none => 0
    match tableAt 0 0 gs ((s.now - a.startAt) / 100) with
    | some y => (s.moveTo x (a.start * 2 ^ 32 + y.1) y.2).moveProgress x m far
    | none => (s.moveTo x ((a.start + far) * 2 ^ 32) 0).endMove x .done cOk
  | .jog v _ =>
    let goal : Int := signedBy v (a.vMax * 2 ^ 32)
    let w := if a.v.natAbs ≤ goal.natAbs then velStep goal a.acc a.v else velStep goal (max c.decStop a.dec) a.v
    s.limitedStep x w
  | .follow =>
    let goal := a.coarse * 2 ^ 32
    let near := decide ((goal - a.p).natAbs ≤ tickDist a.followV.natAbs)
    let s1 := if near then s.moveTo x goal 0 else s.limitedStep x a.followV
    if c.followMax < ((s1.axis x).coarse - (s1.axis x).pos).natAbs && (s1.axis x).running && (s1.axis x).stopDec.isNone then
      s1.softFault x 6 cAborted
    else s1
  | .home pos v _ _ far =>
    if a.backing then
      let r := trapStep (a.target * 2 ^ 32) v c.aLimit c.aLimit a.p a.v
      let s1 := s.moveTo x r.1 r.2.1
      if r.2.2 then s1.endMove x .done cOk else s1
    else
      let w := velStep (if pos then (v * 2 ^ 32 : Nat) else -((v * 2 ^ 32 : Nat) : Int)) c.aLimit a.v
      let s1 := s.moveTo x (drift a.p w) w
      if far ≤ ((s1.axis x).pos - a.start).natAbs then s1.stopMove x cTimeout else s1

/-! ## Pacing (R194, R195, R403) -/

/-- AX_A has come to rest under pacing: MOT_STOPs end. -/
def State.pacedRest (s : State) : State := (s.comeToRest 0).setAx 0 (fun a => { a with restAt := none, hold := false })

/-- Pacing decelerates because of FILL. -/
def State.paceStop (s : State) : State := (s.setLt (fun l => { l with pace := .decel, paceSlow := false })).pulse 94

/-- AX_A runs at a velocity for a tick. -/
def State.paceMove (v : Int) (s : State) : State :=
  (s.setAx 0 (fun a => { a with state := if v = 0 then a.state else .moving })).moveTo 0 (drift (s.axis 0).p v) v

/-- Outside SHEET_SCAN, or with the change out of it accepted, AX_A stops and is released (R403). -/
def State.paceLeave (s : State) : State :=
  let v := velStep 0 (s.motCfg 0).decStop (s.axis 0).v
  let s1 := s.paceMove v
  if v = 0 then (s1.comeToRest 0).setAx 0 (fun a => { a with owned := false }) else s1

/-- A tick of the pacing machine (R194). -/
def State.paceStep (s : State) : State :=
  let c := s.motCfg 0
  let a := s.axis 0
  let top : Int := s.ceiling s.active * 2 ^ 32
  let div := s.divNow
  match s.lt.pace with
  | .run =>
    if s.barHigh then s.paceStop
    else if top < a.v then s.setLt (fun l => { l with pace := .decel, paceSlow := true })
    else s.paceMove (velStep top c.aRun a.v)
  | .decel =>
    if s.lt.paceSlow then
      if s.barHigh then s.paceStop
      else
        let v := max top (velStep 0 c.decStop a.v)
        let s1 := s.paceMove v
        if v ≤ top then s1.setLt (fun l => { l with pace := .run, paceSlow := false }) else s1
    else
      let v := velStep 0 c.decStop a.v
      let s1 := s.paceMove v
      if v = 0 then s1.pacedRest.setLt (fun l => { l with pace := .rest }) else s1
  | .rest =>
    if !s.barLow then s
    else
      let back := s.lt.next - s.active.ltPace.takeup * div / 64
      if s.active.ltPace.takeup = 0 || decide (s.lt.pos < back) then s.setLt (fun l => { l with pace := .approach })
      else s.setLt (fun l => { l with pace := .reverse, paceBack := if s.srcNow = 2 then a.p / 2 ^ 32 * 2 ^ 32 + (back - l.pos) else back })
  | .reverse =>
    if s.srcNow = 2 then
      let r := trapStep s.lt.paceBack c.vRev c.aRun c.aRun a.p a.v
      let s1 := (s.setAx 0 (fun a => { a with state := .moving })).moveTo 0 r.1 r.2.1
      if r.2.2 then s1.pacedRest.setLt (fun l => { l with pace := .approach }) else s1
    else
      let v := if s.lt.pos ≤ s.lt.paceBack then velStep 0 c.aRun a.v else velStep (-(c.vRev * 2 ^ 32 : Nat)) c.aRun a.v
      let s1 := s.paceMove v
      if s.lt.pos ≤ s.lt.paceBack && v = 0 then s1.pacedRest.setLt (fun l => { l with pace := .approach }) else s1
  | .approach => if s.barHigh then s.paceStop else s.paceMove (velStep top c.aRun a.v)

/-- One ramp tick of an axis. -/
def State.axisTick (s : State) (x : Nat) : State :=
  let a := s.axis x
  if a.owned then (if s.mode.mode == .sheetScan && s.lt.run then s.paceStep else s.paceLeave)
  else if !a.running then s.startNext x
  else
    match a.queue.head?, a.stopDec with
    | some m, some d => if s.profileAxis x m = x then s.stopStep x m.isCoord d else s
    | none, some d => s.stopStep x false d
    | some m, none => if s.profileAxis x m = x then s.runStep x m else s
    | none, none => s.comeToRest x

/-- MOT_RAMP_TICK (R380): 100 ns of every axis. -/
def execMotRampTick (t : Nat) (s : State) : Host.Outcome State Fault Refusal :=
  (((List.range 4).foldl State.axisTick (s.atTime t)).tileStep).out

/-! ## Step inputs and waiting times (R382, R393) -/

/-- STEP_IN_EDGE (R393). -/
def execStepInEdge (t : Nat) (axis : BitVec 2) (rising dirHigh : Bool) (s : State) : Host.Outcome State Fault Refusal :=
  let s1 := s.atTime t
  let x := axis.toNat
  let a := s1.axis x
  let c := s1.motCfg x
  if !(a.running && a.state == .following && a.stopDec.isNone) || rising == c.stepEdge then s1.out
  else
    let pk : Nat := match a.edgeAt with | some e => min (s1.now - e) 10000000 | none => 10000000
    let step : Int := if dirHigh != c.dirInv then c.stepSize else -(c.stepSize : Int)
    let coarse := a.coarse + step
    let want := if pk = 0 then 0 else (coarse * 2 ^ 32 - a.p) * 16 * 1000000000 / pk
    let top : Int := c.vLimit * 2 ^ 32
    let dv : Int := 16 * c.aLimit * pk * 2 ^ 32 / 1000000000
    let v := clampI (a.v - dv) (a.v + dv) (clampI (-top) top want)
    (s1.setAx x (fun a => { a with coarse := coarse, edgeAt := some s1.now, followV := v })).out

/-- HOLD_DELAY_END (R382). -/
def execHoldDelayEnd (t : Nat) (axis : BitVec 2) (s : State) : Host.Outcome State Fault Refusal :=
  let s1 := s.atTime t
  let x := axis.toNat
  (match (s1.axis x).restAt with
   | some r => if r + 1000000 * (s1.motCfg x).holdDelay ≤ s1.now then s1.setAx x (fun a => { a with hold := true, restAt := none }) else s1
   | none => s1).out

/-- MOT_FLT_INPUT (R397). -/
def execMotFltInput (t : Nat) (axis : BitVec 2) (low : Bool) (s : State) : Host.Outcome State Fault Refusal :=
  let s1 := s.atTime t
  let x := axis.toNat
  let s2 := s1.setAx x (fun a => { a with fltPin := low })
  (if low && (s2.motCfg x).en && (s2.axis x).state != .hardFault then s2.haltAxis x .hardFault 1 else s2).out

/-- VBUS_LOW_TIMEOUT (R397). -/
def execVbusLowTimeout (t : Nat) (axis : BitVec 2) (s : State) : Host.Outcome State Fault Refusal :=
  let s1 := s.atTime t
  let x := axis.toNat
  (match (s1.axis x).vbusLow with
   | some since =>
     if since + 1000000 ≤ s1.now then (s1.setAx x (fun a => { a with vbusLow := none })).softFault x 5 cHw else s1
   | none => s1).out

/-! ## The PWM period (R375, R376, R382, R383, R400, R401) -/

/-- Terms of the Taylor series of the sine, with 40 fraction bits. -/
def sinTerms (x2 : Int) : Nat → Int → Int → Int
  | 0, _, _ => 0
  | n + 1, k, term => term + sinTerms x2 n (k + 2) (-(term * x2) / 2 ^ 40 / ((k + 1) * (k + 2)))

/-- 32,768 x sin of `n` / 1,024 of a turn, for `n` from 0 to 256. -/
def quarterSin (n : Nat) : Int :=
  let x : Int := 3141592653589793 * n * 2 ^ 40 / (512 * 1000000000000000)
  divRound (sinTerms (x * x / 2 ^ 40) 8 1 x) (2 ^ 25)

/-- 32,768 x sin of an angle in 1/1,024 turn (log entry 54). -/
def sinOf (n : Nat) : Int :=
  let k := n % 1024
  if k ≤ 256 then quarterSin k else if k ≤ 512 then quarterSin (512 - k) else if k ≤ 768 then -quarterSin (k - 512)
  else -quarterSin (1024 - k)

/-- The bridge supply in mV (R383). -/
def State.vbus (x : Nat) (s : State) : Int :=
  let c := s.motCfg x
  if s.stale c.vbusSet then c.vbusNom else (s.accSet c.vbusSet).dv

/-- The voltage command of a phase in nV (R383): currents in uA, the last factor the sine or minus the cosine of the angle. -/
def phaseVolts (c : MotCfg) (iRef iPrev vel fn vi : Int) : Int :=
  c.rPh * iRef + 40 * c.lPh * (iRef - iPrev) - divRound (c.kE * vel * fn * 6283185) (1000 * 16384 * 32768) + vi

/-- The current trim of a phase, limited to a quarter of the supply. -/
def trimVolts (c : MotCfg) (vbus iRef meas vi : Int) : Int :=
  clampI (-250000 * vbus) (250000 * vbus) (vi + sar (c.kI * c.rPh * (iRef - meas)) 8)

/-- High times of the two half-bridges of a phase, in CLK_MOT cycles (R375). -/
def highTimes (va vbus : Int) : List Nat :=
  let b := 1000000 * vbus
  let d := if b ≤ 0 then 0 else clampI (-(95 * b) / 100) (95 * b / 100) va
  let n := fun (x : Int) => (divRound (1250 * (b + x)) b).toNat
  if b ≤ 0 then [1250, 1250] else [n d, n (-d)]

/-- A stall (R400, R401): homing takes its reference from it. -/
def State.stallFound (x : Nat) (s : State) : State :=
  let a := s.axis x
  let c := s.motCfg x
  let s1 := s.setAx x (fun a => { a with stallRun := 0 })
  let plain := fun (s : State) =>
    let s2 := (s.setAx x (fun a => { a with stalls := satAdd 0xFF a.stalls 1 })).pulse (161 + 4 * x)
    if c.stallAct then s2.haltAxis x .stalled 3 else s2
  match a.queue.head? with
  | some m =>
    match m.kind with
    | .home pos _ h back _ =>
      if a.running && !a.backing && a.stopDec.isNone then
        s1.setAx x (fun a => { a with p := h * 2 ^ 32, v := 0, homed := true, backing := true,
                                      target := if pos then h - (back : Int) else h + back })
      else plain s1
    | _ => plain s1
  | none => plain s1

/-! ### The load angle (R376, R400) -/

/-- A phase current in uA from its sense voltage in uV. -/
def MotCfg.current (c : MotCfg) (mi : Int) : Int := divRound (c.iFs * mi) 250

/-- A phase voltage in nV from the means of its two nodes in uV. -/
def MotCfg.phaseVoltage (c : MotCfg) (mvP mvN : Int) : Int := divRound ((mvP - mvN) * 1000 * c.divMv) 256

/-- The induced voltage of a phase in nV: its measured voltage less R_PH x current and L_PH x the change of current per period. -/
def MotCfg.induced (c : MotCfg) (volts i iPrev : Int) : Int := volts - c.rPh * i - 40 * c.lPh * (i - iPrev)

/-- 2^30 x sin of `u` / 64 degree, for `u` from 0 to 5,760. -/
def sin64 (u : Nat) : Int :=
  let x : Int := 3141592653589793 * u * 2 ^ 40 / (11520 * 1000000000000000)
  divRound (sinTerms (x * x / 2 ^ 40) 8 1 x) (2 ^ 10)

/-- The angle of a vector in the first quadrant in 1/64 degree, rounded down, by halving steps. -/
def quadAngle (x y : Nat) : Nat :=
  searchCode (fun u => decide (u ≤ 5760) && decide ((x : Int) * sin64 u ≤ y * sin64 (5760 - u))) 13 0

/-- The angle of a vector in 1/64 degree, from 0 to 23,039 (log entry 189). -/
def vecAngle (x y : Int) : Nat :=
  let q := quadAngle x.natAbs y.natAbs
  (if 0 ≤ x then (if 0 ≤ y then q else 23040 - q) else if 0 ≤ y then 11520 - q else 11520 + q) % 23040

/-- The load angle in 1/64 electrical degree, within half a turn (R400): the commanded angle less that of the rotor, which lies 90
degrees behind the induced voltage in the direction in which the electrical angle moves (log entry 189). -/
def loadAngleOf (c : MotCfg) (ang : Nat) (vel ea eb : Int) : Int :=
  let forward := decide (0 < vel) != c.dirInv
  let rotor : Int := (vecAngle ea eb : Int) - (if forward then 5760 else -5760)
  let d := ((ang : Int) * 45 / 2 - rotor) % 23040
  if d < 11520 then d else d - 23040

/-- The load angle of a period (R400). -/
def State.loadAngle (x : Nat) (lam : Int) (s : State) : State :=
  let c := s.motCfg x
  let a := s.axis x
  let over_ := c.stallThr != 0 && decide (64 * (c.stallThr : Int) ≤ lam)
  let margin := (clampI 0 254 ((64 * (c.stallThr : Int) - lam) / 64)).toNat
  let s1 := s.setAx x (fun a => { a with lambda := some lam, stallRun := if over_ then a.stallRun + 1 else 0,
                                         margin := if c.stallThr = 0 then a.margin else min a.margin margin })
  if over_ && decide (c.stallN ≤ a.stallRun + 1) then s1.stallFound x else s1

/-- The load angle of a period, where the axis is fast enough for one. A vector of no length has no angle: a free value. -/
def State.estimate (x ang : Nat) (ea eb : Int) (s : State) : State :=
  let c := s.motCfg x
  let a := s.axis x
  if a.vel.natAbs < c.vStallMin || !a.gates then s.setAx x (fun a => { a with lambda := none, stallRun := 0 })
  else if ea = 0 && eb = 0 then
    let r := s.free 16
    r.2.loadAngle x (signed 16 r.1)
  else s.loadAngle x (loadAngleOf c ang a.vel ea eb)

/-- MOT_PWM_PERIOD (R376, R383, R400): the sampled currents trim the voltage command, whose duties the next period takes. -/
def execMotPwmPeriod (t : Nat) (axis : BitVec 2) (sense : MotSense) (s : State) : Host.Outcome State Fault Refusal :=
  let s1 := s.atTime t
  let x := axis.toNat
  let a := s1.axis x
  let c := s1.motCfg x
  if !a.gates then (s1.setAx x (fun a => { a with high := [0, 0, 0, 0], pwmAt := none, lambda := none })).out
  else
    let amp : Int := 1000 * (if a.hold then c.iHold else c.iRun : Nat)
    let ang := ((if c.dirInv then -a.pos else a.pos) % 1024).toNat
    let sn := sinOf ang
    let cs := sinOf (ang + 256)
    let ia := divRound (amp * cs) 32768
    let ib := divRound (amp * sn) 32768
    let ma := c.current sense.miA
    let mb := c.current sense.miB
    let ea := c.induced (c.phaseVoltage sense.mv1 sense.mv2) ma a.iaMeas
    let eb := c.induced (c.phaseVoltage sense.mv3 sense.mv4) mb a.ibMeas
    let vb := s1.vbus x
    let va := phaseVolts c ia a.iaPrev a.vel sn a.viA
    let vc := phaseVolts c ib a.ibPrev a.vel (-cs) a.viB
    let trips := fun (mi : Int) => decide (c.iTrip * 250000 < c.iFs * mi.natAbs)
    let trip := trips sense.miA || trips sense.miB
    let low := !s1.stale c.vbusSet && decide (vb < c.vbusMin)
    let s2 := s1.setAx x (fun a =>
      { a with iaPrev := ia, ibPrev := ib, iaMeas := ma, ibMeas := mb, viA := trimVolts c vb ia ma a.viA,
               viB := trimVolts c vb ib mb a.viB,
               high := highTimes va vb ++ highTimes vc vb, pwmAt := some s1.now, overRun := if trip then a.overRun + 1 else 0,
               vbusLow := if low then some (a.vbusLow.getD s1.now) else none })
    (if trip && decide (1 ≤ a.overRun) then s2.haltAxis x .hardFault 2 else s2.estimate x ang ea eb).out

end Sys2Proof.Machine
end

