-- ==== Sys2Proof/Machine/Registers.lean ====
section
/-! DEFINITION. Reads and writes of BAR0 registers (R7 to R11, R505 to R507, R535, R539, R647, R649). -/

namespace Sys2Proof.Machine

/-- The queue window that an address lies in. -/
def queueOf (a : Nat) : Option Nat := if 0x100000 ≤ a ∧ a < 0x200000 then some ((a - 0x100000) / 128) else none

/-- The host sees the registers of a queue (R486, R487). -/
def qVisible (n : Nat) : Bool := decide (n < 32) || qAccess n != 0

/-! ## Reads -/

/-- A byte of a queue's window, outside Q_POP (R505). -/
def State.queueByte (n o : Nat) (s : State) : Byte :=
  if qVisible n && decide (o < 0x18) then BitVec.ofNat 8 (s.queueReg n (o / 4) / 2 ^ (8 * (o % 4))) else 0

/-- A host read of `len` bytes in a queue's window (R505, R507): the pop, the bytes, and DROPS cleared where both its bytes are
returned. Bytes beyond the window read 0. -/
def State.queueRead (n o len : Nat) (s : State) : List Byte × State :=
  let covers := fun (k : Nat) => decide (o ≤ k) && decide (k < o + len)
  let pops := qAccess n = 2 && (s.q n).consumer.isNone
  let s1 := if covers 0x40 && pops then (s.pop n false true).2 else s
  let word := padTo 64 0 (s1.q n).lastWord
  let bytes := (List.range len).map (fun i =>
    let k := o + i
    if k < 0x40 then s.queueByte n k else if k < 0x80 ∧ pops then word.getD (k - 0x40) 0 else 0)
  (bytes, if covers 0x16 && covers 0x17 && qVisible n then s1.setQ n (fun q => { q with drops := 0 }) else s1)

/-- The accesses that a register outside the queue windows takes (R649): 4 or 8 bytes, aligned to their size. -/
def barFits (a len : Nat) : Bool := (len == 4 || len == 8) && a % len == 0

/-- A host read: of any size in a queue's window (R505), as R649 permits elsewhere, and in BOOT of the identity block only
(R535); any other reads 0. -/
def State.barRead (p a len : Nat) (s : State) : List Byte × State :=
  match queueOf a with
  | some n => if s.mode.mode == .boot then (List.replicate len 0, s) else s.queueRead n (a % 128) len
  | none =>
    if !barFits a len then (List.replicate len 0, s)
    else if len = 8 then (le 4 (s.readWord p a) ++ le 4 (s.readWord p (a + 4)), (s.readClears a).readClears (a + 4))
    else (le 4 (s.readWord p a), s.readClears a)

/-- RC_FIELD_READ (R7, R8). -/
def execRcFieldRead (t : Nat) (port : BitVec 1) (addr : BitVec 24) (len : Nat) (s : State) :
    Host.Outcome State Fault Refusal :=
  let r := (s.atTime t).barRead port.toNat addr.toNat len
  (r.2.emit (.hostRead r.1 false)).out

/-! ## Writes -/

/-- A word of a bit array replaced, for the sources that a rule names (R642). -/
def evWord (has : Nat → Bool) (j v : Nat) (old : BitVec 256) : BitVec 256 :=
  let mask := BitVec.ofNat 256 (mkBits 32 (fun i => has (32 * j + i))) <<< (32 * j)
  (old &&& ~~~mask) ||| ((BitVec.ofNat 256 (v % 2 ^ 32) <<< (32 * j)) &&& mask)

/-- A level source whose condition holds latches when it is put in level mode (R638). R4 shuts no source of the catalogue out of
EV_EDGE. -/
def State.edgeWrite (j v : Nat) (s : State) : State :=
  let s1 := { s with ev := { s.ev with edge := evWord inCatalogue j v s.ev.edge } }
  ((List.range' (32 * j) 32).filter (fun i => s1.ev.raw.getLsbD i && !s1.ev.edge.getLsbD i && !s1.ev.latch.getLsbD i)).foldl
    (fun (s : State) i => s.latchSet i) s1

/-- A write to EV_ROUTE_s: PORT stays 0 in the x16 layout (R642). -/
def State.routeWrite (src v : Nat) (s : State) : State :=
  if isSource s.board.member src then
    let r : Route := { vec := BitVec.ofNat 6 v, toCpu := bit v 8, port := bit v 9 && s.host.split, wake := bit v 10 }
    s.rerouted (fun e => { e with route := sset Route.reset src r e.route })
  else s

/-- A write to a word of the event block (R643). -/
def State.eventWrite (i v : Nat) (s : State) : State :=
  if 8 ≤ i ∧ i < 16 then s.latchWrite (i - 8) (BitVec.ofNat 32 v) 0
  else if 16 ≤ i ∧ i < 24 then s.rerouted (fun e => { e with enable := evWord (isSource s.board.member) (i - 16) v e.enable })
  else if 24 ≤ i ∧ i < 32 then s.edgeWrite (i - 24) v
  else if 256 ≤ i ∧ i < 512 then s.routeWrite (i - 256) v
  else s

/-- A write to a word of a DMA channel's window (R513, R524, R530, R531). INT_EN and VEC take their values before START or ABORT
acts. -/
def State.chanWrite (c i v : Nat) (s : State) : State :=
  match i with
  | 0 =>
    let s1 := s.setChan c (fun x => { x with intEn := bit v 2, vec := BitVec.ofNat 6 (v / 8) })
    if bit v 0 then s1.dmaStart c (bit v 1) else if bit v 1 then s1.dmaAbort c else s1
  | 1 => s.setChan c (fun x => { x with int := x.int && !bit v 12, perr := x.perr && !bit v 13 })
  | 2 => if (s.chan c).state == .idle then s.setChan c (fun x => { x with desc := x.desc / 2 ^ 32 * 2 ^ 32 + v / 32 * 32 }) else s
  | 3 => if (s.chan c).state == .idle then s.setChan c (fun x => { x with desc := v * 2 ^ 32 + x.desc % 2 ^ 32 }) else s
  | 6 => s.dmaKick c
  | _ => s

/-- A write to a word of a function's MSI-X table (R533, R640): an address is aligned to 4, and of the vector control only the mask
bit is implemented, as the PCIe base specification has them (PRESUMED: log entry 7). -/
def State.msixWrite (p i v : Nat) (s : State) : State :=
  let k := i / 4
  let e := sget MsixEntry.reset k (s.port p).msix
  let put := fun (e : MsixEntry) => s.setPort p (fun h => { h with msix := sset MsixEntry.reset k e h.msix })
  if 256 ≤ i then s
  else
    match i % 4 with
    | 0 => put { e with addr := BitVec.ofNat 64 (e.addr.toNat / 2 ^ 32 * 2 ^ 32 + v / 4 * 4) }
    | 1 => put { e with addr := BitVec.ofNat 64 (v * 2 ^ 32 + e.addr.toNat % 2 ^ 32) }
    | 2 => put { e with data := BitVec.ofNat 32 v }
    | _ => if bit v 0 then put { e with ctrl := 1 } else if e.ctrl.getLsbD 0 then s.unmask p k else s

/-- A 32-bit write at an aligned address outside the queue windows; an address with no writable field ignores it. -/
def State.writeWord (p a v : Nat) (s : State) : State :=
  if 0x10000 ≤ a ∧ a < 0x14000 then (if a % 64 = 0 then s.doorbell p ((a - 0x10000) / 64) else s)
  else if 0x200000 ≤ a ∧ a < 0x204000 then s.chanWrite ((a - 0x200000) / 256) (a / 4 % 64) v
  else if a = 0x204008 then (if bit v 0 then s.dmaErrClear else s)
  else if 0x300000 ≤ a ∧ a < 0x310000 then s.eventWrite ((a - 0x300000) / 4) v
  else if 0x600000 ≤ a ∧ a < 0x601000 then s.msixWrite p ((a - 0x600000) / 4) v
  else s

/-- A host write to bytes of a queue's window (R487, R490, R507): W1C bits of Q_STAT, and the bytes of Q_PUSH. -/
def State.queueWrite (n o : Nat) (bs : List Byte) (s : State) : State :=
  let at_ := fun (k : Nat) => if o ≤ k then bs.getD (k - o) 0 else 0
  let st := (at_ 0x14).toNat
  let s1 := if qAccess n = 0 then s else s.setQ n (fun q =>
    { q with underrun := q.underrun && !bit st 2, overflow := q.overflow && !bit st 3, perr := q.perr && !bit st 4 })
  if qAccess n = 1 then
    s1.pushSoft n (((List.range' 0x18 8).filter (fun k => decide (o ≤ k) && decide (k < o + bs.length))).map at_)
  else s1

/-- A host write of up to 8 bytes (R535, R490, R649). -/
def State.barWrite (p a len : Nat) (data : BitVec 64) (s : State) : State :=
  if s.mode.mode == .boot then s
  else
    match queueOf a with
    | some n => s.queueWrite n (a % 128) (le (min len (128 - a % 128)) data.toNat)
    | none =>
      if !barFits a len then s
      else
        let s1 := s.writeWord p a (data.toNat % 2 ^ 32)
        if len = 8 then s1.writeWord p (a + 4) (data.toNat / 2 ^ 32) else s1

/-- REGISTER_WRITE (R7, R10, R649). -/
def execRegisterWrite (t : Nat) (port : BitVec 1) (addr : BitVec 24) (len : Nat) (data : BitVec 64) (s : State) :
    Host.Outcome State Fault Refusal :=
  ((s.atTime t).barWrite port.toNat addr.toNat len data).dmaOut

end Sys2Proof.Machine
end

