-- ==== Sys2Proof/Machine/Dispatch.lean ====
section
/-! DEFINITION. Which meaning each command has. -/

namespace Sys2Proof.Machine

/-- The effect of a command on everything but the queue. -/
def exec (i : Instr) (s : State) : Host.Outcome State Fault Refusal :=
  match i with
  | .devIdentify h => Sys2Proof.Machine.execDevIdentify h s
  | .setMode h mode when target => Sys2Proof.Machine.execSetMode h mode when target s
  | .syncApply h when target => Sys2Proof.Machine.execSyncApply h when target s
  | .devReset h kind => Sys2Proof.Machine.execDevReset h kind s
  | .quiesce h dmaMode timeout => Sys2Proof.Machine.execQuiesce h dmaMode timeout s
  | .mbTakeover h => Sys2Proof.Machine.execMbTakeover h s
  | .mbGiveback h port => Sys2Proof.Machine.execMbGiveback h port s
  | .mbAbort h context seq => Sys2Proof.Machine.execMbAbort h context seq s
  | .mbBufSet h window offset size => Sys2Proof.Machine.execMbBufSet h window offset size s
  | .cfgRead h table copy index => Sys2Proof.Machine.execCfgRead h table copy index s
  | .resRead h => Sys2Proof.Machine.execResRead h s
  | .cfgProfile h profile => Sys2Proof.Machine.execCfgProfile h profile s
  | .patBankStage h bank mode lsLen repLen nrep blLen ports => Sys2Proof.Machine.execPatBankStage h bank mode lsLen repLen nrep blLen ports s
  | .patSelectStage h ports bank drive => Sys2Proof.Machine.execPatSelectStage h ports bank drive s
  | .afeStage h port range => Sys2Proof.Machine.execAfeStage h port range s
  | .tapMapStage h firstPort count => Sys2Proof.Machine.execTapMapStage h firstPort count s
  | .tapClockStage h die freq => Sys2Proof.Machine.execTapClockStage h die freq s
  | .portIsolate h port => Sys2Proof.Machine.execPortIsolate h port s
  | .portSwap h port => Sys2Proof.Machine.execPortSwap h port s
  | .portQualify h port bank pwrSettle qualLines => Sys2Proof.Machine.execPortQualify h port bank pwrSettle qualLines s
  | .portRelease h port => Sys2Proof.Machine.execPortRelease h port s
  | .afeFgCal h dies => Sys2Proof.Machine.execAfeFgCal h dies s
  | .afeTrimSave h => Sys2Proof.Machine.execAfeTrimSave h s
  | .afeResidRead h die window offset => Sys2Proof.Machine.execAfeResidRead h die window offset s
  | .portStatusRead h port => Sys2Proof.Machine.execPortStatusRead h port s
  | .ltSrcStage h src flags followers filtEnc filtSheet chkTol div genPeriod flushPeriod => Sys2Proof.Machine.execLtSrcStage h src flags followers filtEnc filtSheet chkTol div genPeriod flushPeriod s
  | .ltStrobeStage h => Sys2Proof.Machine.execLtStrobeStage h s
  | .ltPageStage h => Sys2Proof.Machine.execLtPageStage h s
  | .ltPaceStage h hwm lwm takeup => Sys2Proof.Machine.execLtPaceStage h hwm lwm takeup s
  | .ioAssignStage h enc1 fev15 fevMask rejMin rejDist rejWidth => Sys2Proof.Machine.execIoAssignStage h enc1 fev15 fevMask rejMin rejDist rejWidth s
  | .shdSetLoad h set window offset => Sys2Proof.Machine.execShdSetLoad h set window offset s
  | .shdSetPatch h set window tags offset nwords => Sys2Proof.Machine.execShdSetPatch h set window tags offset nwords s
  | .shdSetClear h set => Sys2Proof.Machine.execShdSetClear h set s
  | .shdSetDiscard h => Sys2Proof.Machine.execShdSetDiscard h s
  | .shdSetRead h set window copy offset => Sys2Proof.Machine.execShdSetRead h set window copy offset s
  | .shdCalibrate h set tileAuto settleMs ports targetRed targetGrn targetBlu targetNir defLo defHi darkMax => Sys2Proof.Machine.execShdCalibrate h set tileAuto settleMs ports targetRed targetGrn targetBlu targetNir defLo defHi darkMax s
  | .shdCfgStage h => Sys2Proof.Machine.execShdCfgStage h s
  | .linStage h line => Sys2Proof.Machine.execLinStage h line s
  | .shdQualityRead h window offset => Sys2Proof.Machine.execShdQualityRead h window offset s
  | .alnTableStage h stagger firstPort count => Sys2Proof.Machine.execAlnTableStage h stagger firstPort count s
  | .xformStage h => Sys2Proof.Machine.execXformStage h s
  | .productStage h pf chMask firstCol count queue => Sys2Proof.Machine.execProductStage h pf chMask firstCol count queue s
  | .alnCalibrate h ports nbars refPort window xRef offset timeout => Sys2Proof.Machine.execAlnCalibrate h ports nbars refPort window xRef offset timeout s
  | .seamQualityRead h window offset => Sys2Proof.Machine.execSeamQualityRead h window offset s
  | .svJobStart h jobId en slots refWindow width height qSieve qTongs qLadle qPreview qCrop qSummary x0 => Sys2Proof.Machine.execSvJobStart h jobId en slots refWindow width height qSieve qTongs qLadle qPreview qCrop qSummary x0 s
  | .svJobEnd h => Sys2Proof.Machine.execSvJobEnd h s
  | .svRefSubmit h window ncrops offset length pageSeq => Sys2Proof.Machine.execSvRefSubmit h window ncrops offset length pageSeq s
  | .svChainSign h => Sys2Proof.Machine.execSvChainSign h s
  | .svSieveStage h nclass nregion flagMad => Sys2Proof.Machine.execSvSieveStage h nclass nregion flagMad s
  | .svTongsStage h nwin ngroup => Sys2Proof.Machine.execSvTongsStage h nwin ngroup s
  | .svLadleStage h nstrip => Sys2Proof.Machine.execSvLadleStage h nstrip s
  | .svPreviewStage h colour pvCh qt => Sys2Proof.Machine.execSvPreviewStage h colour pvCh qt s
  | .svCropStage h ncrop => Sys2Proof.Machine.execSvCropStage h ncrop s
  | .sklCfgStage h en line latLimit slkEn lanes => Sys2Proof.Machine.execSklCfgStage h en line latLimit slkEn lanes s
  | .sklMapStage h first count => Sys2Proof.Machine.execSklMapStage h first count s
  | .sklProfileStage h first count => Sys2Proof.Machine.execSklProfileStage h first count s
  | .sklClassStage h first count => Sys2Proof.Machine.execSklClassStage h first count s
  | .sklFevStage h => Sys2Proof.Machine.execSklFevStage h s
  | .sklFlagsRead h window offset => Sys2Proof.Machine.execSklFlagsRead h window offset s
  | .ilmRowStage h row => Sys2Proof.Machine.execIlmRowStage h row s
  | .ilmLevelStage h => Sys2Proof.Machine.execIlmLevelStage h s
  | .ilmTcompStage h row => Sys2Proof.Machine.execIlmTcompStage h row s
  | .lswStage h chain discard nbits => Sys2Proof.Machine.execLswStage h chain discard nbits s
  | .lampTest h rows testCode testNs lines when vLamp vOfs => Sys2Proof.Machine.execLampTest h rows testCode testNs lines when vLamp vOfs s
  | .ilmLampClear h row zone lamp => Sys2Proof.Machine.execIlmLampClear h row zone lamp s
  | .ilmRowClear h row => Sys2Proof.Machine.execIlmRowClear h row s
  | .motAxisStage h axis => Sys2Proof.Machine.execMotAxisStage h axis s
  | .motRampStage h axis first count => Sys2Proof.Machine.execMotRampStage h axis first count s
  | .motTileStage h => Sys2Proof.Machine.execMotTileStage h s
  | .motMove h axis rel target vMax acc dec => Sys2Proof.Machine.execMotMove h axis rel target vMax acc dec s
  | .motTable h axis first last => Sys2Proof.Machine.execMotTable h axis first last s
  | .motJog h axis vMax acc => Sys2Proof.Machine.execMotJog h axis vMax acc s
  | .motCoord h targetB targetC vMax acc dec => Sys2Proof.Machine.execMotCoord h targetB targetC vMax acc dec s
  | .motFollow h axis => Sys2Proof.Machine.execMotFollow h axis s
  | .motHome h axis dir vHome homePos backoff homeMax => Sys2Proof.Machine.execMotHome h axis dir vHome homePos backoff homeMax s
  | .motAdjust h axis vMax acc dec => Sys2Proof.Machine.execMotAdjust h axis vMax acc dec s
  | .motStop h axis flush => Sys2Proof.Machine.execMotStop h axis flush s
  | .motFaultClear h axis => Sys2Proof.Machine.execMotFaultClear h axis s
  | .madcCfgStage h mainsSrc mult calPeriod => Sys2Proof.Machine.execMadcCfgStage h mainsSrc mult calPeriod s
  | .madcSeqStage h len => Sys2Proof.Machine.execMadcSeqStage h len s
  | .madcSetStage h first count curves => Sys2Proof.Machine.execMadcSetStage h first count curves s
  | .madcCal h => Sys2Proof.Machine.execMadcCal h s
  | .madcInject h ch kind settle set => Sys2Proof.Machine.execMadcInject h ch kind settle set s
  | .madcTest h conv => Sys2Proof.Machine.execMadcTest h conv s
  | .madcAccRead h window clear offset mask maskHi => Sys2Proof.Machine.execMadcAccRead h window clear offset mask maskHi s
  | .simmerCfgStage h tTarget theta tRelease tHold dwell ceilMin bucket => Sys2Proof.Machine.execSimmerCfgStage h tTarget theta tRelease tHold dwell ceilMin bucket s
  | .simmerPowerLimit h pBoard => Sys2Proof.Machine.execSimmerPowerLimit h pBoard s
  | .thermRead h window offset => Sys2Proof.Machine.execThermRead h window offset s
  | .dramCfgStage h fields layout protEighths scrubHours ageLimit => Sys2Proof.Machine.execDramCfgStage h fields layout protEighths scrubHours ageLimit s
  | .winCreate h window part size => Sys2Proof.Machine.execWinCreate h window part size s
  | .winMap h window bar2Off => Sys2Proof.Machine.execWinMap h window bar2Off s
  | .winUnmap h window => Sys2Proof.Machine.execWinUnmap h window s
  | .winFree h window => Sys2Proof.Machine.execWinFree h window s
  | .ringSet h window offset size qDesc => Sys2Proof.Machine.execRingSet h window offset size qDesc s
  | .dramLogRead h window clear offset => Sys2Proof.Machine.execDramLogRead h window clear offset s
  | .dramTrain h => Sys2Proof.Machine.execDramTrain h s
  | .dramChRetire h ch => Sys2Proof.Machine.execDramChRetire h ch s
  | .dramChTest h ch passes => Sys2Proof.Machine.execDramChTest h ch passes s
  | .dramChRestore h ch => Sys2Proof.Machine.execDramChRestore h ch s
  | .qBind h queue en flags limit wm => Sys2Proof.Machine.execQBind h queue en flags limit wm s
  | .qFlush h queue => Sys2Proof.Machine.execQFlush h queue s
  | .dmaBind h channel window queue port => Sys2Proof.Machine.execDmaBind h channel window queue port s
  | .pageRelease h firstSeq => Sys2Proof.Machine.execPageRelease h firstSeq s
  | .secAttest h nonce window offset => Sys2Proof.Machine.execSecAttest h nonce window offset s
  | .secOwnerEnrol h => Sys2Proof.Machine.execSecOwnerEnrol h s
  | .secImageWrite h slot window offset length => Sys2Proof.Machine.execSecImageWrite h slot window offset length s
  | .secLifecycle h target => Sys2Proof.Machine.execSecLifecycle h target s
  | .secIdentityGen h => Sys2Proof.Machine.execSecIdentityGen h s
  | .secDebugUnlock h => Sys2Proof.Machine.execSecDebugUnlock h s
  | .diagTapStage h port queue => Sys2Proof.Machine.execDiagTapStage h port queue s
  | .diagSvBypass h mask => Sys2Proof.Machine.execDiagSvBypass h mask s
  | .diagPattern h pattern lines => Sys2Proof.Machine.execDiagPattern h pattern lines s
  | .diagSelftest h tests => Sys2Proof.Machine.execDiagSelftest h tests s
  | .mbDoorbell t port n => Sys2Proof.Machine.execMbDoorbell t port n s
  | .mbSweep t => Sys2Proof.Machine.execMbSweep t s
  | .completionPush t n => Sys2Proof.Machine.execCompletionPush t n s
  | .qPush t q data be => Sys2Proof.Machine.execQPush t q data be s
  | .qPop t q len perr => Sys2Proof.Machine.execQPop t q len perr s
  | .rcFieldRead t port addr len => Sys2Proof.Machine.execRcFieldRead t port addr len s
  | .registerWrite t port addr len data => Sys2Proof.Machine.execRegisterWrite t port addr len data s
  | .evLatchWrite t j data resets => Sys2Proof.Machine.execEvLatchWrite t j data resets s
  | .msixUnmask t port vec => Sys2Proof.Machine.execMsixUnmask t port vec s
  | .dmaStart t c abortToo => Sys2Proof.Machine.execDmaStart t c abortToo s
  | .dmaAbort t c => Sys2Proof.Machine.execDmaAbort t c s
  | .chainKick t c => Sys2Proof.Machine.execChainKick t c s
  | .dmaErrClear t => Sys2Proof.Machine.execDmaErrClear t s
  | .dmaDescFetched t c desc => Sys2Proof.Machine.execDmaDescFetched t c desc s
  | .dmaBurstDone t c data perr => Sys2Proof.Machine.execDmaBurstDone t c data perr s
  | .dmaReadbackDone t c => Sys2Proof.Machine.execDmaReadbackDone t c s
  | .dmaLinkRereadDone t c link => Sys2Proof.Machine.execDmaLinkRereadDone t c link s
  | .dmaQueueData t c perr => Sys2Proof.Machine.execDmaQueueData t c perr s
  | .busError t kind port addr => Sys2Proof.Machine.execBusError t kind port addr s
  | .bar2Read t port addr len => Sys2Proof.Machine.execBar2Read t port addr len s
  | .bar2Write t port addr data => Sys2Proof.Machine.execBar2Write t port addr data s
  | .perstNAssert t port => Sys2Proof.Machine.execPerstNAssert t port s
  | .perstNRelease t port => Sys2Proof.Machine.execPerstNRelease t port s
  | .linkUp t port width speed => Sys2Proof.Machine.execLinkUp t port width speed s
  | .linkLoss t port => Sys2Proof.Machine.execLinkLoss t port s
  | .functionLevelReset t port => Sys2Proof.Machine.execFunctionLevelReset t port s
  | .hotReset t port => Sys2Proof.Machine.execHotReset t port s
  | .d3hotEntry t port => Sys2Proof.Machine.execD3hotEntry t port s
  | .powerOnReset t => Sys2Proof.Machine.execPowerOnReset t s
  | .porstNAssert t => Sys2Proof.Machine.execPorstNAssert t s
  | .porstNRelease t split uzsId => Sys2Proof.Machine.execPorstNRelease t split uzsId s
  | .sysrstNAssert t => Sys2Proof.Machine.execSysrstNAssert t s
  | .sysrstNRelease t => Sys2Proof.Machine.execSysrstNRelease t s
  | .coreBrownout t => Sys2Proof.Machine.execCoreBrownout t s
  | .sysclkLoss t => Sys2Proof.Machine.execSysclkLoss t s
  | .resetEnd t => Sys2Proof.Machine.execResetEnd t s
  | .sramWipeDone t ok => Sys2Proof.Machine.execSramWipeDone t ok s
  | .feDieReset t die => Sys2Proof.Machine.execFeDieReset t die s
  | .vddNvLow t => Sys2Proof.Machine.execVddNvLow t s
  | .bootImageVerified t hdr sigOk bodyHash => Sys2Proof.Machine.execBootImageVerified t hdr sigOk bodyHash s
  | .nvMount t => Sys2Proof.Machine.execNvMount t s
  | .dramTrainingDone t chOk => Sys2Proof.Machine.execDramTrainingDone t chOk s
  | .dramWipeDone t => Sys2Proof.Machine.execDramWipeDone t s
  | .bootExit t powerOk => Sys2Proof.Machine.execBootExit t powerOk s
  | .aonXtalSwitch t => Sys2Proof.Machine.execAonXtalSwitch t s
  | .aonXtalLoss t => Sys2Proof.Machine.execAonXtalLoss t s
  | .oscCompUpdate t => Sys2Proof.Machine.execOscCompUpdate t s
  | .regionCompare t => Sys2Proof.Machine.execRegionCompare t s
  | .modeTransitionDone t => Sys2Proof.Machine.execModeTransitionDone t s
  | .scrubComplete t => Sys2Proof.Machine.execScrubComplete t s
  | .encEdge t enc a b => Sys2Proof.Machine.execEncEdge t enc a b s
  | .encIndex t enc => Sys2Proof.Machine.execEncIndex t enc s
  | .sheetEdge t n high => Sys2Proof.Machine.execSheetEdge t n high s
  | .generatorPeriod t => Sys2Proof.Machine.execGeneratorPeriod t s
  | .interpTrigger t => Sys2Proof.Machine.execInterpTrigger t s
  | .pendingTriggerIssue t => Sys2Proof.Machine.execPendingTriggerIssue t s
  | .flushTrigger t => Sys2Proof.Machine.execFlushTrigger t s
  | .uzsLineSampled t => Sys2Proof.Machine.execUzsLineSampled t s
  | .uzsLineStart t => Sys2Proof.Machine.execUzsLineStart t s
  | .uzsFrameRx t frame => Sys2Proof.Machine.execUzsFrameRx t frame s
  | .uzsSlotRx t j slot => Sys2Proof.Machine.execUzsSlotRx t j slot s
  | .uzsClkTimeout t => Sys2Proof.Machine.execUzsClkTimeout t s
  | .feProgramStart t die => Sys2Proof.Machine.execFeProgramStart t die s
  | .afeSlotSample t port input slot sv sr overRange checks => Sys2Proof.Machine.execAfeSlotSample t port input slot sv sr overRange checks s
  | .feProgramEnd t die => Sys2Proof.Machine.execFeProgramEnd t die s
  | .handoverCompare t die spareMean chanMean => Sys2Proof.Machine.execHandoverCompare t die spareMean chanMean s
  | .spareSubstitution t die => Sys2Proof.Machine.execSpareSubstitution t die s
  | .bgCalStepStart t die => Sys2Proof.Machine.execBgCalStepStart t die s
  | .bgMeasurementEnd t die result => Sys2Proof.Machine.execBgMeasurementEnd t die result s
  | .trimUpdate t => Sys2Proof.Machine.execTrimUpdate t s
  | .trimSaveHourly t => Sys2Proof.Machine.execTrimSaveHourly t s
  | .presFilterChange t port present => Sys2Proof.Machine.execPresFilterChange t port present s
  | .swapPowerOff t port => Sys2Proof.Machine.execSwapPowerOff t port s
  | .swapOutputRelease t port => Sys2Proof.Machine.execSwapOutputRelease t port s
  | .qualifySettleEnd t port => Sys2Proof.Machine.execQualifySettleEnd t port s
  | .qualificationDone t port => Sys2Proof.Machine.execQualificationDone t port s
  | .zoneTempUpdate t => Sys2Proof.Machine.execZoneTempUpdate t s
  | .shdPatrolRead t slot word bitsBad => Sys2Proof.Machine.execShdPatrolRead t slot word bitsBad s
  | .sklGroupEval t group entryNs => Sys2Proof.Machine.execSklGroupEval t group entryNs s
  | .fastevStretchEnd t pin => Sys2Proof.Machine.execFastevStretchEnd t pin s
  | .slkFrameStart t => Sys2Proof.Machine.execSlkFrameStart t s
  | .stitchedLineComplete t late poison => Sys2Proof.Machine.execStitchedLineComplete t late poison s
  | .rejectOutPulse t => Sys2Proof.Machine.execRejectOutPulse t s
  | .rejectOutEnd t => Sys2Proof.Machine.execRejectOutEnd t s
  | .refDecodeDone t => Sys2Proof.Machine.execRefDecodeDone t s
  | .serviceUnitComplete t unit poison => Sys2Proof.Machine.execServiceUnitComplete t unit poison s
  | .pageSummaryPush t => Sys2Proof.Machine.execPageSummaryPush t s
  | .ilmRegStart t row => Sys2Proof.Machine.execIlmRegStart t row s
  | .lstbRise t row => Sys2Proof.Machine.execLstbRise t row s
  | .lstbFall t row mean => Sys2Proof.Machine.execLstbFall t row mean s
  | .ilmOvOcDetect t row vfb current => Sys2Proof.Machine.execIlmOvOcDetect t row vfb current s
  | .ilmTcompUpdate t => Sys2Proof.Machine.execIlmTcompUpdate t s
  | .ilmPowerUpdate t => Sys2Proof.Machine.execIlmPowerUpdate t s
  | .lswFrameLatch t chain ret => Sys2Proof.Machine.execLswFrameLatch t chain ret s
  | .motPwmPeriod t axis sense => Sys2Proof.Machine.execMotPwmPeriod t axis sense s
  | .motRampTick t => Sys2Proof.Machine.execMotRampTick t s
  | .holdDelayEnd t axis => Sys2Proof.Machine.execHoldDelayEnd t axis s
  | .motFltInput t axis low => Sys2Proof.Machine.execMotFltInput t axis low s
  | .stepInEdge t axis rising dirHigh => Sys2Proof.Machine.execStepInEdge t axis rising dirHigh s
  | .vbusLowTimeout t axis => Sys2Proof.Machine.execVbusLowTimeout t axis s
  | .madcConversionEnd t conv raw outOfRange => Sys2Proof.Machine.execMadcConversionEnd t conv raw outOfRange s
  | .madcCalibrationEnd t conv lo hi sarLo sarHi => Sys2Proof.Machine.execMadcCalibrationEnd t conv lo hi sarLo sarHi s
  | .madcCalPeriodic t => Sys2Proof.Machine.execMadcCalPeriodic t s
  | .madcConvTimeout t conv => Sys2Proof.Machine.execMadcConvTimeout t conv s
  | .mainsRefCrossing t ticks => Sys2Proof.Machine.execMainsRefCrossing t ticks s
  | .thermSample t readings => Sys2Proof.Machine.execThermSample t readings s
  | .simmerRefill t pDev pMand => Sys2Proof.Machine.execSimmerRefill t pDev pMand s
  | .simmerCeilingStep t => Sys2Proof.Machine.execSimmerCeilingStep t s
  | .simmerCapRaise t => Sys2Proof.Machine.execSimmerCapRaise t s
  | .dramCommandSlot t ch => Sys2Proof.Machine.execDramCommandSlot t ch s
  | .dramReadReturn t ch err => Sys2Proof.Machine.execDramReadReturn t ch err s
  | .dramAccessTimeout t ch => Sys2Proof.Machine.execDramAccessTimeout t ch s
  | .refreshUnitDue t ch => Sys2Proof.Machine.execRefreshUnitDue t ch s
  | .mr4Read t ch cls => Sys2Proof.Machine.execMr4Read t ch cls s
  | .refreshClassStep t ch => Sys2Proof.Machine.execRefreshClassStep t ch s
  | .requestPromote t => Sys2Proof.Machine.execRequestPromote t s
  | .dqsOscRun t => Sys2Proof.Machine.execDqsOscRun t s
  | .dramScrubStep t err => Sys2Proof.Machine.execDramScrubStep t err s
  | .dramRebuildStep t => Sys2Proof.Machine.execDramRebuildStep t s
  | .dramPortWindow t => Sys2Proof.Machine.execDramPortWindow t s
  | .hwPushRetry t q => Sys2Proof.Machine.execHwPushRetry t q s
  | .cellPatrol t cell ok => Sys2Proof.Machine.execCellPatrol t cell ok s
  | .lockstepMismatch t pair => Sys2Proof.Machine.execLockstepMismatch t pair s
  | .pairRestartDone t pair ok => Sys2Proof.Machine.execPairRestartDone t pair ok s
  | .standbySelftest t ok => Sys2Proof.Machine.execStandbySelftest t ok s
  | .heartbeatTick t => Sys2Proof.Machine.execHeartbeatTick t s
  | .nvLineProgramDone t => Sys2Proof.Machine.execNvLineProgramDone t s
  | .trivetSecurityReset t => Sys2Proof.Machine.execTrivetSecurityReset t s
  | .entropyHealthFail t => Sys2Proof.Machine.execEntropyHealthFail t s
  | .securityAccessViolation t => Sys2Proof.Machine.execSecurityAccessViolation t s
  | .jtagInstruction t scan => Sys2Proof.Machine.execJtagInstruction t scan s
  | .devResetExpiry t => Sys2Proof.Machine.execDevResetExpiry t s
  | .prsntNChange t port high => Sys2Proof.Machine.execPrsntNChange t port high s
  | .quiesceTimeout t port => Sys2Proof.Machine.execQuiesceTimeout t port s
  | .trivetRequestDone t ok out => Sys2Proof.Machine.execTrivetRequestDone t ok out s
  | .afeFgCalDone t results => Sys2Proof.Machine.execAfeFgCalDone t results s
  | .selftestTestDone t result durMs detail => Sys2Proof.Machine.execSelftestTestDone t result durMs detail s
  | .shdCalSettleEnd t => Sys2Proof.Machine.execShdCalSettleEnd t s
  | .alnCalibrateTimeout t => Sys2Proof.Machine.execAlnCalibrateTimeout t s
  | .vddNvRecover t => Sys2Proof.Machine.execVddNvRecover t s
  | .nvWriteWaitTimeout t => Sys2Proof.Machine.execNvWriteWaitTimeout t s
  | .vEstTimeout t => Sys2Proof.Machine.execVEstTimeout t s
  | .feDieResetEnd t die => Sys2Proof.Machine.execFeDieResetEnd t die s
  | .lampTestPulse t row current voltage => Sys2Proof.Machine.execLampTestPulse t row current voltage s
  | .lswShiftDone t chain => Sys2Proof.Machine.execLswShiftDone t chain s
  | .norWriteDone t readBackOk => Sys2Proof.Machine.execNorWriteDone t readBackOk s

end Sys2Proof.Machine
end

