-- ==== Sys2Proof/Machine/Pins.lean ====
section
/-! DEFINITION. What the balls show (chapter "Package, signals and electrical characteristics", R57, R58, R61 to R63, R66, R72 to R76,
R126, R129, R339, and the boundary register of R634 and R635). A ball's drive follows from the state at its hour. -/

namespace Sys2Proof.Machine

/-- How the device drives a ball: low, high, high impedance (an input, a released open-drain output, a transmitter in electrical idle),
or by the traffic of the interface it belongs to. -/
inductive Drive where
  | low | high | z | live
  deriving DecidableEq, Repr

/-- A driven level. -/
def Drive.of (b : Bool) : Drive := if b then .high else .low

/-- An open-drain output. -/
def Drive.pull (low : Bool) : Drive := if low then .low else .z

/-! ## Half-bridges (R74 to R76, R375) -/

/-- High side and low side at cycle `c` of a period of `period` cycles, the high side being high from `start` for `n`: the low side is
its complement, low for `dead` more on both sides. -/
def halfBridge (period start n dead c : Nat) : Bool × Bool :=
  (decide (start ≤ c) && decide (c < start + n),
   decide (c < period) && (n == 0 || decide (c + dead < start) || decide (start + n + dead ≤ c)))

/-- A motion gate: high times centred in the period of 2,500 cycles of 10 ns (log entry 187). -/
def State.motGate (x n : Nat) (high : Bool) (s : State) : Bool :=
  let a := s.axis x
  match a.pwmAt with
  | some t =>
    let k := a.high.getD (n - 1) 0
    let g := halfBridge 2500 ((2500 - k) / 2) k (s.motCfg x).dead ((s.now - t) / 10)
    a.gates && (if high then g.1 else g.2)
  | none => false

/-- A lamp regulator's gate (R74, R350, R351): it switches at F_SW from the start of a slot to its end. The position in the period is
in millionths of it, of which the first are the dead time; DEAD counts 10 ns, F_SW kHz. The high time is the current loop's. -/
def State.lampGate (w : Nat) (high : Bool) (s : State) : Bool :=
  let c := rowCfg s.active w
  let at_ := s.now * c.fSw
  let dead := 10 * c.dead * c.fSw
  let g := halfBridge 1000000 dead (min (Config.lampHigh w (at_ / 1000000)) (1000000 - dead)) dead (at_ % 1000000)
  ((s.row w).run.isSome || decide (s.now < (s.row w).regTo)) && s.mayLight w && (if high then g.1 else g.2)

/-! ## Pattern outputs (R57, R66, R72, R126, R129) -/

/-- An entry of a program, by quarter-slot. After the blanking section its last entry holds. -/
def PatProgram.entry (q : PatProgram) (i : Nat) : BitVec 16 :=
  if i < q.ls.length then q.ls.getD i 0
  else if i < q.ls.length + q.rep.length * q.nrep then q.rep.getD ((i - q.ls.length) % q.rep.length) 0
  else q.bl.getD (min (i - q.ls.length - q.rep.length * q.nrep) (q.bl.length - 1)) 0

/-- The OUT value at a port's pattern generator: of the quarter-slot in progress, or the last one's. -/
def State.patOut (p : Nat) (s : State) : BitVec 8 :=
  let k := p / 12
  let d := s.die k
  if d.running then
    let tabs := match d.line.bind (fun q => s.lineRec q) with | some r => r.tabs | none => s.active
    ((progOf s.banks tabs p).entry ((s.now - d.progAt) * tapClkOf tabs k / 250000)).setWidth 8
  else (s.seg p).out

/-- A pattern output: high impedance with its pull-down while the port is without power (R72), low in the power-down actions of
R157. -/
def State.patBall (p n : Nat) (s : State) : Drive :=
  let x := s.seg p
  if !s.hasSeg p || x.outHiZ || !(s.die (p / 12)).powered then .z else if x.outLow then .low else .of ((s.patOut p).getLsbD n)

/-- The high level of a die's pattern outputs in mV: VDDIO_PAT_k as found at its power-up (R66). -/
def State.patVolts (k : Nat) (s : State) : Nat := if (s.die k).io33 then 3300 else 1800

/-! ## Balls -/

/-- HOST_ALERT_N is low (R61): DEGRADED, or a valid region at or above WARN. -/
def State.hostAlert (s : State) : Bool := s.degraded || s.therm.warn

/-- Stockpot has configured the group: outside reset and BOOT (R57). -/
def State.configured (s : State) : Bool := !(s.mode.mode == .boot)

/-- Trivet has started (R57, R117). -/
def BootPhase.trivetUp : BootPhase → Bool
  | .inReset | .sramWipe | .held => false
  | _ => true

/-- DRAM training has begun (R117). -/
def BootPhase.dramUp : BootPhase → Bool
  | .released | .dramWipe | .restore | .done => true
  | _ => false

/-- The drive of a ball in its function (R57). An input is at high impedance. -/
def State.function (b : Ball) (s : State) : Drive :=
  match b with
  | .pat p n => s.patBall p n
  | .ppwrEn p => .of (s.seg p).powered
  | .lp5x _ _ | .zq _ => .live
  | .dramResetN => .of s.rst.phase.dramUp
  | .pcieTx _ => if s.configured || s.rst.phase.linksAllowed then .live else .z
  | .clkreqN _ | .wakeN _ => if s.rst.phase.linksAllowed then .live else .z
  | .xspiCsN _ => if s.rst.phase.trivetUp then .live else .high
  | .xspiCk | .xspiDq _ | .xspiDqs => if s.rst.phase.trivetUp then .live else .z
  | .xspiResetN => .of s.rst.phase.trivetUp
  | .mg x n high => .of (s.motGate x n high)
  | .lrGh w => .of (s.lampGate w true)
  | .lrGl w => .of (s.lampGate w false)
  | .lstb w => .of (match (s.row w).run with | some x => x.lit && s.mayLight w | none => false)
  | .lswClk _ | .lswDat _ | .lswLat _ => if s.configured then .live else .low
  | .fastev n => .of (s.fevBall n)
  | .slk l => if s.configured && s.skl.slkLive && decide (l < s.active.sklCfg.lanes) then .live else .z
  | .uzsClk | .uzsLine => if s.configured && s.rst.uzsId == 0 then .live else .z
  | .uzsDat => if s.configured then .live else .z
  | .dbgTx => if s.sec.debugOpen then .live else .high
  | .hostAlertN => .pull s.hostAlert
  | .resetOutN => .pull (!s.rst.resetOut)
  | .thermtripN => .pull s.rst.thermTrip
  | .xtalOut => .live
  | _ => .z

/-- DBG_RX is heard (R83, R606): only while the debug port is open. -/
def State.dbgHeard (s : State) : Bool := s.sec.debugOpen

/-- What a boundary cell drives: what a scan has loaded, else what it has held from the start (log entry 186). -/
def State.cell (b : Ball) (n : Nat) (s : State) : Bool :=
  match s.rst.bsr.find? (fun c => c.1 == b) with
  | some c => c.2
  | none => Config.cellAtStart n

/-- The drive of a ball, `n` being the place of its boundary cell: within the compliance-enable condition EXTEST and CLAMP drive it from
that cell, and HIGHZ releases it (R634, R635). -/
def State.drive (b : Ball) (n : Nat) (s : State) : Drive :=
  if s.ballsScanned && ballCells b == .driveCapture then
    if s.rst.jtagIr == .highz then .z else .of (s.cell b n)
  else s.function b

/-- What a boundary cell captures of a ball that the device drives to a level (R635). -/
def State.captured (b : Ball) (n : Nat) (s : State) : Option Bool :=
  match ballCells b, s.drive b n with
  | .driveCapture, .low => some false
  | .driveCapture, .high => some true
  | _, _ => none

end Sys2Proof.Machine
end

