-- ==== Sys2Proof/Safety.lean ====
section
/-! DEFINITION. The terms that claims are made in: sound states, commands that the mailbox accepts, how a command ends, and the
parts of the state. -/

namespace Sys2Proof.Machine

/-! ## Sound states -/

/-- DRAM contents are in canonical form. -/
def State.memOk (s : State) : Bool := Memory.wf s.dram.mem

/-- At most one Stockpot pair serves, and PAIR_ID names it (R623, R625). -/
def State.pairsOk (s : State) : Bool :=
  !(s.cpu.pair0 == .serving && s.cpu.pair1 == .serving) && (s.cpu.pair0 != .serving || s.cpu.serving == 0) &&
    (s.cpu.pair1 != .serving || s.cpu.serving == 1)

/-! ## Mailbox commands -/

/-- The command passes checks 2 to 5 of R545 on a context that can take it, being of one of these classes (R557). -/
def State.accepts (h : Hdr) (cls : List Cls) (s : State) : Bool :=
  s.canTake h.ctx.toNat && !h.rsvBad && decide (h.flags.toNat < 2) && decide (h.plen.toNat ≤ s.bufSize h.ctx.toNat) &&
    cls.any (Cls.ok s.mode.mode) && (!s.mode.transit || cls.contains .c)

/-- The command has ended: its completion entry is to be pushed, or with NO_CPL its final state shows (R546). -/
def State.Ended (h : Hdr) (op : Nat) (st : OpState) (code : Nat) (data : List Byte) (rlen : Nat) (t : State) : Prop :=
  (t.ctx h.ctx.toNat).cur = none ∧
  (h.flags.getLsbD 0 = false → (t.ctx h.ctx.toNat).ending = some
    { opcode := op, seq := h.seq, state := st, result := BitVec.ofNat 8 code, rlen := rlen, data := padTo 48 0 data, noCpl := false }) ∧
  (h.flags.getLsbD 0 = true → (t.ctx h.ctx.toNat).ending = none ∧ (t.ctx h.ctx.toNat).opState = st ∧
    (t.ctx h.ctx.toNat).result = BitVec.ofNat 8 code)

/-- The command has ended DONE with this inline data (R546, R547). -/
def State.Done (h : Hdr) (op : Nat) (data : List Byte) (t : State) : Prop := t.Ended h op .done cOk data 0

/-- The state in which a command meets checks 6 and 7 of R545: time has come to its hour, and its context shows it as RUNNING. -/
def State.taken (h : Hdr) (op : Nat) (s : State) : State := (s.atTime h.t).begun h op

/-- The command is the one that runs on its context (R542). -/
def State.Runs (h : Hdr) (op : Nat) (t : State) : Prop :=
  (t.ctx h.ctx.toNat).cur = some { opcode := op, seq := h.seq, noCpl := h.flags.getLsbD 0 }

/-- A staging has ended DONE: its table's shadow copy has a new value, the tables in force have not changed, and the staging is
one of those that the next apply counts (R19, R21). -/
def State.Stages (h : Hdr) (op key : Nat) (data : List Byte) (new : Tables) (s t : State) : Prop :=
  t.Done h op data ∧ t.shadow = new ∧ t.active = s.active ∧ t.staged.keys = s.staged.keys ++ [key]

/-- A command has written its result to a range of a window (R556) and ended DONE. -/
def State.Writes (h : Hdr) (op a : Nat) (bs data : List Byte) (s t : State) : Prop :=
  t.Done h op data ∧ t.dram.mem = memWrite a bs s.dram.mem

/-- Nothing waits for the lock of an apply: no calibration checks, no alignment run, and no pattern of a chain has been shifted in
and waits to be staged (R24). -/
def State.lockFree (s : State) : Prop :=
  s.shd.cal = none ∧ s.aln.cal = none ∧ ∀ c, (s.chain c).shifted = false

/-! ## Resets -/

/-- What every device reset leaves: the reset values, with memory's bytes, the NV store, the fuses and the board as they were
(R111, R112, R115). -/
def State.WasReset (s t : State) : Prop :=
  t.mode = ModeUnit.reset ∧ t.rst.phase = .inReset ∧ t.active = Tables.reset ∧ t.shadow = Tables.reset ∧ t.staged = Staged.reset ∧
  t.banks = [] ∧ t.lines = [] ∧ t.pantry = Pantry.reset ∧ t.dma = Dma.reset ∧ t.ev = EvUnit.reset ∧ t.cpu = Cpu.reset ∧
  t.diag = Diag.reset ∧ t.madc = Madc.reset ∧ t.therm = Therm.reset ∧ t.host.ctxs = [] ∧ t.host.port0.link = .down ∧
  t.host.port1.link = .down ∧ t.dram.mem = s.dram.mem ∧ t.sec.nv = s.sec.nv ∧ t.sec.fuse = s.sec.fuse ∧ t.board = s.board

/-- RST_CAUSE after a device reset from the source with this code (R111). -/
def State.RecordsCause (s : State) (code : BitVec 4) (t : State) : Prop :=
  t.rst.last = code ∧ t.rst.prev = s.rst.last ∧ t.rst.count = (if s.rst.count = 0xFF then 0xFF else s.rst.count + 1)

/-! ## Parts of the state -/

/-- The parts of the state. -/
inductive Part where
  | board | mode | rst | clk | ports | lt | uzs | ring | banks | active | shadow | staged | lines | shd | aln | sv | skl | ilm | axes
  | madc | therm | simmer | dram | mem | pantry | dma | ctxs | host | ev | sec | cpu | diag
  deriving DecidableEq, Repr

/-- A host port as the link and the function leave it, without its MSI-X table. -/
def HostPort.link_ (p : HostPort) : HostPort := { p with msix := [] }

/-- A part is the same in two states. In STANDBY an event may start the wake (R641), which leaves MODE as it is; `mem` are the bytes
of DRAM and `dram` the rest of the controller; `ctxs` the contexts of the mailbox; `host` the links, the layout and the heartbeat;
`ev` what the host sets in the event unit. -/
def Part.same (s t : State) : Part → Prop
  | .board => t.board = s.board
  | .mode => t.mode = s.mode ∨ (s.mode.mode = .standby ∧ t.mode.mode = .standby)
  | .rst => t.rst = s.rst
  | .clk => t.clk = s.clk
  | .ports => t.ports = s.ports
  | .lt => t.lt = s.lt
  | .uzs => t.uzs = s.uzs
  | .ring => t.ring = s.ring
  | .banks => t.banks = s.banks
  | .active => t.active = s.active
  | .shadow => t.shadow = s.shadow
  | .staged => t.staged = s.staged
  | .lines => t.lines = s.lines
  | .shd => t.shd = s.shd
  | .aln => t.aln = s.aln
  | .sv => t.sv = s.sv
  | .skl => t.skl = s.skl
  | .ilm => t.ilm = s.ilm
  | .axes => t.axes = s.axes
  | .madc => t.madc = s.madc
  | .therm => t.therm = s.therm
  | .simmer => t.simmer = s.simmer
  | .dram => { t.dram with mem := [] } = { s.dram with mem := [] }
  | .mem => t.dram.mem = s.dram.mem
  | .pantry => t.pantry = s.pantry
  | .dma => t.dma = s.dma
  | .ctxs => t.host.ctxs = s.host.ctxs
  | .host => t.host.port0.link_ = s.host.port0.link_ ∧ t.host.port1.link_ = s.host.port1.link_ ∧ t.host.split = s.host.split ∧
      t.host.beat = s.host.beat ∧ t.host.beatBy = s.host.beatBy
  | .ev => t.ev.enable = s.ev.enable ∧ t.ev.edge = s.ev.edge ∧ t.ev.route = s.ev.route
  | .sec => t.sec = s.sec
  | .cpu => t.cpu = s.cpu
  | .diag => t.diag = s.diag

/-- Nothing changes outside these parts. What every command may do besides is to let time pass, to take free values, to set levels
and latches of the event unit with the messages they send, and to put outputs out. -/
def State.Frame (parts : List Part) (s t : State) : Prop := ∀ p : Part, p ∉ parts → p.same s t

/-- The header of a mailbox command. -/
def hdrOf : Instr → Option Hdr
  | .devIdentify h | .setMode h .. | .syncApply h .. | .devReset h .. | .quiesce h .. | .mbTakeover h |
     .mbGiveback h .. | .mbAbort h .. | .mbBufSet h .. | .cfgRead h .. | .resRead h | .cfgProfile h .. |
     .patBankStage h .. | .patSelectStage h .. | .afeStage h .. | .tapMapStage h .. | .tapClockStage h .. |
     .portIsolate h .. | .portSwap h .. | .portQualify h .. | .portRelease h .. | .afeFgCal h .. | .afeTrimSave h |
     .afeResidRead h .. | .portStatusRead h .. | .ltSrcStage h .. | .ltStrobeStage h | .ltPageStage h |
     .ltPaceStage h .. | .ioAssignStage h .. | .shdSetLoad h .. | .shdSetPatch h .. | .shdSetClear h .. |
     .shdSetDiscard h | .shdSetRead h .. | .shdCalibrate h .. | .shdCfgStage h | .linStage h .. | .shdQualityRead h .. |
     .alnTableStage h .. | .xformStage h | .productStage h .. | .alnCalibrate h .. | .seamQualityRead h .. |
     .svJobStart h .. | .svJobEnd h | .svRefSubmit h .. | .svChainSign h | .svSieveStage h .. | .svTongsStage h .. |
     .svLadleStage h .. | .svPreviewStage h .. | .svCropStage h .. | .sklCfgStage h .. | .sklMapStage h .. |
     .sklProfileStage h .. | .sklClassStage h .. | .sklFevStage h | .sklFlagsRead h .. | .ilmRowStage h .. |
     .ilmLevelStage h | .ilmTcompStage h .. | .lswStage h .. | .lampTest h .. | .ilmLampClear h .. | .ilmRowClear h .. |
     .motAxisStage h .. | .motRampStage h .. | .motTileStage h | .motMove h .. | .motTable h .. | .motJog h .. |
     .motCoord h .. | .motFollow h .. | .motHome h .. | .motAdjust h .. | .motStop h .. | .motFaultClear h .. |
     .madcCfgStage h .. | .madcSeqStage h .. | .madcSetStage h .. | .madcCal h | .madcInject h .. | .madcTest h .. |
     .madcAccRead h .. | .simmerCfgStage h .. | .simmerPowerLimit h .. | .thermRead h .. | .dramCfgStage h .. |
     .winCreate h .. | .winMap h .. | .winUnmap h .. | .winFree h .. | .ringSet h .. | .dramLogRead h .. |
     .dramTrain h | .dramChRetire h .. | .dramChTest h .. | .dramChRestore h .. | .qBind h .. | .qFlush h .. |
     .dmaBind h .. | .pageRelease h .. | .secAttest h .. | .secOwnerEnrol h | .secImageWrite h .. | .secLifecycle h .. |
     .secIdentityGen h | .secDebugUnlock h | .diagTapStage h .. | .diagSvBypass h .. | .diagPattern h .. |
     .diagSelftest h .. => some h
  | .mbDoorbell .. | .mbSweep .. | .completionPush .. | .qPush .. | .qPop .. | .rcFieldRead .. | .registerWrite .. |
     .evLatchWrite .. | .msixUnmask .. | .dmaStart .. | .dmaAbort .. | .chainKick .. | .dmaErrClear .. |
     .dmaDescFetched .. | .dmaBurstDone .. | .dmaReadbackDone .. | .dmaLinkRereadDone .. | .dmaQueueData .. |
     .busError .. | .bar2Read .. | .bar2Write .. | .perstNAssert .. | .perstNRelease .. | .linkUp .. | .linkLoss .. |
     .functionLevelReset .. | .hotReset .. | .d3hotEntry .. | .powerOnReset .. | .porstNAssert .. | .porstNRelease .. |
     .sysrstNAssert .. | .sysrstNRelease .. | .coreBrownout .. | .sysclkLoss .. | .resetEnd .. | .sramWipeDone .. |
     .feDieReset .. | .vddNvLow .. | .bootImageVerified .. | .nvMount .. | .dramTrainingDone .. | .dramWipeDone .. |
     .bootExit .. | .aonXtalSwitch .. | .aonXtalLoss .. | .oscCompUpdate .. | .regionCompare .. |
     .modeTransitionDone .. | .scrubComplete .. | .encEdge .. | .encIndex .. | .sheetEdge .. | .generatorPeriod .. |
     .interpTrigger .. | .pendingTriggerIssue .. | .flushTrigger .. | .uzsLineSampled .. | .uzsLineStart .. |
     .uzsFrameRx .. | .uzsSlotRx .. | .uzsClkTimeout .. | .feProgramStart .. | .afeSlotSample .. | .feProgramEnd .. |
     .handoverCompare .. | .spareSubstitution .. | .bgCalStepStart .. | .bgMeasurementEnd .. | .trimUpdate .. |
     .trimSaveHourly .. | .presFilterChange .. | .swapPowerOff .. | .swapOutputRelease .. | .qualifySettleEnd .. |
     .qualificationDone .. | .zoneTempUpdate .. | .shdPatrolRead .. | .sklGroupEval .. | .fastevStretchEnd .. |
     .slkFrameStart .. | .stitchedLineComplete .. | .rejectOutPulse .. | .rejectOutEnd .. | .refDecodeDone .. |
     .serviceUnitComplete .. | .pageSummaryPush .. | .ilmRegStart .. | .lstbRise .. | .lstbFall .. | .ilmOvOcDetect .. |
     .ilmTcompUpdate .. | .ilmPowerUpdate .. | .lswFrameLatch .. | .motPwmPeriod .. | .motRampTick .. |
     .holdDelayEnd .. | .motFltInput .. | .stepInEdge .. | .vbusLowTimeout .. | .madcConversionEnd .. |
     .madcCalibrationEnd .. | .madcCalPeriodic .. | .madcConvTimeout .. | .mainsRefCrossing .. | .thermSample .. |
     .simmerRefill .. | .simmerCeilingStep .. | .simmerCapRaise .. | .dramCommandSlot .. | .dramReadReturn .. |
     .dramAccessTimeout .. | .refreshUnitDue .. | .mr4Read .. | .refreshClassStep .. | .requestPromote .. |
     .dqsOscRun .. | .dramScrubStep .. | .dramRebuildStep .. | .dramPortWindow .. | .hwPushRetry .. | .cellPatrol .. |
     .lockstepMismatch .. | .pairRestartDone .. | .standbySelftest .. | .heartbeatTick .. | .nvLineProgramDone .. |
     .trivetSecurityReset .. | .entropyHealthFail .. | .securityAccessViolation .. | .jtagInstruction .. |
     .devResetExpiry .. | .prsntNChange .. | .quiesceTimeout .. | .trivetRequestDone .. | .afeFgCalDone .. |
     .selftestTestDone .. | .shdCalSettleEnd .. | .alnCalibrateTimeout .. | .vddNvRecover .. | .nvWriteWaitTimeout .. |
     .vEstTimeout .. | .feDieResetEnd .. | .lampTestPulse .. | .lswShiftDone .. | .norWriteDone .. => none

/-- The parts of the state that a command may change. -/
def changesOf : Instr → List Part
  | .afeStage .. | .tapMapStage .. | .ltStrobeStage .. | .ltPageStage .. | .shdCfgStage .. | .linStage .. |
     .alnTableStage .. | .xformStage .. | .svSieveStage .. | .svTongsStage .. | .svLadleStage .. | .svPreviewStage .. |
     .svCropStage .. | .sklMapStage .. | .sklProfileStage .. | .sklClassStage .. | .sklFevStage .. | .ilmRowStage .. |
     .ilmLevelStage .. | .ilmTcompStage .. | .motTileStage .. => [.shadow, .staged, .dram, .ctxs]
  | .patSelectStage .. | .tapClockStage .. | .portIsolate .. | .portSwap .. | .portQualify .. | .portRelease .. |
     .ltSrcStage .. | .ltPaceStage .. | .ioAssignStage .. | .productStage .. | .sklCfgStage .. | .ilmLampClear .. |
     .ilmRowClear .. | .diagTapStage .. | .diagSvBypass .. => [.shadow, .staged, .ctxs]
  | .motMove .. | .motTable .. | .motJog .. | .motCoord .. | .motFollow .. | .motHome .. | .motAdjust .. |
     .motFaultClear .. | .motPwmPeriod .. | .motFltInput .. | .vbusLowTimeout .. => [.axes, .ctxs]
  | .cfgRead .. | .resRead .. | .afeResidRead .. | .shdSetRead .. | .shdQualityRead .. | .seamQualityRead .. |
     .sklFlagsRead .. | .thermRead .. | .dramLogRead .. | .dramChTest .. => [.dram, .mem, .ctxs]
  | .handoverCompare .. | .spareSubstitution .. | .bgCalStepStart .. | .bgMeasurementEnd .. | .trimUpdate .. |
     .presFilterChange .. | .swapPowerOff .. | .swapOutputRelease .. | .qualifySettleEnd .. | .qualificationDone .. => [.ports]
  | .winCreate .. | .winMap .. | .winUnmap .. | .winFree .. | .dramTrain .. | .dramChRetire .. | .dramChRestore .. |
     .dramRebuildStep .. => [.dram, .ctxs]
  | .chainKick .. | .dmaErrClear .. | .dmaReadbackDone .. | .dmaLinkRereadDone .. | .busError .. | .linkLoss .. |
     .prsntNChange .. => [.dma, .ctxs, .host]
  | .bar2Read .. | .refreshUnitDue .. | .mr4Read .. | .refreshClassStep .. | .requestPromote .. | .dqsOscRun .. |
     .dramPortWindow .. => [.dram]
  | .powerOnReset .. | .porstNAssert .. | .sysrstNAssert .. | .coreBrownout .. | .sysclkLoss .. |
     .trivetSecurityReset .. | .devResetExpiry .. =>
    [.board, .mode, .rst, .clk, .ports, .lt, .uzs, .ring, .banks, .active, .shadow, .staged, .lines, .shd, .aln,
     .sv, .skl, .ilm, .axes, .madc, .therm, .simmer, .dram, .mem, .pantry, .dma, .ctxs, .host, .ev, .sec, .cpu,
     .diag]
  | .ilmRegStart .. | .lstbRise .. | .lstbFall .. | .ilmOvOcDetect .. | .ilmTcompUpdate .. | .ilmPowerUpdate .. |
     .lswFrameLatch .. => [.ilm]
  | .quiesce .. | .dmaStart .. | .dmaAbort .. | .dmaDescFetched .. | .dramAccessTimeout .. | .quiesceTimeout .. => [.dram, .dma, .ctxs, .host]
  | .madcCal .. | .madcInject .. | .madcTest .. | .madcConversionEnd .. | .madcCalibrationEnd .. | .madcConvTimeout .. => [.clk, .madc, .ctxs]
  | .dramCfgStage .. | .secOwnerEnrol .. | .secImageWrite .. | .secLifecycle .. | .secDebugUnlock .. => [.dram, .ctxs, .sec]
  | .vddNvLow .. | .trimSaveHourly .. | .entropyHealthFail .. | .securityAccessViolation .. | .vddNvRecover .. => [.sec]
  | .encEdge .. | .generatorPeriod .. | .interpTrigger .. | .pendingTriggerIssue .. | .motRampTick .. =>
    [.mode, .ports, .lt, .ring, .active, .shadow, .staged, .lines, .shd, .aln, .sv, .skl, .ilm, .axes, .dram, .mem,
     .ctxs, .sec]
  | .mbDoorbell .. | .mbSweep .. | .completionPush .. | .registerWrite .. =>
    [.mode, .rst, .clk, .ports, .lt, .ring, .banks, .active, .shadow, .staged, .shd, .aln, .sv, .skl, .ilm, .axes,
     .madc, .simmer, .dram, .mem, .pantry, .dma, .ctxs, .host, .ev, .sec, .diag]
  | .qPush .. | .qPop .. | .hwPushRetry .. | .cellPatrol .. => [.pantry]
  | .perstNAssert .. | .functionLevelReset .. | .hotReset .. | .d3hotEntry .. => [.rst, .pantry, .dma, .ctxs, .host]
  | .aonXtalSwitch .. | .aonXtalLoss .. | .oscCompUpdate .. | .regionCompare .. => [.clk]
  | .devIdentify .. | .mbBufSet .. | .diagPattern .. => [.ctxs]
  | .afeTrimSave .. | .svChainSign .. | .secIdentityGen .. => [.ctxs, .sec]
  | .sysrstNRelease .. | .resetEnd .. | .jtagInstruction .. => [.rst]
  | .encIndex .. | .sheetEdge .. | .vEstTimeout .. => [.lt]
  | .sklGroupEval .. | .fastevStretchEnd .. | .slkFrameStart .. => [.skl]
  | .lockstepMismatch .. | .pairRestartDone .. | .standbySelftest .. => [.cpu]
  | .afeFgCal .. | .portStatusRead .. => [.ports, .ctxs]
  | .shdSetLoad .. | .shdSetPatch .. => [.staged, .shd, .dram, .ctxs]
  | .shdSetClear .. | .shdSetDiscard .. => [.staged, .shd, .ctxs]
  | .alnCalibrate .. | .alnCalibrateTimeout .. => [.aln, .ctxs]
  | .lampTest .. | .lampTestPulse .. => [.ilm, .dram, .mem, .ctxs]
  | .motAxisStage .. | .motRampStage .. => [.shadow, .staged, .axes, .dram, .ctxs]
  | .madcSeqStage .. | .madcSetStage .. => [.madc, .dram, .ctxs]
  | .simmerCfgStage .. | .simmerPowerLimit .. => [.simmer, .ctxs]
  | .ringSet .. | .pageRelease .. => [.ring, .ctxs]
  | .qBind .. | .qFlush .. => [.pantry, .ctxs]
  | .secAttest .. | .norWriteDone .. => [.dram, .mem, .ctxs, .sec]
  | .evLatchWrite .. | .msixUnmask .. => []
  | .dmaBurstDone .. | .dmaQueueData .. => [.dram, .mem, .pantry, .dma, .ctxs, .host]
  | .perstNRelease .. | .heartbeatTick .. => [.host]
  | .uzsLineSampled .. | .uzsSlotRx .. => [.uzs]
  | .holdDelayEnd .. | .stepInEdge .. => [.axes]
  | .madcCalPeriodic .. | .mainsRefCrossing .. => [.clk, .madc]
  | .setMode .. => [.mode, .lt, .shadow, .staged, .shd, .aln, .ilm, .dram, .mem, .ctxs]
  | .syncApply .. => [.mode, .ports, .lt, .active, .shadow, .staged, .shd, .sv, .skl, .ilm, .axes, .ctxs, .sec]
  | .devReset .. => [.rst, .ctxs]
  | .mbTakeover .. => [.dma, .ctxs, .ev]
  | .mbGiveback .. => [.ctxs, .ev]
  | .mbAbort .. => [.mode, .shadow, .staged, .shd, .aln, .sv, .ilm, .axes, .dram, .mem, .ctxs, .diag]
  | .cfgProfile .. => [.mode, .ports, .ctxs]
  | .patBankStage .. => [.banks, .dram, .ctxs]
  | .shdCalibrate .. => [.shd, .axes, .ctxs]
  | .svJobStart .. => [.sv, .pantry, .ctxs]
  | .svJobEnd .. => [.sv, .ctxs, .sec]
  | .svRefSubmit .. => [.sv, .dram, .ctxs]
  | .lswStage .. => [.ilm, .dram, .ctxs]
  | .motStop .. => [.lt, .axes, .ctxs]
  | .madcCfgStage .. => [.madc, .ctxs]
  | .madcAccRead .. => [.madc, .dram, .mem, .ctxs]
  | .dmaBind .. => [.pantry, .dma, .ctxs]
  | .diagSelftest .. => [.ctxs, .diag]
  | .rcFieldRead .. => [.shd, .aln, .sv, .skl, .axes, .madc, .dram, .pantry, .sec, .cpu, .diag]
  | .bar2Write .. => [.dram, .mem]
  | .linkUp .. => [.ctxs, .host]
  | .porstNRelease .. => [.rst, .host]
  | .sramWipeDone .. => [.rst, .clk]
  | .feDieReset .. => [.clk, .ports, .banks]
  | .bootImageVerified .. => [.rst, .sec, .cpu]
  | .nvMount .. => [.rst, .clk, .dram, .sec]
  | .dramTrainingDone .. => [.rst, .dram, .ctxs]
  | .dramWipeDone .. => [.rst, .dram, .mem]
  | .bootExit .. => [.mode, .rst, .clk, .ports, .lt, .skl, .axes, .madc, .pantry, .ctxs, .sec]
  | .modeTransitionDone .. =>
    [.mode, .clk, .ports, .lt, .uzs, .ring, .active, .shadow, .staged, .lines, .shd, .aln, .sv, .skl, .ilm, .axes,
     .therm, .dram, .mem, .pantry, .ctxs, .sec, .diag]
  | .scrubComplete .. =>
    [.mode, .clk, .ports, .lt, .ring, .active, .shadow, .lines, .shd, .aln, .sv, .skl, .ilm, .axes, .therm, .dram,
     .mem, .pantry, .ctxs, .sec, .diag]
  | .flushTrigger .. => [.ports, .lt]
  | .uzsLineStart .. =>
    [.mode, .ports, .lt, .uzs, .active, .shadow, .staged, .lines, .shd, .aln, .sv, .skl, .ilm, .axes, .dram, .mem,
     .ctxs, .sec]
  | .uzsFrameRx .. =>
    [.mode, .ports, .lt, .uzs, .ring, .active, .shadow, .staged, .lines, .shd, .aln, .sv, .skl, .ilm, .axes, .dram,
     .mem, .ctxs, .sec]
  | .uzsClkTimeout .. => [.lt, .uzs]
  | .feProgramStart .. => [.ports, .lines]
  | .afeSlotSample .. => [.ports, .lines, .shd, .skl]
  | .feProgramEnd .. => [.ports, .skl]
  | .zoneTempUpdate .. => [.shd]
  | .shdPatrolRead .. => [.lines, .shd]
  | .stitchedLineComplete .. =>
    [.ring, .shadow, .staged, .lines, .shd, .aln, .sv, .ilm, .simmer, .dram, .mem, .pantry, .ctxs, .diag]
  | .rejectOutPulse .. => [.sv]
  | .rejectOutEnd .. => [.sv, .skl]
  | .refDecodeDone .. => [.sv, .dram, .mem, .ctxs]
  | .serviceUnitComplete .. => [.sv, .simmer, .dram, .pantry]
  | .pageSummaryPush .. => [.sv, .pantry, .ctxs, .sec]
  | .thermSample .. =>
    [.mode, .rst, .clk, .ports, .lt, .shadow, .staged, .shd, .aln, .ilm, .axes, .therm, .dram, .mem, .ctxs, .sec]
  | .simmerRefill .. =>
    [.mode, .lt, .shadow, .staged, .shd, .aln, .sv, .ilm, .axes, .therm, .simmer, .dram, .mem, .ctxs, .sec]
  | .simmerCeilingStep .. => [.simmer]
  | .simmerCapRaise .. => [.ilm, .simmer]
  | .dramCommandSlot .. => [.dram, .pantry]
  | .dramReadReturn .. => [.dram, .mem, .pantry, .ctxs]
  | .dramScrubStep .. => [.mode, .dram, .mem, .ctxs]
  | .nvLineProgramDone .. => [.rst, .therm, .dram, .mem, .ctxs, .sec]
  | .trivetRequestDone .. => [.sv, .dram, .mem, .ctxs, .sec]
  | .afeFgCalDone .. => [.ports, .ctxs, .sec]
  | .selftestTestDone .. => [.dram, .mem, .ctxs, .diag]
  | .shdCalSettleEnd .. => [.shd, .ilm]
  | .nvWriteWaitTimeout .. => [.therm, .dram, .mem, .ctxs, .sec]
  | .feDieResetEnd .. => [.clk, .ports]
  | .lswShiftDone .. => [.shadow, .staged, .ilm, .ctxs]

/-- The level sources of the event unit (R644). -/
def levelSources : List Nat := [0, 3, 18, 82, 83, 129, 147, 179, 193, 195, 198, 209, 224, 225, 226, 227, 229]

/-- The payload buffer of a context, as an address and a length. -/
def State.bufRange (h : Hdr) (s : State) : List (Nat × Nat) := [(s.bufAddr h.ctx.toNat, s.bufSize h.ctx.toNat)]

/-- A range of a window, as an address and a length. -/
def State.winRange (window : BitVec 8) (offset : BitVec 32) (n : Nat) (s : State) : List (Nat × Nat) :=
  [(s.winAddr window.toNat offset.toNat, n)]

/-- Where the burst of a channel lands, as an address and a length (R515). -/
def State.burstRange (c : Nat) (s : State) : List (Nat × Nat) :=
  if (s.chan c).dstDram then
    [(s.winAddr ((s.chan c).window.getD 0) ((s.chan c).dst + (s.chan c).burst.1), (s.chan c).burst.2)]
  else []

/-- The block of the oldest read of a channel, whose data an uncorrectable error replaces (R471), as an address and a length. -/
def State.flightRange (ch : Nat) (s : State) : List (Nat × Nat) :=
  match (s.dch ch).flight with
  | r :: _ => [(64 * (r.addr / 64), 64)]
  | [] => []

/-- The block that a STANDBY wake zeroes next (R480) or that the patrol scrub reads (R473), as an address and a length. -/
def State.wakeRange (s : State) : List (Nat × Nat) :=
  if s.mode.mode == .standby then
    match s.mode.trans with
    | some x => [(s.protSize + x.bytes, 64)]
    | none => []
  else [(64 * ((s.physBlock s.dram.pos).1 / 64), 64)]

/-- The ranges of memory that a command may write: of commands that read into a window or a payload buffer, of BAR2 writes and of DMA
bursts. For the commands that carry lines, results and resets on, which compute their addresses on the way, it is not given. -/
def storesOf (s : State) (i : Instr) : Option (List (Nat × Nat)) :=
  if Part.mem ∉ changesOf i then some []
  else match i with
    | .afeResidRead _ _ window offset => some (s.winRange window offset (104 * 16))
    | .shdSetRead _ _ window copy offset =>
      some (s.winRange window offset (512 + 4 * pixCount s.board.member (if copy = 0 then s.active else s.shadow)))
    | .shdQualityRead _ window offset => some (s.winRange window offset (48 * 4 * 12))
    | .seamQualityRead _ window offset => some (s.winRange window offset (8 * s.aln.seams.length))
    | .sklFlagsRead _ window offset => some (s.winRange window offset 65536)
    | .madcAccRead _ window _ offset mask maskHi =>
      some (s.winRange window offset (32 * (setBits 72 (mask.toNat + 2 ^ 64 * maskHi.toNat)).length))
    | .thermRead _ window offset => some (s.winRange window offset s.thermBytes.length)
    | .dramLogRead _ window _ offset => some (s.winRange window offset (32 * s.dram.log.length))
    | .cfgRead h _ _ _ => some (s.bufRange h)
    | .resRead h => some (s.bufRange h)
    | .dramChTest h _ _ => some (s.bufRange h)
    | .lampTest h _ _ _ _ _ _ _ => some (s.bufRange h)
    | .bar2Write _ _ addr data =>
      some ((List.range data.length).filterMap (fun k => (s.bar2Addr (addr.toNat + k)).map (fun a => (a, 1))))
    | .dmaBurstDone _ c _ _ => some (s.burstRange c.toNat)
    | .dmaQueueData _ c _ => some (s.burstRange c.toNat)
    | .dramScrubStep _ _ => some s.wakeRange
    | .dramReadReturn _ ch _ => some (s.flightRange ch.toNat)
    | _ => none

end Sys2Proof.Machine
end

