-- ==== Sys2Proof/Certificates/Slice0/Obligations.lean ====
section
/-! DEFINITION. The statements of this model. -/

open Sys2Proof Sys2Proof.Machine

/-! ## Steps -/

/-- A step takes the command at the front of the queue and is that command's meaning on the rest of the queue (the block's own
convention: log entry 1); with no command waiting the block idles. -/
def Obligations.StepRunsFrontCommand : Prop :=
  (∀ (c : Instr) (rest : List Instr) (s : State),
    step { s with pending := c :: rest } = exec c { s with pending := rest }) ∧
  (∀ s : State, s.pending = [] → step s = .next s)

/-! ## Device family -/

/-- Commands of the Device family that end at once, each with its own effect (R108, R540, R544, R562, R563). -/
def Obligations.DeviceCommandsComplete : Prop := ∀ (h : Hdr) (s : State), s.accepts h [.c] = true → h.plen = 0 →
  (∃ t, exec (.devIdentify h) s = .next t ∧ t.Done h 0x0100
    (le 2 2 ++ le 1 (match s.board.member with | .ml9648 => 0 | .ml9624 => 1) ++ le 1 0xB1 ++ le 4 s.sec.fwVersion.toNat ++
      le 4 s.sec.fwSvn.toNat ++ le 1 (b2n s.rst.imageB) ++ le 1 s.sec.lifecycle.code ++ le 2 0 ++ padTo 8 0 s.board.serial)) ∧
  (∃ t, exec (.devReset h 0) s = .next t ∧ t.Done h 0x0103 [] ∧
    (h.flags.getLsbD 0 = true → t.rst.devResetAt = some (max s.now h.t + 100000))) ∧
  (∀ (table : BitVec 16) (copy : BitVec 8) (index : BitVec 32) (bs : List Byte),
    copy.toNat ≤ 1 → index.toNat < s.imageCount table.toNat → bs = s.image (copy = 1) table.toNat index.toNat →
    bs.length ≤ s.bufSize h.ctx.toNat →
    ∃ t, exec (.cfgRead h table copy index) s = .next t ∧ t.Ended h 0x0109 .done cOk [] bs.length ∧
      t.dram.mem = memWrite (s.bufAddr h.ctx.toNat) bs s.dram.mem) ∧
  (∀ bs : List Byte, bs = s.resources.flatMap (fun r => conflictData r.1 r.2.1 r.2.2.1 r.2.2.2) →
    bs.length ≤ s.bufSize h.ctx.toNat →
    ∃ t, exec (.resRead h) s = .next t ∧ t.Ended h 0x010A .done cOk [] bs.length ∧
      t.dram.mem = memWrite (s.bufAddr h.ctx.toNat) bs s.dram.mem) ∧
  (∀ (window : BitVec 8) (offset : BitVec 32),
    ∃ t, exec (.mbBufSet h window offset 0) s = .next t ∧ t.Done h 0x0108 [] ∧ (t.ctx h.ctx.toNat).buf = none) ∧
  (∀ (window : BitVec 8) (offset size : BitVec 32), size ≠ 0 → size.toNat % 64 = 0 →
    s.winHas window.toNat offset.toNat size.toNat = true →
    ∃ t, exec (.mbBufSet h window offset size) s = .next t ∧ t.Done h 0x0108 [] ∧
      (t.ctx h.ctx.toNat).buf = some { window := window.toNat, offset := offset.toNat, size := size.toNat })

/-- QUIESCE is accepted while the device keeps a host, and from then on no context of its port takes a command (R538). MB_TAKEOVER
moves every context, route and channel binding of a port that is gone, and MB_GIVEBACK returns the contexts 128 x n to 128 x n + 127
to a port that is UP again (R540). -/
def Obligations.PortHandoverCommandsComplete : Prop :=
  (∀ (h : Hdr) (dmaMode : BitVec 8) (timeout : BitVec 32) (s : State),
    s.accepts h [.c] = true → h.plen = 0 → dmaMode.toNat ≤ 1 → timeout.toNat ≤ 60000 →
    (s.host.split = false ∨ (s.port (1 - (s.ctx h.ctx.toNat).owner)).link = .up) →
    ∃ t, exec (.quiesce h dmaMode timeout) s = .next t ∧
      ∀ k, k < 256 → (s.ctx k).owner = (s.ctx h.ctx.toNat).owner → (t.ctx k).shut = true ∧ t.paused k = true) ∧
  (∀ (h : Hdr) (s : State), s.accepts h [.c] = true → h.plen = 0 →
    s.host.split = true →
    (((s.port (1 - (s.ctx h.ctx.toNat).owner)).link = .quiesced ∨
        ((s.port (1 - (s.ctx h.ctx.toNat).owner)).link.isDown = true ∧
          (s.port (1 - (s.ctx h.ctx.toNat).owner)).since + 10000000 ≤ max s.now h.t)) →
      ∃ t, exec (.mbTakeover h) s = .next t ∧ (t.ctx h.ctx.toNat).cur = none ∧
        (∀ k, k < 256 → (s.ctx k).owner = 1 - (s.ctx h.ctx.toNat).owner → (t.ctx k).owner = (s.ctx h.ctx.toNat).owner) ∧
        (∀ c, c < 64 → (s.chan c).port = 1 - (s.ctx h.ctx.toNat).owner → (s.chan c).queue.isSome = true →
          (t.chan c).port = (s.ctx h.ctx.toNat).owner)) ∧
    (∀ port : BitVec 8, port.toNat ≤ 1 → (s.ctx h.ctx.toNat).owner ≠ port.toNat → (s.port port.toNat).link = .up →
      ∃ t, exec (.mbGiveback h port) s = .next t ∧ t.Done h 0x0106 [] ∧
        ∀ k, 128 * port.toNat ≤ k → k < 128 * port.toNat + 128 → (t.ctx k).owner = port.toNat))

/-- A SET_MODE that no check refuses starts its transition: TRANSIT is 1 and TARGET is the new mode, while MODE stays until the
transition is done (R35, R36, R38, R41). A SYNC_APPLY that no check refuses swaps the staged tables at once in IDLE and DIAGNOSE,
and in a capture mode becomes the pending apply of every completed staging (R21, R23, R650). -/
def Obligations.ModeCommandsComplete : Prop :=
  (∀ (h : Hdr) (mode when_ : BitVec 8) (target : BitVec 32) (m : Mode) (s : State),
    s.accepts h [.c] = true → h.plen = 0 → when_.toNat ≤ 1 → Mode.ofCode mode.toNat = some m → s.mode.transit = false →
    m ≠ s.mode.mode → permits s.mode.mode m = true →
    ((s.mode.mode.isCapture && m.isCapture) = true → s.mode.apply = none ∧ (when_ = 1 → (s.taken h 0x0101).targetOk target = true)) →
    (∀ a, s.mode.apply = some a → a.ctx ≠ some h.ctx.toNat ∧ s.lockFree) →
    (s.taken h 0x0101).modeFault m (s.willBe true s.staged.keys.eraseDups) (s.mode.mode == .idle) = none →
    (s.mode.mode.isCapture = false → m.isCapture = true →
      ((s.taken h 0x0101).findRoom s.protSize s.dramSize (((s.willBe true s.staged.keys.eraseDups).stagger + 2) *
        stagLine s.board.member (s.willBe true s.staged.keys.eraseDups))).isSome = true) →
    ∃ t, exec (.setMode h mode when_ target) s = .next t ∧ t.Runs h 0x0101 ∧ t.mode.transit = true ∧ t.mode.target = m ∧
      t.mode.mode = s.mode.mode) ∧
  (∀ (h : Hdr) (when_ : BitVec 8) (target : BitVec 32) (s : State),
    s.accepts h [.c] = true → h.plen = 0 → when_.toNat ≤ 1 → s.mode.transit = false → s.mode.apply = none →
    (s.taken h 0x0102).applyFault (s.willBe false s.staged.keys.eraseDups) s.staged.keys.eraseDups false = none →
    (∀ r : (Nat × Nat) × State, (s.mode.mode = .idle ∨ s.mode.mode = .diagnose) →
      r = State.swap s.staged.keys.eraseDups false
        { s.taken h 0x0102 with shd := { s.shd with accFilters := s.shd.filters } } →
      (r.2.ctx h.ctx.toNat).cur = ((s.taken h 0x0102).ctx h.ctx.toNat).cur →
      ∃ t, exec (.syncApply h when_ target) s = .next t ∧ t.Done h 0x0102 (le 4 0 ++ le 2 r.1.1 ++ le 2 r.1.2) ∧
        t.active = r.2.active ∧ t.staged = r.2.staged) ∧
    (s.mode.mode.isCapture = true → (when_ = 1 → s.targetOk target = true) →
      ∃ t a, exec (.syncApply h when_ target) s = .next t ∧ t.Runs h 0x0102 ∧ t.mode.apply = some a ∧ a.ctx = some h.ctx.toNat ∧
        a.keys = s.staged.keys.eraseDups ∧ a.newMode = none ∧ a.announced = false ∧ (when_ = 1 → a.target = some target) ∧
        t.active = s.active ∧ t.staged = s.staged))

/-! ## Stagings -/

/-- A staging that meets a table which the pending apply has locked waits in its context, shown as QUEUED, and stages nothing; it is
the staging command itself that waits (R24, R542). XFORM_STAGE stands for the other tables, whose stagings meet the lock in the same
operation. A sweep executes a staging again that waited for its table, once the table is no longer locked (R24, R543). MB_ABORT ends
DONE where the command of the named context and SEQ is abortable, and a SYNC_APPLY that has not been announced then ends ABORTED and
applies nothing (R548, R561). -/
def Obligations.WaitingAndAbortedCommandsBehave : Prop :=
  (∀ (h : Hdr) (s : State), s.accepts h [.s] = true → h.plen = 40 →
    s.locked [0x0501] = true →
    ∃ t, exec (.xformStage h) s = .next t ∧ t.Runs h 0x0501 ∧ (t.ctx h.ctx.toNat).deferred = some (.xformStage h) ∧
      (t.ctx h.ctx.toNat).opState = .queued ∧ t.shadow = s.shadow ∧ t.staged = s.staged) ∧
  (∀ (tm : Nat) (h : Hdr) (c : RunCmd) (s : State),
    s.mode.mode ≠ .boot → s.served = true → (s.ctx h.ctx.toNat).deferred = some (.xformStage h) → (s.ctx h.ctx.toNat).cur = some c →
    (s.ctx h.ctx.toNat).ending = none → (∀ k, k < 256 → k ≠ h.ctx.toNat → (s.ctx k).deferred = none) →
    (∀ k, k < 256 → s.hasCmd k = false) → h.rsvBad = false → h.flags = 0 → h.plen = 40 → h.plen.toNat ≤ s.bufSize h.ctx.toNat →
    Cls.ok s.mode.mode .s = true → s.mode.transit = false → s.locked [0x0501] = false →
    s.host.port0.quiesce = none → s.host.port1.quiesce = none →
    ∃ t, exec (.mbSweep tm) s = .next t ∧ t.Done h 0x0501 [] ∧ (t.ctx h.ctx.toNat).deferred = none ∧
      t.staged.keys = s.staged.keys ++ [0x0501] ∧ t.active = s.active ∧
      t.shadow.xform.m = ((chunks 2 20 (s.payload h)).map (fun b => signed 16 (leVal b))).take 16) ∧
  (∀ (h : Hdr) (context seq : BitVec 8) (s : State),
    s.accepts h [.c] = true → h.plen = 0 →
    (∀ (c : RunCmd) (s1 : State), ((s.taken h 0x0107).ctx context.toNat).cur = some c → c.seq = seq →
      (s.taken h 0x0107).abortRun context.toNat c.opcode = some s1 →
      (s1.ctx h.ctx.toNat).cur = ((s.taken h 0x0107).ctx h.ctx.toNat).cur →
      ∃ t, exec (.mbAbort h context seq) s = .next t ∧ t.Done h 0x0107 []) ∧
    (∀ (c : RunCmd) (a : PendingApply), context ≠ h.ctx → (s.ctx context.toNat).cur = some c → c.seq = seq → c.opcode = 0x0102 →
      s.mode.apply = some a → a.ctx = some context.toNat → a.announced = false → s.lockFree →
      ∃ t, exec (.mbAbort h context seq) s = .next t ∧ t.Done h 0x0107 [] ∧ t.mode.apply = none ∧
        (t.ctx context.toNat).cur = none ∧ t.active = s.active ∧ t.shadow = s.shadow ∧ t.staged = s.staged))

/-- Stagings of the Ports and AFE family (R123, R131, R132, R139, R157). -/
def Obligations.PortStagingsComplete : Prop := ∀ (h : Hdr) (s : State), s.accepts h [.s] = true →
  (∀ (ports : BitVec 64) (bank drive : BitVec 8) (x : PatSel) (f : Tables → Tables), h.plen = 0 → bank.toNat ≤ 3 → drive.toNat ≤ 2 →
    ports.toNat < 2 ^ s.board.member.ports → s.locked [0x0202, 0x0208] = false →
    f = (fun t => { t with patSel := (setBits 64 ports.toNat).foldl (fun m p => sset PatSel.reset p x m) t.patSel }) →
    x = { bank := bank.setWidth 2, drive := drive } → s.portChecks (setBits 64 ports.toNat) (f s.shadowView) = true →
    ∃ t, exec (.patSelectStage h ports bank drive) s = .next t ∧ State.Stages h 0x0202 0x0202 [] (f s.shadow) s t) ∧
  (∀ (port range : BitVec 8) (xs : List (TapAfe × Bool)), h.plen = 128 → port.toNat < s.board.member.ports → range.toNat ≤ 3 →
    s.locked [0x0203] = false → xs = (chunks 8 16 (s.payload h)).map tapAfeOf → xs.all (·.2) = true →
    ∃ t, exec (.afeStage h port range) s = .next t ∧ State.Stages h 0x0203 0x0203 []
      { s.shadow with afe := sset AfePort.reset port.toNat { range := range.setWidth 2, taps := xs.map (·.1) } s.shadow.afe } s t) ∧
  (∀ (die : BitVec 8) (freq : BitVec 32), h.plen = 0 → die.toNat < s.board.member.dies → clkRange s.dense freq.toNat = true →
    s.locked [0x0205] = false → (s.mode.mode.isCapture = true → tapClkOf s.active die.toNat = freq.toNat) →
    check99 s.board.member s.dense s.banks { s.shadowView with tapClk := sset tapClkReset die.toNat freq.toNat s.shadowView.tapClk } = true →
    ∃ t, exec (.tapClockStage h die freq) s = .next t ∧ State.Stages h 0x0205 0x0205 []
      { s.shadow with tapClk := sset tapClkReset die.toNat freq.toNat s.shadow.tapClk } s t) ∧
  (∀ (port : BitVec 8), h.plen = 0 → port.toNat < s.board.member.ports → s.locked [0x0206, 0x0207, 0x0208, 0x0209] = false →
    (PortCmd.isolate.from (s.seg port.toNat) = true →
      ∃ t, exec (.portIsolate h port) s = .next t ∧ State.Stages h 0x0206 0x0206 [] s.shadow s t ∧
        sget none port.toNat t.staged.ports = some .isolate) ∧
    (PortCmd.swap.from (s.seg port.toNat) = true →
      ∃ t, exec (.portSwap h port) s = .next t ∧ State.Stages h 0x0207 0x0207 [] s.shadow s t ∧
        sget none port.toNat t.staged.ports = some .swap) ∧
    (PortCmd.release.from (s.seg port.toNat) = true →
      ∃ t, exec (.portRelease h port) s = .next t ∧ State.Stages h 0x0209 0x0209 [] s.shadow s t ∧
        sget none port.toNat t.staged.ports = some .release) ∧
    (∀ (bank pwrSettle : BitVec 8) (qualLines : BitVec 16) (c : PortCmd), bank.toNat ≤ 3 → pwrSettle.toNat ≤ 100 →
      (qualLines = 0 ∨ 64 ≤ qualLines.toNat) →
      c = .qualify (bank.setWidth 2) (zeroIs 20 pwrSettle.toNat) (zeroIs 1024 qualLines.toNat) → c.from (s.seg port.toNat) = true →
      s.portChecks [port.toNat] { s.shadowView with
        patSel := supd PatSel.reset port.toNat (fun q => { q with bank := bank.setWidth 2 }) s.shadowView.patSel } = true →
      ∃ t, exec (.portQualify h port bank pwrSettle qualLines) s = .next t ∧ State.Stages h 0x0208 0x0208 [] s.shadow s t ∧
        sget none port.toNat t.staged.ports = some c))

/-- PAT_BANK_STAGE writes a checked program into a bank that no named port has selected, and TAP_MAP_STAGE stages checked tap map
entries and reports the channels in use (R127, R131, R139, R140). -/
def Obligations.ProgramAndMapStagingsComplete : Prop := ∀ (h : Hdr) (s : State), s.accepts h [.s] = true →
  (∀ (bank mode lsLen repLen : BitVec 8) (nrep blLen : BitVec 16) (ports : BitVec 64) (es : List (BitVec 16)) (q : PatProgram),
    h.plen.toNat = 2 * (zeroIs 256 lsLen.toNat + zeroIs 64 repLen.toNat + zeroIs 512 blLen.toNat) →
    bank.toNat ≤ 3 → mode.toNat ≤ 1 → repLen.toNat < 64 → nrep.toNat < 1024 → blLen.toNat < 512 →
    ports.toNat < 2 ^ s.board.member.ports →
    es = (chunks 2 (zeroIs 256 lsLen.toNat + zeroIs 64 repLen.toNat + zeroIs 512 blLen.toNat) (s.payload h)).map
      (fun b => BitVec.ofNat 16 (leVal b)) →
    q = { direct := (mode = 1), ls := es.take (zeroIs 256 lsLen.toNat),
          rep := (es.drop (zeroIs 256 lsLen.toNat)).take (zeroIs 64 repLen.toNat), nrep := zeroIs 1024 nrep.toNat,
          bl := es.drop (zeroIs 256 lsLen.toNat + zeroIs 64 repLen.toNat) } →
    (∀ e ∈ es, e.toNat < 2 ^ 11) → q.ok s.dense = true →
    check99 s.board.member s.dense
      ((setBits 64 ports.toNat).foldl (fun m p => sset PatProgram.reset (4 * p + bank.toNat) q m) s.banks) s.shadowView = true →
    (∀ p ∈ setBits 64 ports.toNat, (sget PatSel.reset p s.active.patSel).bank.toNat ≠ bank.toNat) →
    (∀ p ∈ setBits 64 ports.toNat, s.pendingBank p bank.toNat = false) →
    ∃ t, exec (.patBankStage h bank mode lsLen repLen nrep blLen ports) s = .next t ∧ t.Done h 0x0201 [] ∧
      ∀ p ∈ setBits 64 ports.toNat, sget PatProgram.reset (4 * p + bank.toNat) t.banks = q) ∧
  (∀ (firstPort count : BitVec 8) (es : List (TapEntry × Bool)) (f : Tables → Tables),
    h.plen.toNat = 128 * count.toNat → firstPort.toNat + count.toNat ≤ s.board.member.ports → s.locked [0x0204] = false →
    es = (chunks 8 (16 * count.toNat) (s.payload h)).map (fun b => tapEntryOf (leVal b)) →
    f = (fun t => { t with tapMap := es.zipIdx.foldl (fun m x => sset TapEntry.reset (16 * firstPort.toNat + x.2) x.1.1 m) t.tapMap }) →
    es.all (·.2) = true → s.portChecks (List.range' firstPort.toNat count.toNat) (f s.shadowView) = true →
    (s.dense || check140 s.board.member false (f s.shadowView)) = true → s.anySet = false →
    ∃ t, exec (.tapMapStage h firstPort count) s = .next t ∧ State.Stages h 0x0204 0x0204
      ((List.range 4).flatMap (fun k => le 1 (channelsUsed (f s.shadowView) s.dense k))) (f s.shadow) s t)

/-- Stagings of the Line timing family (R166, R181, R191, R193, R567). -/
def Obligations.LineStagingsComplete : Prop := ∀ (h : Hdr) (s : State), s.accepts h [.s] = true →
  (∀ (src flags followers filtEnc filtSheet : BitVec 8) (chkTol : BitVec 16) (div : BitVec 64) (genPeriod flushPeriod : BitVec 32)
    (x : LtSrc), h.plen = 0 → s.locked [0x0300] = false →
    src.toNat ≤ 4 → (src = 4 → s.rst.uzsId ≠ 0) → flags.toNat < 8 → followers.toNat ≤ 3 → filtEnc.toNat ≤ 15 →
    filtSheet.toNat ≤ 100 → 2 ^ 32 ≤ div.toNat → div.toNat < 65536 * 2 ^ 32 → (src = 3 → genPeriod ≠ 0) →
    20000 ≤ zeroIs 200000 flushPeriod.toNat → zeroIs 200000 flushPeriod.toNat ≤ 10000000 →
    x = { src := src, interp := flags.getLsbD 0, dir0 := flags.getLsbD 1, dir1 := flags.getLsbD 2, followers := followers,
          filtEnc := filtEnc, filtSheet := filtSheet, chkTol := chkTol, div := div, genPeriod := genPeriod,
          flushPeriod := flushPeriod } →
    (x.claims && s.axisClaims) = false → (src = 3 → (s.axis 0).queue = []) →
    ∃ t, exec (.ltSrcStage h src flags followers filtEnc filtSheet chkTol div genPeriod flushPeriod) s = .next t ∧
      State.Stages h 0x0300 0x0300 [] { s.shadow with ltSrc := x } s t) ∧
  (∀ (ph : Nat) (xs : List (Slot × Bool)) (x : Strobe), s.locked [0x0301] = false →
    ph = rd (s.payload h) 0 1 → (ph = 1 ∨ ph = 2 ∨ ph = 4) → (s.payload h).length = 4 + 48 * ph → rd (s.payload h) 1 1 = 0 →
    xs = (chunks 12 (4 * ph) ((s.payload h).drop 4)).map slotOf → xs.all (·.2) = true →
    x = { phases := ph, stbRef := BitVec.ofNat 16 (rd (s.payload h) 2 2), slots := xs.map (·.1) } →
    check181 s.board.member s.banks { s.shadowView with strobe := x } = true →
    ∃ t, exec (.ltStrobeStage h) s = .next t ∧ State.Stages h 0x0301 0x0301 [] { s.shadow with strobe := x } s t) ∧
  (∀ x : LtPage × Bool, h.plen = 28 → s.locked [0x0302] = false → x = ltPageOf (s.payload h) → x.2 = true →
    pageFits s.ring.cap { s.shadowView with ltPage := x.1 } = true → (x.1.cue = 6 → s.axisClaims = false) →
    ∃ t, exec (.ltPageStage h) s = .next t ∧ State.Stages h 0x0302 0x0302 [] { s.shadow with ltPage := x.1 } s t) ∧
  (∀ (hwm lwm : BitVec 32) (takeup : BitVec 16) (x : LtPace), h.plen = 0 → s.locked [0x0303] = false → lwm ≠ 0 →
    lwm.toNat < hwm.toNat → (s.hasRing = true → hwm.toNat < s.ring.cap) →
    x = { hwm := hwm.toNat, lwm := lwm.toNat, takeup := takeup.toNat } →
    pageFits s.ring.cap { s.shadowView with ltPace := x } = true →
    (s.hasRing = true → stopFits s.ring.cap (s.ceiling { s.shadowView with ltPace := x }) { s.shadowView with ltPace := x } = true) →
    ∃ t, exec (.ltPaceStage h hwm lwm takeup) s = .next t ∧ State.Stages h 0x0303 0x0303 [] { s.shadow with ltPace := x } s t) ∧
  (∀ (enc1 fev15 : BitVec 8) (fevMask : BitVec 16) (rejMin rejDist : BitVec 32) (rejWidth : BitVec 16), h.plen = 0 →
    s.locked [0x0304] = false → enc1.toNat ≤ 2 → fev15.toNat ≤ 1 → (fev15 = 1 → rejWidth ≠ 0) →
    (enc1 = 2 → s.ltClaims = false) → (enc1 = 1 → s.followsA = false) →
    ∃ t, exec (.ioAssignStage h enc1 fev15 fevMask rejMin rejDist rejWidth) s = .next t ∧ State.Stages h 0x0304 0x0304 []
      { s.shadow with io := { enc1 := enc1, fev15 := fev15, fevMask := fevMask, rejMin := rejMin.toNat, rejDist := rejDist.toNat,
                              rejWidth := rejWidth.toNat } } s t)

/-- Stagings of the Correction family (R210, R211, R218, R229). SHD_SET_LOAD and SHD_SET_PATCH put a set into the spare slot: the
image of the window, or the active set with the named words and tags overwritten (R208, R209, R210). -/
def Obligations.CorrectionStagingsComplete : Prop :=
  (∀ (h : Hdr) (s : State), s.accepts h [.s] = true →
    (∀ c : ShdCfg × Bool, h.plen = 204 → s.locked [0x0406] = false → c = shdCfgOf (s.payload h) → c.2 = true →
      check219 s.board.member c.1 s.shdView = true →
      ∃ t, exec (.shdCfgStage h) s = .next t ∧ State.Stages h 0x0406 0x0406 [] { s.shadow with shdCfg := c.1 } s t) ∧
    (∀ line : BitVec 8, h.plen = 8192 → s.locked [0x0407] = false → line.toNat ≤ 3 →
      ∃ t, exec (.linStage h line) s = .next t ∧ State.Stages h 0x0407 0x0407 []
        { s.shadow with lin := sset [] line.toNat ((chunks 2 4096 (s.payload h)).map leVal) s.shadow.lin } s t) ∧
    (∀ set : BitVec 8, h.plen = 0 → set.toNat < setsMax s.board.member s.shadow → s.locked (setKeys set.toNat) = false →
      s.shd.cal = none →
      ∃ t, exec (.shdSetClear h set) s = .next t ∧ State.Stages h 0x0402 (0x10000 * (set.toNat + 1) + 0x0402) [] s.shadow s t ∧
        set.toNat ∈ t.shd.cleared) ∧
    (h.plen = 0 → (∀ k, s.shd.staged = some k → s.locked [0x10000 * (k + 1) + 0x0400] = false) →
      ∃ t, exec (.shdSetDiscard h) s = .next t ∧ t.Done h 0x0403 [] ∧ t.shd.staged = none ∧ t.shadow = s.shadow ∧
        ∀ k, s.shd.staged = some k → 0x10000 * (k + 1) + 0x0400 ∉ t.staged.keys)) ∧
  (∀ (h : Hdr) (set window : BitVec 8) (offset : BitVec 32) (n : Nat) (s : State),
    s.accepts h [.s] = true → h.plen = 0 → set.toNat < setsMax s.board.member s.shadow → s.locked (setKeys set.toNat) = false →
    s.setBusy set.toNat = none → n = pixCount s.board.member s.shadow →
    (∀ (bs : List Byte) (x : ShdSet), s.winHas window.toNat offset.toNat (512 + 4 * n) = true →
      bs = memRead (s.winAddr window.toNat offset.toNat) (512 + 4 * n) s.dram.mem →
      x = { tFe := (imageTags bs).1, tLamp := (imageTags bs).2, words := imageWords n (bs.drop 512), bad := [] } →
      imageOk s.board.member n bs = true → s.apartWith set.toNat x = true →
      ∃ t, exec (.shdSetLoad h set window offset) s = .next t ∧ t.Done h 0x0400 [] ∧ t.shd.staged = some set.toNat ∧
        t.stagedSet set.toNat = some x ∧ t.active = s.active) ∧
    (∀ (nwords : BitVec 32) (old x : ShdSet) (bs : List Byte) (es : List (Nat × BitVec 32)),
      s.winHas window.toNat offset.toNat (8 * nwords.toNat) = true → s.activeSet set.toNat = some old →
      bs = memRead (s.winAddr window.toNat offset.toNat) (8 * nwords.toNat) s.dram.mem →
      es = (chunks 8 nwords.toNat bs).map (fun b => (rd b 0 4, BitVec.ofNat 32 (rd b 4 4))) → (∀ e ∈ es, e.1 < n) →
      x = { old with words := es.foldl (fun m e => sset 0 e.1 e.2 m) old.words, bad := old.bad.filter (fun i => !es.any (fun e => e.1 == i)) } →
      s.apartWith set.toNat x = true →
      ∃ t, exec (.shdSetPatch h set window 0 offset nwords) s = .next t ∧ t.Done h 0x0401 [] ∧ t.shd.staged = some set.toNat ∧
        t.stagedSet set.toNat = some x ∧ t.active = s.active) ∧
    (∀ (nwords : BitVec 32) (old x : ShdSet) (bs : List Byte) (es : List (Nat × BitVec 32)),
      s.winHas window.toNat offset.toNat (512 + 8 * nwords.toNat) = true → s.activeSet set.toNat = some old →
      bs = memRead (s.winAddr window.toNat offset.toNat) (512 + 8 * nwords.toNat) s.dram.mem → imageOk s.board.member n bs = true →
      es = (chunks 8 nwords.toNat (bs.drop 512)).map (fun b => (rd b 0 4, BitVec.ofNat 32 (rd b 4 4))) → (∀ e ∈ es, e.1 < n) →
      x = { tFe := (imageTags bs).1, tLamp := (imageTags bs).2, words := es.foldl (fun m e => sset 0 e.1 e.2 m) old.words,
            bad := old.bad.filter (fun i => !es.any (fun e => e.1 == i)) } →
      s.apartWith set.toNat x = true →
      ∃ t, exec (.shdSetPatch h set window 1 offset nwords) s = .next t ∧ t.Done h 0x0401 [] ∧ t.shd.staged = some set.toNat ∧
        t.stagedSet set.toNat = some x ∧ t.active = s.active))

/-- Stagings of the Alignment and Services families, and of the service bypass and the diagnostic tap (R247, R263, R265, R293, R297,
R301, R305, R307, R626, R627). -/
def Obligations.ProductAndServiceStagingsComplete : Prop := ∀ (h : Hdr) (s : State), s.accepts h [.s] = true →
  (∀ xs : List Int, h.plen = 40 → s.locked [0x0501] = false → xs = (chunks 2 20 (s.payload h)).map (fun b => signed 16 (leVal b)) →
    ∃ t, exec (.xformStage h) s = .next t ∧
      State.Stages h 0x0501 0x0501 [] { s.shadow with xform := { m := xs.take 16, o := xs.drop 16 } } s t) ∧
  (∀ (stagger : BitVec 16) (firstPort count : BitVec 8) (es : List (AlnEntry × Bool)) (f : Tables → Tables),
    h.plen.toNat = 16 * count.toNat → s.locked [0x0500] = false → stagger.toNat ≤ 1024 →
    firstPort.toNat + count.toNat ≤ s.board.member.ports →
    es = (chunks 16 count.toNat (s.payload h)).map (fun b => alnEntryOf (leVal b)) →
    f = (fun t => { t with stagger := stagger.toNat,
                           aln := es.zipIdx.foldl (fun m x => sset AlnEntry.reset (firstPort.toNat + x.2) x.1.1 m) t.aln }) →
    es.all (·.2) = true → s.alnFault (f s.shadowView) = none →
    ∃ t, exec (.alnTableStage h stagger firstPort count) s = .next t ∧ State.Stages h 0x0500 0x0500 [] (f s.shadow) s t) ∧
  (∀ (pf chMask : BitVec 8) (firstCol count : BitVec 32) (queue : BitVec 16) (x : Product), h.plen = 0 → s.locked [0x0502] = false →
    pf.toNat ≤ 3 → chMask.toNat < 16 → (count ≠ 0 → isProductQueue queue.toNat = true) →
    x = { pf := pf, chMask := chMask, firstCol := firstCol.toNat, count := count.toNat, queue := queue.toNat } →
    s.fitsRing { s.shadowView with product := x } = true →
    ∃ t, exec (.productStage h pf chMask firstCol count queue) s = .next t ∧
      State.Stages h 0x0502 0x0502 [] { s.shadow with product := x } s t) ∧
  (∀ (nclass nregion : BitVec 8) (flagMad : BitVec 16) (cs : List (SieveClass × Bool)) (rs : List (SieveRegion × Bool)),
    h.plen.toNat = 8 * nclass.toNat + 20 * nregion.toNat → s.locked [0x0604] = false → nclass.toNat ≤ 16 → flagMad.toNat ≤ 1020 →
    cs = (chunks 8 nclass.toNat (s.payload h)).map sieveClassOf →
    rs = (chunks 20 nregion.toNat ((s.payload h).drop (8 * nclass.toNat))).map sieveRegionOf →
    cs.all (·.2) = true → rs.all (·.2) = true →
    ∃ t, exec (.svSieveStage h nclass nregion flagMad) s = .next t ∧ State.Stages h 0x0604 0x0604 []
      { s.shadow with sv := { s.shadow.sv with
          sieve := { classes := cs.map (·.1), regions := rs.map (·.1), flagMad := flagMad.toNat } } } s t) ∧
  (∀ (nwin ngroup : BitVec 8) (ws : List (TongsWin × Bool)) (gs : List (TongsGroup × Bool)),
    h.plen.toNat = 40 * nwin.toNat + 8 * ngroup.toNat → s.locked [0x0605] = false → nwin.toNat ≤ 64 → ngroup.toNat ≤ 16 →
    ws = (chunks 40 nwin.toNat (s.payload h)).map (tongsWinOf (ryOf s.board)) →
    gs = (chunks 8 ngroup.toNat ((s.payload h).drop (40 * nwin.toNat))).map tongsGroupOf →
    ws.all (·.2) = true → gs.all (·.2) = true → groupsOk (ws.map (·.1)) (gs.map (·.1)) = true →
    ∃ t, exec (.svTongsStage h nwin ngroup) s = .next t ∧ State.Stages h 0x0605 0x0605 []
      { s.shadow with sv := { s.shadow.sv with tongs := { wins := ws.map (·.1), groups := gs.map (·.1) } } } s t) ∧
  (∀ (nstrip : BitVec 8) (xs : List (LadleStrip × Bool)), h.plen.toNat = 36 * nstrip.toNat → s.locked [0x0606] = false →
    nstrip.toNat ≤ 8 → xs = (chunks 36 nstrip.toNat (s.payload h)).map ladleStripOf → xs.all (·.2) = true →
    ∃ t, exec (.svLadleStage h nstrip) s = .next t ∧
      State.Stages h 0x0606 0x0606 [] { s.shadow with sv := { s.shadow.sv with ladle := xs.map (·.1) } } s t) ∧
  (∀ (colour pvCh qt : BitVec 8), h.plen.toNat = (if qt = 1 then 128 else 0) → s.locked [0x0607] = false → colour.toNat ≤ 1 →
    pvCh.toNat ≤ 3 → qt.toNat ≤ 1 →
    ∃ t, exec (.svPreviewStage h colour pvCh qt) s = .next t ∧ State.Stages h 0x0607 0x0607 []
      { s.shadow with sv := { s.shadow.sv with preview :=
          { colour := colour == 1, pvCh := pvCh.toNat, qt := if qt = 1 then some (s.payload h) else s.shadow.sv.preview.qt } } } s t) ∧
  (∀ (ncrop : BitVec 8) (xs : List (CropReq × Bool)) (f : Tables → Tables), h.plen.toNat = 20 * ncrop.toNat → s.locked [0x0608] = false →
    ncrop.toNat ≤ 16 → xs = (chunks 20 ncrop.toNat (s.payload h)).map cropOf → xs.all (·.2) = true →
    f = (fun t => { t with sv := { t.sv with crops := xs.map (·.1) } }) → s.fitsRing (f s.shadowView) = true →
    ∃ t, exec (.svCropStage h ncrop) s = .next t ∧ State.Stages h 0x0608 0x0608 [] (f s.shadow) s t) ∧
  (∀ mask : BitVec 8, h.plen = 0 → s.locked [0x0F01] = false → mask.toNat < 32 →
    ∃ t, exec (.diagSvBypass h mask) s = .next t ∧ State.Stages h 0x0F01 0x0F01 []
      { s.shadow with sv := { s.shadow.sv with bypass := mask.extractLsb' 0 5 } } s t) ∧
  (∀ (port : BitVec 8) (queue : BitVec 16), h.plen = 0 → s.locked [0x0F00] = false →
    (port = 0xFF ∨ (port.toNat < s.board.member.ports ∧ isProductQueue queue.toNat = true)) →
    (∀ j, s.sv.job = some j → port ≠ 0xFF → j.en.getLsbD 3 = false ∧ j.en.getLsbD 4 = false) →
    ∃ t, exec (.diagTapStage h port queue) s = .next t ∧
      State.Stages h 0x0F00 0x0F00 [] { s.shadow with diagPort := port.toNat, diagQ := queue.toNat } s t)

/-- Stagings of the Skillet family (R323, R324, R325, R326, R338). -/
def Obligations.SkilletStagingsComplete : Prop := ∀ (h : Hdr) (s : State), s.accepts h [.s] = true →
  (∀ (en line latLimit slkEn lanes : BitVec 8) (x : SklCfg), h.plen = 0 → s.locked [0x0700] = false → en.toNat ≤ 1 → line.toNat ≤ 3 →
    slkEn.toNat ≤ 1 → (lanes = 1 ∨ lanes = 2 ∨ lanes = 4) →
    x = { en := en == 1, line := line.toNat, latLimit := latLimit.toNat, slkEn := slkEn == 1, lanes := lanes.toNat } →
    check343 s.board.member s.banks { s.shadowView with sklCfg := x } = true →
    ∃ t, exec (.sklCfgStage h en line latLimit slkEn lanes) s = .next t ∧
      State.Stages h 0x0700 0x0700 [] { s.shadow with sklCfg := x } s t) ∧
  (∀ (first count : BitVec 16) (es : List (SklGroup × Bool)) (f : Tables → Tables), h.plen.toNat = 8 * count.toNat →
    s.locked [0x0701] = false → 1 ≤ count.toNat → first.toNat + count.toNat ≤ 16384 →
    es = (chunks 8 count.toNat (s.payload h)).map (fun b => sklGroupOf (leVal b)) →
    f = (fun t => { t with sklMap := es.zipIdx.foldl (fun m x => sset SklGroup.reset (first.toNat + x.2) x.1.1 m) t.sklMap }) →
    es.all (·.2) = true → check324 s.board.member (f s.shadowView) = true →
    check343 s.board.member s.banks (f s.shadowView) = true →
    ∃ t, exec (.sklMapStage h first count) s = .next t ∧ State.Stages h 0x0701 0x0701 [] (f s.shadow) s t) ∧
  (∀ (first count : BitVec 16) (es : List Nat), h.plen.toNat = 2 * count.toNat → s.locked [0x0701] = false → 1 ≤ count.toNat →
    first.toNat + count.toNat ≤ 16384 → es = (chunks 2 count.toNat (s.payload h)).map leVal →
    ∃ t, exec (.sklProfileStage h first count) s = .next t ∧ State.Stages h 0x0702 0x0701 []
      { s.shadow with sklMap := es.zipIdx.foldl (fun m x =>
          supd SklGroup.reset (first.toNat + x.2) (fun g => { g with expect := x.1 }) m) s.shadow.sklMap } s t) ∧
  (∀ (first count : BitVec 8) (es : List (SklClass × Bool)), h.plen.toNat = 16 * count.toNat → s.locked [0x0703] = false →
    1 ≤ count.toNat → first.toNat + count.toNat ≤ 16 → es = (chunks 16 count.toNat (s.payload h)).map sklClassOf →
    es.all (·.2) = true →
    ∃ t, exec (.sklClassStage h first count) s = .next t ∧ State.Stages h 0x0703 0x0703 []
      { s.shadow with sklClass := es.zipIdx.foldl (fun m x => sset SklClass.reset (first.toNat + x.2) x.1.1 m) s.shadow.sklClass } s t) ∧
  (∀ es : List (List Byte), h.plen = 64 → s.locked [0x0704] = false → es = chunks 4 16 (s.payload h) →
    (∀ b ∈ es, rd b 0 1 ≤ 1 ∧ rd b 1 1 ≤ 1) →
    ∃ t, exec (.sklFevStage h) s = .next t ∧ State.Stages h 0x0704 0x0704 []
      { s.shadow with sklFev := es.zipIdx.foldl (fun m x =>
          sset SklFev.reset x.2 { mode := rd x.1 0 1, actLow := rd x.1 1 1 == 1, minHi := rd x.1 2 2 } m) [] } s t)

/-- Stagings of the Illumination family (R349, R352, R353, R363, R366, R574). LSW_STAGE ends later, once its chain has shifted. -/
def Obligations.LampStagingsComplete : Prop := ∀ (h : Hdr) (s : State), s.accepts h [.s] = true →
  (∀ (row : BitVec 8) (x : IlmRow × Bool), h.plen = 20 → s.locked [0x0800] = false → row.toNat ≤ 3 → x = ilmRowOf (s.payload h) →
    x.2 = true → (x.1.lpz = (rowCfg s.active row.toNat).lpz ∨ s.failedOf row.toNat = []) →
    ∃ t, exec (.ilmRowStage h row) s = .next t ∧ State.Stages h 0x0800 0x0800 []
      { s.shadow with ilmRow := sset IlmRow.reset row.toNat x.1 s.shadow.ilmRow } s t) ∧
  (∀ ds : List Nat, h.plen = 32 → s.locked [0x0801] = false → ds = (chunks 2 16 (s.payload h)).map leVal →
    (∀ d ∈ ds, 1 ≤ d ∧ d ≤ 4096) →
    ∃ t, exec (.ilmLevelStage h) s = .next t ∧ State.Stages h 0x0801 0x0801 [] { s.shadow with dim := ds } s t) ∧
  (∀ (row : BitVec 8) (c : IlmTcomp), h.plen = 32 → s.locked [0x0802] = false → row.toNat ≤ 3 →
    c = { temps := (chunks 4 8 (s.payload h)).map (fun b => rdS b 0 2), ks := (chunks 4 8 (s.payload h)).map (fun b => rd b 2 2) } →
    tempsRise c.temps = true →
    ∃ t, exec (.ilmTcompStage h row) s = .next t ∧ State.Stages h 0x0802 0x0802 []
      { s.shadow with tcomp := sset IlmTcomp.reset row.toNat c s.shadow.tcomp } s t) ∧
  (∀ (row zone lamp : BitVec 8), h.plen = 0 → s.locked [0x0805] = false → row.toNat ≤ 3 → zone.toNat < s.board.member.ports →
    (lamp.toNat < 16 ∨ lamp = 0xFF) →
    ∃ t, exec (.ilmLampClear h row zone lamp) s = .next t ∧ State.Stages h 0x0805 0x0805 [] s.shadow s t ∧
      ∀ n, n < 16 → (lamp = 0xFF ∨ n = lamp.toNat) → lampKey (row.toNat, zone.toNat, n) ∈ t.staged.lamps) ∧
  (∀ row : BitVec 8, h.plen = 0 → s.locked [0x0806] = false → row.toNat ≤ 3 → (s.row row.toNat).ovNow = false →
    ∃ t, exec (.ilmRowClear h row) s = .next t ∧ State.Stages h 0x0806 0x0806 [] s.shadow s t ∧ row.toNat ∈ t.staged.rows) ∧
  (∀ chain : BitVec 8, h.plen = 0 → s.locked [0x0803] = false → chain.toNat ≤ 1 → (s.chain chain.toNat).staging = none →
    ∃ t, exec (.lswStage h chain 1 0) s = .next t ∧ t.Runs h 0x0803 ∧
      (t.chain chain.toNat).staging = some (h.ctx.toNat, true)) ∧
  (∀ (chain : BitVec 8) (nbits : BitVec 16) (n : Nat) (pat : List Bool), s.locked [0x0803] = false → chain.toNat ≤ 1 →
    n = chainLen s.board.member.ports s.shadow chain.toNat → nbits.toNat = n → h.plen.toNat = divUp n 8 →
    (s.chain chain.toNat).staging = none → pat = (List.range n).map (fun i => bit (leVal (s.payload h)) i) →
    (∀ i ∈ setBits (8 * divUp n 8) (leVal (s.payload h)), i < n) →
    closesZone s.board.member.ports s.shadow chain.toNat pat = false →
    ∃ t, exec (.lswStage h chain 0 nbits) s = .next t ∧ t.Runs h 0x0803 ∧
      (t.chain chain.toNat).staging = some (h.ctx.toNat, false) ∧ (t.chain chain.toNat).bits = pat)

/-- Stagings of the Motion, Monitor and Simmer families and of the DRAM controller, whose values take effect at their own unit's
boundary (R377, R390, R412, R416, R440, R453, R459, R473, R479). -/
def Obligations.UnitStagingsComplete : Prop := ∀ (h : Hdr) (s : State),
  (s.accepts h [.s] = true →
    (∀ (axis : BitVec 8) (c : MotCfg × Bool), h.plen = 79 → s.locked [0x0900] = false → axis.toNat ≤ 3 →
      s.pacedAxis axis.toNat = false → c = motCfgOf axis.toNat (s.payload h) → c.2 = true → s.axisBusy axis.toNat = false →
      (axis = 0 → s.hasRing = true → s.shadowView.ltPace.hwm ≠ 0 →
        stopFits s.ring.cap (s.ceiling { s.shadowView with motCfg := sset MotCfg.reset 0 c.1 s.shadowView.motCfg })
          { s.shadowView with motCfg := sset MotCfg.reset 0 c.1 s.shadowView.motCfg } = true) →
      ∃ t, exec (.motAxisStage h axis) s = .next t ∧ State.Stages h 0x0900 0x0900 []
        { s.shadow with motCfg := sset MotCfg.reset axis.toNat c.1 s.shadow.motCfg } s t) ∧
    (∀ (axis first count : BitVec 8) (gs : List RampSeg), h.plen.toNat = 12 * count.toNat → s.locked [0x0901] = false →
      axis.toNat ≤ 3 → first.toNat + count.toNat ≤ 64 → s.pacedAxis axis.toNat = false → s.axisBusy axis.toNat = false →
      gs = (chunks 12 count.toNat (s.payload h)).map (fun b => ({ dur := rd b 0 4, endPos := rdS b 4 4, endVel := rdS b 8 4 } : RampSeg)) →
      (∀ g ∈ gs, 1 ≤ g.dur ∧ g.dur < 2 ^ 24) →
      ∃ t, exec (.motRampStage h axis first count) s = .next t ∧ State.Stages h 0x0901 0x0901 []
        { s.shadow with ramps := gs.zipIdx.foldl (fun m g =>
            sset RampSeg.reset (256 * axis.toNat + first.toNat + g.2) g.1 m) s.shadow.ramps } s t) ∧
    (h.plen = 336 → s.locked [0x0902] = false → s.axisBusy 1 = false → s.axisBusy 2 = false →
      ∃ t, exec (.motTileStage h) s = .next t ∧ State.Stages h 0x0902 0x0902 []
        { s.shadow with tiles :=
            { cWork := rdS (s.payload h) 0 8, bPark := rdS (s.payload h) 8 8,
              tiles := (chunks 40 8 ((s.payload h).drop 16)).map (fun b =>
                { bPos := rdS b 0 8, cPos := rdS b 8 8, vB := rd b 16 4, accB := rd b 20 4, decB := rd b 24 4, vC := rd b 28 4,
                  accC := rd b 32 4, decC := rd b 36 4 }) } } s t) ∧
    (∀ (mainsSrc mult calPeriod : BitVec 8), h.plen = 0 → mainsSrc.toNat ≤ 2 → 1 ≤ mult.toNat → mult.toNat ≤ 16 →
      ∃ t, exec (.madcCfgStage h mainsSrc mult calPeriod) s = .next t ∧ t.Done h 0x0A00 [] ∧
        t.madc = { s.madc with nextCfg := some (mainsSrc.toNat, mult.toNat, calPeriod.toNat) }) ∧
    (∀ (len : BitVec 8) (es : List (SeqEntry × Bool)), h.plen.toNat = 4 * len.toNat → len.toNat ≤ 128 →
      es = (chunks 4 len.toNat (s.payload h)).map (fun b => seqEntryOf (leVal b)) →
      (∀ e ∈ es, e.2 = true ∧ s.madcChan e.1.ch ≠ cRange ∧ s.madcChan e.1.ch ≠ cConflict) →
      ∃ t, exec (.madcSeqStage h len) s = .next t ∧ t.Done h 0x0A01 [] ∧ t.madc = { s.madc with nextSeq := some (es.map (·.1)) }) ∧
    (∀ (first count curves : BitVec 8) (xs : List (SetCfg × Bool)) (raw : List (List Byte)),
      h.plen.toNat = 12 * count.toNat + 128 * (setBits 4 curves.toNat).length → first.toNat + count.toNat ≤ 64 → curves.toNat < 16 →
      xs = (chunks 12 count.toNat (s.payload h)).map setCfgOf → xs.all (·.2) = true →
      raw = chunks 128 (setBits 4 curves.toNat).length ((s.payload h).drop (12 * count.toNat)) →
      (∀ b ∈ raw, curveOk (curveOf b) = true ∧ ∀ q ∈ chunks 8 16 b, rd q 6 2 = 0) →
      ∃ t, exec (.madcSetStage h first count curves) s = .next t ∧ t.Done h 0x0A02 [] ∧
        t.madc = { s.madc with nextSets := s.madc.nextSets ++ xs.zipIdx.map (fun x => (first.toNat + x.2, x.1.1)),
                               nextCurves := s.madc.nextCurves ++ (setBits 4 curves.toNat).zip (raw.map curveOf) })) ∧
  (s.accepts h [.s, .t] = true → h.plen = 0 →
    (∀ (tTarget theta tRelease tHold dwell ceilMin : BitVec 16) (bucket : BitVec 8),
      17920 ≤ tTarget.toInt → tTarget.toInt ≤ 25600 → 1 ≤ theta.toNat → 15360 ≤ tRelease.toInt → tRelease.toInt ≤ 24320 →
      26880 ≤ tHold.toInt → tHold.toInt ≤ 30208 → 100 ≤ dwell.toNat → dwell.toNat ≤ 60000 → 512 ≤ ceilMin.toNat →
      ceilMin.toNat ≤ 4096 → 1 ≤ bucket.toNat → bucket.toNat ≤ 16 →
      ∃ t, exec (.simmerCfgStage h tTarget theta tRelease tHold dwell ceilMin bucket) s = .next t ∧ t.Done h 0x0B00 [] ∧
        t.simmer = { s.simmer with
          nextCfg := some { tTarget := tTarget.toInt, theta := theta.toNat, tRelease := tRelease.toInt, tHold := tHold.toInt, dwell := dwell.toNat,
                            ceilMin := ceilMin.toNat, bucket := bucket.toNat, pBoard := 0 } }) ∧
    (∀ pBoard : BitVec 16, ∃ t, exec (.simmerPowerLimit h pBoard) s = .next t ∧ t.Done h 0x0B01 [] ∧
      t.simmer = { s.simmer with nextBoard := some pBoard.toNat })) ∧
  (s.accepts h [.w] = true → h.plen = 0 →
    ∀ (fields layout prot scrub : BitVec 8) (age : BitVec 16) (d : Dram), fields.toNat < 16 →
      (fields.getLsbD 0 = true → layout.toNat < 2) →
      (fields.getLsbD 1 = true → 1 ≤ prot.toNat ∧ prot.toNat ≤ 8) → (fields.getLsbD 2 = true → 250 ≤ age.toNat) →
      (fields.getLsbD 3 = true → 1 ≤ scrub.toNat ∧ scrub.toNat ≤ 168) →
      d = { s.dram with prot := if fields.getLsbD 1 then prot.toNat else s.dram.prot,
                        ageLimit := if fields.getLsbD 2 then age.toNat else s.dram.ageLimit,
                        scrubH := if fields.getLsbD 3 then scrub.toNat else s.dram.scrubH } →
      (fields.getLsbD 0 = false →
        ∃ t, exec (.dramCfgStage h fields layout prot scrub age) s = .next t ∧ t.Done h 0x0C00 [] ∧ t.dram = d) ∧
      (∀ s2, fields.getLsbD 0 = true → nvWritable s.sec.lifecycle 3 = true →
        State.nvPut .ownerCfg (le 1 layout.toNat) .layout (some h.ctx.toNat) { s.taken h 0x0C00 with dram := d } = some s2 →
        ∃ t, exec (.dramCfgStage h fields layout prot scrub age) s = .next t ∧ t.Runs h 0x0C00 ∧ t.sec.writes = s2.sec.writes ∧
          t.dram = d))

/-! ## Commands that read or act at once -/

/-- Commands that write a result into a window end DONE with that range of the window holding the result (R154, R209, R240, R270,
R332, R418, R451, R474, R556). -/
def Obligations.WindowReadsComplete : Prop := ∀ (h : Hdr) (window : BitVec 8) (offset : BitVec 32) (a : Nat) (s : State),
  s.accepts h [.c] = true → h.plen = 0 → a = s.winAddr window.toNat offset.toNat →
  (∀ (die : BitVec 8) (bs : List Byte), die.toNat < s.board.member.dies →
    bs = (List.range 104).flatMap (fun c => (s.taken h 0x020C).residRec die.toNat c) → s.winHas window.toNat offset.toNat bs.length = true →
    ∃ t, exec (.afeResidRead h die window offset) s = .next t ∧ State.Writes h 0x020C a bs [] s t) ∧
  (∀ (set copy : BitVec 8) (x : ShdSet) (bs : List Byte), set.toNat ≤ 3 → copy.toNat ≤ 1 →
    (if copy = 0 then s.activeSet set.toNat else s.stagedSet set.toNat) = some x →
    bs = x.image (pixCount s.board.member (if copy = 0 then s.active else s.shadow)) →
    s.winHas window.toNat offset.toNat bs.length = true →
    ∃ t, exec (.shdSetRead h set window copy offset) s = .next t ∧ State.Writes h 0x0404 a bs [] s t) ∧
  (∀ (x : ShdSet) (c : ShdCfg) (vs : List Nat) (fig : Nat → Nat → Quality) (bs : List Byte),
    x = (match s.shd.staged with | some k => s.stagedSet k | none => s.activeSet s.shd.qSet).getD ShdSet.reset →
    c = (if s.shd.staged.isSome then s.shadow.shdCfg else s.active.shdCfg) → vs = ((s.taken h 0x0408).frees 16 384).1 →
    fig = (fun z k => if s.shd.qPorts.getLsbD z then sget Quality.reset (4 * z + k) s.shd.quality
      else x.figures (if s.shd.staged.isSome then s.shadow else s.active) z k
        (vs.getD (2 * (4 * z + k)) 0, vs.getD (2 * (4 * z + k) + 1) 0)) →
    bs = (List.range 48).flatMap (fun z => (List.range 4).flatMap (fun k =>
      le 2 (fig z k).rnu ++ le 2 (fig z k).prnu ++ le 2 (fig z k).defects ++ le 2 (fig z k).unrecov ++ leS 2 (tagOf c x z k) ++ le 2 0)) →
    s.winHas window.toNat offset.toNat bs.length = true →
    ∃ t, exec (.shdQualityRead h window offset) s = .next t ∧ State.Writes h 0x0408 a bs [] s t) ∧
  (∀ (bs : List Byte), bs = s.aln.seams.flatMap (fun q => le 1 q.portA ++ le 1 q.portB ++ le 2 q.resid ++ le 2 q.dstep ++ le 2 0) →
    s.winHas window.toNat offset.toNat bs.length = true →
    ∃ t, exec (.seamQualityRead h window offset) s = .next t ∧ State.Writes h 0x0504 a bs [] s t) ∧
  (∀ (bs : List Byte), bs = (List.range 16384).flatMap (fun g => le 4 (sget GroupSt.reset g s.skl.snap).word) →
    s.winHas window.toNat offset.toNat bs.length = true →
    ∃ t, exec (.sklFlagsRead h window offset) s = .next t ∧ State.Writes h 0x0705 a bs [] s t) ∧
  (∀ (clear maskHi : BitVec 8) (mask : BitVec 64) (bs : List Byte), clear.toNat ≤ 1 →
    bs = (setBits 72 (mask.toNat + 2 ^ 64 * maskHi.toNat)).flatMap (fun n => (s.taken h 0x0A06).accRec n) →
    s.winHas window.toNat offset.toNat bs.length = true →
    ∃ t, exec (.madcAccRead h window clear offset mask maskHi) s = .next t ∧ State.Writes h 0x0A06 a bs [] s t ∧
      (clear = 1 → ∀ n ∈ setBits 72 (mask.toNat + 2 ^ 64 * maskHi.toNat), (sget AccSet.reset n t.madc.acc).sticky = false)) ∧
  (∀ (bs : List Byte), bs = (s.taken h 0x0B02).thermBytes → s.winHas window.toNat offset.toNat bs.length = true →
    ∃ t, exec (.thermRead h window offset) s = .next t ∧ State.Writes h 0x0B02 a bs [] s t) ∧
  (∀ (clear : BitVec 8) (bs : List Byte), clear.toNat ≤ 1 → bs = s.dram.log.flatMap LogEntry.bytes →
    s.winHas window.toNat offset.toNat bs.length = true →
    ∃ t, exec (.dramLogRead h window clear offset) s = .next t ∧ State.Writes h 0x0C06 a bs
      (le 2 s.dram.log.length ++ le 2 (min 0xFFFF s.dram.dropCorr) ++ le 2 (min 0xFFFF s.dram.dropUnc)) s t ∧
      (clear = 1 → t.dram.log = [] ∧ t.dram.dropCorr = 0 ∧ t.dram.dropUnc = 0))

/-- CFG_PROFILE sets the profile, AFE_FG_CAL and AFE_TRIM_SAVE start, and PORT_STATUS_READ returns and clears the causes of a port
(R48, R153, R155, R565). -/
def Obligations.PortCommandsComplete : Prop := ∀ (h : Hdr) (s : State), h.plen = 0 →
  (∀ profile : BitVec 8, s.accepts h [.idle] = true → profile.toNat ≤ 1 →
    ∃ t, exec (.cfgProfile h profile) s = .next t ∧ t.Done h 0x0200 [] ∧
      t.mode = { s.mode with profile := if profile = 0 then .fast else .dense }) ∧
  (∀ dies : BitVec 8, s.accepts h [.idleDiag] = true → dies.toNat < 2 ^ s.board.member.dies → s.ports.fgCal = none →
    ∃ t, exec (.afeFgCal h dies) s = .next t ∧ t.Runs h 0x020A ∧ t.ports.fgCal = some (h.ctx.toNat, dies.setWidth 4)) ∧
  (∀ s1, s.accepts h [.s] = true → (s.taken h 0x020B).saveTrims (some h.ctx.toNat) = some s1 →
    ∃ t, exec (.afeTrimSave h) s = .next t ∧ t.Runs h 0x020B ∧ t.sec.writes = s1.sec.writes) ∧
  (∀ port : BitVec 8, s.accepts h [.c] = true → port.toNat < s.board.member.ports →
    ∃ t, exec (.portStatusRead h port) s = .next t ∧ t.Done h 0x020D
        (le 1 (s.seg port.toNat).state.code ++ le 1 (b2n (s.seg port.toNat).pres) ++ le 1 (s.seg port.toNat).causes.toNat ++
          le 1 (s.seg port.toNat).qual.toNat ++ le 4 (s.seg port.toNat).qualLines) ∧
      (t.seg port.toNat).causes = 0)

/-- SHD_CALIBRATE and ALN_CALIBRATE start, and hold their context until they end (R232, R234, R267). LAMP_TEST starts with the rows,
code and line count it names; with no row named it ends at once (R368). -/
def Obligations.CalibrationsAndLampTestStart : Prop :=
  (∀ (h : Hdr) (s : State), s.accepts h [.k] = true → h.plen = 0 →
    (∀ (set tileAuto : BitVec 8) (settleMs : BitVec 16) (ports : BitVec 64) (tRed tGrn tBlu tNir : BitVec 16) (defLo defHi : BitVec 8)
      (darkMax : BitVec 16), set.toNat < setsMax s.board.member s.active → tileAuto.toNat ≤ 1 → settleMs.toNat ≤ 1000 →
      ports.toNat < 2 ^ s.board.member.ports → 0x1000 ≤ tRed.toNat → 0x1000 ≤ tGrn.toNat → 0x1000 ≤ tBlu.toNat → 0x1000 ≤ tNir.toNat →
      s.setBusy set.toNat = none →
      (∀ p ∈ setBits 64 ports.toNat, (s.seg p).state = .active ∨ (s.seg p).state = .covered ∨ (s.seg p).state = .qualify) →
      (tileAuto = 1 → (s.axis 1).homed = true ∧ s.axisIdle 1 = true ∧ (s.axis 2).homed = true ∧ s.axisIdle 2 = true) →
      ∃ t c, exec (.shdCalibrate h set tileAuto settleMs ports tRed tGrn tBlu tNir defLo defHi darkMax) s = .next t ∧
        t.Runs h 0x0405 ∧ t.shd.cal = some c ∧ c.ctx = h.ctx.toNat ∧ c.set = set.toNat ∧ c.ports = ports ∧
        c.targets = [tRed.toNat, tGrn.toNat, tBlu.toNat, tNir.toNat] ∧
        (tileAuto = 0 → c.until_ = some (max s.now h.t + 1000000 * settleMs.toNat))) ∧
    (∀ (ports : BitVec 64) (nbars : BitVec 16) (refPort window : BitVec 8) (xRef offset timeout : BitVec 32),
      16 ≤ zeroIs 64 nbars.toNat → zeroIs 64 nbars.toNat ≤ 256 → ports.toNat < 2 ^ s.board.member.ports →
      bit ports.toNat refPort.toNat = true → xRef.toNat < 2 ^ 24 →
      s.winHas window.toNat offset.toNat (2 + 16 * s.board.member.ports) = true → s.aln.cal = none → s.shd.cal = none →
      ∃ t c, exec (.alnCalibrate h ports nbars refPort window xRef offset timeout) s = .next t ∧ t.Runs h 0x0503 ∧
        t.aln.cal = some c ∧ c.ctx = h.ctx.toNat ∧ c.ports = ports ∧ c.nbars = zeroIs 64 nbars.toNat ∧
        c.deadline = max s.now h.t + zeroIs 60000 timeout.toNat * 1000000)) ∧
  (∀ (h : Hdr) (rows testCode : BitVec 8) (testNs lines : BitVec 16) (when_ : BitVec 8)
    (vLamp vOfs : BitVec 16) (s : State), s.accepts h [.j, .k] = true → h.plen = 0 → rows.toNat < 16 → 1 ≤ testCode.toNat →
    testCode.toNat ≤ 127 → 80 ≤ testNs.toNat → testNs.toNat ≤ 400 → lines ≠ 0 → when_.toNat ≤ 1 → s.ilm.test = none →
    (rows ≠ 0 → ∃ t x, exec (.lampTest h rows testCode testNs lines when_ vLamp vOfs) s = .next t ∧ t.Runs h 0x0804 ∧
      t.ilm.test = some x ∧ x.ctx = h.ctx.toNat ∧ x.rows = rows.setWidth 4 ∧ x.code = testCode.toNat ∧ x.ns = testNs.toNat ∧
      x.lines = lines.toNat) ∧
    (rows = 0 → 64 ≤ s.bufSize h.ctx.toNat →
      ∃ t, exec (.lampTest h rows testCode testNs lines when_ vLamp vOfs) s = .next t ∧ t.Ended h 0x0804 .done cOk [] 64 ∧
        t.ilm.test = none))

/-- Service jobs and their references start, a chain value goes to Trivet for its signature, and a job that is ended closes (R273,
R274, R284, R318). -/
def Obligations.ServiceCommandsComplete : Prop := ∀ (h : Hdr) (s : State), s.accepts h [.j] = true →
  (∀ (jobId : BitVec 32) (en slots refWindow : BitVec 8) (width height : BitVec 32)
    (qSieve qTongs qLadle qPreview qCrop qSummary : BitVec 16) (x0 : BitVec 32) (named : List Nat), h.plen = 0 → en.toNat < 32 →
    2 ≤ slots.toNat → slots.toNat ≤ 8 →
    named = (List.range 6).filterMap (fun k => if k = 5 || en.getLsbD k then
      ([qSieve, qTongs, qLadle, qPreview, qCrop, qSummary].map (·.toNat))[k]? else none) →
    named.all isResultQueue = true → named.Nodup → s.sv.job = none →
    (en.getLsbD 0 = true → 1 ≤ width.toNat ∧ width.toNat ≤ 131072 ∧ 1 ≤ height.toNat ∧ height.toNat ≤ 16777216 ∧
      s.winHas refWindow.toNat 0 (slots.toNat * slotBytes width.toNat height.toNat) = true) →
    ((en.getLsbD 3 || en.getLsbD 4) = true → s.active.diagPort = 0xFF) →
    ∃ t j, exec (.svJobStart h jobId en slots refWindow width height qSieve qTongs qLadle qPreview qCrop qSummary x0) s = .next t ∧
      (t.ctx h.ctx.toNat).cur = none ∧ t.sv.job = some j ∧ j.id = jobId ∧ j.en = en.extractLsb' 0 5 ∧ j.slots = slots.toNat ∧
      j.nextPage = 0 ∧ j.closing = false ∧ j.chain = j.hash ∧
      j.hash = sha256 (le 4 jobId.toNat ++ le 4 s.lt.seq.toNat ++ sha256 s.active.sv.image ++ List.replicate 24 0)) ∧
  (∀ j, h.plen = 0 → s.sv.job = some j → j.closing = false → (∀ r ∈ j.refs, r.ctx ≠ h.ctx.toNat) → j.pages ≠ [] →
    ∃ t j', exec (.svJobEnd h) s = .next t ∧ t.Runs h 0x0601 ∧ t.sv.job = some j' ∧ j'.closing = true ∧
      j'.endCtx = some h.ctx.toNat ∧ j'.refs = []) ∧
  (∀ (window ncrops : BitVec 8) (offset length pageSeq : BitVec 32) (cs : List (CropReq × Bool)) (j : Job),
    h.plen.toNat = 20 * ncrops.toNat → ncrops.toNat ≤ 16 → cs = (chunks 20 ncrops.toNat (s.payload h)).map cropOf →
    cs.all (·.2) = true → s.sv.job = some j → j.closing = false → s.winHas window.toNat offset.toNat length.toNat = true →
    pageSeq ≠ 0xFFFFFFFF → j.opened pageSeq.toNat = false → (∀ r ∈ j.refs, r.page ≠ pageSeq.toNat) →
    (s.hasRing = true → ringLine s.active (cs.map (·.1)) ≤ s.ring.rl) →
    (j.refs.filter (fun r => r.state == .waiting)).length < 64 →
    ∃ t j' r, exec (.svRefSubmit h window ncrops offset length pageSeq) s = .next t ∧ t.Runs h 0x0602 ∧ t.sv.job = some j' ∧
      r ∈ j'.refs ∧ r.ctx = h.ctx.toNat ∧ r.page = pageSeq.toNat ∧ r.state = .waiting ∧ r.crops = cs.map (·.1)) ∧
  (∀ j, h.plen = 0 → s.sv.job = some j → s.sec.debugOpen = false → s.sec.dik = true →
    ∃ t, exec (.svChainSign h) s = .next t ∧ t.Runs h 0x0603 ∧ t.sec.reqs = s.sec.reqs ++
      [{ opcode := 0x0603, ctx := h.ctx.toNat, body := (s.taken h 0x0603).inspection j false, target := 0, window := 0, offset := 0 }])

/-- Moves that no check refuses join the queue of their axis, or of both axes, and wait there (R385, R387, R392). MOT_ADJUST changes
the limits of the running move, MOT_STOP ends at once on an axis at rest and otherwise waits for rest, and MOT_FAULT_CLEAR energises
the axis again (R393, R395, R398). -/
def Obligations.MotionCommandsComplete : Prop :=
  (∀ (h : Hdr) (axis : BitVec 8) (s : State), s.accepts h [.m] = true → h.plen = 0 →
    axis.toNat ≤ 3 →
    (s.pacedAxis axis.toNat = false → s.motRefusal axis.toNat false = none → (s.axis axis.toNat).queue.length < 4 →
      (∀ (rel : BitVec 8) (target : BitVec 64) (vMax acc dec : BitVec 32) (goal : Int), rel.toNat ≤ 1 →
        s.rateOk axis.toNat vMax.toNat [acc.toNat, dec.toNat] = true →
        goal = (if rel = 1 then s.queueEnd axis.toNat + target.toInt else target.toInt) →
        (rel = 0 → (s.axis axis.toNat).homed = true) → s.targetIn axis.toNat goal = true →
        ∃ t, exec (.motMove h axis rel target vMax acc dec) s = .next t ∧ t.Runs h 0x0903 ∧ (t.axis axis.toNat).queue =
          (s.axis axis.toNat).queue ++ [{ ctx := some h.ctx.toNat, kind := .move goal vMax.toNat acc.toNat dec.toNat }]) ∧
      (∀ (first last : BitVec 8), first.toNat ≤ last.toNat → last.toNat ≤ 63 →
        rampsOk (s.motCfg axis.toNat)
          (if (s.axis axis.toNat).homed then some ((s.motCfg axis.toNat).posMin, (s.motCfg axis.toNat).posMax) else none)
          (s.queueEnd axis.toNat) 0 0 (rampOf s.active axis.toNat first.toNat last.toNat) = true →
        ∃ t, exec (.motTable h axis first last) s = .next t ∧ t.Runs h 0x0904 ∧ (t.axis axis.toNat).queue =
          (s.axis axis.toNat).queue ++ [{ ctx := some h.ctx.toNat, kind := .table first.toNat last.toNat }]) ∧
      (∀ (vMax acc : BitVec 32), s.rateOk axis.toNat vMax.toInt.natAbs [acc.toNat] = true →
        ∃ t, exec (.motJog h axis vMax acc) s = .next t ∧ t.Runs h 0x0905 ∧ (t.axis axis.toNat).queue =
          (s.axis axis.toNat).queue ++ [{ ctx := some h.ctx.toNat, kind := .jog vMax.toInt acc.toNat }]) ∧
      ((axis = 0 → s.active.io.enc1 = 2 ∧ s.shadow.io.enc1 ≠ 1 ∧ s.ltClaims = false) →
        ∃ t, exec (.motFollow h axis) s = .next t ∧ t.Runs h 0x0907 ∧ (t.axis axis.toNat).queue =
          (s.axis axis.toNat).queue ++ [{ ctx := some h.ctx.toNat, kind := .follow }]) ∧
      (∀ (dir : BitVec 8) (vHome : BitVec 32) (homePos : BitVec 64) (backoff homeMax : BitVec 32), dir.toNat ≤ 1 →
        s.rateOk axis.toNat vHome.toNat [] = true → (s.motCfg axis.toNat).stallThr ≠ 0 →
        (s.motCfg axis.toNat).vStallMin ≤ vHome.toNat →
        ∃ t, exec (.motHome h axis dir vHome homePos backoff homeMax) s = .next t ∧ t.Runs h 0x0908 ∧ (t.axis axis.toNat).queue =
          (s.axis axis.toNat).queue ++ [
            { ctx := some h.ctx.toNat, kind := .home (dir == 1) vHome.toNat homePos.toInt backoff.toNat homeMax.toNat }])) ∧
    (∀ (targetB targetC : BitVec 64) (vMax acc dec : BitVec 32) (db dc lead : Nat) (m : Move),
      db = (targetB.toInt - s.queueEnd 1).natAbs → dc = (targetC.toInt - s.queueEnd 2).natAbs → lead = (if dc ≤ db then 1 else 2) →
      s.rateOk lead vMax.toNat [acc.toNat, dec.toNat] = true →
      vMax.toNat * min db dc ≤ (s.motCfg (3 - lead)).vLimit * max db dc → acc.toNat * min db dc ≤ (s.motCfg (3 - lead)).aLimit * max db dc →
      dec.toNat * min db dc ≤ (s.motCfg (3 - lead)).aLimit * max db dc →
      s.motRefusal 1 false = none → s.motRefusal 2 false = none → (s.axis 1).homed = true → (s.axis 2).homed = true →
      s.targetIn 1 targetB.toInt = true → s.targetIn 2 targetC.toInt = true → (s.axis 1).queue.length < 4 → (s.axis 2).queue.length < 4 →
      m = { ctx := some h.ctx.toNat, kind := .coord targetB.toInt targetC.toInt vMax.toNat acc.toNat dec.toNat } →
      ∃ t, exec (.motCoord h targetB targetC vMax acc dec) s = .next t ∧ t.Runs h 0x0906 ∧
        (t.axis 1).queue = (s.axis 1).queue ++ [m] ∧ (t.axis 2).queue = (s.axis 2).queue ++ [m])) ∧
  (∀ (h : Hdr) (axis : BitVec 8) (s : State), s.accepts h [.m] = true → h.plen = 0 →
    axis.toNat ≤ 3 →
    (∀ (vMax acc dec : BitVec 32) (m : Move) (y : Nat), s.pacedAxis axis.toNat = false → s.motRefusal axis.toNat false = none →
      s.rateOk axis.toNat vMax.toNat [acc.toNat, dec.toNat] = true → (s.axis axis.toNat).queue.head? = some m →
      (s.axis axis.toNat).running = true → (s.axis axis.toNat).stopDec = none → y = s.profileAxis axis.toNat m →
      (match m.kind with | .move .. => True | .coord .. => True | .jog .. => True | _ => False) →
      ∃ t d, exec (.motAdjust h axis vMax acc dec) s = .next t ∧ t.Done h 0x0909 d ∧ (t.axis y).vMax = vMax.toNat ∧
        (t.axis y).acc = acc.toNat ∧ (t.axis y).dec = (if d = le 1 1 then (s.axis y).dec else dec.toNat)) ∧
    (∀ flush : BitVec 8, flush.toNat ≤ 1 → s.motRefusal axis.toNat true = none →
      (∀ m ∈ (s.axis axis.toNat).queue, m.ctx ≠ some h.ctx.toNat) →
      ((s.axis axis.toNat).running = false → ((s.axis axis.toNat).owned && (s.axis axis.toNat).v != 0) = false →
        ∃ t, exec (.motStop h axis flush) s = .next t ∧ t.Done h 0x090A (leS 8 (s.axis axis.toNat).pos)) ∧
      (((s.axis axis.toNat).running = true ∨ ((s.axis axis.toNat).owned && (s.axis axis.toNat).v != 0) = true) →
        ∃ t, exec (.motStop h axis flush) s = .next t ∧ t.Runs h 0x090A ∧
          (h.ctx.toNat, flush == 1) ∈ (t.axis axis.toNat).stops)) ∧
    (s.pacedAxis axis.toNat = false → s.motRefusal axis.toNat true = none → (s.axis axis.toNat).fltPin = false →
      ∃ t, exec (.motFaultClear h axis) s = .next t ∧ t.Done h 0x090B [] ∧
        ((s.axis axis.toNat).state = .hardFault → (t.axis axis.toNat).state = .rest ∧ (t.axis axis.toNat).gates = !s.rst.thermTrip ∧
          (t.axis axis.toNat).hold = true) ∧
        ((s.axis axis.toNat).state ≠ .hardFault → t.axes = s.axes)))

/-- MADC_CAL, MADC_INJECT and MADC_TEST are accepted: a calibration of both converters, an injected conversion, and a converter in
TEST (R422, R425, R426). -/
def Obligations.MonitorCommandsStart : Prop := ∀ (h : Hdr) (s : State), h.plen = 0 →
  (s.accepts h [.s] = true → s.madc.calCtx = none → s.convs ≠ [] →
    ∃ t, exec (.madcCal h) s = .next t ∧ t.Runs h 0x0A03 ∧ t.madc.calCtx = some h.ctx.toNat) ∧
  (∀ (ch kind settle set : BitVec 8), s.accepts h [.c] = true → kind.toNat ≤ 1 → set.toNat ≤ 63 →
    s.madcChan ch.toNat = cOk → s.madc.inj = none → s.convs ≠ [] →
    ∃ t i, exec (.madcInject h ch kind settle set) s = .next t ∧ t.Runs h 0x0A04 ∧ t.madc.inj = some i ∧ i.ctx = h.ctx.toNat ∧
      i.ch = ch.toNat ∧ i.sar = (kind == 1) ∧ i.set = set.toNat) ∧
  (∀ conv : BitVec 8, s.accepts h [.s] = true → conv.toNat ≤ 1 → s.madc.testCtx = none → s.madc.calCtx ≠ some h.ctx.toNat →
    (∀ i, s.madc.inj = some i → i.ctx ≠ h.ctx.toNat) →
    ∃ t, exec (.madcTest h conv) s = .next t ∧ t.Runs h 0x0A05 ∧ t.madc.testCtx = some (h.ctx.toNat, conv.toNat) ∧
      (t.conv conv.toNat).state = .test)

/-- Windows are created, mapped, unmapped and freed, the page ring is set, and a page is released (R552, R579, R652, R654). DRAM
training, retirement, test and restoration of a channel are accepted (R455, R478). -/
def Obligations.MemoryCommandsComplete : Prop :=
  (∀ (h : Hdr) (s : State), h.plen = 0 →
    (s.accepts h [.w] = true →
      (∀ (window part : BitVec 8) (size : BitVec 32) (a : Nat), part.toNat ≤ 1 → size ≠ 0 → s.win window.toNat = none →
        s.dramHw = false →
        (if part = 1 then s.findRoom 0 s.protSize (size.toNat * 65536) else s.findRoom s.protSize s.dramSize (size.toNat * 65536)) = some a →
        ∃ t, exec (.winCreate h window part size) s = .next t ∧ t.Done h 0x0C01 [] ∧
          t.win window.toNat = some { base := a, size := size.toNat * 65536, prot := part == 1, bar2 := none }) ∧
      (∀ (window : BitVec 8) (off : BitVec 32) (w : Window), s.win window.toNat = some w → w.bar2 = none →
        off.toNat * 65536 + w.size ≤ 2 ^ 32 →
        s.dram.windows.any (fun p => match p.2.bar2 with
          | some b => overlaps (off.toNat * 65536) w.size b p.2.size | none => false) = false →
        ∃ t, exec (.winMap h window off) s = .next t ∧ t.Done h 0x0C02 [] ∧
          t.win window.toNat = some { w with bar2 := some (off.toNat * 65536) }) ∧
      (∀ (window : BitVec 8) (w : Window), s.win window.toNat = some w → w.bar2.isSome = true →
        s.dma.chans.any (fun c => c.2.window == some window.toNat && c.2.state == .running) = false →
        ∃ t, exec (.winUnmap h window) s = .next t ∧ t.Done h 0x0C03 [] ∧ t.win window.toNat = some { w with bar2 := none }) ∧
      (∀ (window : BitVec 8) (w : Window), s.win window.toNat = some w → w.bar2 = none → s.winInUse window.toNat = false →
        ∃ t, exec (.winFree h window) s = .next t ∧ t.Done h 0x0C04 [] ∧ t.win window.toNat = none) ∧
      (∀ (window : BitVec 8) (offset size : BitVec 32) (qDesc : BitVec 16) (rl c : Nat), isProductQueue qDesc.toNat = true →
        rl = max 64 (s.ringNeed s.active) → c = size.toNat / rl → c ≠ 0 → s.ring.pages = [] →
        s.winHas window.toNat offset.toNat size.toNat = true → pageFits c s.shadowView = true →
        ∃ t, exec (.ringSet h window offset size qDesc) s = .next t ∧ t.Done h 0x0C05 (le 4 c ++ le 4 rl) ∧ t.ring.cap = c ∧
          t.ring.rl = rl ∧ t.ring.window = window.toNat ∧ t.ring.offset = offset.toNat ∧ t.ring.pages = [])) ∧
    (∀ (firstSeq : BitVec 32) (ps : List RingPage), s.accepts h [.b] = true → markReleased firstSeq s.ring.pages = some ps →
      ∃ t, exec (.pageRelease h firstSeq) s = .next t ∧ t.ring = { s.ring with pages := dropReleased ps } ∧
        t.Done h 0x0D03 (le 4 t.fill))) ∧
  (∀ (h : Hdr) (ch : BitVec 8) (s : State), h.plen = 0 →
    (s.accepts h [.d] = true →
      ∃ t, exec (.dramTrain h) s = .next t ∧ t.Runs h 0x0C07 ∧ t.dram.trainCtx = some h.ctx.toNat) ∧
    (s.accepts h [.j, .w] = true → s.dram.resilient = true →
      (ch.toNat < 7 → s.dram.spare = 0 →
        ∃ t, exec (.dramChRetire h ch) s = .next t ∧ t.Runs h 0x0C08 ∧ t.dram.spare = 1 ∧ t.dram.spared = some ch.toNat ∧
          t.dram.rebuild = some { ch := ch.toNat, retire := true, restore := false, pos := 0, ctx := some h.ctx.toNat }) ∧
      (ch.toNat < 8 → s.dram.spare = 2 → s.dram.spared = some ch.toNat →
        (∀ passes : BitVec 8, passes ≠ 0 →
          ∃ t d, exec (.dramChTest h ch passes) s = .next t ∧ t.Done h 0x0C09 d ∧ t.fresh = s.fresh + passes.toNat) ∧
        (s.dram.rebuild = none →
          ∃ t, exec (.dramChRestore h ch) s = .next t ∧ t.Runs h 0x0C0A ∧
            t.dram.rebuild = some { ch := ch.toNat, retire := false, restore := true, pos := 0, ctx := some h.ctx.toNat }))))

/-- Q_BIND, Q_FLUSH and DMA_BIND set, empty and bind (R488, R509). -/
def Obligations.BindingCommandsComplete : Prop := ∀ (h : Hdr) (queue : BitVec 16) (s : State), s.accepts h [.b] = true → h.plen = 0 →
  (∀ (en flags : BitVec 8) (limit wm : BitVec 16), isBindable queue.toNat = true → en.toNat ≤ 1 → flags.toNat < 8 →
    s.queueBusy queue.toNat = false → (en = 0 → (s.q queue.toNat).cells = []) →
    ∃ t, exec (.qBind h queue en flags limit wm) s = .next t ∧ t.Done h 0x0D00 [] ∧
      t.q queue.toNat = { s.q queue.toNat with en := (en = 1), whole := flags.getLsbD 0, ngrp := flags.extractLsb' 1 2,
                                               limit := limit.toNat, wm := wm.toNat }) ∧
  (isBindable queue.toNat = true ∨ qAccess queue.toNat = 1 → s.queueBusy queue.toNat = false →
    ∃ t, exec (.qFlush h queue) s = .next t ∧ t.Done h 0x0D01 (le 4 (s.q queue.toNat).cells.length) ∧
      (t.q queue.toNat).cells = [] ∧ (t.q queue.toNat).underrun = false ∧ (t.q queue.toNat).overflow = false ∧
      (t.q queue.toNat).perr = false ∧ (t.q queue.toNat).drops = 0) ∧
  (∀ (channel window port : BitVec 8), channel.toNat < 64 → (queue = 0xFFFF ∨ isBindable queue.toNat = true) → port.toNat < 2 →
    (s.chan channel.toNat).state = .idle → (window = 0xFF ∨ (s.win window.toNat).isSome = true) →
    (port = 1 → s.host.split = true) →
    (queue ≠ 0xFFFF → ∀ i, i < 64 → i ≠ channel.toNat → (s.chan i).queue ≠ some queue.toNat) →
    ∃ t d, exec (.dmaBind h channel window queue port) s = .next t ∧ t.Done h 0x0D02 d ∧
      (t.chan channel.toNat).window = (if window = 0xFF then none else some window.toNat) ∧
      (t.chan channel.toNat).queue = (if queue = 0xFFFF then none else some queue.toNat) ∧
      (t.chan channel.toNat).port = port.toNat ∧ (queue ≠ 0xFFFF → (t.q queue.toNat).consumer = some channel.toNat))

/-- Security and lifecycle commands that pass their checks go to Trivet; an attestation without a device identity key is complete at
once, unsigned (R585, R593, R594, R599, R602, R606, R612). -/
def Obligations.SecurityCommandsStart : Prop := ∀ (h : Hdr) (s : State),
  (∀ (nonce : BitVec 256) (window : BitVec 8) (offset : BitVec 32), s.accepts h [.c] = true → h.plen = 0 →
    s.winHas window.toNat offset.toNat 912 = true →
    (s.sec.dik = true → s.sec.entropyOk = true →
      ∃ t, exec (.secAttest h nonce window offset) s = .next t ∧ t.Runs h 0x0E00 ∧ t.sec.reqs = s.sec.reqs ++
        [{ opcode := 0x0E00, ctx := h.ctx.toNat, body := le 32 nonce.toNat, target := s.lt.seq.toNat, window := window.toNat,
           offset := offset.toNat }]) ∧
    (∀ bs, s.sec.dik = false →
      bs = (s.taken h 0x0E00).report (le 32 nonce.toNat) s.tableHashes false s.lt.seq.toNat ++ List.replicate 384 0 →
      ∃ t, exec (.secAttest h nonce window offset) s = .next t ∧
        State.Writes h 0x0E00 (s.winAddr window.toNat offset.toNat) bs [] s t)) ∧
  (s.accepts h [.l] = true →
    (h.plen.toNat = 1184 → rd (s.payload h) 24 8 = 0 → s.secGate h.ctx.toNat none = none →
      (s.sec.lifecycle = .vendor ∨ s.sec.lifecycle = .provisioned) → s.ownerRecOk (s.payload h) = true →
      ∃ t, exec (.secOwnerEnrol h) s = .next t ∧ t.Runs h 0x0E01 ∧ t.sec.secCtx = some h.ctx.toNat ∧ t.sec.reqs = s.sec.reqs ++
        [{ opcode := 0x0E01, ctx := h.ctx.toNat, body := s.payload h, target := 0, window := 0, offset := 0 }]) ∧
    (∀ (slot window : BitVec 8) (offset length : BitVec 32) (a : Nat), h.plen = 0 → slot.toNat ≤ 1 →
      s.secGate h.ctx.toNat (some window.toNat) = none → s.winHas window.toNat offset.toNat length.toNat = true →
      a = s.winAddr window.toNat offset.toNat → 512 ≤ length.toNat → length.toNat = 512 + rd (memRead a 512 s.dram.mem) 12 4 →
      s.poisoned a length.toNat = false → s.headerOk (memRead a 512 s.dram.mem) = true →
      ∃ t, exec (.secImageWrite h slot window offset length) s = .next t ∧ t.Runs h 0x0E02 ∧ t.sec.secCtx = some h.ctx.toNat ∧
        t.sec.reqs = s.sec.reqs ++ [{ opcode := 0x0E02, ctx := h.ctx.toNat, body := memRead a length.toNat s.dram.mem,
                                      target := slot.toNat, window := window.toNat, offset := offset.toNat }]) ∧
    (h.plen = 0 → s.secGate h.ctx.toNat none = none → s.sec.lifecycle = .provisioned → s.sec.entropyOk = true →
      ∃ t, exec (.secIdentityGen h) s = .next t ∧ t.Runs h 0x0E04 ∧ t.sec.secCtx = some h.ctx.toNat ∧ t.sec.reqs = s.sec.reqs ++
        [{ opcode := 0x0E04, ctx := h.ctx.toNat, body := [], target := 0, window := 0, offset := 0 }]) ∧
    (∀ (target : BitVec 8) (new : Lifecycle), h.plen.toNat = 432 → rd (s.payload h) 7 1 = 0 → s.secGate h.ctx.toNat none = none →
      Lifecycle.ofCode target.toNat = some new → (transWipes s.sec.lifecycle new).isSome = true → s.transReady new = true →
      s.sec.entropyOk = true → s.blockOk (s.payload h) 1 target.toNat (ownerSigns s.sec.lifecycle (some new)) = true →
      ∃ t, exec (.secLifecycle h target) s = .next t ∧ t.Runs h 0x0E03 ∧ t.sec.secCtx = some h.ctx.toNat ∧ t.sec.reqs = s.sec.reqs ++
        [{ opcode := 0x0E03, ctx := h.ctx.toNat, body := s.payload h, target := target.toNat, window := 0, offset := 0 }]) ∧
    (h.plen.toNat = 432 → rd (s.payload h) 7 1 = 0 → s.secGate h.ctx.toNat none = none → s.sec.lifecycle ≠ .field →
      s.sec.lifecycle ≠ .scrap → s.sec.entropyOk = true →
      s.blockOk (s.payload h) 2 0 (ownerSigns s.sec.lifecycle none) = true →
      ∃ t, exec (.secDebugUnlock h) s = .next t ∧ t.Runs h 0x0E05 ∧ t.sec.secCtx = some h.ctx.toNat ∧ t.sec.reqs = s.sec.reqs ++
        [{ opcode := 0x0E05, ctx := h.ctx.toNat, body := s.payload h, target := 0, window := 0, offset := 0 }]))

/-- DIAG_PATTERN ends with a count that the spec leaves to what it finds (a free value), and with no line with 0; DIAG_SELFTEST
starts its lowest test, and with no test named ends with an empty mask (R632, R633). -/
def Obligations.DiagnosticsComplete : Prop := ∀ (h : Hdr) (s : State), s.accepts h [.d] = true → h.plen = 0 →
  (∀ (pattern : BitVec 8) (lines : BitVec 32), pattern.toNat ≤ 3 → lines.toNat * s.tMin ≤ 10000000000 →
    ∃ t d, exec (.diagPattern h pattern lines) s = .next t ∧ t.Done h 0x0F02 (le 4 d) ∧ (lines = 0 → d = 0) ∧ t.lines = s.lines ∧
      t.ring = s.ring) ∧
  (∀ (tests : BitVec 32), tests.toNat < 2 ^ 15 → s.diag.selfTest = none →
    (setBits 15 tests.toNat = [] → ∃ t, exec (.diagSelftest h tests) s = .next t ∧ t.Done h 0x0F03 (le 4 0)) ∧
    (∀ k ks, setBits 15 tests.toNat = k :: ks →
      ∃ t, exec (.diagSelftest h tests) s = .next t ∧ t.Runs h 0x0F03 ∧
        t.diag.selfTest = some { ctx := h.ctx.toNat, cur := k, left := ks, failed := [], aborted := false }))

/-! ## Events of the mailbox and of the host's registers -/

/-- A doorbell from the owner of a context lifts PAUSED and has the waiting command executed: a DEV_IDENTIFY that waits alone leaves
the submission queue and ends DONE; from another port, on a shut context and in BOOT the doorbell does nothing (R535, R538, R539,
R543, R545). The completion entry of a context that has ended a command joins its completion queue, OP_STATUS then shows the final
state, and a full queue makes it wait (R546). -/
def Obligations.MailboxEventsComplete : Prop :=
  (∀ (tm : Nat) (port : BitVec 1) (n : BitVec 8) (s : State),
    ((s.mode.mode = .boot ∨ (s.ctx n.toNat).owner ≠ port.toNat ∨ (s.ctx n.toNat).shut = true) →
      s.host.port0.quiesce = none → s.host.port1.quiesce = none →
      ∃ t, exec (.mbDoorbell tm port n) s = .next t ∧ t.host.ctxs = s.host.ctxs ∧ t.pantry = s.pantry) ∧
    (s.mode.mode ≠ .boot → (s.ctx n.toNat).owner = port.toNat → (s.ctx n.toNat).shut = false →
      (s.hasCmd n.toNat = false →
        ∃ t, exec (.mbDoorbell tm port n) s = .next t ∧ (t.ctx n.toNat).paused = false ∧ (t.ctx n.toNat).rung = false) ∧
      (s.hasCmd n.toNat = true → (s.ctx n.toNat).cur.isSome = true → s.host.port0.quiesce = none → s.host.port1.quiesce = none →
        ∃ t, exec (.mbDoorbell tm port n) s = .next t ∧ (t.ctx n.toNat).paused = false ∧ (t.ctx n.toNat).rung = true ∧
          t.pantry = s.pantry) ∧
      (∀ (c : Cell) (h : Hdr), (s.q (256 + n.toNat)).cells = [c] → c.isOpen = false →
        parseCmd (max s.now tm) n.toNat c.bytes = some (.devIdentify h) → h.rsvBad = false → h.flags = 0 → h.plen = 0 →
        s.served = true → (s.port port.toNat).link = .up → (s.ctx n.toNat).cur = none → (s.ctx n.toNat).ending = none →
        (s.ctx n.toNat).deferred = none → s.host.port0.quiesce = none → s.host.port1.quiesce = none →
        ∃ t, exec (.mbDoorbell tm port n) s = .next t ∧ (t.q (256 + n.toNat)).cells = [] ∧ t.Done h 0x0100
          (le 2 2 ++ le 1 (match s.board.member with | .ml9648 => 0 | .ml9624 => 1) ++ le 1 0xB1 ++ le 4 s.sec.fwVersion.toNat ++
            le 4 s.sec.fwSvn.toNat ++ le 1 (b2n s.rst.imageB) ++ le 1 s.sec.lifecycle.code ++ le 2 0 ++ padTo 8 0 s.board.serial)))) ∧
  (∀ (tm : Nat) (n : BitVec 8) (e : Ending) (s : State),
    (s.ctx n.toNat).ending = some e → (s.ctx n.toNat).cur = none → (s.ctx n.toNat).discard = false → s.mode.mode ≠ .boot →
    s.served = true →
    ((s.atTime tm).hasRoom (512 + n.toNat) = true → (s.ctx n.toNat).rung = false → (s.q (512 + n.toNat)).tailRoom = 0 →
      sget [] (512 + n.toNat) s.pantry.held = [] →
      ∃ t, exec (.completionPush tm n) s = .next t ∧ (t.ctx n.toNat).ending = none ∧ (t.ctx n.toNat).opState = e.state ∧
        (t.ctx n.toNat).result = e.result ∧
        (t.q (512 + n.toNat)).cells.map Cell.bytes = (s.q (512 + n.toNat)).cells.map Cell.bytes ++ [e.bytes (s.ctx n.toNat).partials]) ∧
    ((s.atTime tm).hasRoom (512 + n.toNat) = false →
      ∃ t, exec (.completionPush tm n) s = .next t ∧ (t.ctx n.toNat).ending = some e ∧ t.pantry = s.pantry))

/-- A host read of a 32-bit register returns its word, one of another size or alignment reads 0; a host write reaches EV_ENABLE and
DMA_DESC, and one to an address with no writable field changes nothing of the kind (R531, R643, R647, R649). EV_LATCH is write 1 to
clear: in the word written, the latch of a source that is no level source stays only where it is written 0, or is set again in the
same cycle, or its level holds it; unmasking a vector clears its mask and its pending bit (R638, R640). -/
def Obligations.RegisterEventsComplete : Prop :=
  (∀ (tm : Nat) (port : BitVec 1) (addr : BitVec 24) (s : State),
    (queueOf addr.toNat = none → addr.toNat % 4 = 0 →
      ∃ t rest, exec (.rcFieldRead tm port addr 4) s = .next t ∧
        t.host.out = .hostRead (le 4 ((s.atTime tm).readWord port.toNat addr.toNat)) false :: rest) ∧
    (∀ len, queueOf addr.toNat = none → barFits addr.toNat len = false →
      ∃ t rest, exec (.rcFieldRead tm port addr len) s = .next t ∧
        t.host.out = .hostRead (List.replicate len 0) false :: rest) ∧
    (∀ (data : BitVec 64) (j : Nat), s.mode.mode ≠ .boot → j < 8 → addr.toNat = 0x300040 + 4 * j →
      ∃ t, exec (.registerWrite tm port addr 4 data) s = .next t ∧
        t.ev.enable = evWord (isSource s.board.member) j (data.toNat % 2 ^ 32) s.ev.enable) ∧
    (∀ (data : BitVec 64) (c : Nat), s.mode.mode ≠ .boot → c < 64 → addr.toNat = 0x200008 + 256 * c → (s.chan c).state = .idle →
      ∃ t, exec (.registerWrite tm port addr 8 data) s = .next t ∧
        (t.chan c).desc = data.toNat / 32 * 32) ∧
    (∀ (len : Nat) (data : BitVec 64), s.mode.mode = .boot →
      ∃ t, exec (.registerWrite tm port addr len data) s = .next t ∧ t.dma = s.dma ∧ t.pantry = s.pantry)) ∧
  (∀ (tm : Nat) (s : State),
    (∀ (j : BitVec 3) (data : BitVec 32) (resets : BitVec 256), s.mode.mode ≠ .boot →
      ∃ t, exec (.evLatchWrite tm j data resets) s = .next t ∧
        ∀ i, i < 256 → i ∉ [0, 3, 18, 82, 83, 129, 147, 179, 193, 195, 198, 209, 224, 225, 226, 227, 229] →
          t.ev.latch.getLsbD i =
            if i / 32 = j.toNat ∧ data.getLsbD (i % 32) = true then
              (resets.getLsbD i || (s.ev.latch.getLsbD i && s.ev.raw.getLsbD i && !s.ev.edge.getLsbD i))
            else s.ev.latch.getLsbD i) ∧
    (∀ (port : BitVec 1) (vec : BitVec 6),
      ∃ t, exec (.msixUnmask tm port vec) s = .next t ∧
        (sget MsixEntry.reset vec.toNat (t.port port.toNat).msix).ctrl =
          (sget MsixEntry.reset vec.toNat (s.port port.toNat).msix).ctrl &&& ~~~1#32 ∧
        (sget MsixEntry.reset vec.toNat (t.port port.toNat).msix).pending = false))

/-! ## Events of Pantry and of the DMA engine -/

/-- A push by the host joins its queue, a pop returns the first word, a held hardware push goes on, and a free cell that fails its
patrol is retired (R487, R490, R492, R494, R502). -/
def Obligations.PantryEventsComplete : Prop := ∀ (tm : Nat) (q : BitVec 13) (s : State),
  (∀ (data : BitVec 64), qAccess q.toNat = 1 → s.mode.mode ≠ .boot → (s.q q.toNat).tailRoom = 0 →
    ((s.atTime tm).canNew q.toNat = true →
      ∃ t, exec (.qPush tm q data 0xFF) s = .next t ∧
        (t.q q.toNat).cells.map Cell.bytes = (s.q q.toNat).cells.map Cell.bytes ++ [le 8 data.toNat]) ∧
    ((s.atTime tm).canNew q.toNat = false →
      ∃ t, exec (.qPush tm q data 0xFF) s = .next t ∧ (t.q q.toNat).overflow = true ∧
        (t.q q.toNat).drops = min 0xFFFF ((s.q q.toNat).drops + 1) ∧ (t.q q.toNat).cells = (s.q q.toNat).cells ∧
        t.ev.latch.getLsbD 228 = true)) ∧
  (∀ (data : BitVec 64) (be : BitVec 8), (qAccess q.toNat ≠ 1 ∨ s.mode.mode = .boot) →
    ∃ t, exec (.qPush tm q data be) s = .next t ∧ t.pantry = s.pantry) ∧
  (∀ (len : Nat) (c : Cell) (cs : List Cell), qAccess q.toNat = 2 → s.mode.mode ≠ .boot → (s.q q.toNat).consumer = none →
    (s.q q.toNat).cycle ≠ some (max s.now tm) → (s.q q.toNat).cells = c :: cs → (c.isOpen && (s.q q.toNat).whole) = false →
    ∃ t rest, exec (.qPop tm q len false) s = .next t ∧ (t.q q.toNat).cells = cs ∧ (t.q q.toNat).lastCount = c.bytes.length ∧
      t.host.out = .hostRead (padTo len 0 (padTo 64 0 c.bytes)) false :: rest) ∧
  (∀ (len : Nat) (perr : Bool), qAccess q.toNat = 2 → s.mode.mode ≠ .boot → (s.q q.toNat).consumer = none →
    (s.q q.toNat).cycle ≠ some (max s.now tm) → (s.q q.toNat).cells = [] →
    ∃ t, exec (.qPop tm q len perr) s = .next t ∧ (t.q q.toNat).underrun = true ∧ (t.q q.toNat).lastCount = 0) ∧
  (∀ (b : List Byte) (s1 s2 : State), sget [] q.toNat s.pantry.held = [b] →
    s1 = { s.atTime tm with pantry := { s.pantry with held := sset [] q.toNat [] s.pantry.held } } → s1.push q.toNat b = some s2 →
    ∃ t, exec (.hwPushRetry tm q) s = .next t ∧ t.pantry = s2.pantry) ∧
  (∀ (cell : BitVec 16), s.pantry.queues.any (fun p => p.2.cells.any (fun c => decide (c.id = cell.toNat))) = false →
    cell.toNat ∉ s.pantry.retired →
    (∃ t, exec (.cellPatrol tm cell false) s = .next t ∧ t.pantry.retired = s.pantry.retired ++ [cell.toNat] ∧
      (s.mode.mode ≠ .boot → t.ev.latch.getLsbD 230 = true)) ∧
    (∃ t, exec (.cellPatrol tm cell true) s = .next t ∧ t.pantry = s.pantry))

/-- A kick of a channel at the end of its chain reads LINK again; clearing the error returns STOPPED channels to idle; a bus error
stops every channel at work (R526, R527, R530). A descriptor that is in order is taken into the channel, one that R522 refuses stops
it with code 3; a burst of a host-to-DRAM copy lands at its place; the read-back of the last descriptor of a chain leaves the
channel IDLE_AT_END; LINK read again leads on; and queue data end the wait for it (R511, R514, R515, R517, R519, R522, R530). -/
def Obligations.DmaEventsComplete : Prop :=
  (∀ (tm : Nat) (c : BitVec 6) (s : State),
    ((s.chan c.toNat).state = .idleAtEnd → (s.chan c.toNat).phase ≠ .reread → s.mode.mode.noDma = false →
      s.portQuiet (s.chan c.toNat).port = false →
      ∃ t, exec (.chainKick tm c) s = .next t ∧ (t.chan c.toNat).phase = .reread ∧
        .linkRead (s.chan c.toNat).port c.toNat ((s.chan c.toNat).desc + 24) ∈ t.host.out) ∧
    (∃ t, exec (.dmaErrClear tm) s = .next t ∧ t.dma.latched = false ∧ t.dma.count = 0 ∧
      ∀ k, (t.chan k).state = if (s.chan k).state = .stopped then .idle else (s.chan k).state) ∧
    (∀ (kind : BitVec 3) (port : BitVec 1) (addr : BitVec 64), s.dma.latched = false →
      ∃ t, exec (.busError tm kind port addr) s = .next t ∧ t.dma.latched = true ∧ t.dma.kind = kind ∧ t.dma.errPort = port.toNat ∧
        t.dma.errAddr = addr.toNat ∧ t.dma.count = min 0xFFFF (s.dma.count + 1) ∧
        (∀ k, k < 64 → (s.chan k).state.isActive = true → (t.chan k).state = .stopped ∧ (t.chan k).code = 4 ∧ (t.chan k).int = true)) ∧
    (∀ (kind : BitVec 3) (port : BitVec 1) (addr : BitVec 64), s.dma.latched = true →
      ∃ t, exec (.busError tm kind port addr) s = .next t ∧ t.dma.kind = s.dma.kind ∧ t.dma.errAddr = s.dma.errAddr ∧
        t.dma.count = min 0xFFFF (s.dma.count + 1) ∧ t.dma.chans = s.dma.chans)) ∧
  (∀ (tm : Nat) (c : BitVec 6) (s : State),
    (∀ (desc : BitVec 256) (x : DmaChan), (s.chan c.toNat).state = .running → (s.chan c.toNat).phase = .fetch →
      x = { s.chan c.toNat with
            desc := (s.chan c.toNat).next, src := (desc.extractLsb' 0 64).toNat, dst := (desc.extractLsb' 64 64).toNat,
            len := (desc.extractLsb' 128 32).toNat % 2 ^ 26, ctl := desc.extractLsb' 160 32, link := (desc.extractLsb' 192 64).toNat,
            moved := 0, written := [], poison := false, parity := false, residue := (desc.extractLsb' 128 32).toNat % 2 ^ 26 } →
      (s.descBad x (desc.extractLsb' 128 32).toNat = true →
        ∃ t, exec (.dmaDescFetched tm c desc) s = .next t ∧ (t.chan c.toNat).state = .idle ∧ (t.chan c.toNat).code = 3 ∧
          (t.chan c.toNat).crc = (if x.ctl.getLsbD 5 then x.prevCrc else 0) ∧ (t.chan c.toNat).int = true ∧ (s.mode.mode ≠ .boot → t.ev.latch.getLsbD 233 = true)) ∧
      (s.descBad x (desc.extractLsb' 128 32).toNat = false → x.isQueue = false →
        ∃ t, exec (.dmaDescFetched tm c desc) s = .next t ∧ (t.chan c.toNat).state = .running ∧ (t.chan c.toNat).phase = .moving ∧
          (t.chan c.toNat).src = x.src ∧ (t.chan c.toNat).dst = x.dst ∧ (t.chan c.toNat).len = x.len ∧ (t.chan c.toNat).ctl = x.ctl ∧
          (t.chan c.toNat).link = x.link ∧ (t.chan c.toNat).moved = 0)) ∧
    (∀ (data : List Byte) (perr : Bool) (w off n : Nat), (s.chan c.toNat).state = .running → (s.chan c.toNat).phase = .moving →
      (s.chan c.toNat).qWait = false → (s.chan c.toNat).type = 1 → (s.chan c.toNat).window = some w → (s.chan c.toNat).burst = (off, n) →
      ∃ t, exec (.dmaBurstDone tm c data perr) s = .next t ∧ (t.chan c.toNat).moved = (s.chan c.toNat).moved + n ∧
        t.dram.mem = memWrite (s.winAddr w ((s.chan c.toNat).dst + off)) (padTo n 0 data) s.dram.mem) ∧
    ((s.chan c.toNat).state = .running → (s.chan c.toNat).phase = .readBack → (s.chan c.toNat).endCode = 0 →
      (s.chan c.toNat).link % 2 = 1 → (s.chan c.toNat).kick = false →
      ∃ t, exec (.dmaReadbackDone tm c) s = .next t ∧ (t.chan c.toNat).state = .idleAtEnd ∧ (t.chan c.toNat).code = 0 ∧
        (t.chan c.toNat).residue = (s.chan c.toNat).len - (s.chan c.toNat).moved ∧
        (t.chan c.toNat).crc = crc32c (if (s.chan c.toNat).ctl.getLsbD 5 then (s.chan c.toNat).prevCrc else 0) (s.chan c.toNat).written) ∧
    (∀ link : BitVec 64, (s.chan c.toNat).phase = .reread →
      (link.getLsbD 0 = false →
        ∃ t, exec (.dmaLinkRereadDone tm c link) s = .next t ∧ (t.chan c.toNat).state = .running ∧ (t.chan c.toNat).phase = .fetch ∧
          (t.chan c.toNat).next = link.toNat / 32 * 32) ∧
      (link.getLsbD 0 = true → (s.chan c.toNat).kick = false →
        ∃ t, exec (.dmaLinkRereadDone tm c link) s = .next t ∧ (t.chan c.toNat).state = .idleAtEnd)) ∧
    (∀ (q : Nat) (x : Cell) (off n : Nat), (s.chan c.toNat).qWait = true → (s.chan c.toNat).phase = .moving →
      (s.chan c.toNat).type = 4 → (s.chan c.toNat).queue = some q → (s.chan c.toNat).carry = [] → (s.q q).cells = [x] →
      x.isOpen = false → (s.q q).cycle ≠ some (max s.now tm) → (s.chan c.toNat).burst = (off, n) → 0 < n → x.bytes.length ≤ n →
      ∃ t, exec (.dmaQueueData tm c false) s = .next t ∧ (t.q q).cells = [] ∧
        (t.chan c.toNat).moved = (s.chan c.toNat).moved + x.bytes.length))

/-! ## Events of the host ports -/

/-- PERST_N, the link and its loss, the function's resets and power state, the card's presence, and the deadline of QUIESCE move a
host port as R534 to R538 say. BAR2 reads return the bytes of the mapped window and writes store them; an offset that no window maps
reads 0, is not written, and raises event 241 (R552, R553). -/
def Obligations.HostLinkEventsComplete : Prop :=
  (∀ (tm : Nat) (port : BitVec 1) (s : State), s.hasPort port.toNat = true →
    (∃ t, exec (.perstNAssert tm port) s = .next t ∧ (t.port port.toNat).link = .down ∧ (t.port port.toNat).perst = false ∧
      (t.port port.toNat).width = 0 ∧ (t.port port.toNat).speed = 0 ∧ (t.port port.toNat).d3 = false ∧
      (∀ k, k < 64 → (s.chan k).port = port.toNat → (t.chan k).state.isActive = false)) ∧
    (∃ t, exec (.perstNRelease tm port) s = .next t ∧ (t.port port.toNat).perst = true ∧
      (t.port port.toNat).link = (s.port port.toNat).link) ∧
    (∀ (width : BitVec 5) (speed : BitVec 3), (s.port port.toNat).link.isDown = true → (s.port port.toNat).perst = true →
      (s.port port.toNat).prsnt = true → s.rst.phase.linksAllowed = true → s.trains width speed = true →
      ∃ t, exec (.linkUp tm port width speed) s = .next t ∧ (t.port port.toNat).link = .up ∧ (t.port port.toNat).width = width ∧
        (t.port port.toNat).speed = speed ∧ ∀ n, n < 256 → (s.ctx n).owner = port.toNat → (t.ctx n).shut = false) ∧
    ((s.port port.toNat).link = .up →
      ∃ t, exec (.linkLoss tm port) s = .next t ∧ (t.port port.toNat).link = .lost ∧ t.dma.latched = true ∧
        (s.mode.mode ≠ .boot → t.ev.latch.getLsbD 240 = true)) ∧
    ((s.port port.toNat).link = .quiesced →
      ∃ t, exec (.linkLoss tm port) s = .next t ∧ (t.port port.toNat).link = .down ∧ t.dma = s.dma ∧
        (s.mode.mode ≠ .boot → t.ev.latch.getLsbD 240 = true)) ∧
    (∀ i, i = .functionLevelReset tm port ∨ i = .hotReset tm port ∨ i = .d3hotEntry tm port →
      ∃ t, exec i s = .next t ∧ ((t.port port.toNat).d3 = true ↔ i = .d3hotEntry tm port) ∧
        (∀ k, k < 64 → (s.chan k).port = port.toNat → (t.chan k).state.isActive = false) ∧
        (∀ n, n < 256 → (s.ctx n).owner = port.toNat →
          (t.q (256 + n)).cells = [] ∧ (t.q (512 + n)).cells = [] ∧ (t.ctx n).rung = false)) ∧
    ((s.port port.toNat).link = .up →
      ∃ t, exec (.prsntNChange tm port true) s = .next t ∧ (t.port port.toNat).prsnt = false ∧ (t.port port.toNat).link = .down ∧
        t.dma.latched = true) ∧
    (∃ t, exec (.prsntNChange tm port false) s = .next t ∧ (t.port port.toNat).prsnt = true) ∧
    (∀ (n d k : Nat) (m : Bool), (s.port port.toNat).quiesce = some (n, m, d, k) → d ≤ max s.now tm →
      ∃ t, exec (.quiesceTimeout tm port) s = .next t ∧ ∀ x, x < 64 → (s.chan x).port = port.toNat → (s.chan x).state = .running →
        (t.chan x).state = .aborting ∨ (t.chan x).state = .idle)) ∧
  (∀ (tm : Nat) (port : BitVec 1) (addr : BitVec 32) (s : State), s.mode.mode ≠ .boot →
    (∀ len : Nat, ∃ t rest, exec (.bar2Read tm port addr len) s = .next t ∧ t.dram.mem = s.dram.mem ∧
      t.host.out = .hostRead ((List.range len).map (fun i =>
          match s.bar2Addr (addr.toNat + i) with | some a => sget 0 a s.dram.mem | none => 0))
        ((List.range len).any (fun i =>
          match s.bar2Addr (addr.toNat + i) with | some a => s.dram.poison.contains (a / 64) | none => false)) :: rest) ∧
    (∀ (data : List Byte) (base : Nat), (∀ i, i < data.length → s.bar2Addr (addr.toNat + i) = some (base + i)) →
      ∃ t, exec (.bar2Write tm port addr data) s = .next t ∧ t.dram.mem = memWrite base data s.dram.mem) ∧
    (∀ data : List Byte, data ≠ [] → (∀ i, i < data.length → s.bar2Addr (addr.toNat + i) = none) →
      ∃ t, exec (.bar2Write tm port addr data) s = .next t ∧ t.dram.mem = s.dram.mem ∧ t.ev.latch.getLsbD 241 = true))

/-! ## Resets, boot, clocks and modes -/

/-- Every source of a device reset leaves the block as a reset leaves it, with its code in RST_CAUSE; a delayed reset comes when it
is due; memory's bytes and the NV store stay until the wipe (R108, R110, R111, R112, R605). A reset ends, and the SRAM wipe starts,
once PORST_N and SYSRST_N are high, its time is over and no SYSCLK loss holds it; until then it goes on. The release of PORST_N
samples the straps (R59, R108, R110, R113). -/
def Obligations.ResetsComplete : Prop :=
  (∀ (tm : Nat) (s : State),
    (∃ t, exec (.powerOnReset tm) s = .next t ∧ s.WasReset t ∧ t.rst.last = 1 ∧ t.rst.prev = 0 ∧ t.rst.count = 1 ∧
      t.rst.tripSeen = false ∧ t.rst.thermTrip = false ∧ t.clk = ClkUnit.reset ∧ t.rst.endsAt = some (max s.now tm + 1000)) ∧
    (∃ t, exec (.porstNAssert tm) s = .next t ∧ s.WasReset t ∧ s.RecordsCause 2 t ∧ t.rst.porst = false ∧ t.rst.thermTrip = false ∧
      t.rst.wide = true) ∧
    (∃ t, exec (.sysrstNAssert tm) s = .next t ∧ s.WasReset t ∧ s.RecordsCause 3 t ∧ t.rst.sysrst = false ∧
      t.rst.thermTrip = s.rst.thermTrip) ∧
    (∃ t, exec (.coreBrownout tm) s = .next t ∧ s.WasReset t ∧ s.RecordsCause 4 t ∧ t.rst.endsAt = some (max s.now tm + 1000)) ∧
    (∃ t, exec (.sysclkLoss tm) s = .next t ∧ s.WasReset t ∧ s.RecordsCause 7 t ∧ t.rst.sysclkAt = some (max s.now tm + 100000)) ∧
    (∀ a, s.rst.devResetAt = some a →
      (a ≤ max s.now tm → ∃ t, exec (.devResetExpiry tm) s = .next t ∧ s.WasReset t ∧ s.RecordsCause 5 t ∧ t.rst.devResetAt = none) ∧
      (max s.now tm < a → ∃ t, exec (.devResetExpiry tm) s = .next t ∧ t.rst = s.rst)) ∧
    (∀ a, s.rst.secResetAt = some a →
      (a ≤ max s.now tm → ∃ t, exec (.trivetSecurityReset tm) s = .next t ∧ s.WasReset t ∧ s.RecordsCause 6 t) ∧
      (max s.now tm < a → ∃ t, exec (.trivetSecurityReset tm) s = .next t ∧ t.rst = s.rst))) ∧
  (∀ (tm : Nat) (s : State),
    (∀ (split : Bool) (uzsId : BitVec 2),
      ∃ t, exec (.porstNRelease tm split uzsId) s = .next t ∧ t.rst.porst = true ∧ t.rst.uzsId = uzsId ∧ t.host.split = split ∧
        (s.rst.phase = .inReset → s.rst.sysrst = true → s.rst.endsAt = none → s.rst.sysclkAt = none → t.rst.phase = .sramWipe)) ∧
    (∃ t, exec (.sysrstNRelease tm) s = .next t ∧ t.rst.sysrst = true ∧
      (s.rst.phase = .inReset → s.rst.porst = true → s.rst.endsAt = none → s.rst.sysclkAt = none → t.rst.phase = .sramWipe) ∧
      (s.rst.phase = .inReset → s.rst.sysclkAt ≠ none → t.rst.phase = .inReset)) ∧
    (s.rst.phase = .inReset →
      (s.rst.porst = true → s.rst.sysrst = true → (∀ a, s.rst.endsAt = some a → a ≤ max s.now tm) →
        (∀ b, s.rst.sysclkAt = some b → b ≤ max s.now tm) →
        ∃ t, exec (.resetEnd tm) s = .next t ∧ t.rst.phase = .sramWipe ∧ t.rst.endsAt = none ∧ t.rst.endedAt = max s.now tm) ∧
      ((s.rst.porst = false ∨ s.rst.sysrst = false ∨ (∃ a, s.rst.endsAt = some a ∧ max s.now tm < a) ∨
          (∃ b, s.rst.sysclkAt = some b ∧ max s.now tm < b)) →
        ∃ t, exec (.resetEnd tm) s = .next t ∧
          t.rst = { s.rst with sysclkAt := s.rst.sysclkAt.filter (fun b => decide (max s.now tm < b)) })))

/-- The boot sequence goes from phase to phase: the SRAM wipe with its one retry, the NV store, image A and then B, DRAM training,
the DRAM wipe after which every byte reads 0, and the exit into IDLE (R51, R110, R113 to R118, R597, R606). -/
def Obligations.BootSequenceAdvances : Prop := ∀ (tm : Nat) (s : State),
  (s.rst.phase = .sramWipe →
    (s.rst.thermTrip = false →
      ∃ t, exec (.sramWipeDone tm true) s = .next t ∧ t.rst.phase = .romRun ∧ t.clk.sysclkOk = true ∧ t.clk.lockHost1 = s.host.split) ∧
    (s.rst.thermTrip = true → ∃ t, exec (.sramWipeDone tm true) s = .next t ∧ t.rst.phase = .held) ∧
    (s.rst.wipeTries = 0 →
      ∃ t, exec (.sramWipeDone tm false) s = .next t ∧ t.rst.phase = .sramWipe ∧ t.rst.wipeRetry = true ∧ t.rst.wipeTries = 1) ∧
    (s.rst.wipeTries ≠ 0 → ∃ t, exec (.sramWipeDone tm false) s = .next t ∧ t.rst.phase = .held)) ∧
  (s.rst.phase = .romRun →
    ((s.sec.vddNvLow && s.mountWrites) = true → ∃ t, exec (.nvMount tm) s = .next t ∧ t.rst = s.rst ∧ t.sec = s.sec) ∧
    ((s.sec.vddNvLow && s.mountWrites) = false →
    ∃ t, exec (.nvMount tm) s = .next t ∧ t.sec.mounted = true ∧ t.sec.entropyOk = true ∧ t.clk.aonComp = true ∧
      (t.sec.debugOpen = true ↔ t.sec.lifecycle = .blank) ∧
      t.rst.phase = (if t.sec.lifecycle = .scrap ∨ s.sec.romKeyHash ≠ s.sec.vrkHash then .bootFail else .imageA) ∧
      (s.nvData .pending = none → t.sec.lifecycle = s.lifecycleNow))) ∧
  (∀ (hdr : List Byte) (sigOk : Bool) (bodyHash : BitVec 256), (s.rst.phase = .imageA ∨ s.rst.phase = .imageB) →
    (s.headerOk hdr = true → sigOk = true → (hdr.drop 32).take 32 = (le 32 bodyHash.toNat).reverse →
      ∃ t, exec (.bootImageVerified tm hdr sigOk bodyHash) s = .next t ∧ t.rst.phase = .released ∧
        (t.rst.imageB = true ↔ s.rst.phase = .imageB) ∧ t.cpu.pair0 = .serving ∧ t.cpu.pair1 = .standby ∧
        t.sec.fwVersion = BitVec.ofNat 32 (rd hdr 4 4) ∧ t.sec.mHdr = sha256 hdr) ∧
    ((s.headerOk hdr = false ∨ sigOk = false) →
      ∃ t, exec (.bootImageVerified tm hdr sigOk bodyHash) s = .next t ∧
        t.rst.phase = (if s.rst.phase = .imageA then .imageB else .bootFail) ∧ t.cpu = s.cpu)) ∧
  (∀ chOk : BitVec 8,
    (s.rst.phase = .released →
      ∃ t, exec (.dramTrainingDone tm chOk) s = .next t ∧ t.rst.phase = .dramWipe ∧ t.dram.chOk = chOk) ∧
    (∀ n c, s.rst.phase ≠ .released → s.dram.trainCtx = some n →
      (∃ t, exec (.dramTrainingDone tm chOk) s = .next t ∧ t.dram.trainCtx = none ∧
        ∀ k, k < 8 → chOk.getLsbD k = false → t.dram.chOk.getLsbD k = false) ∧
      ((s.ctx n).cur = some c → c.noCpl = false → s.dram.spare ≠ 2 →
        (∀ k, k < 8 → s.dram.chOk.getLsbD k = true → chOk.getLsbD k = true) →
        ∃ t, exec (.dramTrainingDone tm chOk) s = .next t ∧ t.dram.chOk = chOk ∧
          (t.ctx n).ending = some { opcode := c.opcode, seq := c.seq, state := .done, result := 0, rlen := 0,
                                    data := padTo 48 0 (le 1 chOk.toNat), noCpl := false }))) ∧
  (s.rst.phase = .dramWipe →
    ∃ t, exec (.dramWipeDone tm) s = .next t ∧ t.rst.phase = .restore ∧ t.dram.mem = [] ∧ t.dram.poison = []) ∧
  (∀ powerOk : BitVec 64, s.rst.phase = .restore →
    ∃ t, exec (.bootExit tm powerOk) s = .next t ∧ t.rst.phase = .done ∧ t.mode.mode = .idle ∧ t.mode.transit = false ∧
      ∀ p, p < s.board.member.ports →
        (t.seg p).state = if (s.seg p).pres = true ∧ powerOk.getLsbD p = true then .active else .isolated)

/-- The always-on clock moves to the crystal in its window and off it for good when it fails; the trims of the compensated circuits
move by at most one unit; the comparison of adjacent dies has its hysteresis (R94, R98, R99, R121). A transition to IDLE that waits
for nothing any longer is done: MODE is IDLE, TRANSIT is 0, MODE_SEQ has counted, and event 1 is latched; a SCRUB that is complete
has erased the data in DRAM and returns to IDLE (R36, R38, R46). -/
def Obligations.ClockAndModeEventsComplete : Prop :=
  (∀ (tm : Nat) (s : State),
    (s.clk.aonSrc = false → s.clk.xtalLocked = false → s.rst.powerAt + 2000000 ≤ max s.now tm → max s.now tm ≤ s.rst.powerAt + 5000000 →
      ∃ t, exec (.aonXtalSwitch tm) s = .next t ∧ t.clk = { s.clk with aonSrc := true }) ∧
    (s.clk.aonSrc = true →
      ∃ t, exec (.aonXtalLoss tm) s = .next t ∧ t.clk = { s.clk with aonSrc := false, xtalLocked := true } ∧
        (s.mode.mode ≠ .boot → t.ev.latch.getLsbD 2 = true)) ∧
    (s.clk.aonComp = true →
      ∃ t, exec (.oscCompUpdate tm) s = .next t ∧ ∀ k,
        (sget CompTrim.reset k t.clk.comp).points = (sget CompTrim.reset k s.clk.comp).points ∧
        ((sget CompTrim.reset k t.clk.comp).trim - (sget CompTrim.reset k s.clk.comp).trim).natAbs ≤ 1) ∧
    (∃ t, exec (.regionCompare tm) s = .next t ∧ ∀ j, j + 1 < s.board.member.dies →
      (6400 < (s.dieTemp j - s.dieTemp (j + 1)).natAbs → t.clk.skewTemp.getLsbD j = true) ∧
      ((s.dieTemp j - s.dieTemp (j + 1)).natAbs ≤ 5888 → t.clk.skewTemp.getLsbD j = false) ∧
      (5888 < (s.dieTemp j - s.dieTemp (j + 1)).natAbs → (s.dieTemp j - s.dieTemp (j + 1)).natAbs ≤ 6400 →
        t.clk.skewTemp.getLsbD j = s.clk.skewTemp.getLsbD j))) ∧
  (∀ (tm : Nat) (s : State),
    (∀ x, s.mode.trans = some x → s.mode.target = .idle → s.canArrive = true →
      ∃ t, exec (.modeTransitionDone tm) s = .next t ∧ t.mode.mode = .idle ∧ t.mode.transit = false ∧ t.mode.trans = none ∧
        t.mode.modeSeq = s.mode.modeSeq + 1 ∧ t.ev.latch.getLsbD 1 = true ∧ ∀ n, x.ctx = some n → (t.ctx n).cur = none) ∧
    (s.mode.mode = .scrub → s.mode.transit = false →
      ∃ t, exec (.scrubComplete tm) s = .next t ∧ t.mode.mode = .idle ∧ t.mode.modeSeq = s.mode.modeSeq + 1 ∧ t.dram.mem = [] ∧
        t.dram.passes = s.dram.passes + 1 ∧ t.skl.groups = []))

/-! ## Single-fault masking, security and diagnostics -/

/-- A halt of a pair in service is counted and the pair restarts, or stays out of service at its fourth halt; where it served and
the other is the standby, the standby serves; a pair out of service has none. A restarted pair is the standby or serves where none
does. A standby that fails its test halts. The heartbeat counts while a pair serves (R551, R623, R624, R625). -/
def Obligations.PairEventsComplete : Prop := ∀ (tm : Nat) (s : State),
  (s.cpu.pair0 = .serving → s.cpu.pair1 = .standby → s.cpu.all0 < 3 →
    ∃ t, exec (.lockstepMismatch tm 0) s = .next t ∧ t.cpu.pair0 = .restarting ∧ t.cpu.pair1 = .serving ∧ t.cpu.serving = 1 ∧
      t.cpu.failovers = min 0xFFFF (s.cpu.failovers + 1) ∧ (s.mode.mode ≠ .boot → t.ev.latch.getLsbD 5 = true)) ∧
  (s.cpu.pair1 = .serving → s.cpu.pair0 = .standby → s.cpu.all1 < 3 →
    ∃ t, exec (.lockstepMismatch tm 1) s = .next t ∧ t.cpu.pair1 = .restarting ∧ t.cpu.pair0 = .serving ∧ t.cpu.serving = 0) ∧
  (∀ pair : BitVec 1, (s.cpu.pair pair.toNat).inService = true →
    ∃ t, exec (.lockstepMismatch tm pair) s = .next t ∧
      t.cpu.pair pair.toNat = (if s.cpu.halts pair.toNat < 3 then .restarting else .out) ∧
      t.cpu.halts pair.toNat = s.cpu.halts pair.toNat + 1) ∧
  (∀ pair : BitVec 1, (s.cpu.pair pair.toNat).inService = false →
    ∃ t, exec (.lockstepMismatch tm pair) s = .next t ∧ t.cpu = s.cpu) ∧
  (∀ pair : BitVec 1, s.cpu.pair pair.toNat = .restarting →
    (∃ t, exec (.pairRestartDone tm pair false) s = .next t ∧ t.cpu.pair pair.toNat = .out) ∧
    (∃ t, exec (.pairRestartDone tm pair true) s = .next t ∧
      t.cpu.pair pair.toNat = (if s.served = true then .standby else .serving) ∧ (s.served = false → t.cpu.serving = pair.toNat))) ∧
  (∀ (pair : BitVec 1) (ok : Bool), s.cpu.pair pair.toNat ≠ .restarting →
    ∃ t, exec (.pairRestartDone tm pair ok) s = .next t ∧ t.cpu = s.cpu) ∧
  (s.mode.mode ≠ .boot → s.cpu.pair0 ≠ .standby → s.cpu.pair1 = .standby → s.cpu.all1 < 3 →
    ∃ t, exec (.standbySelftest tm false) s = .next t ∧ t.cpu.pair1 = .restarting ∧ t.cpu.all1 = s.cpu.all1 + 1 ∧
      t.cpu.pair0 = s.cpu.pair0) ∧
  (s.mode.mode ≠ .boot → s.cpu.pair0 = .standby → s.cpu.all0 < 3 →
    ∃ t, exec (.standbySelftest tm false) s = .next t ∧ t.cpu.pair0 = .restarting ∧ t.cpu.all0 = s.cpu.all0 + 1 ∧
      t.cpu.pair1 = s.cpu.pair1) ∧
  (∃ t, exec (.standbySelftest tm true) s = .next t ∧ t.cpu = s.cpu) ∧
  (s.served = true → s.mode.mode ≠ .boot →
    ∃ t, exec (.heartbeatTick tm) s = .next t ∧ t.host.beat = s.host.beat + 1 ∧ t.host.beatBy = s.cpu.serving) ∧
  (s.served = false → ∃ t, exec (.heartbeatTick tm) s = .next t ∧ t.host.beat = s.host.beat ∧ t.host.beatBy = s.host.beatBy)

/-- Record writes go to the NV store line by line, the last line making the new copy the current one; VDD_NV low makes the later
writes wait, its recovery lets them go on, and a write that has waited 10 ms is given up (R107, R609, R610). -/
def Obligations.NvEventsComplete : Prop := ∀ (tm : Nat) (s : State),
  (∀ (w : NvWrite) (rest : List NvWrite), s.sec.writes = w :: rest → w.waitSince = none →
    (2 ≤ w.left → (s.sec.stopNv = false ∨ w.left = 2) →
      ∃ t, exec (.nvLineProgramDone tm) s = .next t ∧ t.sec.writes =
        { w with left := w.left - 1, begun := true, waitSince := if s.sec.vddNvLow then some (max s.now tm) else none } :: rest) ∧
    (w.left = 1 → w.why = .layout →
      (∀ b, (s.nvRec w.id).curIs = some b → ((s.nvRec w.id).slot b).seq.toNat + 1 < 2 ^ 32) →
      ∃ t, exec (.nvLineProgramDone tm) s = .next t ∧ t.sec.writes = rest ∧ t.nvData w.id = some w.data)) ∧
  (∃ t, exec (.vddNvLow tm) s = .next t ∧ t.sec.vddNvLow = true ∧ t.sec.writes.head? = s.sec.writes.head? ∧
    ∀ w ∈ t.sec.writes.tail, w.waitSince.isSome = true) ∧
  (∃ t, exec (.vddNvRecover tm) s = .next t ∧ t.sec.vddNvLow = false ∧ ∀ w ∈ t.sec.writes, w.waitSince = none) ∧
  (∃ t, exec (.nvWriteWaitTimeout tm) s = .next t ∧
    (∀ w ∈ t.sec.writes, ∀ a, w.waitSince = some a → max s.now tm < a + 10000000) ∧
    (∀ w ∈ s.sec.writes, ∀ a n, w.waitSince = some a → a + 10000000 ≤ max s.now tm → w.ctx = some n → (t.ctx n).cur = none))

/-- Trivet's answers and the security events: the oldest request is answered (a debug unlock that verifies opens the debug port, one
that does not raises event 17), a written image is read back, entropy health and forbidden accesses are recorded, and the JTAG port
takes its instruction and loads the cells that drive (R584, R589, R599, R606, R634, R635). -/
def Obligations.SecurityEventsComplete : Prop := ∀ (tm : Nat) (s : State),
  (∀ (r : TrivetReq) (rest : List TrivetReq) (out : List Byte), s.sec.reqs = r :: rest → r.opcode = 0x0E05 →
    (∃ t, exec (.trivetRequestDone tm true out) s = .next t ∧ t.sec.debugOpen = true ∧ t.sec.secCtx = none ∧
      t.sec.reqs.length = rest.length ∧ (t.ctx r.ctx).cur = none) ∧
    (∃ t, exec (.trivetRequestDone tm false out) s = .next t ∧ t.sec.debugOpen = s.sec.debugOpen ∧ t.sec.secCtx = none ∧
      (t.ctx r.ctx).cur = none ∧ (s.mode.mode ≠ .boot → t.ev.latch.getLsbD 17 = true))) ∧
  (∀ (n : Nat) (c : RunCmd) (readBackOk : Bool), s.sec.secCtx = some n → (s.ctx n).cur = some c → c.opcode = 0x0E02 →
    c.noCpl = false → (∀ r ∈ s.sec.reqs, r.opcode ≠ 0x0E02) →
    ∃ t e, exec (.norWriteDone tm readBackOk) s = .next t ∧ t.sec.secCtx = none ∧ (t.ctx n).ending = some e ∧
      e.state = (if readBackOk then .done else .failed) ∧ e.result = BitVec.ofNat 8 (if readBackOk then cOk else cHw)) ∧
  (∃ t, exec (.entropyHealthFail tm) s = .next t ∧ t.sec.entropyOk = false ∧ (s.mode.mode ≠ .boot → t.ev.raw.getLsbD 18 = true)) ∧
  (∃ t, exec (.securityAccessViolation tm) s = .next t ∧ t.sec.violations = min 0xFFFF (s.sec.violations + 1) ∧
    (s.mode.mode ≠ .boot → t.ev.latch.getLsbD 16 = true)) ∧
  (∀ (scan : JtagScan) (ir' : JtagIr), ir' = (if scan.ir = .debug ∧ s.sec.debugOpen = false then .bypass else scan.ir) →
    ∃ t, exec (.jtagInstruction tm scan) s = .next t ∧ t.rst = { s.rst with jtagIr := ir', bsr := t.rst.bsr } ∧
      (irScans ir' = false → t.rst.bsr = s.rst.bsr) ∧
      (irScans ir' = true → ∀ b, (∀ x ∈ scan.cells, x.1 ≠ b) → ∀ v, (b, v) ∈ t.rst.bsr ↔ (b, v) ∈ s.rst.bsr) ∧
      (irScans ir' = true → ∀ b v, scan.cells = [(b, v)] → ballCells b = .driveCapture → (b, v) ∈ t.rst.bsr)) ∧
  (∀ (result : BitVec 8) (durMs : BitVec 16) (detail : BitVec 32) (x : SelfTest), s.diag.selfTest = some x → x.aborted = false →
    (∀ k ks, x.left = k :: ks →
      ∃ t, exec (.selftestTestDone tm result durMs detail) s = .next t ∧ t.diag.selfTest =
        some { x with cur := k, left := ks, failed := if result = 1 then x.failed ++ [x.cur] else x.failed }) ∧
    (x.left = [] →
      ∃ t, exec (.selftestTestDone tm result durMs detail) s = .next t ∧ t.diag.selfTest = none ∧ (t.ctx x.ctx).cur = none))

/-! ## Events of the ports and front ends -/

/-- A port's presence, the actions of its power-down, and its qualification (R157, R160 to R163). A die starts the oldest program
that waits for it and ends it, its reset isolates its twelve ports and wipes their programs, and its power-up locks its PLL (R107,
R109, R129, R164, R175). The conversion of a slot gives the line its word: the code of the input with the clamp correction, full
scale and SAT where the converter is over range or the code exceeds 16,383 (R133, R134, R135). -/
def Obligations.FrontEndEventsComplete : Prop :=
  (∀ (tm : Nat) (port : BitVec 6) (s : State),
    (∀ present : Bool, s.hasSeg port.toNat = true → (s.seg port.toNat).pres ≠ present → s.rst.phase.linksAllowed = true →
      ∃ t, exec (.presFilterChange tm port present) s = .next t ∧ (t.seg port.toNat).pres = present ∧
        (s.mode.mode ≠ .boot → t.ev.latch.getLsbD (32 + port.toNat) = true)) ∧
    (∀ d, (s.seg port.toNat).offAt = some d → d ≤ max s.now tm →
      ∃ t, exec (.swapPowerOff tm port) s = .next t ∧ (t.seg port.toNat).powered = false ∧ (t.seg port.toNat).offAt = none ∧
        (t.seg port.toNat).releaseAt = some (max s.now tm + 1000000)) ∧
    (∀ d, (s.seg port.toNat).releaseAt = some d → d ≤ max s.now tm →
      ∃ t, exec (.swapOutputRelease tm port) s = .next t ∧ (t.seg port.toNat).outLow = false ∧ (t.seg port.toNat).outHiZ = true ∧
        (t.seg port.toNat).releaseAt = none) ∧
    (∀ r, (s.seg port.toNat).run = some r → r.phase = .powering → r.until_ ≤ max s.now tm →
      ∃ t, exec (.qualifySettleEnd tm port) s = .next t ∧ (t.seg port.toNat).run = some { r with phase := .settling, started := false }) ∧
    (∀ r, (s.seg port.toNat).run = some r → r.phase = .capturing → r.lines ≤ r.done →
      ∃ t, exec (.qualificationDone tm port) s = .next t ∧ (t.seg port.toNat).run = none ∧
        (t.seg port.toNat).qual = (if s.qualPass port.toNat r = true then 1 else 2) ∧ (t.seg port.toNat).qualLines = r.done ∧
        (s.qualPass port.toNat r = false → (t.seg port.toNat).state = .isolated) ∧
        (s.mode.mode ≠ .boot → t.ev.latch.getLsbD (32 + port.toNat) = true))) ∧
  (∀ (tm : Nat) (die : BitVec 2) (s : State),
    (∀ g rest, (s.die die.toNat).trigs = g :: rest → (s.die die.toNat).running = false → (s.die die.toNat).powered = true →
      ∃ t, exec (.feProgramStart tm die) s = .next t ∧ (t.die die.toNat).running = true ∧ (t.die die.toNat).line = g ∧
        (t.die die.toNat).trigs = rest) ∧
    ((s.die die.toNat).running = true → (s.die die.toNat).progEnd ≤ max s.now tm →
      ∃ t, exec (.feProgramEnd tm die) s = .next t ∧ (t.die die.toNat).running = false ∧ (t.die die.toNat).line = none ∧
        (t.die die.toNat).trigs = (s.die die.toNat).trigs) ∧
    (die.toNat < s.board.member.dies → s.mode.mode ≠ .boot →
      ∃ t, exec (.feDieReset tm die) s = .next t ∧ (t.die die.toNat).powered = false ∧ t.clk.lockFe.getLsbD die.toNat = false ∧
        (∀ p, 12 * die.toNat ≤ p → p < 12 * die.toNat + 12 → (t.seg p).state = .isolated ∧
          ∀ b, b < 4 → sget PatProgram.reset (4 * p + b) t.banks = PatProgram.reset) ∧ t.ev.latch.getLsbD 4 = true) ∧
    (die.toNat < s.board.member.dies → s.mode.mode ≠ .boot → s.mode.mode ≠ .standby → (s.die die.toNat).powered = false →
      s.therm.shutdown = false →
      ∃ t, exec (.feDieResetEnd tm die) s = .next t ∧ (t.die die.toNat).powered = true ∧ t.clk.lockFe.getLsbD die.toNat = true)) ∧
  (∀ (tm : Nat) (port : BitVec 6) (input : BitVec 4) (slot : BitVec 10) (sv sr : Int) (overRange : Bool)
      (checks : SampleChecks) (i p : Nat) (r : LineRec) (q : PatProgram) (a : TapAfe) (c : Nat) (seq : BitVec 32) (s : State),
    p = port.toNat → i = 16 * p + input.toNat → (s.die (p / 12)).line = some seq → s.lineRec seq = some r →
    (s.die (p / 12)).running = true → (tapEntry r.tabs i).en = true → (r.chanOf i).isSome = true → (s.seg p).state ≠ .swap → q = progOf s.banks r.tabs p →
    slot.toNat < q.slots → a = (sget AfePort.reset p r.tabs.afe).taps.getD input.toNat TapAfe.reset →
    c = rawCode a.pga.toNat ((if q.direct = true then sv else sv - sr) + 390625 * a.offset)
      (500000000 * ((sget AfePort.reset p r.tabs.afe).range.toNat + 1)) →
    ∃ t r', exec (.afeSlotSample tm port input slot sv sr overRange checks) s = .next t ∧ t.lineRec seq = some r' ∧
      r'.word i slot.toNat = (if overRange = true ∨ 16383 < c then { code := 0x3FFF, sat := true, bad := checks.residue }
        else tapWord c false (clampCorr (sget Clamp.reset i s.ports.clamp).acc) checks.residue) ∧
      (overRange = true → (r'.word i slot.toNat).code = 0x3FFF ∧ (r'.word i slot.toNat).sat = true))

/-- The background calibration takes its next channel, compares a handover and switches the taps, while lines run at the die's next
line boundary, measures the channel, and moves the trims by at most one unit; a failed channel is replaced by a free spare, a
foreground calibration ends, and the trims are saved each hour (R141, R142, R147, R149, R150, R152, R153, R155). -/
def Obligations.CalibrationEventsComplete : Prop := ∀ (tm : Nat) (die : BitVec 2) (s : State),
  (∀ c, s.calibrating = true → (s.die die.toNat).powered = true → (s.die die.toNat).bgHalt = false →
    (s.die die.toNat).rotCh = none → (s.die die.toNat).handover = none → (s.die die.toNat).rotUntil ≤ max s.now tm →
    s.inFgCal die.toNat = false →
    s.nextRot die.toNat = some c → s.carriesTaps die.toNat c = false →
    ∃ t, exec (.bgCalStepStart tm die) s = .next t ∧ (t.die die.toNat).rotCh = some c ∧
      (t.die die.toNat).rotUntil = max s.now tm + 2100000) ∧
  (∀ (h : Handover) (spareMean chanMean : Int), (s.die die.toNat).handover = some h → h.attempt ≠ 0 → h.recal = false →
    h.passed = false → s.portsMove = true → h.readyAt ≤ max s.now tm →
    ((spareMean - chanMean).natAbs ≤ 16 →
      ∃ t, exec (.handoverCompare tm die spareMean chanMean) s = .next t ∧
        (s.mode.mode.isCapture = true → (t.die die.toNat).handover = some { h with passed := true } ∧
          (t.ch die.toNat h.spare).covers = (s.ch die.toNat h.spare).covers) ∧
        (s.mode.mode.isCapture = false → h.back = false → h.home < 96 →
          (t.die die.toNat).handover = some { h with attempt := 0, passed := false } ∧ (t.ch die.toNat h.spare).covers = some h.home)) ∧
    (16 < (spareMean - chanMean).natAbs → h.attempt = 1 →
      ∃ t, exec (.handoverCompare tm die spareMean chanMean) s = .next t ∧
        (t.die die.toNat).handover = some { h with attempt := 2, recal := true } ∧
        (t.die die.toNat).rotUntil = max s.now tm + 2100000)) ∧
  (∀ c sp, (s.die die.toNat).pendingSub = [c] → s.pickSpare die.toNat = some sp → s.portsMove = true →
    ∃ t, exec (.spareSubstitution tm die) s = .next t ∧ (t.ch die.toNat sp).covers = some c ∧ (t.die die.toNat).pendingSub = []) ∧
  (∀ (c : Nat) (result : CalResult), (s.die die.toNat).rotCh = some c → (s.die die.toNat).handover = none →
    (s.die die.toNat).rotUntil ≤ max s.now tm → s.portsMove = true →
    (calAccepted result = true →
      ∃ t, exec (.bgMeasurementEnd tm die result) s = .next t ∧ (t.die die.toNat).rotCh = none ∧
        (t.ch die.toNat c).calAt = some (max s.now tm) ∧ (t.ch die.toNat c).calFails = 0) ∧
    (calAccepted result = false → (s.ch die.toNat c).calFails = 0 →
      ∃ t, exec (.bgMeasurementEnd tm die result) s = .next t ∧ (t.die die.toNat).rotCh = some c ∧
        (t.ch die.toNat c).calFails = 1 ∧ (t.die die.toNat).rotUntil = max s.now tm + 2100000)) ∧
  (∃ t, exec (.trimUpdate tm) s = .next t ∧ ∀ k c, k < s.board.member.dies → (s.die k).powered = true → c < 104 →
    (s.mode.mode.isCapture = true → (t.die k).trimTemp = some (s.dieTemp k) ∧ (t.ch k c).off = (s.ch k c).off ∧
      (t.ch k c).gain = (s.ch k c).gain ∧ (t.ch k c).elem = (s.ch k c).elem) ∧
    (s.mode.mode.isCapture = false →
      ((t.ch k c).off - (s.ch k c).off).natAbs ≤ 1 ∧ ((t.ch k c).gain - (s.ch k c).gain).natAbs ≤ 1 ∧
        (t.ch k c).elem = trimElem (s.ch k c).sets (s.dieTemp k))) ∧
  (s.mode.mode ≠ .boot → s.sec.trimAt + 3600000000000 ≤ max s.now tm → s.therm.nvBlock = false → s.sec.stopNv = false →
    ∃ t ws, exec (.trimSaveHourly tm) s = .next t ∧ t.sec.trimAt = max s.now tm ∧ t.sec.writes = s.sec.writes ++ ws ∧
      ws.length = 2 * s.board.member.dies) ∧
  (∀ (n : Nat) (dies : BitVec 4) (c : RunCmd) (results : List CalResult), s.ports.fgCal = some (n, dies) → (s.ctx n).cur = some c →
    c.noCpl = false → (∀ r ∈ results, calAccepted r = true) →
    ∃ t e, exec (.afeFgCalDone tm results) s = .next t ∧ t.ports.fgCal = none ∧ (t.ctx n).cur = none ∧
      (t.ctx n).ending = some e ∧ e.state = .done)

/-! ## Events of the line-timing unit and of the sync bus -/

/-- A valid encoder transition counts one unit by its direction, an invalid one sets ENC_ERR; an index pulse and a sheet edge that
are the cue set a page start; the V_EST timeout sets V_EST to 0 (R168, R169, R172, R186). With no apply pending, a trigger that
comes no sooner than T_MIN after the one before issues the next line; a held trigger is issued when T_MIN has passed; a flush makes
every powered die run its program without a line; REJECT_OUT is driven for its width (R171, R173, R176, R177, R567). -/
def Obligations.LineTimingEventsComplete : Prop :=
  (∀ (tm : Nat) (s : State),
    (∀ (a b : Bool) (d : Int), (a ≠ s.lt.enc0.a ↔ b = s.lt.enc0.b) → s.lt.run = true → s.srcNow = 0 →
      d = (if s.active.ltSrc.dir0 = true then -(quadDir s.lt.enc0 a b) else quadDir s.lt.enc0 a b) →
      s.lt.pos + d * 2 ^ 32 < s.lt.next →
      ∃ t, exec (.encEdge tm 0 a b) s = .next t ∧ t.lt.pos = s.lt.pos + d * 2 ^ 32 ∧ t.lt.enc0 = { s.lt.enc0 with a := a, b := b, sum := s.lt.enc0.sum + d } ∧
        t.lt.seq = s.lt.seq ∧ t.lines = s.lines) ∧
    (∀ a b : Bool, a ≠ s.lt.enc0.a → b ≠ s.lt.enc0.b →
      ∃ t, exec (.encEdge tm 0 a b) s = .next t ∧ t.lt.encErr = true ∧ t.lt.faults = s.lt.faults + 1 ∧ t.lt.pos = s.lt.pos ∧
        (s.mode.mode ≠ .boot → t.ev.latch.getLsbD 89 = true)) ∧
    (s.rst.uzsId = 0 → s.active.ltPage.cue = 5 → s.lt.run = true → s.mode.mode.isWeb = true → s.lt.starts.length < 64 →
      ∃ t x, exec (.encIndex tm 0) s = .next t ∧ t.lt.starts = s.lt.starts ++ [x] ∧ x.lead = (s.atTime tm).edgePos ∧
        x.pos = (s.atTime tm).edgePos + s.active.ltPage.cueDist) ∧
    (∀ n : BitVec 2, s.lt.sheets.length = 4 → s.lt.sheets.getD n.toNat false = false → s.rst.uzsId = 0 →
      s.active.ltPage.cue = n.toNat + 1 → s.lt.run = true → s.mode.mode.isWeb = true → s.lt.starts.length < 64 →
      ∃ t x, exec (.sheetEdge tm n true) s = .next t ∧ t.lt.sheets.getD n.toNat false = true ∧ t.lt.starts = s.lt.starts ++ [x] ∧
        x.pos = (s.atTime tm).edgePos + s.active.ltPage.cueDist) ∧
    (s.srcNow ≤ 1 → (∀ c, s.lt.counts.head? = some c → c + 10000000 ≤ max s.now tm) →
      ∃ t, exec (.vEstTimeout tm) s = .next t ∧ t.lt.vEst = 0)) ∧
  (∀ (tm : Nat) (s : State), s.mode.apply = none →
    (∀ g, s.lt.genAt = some g → s.lt.run = true → s.srcNow = 3 → g < 256 * max s.now tm + 256 →
      s.lt.next ≤ s.lt.pos + 2 ^ 32 → s.crossOk = true → s.lt.pend = none →
      (∀ l, s.lt.lastAny = some l → l + s.tMin ≤ max s.now tm) →
      ∃ t, exec (.generatorPeriod tm) s = .next t ∧ t.lt.genAt = some (g + s.active.ltSrc.genPeriod.toNat) ∧
        t.lt.pos = s.lt.pos + 2 ^ 32 ∧ t.lt.next = s.lt.next + 2 ^ 32 ∧ t.lt.seq = s.nextSeq) ∧
    (∀ x, s.lt.interpAt = some x → s.lt.run = true → x ≤ max s.now tm → s.crossOk = true → s.lt.pend = none →
      (∀ l, s.lt.lastAny = some l → l + s.tMin ≤ max s.now tm) →
      ∃ t, exec (.interpTrigger tm) s = .next t ∧ t.lt.seq = s.nextSeq ∧ t.lt.seqValid = true ∧ t.lt.interpAt = none ∧
        t.lt.next = s.lt.next + s.divNow ∧ t.lt.lastTrig = some (max s.now tm) ∧ (t.lines.map (fun r => r.tag.seq)).getLast? = some s.nextSeq) ∧
    (∀ x l, s.lt.interpAt = some x → s.lt.run = true → x ≤ max s.now tm → s.crossOk = true → s.lt.pend = none →
      s.lt.lastAny = some l → max s.now tm < l + s.tMin →
      ∃ t, exec (.interpTrigger tm) s = .next t ∧ t.lt.pend = some (max s.now tm) ∧ t.lt.seq = s.lt.seq ∧ t.lines = s.lines) ∧
    (∀ q l, s.lt.pend = some q → s.lt.lastAny = some l → s.lt.run = true → l + s.tMin ≤ max s.now tm →
      ∃ t, exec (.pendingTriggerIssue tm) s = .next t ∧ t.lt.pend = none ∧ t.lt.seq = s.nextSeq ∧
        (t.lines.map (fun r => r.tag.seq)).getLast? = some s.nextSeq) ∧
    ((s.atTime tm).flushDue = true →
      ∃ t, exec (.flushTrigger tm) s = .next t ∧ t.lt.lastAny = some (max s.now tm) ∧ t.lt.seq = s.lt.seq ∧
        ∀ k, k < s.board.member.dies → (s.die k).powered = true → (t.die k).trigs = (s.die k).trigs ++ [none]) ∧
    (∀ x, x ∈ s.sv.rejects → x ≤ (s.atTime tm).edgePos → s.active.io.fev15 = 1 →
      ∃ t, exec (.rejectOutPulse tm) s = .next t ∧ x ∉ t.sv.rejects ∧
        t.sv.rejUntil = some (max s.now tm + 1000 * s.active.io.rejWidth)) ∧
    (∀ x, s.sv.rejUntil = some x → x ≤ max s.now tm → ∃ t, exec (.rejectOutEnd tm) s = .next t ∧ t.sv.rejUntil = none))

/-- A line of the bar starts 160 ns after UZS_LINE; the master sends its frame, a follower counts its own line; a bad frame is
counted and the last speed stays, a good one is followed, and the follower answers in its slot; slots and the loss of UZS_CLK are
recorded (R78, R196, R197, R198, R200). -/
def Obligations.SyncBusEventsComplete : Prop := ∀ (tm : Nat) (s : State),
  (s.onBar = true → ∃ t, exec (.uzsLineSampled tm) s = .next t ∧ t.uzs.lineAt = some (max s.now tm + 160)) ∧
  (∀ x r, s.uzs.lineAt = some x → x ≤ max s.now tm → s.rst.uzsId = 0 → s.lines.find? (fun r => !r.started) = some r →
    ∃ t, exec (.uzsLineStart tm) s = .next t ∧ t.uzs.lineAt = none ∧
      .uzonFrame (packBits (frameOf r (s.applyIn r.tag.seq))) ∈ t.host.out) ∧
  (∀ x, s.uzs.lineAt = some x → x ≤ max s.now tm → s.rst.uzsId ≠ 0 → s.lt.run = true → s.uzs.stopped = false → s.uzs.applySeen = none →
    s.mode.apply = none →
    ∃ t, exec (.uzsLineStart tm) s = .next t ∧ t.lt.seq = s.nextSeq ∧ t.lt.pitchIx = s.lt.pitchIx + 1 ∧
      (t.lines.map (fun r => r.tag.seq)).getLast? = some s.nextSeq) ∧
  (∀ frame : BitVec 51, s.rst.uzsId ≠ 0 → s.lt.run = true → s.uzs.stopped = false → s.lt.seqValid = true →
    (frameIn frame = none →
      ∃ t, exec (.uzsFrameRx tm frame) s = .next t ∧ t.uzs.crcErrs = s.uzs.crcErrs + 1 ∧ t.uzs.speed = s.uzs.speed ∧
        t.lt.vEst = s.uzs.speed ∧ t.lt.seq = s.lt.seq ∧
        (s.mode.mode ≠ .boot → s.mode.mode ≠ .standby → ∃ b, .uzonSlot s.rst.uzsId.toNat b ∈ t.host.out)) ∧
    (∀ f, frameIn frame = some f → s.lt.seq.toNat % 65536 = f.seqLo → f.mode = s.mode.mode.code →
      ∃ t, exec (.uzsFrameRx tm frame) s = .next t ∧ t.uzs.speed = f.speed ∧ t.lt.vEst = f.speed ∧ t.lt.seq = s.lt.seq ∧
        t.uzs.gate = BitVec.ofNat 2 f.gate)) ∧
  (∀ (j : BitVec 2) (slot : BitVec 9), s.isMaster = true → j ≠ 0 → j.toNat ≤ s.active.ltSrc.followers.toNat →
    ∃ t, exec (.uzsSlotRx tm j slot) s = .next t ∧ t.uzs.seen = s.uzs.seen.set (j.toNat - 1) (slot.getLsbD 1) ∧
      (slot.getLsbD 1 = true → t.uzs.status = s.uzs.status.set (j.toNat - 1) (slot.extractLsb' 2 6) ∧
        t.uzs.perr = s.uzs.perr.set (j.toNat - 1) (((List.range 7).filter (fun k => slot.getLsbD (k + 2))).length % 2 == 1))) ∧
  (s.rst.uzsId ≠ 0 →
    ∃ t, exec (.uzsClkTimeout tm) s = .next t ∧ t.uzs.lost = true ∧ t.uzs.stopped = true ∧ t.lt.run = false ∧
      (s.mode.mode ≠ .boot → t.ev.latch.getLsbD 6 = true))

/-! ## Events of correction, alignment, Skillet and the services -/

/-- The filters of the zones follow their temperatures, a patrol read records what ECC finds, the calibrations go on and time out,
and the oldest line whose captures are in is complete (R213, R225, R235, R255, R269). -/
def Obligations.CorrectionEventsComplete : Prop := ∀ (tm : Nat) (s : State),
  (∃ t, exec (.zoneTempUpdate tm) s = .next t ∧ ∀ z j, z < s.board.member.ports → j < 5 →
    (∀ v, (s.atTime tm).filterIn z j = some v → (sget Filter.reset (5 * z + j) t.shd.filters).stale = false ∧
      (sget Filter.reset (5 * z + j) t.shd.filters).val = (sget Filter.reset (5 * z + j) s.shd.filters).val +
        sar (v - (sget Filter.reset (5 * z + j) s.shd.filters).val) s.active.shdCfg.filtSh) ∧
    ((s.atTime tm).filterIn z j = none → (sget Filter.reset (5 * z + j) t.shd.filters).stale = true ∧
      (sget Filter.reset (5 * z + j) t.shd.filters).val = (sget Filter.reset (5 * z + j) s.shd.filters).val)) ∧
  (∀ (slot : BitVec 3) (word : BitVec 21), slot.toNat < shdSlots (pixCount s.board.member s.active) →
    word.toNat < pixCount s.board.member s.active →
    (∃ t, exec (.shdPatrolRead tm slot word 1) s = .next t ∧ t.shd.corr = min 0xFFFF (s.shd.corr + 1) ∧ t.shd.slots = s.shd.slots ∧
      (s.mode.mode ≠ .boot → t.ev.latch.getLsbD 80 = true)) ∧
    (word.toNat ∉ (sget ShdSet.reset slot.toNat s.shd.slots).bad →
      ∃ t, exec (.shdPatrolRead tm slot word 2) s = .next t ∧ t.shd.uncorr = min 0xFFFF (s.shd.uncorr + 1) ∧
        word.toNat ∈ (sget ShdSet.reset slot.toNat t.shd.slots).bad ∧ (s.mode.mode ≠ .boot → t.ev.latch.getLsbD 81 = true))) ∧
  (∀ c u, s.shd.cal = some c → c.step = .settle → c.until_ = some u → u ≤ max s.now tm →
    ∃ t c', exec (.shdCalSettleEnd tm) s = .next t ∧ t.shd.cal = some c' ∧ c'.step = .dark ∧ c'.left = 576 ∧ t.ilm.dark = true) ∧
  (∀ c x, s.aln.cal = some c → c.deadline ≤ max s.now tm → (s.ctx c.ctx).cur = some x → x.noCpl = false →
    ∃ t e, exec (.alnCalibrateTimeout tm) s = .next t ∧ t.aln.cal = none ∧ (t.ctx c.ctx).ending = some e ∧ e.state = .failed ∧
      e.result = BitVec.ofNat 8 cTimeout) ∧
  (∀ (late poison : Bool) (r : LineRec), s.nextStitch = some r →
    ∃ t x, exec (.stitchedLineComplete tm late poison) s = .next t ∧ x ∈ t.lines ∧ x.tag.seq = r.tag.seq ∧ x.done = true ∧
      (r.clamped s.board.member = true → t.aln.clampCnt = min 0xFFFF (s.aln.clampCnt + 1)))

/-- A group of Skillet is evaluated with its class in the line the stage is at, the last one gives the line's latency, a pin's
stretch ends, and a streak frame starts on its lanes in 8b/10b code (R77, R327, R334, R335, R338, R341, R344). -/
def Obligations.SkilletEventsComplete : Prop := ∀ (tm : Nat) (s s1 : State), s1 = (s.atTime tm).sklTick →
  (∀ (group : BitVec 14) (entryNs entry : Nat) (q : BitVec 32) (r : LineRec) (e : SklGroup) (g : Nat), g = group.toNat →
    s1.skl.cur = some q → s1.lineRec q = some r → s1.sklOpen g r = true → e = sget SklGroup.reset g r.tabs.sklMap →
    s1.entryOf r e entryNs = some entry →
    ((∃ x ∈ sklGroups r.tabs, x.1 ≠ g ∧ x.1 ∉ s1.skl.evaluated) →
      ∃ t, exec (.sklGroupEval tm group entryNs) s = .next t ∧ t.skl.evaluated = s1.skl.evaluated ++ [g] ∧
        sget GroupSt.reset g t.skl.groups = if r.tag.gap = true then sget GroupSt.reset g s1.skl.groups
          else (sget GroupSt.reset g s1.skl.groups).eval (sget SklClass.reset e.cls r.tabs.sklClass) e.width e.expect (r.groupSum e).1
            (r.groupSum e).2) ∧
    ((∀ x ∈ sklGroups r.tabs, x.1 = g ∨ x.1 ∈ s1.skl.evaluated) → r.tag.gap = false →
      ∃ t, exec (.sklGroupEval tm group entryNs) s = .next t ∧
        t.skl.lastLat = min 0xFF (sklLatency (r.profile == .dense) (s1.now - entry)) ∧ s1.skl.maxLat ≤ t.skl.maxLat)) ∧
  (∀ (pin : BitVec 4) (x : Nat), (sget FevPin.reset pin.toNat s.skl.pins).holdTo = some x → x ≤ max s.now tm →
    ∃ t, exec (.fastevStretchEnd tm pin) s = .next t ∧ ∀ n, n < 16 → sget FevPin.reset n t.skl.pins =
      FevPin.follow (sget SklFev.reset n s.skl.fev) (max s.now tm) s.skl.out (s.route? n) (sget FevPin.reset n s.skl.pins)) ∧
  (∀ f rest, s1.skl.frames = f :: rest → s1.skl.frameEnd ≤ s1.now →
    ∃ t, exec (.slkFrameStart tm) s = .next t ∧ t.skl.frames = rest ∧
      (∀ l, l < f.length → l < 4 → .streakFrame l (frameSymbols (f.getD l [])
        (rdIdle ((s1.now - s1.skl.rdAt) / 8) (s1.skl.rd.getD l false))).1 ∈ t.host.out) ∧
      t.skl.frameEnd = s1.now + 8 * ((f.map List.length).foldl max 0 + 2))

/-- A service unit that completes is finished, or lost where its data were poisoned; the page whose services are over gets its
summary, whose hash is the next chain value; a waiting reference is decoded into a free slot or found bad (R273, R279, R284, R285,
R317, R318). -/
def Obligations.ServiceEventsComplete : Prop := ∀ (tm : Nat) (s : State),
  (∀ (unit : SvUnit) (poison : Bool) (p : SvPage), s.svPage (unitPage unit) = some p → unit ∈ p.issued → p.over unit = false →
    p.going (unitService unit) = true →
    ∃ t j p', exec (.serviceUnitComplete tm unit poison) s = .next t ∧ t.sv.job = some j ∧ p' ∈ j.pages ∧ p'.seq = p.seq ∧
      (if poison = true then unit ∈ p'.lost else unit ∈ p'.finished)) ∧
  (∀ (s1 : State) (j : Job) (p : SvPage) (rest : List SvPage) (bs : List Byte), s1 = (s.atTime tm).svAdvance → s1.sv.job = some j →
    j.summing = none → j.pages = p :: rest → p.isOpen = false → (∀ x ∈ p.prog, x ≠ .going) →
    (∀ k ∈ [0, 1, 2, 5], s1.svHeld k = false) → s1.hasRoom (j.queues.getD 5 0) = true → j.closing = false →
    bs = summaryOf j (j.view s1.board p) p →
    ((s1.svRecord 5 bs).svHeld 5 = false →
      ∃ t j', exec (.pageSummaryPush tm) s = .next t ∧ t.sv.job = some j' ∧ j'.pages = rest ∧ j'.count = j.count + 1 ∧
        j'.pushed = some p.seq ∧ j'.chain = sha256 bs) ∧
    ((s1.svRecord 5 bs).svHeld 5 = true →
      ∃ t j', exec (.pageSummaryPush tm) s = .next t ∧ t.sv.job = some j' ∧ j'.pages = p :: rest ∧ j'.summing = some bs ∧
        j'.count = j.count)) ∧
  (∀ (j : Job) (r : RefSub) (k : Nat) (got : List Byte), s.sv.job = some j →
    j.refs.find? (fun r => r.state == .waiting) = some r → j.freeSlot = some k →
    got = ((s.atTime tm).dramRead 6 (s.winAddr r.window r.offset) r.length).1 →
    (∀ w h id rows, decodeRrf got = .ok (w, h, id, rows) → w ≤ j.width → h ≤ j.height →
      ∃ t j' x, exec (.refDecodeDone tm) s = .next t ∧ t.sv.job = some j' ∧ x ∈ j'.refs ∧ x.page = r.page ∧ x.state = .decoded ∧
        x.width = w ∧ x.height = h ∧ x.pageId = id ∧ x.slot = k ∧ (t.ctx r.ctx).cur = none) ∧
    (∀ e, decodeRrf got = .error e →
      ∃ t j' x, exec (.refDecodeDone tm) s = .next t ∧ t.sv.job = some j' ∧ x ∈ j'.refs ∧ x.page = r.page ∧ x.state = .bad ∧
        (t.ctx r.ctx).cur = none ∧ (s.mode.mode ≠ .boot → t.ev.latch.getLsbD 98 = true)))

/-! ## Events of the illumination controller -/

/-- A row's regulation starts, its slots light and end, its faults are taken, its compensation and power follow their measurements,
and the chains of shunt switches latch, shift, a locked table waiting for its apply, and test (R24, R350, R353, R356, R357, R360,
R361, R363, R366, R368, R371). -/
def Obligations.IlluminationEventsComplete : Prop := ∀ (tm : Nat) (row : BitVec 2) (s : State),
  (s.mayLight row.toNat = true → (s.row row.toNat).run = none → (s.row row.toNat).regTo ≤ max s.now tm →
    (∀ r i, (s.atTime tm).dueSlot row.toNat = some (r, i) →
      4 * r.trigAt + r.slotAt i ≤ 4 * max s.now tm + 4 * (rowCfg r.tabs row.toNat).regLead →
      ∃ t, exec (.ilmRegStart tm row) s = .next t ∧ (t.row row.toNat).run = some
        { seq := r.tag.seq, slot := i, aCode := (r.slotDrive i).1, on := (r.slotDrive i).2, lit := false, fallAt := 0, endAt := 0 }) ∧
    (∀ q i, (s.atTime tm).dueSlot row.toNat = none → s.nextSlot row.toNat = some (q, i) →
      ∃ t, exec (.ilmRegStart tm row) s = .next t ∧ (t.row row.toNat).run = some
        { seq := q, slot := i, aCode := (s.slotDrive i).1, on := (s.slotDrive i).2, lit := false, fallAt := 0, endAt := 0 })) ∧
  (∀ (x : SlotRun) (r : LineRec) (i rise : Nat), (s.row row.toNat).run = some x → x.lit = false → s.mayLight row.toNat = true →
    (s.atTime tm).dueSlot row.toNat = some (r, i) →
    rise = r.slotAt i + 5 * (((r.tabs.strobe.slots.getD i Slot.reset).width.toNat - (r.slotDrive i).2) / 2) →
    4 * r.trigAt + rise ≤ 4 * max s.now tm + 3 →
    ∃ t, exec (.lstbRise tm row) s = .next t ∧ (t.row row.toNat).run = some
      { seq := r.tag.seq, slot := i, aCode := (r.slotDrive i).1, on := (r.slotDrive i).2, lit := true,
        fallAt := r.trigAt + (rise + 5 * (r.slotDrive i).2) / 4, endAt := r.trigAt + r.slotEnd i / 4 }) ∧
  (∀ (x : SlotRun) (mean : Nat), (s.row row.toNat).run = some x → x.lit = true → x.fallAt ≤ max s.now tm →
    ∃ t, exec (.lstbFall tm row mean) s = .next t ∧ (t.row row.toNat).run = none ∧
      (t.row row.toNat).lastSlot = some (x.seq, x.slot) ∧
      (x.aCode < 10 * ((mean : Int) - x.aCode).natAbs → (t.row row.toNat).curSeq = some x.seq) ∧
      (10 * ((mean : Int) - x.aCode).natAbs ≤ x.aCode → (t.row row.toNat).curSeq = (s.row row.toNat).curSeq)) ∧
  (∀ vfb current : Nat,
    ((rowCfg s.active row.toNat).vOv < vfb ∨ 1280 < current →
      ∃ t, exec (.ilmOvOcDetect tm row vfb current) s = .next t ∧ (t.row row.toNat).fault = true ∧ (t.row row.toNat).ovNow = true ∧
        (t.row row.toNat).run = none ∧ (s.mode.mode ≠ .boot → (s.row row.toNat).fault = false → t.ev.latch.getLsbD 149 = true)) ∧
    (vfb ≤ (rowCfg s.active row.toNat).vOv → current ≤ 1280 →
      ∃ t, exec (.ilmOvOcDetect tm row vfb current) s = .next t ∧ (t.row row.toNat).ovNow = false ∧
        (t.row row.toNat).fault = (s.row row.toNat).fault)) ∧
  (∃ t, exec (.ilmTcompUpdate tm) s = .next t ∧ ∀ w, w < 4 →
    (s.rowTemps w = [] → (t.row w).held = (rowCfg s.active w).en ∧ (t.row w).nextK = (s.row w).nextK) ∧
    (s.rowTemps w ≠ [] → (t.row w).held = false ∧ (t.row w).nextK = tcompAt (meanOf (s.rowTemps w))
      ((sget IlmTcomp.reset w s.active.tcomp).temps.zip (sget IlmTcomp.reset w s.active.tcomp).ks))) ∧
  (∃ t, exec (.ilmPowerUpdate tm) s = .next t ∧ ∀ w, w < 4 → (t.row w).power = s.rowPower w) ∧
  (∀ (chain : BitVec 1) (ret : List Bool), chainLen s.board.member.ports s.active chain.toNat ≠ 0 → (s.chain chain.toNat).hold = false →
    (s.chain chain.toNat).staging = none → s.mode.mode ≠ .boot → s.mode.mode ≠ .standby →
    (s.atTime tm).darkNow = true →
    ∃ t, exec (.lswFrameLatch tm chain ret) s = .next t ∧ (t.chain chain.toNat).driven = s.chainBits chain.toNat ∧
      ((padTo (chainLen s.board.member.ports s.active chain.toNat) false ret).all id = true →
        (t.chain chain.toNat).err = true ∧ t.ev.latch.getLsbD 146 = true)) ∧
  (∀ (chain : BitVec 1) (n : Nat),
    (s.locked [0x0803] = false → (s.chain chain.toNat).staging = some (n, false) →
      ∃ t, exec (.lswShiftDone tm chain) s = .next t ∧ (t.chain chain.toNat).staging = none ∧ (t.chain chain.toNat).hold = true ∧
        sget [] chain.toNat t.shadow.lsw = (s.chain chain.toNat).bits ∧ (t.ctx n).cur = none) ∧
    (s.locked [0x0803] = false → (s.chain chain.toNat).staging = some (n, true) →
      ∃ t, exec (.lswShiftDone tm chain) s = .next t ∧ (t.chain chain.toNat).staging = none ∧ (t.chain chain.toNat).hold = false ∧
        sget [] chain.toNat t.shadow.lsw = sget [] chain.toNat s.active.lsw ∧ (t.ctx n).cur = none) ∧
    (∀ release, s.locked [0x0803] = true → (s.chain chain.toNat).staging = some (n, release) →
      ∃ t, exec (.lswShiftDone tm chain) s = .next t ∧ (t.chain chain.toNat).staging = some (n, release) ∧
        (t.chain chain.toNat).shifted = true ∧ t.shadow.lsw = s.shadow.lsw)) ∧
  (∀ (current voltage : Nat) (x : LampTest), s.ilm.test = some x → x.rows.getLsbD row.toNat = true → x.n.length = 4 → x.iSum.length = 4 →
    x.n.getD row.toNat 0 + 1 < x.lines → s.lt.seqValid = true → s.mayLight row.toNat = true →
    x.last.getD row.toNat none ≠ some s.lt.seq → (x.when_ ≠ 0 ∨ s.inGap = true) → s.pulseFits x.ns = true →
    ∃ t x', exec (.lampTestPulse tm row current voltage) s = .next t ∧ t.ilm.test = some x' ∧
      x'.n.getD row.toNat 0 = x.n.getD row.toNat 0 + 1 ∧ x'.iSum.getD row.toNat 0 = x.iSum.getD row.toNat 0 + current)

/-! ## Events of motion, monitor, thermal and power management -/

/-- A ready axis starts the move at the head of its queue and a trapezoidal move advances by a tick; over-current in two periods
running, and a low fault input, are hard faults; an undervoltage that has lasted is a soft fault; the hold current is applied after
its delay; a step edge moves the target of an axis that follows (R384, R390, R394, R395, R397, R401, R402). -/
def Obligations.MotionEventsComplete : Prop := ∀ (tm : Nat) (axis : BitVec 2) (s : State),
  (∀ (m : Move) (goal : Int) (v acc dec : Nat), (s.axis axis.toNat).queue.head? = some m → m.kind = .move goal v acc dec →
    (s.axis axis.toNat).owned = false → s.shd.cal = none →
    (∀ y, y < 4 → y ≠ axis.toNat → (s.axis y).running = false ∧ (s.axis y).queue = [] ∧ (s.axis y).owned = false) →
    ((s.axis axis.toNat).running = false → (s.axis axis.toNat).ready = true →
      ∃ t, exec (.motRampTick tm) s = .next t ∧ (t.axis axis.toNat).running = true ∧ (t.axis axis.toNat).target = goal ∧
        (t.axis axis.toNat).vMax = v ∧ (t.axis axis.toNat).start = (s.axis axis.toNat).pos) ∧
    (∀ p' v', (s.axis axis.toNat).running = true → (s.axis axis.toNat).stopDec = none → s.mode.apply = none →
      trapStep ((s.axis axis.toNat).target * 2 ^ 32) (s.axis axis.toNat).vMax (s.axis axis.toNat).acc (s.axis axis.toNat).dec
        (s.axis axis.toNat).p (s.axis axis.toNat).v = (p', v', false) →
      ∃ t, exec (.motRampTick tm) s = .next t ∧ (t.axis axis.toNat).p = p' ∧ (t.axis axis.toNat).v = v')) ∧
  (∀ sense : MotSense,
    ((s.axis axis.toNat).gates = false →
      ∃ t, exec (.motPwmPeriod tm axis sense) s = .next t ∧ (t.axis axis.toNat).high = [0, 0, 0, 0] ∧
        (t.axis axis.toNat).lambda = none) ∧
    ((s.axis axis.toNat).gates = true → 1 ≤ (s.axis axis.toNat).overRun →
      ((s.motCfg axis.toNat).iTrip * 250000 < (s.motCfg axis.toNat).iFs * sense.miA.natAbs ∨
        (s.motCfg axis.toNat).iTrip * 250000 < (s.motCfg axis.toNat).iFs * sense.miB.natAbs) →
      ∃ t, exec (.motPwmPeriod tm axis sense) s = .next t ∧ (t.axis axis.toNat).state = .hardFault ∧
        (t.axis axis.toNat).gates = false ∧ (t.axis axis.toNat).homed = false ∧ (t.axis axis.toNat).cause = 2 ∧
        (s.mode.mode ≠ .boot → t.ev.latch.getLsbD (162 + 4 * axis.toNat) = true))) ∧
  (∀ r, (s.axis axis.toNat).restAt = some r → r + 1000000 * (s.motCfg axis.toNat).holdDelay ≤ max s.now tm →
    ∃ t, exec (.holdDelayEnd tm axis) s = .next t ∧ (t.axis axis.toNat).hold = true ∧ (t.axis axis.toNat).restAt = none) ∧
  ((s.motCfg axis.toNat).en = true → (s.axis axis.toNat).state ≠ .hardFault →
    ∃ t, exec (.motFltInput tm axis true) s = .next t ∧ (t.axis axis.toNat).fltPin = true ∧ (t.axis axis.toNat).state = .hardFault ∧
      (t.axis axis.toNat).cause = 1 ∧ (t.axis axis.toNat).gates = false) ∧
  (∃ t, exec (.motFltInput tm axis false) s = .next t ∧ (t.axis axis.toNat).fltPin = false) ∧
  (∀ rising dirHigh : Bool, (s.axis axis.toNat).running = true → (s.axis axis.toNat).state = .following →
    (s.axis axis.toNat).stopDec = none → rising ≠ (s.motCfg axis.toNat).stepEdge →
    ∃ t, exec (.stepInEdge tm axis rising dirHigh) s = .next t ∧ (t.axis axis.toNat).edgeAt = some (max s.now tm) ∧
      (t.axis axis.toNat).coarse = (s.axis axis.toNat).coarse +
        (if dirHigh ≠ (s.motCfg axis.toNat).dirInv then ((s.motCfg axis.toNat).stepSize : Int) else -((s.motCfg axis.toNat).stepSize : Int))) ∧
  (∀ x, (s.axis axis.toNat).vbusLow = some x → x + 1000000 ≤ max s.now tm →
    ∃ t, exec (.vbusLowTimeout tm axis) s = .next t ∧ (t.axis axis.toNat).vbusLow = none ∧ (t.axis axis.toNat).cause = 5 ∧
      (s.mode.mode ≠ .boot → t.ev.latch.getLsbD (162 + 4 * axis.toNat) = true))

/-- A conversion joins its accumulator set, which closes when its window is full; a calibration that is accepted gives the converter
its codes, one that is not, or a conversion that does not end, fails it; the calibration period starts again; the mains periods are
averaged over 8 (R411, R412, R416, R417, R420, R422, R423). -/
def Obligations.MonitorEventsComplete : Prop := ∀ (tm : Nat) (conv : BitVec 1) (k : Conv) (s : State), k = s.conv conv.toNat →
  (∀ (raw : Nat) (e : SeqEntry) (left : Nat) (w : SetAcc), k.work = .entry e left → 2 ≤ left → k.state ≠ .cal →
    k.endAt ≤ max s.now tm → k.discard = 0 → s.madc.inj = none → s.madc.calLeft = [] → (s.conv (1 - conv.toNat)).work ≠ .none →
    w = (s.accSet e.set).work.add (k.code k.sarKind raw) false k.sarKind →
    ∃ t, exec (.madcConversionEnd tm conv raw false) s = .next t ∧ (t.conv conv.toNat).work = .entry e (left - 1) ∧
      (w.taken < (s.setCfg e.set).win →
        (t.accSet e.set).work = w ∧ (t.accSet e.set).seq = (s.accSet e.set).seq ∧ (t.accSet e.set).snap = (s.accSet e.set).snap) ∧
      ((s.setCfg e.set).win ≤ w.taken → (t.accSet e.set).snap = w ∧ (t.accSet e.set).work = SetAcc.reset ∧
        (t.accSet e.set).seq = (s.accSet e.set).seq + 1 ∧ (t.accSet e.set).dv = s.derive e.set w)) ∧
  (∀ lo hi sarLo sarHi : Nat, k.state = .cal → k.endAt ≤ max s.now tm →
    (calAccept lo hi = true →
      ∃ t, exec (.madcCalibrationEnd tm conv lo hi sarLo sarHi) s = .next t ∧ (t.conv conv.toNat).intLo = lo ∧
        (t.conv conv.toNat).intHi = hi ∧ (t.conv conv.toNat).sarLo = sarLo ∧ (t.conv conv.toNat).sarHi = sarHi) ∧
    (calAccept lo hi = false →
      ∃ t, exec (.madcCalibrationEnd tm conv lo hi sarLo sarHi) s = .next t ∧ (t.conv conv.toNat).failed = true ∧
        (s.mode.mode ≠ .boot → t.ev.latch.getLsbD 178 = true))) ∧
  (s.madc.calPeriod ≠ 0 → s.madc.seqGo = true → s.madc.calNextAt ≤ max s.now tm → s.madc.nextCfg = none →
    ∃ t, exec (.madcCalPeriodic tm) s = .next t ∧ t.madc.calNextAt = max s.now tm + s.madc.calPeriod * 60000000000) ∧
  (k.work ≠ .none → k.startAt + 2 * (k.endAt - k.startAt) ≤ max s.now tm → s.madc.testCtx = none →
    ∃ t, exec (.madcConvTimeout tm conv) s = .next t ∧ (t.conv conv.toNat).failed = true ∧
      (s.mode.mode ≠ .boot → t.ev.latch.getLsbD 178 = true)) ∧
  (∀ (ticks : Nat) (ps : List Nat), ps = (ticks :: s.madc.periods).take 8 →
    (s.madc.mainsSrc = 2 → s.madc.nextCfg = none →
      ∃ t, exec (.mainsRefCrossing tm ticks) s = .next t ∧ t.madc.periods = ps ∧ t.madc.mainsOk = mainsValid ps) ∧
    (s.madc.mainsSrc ≠ 2 → s.madc.nextCfg = none →
      ∃ t, exec (.mainsRefCrossing tm ticks) s = .next t ∧ t.madc.periods = s.madc.periods ∧ t.madc.mainsOk = s.madc.mainsOk))

/-- A thermal sample gives every sensor its reading and T_hot its limits: the warning, NV_BLOCK, SHUTDOWN and the HW_TRIP latch; a
refill adopts Simmer's staged configuration and fills the buckets; the ceiling and the lamp caps move by their steps (R429, R434,
R436, R437, R440, R441, R444, R445). -/
def Obligations.ThermalEventsComplete : Prop := ∀ (tm : Nat) (s : State),
  (∀ readings : List Int, s.rst.phase.linksAllowed = true →
    ∃ t, exec (.thermSample tm readings) s = .next t ∧
      (∀ i v, i ∈ s.sensors → readings[i]? = some v → (t.sensor i).reading = clampI (-14080) 38400 v) ∧
      t.therm.tHot = t.hottest.1 ∧ t.therm.hotReg = t.hottest.2 ∧ (25600 ≤ t.therm.tHot → t.therm.warn = true) ∧
      (29440 ≤ t.therm.tHot → t.therm.nvBlock = true) ∧ (30720 ≤ t.therm.tHot → t.therm.shutdown = true) ∧
      (32000 ≤ t.therm.tHot → t.rst.thermTrip = true)) ∧
  (∀ pDev pMand : Nat, s.mode.mode ≠ .boot → s.served = true →
    ∃ t, exec (.simmerRefill tm pDev pMand) s = .next t ∧ t.simmer.pDev = pDev ∧ t.simmer.nextCfg = none ∧
      t.simmer.nextBoard = none ∧ (∀ c, s.simmer.nextCfg = some c → t.simmer.cfg.tTarget = c.tTarget) ∧
      t.simmer.energy ≤ 1000 * t.simmer.pOpt * t.simmer.cfg.bucket ∧
      t.simmer.bytes ≤ t.simmer.bOpt * t.simmer.cfg.bucket) ∧
  (∀ a, s.simmer.stepAt = some a → a ≤ max s.now tm →
    (s.simmer.slow = false →
      ∃ t, exec (.simmerCeilingStep tm) s = .next t ∧ t.simmer.ceil =
        if s.mayRise (min 4096 (s.simmer.ceil + 512)) = true then min 4096 (s.simmer.ceil + 512) else s.simmer.ceil) ∧
    (s.simmer.slow = true → (s.atTime tm).entry 3 = true →
      ∃ t, exec (.simmerCeilingStep tm) s = .next t ∧
        t.simmer.ceil = min s.simmer.ceil (max s.simmer.cfg.ceilMin (s.simmer.ceil - 512)) ∧ t.simmer.stepAt = some (a + 500000000))) ∧
  ((s.atTime tm).heldFor 100000000 s.simmer.lowSince = true → s.simmer.capRaiseAt ≤ max s.now tm →
    ∃ t, exec (.simmerCapRaise tm) s = .next t ∧ t.simmer.capRaiseAt = max s.now tm + 10000000 ∧
      ∀ w, w < 4 → (t.row w).nextCap = min 4096 ((s.row w).nextCap + 64))

/-! ## Events of the DRAM controller -/

/-- Requests are served in their order, reads return and are checked, a read that does not return fails its channel, requests are
promoted when their age reaches the limit, and the port counters latch (R456, R458, R462, R465, R469, R476). Refresh units fall due,
or are put off during PANIC; a channel's refresh class follows its temperature class by one step at a time; the DQS oscillator runs
on every channel; the patrol scrub, the pass of SCRUB, which zeroes the data, and rebuilding go on, a wake from STANDBY zeroes a
block, and a rebuilt channel is in the spare (R39, R46, R455, R464, R465, R473, R475, R478). -/
def Obligations.DramEventsComplete : Prop :=
  (∀ (tm : Nat) (ch : BitVec 3) (s : State),
    (∀ s1, s1 = (s.atTime tm).panNotes ch.toNat →
      (0 < (s1.dch ch.toNat).forcedDue →
        ∃ t, exec (.dramCommandSlot tm ch) s = .next t ∧ t.dram.forced = min 0xFFFF (s.dram.forced + 1) ∧
          (t.dch ch.toNat).forcedDue = (s1.dch ch.toNat).forcedDue - 1) ∧
      (∀ r, (s1.dch ch.toNat).forcedDue = 0 → (s1.dch ch.toNat).osc = false → s1.pickReq true (s1.dch ch.toNat) = some r →
        ∃ t, exec (.dramCommandSlot tm ch) s = .next t ∧ (t.dch ch.toNat).reqs = (s1.dch ch.toNat).reqs.erase r) ∧
      (∀ r, (s1.dch ch.toNat).forcedDue = 0 → (s1.dch ch.toNat).osc = false → s1.pickReq true (s1.dch ch.toNat) = none →
        (s1.dch ch.toNat).due = 0 → (s1.dch ch.toNat).debt = 0 → s1.pickReq false (s1.dch ch.toNat) = some r →
        ∃ t, exec (.dramCommandSlot tm ch) s = .next t ∧ (t.dch ch.toNat).reqs = (s1.dch ch.toNat).reqs.erase r ∧
          (r.write = false → ∃ q, (t.dch ch.toNat).flight = (s1.dch ch.toNat).flight ++ [q] ∧ q.addr = r.addr ∧ q.port = r.port))) ∧
    (∀ r rest, (s.dch ch.toNat).flight = r :: rest →
      ((r.parity = true ∨ r.addr / 64 ∉ s.dram.poison) →
        ∃ t, exec (.dramReadReturn tm ch .clean) s = .next t ∧ (t.dch ch.toNat).flight = rest ∧ t.dram.corr = s.dram.corr ∧
          t.dram.uncorr = s.dram.uncorr) ∧
      (r.parity = false → r.addr / 64 ∈ s.dram.poison →
        ∃ t, exec (.dramReadReturn tm ch .clean) s = .next t ∧ (t.dch ch.toNat).flight = rest ∧
          t.dram.uncorr = min 0xFFFF (s.dram.uncorr + 1)) ∧
      (∀ w, ∃ t, exec (.dramReadReturn tm ch (.corrected w)) s = .next t ∧ (t.dch ch.toNat).flight = rest ∧
        t.dram.corr = min 0xFFFF (s.dram.corr + 1) ∧ (s.mode.mode ≠ .boot → t.ev.latch.getLsbD 210 = true)) ∧
      (∀ w, r.parity = false → s.rebuildable r.addr true = false →
        ∃ t, exec (.dramReadReturn tm ch (.uncorrectable w)) s = .next t ∧ t.dram.uncorr = min 0xFFFF (s.dram.uncorr + 1) ∧
          r.addr / 64 ∈ t.dram.poison ∧ (s.mode.mode ≠ .boot → t.ev.latch.getLsbD 211 = true)) ∧
      (∀ w, r.parity = false → s.rebuildable r.addr true = true →
        ∃ t, exec (.dramReadReturn tm ch (.uncorrectable w)) s = .next t ∧ t.dram.uncorr = min 0xFFFF (s.dram.uncorr + 1) ∧
          t.dram.poison = s.dram.poison ∧ (s.mode.mode ≠ .boot → t.ev.latch.getLsbD 212 = true)) ∧
      (r.at_ + 10000 ≤ max s.now tm →
        ∃ t, exec (.dramAccessTimeout tm ch) s = .next t ∧ (t.dch ch.toNat).flight = rest ∧ t.dram.failedCh = ch.toNat ∧
          t.dma.latched = true ∧ (s.mode.mode ≠ .boot → t.ev.latch.getLsbD 213 = true))) ∧
    (∃ t, exec (.requestPromote tm) s = .next t ∧ ∀ c, c < 8 → (t.dch c).reqs = (s.dch c).reqs.map (fun r =>
      if r.since + s.dram.ageLimit ≤ max s.now tm ∧ 0 < r.cls then { r with cls := r.cls - 1, since := max s.now tm } else r)) ∧
    (∃ t, exec (.dramPortWindow tm) s = .next t ∧ t.dram.latched = s.dram.count ∧ t.dram.count = [])) ∧
  (∀ (tm : Nat) (ch : BitVec 3) (s : State),
    (s.anyPanic = false →
      ∃ t, exec (.refreshUnitDue tm ch) s = .next t ∧ (t.dch ch.toNat).due = (s.dch ch.toNat).due + 1) ∧
    (s.anyPanic = true → (s.dch ch.toNat).debt + tRefi (s.dch ch.toNat).cls ≤ refCeiling (s.dch ch.toNat).cls * tRefi (s.dch ch.toNat).cls →
      ∃ t, exec (.refreshUnitDue tm ch) s = .next t ∧
        (t.dch ch.toNat).debt = (s.dch ch.toNat).debt + tRefi (s.dch ch.toNat).cls) ∧
    (∀ cls : BitVec 2, (s.dch ch.toNat).stepAt = none →
      ∃ t, exec (.mr4Read tm ch cls) s = .next t ∧ (t.dch ch.toNat).report = cls.toNat ∧
        (t.dch ch.toNat).cls = (if (s.dch ch.toNat).cls < cls.toNat then (s.dch ch.toNat).cls + 1
          else if cls.toNat < (s.dch ch.toNat).cls then (s.dch ch.toNat).cls - 1 else (s.dch ch.toNat).cls)) ∧
    (∀ d, (s.dch ch.toNat).stepAt = some d → d ≤ max s.now tm →
      ∃ t, exec (.refreshClassStep tm ch) s = .next t ∧
        (t.dch ch.toNat).cls = (if (s.dch ch.toNat).cls < (s.dch ch.toNat).report then (s.dch ch.toNat).cls + 1
          else if (s.dch ch.toNat).report < (s.dch ch.toNat).cls then (s.dch ch.toNat).cls - 1 else (s.dch ch.toNat).cls)) ∧
    (∃ t, exec (.dqsOscRun tm) s = .next t ∧ ∀ c, c < 8 → s.dram.chOk.getLsbD c = true → (t.dch c).osc = true) ∧
    (s.mode.mode = .scrub →
      ∃ t, exec (.dramScrubStep tm .clean) s = .next t ∧ t.dram.pos = min (s.dram.pos + 1) (8 * s.chanBlocks) ∧
        ((s.physBlock s.dram.pos).2.2 = true → t.dram.mem = memZero (s.physBlock s.dram.pos).1 64 s.dram.mem)) ∧
    (s.mode.mode ≠ .standby → s.mode.mode ≠ .boot → s.mode.mode ≠ .scrub →
      ∃ t, exec (.dramScrubStep tm .clean) s = .next t ∧
        (8 * s.chanBlocks ≤ s.dram.pos + 1 → t.dram.pos = 0 ∧ t.dram.passes = s.dram.passes + 1) ∧
        (s.dram.pos + 1 < 8 * s.chanBlocks → t.dram.pos = s.dram.pos + 1 ∧ t.dram.passes = s.dram.passes)) ∧
    (∀ x, s.mode.mode = .standby → s.mode.trans = some x → s.mode.target = .idle → x.bytes < s.dramSize - s.protSize →
      ∃ t, exec (.dramScrubStep tm .clean) s = .next t ∧ t.dram.mem = memZero (s.protSize + x.bytes) 64 s.dram.mem) ∧
    (∀ r, s.dram.rebuild = some r →
      (r.pos + 1 < s.chanBlocks →
        ∃ t, exec (.dramRebuildStep tm) s = .next t ∧ t.dram.rebuild = some { r with pos := r.pos + 1 }) ∧
      (s.chanBlocks ≤ r.pos + 1 → r.restore = true →
        ∃ t, exec (.dramRebuildStep tm) s = .next t ∧ t.dram.rebuild = none ∧ t.dram.spare = 0 ∧ t.dram.spared = none ∧
          ∀ n, r.ctx = some n → (t.ctx n).cur = none) ∧
      (s.chanBlocks ≤ r.pos + 1 → r.restore = false →
        ∃ t, exec (.dramRebuildStep tm) s = .next t ∧ t.dram.rebuild = none ∧ t.dram.spare = 2 ∧
          (s.mode.mode ≠ .boot → t.ev.latch.getLsbD 214 = true) ∧ ∀ n, r.ctx = some n → (t.ctx n).cur = none)))

/-! ## Rules of the spec, stated whole -/

/-- R223, R224 and R225: D and G come from the words of the sets in use and stay in their ranges; the defective pixels are those of
R224, whose own value plays no part in what replaces them; every other pixel has the value of R224, and one that arrives with SAT
leaves as 0xFFFF with SAT. -/
def Obligations.PixelsAreCorrected : Prop :=
  ∀ (sets : SMap ShdSet) (ch : Choice) (idx x : Nat) (sat defpix : Bool) (wa wb : BitVec 32) (d g z : Int) (p : ShPix),
  sets ≠ [] → ch.f ≤ 255 → x ≤ 65535 → wa = sget 0 idx (sget ShdSet.reset ch.a sets).words →
  wb = sget 0 idx (sget ShdSet.reset ch.b sets).words →
  d = (if ch.a = ch.b then darkOf wa else darkOf wa + ((darkOf wb - darkOf wa) * ch.f + 128) / 256) →
  g = (if ch.a = ch.b then (gainOf wa : Int) else gainOf wa + (((gainOf wb : Int) - gainOf wa) * ch.f + 128) / 256) →
  z = (((x : Int) - d) * g + 8192) / 16384 → p = shadeOne sets ch idx x sat defpix →
  (-32768 ≤ d ∧ d ≤ 32767 ∧ 0 ≤ g ∧ g ≤ 65535 ∧ -(2 ^ 34) ≤ ((x : Int) - d) * g + 8192 ∧ ((x : Int) - d) * g + 8192 < 2 ^ 34) ∧
  (p.bad = true ↔ (gainOf wa = 0 ∨ gainOf wb = 0 ∨ defpix = true ∨ idx ∈ (sget ShdSet.reset ch.a sets).bad ∨
    idx ∈ (sget ShdSet.reset ch.b sets).bad)) ∧
  (p.bad = true → ∀ (l1 l2 r1 r2 : Option ShPix) (v' : Nat) (sat' : Bool),
    fixPix l1 l2 p r1 r2 = fixPix l1 l2 { p with v := v', sat := sat' } r1 r2) ∧
  (p.bad = false → ∀ l1 l2 r1 r2 : Option ShPix, fixPix l1 l2 p r1 r2 =
    (if sat = true then { data := 0xFFFF, sat := true, defpix := false, interp := false, stitch := false }
     else if z < 0 then { data := 0, sat := false, defpix := false, interp := false, stitch := false }
     else if 65535 < z then { data := 0xFFFF, sat := true, defpix := false, interp := false, stitch := false }
     else { data := BitVec.ofInt 16 z, sat := false, defpix := false, interp := false, stitch := false }))

/-- R230 and R231: the tables after reset are the identity up to 65,519 and at most 1 below it above that; pixels with SAT leave as
0xFFFF and pixels with DEFPIX as 0x0000 whatever the table, and flags pass through. -/
def Obligations.LinearisationFollowsTables : Prop :=
  (∀ (s t : State) (c i : Nat), s.WasReset t → i ≤ 4095 → linEntry (sget [] c t.active.lin) i = 16 * (i : Int)) ∧
  (∀ (tab : List Nat) (v : Nat), (∀ i, i ≤ 4095 → linEntry tab i = 16 * (i : Int)) →
    (v ≤ 65519 → linValue tab v = v) ∧
    (65520 ≤ v → v ≤ 65535 → (v : Int) - 1 ≤ linValue tab v ∧ linValue tab v ≤ v) ∧ (v = 65535 → linValue tab v = 65534)) ∧
  (∀ (tab : List Nat) (x : Pix),
    (x.defpix = true → (linPix tab x).data = 0) ∧ (x.defpix = false → x.sat = true → (linPix tab x).data = 0xFFFF) ∧
    (linPix tab x).sat = x.sat ∧ (linPix tab x).defpix = x.defpix ∧ (linPix tab x).interp = x.interp ∧
    (linPix tab x).stitch = x.stitch)

/-- R513: START makes an idle channel fetch the descriptor at DMA_DESC and enter RUNNING, where no error is latched, the mode is
none of BOOT, STANDBY and SCRUB, and its port is not being quiesced (R538); otherwise it is ignored, and so is CHAIN_KICK in those
modes; a write that sets START and ABORT is judged on the state; SET_MODE into SCRUB ends ERR_STATE while a channel is at work. -/
def Obligations.StartIsJudgedOnState : Prop := ∀ (tm : Nat) (c : BitVec 6) (s : State),
  (∀ abortToo : Bool, (s.chan c.toNat).state = .idle → s.dma.latched = false →
    s.mode.mode ≠ .boot → s.mode.mode ≠ .standby → s.mode.mode ≠ .scrub → s.portQuiet (s.chan c.toNat).port = false →
    ∃ t, exec (.dmaStart tm c abortToo) s = .next t ∧ (t.chan c.toNat).state = .running ∧ (t.chan c.toNat).phase = .fetch ∧
      (t.chan c.toNat).next = (s.chan c.toNat).desc ∧
      .descRead (s.chan c.toNat).port c.toNat (s.chan c.toNat).desc ∈ t.host.out) ∧
  (((s.chan c.toNat).state ≠ .idle ∨ s.dma.latched = true ∨ s.mode.mode = .boot ∨ s.mode.mode = .standby ∨ s.mode.mode = .scrub ∨
      s.portQuiet (s.chan c.toNat).port = true) →
    ∃ t, exec (.dmaStart tm c false) s = .next t ∧ t.dma = s.dma) ∧
  ((s.chan c.toNat).state = .idle → (s.dma.latched = true ∨ s.mode.mode = .boot ∨ s.mode.mode = .standby ∨ s.mode.mode = .scrub ∨
      s.portQuiet (s.chan c.toNat).port = true) →
    ∃ t, exec (.dmaStart tm c true) s = .next t ∧ t.dma = s.dma) ∧
  ((s.chan c.toNat).state ≠ .idle → exec (.dmaStart tm c true) s = exec (.dmaAbort tm c) s) ∧
  ((s.mode.mode = .boot ∨ s.mode.mode = .standby ∨ s.mode.mode = .scrub) →
    ∃ t, exec (.chainKick tm c) s = .next t ∧ t.dma = s.dma) ∧
  (∀ (h : Hdr) (when_ : BitVec 8) (target : BitVec 32) (k : Nat), s.accepts h [.c] = true → h.plen = 0 → when_.toNat ≤ 1 →
    s.mode.transit = false → s.mode.mode ≠ .scrub → ((s.chan k).state = .running ∨ (s.chan k).state = .aborting) →
    ∃ t, exec (.setMode h 11 when_ target) s = .next t ∧ t.Ended h 0x0101 .failed cState [] 0 ∧ t.mode.mode = s.mode.mode)

/-- R524 and R525: ABORT makes a channel that moves data ABORTING, with no new read, until its read-back has returned and its status
is written; between descriptors, to which the wait for a queue before the first burst belongs, and at the end of a chain it stops at
once; elsewhere it is ignored. Every abort sets INT, clears KICK_PEND and keeps DMA_DESC and the carry, what was in flight is
discarded, and a kick after it has no effect. -/
def Obligations.AbortStopsChannel : Prop := ∀ (tm : Nat) (c : BitVec 6) (s : State),
  ((s.chan c.toNat).state = .running → (s.chan c.toNat).phase = .moving → (s.chan c.toNat).isQueue = false →
      (s.chan c.toNat).qWait = false →
    ∃ t, exec (.dmaAbort tm c) s = .next t ∧ (t.chan c.toNat).state = .aborting ∧ (t.chan c.toNat).phase = .moving ∧
      (t.chan c.toNat).kick = false ∧ ∀ a b, .burst c.toNat a b ∉ t.host.out) ∧
  ((s.chan c.toNat).state = .running → (s.chan c.toNat).phase = .moving → (s.chan c.toNat).qWait = true → (s.chan c.toNat).moved = 0 →
    ∃ t, exec (.dmaAbort tm c) s = .next t ∧ (t.chan c.toNat).state = .idle ∧ (t.chan c.toNat).phase = .none ∧
      (t.chan c.toNat).code = 2 ∧ (t.chan c.toNat).residue = 0 ∧ (t.chan c.toNat).int = true ∧ (t.chan c.toNat).kick = false ∧
      (t.chan c.toNat).desc = (s.chan c.toNat).last) ∧
  ((s.chan c.toNat).state = .aborting → (s.chan c.toNat).phase = .readBack →
    ∃ t, exec (.dmaReadbackDone tm c) s = .next t ∧ (t.chan c.toNat).state = .idle ∧ (t.chan c.toNat).code = 2 ∧
      (t.chan c.toNat).int = true ∧ (t.chan c.toNat).kick = false ∧ (t.chan c.toNat).desc = (s.chan c.toNat).desc ∧
      (t.chan c.toNat).carry = (s.chan c.toNat).carry ∧ (t.chan c.toNat).residue = (s.chan c.toNat).len - (s.chan c.toNat).moved ∧
      ((s.chan c.toNat).ctl.getLsbD 4 = true →
        .hostWrite (s.chan c.toNat).port ((s.chan c.toNat).desc + 16)
          (statusBytes (t.chan c.toNat).crc (t.chan c.toNat).residue 2) false ∈ t.host.out)) ∧
  (((s.chan c.toNat).state = .idleAtEnd ∨
      ((s.chan c.toNat).state = .running ∧ (s.chan c.toNat).phase ≠ .moving ∧ (s.chan c.toNat).phase ≠ .readBack)) →
    ∃ t, exec (.dmaAbort tm c) s = .next t ∧ (t.chan c.toNat).state = .idle ∧ (t.chan c.toNat).phase = .none ∧
      (t.chan c.toNat).code = 2 ∧ (t.chan c.toNat).residue = 0 ∧ (t.chan c.toNat).int = true ∧ (t.chan c.toNat).kick = false ∧
      (t.chan c.toNat).desc = (s.chan c.toNat).desc ∧ (t.chan c.toNat).carry = (s.chan c.toNat).carry ∧
      ∀ p a bs e, .hostWrite p a bs e ∉ t.host.out) ∧
  (((s.chan c.toNat).state = .idle ∨ (s.chan c.toNat).state = .aborting ∨ (s.chan c.toNat).state = .stopped) →
    ∃ t, exec (.dmaAbort tm c) s = .next t ∧ t.dma = s.dma) ∧
  ((s.chan c.toNat).state = .idle → ∀ (desc : BitVec 256) (link : BitVec 64), (s.chan c.toNat).phase = .none →
    (∃ t, exec (.chainKick tm c) s = .next t ∧ t.dma = s.dma) ∧ (∃ t, exec (.dmaDescFetched tm c desc) s = .next t ∧ t.dma = s.dma) ∧
    (∃ t, exec (.dmaLinkRereadDone tm c link) s = .next t ∧ t.dma = s.dma))

/-- R37: after every device reset the profile is FAST. -/
def Obligations.ProfileIsFastAfterReset : Prop := ∀ (tm : Nat) (s : State),
  (∀ i, i = .powerOnReset tm ∨ i = .porstNAssert tm ∨ i = .sysrstNAssert tm ∨ i = .coreBrownout tm ∨ i = .sysclkLoss tm →
    ∃ t, exec i s = .next t ∧ t.mode.profile = .fast) ∧
  (∀ a, s.rst.devResetAt = some a → a ≤ max s.now tm → ∃ t, exec (.devResetExpiry tm) s = .next t ∧ t.mode.profile = .fast) ∧
  (∀ a, s.rst.secResetAt = some a → a ≤ max s.now tm → ∃ t, exec (.trivetSecurityReset tm) s = .next t ∧ t.mode.profile = .fast)

/-! ## Frames -/

/-- A staging of the line-boundary tables changes nothing but the shadow copies, the record of what is staged, and its own context,
and with a payload its traffic on port 9 of the DRAM controller (log entry 196); the tables in force and every byte of memory stay
(R19, R20). -/
def Obligations.StagingsChangeOnlyShadow : Prop := ∀ (i : Instr) (h : Hdr) (s t : State), hdrOf i = some h →
  (changesOf i = [.shadow, .staged, .ctxs] ∨ changesOf i = [.shadow, .staged, .dram, .ctxs]) → exec i s = .next t →
  State.Frame (changesOf i) s t ∧ ∀ k, k ≠ h.ctx.toNat → t.ctx k = s.ctx k

/-- Every other mailbox command changes only the parts of the state that `changesOf` lists for it. -/
def Obligations.MailboxCommandsKeepTheRest : Prop := ∀ (i : Instr) (h : Hdr) (s t : State), hdrOf i = some h →
  ¬ (changesOf i = [.shadow, .staged, .ctxs] ∨ changesOf i = [.shadow, .staged, .dram, .ctxs]) → exec i s = .next t → State.Frame (changesOf i) s t

/-- Every event changes only the parts of the state that `changesOf` lists for it; so MODE changes, beyond BOOT and the wake from
STANDBY, only by the commands and events whose list has `mode`. -/
def Obligations.EventsKeepTheRest : Prop := ∀ (i : Instr) (s t : State), hdrOf i = none → exec i s = .next t →
  State.Frame (changesOf i) s t

/-- Every byte of memory outside the ranges that a command stores to reads as before. -/
def Obligations.MemoryChangesOnlyWhereStored : Prop := ∀ (i : Instr) (s t : State) (rs : List (Nat × Nat)), storesOf s i = some rs →
  exec i s = .next t → ∀ a : Nat, (∀ r ∈ rs, a < r.1 ∨ r.1 + r.2 ≤ a) → sget 0 a t.dram.mem = sget 0 a s.dram.mem

/-! ## Memory and invariants -/

/-- Bytes written to memory read back, every other byte reads as before, and the canonical form is kept. -/
def Obligations.MemoryReadsBack : Prop := ∀ (a : Nat) (bs : List Byte) (m : List Host.Cell),
  memRead a bs.length (memWrite a bs m) = bs ∧
  (∀ x, (x < a ∨ a + bs.length ≤ x) → sget 0 x (memWrite a bs m) = sget 0 x m) ∧
  (Memory.wf m = true → Memory.wf (memWrite a bs m) = true)

/-- Every step keeps DRAM contents in canonical form. -/
def Obligations.StepKeepsMemoryCanonical : Prop := ∀ s t : State, s.memOk = true → step s = .next t → t.memOk = true

/-- Every step keeps it so that at most one Stockpot pair serves and PAIR_ID names it (R623, R625). -/
def Obligations.StepKeepsOnePairServing : Prop := ∀ s t : State, s.pairsOk = true → step s = .next t → t.pairsOk = true

/-- After every command, the latch of a level source in level mode is set where its level is 1 (R638). -/
def Obligations.LevelSourcesAreLatched : Prop := ∀ (i : Instr) (s t : State), exec i s = .next t → ∀ src, src ∈ levelSources →
  t.ev.raw.getLsbD src = true → t.ev.edge.getLsbD src = false → t.ev.latch.getLsbD src = true

/-- The state right after reset meets the invariants that every step keeps. -/
def Obligations.ResetMeetsInvariants : Prop := State.reset.memOk = true ∧ State.reset.pairsOk = true
end

