-- ==== Sys2Proof/Laws/State.lean ====
section
/-! SUPPORT. What each update of the state leaves as it was, field by field. -/

namespace Sys2Proof.Machine

set_option Elab.async false

/-! ### `State.atTime` changes `now` and `host`. -/

@[simp] theorem State.atTime_board (t : Nat) (s : State) : (s.atTime t).board = s.board := rfl
@[simp] theorem State.atTime_mode (t : Nat) (s : State) : (s.atTime t).mode = s.mode := rfl
@[simp] theorem State.atTime_rst (t : Nat) (s : State) : (s.atTime t).rst = s.rst := rfl
@[simp] theorem State.atTime_clk (t : Nat) (s : State) : (s.atTime t).clk = s.clk := rfl
@[simp] theorem State.atTime_ports (t : Nat) (s : State) : (s.atTime t).ports = s.ports := rfl
@[simp] theorem State.atTime_lt (t : Nat) (s : State) : (s.atTime t).lt = s.lt := rfl
@[simp] theorem State.atTime_uzs (t : Nat) (s : State) : (s.atTime t).uzs = s.uzs := rfl
@[simp] theorem State.atTime_ring (t : Nat) (s : State) : (s.atTime t).ring = s.ring := rfl
@[simp] theorem State.atTime_banks (t : Nat) (s : State) : (s.atTime t).banks = s.banks := rfl
@[simp] theorem State.atTime_active (t : Nat) (s : State) : (s.atTime t).active = s.active := rfl
@[simp] theorem State.atTime_shadow (t : Nat) (s : State) : (s.atTime t).shadow = s.shadow := rfl
@[simp] theorem State.atTime_staged (t : Nat) (s : State) : (s.atTime t).staged = s.staged := rfl
@[simp] theorem State.atTime_lines (t : Nat) (s : State) : (s.atTime t).lines = s.lines := rfl
@[simp] theorem State.atTime_shd (t : Nat) (s : State) : (s.atTime t).shd = s.shd := rfl
@[simp] theorem State.atTime_aln (t : Nat) (s : State) : (s.atTime t).aln = s.aln := rfl
@[simp] theorem State.atTime_sv (t : Nat) (s : State) : (s.atTime t).sv = s.sv := rfl
@[simp] theorem State.atTime_skl (t : Nat) (s : State) : (s.atTime t).skl = s.skl := rfl
@[simp] theorem State.atTime_ilm (t : Nat) (s : State) : (s.atTime t).ilm = s.ilm := rfl
@[simp] theorem State.atTime_axes (t : Nat) (s : State) : (s.atTime t).axes = s.axes := rfl
@[simp] theorem State.atTime_madc (t : Nat) (s : State) : (s.atTime t).madc = s.madc := rfl
@[simp] theorem State.atTime_therm (t : Nat) (s : State) : (s.atTime t).therm = s.therm := rfl
@[simp] theorem State.atTime_simmer (t : Nat) (s : State) : (s.atTime t).simmer = s.simmer := rfl
@[simp] theorem State.atTime_dram (t : Nat) (s : State) : (s.atTime t).dram = s.dram := rfl
@[simp] theorem State.atTime_pantry (t : Nat) (s : State) : (s.atTime t).pantry = s.pantry := rfl
@[simp] theorem State.atTime_dma (t : Nat) (s : State) : (s.atTime t).dma = s.dma := rfl
@[simp] theorem State.atTime_ev (t : Nat) (s : State) : (s.atTime t).ev = s.ev := rfl
@[simp] theorem State.atTime_sec (t : Nat) (s : State) : (s.atTime t).sec = s.sec := rfl
@[simp] theorem State.atTime_cpu (t : Nat) (s : State) : (s.atTime t).cpu = s.cpu := rfl
@[simp] theorem State.atTime_diag (t : Nat) (s : State) : (s.atTime t).diag = s.diag := rfl
@[simp] theorem State.atTime_fresh (t : Nat) (s : State) : (s.atTime t).fresh = s.fresh := rfl
@[simp] theorem State.atTime_pending (t : Nat) (s : State) : (s.atTime t).pending = s.pending := rfl

/-! ### `State.emit` changes `host`. -/

@[simp] theorem State.emit_now (o : Output) (s : State) : (s.emit o).now = s.now := rfl
@[simp] theorem State.emit_board (o : Output) (s : State) : (s.emit o).board = s.board := rfl
@[simp] theorem State.emit_mode (o : Output) (s : State) : (s.emit o).mode = s.mode := rfl
@[simp] theorem State.emit_rst (o : Output) (s : State) : (s.emit o).rst = s.rst := rfl
@[simp] theorem State.emit_clk (o : Output) (s : State) : (s.emit o).clk = s.clk := rfl
@[simp] theorem State.emit_ports (o : Output) (s : State) : (s.emit o).ports = s.ports := rfl
@[simp] theorem State.emit_lt (o : Output) (s : State) : (s.emit o).lt = s.lt := rfl
@[simp] theorem State.emit_uzs (o : Output) (s : State) : (s.emit o).uzs = s.uzs := rfl
@[simp] theorem State.emit_ring (o : Output) (s : State) : (s.emit o).ring = s.ring := rfl
@[simp] theorem State.emit_banks (o : Output) (s : State) : (s.emit o).banks = s.banks := rfl
@[simp] theorem State.emit_active (o : Output) (s : State) : (s.emit o).active = s.active := rfl
@[simp] theorem State.emit_shadow (o : Output) (s : State) : (s.emit o).shadow = s.shadow := rfl
@[simp] theorem State.emit_staged (o : Output) (s : State) : (s.emit o).staged = s.staged := rfl
@[simp] theorem State.emit_lines (o : Output) (s : State) : (s.emit o).lines = s.lines := rfl
@[simp] theorem State.emit_shd (o : Output) (s : State) : (s.emit o).shd = s.shd := rfl
@[simp] theorem State.emit_aln (o : Output) (s : State) : (s.emit o).aln = s.aln := rfl
@[simp] theorem State.emit_sv (o : Output) (s : State) : (s.emit o).sv = s.sv := rfl
@[simp] theorem State.emit_skl (o : Output) (s : State) : (s.emit o).skl = s.skl := rfl
@[simp] theorem State.emit_ilm (o : Output) (s : State) : (s.emit o).ilm = s.ilm := rfl
@[simp] theorem State.emit_axes (o : Output) (s : State) : (s.emit o).axes = s.axes := rfl
@[simp] theorem State.emit_madc (o : Output) (s : State) : (s.emit o).madc = s.madc := rfl
@[simp] theorem State.emit_therm (o : Output) (s : State) : (s.emit o).therm = s.therm := rfl
@[simp] theorem State.emit_simmer (o : Output) (s : State) : (s.emit o).simmer = s.simmer := rfl
@[simp] theorem State.emit_dram (o : Output) (s : State) : (s.emit o).dram = s.dram := rfl
@[simp] theorem State.emit_pantry (o : Output) (s : State) : (s.emit o).pantry = s.pantry := rfl
@[simp] theorem State.emit_dma (o : Output) (s : State) : (s.emit o).dma = s.dma := rfl
@[simp] theorem State.emit_ev (o : Output) (s : State) : (s.emit o).ev = s.ev := rfl
@[simp] theorem State.emit_sec (o : Output) (s : State) : (s.emit o).sec = s.sec := rfl
@[simp] theorem State.emit_cpu (o : Output) (s : State) : (s.emit o).cpu = s.cpu := rfl
@[simp] theorem State.emit_diag (o : Output) (s : State) : (s.emit o).diag = s.diag := rfl
@[simp] theorem State.emit_fresh (o : Output) (s : State) : (s.emit o).fresh = s.fresh := rfl
@[simp] theorem State.emit_pending (o : Output) (s : State) : (s.emit o).pending = s.pending := rfl

/-! ### `State.setCtx` changes `host`. -/

@[simp] theorem State.setCtx_now (n : Nat) (f : Ctx → Ctx) (s : State) : (s.setCtx n f).now = s.now := rfl
@[simp] theorem State.setCtx_board (n : Nat) (f : Ctx → Ctx) (s : State) : (s.setCtx n f).board = s.board := rfl
@[simp] theorem State.setCtx_mode (n : Nat) (f : Ctx → Ctx) (s : State) : (s.setCtx n f).mode = s.mode := rfl
@[simp] theorem State.setCtx_rst (n : Nat) (f : Ctx → Ctx) (s : State) : (s.setCtx n f).rst = s.rst := rfl
@[simp] theorem State.setCtx_clk (n : Nat) (f : Ctx → Ctx) (s : State) : (s.setCtx n f).clk = s.clk := rfl
@[simp] theorem State.setCtx_ports (n : Nat) (f : Ctx → Ctx) (s : State) : (s.setCtx n f).ports = s.ports := rfl
@[simp] theorem State.setCtx_lt (n : Nat) (f : Ctx → Ctx) (s : State) : (s.setCtx n f).lt = s.lt := rfl
@[simp] theorem State.setCtx_uzs (n : Nat) (f : Ctx → Ctx) (s : State) : (s.setCtx n f).uzs = s.uzs := rfl
@[simp] theorem State.setCtx_ring (n : Nat) (f : Ctx → Ctx) (s : State) : (s.setCtx n f).ring = s.ring := rfl
@[simp] theorem State.setCtx_banks (n : Nat) (f : Ctx → Ctx) (s : State) : (s.setCtx n f).banks = s.banks := rfl
@[simp] theorem State.setCtx_active (n : Nat) (f : Ctx → Ctx) (s : State) : (s.setCtx n f).active = s.active := rfl
@[simp] theorem State.setCtx_shadow (n : Nat) (f : Ctx → Ctx) (s : State) : (s.setCtx n f).shadow = s.shadow := rfl
@[simp] theorem State.setCtx_staged (n : Nat) (f : Ctx → Ctx) (s : State) : (s.setCtx n f).staged = s.staged := rfl
@[simp] theorem State.setCtx_lines (n : Nat) (f : Ctx → Ctx) (s : State) : (s.setCtx n f).lines = s.lines := rfl
@[simp] theorem State.setCtx_shd (n : Nat) (f : Ctx → Ctx) (s : State) : (s.setCtx n f).shd = s.shd := rfl
@[simp] theorem State.setCtx_aln (n : Nat) (f : Ctx → Ctx) (s : State) : (s.setCtx n f).aln = s.aln := rfl
@[simp] theorem State.setCtx_sv (n : Nat) (f : Ctx → Ctx) (s : State) : (s.setCtx n f).sv = s.sv := rfl
@[simp] theorem State.setCtx_skl (n : Nat) (f : Ctx → Ctx) (s : State) : (s.setCtx n f).skl = s.skl := rfl
@[simp] theorem State.setCtx_ilm (n : Nat) (f : Ctx → Ctx) (s : State) : (s.setCtx n f).ilm = s.ilm := rfl
@[simp] theorem State.setCtx_axes (n : Nat) (f : Ctx → Ctx) (s : State) : (s.setCtx n f).axes = s.axes := rfl
@[simp] theorem State.setCtx_madc (n : Nat) (f : Ctx → Ctx) (s : State) : (s.setCtx n f).madc = s.madc := rfl
@[simp] theorem State.setCtx_therm (n : Nat) (f : Ctx → Ctx) (s : State) : (s.setCtx n f).therm = s.therm := rfl
@[simp] theorem State.setCtx_simmer (n : Nat) (f : Ctx → Ctx) (s : State) : (s.setCtx n f).simmer = s.simmer := rfl
@[simp] theorem State.setCtx_dram (n : Nat) (f : Ctx → Ctx) (s : State) : (s.setCtx n f).dram = s.dram := rfl
@[simp] theorem State.setCtx_pantry (n : Nat) (f : Ctx → Ctx) (s : State) : (s.setCtx n f).pantry = s.pantry := rfl
@[simp] theorem State.setCtx_dma (n : Nat) (f : Ctx → Ctx) (s : State) : (s.setCtx n f).dma = s.dma := rfl
@[simp] theorem State.setCtx_ev (n : Nat) (f : Ctx → Ctx) (s : State) : (s.setCtx n f).ev = s.ev := rfl
@[simp] theorem State.setCtx_sec (n : Nat) (f : Ctx → Ctx) (s : State) : (s.setCtx n f).sec = s.sec := rfl
@[simp] theorem State.setCtx_cpu (n : Nat) (f : Ctx → Ctx) (s : State) : (s.setCtx n f).cpu = s.cpu := rfl
@[simp] theorem State.setCtx_diag (n : Nat) (f : Ctx → Ctx) (s : State) : (s.setCtx n f).diag = s.diag := rfl
@[simp] theorem State.setCtx_fresh (n : Nat) (f : Ctx → Ctx) (s : State) : (s.setCtx n f).fresh = s.fresh := rfl
@[simp] theorem State.setCtx_pending (n : Nat) (f : Ctx → Ctx) (s : State) : (s.setCtx n f).pending = s.pending := rfl

/-! ### `State.begun` changes `host`. -/

@[simp] theorem State.begun_now (h : Hdr) (op : Nat) (s : State) : (s.begun h op).now = s.now := rfl
@[simp] theorem State.begun_board (h : Hdr) (op : Nat) (s : State) : (s.begun h op).board = s.board := rfl
@[simp] theorem State.begun_mode (h : Hdr) (op : Nat) (s : State) : (s.begun h op).mode = s.mode := rfl
@[simp] theorem State.begun_rst (h : Hdr) (op : Nat) (s : State) : (s.begun h op).rst = s.rst := rfl
@[simp] theorem State.begun_clk (h : Hdr) (op : Nat) (s : State) : (s.begun h op).clk = s.clk := rfl
@[simp] theorem State.begun_ports (h : Hdr) (op : Nat) (s : State) : (s.begun h op).ports = s.ports := rfl
@[simp] theorem State.begun_lt (h : Hdr) (op : Nat) (s : State) : (s.begun h op).lt = s.lt := rfl
@[simp] theorem State.begun_uzs (h : Hdr) (op : Nat) (s : State) : (s.begun h op).uzs = s.uzs := rfl
@[simp] theorem State.begun_ring (h : Hdr) (op : Nat) (s : State) : (s.begun h op).ring = s.ring := rfl
@[simp] theorem State.begun_banks (h : Hdr) (op : Nat) (s : State) : (s.begun h op).banks = s.banks := rfl
@[simp] theorem State.begun_active (h : Hdr) (op : Nat) (s : State) : (s.begun h op).active = s.active := rfl
@[simp] theorem State.begun_shadow (h : Hdr) (op : Nat) (s : State) : (s.begun h op).shadow = s.shadow := rfl
@[simp] theorem State.begun_staged (h : Hdr) (op : Nat) (s : State) : (s.begun h op).staged = s.staged := rfl
@[simp] theorem State.begun_lines (h : Hdr) (op : Nat) (s : State) : (s.begun h op).lines = s.lines := rfl
@[simp] theorem State.begun_shd (h : Hdr) (op : Nat) (s : State) : (s.begun h op).shd = s.shd := rfl
@[simp] theorem State.begun_aln (h : Hdr) (op : Nat) (s : State) : (s.begun h op).aln = s.aln := rfl
@[simp] theorem State.begun_sv (h : Hdr) (op : Nat) (s : State) : (s.begun h op).sv = s.sv := rfl
@[simp] theorem State.begun_skl (h : Hdr) (op : Nat) (s : State) : (s.begun h op).skl = s.skl := rfl
@[simp] theorem State.begun_ilm (h : Hdr) (op : Nat) (s : State) : (s.begun h op).ilm = s.ilm := rfl
@[simp] theorem State.begun_axes (h : Hdr) (op : Nat) (s : State) : (s.begun h op).axes = s.axes := rfl
@[simp] theorem State.begun_madc (h : Hdr) (op : Nat) (s : State) : (s.begun h op).madc = s.madc := rfl
@[simp] theorem State.begun_therm (h : Hdr) (op : Nat) (s : State) : (s.begun h op).therm = s.therm := rfl
@[simp] theorem State.begun_simmer (h : Hdr) (op : Nat) (s : State) : (s.begun h op).simmer = s.simmer := rfl
@[simp] theorem State.begun_dram (h : Hdr) (op : Nat) (s : State) : (s.begun h op).dram = s.dram := rfl
@[simp] theorem State.begun_pantry (h : Hdr) (op : Nat) (s : State) : (s.begun h op).pantry = s.pantry := rfl
@[simp] theorem State.begun_dma (h : Hdr) (op : Nat) (s : State) : (s.begun h op).dma = s.dma := rfl
@[simp] theorem State.begun_ev (h : Hdr) (op : Nat) (s : State) : (s.begun h op).ev = s.ev := rfl
@[simp] theorem State.begun_sec (h : Hdr) (op : Nat) (s : State) : (s.begun h op).sec = s.sec := rfl
@[simp] theorem State.begun_cpu (h : Hdr) (op : Nat) (s : State) : (s.begun h op).cpu = s.cpu := rfl
@[simp] theorem State.begun_diag (h : Hdr) (op : Nat) (s : State) : (s.begun h op).diag = s.diag := rfl
@[simp] theorem State.begun_fresh (h : Hdr) (op : Nat) (s : State) : (s.begun h op).fresh = s.fresh := rfl
@[simp] theorem State.begun_pending (h : Hdr) (op : Nat) (s : State) : (s.begun h op).pending = s.pending := rfl

/-! ### `State.setPort` changes `host`. -/

@[simp] theorem State.setPort_now (p : Nat) (f : HostPort → HostPort) (s : State) : (s.setPort p f).now = s.now := by unfold State.setPort; split <;> rfl
@[simp] theorem State.setPort_board (p : Nat) (f : HostPort → HostPort) (s : State) : (s.setPort p f).board = s.board := by unfold State.setPort; split <;> rfl
@[simp] theorem State.setPort_mode (p : Nat) (f : HostPort → HostPort) (s : State) : (s.setPort p f).mode = s.mode := by unfold State.setPort; split <;> rfl
@[simp] theorem State.setPort_rst (p : Nat) (f : HostPort → HostPort) (s : State) : (s.setPort p f).rst = s.rst := by unfold State.setPort; split <;> rfl
@[simp] theorem State.setPort_clk (p : Nat) (f : HostPort → HostPort) (s : State) : (s.setPort p f).clk = s.clk := by unfold State.setPort; split <;> rfl
@[simp] theorem State.setPort_ports (p : Nat) (f : HostPort → HostPort) (s : State) : (s.setPort p f).ports = s.ports := by unfold State.setPort; split <;> rfl
@[simp] theorem State.setPort_lt (p : Nat) (f : HostPort → HostPort) (s : State) : (s.setPort p f).lt = s.lt := by unfold State.setPort; split <;> rfl
@[simp] theorem State.setPort_uzs (p : Nat) (f : HostPort → HostPort) (s : State) : (s.setPort p f).uzs = s.uzs := by unfold State.setPort; split <;> rfl
@[simp] theorem State.setPort_ring (p : Nat) (f : HostPort → HostPort) (s : State) : (s.setPort p f).ring = s.ring := by unfold State.setPort; split <;> rfl
@[simp] theorem State.setPort_banks (p : Nat) (f : HostPort → HostPort) (s : State) : (s.setPort p f).banks = s.banks := by unfold State.setPort; split <;> rfl
@[simp] theorem State.setPort_active (p : Nat) (f : HostPort → HostPort) (s : State) : (s.setPort p f).active = s.active := by unfold State.setPort; split <;> rfl
@[simp] theorem State.setPort_shadow (p : Nat) (f : HostPort → HostPort) (s : State) : (s.setPort p f).shadow = s.shadow := by unfold State.setPort; split <;> rfl
@[simp] theorem State.setPort_staged (p : Nat) (f : HostPort → HostPort) (s : State) : (s.setPort p f).staged = s.staged := by unfold State.setPort; split <;> rfl
@[simp] theorem State.setPort_lines (p : Nat) (f : HostPort → HostPort) (s : State) : (s.setPort p f).lines = s.lines := by unfold State.setPort; split <;> rfl
@[simp] theorem State.setPort_shd (p : Nat) (f : HostPort → HostPort) (s : State) : (s.setPort p f).shd = s.shd := by unfold State.setPort; split <;> rfl
@[simp] theorem State.setPort_aln (p : Nat) (f : HostPort → HostPort) (s : State) : (s.setPort p f).aln = s.aln := by unfold State.setPort; split <;> rfl
@[simp] theorem State.setPort_sv (p : Nat) (f : HostPort → HostPort) (s : State) : (s.setPort p f).sv = s.sv := by unfold State.setPort; split <;> rfl
@[simp] theorem State.setPort_skl (p : Nat) (f : HostPort → HostPort) (s : State) : (s.setPort p f).skl = s.skl := by unfold State.setPort; split <;> rfl
@[simp] theorem State.setPort_ilm (p : Nat) (f : HostPort → HostPort) (s : State) : (s.setPort p f).ilm = s.ilm := by unfold State.setPort; split <;> rfl
@[simp] theorem State.setPort_axes (p : Nat) (f : HostPort → HostPort) (s : State) : (s.setPort p f).axes = s.axes := by unfold State.setPort; split <;> rfl
@[simp] theorem State.setPort_madc (p : Nat) (f : HostPort → HostPort) (s : State) : (s.setPort p f).madc = s.madc := by unfold State.setPort; split <;> rfl
@[simp] theorem State.setPort_therm (p : Nat) (f : HostPort → HostPort) (s : State) : (s.setPort p f).therm = s.therm := by unfold State.setPort; split <;> rfl
@[simp] theorem State.setPort_simmer (p : Nat) (f : HostPort → HostPort) (s : State) : (s.setPort p f).simmer = s.simmer := by unfold State.setPort; split <;> rfl
@[simp] theorem State.setPort_dram (p : Nat) (f : HostPort → HostPort) (s : State) : (s.setPort p f).dram = s.dram := by unfold State.setPort; split <;> rfl
@[simp] theorem State.setPort_pantry (p : Nat) (f : HostPort → HostPort) (s : State) : (s.setPort p f).pantry = s.pantry := by unfold State.setPort; split <;> rfl
@[simp] theorem State.setPort_dma (p : Nat) (f : HostPort → HostPort) (s : State) : (s.setPort p f).dma = s.dma := by unfold State.setPort; split <;> rfl
@[simp] theorem State.setPort_ev (p : Nat) (f : HostPort → HostPort) (s : State) : (s.setPort p f).ev = s.ev := by unfold State.setPort; split <;> rfl
@[simp] theorem State.setPort_sec (p : Nat) (f : HostPort → HostPort) (s : State) : (s.setPort p f).sec = s.sec := by unfold State.setPort; split <;> rfl
@[simp] theorem State.setPort_cpu (p : Nat) (f : HostPort → HostPort) (s : State) : (s.setPort p f).cpu = s.cpu := by unfold State.setPort; split <;> rfl
@[simp] theorem State.setPort_diag (p : Nat) (f : HostPort → HostPort) (s : State) : (s.setPort p f).diag = s.diag := by unfold State.setPort; split <;> rfl
@[simp] theorem State.setPort_fresh (p : Nat) (f : HostPort → HostPort) (s : State) : (s.setPort p f).fresh = s.fresh := by unfold State.setPort; split <;> rfl
@[simp] theorem State.setPort_pending (p : Nat) (f : HostPort → HostPort) (s : State) : (s.setPort p f).pending = s.pending := by unfold State.setPort; split <;> rfl

/-! ### `State.dramReq` changes `dram`. -/

@[simp] theorem State.dramReq_now (p : Nat) (w : Bool) (a n : Nat) (s : State) : (s.dramReq p w a n).now = s.now := rfl
@[simp] theorem State.dramReq_board (p : Nat) (w : Bool) (a n : Nat) (s : State) : (s.dramReq p w a n).board = s.board := rfl
@[simp] theorem State.dramReq_mode (p : Nat) (w : Bool) (a n : Nat) (s : State) : (s.dramReq p w a n).mode = s.mode := rfl
@[simp] theorem State.dramReq_rst (p : Nat) (w : Bool) (a n : Nat) (s : State) : (s.dramReq p w a n).rst = s.rst := rfl
@[simp] theorem State.dramReq_clk (p : Nat) (w : Bool) (a n : Nat) (s : State) : (s.dramReq p w a n).clk = s.clk := rfl
@[simp] theorem State.dramReq_ports (p : Nat) (w : Bool) (a n : Nat) (s : State) : (s.dramReq p w a n).ports = s.ports := rfl
@[simp] theorem State.dramReq_lt (p : Nat) (w : Bool) (a n : Nat) (s : State) : (s.dramReq p w a n).lt = s.lt := rfl
@[simp] theorem State.dramReq_uzs (p : Nat) (w : Bool) (a n : Nat) (s : State) : (s.dramReq p w a n).uzs = s.uzs := rfl
@[simp] theorem State.dramReq_ring (p : Nat) (w : Bool) (a n : Nat) (s : State) : (s.dramReq p w a n).ring = s.ring := rfl
@[simp] theorem State.dramReq_banks (p : Nat) (w : Bool) (a n : Nat) (s : State) : (s.dramReq p w a n).banks = s.banks := rfl
@[simp] theorem State.dramReq_active (p : Nat) (w : Bool) (a n : Nat) (s : State) : (s.dramReq p w a n).active = s.active := rfl
@[simp] theorem State.dramReq_shadow (p : Nat) (w : Bool) (a n : Nat) (s : State) : (s.dramReq p w a n).shadow = s.shadow := rfl
@[simp] theorem State.dramReq_staged (p : Nat) (w : Bool) (a n : Nat) (s : State) : (s.dramReq p w a n).staged = s.staged := rfl
@[simp] theorem State.dramReq_lines (p : Nat) (w : Bool) (a n : Nat) (s : State) : (s.dramReq p w a n).lines = s.lines := rfl
@[simp] theorem State.dramReq_shd (p : Nat) (w : Bool) (a n : Nat) (s : State) : (s.dramReq p w a n).shd = s.shd := rfl
@[simp] theorem State.dramReq_aln (p : Nat) (w : Bool) (a n : Nat) (s : State) : (s.dramReq p w a n).aln = s.aln := rfl
@[simp] theorem State.dramReq_sv (p : Nat) (w : Bool) (a n : Nat) (s : State) : (s.dramReq p w a n).sv = s.sv := rfl
@[simp] theorem State.dramReq_skl (p : Nat) (w : Bool) (a n : Nat) (s : State) : (s.dramReq p w a n).skl = s.skl := rfl
@[simp] theorem State.dramReq_ilm (p : Nat) (w : Bool) (a n : Nat) (s : State) : (s.dramReq p w a n).ilm = s.ilm := rfl
@[simp] theorem State.dramReq_axes (p : Nat) (w : Bool) (a n : Nat) (s : State) : (s.dramReq p w a n).axes = s.axes := rfl
@[simp] theorem State.dramReq_madc (p : Nat) (w : Bool) (a n : Nat) (s : State) : (s.dramReq p w a n).madc = s.madc := rfl
@[simp] theorem State.dramReq_therm (p : Nat) (w : Bool) (a n : Nat) (s : State) : (s.dramReq p w a n).therm = s.therm := rfl
@[simp] theorem State.dramReq_simmer (p : Nat) (w : Bool) (a n : Nat) (s : State) : (s.dramReq p w a n).simmer = s.simmer := rfl
@[simp] theorem State.dramReq_pantry (p : Nat) (w : Bool) (a n : Nat) (s : State) : (s.dramReq p w a n).pantry = s.pantry := rfl
@[simp] theorem State.dramReq_dma (p : Nat) (w : Bool) (a n : Nat) (s : State) : (s.dramReq p w a n).dma = s.dma := rfl
@[simp] theorem State.dramReq_host (p : Nat) (w : Bool) (a n : Nat) (s : State) : (s.dramReq p w a n).host = s.host := rfl
@[simp] theorem State.dramReq_ev (p : Nat) (w : Bool) (a n : Nat) (s : State) : (s.dramReq p w a n).ev = s.ev := rfl
@[simp] theorem State.dramReq_sec (p : Nat) (w : Bool) (a n : Nat) (s : State) : (s.dramReq p w a n).sec = s.sec := rfl
@[simp] theorem State.dramReq_cpu (p : Nat) (w : Bool) (a n : Nat) (s : State) : (s.dramReq p w a n).cpu = s.cpu := rfl
@[simp] theorem State.dramReq_diag (p : Nat) (w : Bool) (a n : Nat) (s : State) : (s.dramReq p w a n).diag = s.diag := rfl
@[simp] theorem State.dramReq_fresh (p : Nat) (w : Bool) (a n : Nat) (s : State) : (s.dramReq p w a n).fresh = s.fresh := rfl
@[simp] theorem State.dramReq_pending (p : Nat) (w : Bool) (a n : Nat) (s : State) : (s.dramReq p w a n).pending = s.pending := rfl

/-! ### `State.dramWrite` changes `dram`. -/

@[simp] theorem State.dramWrite_now (p a : Nat) (bs : List Byte) (s : State) : (s.dramWrite p a bs).now = s.now := rfl
@[simp] theorem State.dramWrite_board (p a : Nat) (bs : List Byte) (s : State) : (s.dramWrite p a bs).board = s.board := rfl
@[simp] theorem State.dramWrite_mode (p a : Nat) (bs : List Byte) (s : State) : (s.dramWrite p a bs).mode = s.mode := rfl
@[simp] theorem State.dramWrite_rst (p a : Nat) (bs : List Byte) (s : State) : (s.dramWrite p a bs).rst = s.rst := rfl
@[simp] theorem State.dramWrite_clk (p a : Nat) (bs : List Byte) (s : State) : (s.dramWrite p a bs).clk = s.clk := rfl
@[simp] theorem State.dramWrite_ports (p a : Nat) (bs : List Byte) (s : State) : (s.dramWrite p a bs).ports = s.ports := rfl
@[simp] theorem State.dramWrite_lt (p a : Nat) (bs : List Byte) (s : State) : (s.dramWrite p a bs).lt = s.lt := rfl
@[simp] theorem State.dramWrite_uzs (p a : Nat) (bs : List Byte) (s : State) : (s.dramWrite p a bs).uzs = s.uzs := rfl
@[simp] theorem State.dramWrite_ring (p a : Nat) (bs : List Byte) (s : State) : (s.dramWrite p a bs).ring = s.ring := rfl
@[simp] theorem State.dramWrite_banks (p a : Nat) (bs : List Byte) (s : State) : (s.dramWrite p a bs).banks = s.banks := rfl
@[simp] theorem State.dramWrite_active (p a : Nat) (bs : List Byte) (s : State) : (s.dramWrite p a bs).active = s.active := rfl
@[simp] theorem State.dramWrite_shadow (p a : Nat) (bs : List Byte) (s : State) : (s.dramWrite p a bs).shadow = s.shadow := rfl
@[simp] theorem State.dramWrite_staged (p a : Nat) (bs : List Byte) (s : State) : (s.dramWrite p a bs).staged = s.staged := rfl
@[simp] theorem State.dramWrite_lines (p a : Nat) (bs : List Byte) (s : State) : (s.dramWrite p a bs).lines = s.lines := rfl
@[simp] theorem State.dramWrite_shd (p a : Nat) (bs : List Byte) (s : State) : (s.dramWrite p a bs).shd = s.shd := rfl
@[simp] theorem State.dramWrite_aln (p a : Nat) (bs : List Byte) (s : State) : (s.dramWrite p a bs).aln = s.aln := rfl
@[simp] theorem State.dramWrite_sv (p a : Nat) (bs : List Byte) (s : State) : (s.dramWrite p a bs).sv = s.sv := rfl
@[simp] theorem State.dramWrite_skl (p a : Nat) (bs : List Byte) (s : State) : (s.dramWrite p a bs).skl = s.skl := rfl
@[simp] theorem State.dramWrite_ilm (p a : Nat) (bs : List Byte) (s : State) : (s.dramWrite p a bs).ilm = s.ilm := rfl
@[simp] theorem State.dramWrite_axes (p a : Nat) (bs : List Byte) (s : State) : (s.dramWrite p a bs).axes = s.axes := rfl
@[simp] theorem State.dramWrite_madc (p a : Nat) (bs : List Byte) (s : State) : (s.dramWrite p a bs).madc = s.madc := rfl
@[simp] theorem State.dramWrite_therm (p a : Nat) (bs : List Byte) (s : State) : (s.dramWrite p a bs).therm = s.therm := rfl
@[simp] theorem State.dramWrite_simmer (p a : Nat) (bs : List Byte) (s : State) : (s.dramWrite p a bs).simmer = s.simmer := rfl
@[simp] theorem State.dramWrite_pantry (p a : Nat) (bs : List Byte) (s : State) : (s.dramWrite p a bs).pantry = s.pantry := rfl
@[simp] theorem State.dramWrite_dma (p a : Nat) (bs : List Byte) (s : State) : (s.dramWrite p a bs).dma = s.dma := rfl
@[simp] theorem State.dramWrite_host (p a : Nat) (bs : List Byte) (s : State) : (s.dramWrite p a bs).host = s.host := rfl
@[simp] theorem State.dramWrite_ev (p a : Nat) (bs : List Byte) (s : State) : (s.dramWrite p a bs).ev = s.ev := rfl
@[simp] theorem State.dramWrite_sec (p a : Nat) (bs : List Byte) (s : State) : (s.dramWrite p a bs).sec = s.sec := rfl
@[simp] theorem State.dramWrite_cpu (p a : Nat) (bs : List Byte) (s : State) : (s.dramWrite p a bs).cpu = s.cpu := rfl
@[simp] theorem State.dramWrite_diag (p a : Nat) (bs : List Byte) (s : State) : (s.dramWrite p a bs).diag = s.diag := rfl
@[simp] theorem State.dramWrite_fresh (p a : Nat) (bs : List Byte) (s : State) : (s.dramWrite p a bs).fresh = s.fresh := rfl
@[simp] theorem State.dramWrite_pending (p a : Nat) (bs : List Byte) (s : State) : (s.dramWrite p a bs).pending = s.pending := rfl

/-! ### `State.setSeg` changes `ports`. -/

@[simp] theorem State.setSeg_now (p : Nat) (f : PortUnit → PortUnit) (s : State) : (s.setSeg p f).now = s.now := rfl
@[simp] theorem State.setSeg_board (p : Nat) (f : PortUnit → PortUnit) (s : State) : (s.setSeg p f).board = s.board := rfl
@[simp] theorem State.setSeg_mode (p : Nat) (f : PortUnit → PortUnit) (s : State) : (s.setSeg p f).mode = s.mode := rfl
@[simp] theorem State.setSeg_rst (p : Nat) (f : PortUnit → PortUnit) (s : State) : (s.setSeg p f).rst = s.rst := rfl
@[simp] theorem State.setSeg_clk (p : Nat) (f : PortUnit → PortUnit) (s : State) : (s.setSeg p f).clk = s.clk := rfl
@[simp] theorem State.setSeg_lt (p : Nat) (f : PortUnit → PortUnit) (s : State) : (s.setSeg p f).lt = s.lt := rfl
@[simp] theorem State.setSeg_uzs (p : Nat) (f : PortUnit → PortUnit) (s : State) : (s.setSeg p f).uzs = s.uzs := rfl
@[simp] theorem State.setSeg_ring (p : Nat) (f : PortUnit → PortUnit) (s : State) : (s.setSeg p f).ring = s.ring := rfl
@[simp] theorem State.setSeg_banks (p : Nat) (f : PortUnit → PortUnit) (s : State) : (s.setSeg p f).banks = s.banks := rfl
@[simp] theorem State.setSeg_active (p : Nat) (f : PortUnit → PortUnit) (s : State) : (s.setSeg p f).active = s.active := rfl
@[simp] theorem State.setSeg_shadow (p : Nat) (f : PortUnit → PortUnit) (s : State) : (s.setSeg p f).shadow = s.shadow := rfl
@[simp] theorem State.setSeg_staged (p : Nat) (f : PortUnit → PortUnit) (s : State) : (s.setSeg p f).staged = s.staged := rfl
@[simp] theorem State.setSeg_lines (p : Nat) (f : PortUnit → PortUnit) (s : State) : (s.setSeg p f).lines = s.lines := rfl
@[simp] theorem State.setSeg_shd (p : Nat) (f : PortUnit → PortUnit) (s : State) : (s.setSeg p f).shd = s.shd := rfl
@[simp] theorem State.setSeg_aln (p : Nat) (f : PortUnit → PortUnit) (s : State) : (s.setSeg p f).aln = s.aln := rfl
@[simp] theorem State.setSeg_sv (p : Nat) (f : PortUnit → PortUnit) (s : State) : (s.setSeg p f).sv = s.sv := rfl
@[simp] theorem State.setSeg_skl (p : Nat) (f : PortUnit → PortUnit) (s : State) : (s.setSeg p f).skl = s.skl := rfl
@[simp] theorem State.setSeg_ilm (p : Nat) (f : PortUnit → PortUnit) (s : State) : (s.setSeg p f).ilm = s.ilm := rfl
@[simp] theorem State.setSeg_axes (p : Nat) (f : PortUnit → PortUnit) (s : State) : (s.setSeg p f).axes = s.axes := rfl
@[simp] theorem State.setSeg_madc (p : Nat) (f : PortUnit → PortUnit) (s : State) : (s.setSeg p f).madc = s.madc := rfl
@[simp] theorem State.setSeg_therm (p : Nat) (f : PortUnit → PortUnit) (s : State) : (s.setSeg p f).therm = s.therm := rfl
@[simp] theorem State.setSeg_simmer (p : Nat) (f : PortUnit → PortUnit) (s : State) : (s.setSeg p f).simmer = s.simmer := rfl
@[simp] theorem State.setSeg_dram (p : Nat) (f : PortUnit → PortUnit) (s : State) : (s.setSeg p f).dram = s.dram := rfl
@[simp] theorem State.setSeg_pantry (p : Nat) (f : PortUnit → PortUnit) (s : State) : (s.setSeg p f).pantry = s.pantry := rfl
@[simp] theorem State.setSeg_dma (p : Nat) (f : PortUnit → PortUnit) (s : State) : (s.setSeg p f).dma = s.dma := rfl
@[simp] theorem State.setSeg_host (p : Nat) (f : PortUnit → PortUnit) (s : State) : (s.setSeg p f).host = s.host := rfl
@[simp] theorem State.setSeg_ev (p : Nat) (f : PortUnit → PortUnit) (s : State) : (s.setSeg p f).ev = s.ev := rfl
@[simp] theorem State.setSeg_sec (p : Nat) (f : PortUnit → PortUnit) (s : State) : (s.setSeg p f).sec = s.sec := rfl
@[simp] theorem State.setSeg_cpu (p : Nat) (f : PortUnit → PortUnit) (s : State) : (s.setSeg p f).cpu = s.cpu := rfl
@[simp] theorem State.setSeg_diag (p : Nat) (f : PortUnit → PortUnit) (s : State) : (s.setSeg p f).diag = s.diag := rfl
@[simp] theorem State.setSeg_fresh (p : Nat) (f : PortUnit → PortUnit) (s : State) : (s.setSeg p f).fresh = s.fresh := rfl
@[simp] theorem State.setSeg_pending (p : Nat) (f : PortUnit → PortUnit) (s : State) : (s.setSeg p f).pending = s.pending := rfl

/-! ### `State.setDie` changes `ports`. -/

@[simp] theorem State.setDie_now (k : Nat) (f : FeDie → FeDie) (s : State) : (s.setDie k f).now = s.now := rfl
@[simp] theorem State.setDie_board (k : Nat) (f : FeDie → FeDie) (s : State) : (s.setDie k f).board = s.board := rfl
@[simp] theorem State.setDie_mode (k : Nat) (f : FeDie → FeDie) (s : State) : (s.setDie k f).mode = s.mode := rfl
@[simp] theorem State.setDie_rst (k : Nat) (f : FeDie → FeDie) (s : State) : (s.setDie k f).rst = s.rst := rfl
@[simp] theorem State.setDie_clk (k : Nat) (f : FeDie → FeDie) (s : State) : (s.setDie k f).clk = s.clk := rfl
@[simp] theorem State.setDie_lt (k : Nat) (f : FeDie → FeDie) (s : State) : (s.setDie k f).lt = s.lt := rfl
@[simp] theorem State.setDie_uzs (k : Nat) (f : FeDie → FeDie) (s : State) : (s.setDie k f).uzs = s.uzs := rfl
@[simp] theorem State.setDie_ring (k : Nat) (f : FeDie → FeDie) (s : State) : (s.setDie k f).ring = s.ring := rfl
@[simp] theorem State.setDie_banks (k : Nat) (f : FeDie → FeDie) (s : State) : (s.setDie k f).banks = s.banks := rfl
@[simp] theorem State.setDie_active (k : Nat) (f : FeDie → FeDie) (s : State) : (s.setDie k f).active = s.active := rfl
@[simp] theorem State.setDie_shadow (k : Nat) (f : FeDie → FeDie) (s : State) : (s.setDie k f).shadow = s.shadow := rfl
@[simp] theorem State.setDie_staged (k : Nat) (f : FeDie → FeDie) (s : State) : (s.setDie k f).staged = s.staged := rfl
@[simp] theorem State.setDie_lines (k : Nat) (f : FeDie → FeDie) (s : State) : (s.setDie k f).lines = s.lines := rfl
@[simp] theorem State.setDie_shd (k : Nat) (f : FeDie → FeDie) (s : State) : (s.setDie k f).shd = s.shd := rfl
@[simp] theorem State.setDie_aln (k : Nat) (f : FeDie → FeDie) (s : State) : (s.setDie k f).aln = s.aln := rfl
@[simp] theorem State.setDie_sv (k : Nat) (f : FeDie → FeDie) (s : State) : (s.setDie k f).sv = s.sv := rfl
@[simp] theorem State.setDie_skl (k : Nat) (f : FeDie → FeDie) (s : State) : (s.setDie k f).skl = s.skl := rfl
@[simp] theorem State.setDie_ilm (k : Nat) (f : FeDie → FeDie) (s : State) : (s.setDie k f).ilm = s.ilm := rfl
@[simp] theorem State.setDie_axes (k : Nat) (f : FeDie → FeDie) (s : State) : (s.setDie k f).axes = s.axes := rfl
@[simp] theorem State.setDie_madc (k : Nat) (f : FeDie → FeDie) (s : State) : (s.setDie k f).madc = s.madc := rfl
@[simp] theorem State.setDie_therm (k : Nat) (f : FeDie → FeDie) (s : State) : (s.setDie k f).therm = s.therm := rfl
@[simp] theorem State.setDie_simmer (k : Nat) (f : FeDie → FeDie) (s : State) : (s.setDie k f).simmer = s.simmer := rfl
@[simp] theorem State.setDie_dram (k : Nat) (f : FeDie → FeDie) (s : State) : (s.setDie k f).dram = s.dram := rfl
@[simp] theorem State.setDie_pantry (k : Nat) (f : FeDie → FeDie) (s : State) : (s.setDie k f).pantry = s.pantry := rfl
@[simp] theorem State.setDie_dma (k : Nat) (f : FeDie → FeDie) (s : State) : (s.setDie k f).dma = s.dma := rfl
@[simp] theorem State.setDie_host (k : Nat) (f : FeDie → FeDie) (s : State) : (s.setDie k f).host = s.host := rfl
@[simp] theorem State.setDie_ev (k : Nat) (f : FeDie → FeDie) (s : State) : (s.setDie k f).ev = s.ev := rfl
@[simp] theorem State.setDie_sec (k : Nat) (f : FeDie → FeDie) (s : State) : (s.setDie k f).sec = s.sec := rfl
@[simp] theorem State.setDie_cpu (k : Nat) (f : FeDie → FeDie) (s : State) : (s.setDie k f).cpu = s.cpu := rfl
@[simp] theorem State.setDie_diag (k : Nat) (f : FeDie → FeDie) (s : State) : (s.setDie k f).diag = s.diag := rfl
@[simp] theorem State.setDie_fresh (k : Nat) (f : FeDie → FeDie) (s : State) : (s.setDie k f).fresh = s.fresh := rfl
@[simp] theorem State.setDie_pending (k : Nat) (f : FeDie → FeDie) (s : State) : (s.setDie k f).pending = s.pending := rfl

/-! ### `State.setCh` changes `ports`. -/

@[simp] theorem State.setCh_now (k c : Nat) (f : Channel → Channel) (s : State) : (s.setCh k c f).now = s.now := rfl
@[simp] theorem State.setCh_board (k c : Nat) (f : Channel → Channel) (s : State) : (s.setCh k c f).board = s.board := rfl
@[simp] theorem State.setCh_mode (k c : Nat) (f : Channel → Channel) (s : State) : (s.setCh k c f).mode = s.mode := rfl
@[simp] theorem State.setCh_rst (k c : Nat) (f : Channel → Channel) (s : State) : (s.setCh k c f).rst = s.rst := rfl
@[simp] theorem State.setCh_clk (k c : Nat) (f : Channel → Channel) (s : State) : (s.setCh k c f).clk = s.clk := rfl
@[simp] theorem State.setCh_lt (k c : Nat) (f : Channel → Channel) (s : State) : (s.setCh k c f).lt = s.lt := rfl
@[simp] theorem State.setCh_uzs (k c : Nat) (f : Channel → Channel) (s : State) : (s.setCh k c f).uzs = s.uzs := rfl
@[simp] theorem State.setCh_ring (k c : Nat) (f : Channel → Channel) (s : State) : (s.setCh k c f).ring = s.ring := rfl
@[simp] theorem State.setCh_banks (k c : Nat) (f : Channel → Channel) (s : State) : (s.setCh k c f).banks = s.banks := rfl
@[simp] theorem State.setCh_active (k c : Nat) (f : Channel → Channel) (s : State) : (s.setCh k c f).active = s.active := rfl
@[simp] theorem State.setCh_shadow (k c : Nat) (f : Channel → Channel) (s : State) : (s.setCh k c f).shadow = s.shadow := rfl
@[simp] theorem State.setCh_staged (k c : Nat) (f : Channel → Channel) (s : State) : (s.setCh k c f).staged = s.staged := rfl
@[simp] theorem State.setCh_lines (k c : Nat) (f : Channel → Channel) (s : State) : (s.setCh k c f).lines = s.lines := rfl
@[simp] theorem State.setCh_shd (k c : Nat) (f : Channel → Channel) (s : State) : (s.setCh k c f).shd = s.shd := rfl
@[simp] theorem State.setCh_aln (k c : Nat) (f : Channel → Channel) (s : State) : (s.setCh k c f).aln = s.aln := rfl
@[simp] theorem State.setCh_sv (k c : Nat) (f : Channel → Channel) (s : State) : (s.setCh k c f).sv = s.sv := rfl
@[simp] theorem State.setCh_skl (k c : Nat) (f : Channel → Channel) (s : State) : (s.setCh k c f).skl = s.skl := rfl
@[simp] theorem State.setCh_ilm (k c : Nat) (f : Channel → Channel) (s : State) : (s.setCh k c f).ilm = s.ilm := rfl
@[simp] theorem State.setCh_axes (k c : Nat) (f : Channel → Channel) (s : State) : (s.setCh k c f).axes = s.axes := rfl
@[simp] theorem State.setCh_madc (k c : Nat) (f : Channel → Channel) (s : State) : (s.setCh k c f).madc = s.madc := rfl
@[simp] theorem State.setCh_therm (k c : Nat) (f : Channel → Channel) (s : State) : (s.setCh k c f).therm = s.therm := rfl
@[simp] theorem State.setCh_simmer (k c : Nat) (f : Channel → Channel) (s : State) : (s.setCh k c f).simmer = s.simmer := rfl
@[simp] theorem State.setCh_dram (k c : Nat) (f : Channel → Channel) (s : State) : (s.setCh k c f).dram = s.dram := rfl
@[simp] theorem State.setCh_pantry (k c : Nat) (f : Channel → Channel) (s : State) : (s.setCh k c f).pantry = s.pantry := rfl
@[simp] theorem State.setCh_dma (k c : Nat) (f : Channel → Channel) (s : State) : (s.setCh k c f).dma = s.dma := rfl
@[simp] theorem State.setCh_host (k c : Nat) (f : Channel → Channel) (s : State) : (s.setCh k c f).host = s.host := rfl
@[simp] theorem State.setCh_ev (k c : Nat) (f : Channel → Channel) (s : State) : (s.setCh k c f).ev = s.ev := rfl
@[simp] theorem State.setCh_sec (k c : Nat) (f : Channel → Channel) (s : State) : (s.setCh k c f).sec = s.sec := rfl
@[simp] theorem State.setCh_cpu (k c : Nat) (f : Channel → Channel) (s : State) : (s.setCh k c f).cpu = s.cpu := rfl
@[simp] theorem State.setCh_diag (k c : Nat) (f : Channel → Channel) (s : State) : (s.setCh k c f).diag = s.diag := rfl
@[simp] theorem State.setCh_fresh (k c : Nat) (f : Channel → Channel) (s : State) : (s.setCh k c f).fresh = s.fresh := rfl
@[simp] theorem State.setCh_pending (k c : Nat) (f : Channel → Channel) (s : State) : (s.setCh k c f).pending = s.pending := rfl

/-! ### `State.setLt` changes `lt`. -/

@[simp] theorem State.setLt_now (f : LineUnit → LineUnit) (s : State) : (s.setLt f).now = s.now := rfl
@[simp] theorem State.setLt_board (f : LineUnit → LineUnit) (s : State) : (s.setLt f).board = s.board := rfl
@[simp] theorem State.setLt_mode (f : LineUnit → LineUnit) (s : State) : (s.setLt f).mode = s.mode := rfl
@[simp] theorem State.setLt_rst (f : LineUnit → LineUnit) (s : State) : (s.setLt f).rst = s.rst := rfl
@[simp] theorem State.setLt_clk (f : LineUnit → LineUnit) (s : State) : (s.setLt f).clk = s.clk := rfl
@[simp] theorem State.setLt_ports (f : LineUnit → LineUnit) (s : State) : (s.setLt f).ports = s.ports := rfl
@[simp] theorem State.setLt_uzs (f : LineUnit → LineUnit) (s : State) : (s.setLt f).uzs = s.uzs := rfl
@[simp] theorem State.setLt_ring (f : LineUnit → LineUnit) (s : State) : (s.setLt f).ring = s.ring := rfl
@[simp] theorem State.setLt_banks (f : LineUnit → LineUnit) (s : State) : (s.setLt f).banks = s.banks := rfl
@[simp] theorem State.setLt_active (f : LineUnit → LineUnit) (s : State) : (s.setLt f).active = s.active := rfl
@[simp] theorem State.setLt_shadow (f : LineUnit → LineUnit) (s : State) : (s.setLt f).shadow = s.shadow := rfl
@[simp] theorem State.setLt_staged (f : LineUnit → LineUnit) (s : State) : (s.setLt f).staged = s.staged := rfl
@[simp] theorem State.setLt_lines (f : LineUnit → LineUnit) (s : State) : (s.setLt f).lines = s.lines := rfl
@[simp] theorem State.setLt_shd (f : LineUnit → LineUnit) (s : State) : (s.setLt f).shd = s.shd := rfl
@[simp] theorem State.setLt_aln (f : LineUnit → LineUnit) (s : State) : (s.setLt f).aln = s.aln := rfl
@[simp] theorem State.setLt_sv (f : LineUnit → LineUnit) (s : State) : (s.setLt f).sv = s.sv := rfl
@[simp] theorem State.setLt_skl (f : LineUnit → LineUnit) (s : State) : (s.setLt f).skl = s.skl := rfl
@[simp] theorem State.setLt_ilm (f : LineUnit → LineUnit) (s : State) : (s.setLt f).ilm = s.ilm := rfl
@[simp] theorem State.setLt_axes (f : LineUnit → LineUnit) (s : State) : (s.setLt f).axes = s.axes := rfl
@[simp] theorem State.setLt_madc (f : LineUnit → LineUnit) (s : State) : (s.setLt f).madc = s.madc := rfl
@[simp] theorem State.setLt_therm (f : LineUnit → LineUnit) (s : State) : (s.setLt f).therm = s.therm := rfl
@[simp] theorem State.setLt_simmer (f : LineUnit → LineUnit) (s : State) : (s.setLt f).simmer = s.simmer := rfl
@[simp] theorem State.setLt_dram (f : LineUnit → LineUnit) (s : State) : (s.setLt f).dram = s.dram := rfl
@[simp] theorem State.setLt_pantry (f : LineUnit → LineUnit) (s : State) : (s.setLt f).pantry = s.pantry := rfl
@[simp] theorem State.setLt_dma (f : LineUnit → LineUnit) (s : State) : (s.setLt f).dma = s.dma := rfl
@[simp] theorem State.setLt_host (f : LineUnit → LineUnit) (s : State) : (s.setLt f).host = s.host := rfl
@[simp] theorem State.setLt_ev (f : LineUnit → LineUnit) (s : State) : (s.setLt f).ev = s.ev := rfl
@[simp] theorem State.setLt_sec (f : LineUnit → LineUnit) (s : State) : (s.setLt f).sec = s.sec := rfl
@[simp] theorem State.setLt_cpu (f : LineUnit → LineUnit) (s : State) : (s.setLt f).cpu = s.cpu := rfl
@[simp] theorem State.setLt_diag (f : LineUnit → LineUnit) (s : State) : (s.setLt f).diag = s.diag := rfl
@[simp] theorem State.setLt_fresh (f : LineUnit → LineUnit) (s : State) : (s.setLt f).fresh = s.fresh := rfl
@[simp] theorem State.setLt_pending (f : LineUnit → LineUnit) (s : State) : (s.setLt f).pending = s.pending := rfl

/-! ### `State.setLine` changes `lines`. -/

@[simp] theorem State.setLine_now (q : BitVec 32) (f : LineRec → LineRec) (s : State) : (s.setLine q f).now = s.now := rfl
@[simp] theorem State.setLine_board (q : BitVec 32) (f : LineRec → LineRec) (s : State) : (s.setLine q f).board = s.board := rfl
@[simp] theorem State.setLine_mode (q : BitVec 32) (f : LineRec → LineRec) (s : State) : (s.setLine q f).mode = s.mode := rfl
@[simp] theorem State.setLine_rst (q : BitVec 32) (f : LineRec → LineRec) (s : State) : (s.setLine q f).rst = s.rst := rfl
@[simp] theorem State.setLine_clk (q : BitVec 32) (f : LineRec → LineRec) (s : State) : (s.setLine q f).clk = s.clk := rfl
@[simp] theorem State.setLine_ports (q : BitVec 32) (f : LineRec → LineRec) (s : State) : (s.setLine q f).ports = s.ports := rfl
@[simp] theorem State.setLine_lt (q : BitVec 32) (f : LineRec → LineRec) (s : State) : (s.setLine q f).lt = s.lt := rfl
@[simp] theorem State.setLine_uzs (q : BitVec 32) (f : LineRec → LineRec) (s : State) : (s.setLine q f).uzs = s.uzs := rfl
@[simp] theorem State.setLine_ring (q : BitVec 32) (f : LineRec → LineRec) (s : State) : (s.setLine q f).ring = s.ring := rfl
@[simp] theorem State.setLine_banks (q : BitVec 32) (f : LineRec → LineRec) (s : State) : (s.setLine q f).banks = s.banks := rfl
@[simp] theorem State.setLine_active (q : BitVec 32) (f : LineRec → LineRec) (s : State) : (s.setLine q f).active = s.active := rfl
@[simp] theorem State.setLine_shadow (q : BitVec 32) (f : LineRec → LineRec) (s : State) : (s.setLine q f).shadow = s.shadow := rfl
@[simp] theorem State.setLine_staged (q : BitVec 32) (f : LineRec → LineRec) (s : State) : (s.setLine q f).staged = s.staged := rfl
@[simp] theorem State.setLine_shd (q : BitVec 32) (f : LineRec → LineRec) (s : State) : (s.setLine q f).shd = s.shd := rfl
@[simp] theorem State.setLine_aln (q : BitVec 32) (f : LineRec → LineRec) (s : State) : (s.setLine q f).aln = s.aln := rfl
@[simp] theorem State.setLine_sv (q : BitVec 32) (f : LineRec → LineRec) (s : State) : (s.setLine q f).sv = s.sv := rfl
@[simp] theorem State.setLine_skl (q : BitVec 32) (f : LineRec → LineRec) (s : State) : (s.setLine q f).skl = s.skl := rfl
@[simp] theorem State.setLine_ilm (q : BitVec 32) (f : LineRec → LineRec) (s : State) : (s.setLine q f).ilm = s.ilm := rfl
@[simp] theorem State.setLine_axes (q : BitVec 32) (f : LineRec → LineRec) (s : State) : (s.setLine q f).axes = s.axes := rfl
@[simp] theorem State.setLine_madc (q : BitVec 32) (f : LineRec → LineRec) (s : State) : (s.setLine q f).madc = s.madc := rfl
@[simp] theorem State.setLine_therm (q : BitVec 32) (f : LineRec → LineRec) (s : State) : (s.setLine q f).therm = s.therm := rfl
@[simp] theorem State.setLine_simmer (q : BitVec 32) (f : LineRec → LineRec) (s : State) : (s.setLine q f).simmer = s.simmer := rfl
@[simp] theorem State.setLine_dram (q : BitVec 32) (f : LineRec → LineRec) (s : State) : (s.setLine q f).dram = s.dram := rfl
@[simp] theorem State.setLine_pantry (q : BitVec 32) (f : LineRec → LineRec) (s : State) : (s.setLine q f).pantry = s.pantry := rfl
@[simp] theorem State.setLine_dma (q : BitVec 32) (f : LineRec → LineRec) (s : State) : (s.setLine q f).dma = s.dma := rfl
@[simp] theorem State.setLine_host (q : BitVec 32) (f : LineRec → LineRec) (s : State) : (s.setLine q f).host = s.host := rfl
@[simp] theorem State.setLine_ev (q : BitVec 32) (f : LineRec → LineRec) (s : State) : (s.setLine q f).ev = s.ev := rfl
@[simp] theorem State.setLine_sec (q : BitVec 32) (f : LineRec → LineRec) (s : State) : (s.setLine q f).sec = s.sec := rfl
@[simp] theorem State.setLine_cpu (q : BitVec 32) (f : LineRec → LineRec) (s : State) : (s.setLine q f).cpu = s.cpu := rfl
@[simp] theorem State.setLine_diag (q : BitVec 32) (f : LineRec → LineRec) (s : State) : (s.setLine q f).diag = s.diag := rfl
@[simp] theorem State.setLine_fresh (q : BitVec 32) (f : LineRec → LineRec) (s : State) : (s.setLine q f).fresh = s.fresh := rfl
@[simp] theorem State.setLine_pending (q : BitVec 32) (f : LineRec → LineRec) (s : State) : (s.setLine q f).pending = s.pending := rfl

/-! ### `State.setShd` changes `shd`. -/

@[simp] theorem State.setShd_now (f : ShdUnit → ShdUnit) (s : State) : (s.setShd f).now = s.now := rfl
@[simp] theorem State.setShd_board (f : ShdUnit → ShdUnit) (s : State) : (s.setShd f).board = s.board := rfl
@[simp] theorem State.setShd_mode (f : ShdUnit → ShdUnit) (s : State) : (s.setShd f).mode = s.mode := rfl
@[simp] theorem State.setShd_rst (f : ShdUnit → ShdUnit) (s : State) : (s.setShd f).rst = s.rst := rfl
@[simp] theorem State.setShd_clk (f : ShdUnit → ShdUnit) (s : State) : (s.setShd f).clk = s.clk := rfl
@[simp] theorem State.setShd_ports (f : ShdUnit → ShdUnit) (s : State) : (s.setShd f).ports = s.ports := rfl
@[simp] theorem State.setShd_lt (f : ShdUnit → ShdUnit) (s : State) : (s.setShd f).lt = s.lt := rfl
@[simp] theorem State.setShd_uzs (f : ShdUnit → ShdUnit) (s : State) : (s.setShd f).uzs = s.uzs := rfl
@[simp] theorem State.setShd_ring (f : ShdUnit → ShdUnit) (s : State) : (s.setShd f).ring = s.ring := rfl
@[simp] theorem State.setShd_banks (f : ShdUnit → ShdUnit) (s : State) : (s.setShd f).banks = s.banks := rfl
@[simp] theorem State.setShd_active (f : ShdUnit → ShdUnit) (s : State) : (s.setShd f).active = s.active := rfl
@[simp] theorem State.setShd_shadow (f : ShdUnit → ShdUnit) (s : State) : (s.setShd f).shadow = s.shadow := rfl
@[simp] theorem State.setShd_staged (f : ShdUnit → ShdUnit) (s : State) : (s.setShd f).staged = s.staged := rfl
@[simp] theorem State.setShd_lines (f : ShdUnit → ShdUnit) (s : State) : (s.setShd f).lines = s.lines := rfl
@[simp] theorem State.setShd_aln (f : ShdUnit → ShdUnit) (s : State) : (s.setShd f).aln = s.aln := rfl
@[simp] theorem State.setShd_sv (f : ShdUnit → ShdUnit) (s : State) : (s.setShd f).sv = s.sv := rfl
@[simp] theorem State.setShd_skl (f : ShdUnit → ShdUnit) (s : State) : (s.setShd f).skl = s.skl := rfl
@[simp] theorem State.setShd_ilm (f : ShdUnit → ShdUnit) (s : State) : (s.setShd f).ilm = s.ilm := rfl
@[simp] theorem State.setShd_axes (f : ShdUnit → ShdUnit) (s : State) : (s.setShd f).axes = s.axes := rfl
@[simp] theorem State.setShd_madc (f : ShdUnit → ShdUnit) (s : State) : (s.setShd f).madc = s.madc := rfl
@[simp] theorem State.setShd_therm (f : ShdUnit → ShdUnit) (s : State) : (s.setShd f).therm = s.therm := rfl
@[simp] theorem State.setShd_simmer (f : ShdUnit → ShdUnit) (s : State) : (s.setShd f).simmer = s.simmer := rfl
@[simp] theorem State.setShd_dram (f : ShdUnit → ShdUnit) (s : State) : (s.setShd f).dram = s.dram := rfl
@[simp] theorem State.setShd_pantry (f : ShdUnit → ShdUnit) (s : State) : (s.setShd f).pantry = s.pantry := rfl
@[simp] theorem State.setShd_dma (f : ShdUnit → ShdUnit) (s : State) : (s.setShd f).dma = s.dma := rfl
@[simp] theorem State.setShd_host (f : ShdUnit → ShdUnit) (s : State) : (s.setShd f).host = s.host := rfl
@[simp] theorem State.setShd_ev (f : ShdUnit → ShdUnit) (s : State) : (s.setShd f).ev = s.ev := rfl
@[simp] theorem State.setShd_sec (f : ShdUnit → ShdUnit) (s : State) : (s.setShd f).sec = s.sec := rfl
@[simp] theorem State.setShd_cpu (f : ShdUnit → ShdUnit) (s : State) : (s.setShd f).cpu = s.cpu := rfl
@[simp] theorem State.setShd_diag (f : ShdUnit → ShdUnit) (s : State) : (s.setShd f).diag = s.diag := rfl
@[simp] theorem State.setShd_fresh (f : ShdUnit → ShdUnit) (s : State) : (s.setShd f).fresh = s.fresh := rfl
@[simp] theorem State.setShd_pending (f : ShdUnit → ShdUnit) (s : State) : (s.setShd f).pending = s.pending := rfl

/-! ### `State.setJob` changes `sv`. -/

@[simp] theorem State.setJob_now (f : Job → Job) (s : State) : (s.setJob f).now = s.now := rfl
@[simp] theorem State.setJob_board (f : Job → Job) (s : State) : (s.setJob f).board = s.board := rfl
@[simp] theorem State.setJob_mode (f : Job → Job) (s : State) : (s.setJob f).mode = s.mode := rfl
@[simp] theorem State.setJob_rst (f : Job → Job) (s : State) : (s.setJob f).rst = s.rst := rfl
@[simp] theorem State.setJob_clk (f : Job → Job) (s : State) : (s.setJob f).clk = s.clk := rfl
@[simp] theorem State.setJob_ports (f : Job → Job) (s : State) : (s.setJob f).ports = s.ports := rfl
@[simp] theorem State.setJob_lt (f : Job → Job) (s : State) : (s.setJob f).lt = s.lt := rfl
@[simp] theorem State.setJob_uzs (f : Job → Job) (s : State) : (s.setJob f).uzs = s.uzs := rfl
@[simp] theorem State.setJob_ring (f : Job → Job) (s : State) : (s.setJob f).ring = s.ring := rfl
@[simp] theorem State.setJob_banks (f : Job → Job) (s : State) : (s.setJob f).banks = s.banks := rfl
@[simp] theorem State.setJob_active (f : Job → Job) (s : State) : (s.setJob f).active = s.active := rfl
@[simp] theorem State.setJob_shadow (f : Job → Job) (s : State) : (s.setJob f).shadow = s.shadow := rfl
@[simp] theorem State.setJob_staged (f : Job → Job) (s : State) : (s.setJob f).staged = s.staged := rfl
@[simp] theorem State.setJob_lines (f : Job → Job) (s : State) : (s.setJob f).lines = s.lines := rfl
@[simp] theorem State.setJob_shd (f : Job → Job) (s : State) : (s.setJob f).shd = s.shd := rfl
@[simp] theorem State.setJob_aln (f : Job → Job) (s : State) : (s.setJob f).aln = s.aln := rfl
@[simp] theorem State.setJob_skl (f : Job → Job) (s : State) : (s.setJob f).skl = s.skl := rfl
@[simp] theorem State.setJob_ilm (f : Job → Job) (s : State) : (s.setJob f).ilm = s.ilm := rfl
@[simp] theorem State.setJob_axes (f : Job → Job) (s : State) : (s.setJob f).axes = s.axes := rfl
@[simp] theorem State.setJob_madc (f : Job → Job) (s : State) : (s.setJob f).madc = s.madc := rfl
@[simp] theorem State.setJob_therm (f : Job → Job) (s : State) : (s.setJob f).therm = s.therm := rfl
@[simp] theorem State.setJob_simmer (f : Job → Job) (s : State) : (s.setJob f).simmer = s.simmer := rfl
@[simp] theorem State.setJob_dram (f : Job → Job) (s : State) : (s.setJob f).dram = s.dram := rfl
@[simp] theorem State.setJob_pantry (f : Job → Job) (s : State) : (s.setJob f).pantry = s.pantry := rfl
@[simp] theorem State.setJob_dma (f : Job → Job) (s : State) : (s.setJob f).dma = s.dma := rfl
@[simp] theorem State.setJob_host (f : Job → Job) (s : State) : (s.setJob f).host = s.host := rfl
@[simp] theorem State.setJob_ev (f : Job → Job) (s : State) : (s.setJob f).ev = s.ev := rfl
@[simp] theorem State.setJob_sec (f : Job → Job) (s : State) : (s.setJob f).sec = s.sec := rfl
@[simp] theorem State.setJob_cpu (f : Job → Job) (s : State) : (s.setJob f).cpu = s.cpu := rfl
@[simp] theorem State.setJob_diag (f : Job → Job) (s : State) : (s.setJob f).diag = s.diag := rfl
@[simp] theorem State.setJob_fresh (f : Job → Job) (s : State) : (s.setJob f).fresh = s.fresh := rfl
@[simp] theorem State.setJob_pending (f : Job → Job) (s : State) : (s.setJob f).pending = s.pending := rfl

/-! ### `State.setRow` changes `ilm`. -/

@[simp] theorem State.setRow_now (w : Nat) (f : RowUnit → RowUnit) (s : State) : (s.setRow w f).now = s.now := rfl
@[simp] theorem State.setRow_board (w : Nat) (f : RowUnit → RowUnit) (s : State) : (s.setRow w f).board = s.board := rfl
@[simp] theorem State.setRow_mode (w : Nat) (f : RowUnit → RowUnit) (s : State) : (s.setRow w f).mode = s.mode := rfl
@[simp] theorem State.setRow_rst (w : Nat) (f : RowUnit → RowUnit) (s : State) : (s.setRow w f).rst = s.rst := rfl
@[simp] theorem State.setRow_clk (w : Nat) (f : RowUnit → RowUnit) (s : State) : (s.setRow w f).clk = s.clk := rfl
@[simp] theorem State.setRow_ports (w : Nat) (f : RowUnit → RowUnit) (s : State) : (s.setRow w f).ports = s.ports := rfl
@[simp] theorem State.setRow_lt (w : Nat) (f : RowUnit → RowUnit) (s : State) : (s.setRow w f).lt = s.lt := rfl
@[simp] theorem State.setRow_uzs (w : Nat) (f : RowUnit → RowUnit) (s : State) : (s.setRow w f).uzs = s.uzs := rfl
@[simp] theorem State.setRow_ring (w : Nat) (f : RowUnit → RowUnit) (s : State) : (s.setRow w f).ring = s.ring := rfl
@[simp] theorem State.setRow_banks (w : Nat) (f : RowUnit → RowUnit) (s : State) : (s.setRow w f).banks = s.banks := rfl
@[simp] theorem State.setRow_active (w : Nat) (f : RowUnit → RowUnit) (s : State) : (s.setRow w f).active = s.active := rfl
@[simp] theorem State.setRow_shadow (w : Nat) (f : RowUnit → RowUnit) (s : State) : (s.setRow w f).shadow = s.shadow := rfl
@[simp] theorem State.setRow_staged (w : Nat) (f : RowUnit → RowUnit) (s : State) : (s.setRow w f).staged = s.staged := rfl
@[simp] theorem State.setRow_lines (w : Nat) (f : RowUnit → RowUnit) (s : State) : (s.setRow w f).lines = s.lines := rfl
@[simp] theorem State.setRow_shd (w : Nat) (f : RowUnit → RowUnit) (s : State) : (s.setRow w f).shd = s.shd := rfl
@[simp] theorem State.setRow_aln (w : Nat) (f : RowUnit → RowUnit) (s : State) : (s.setRow w f).aln = s.aln := rfl
@[simp] theorem State.setRow_sv (w : Nat) (f : RowUnit → RowUnit) (s : State) : (s.setRow w f).sv = s.sv := rfl
@[simp] theorem State.setRow_skl (w : Nat) (f : RowUnit → RowUnit) (s : State) : (s.setRow w f).skl = s.skl := rfl
@[simp] theorem State.setRow_axes (w : Nat) (f : RowUnit → RowUnit) (s : State) : (s.setRow w f).axes = s.axes := rfl
@[simp] theorem State.setRow_madc (w : Nat) (f : RowUnit → RowUnit) (s : State) : (s.setRow w f).madc = s.madc := rfl
@[simp] theorem State.setRow_therm (w : Nat) (f : RowUnit → RowUnit) (s : State) : (s.setRow w f).therm = s.therm := rfl
@[simp] theorem State.setRow_simmer (w : Nat) (f : RowUnit → RowUnit) (s : State) : (s.setRow w f).simmer = s.simmer := rfl
@[simp] theorem State.setRow_dram (w : Nat) (f : RowUnit → RowUnit) (s : State) : (s.setRow w f).dram = s.dram := rfl
@[simp] theorem State.setRow_pantry (w : Nat) (f : RowUnit → RowUnit) (s : State) : (s.setRow w f).pantry = s.pantry := rfl
@[simp] theorem State.setRow_dma (w : Nat) (f : RowUnit → RowUnit) (s : State) : (s.setRow w f).dma = s.dma := rfl
@[simp] theorem State.setRow_host (w : Nat) (f : RowUnit → RowUnit) (s : State) : (s.setRow w f).host = s.host := rfl
@[simp] theorem State.setRow_ev (w : Nat) (f : RowUnit → RowUnit) (s : State) : (s.setRow w f).ev = s.ev := rfl
@[simp] theorem State.setRow_sec (w : Nat) (f : RowUnit → RowUnit) (s : State) : (s.setRow w f).sec = s.sec := rfl
@[simp] theorem State.setRow_cpu (w : Nat) (f : RowUnit → RowUnit) (s : State) : (s.setRow w f).cpu = s.cpu := rfl
@[simp] theorem State.setRow_diag (w : Nat) (f : RowUnit → RowUnit) (s : State) : (s.setRow w f).diag = s.diag := rfl
@[simp] theorem State.setRow_fresh (w : Nat) (f : RowUnit → RowUnit) (s : State) : (s.setRow w f).fresh = s.fresh := rfl
@[simp] theorem State.setRow_pending (w : Nat) (f : RowUnit → RowUnit) (s : State) : (s.setRow w f).pending = s.pending := rfl

/-! ### `State.setChain` changes `ilm`. -/

@[simp] theorem State.setChain_now (c : Nat) (f : ChainUnit → ChainUnit) (s : State) : (s.setChain c f).now = s.now := by unfold State.setChain; split <;> rfl
@[simp] theorem State.setChain_board (c : Nat) (f : ChainUnit → ChainUnit) (s : State) : (s.setChain c f).board = s.board := by unfold State.setChain; split <;> rfl
@[simp] theorem State.setChain_mode (c : Nat) (f : ChainUnit → ChainUnit) (s : State) : (s.setChain c f).mode = s.mode := by unfold State.setChain; split <;> rfl
@[simp] theorem State.setChain_rst (c : Nat) (f : ChainUnit → ChainUnit) (s : State) : (s.setChain c f).rst = s.rst := by unfold State.setChain; split <;> rfl
@[simp] theorem State.setChain_clk (c : Nat) (f : ChainUnit → ChainUnit) (s : State) : (s.setChain c f).clk = s.clk := by unfold State.setChain; split <;> rfl
@[simp] theorem State.setChain_ports (c : Nat) (f : ChainUnit → ChainUnit) (s : State) : (s.setChain c f).ports = s.ports := by unfold State.setChain; split <;> rfl
@[simp] theorem State.setChain_lt (c : Nat) (f : ChainUnit → ChainUnit) (s : State) : (s.setChain c f).lt = s.lt := by unfold State.setChain; split <;> rfl
@[simp] theorem State.setChain_uzs (c : Nat) (f : ChainUnit → ChainUnit) (s : State) : (s.setChain c f).uzs = s.uzs := by unfold State.setChain; split <;> rfl
@[simp] theorem State.setChain_ring (c : Nat) (f : ChainUnit → ChainUnit) (s : State) : (s.setChain c f).ring = s.ring := by unfold State.setChain; split <;> rfl
@[simp] theorem State.setChain_banks (c : Nat) (f : ChainUnit → ChainUnit) (s : State) : (s.setChain c f).banks = s.banks := by unfold State.setChain; split <;> rfl
@[simp] theorem State.setChain_active (c : Nat) (f : ChainUnit → ChainUnit) (s : State) : (s.setChain c f).active = s.active := by unfold State.setChain; split <;> rfl
@[simp] theorem State.setChain_shadow (c : Nat) (f : ChainUnit → ChainUnit) (s : State) : (s.setChain c f).shadow = s.shadow := by unfold State.setChain; split <;> rfl
@[simp] theorem State.setChain_staged (c : Nat) (f : ChainUnit → ChainUnit) (s : State) : (s.setChain c f).staged = s.staged := by unfold State.setChain; split <;> rfl
@[simp] theorem State.setChain_lines (c : Nat) (f : ChainUnit → ChainUnit) (s : State) : (s.setChain c f).lines = s.lines := by unfold State.setChain; split <;> rfl
@[simp] theorem State.setChain_shd (c : Nat) (f : ChainUnit → ChainUnit) (s : State) : (s.setChain c f).shd = s.shd := by unfold State.setChain; split <;> rfl
@[simp] theorem State.setChain_aln (c : Nat) (f : ChainUnit → ChainUnit) (s : State) : (s.setChain c f).aln = s.aln := by unfold State.setChain; split <;> rfl
@[simp] theorem State.setChain_sv (c : Nat) (f : ChainUnit → ChainUnit) (s : State) : (s.setChain c f).sv = s.sv := by unfold State.setChain; split <;> rfl
@[simp] theorem State.setChain_skl (c : Nat) (f : ChainUnit → ChainUnit) (s : State) : (s.setChain c f).skl = s.skl := by unfold State.setChain; split <;> rfl
@[simp] theorem State.setChain_axes (c : Nat) (f : ChainUnit → ChainUnit) (s : State) : (s.setChain c f).axes = s.axes := by unfold State.setChain; split <;> rfl
@[simp] theorem State.setChain_madc (c : Nat) (f : ChainUnit → ChainUnit) (s : State) : (s.setChain c f).madc = s.madc := by unfold State.setChain; split <;> rfl
@[simp] theorem State.setChain_therm (c : Nat) (f : ChainUnit → ChainUnit) (s : State) : (s.setChain c f).therm = s.therm := by unfold State.setChain; split <;> rfl
@[simp] theorem State.setChain_simmer (c : Nat) (f : ChainUnit → ChainUnit) (s : State) : (s.setChain c f).simmer = s.simmer := by unfold State.setChain; split <;> rfl
@[simp] theorem State.setChain_dram (c : Nat) (f : ChainUnit → ChainUnit) (s : State) : (s.setChain c f).dram = s.dram := by unfold State.setChain; split <;> rfl
@[simp] theorem State.setChain_pantry (c : Nat) (f : ChainUnit → ChainUnit) (s : State) : (s.setChain c f).pantry = s.pantry := by unfold State.setChain; split <;> rfl
@[simp] theorem State.setChain_dma (c : Nat) (f : ChainUnit → ChainUnit) (s : State) : (s.setChain c f).dma = s.dma := by unfold State.setChain; split <;> rfl
@[simp] theorem State.setChain_host (c : Nat) (f : ChainUnit → ChainUnit) (s : State) : (s.setChain c f).host = s.host := by unfold State.setChain; split <;> rfl
@[simp] theorem State.setChain_ev (c : Nat) (f : ChainUnit → ChainUnit) (s : State) : (s.setChain c f).ev = s.ev := by unfold State.setChain; split <;> rfl
@[simp] theorem State.setChain_sec (c : Nat) (f : ChainUnit → ChainUnit) (s : State) : (s.setChain c f).sec = s.sec := by unfold State.setChain; split <;> rfl
@[simp] theorem State.setChain_cpu (c : Nat) (f : ChainUnit → ChainUnit) (s : State) : (s.setChain c f).cpu = s.cpu := by unfold State.setChain; split <;> rfl
@[simp] theorem State.setChain_diag (c : Nat) (f : ChainUnit → ChainUnit) (s : State) : (s.setChain c f).diag = s.diag := by unfold State.setChain; split <;> rfl
@[simp] theorem State.setChain_fresh (c : Nat) (f : ChainUnit → ChainUnit) (s : State) : (s.setChain c f).fresh = s.fresh := by unfold State.setChain; split <;> rfl
@[simp] theorem State.setChain_pending (c : Nat) (f : ChainUnit → ChainUnit) (s : State) : (s.setChain c f).pending = s.pending := by unfold State.setChain; split <;> rfl

/-! ### `State.setAx` changes `axes`. -/

@[simp] theorem State.setAx_now (x : Nat) (f : Axis → Axis) (s : State) : (s.setAx x f).now = s.now := rfl
@[simp] theorem State.setAx_board (x : Nat) (f : Axis → Axis) (s : State) : (s.setAx x f).board = s.board := rfl
@[simp] theorem State.setAx_mode (x : Nat) (f : Axis → Axis) (s : State) : (s.setAx x f).mode = s.mode := rfl
@[simp] theorem State.setAx_rst (x : Nat) (f : Axis → Axis) (s : State) : (s.setAx x f).rst = s.rst := rfl
@[simp] theorem State.setAx_clk (x : Nat) (f : Axis → Axis) (s : State) : (s.setAx x f).clk = s.clk := rfl
@[simp] theorem State.setAx_ports (x : Nat) (f : Axis → Axis) (s : State) : (s.setAx x f).ports = s.ports := rfl
@[simp] theorem State.setAx_lt (x : Nat) (f : Axis → Axis) (s : State) : (s.setAx x f).lt = s.lt := rfl
@[simp] theorem State.setAx_uzs (x : Nat) (f : Axis → Axis) (s : State) : (s.setAx x f).uzs = s.uzs := rfl
@[simp] theorem State.setAx_ring (x : Nat) (f : Axis → Axis) (s : State) : (s.setAx x f).ring = s.ring := rfl
@[simp] theorem State.setAx_banks (x : Nat) (f : Axis → Axis) (s : State) : (s.setAx x f).banks = s.banks := rfl
@[simp] theorem State.setAx_active (x : Nat) (f : Axis → Axis) (s : State) : (s.setAx x f).active = s.active := rfl
@[simp] theorem State.setAx_shadow (x : Nat) (f : Axis → Axis) (s : State) : (s.setAx x f).shadow = s.shadow := rfl
@[simp] theorem State.setAx_staged (x : Nat) (f : Axis → Axis) (s : State) : (s.setAx x f).staged = s.staged := rfl
@[simp] theorem State.setAx_lines (x : Nat) (f : Axis → Axis) (s : State) : (s.setAx x f).lines = s.lines := rfl
@[simp] theorem State.setAx_shd (x : Nat) (f : Axis → Axis) (s : State) : (s.setAx x f).shd = s.shd := rfl
@[simp] theorem State.setAx_aln (x : Nat) (f : Axis → Axis) (s : State) : (s.setAx x f).aln = s.aln := rfl
@[simp] theorem State.setAx_sv (x : Nat) (f : Axis → Axis) (s : State) : (s.setAx x f).sv = s.sv := rfl
@[simp] theorem State.setAx_skl (x : Nat) (f : Axis → Axis) (s : State) : (s.setAx x f).skl = s.skl := rfl
@[simp] theorem State.setAx_ilm (x : Nat) (f : Axis → Axis) (s : State) : (s.setAx x f).ilm = s.ilm := rfl
@[simp] theorem State.setAx_madc (x : Nat) (f : Axis → Axis) (s : State) : (s.setAx x f).madc = s.madc := rfl
@[simp] theorem State.setAx_therm (x : Nat) (f : Axis → Axis) (s : State) : (s.setAx x f).therm = s.therm := rfl
@[simp] theorem State.setAx_simmer (x : Nat) (f : Axis → Axis) (s : State) : (s.setAx x f).simmer = s.simmer := rfl
@[simp] theorem State.setAx_dram (x : Nat) (f : Axis → Axis) (s : State) : (s.setAx x f).dram = s.dram := rfl
@[simp] theorem State.setAx_pantry (x : Nat) (f : Axis → Axis) (s : State) : (s.setAx x f).pantry = s.pantry := rfl
@[simp] theorem State.setAx_dma (x : Nat) (f : Axis → Axis) (s : State) : (s.setAx x f).dma = s.dma := rfl
@[simp] theorem State.setAx_host (x : Nat) (f : Axis → Axis) (s : State) : (s.setAx x f).host = s.host := rfl
@[simp] theorem State.setAx_ev (x : Nat) (f : Axis → Axis) (s : State) : (s.setAx x f).ev = s.ev := rfl
@[simp] theorem State.setAx_sec (x : Nat) (f : Axis → Axis) (s : State) : (s.setAx x f).sec = s.sec := rfl
@[simp] theorem State.setAx_cpu (x : Nat) (f : Axis → Axis) (s : State) : (s.setAx x f).cpu = s.cpu := rfl
@[simp] theorem State.setAx_diag (x : Nat) (f : Axis → Axis) (s : State) : (s.setAx x f).diag = s.diag := rfl
@[simp] theorem State.setAx_fresh (x : Nat) (f : Axis → Axis) (s : State) : (s.setAx x f).fresh = s.fresh := rfl
@[simp] theorem State.setAx_pending (x : Nat) (f : Axis → Axis) (s : State) : (s.setAx x f).pending = s.pending := rfl

/-! ### `State.setMadc` changes `madc`. -/

@[simp] theorem State.setMadc_now (f : Madc → Madc) (s : State) : (s.setMadc f).now = s.now := rfl
@[simp] theorem State.setMadc_board (f : Madc → Madc) (s : State) : (s.setMadc f).board = s.board := rfl
@[simp] theorem State.setMadc_mode (f : Madc → Madc) (s : State) : (s.setMadc f).mode = s.mode := rfl
@[simp] theorem State.setMadc_rst (f : Madc → Madc) (s : State) : (s.setMadc f).rst = s.rst := rfl
@[simp] theorem State.setMadc_clk (f : Madc → Madc) (s : State) : (s.setMadc f).clk = s.clk := rfl
@[simp] theorem State.setMadc_ports (f : Madc → Madc) (s : State) : (s.setMadc f).ports = s.ports := rfl
@[simp] theorem State.setMadc_lt (f : Madc → Madc) (s : State) : (s.setMadc f).lt = s.lt := rfl
@[simp] theorem State.setMadc_uzs (f : Madc → Madc) (s : State) : (s.setMadc f).uzs = s.uzs := rfl
@[simp] theorem State.setMadc_ring (f : Madc → Madc) (s : State) : (s.setMadc f).ring = s.ring := rfl
@[simp] theorem State.setMadc_banks (f : Madc → Madc) (s : State) : (s.setMadc f).banks = s.banks := rfl
@[simp] theorem State.setMadc_active (f : Madc → Madc) (s : State) : (s.setMadc f).active = s.active := rfl
@[simp] theorem State.setMadc_shadow (f : Madc → Madc) (s : State) : (s.setMadc f).shadow = s.shadow := rfl
@[simp] theorem State.setMadc_staged (f : Madc → Madc) (s : State) : (s.setMadc f).staged = s.staged := rfl
@[simp] theorem State.setMadc_lines (f : Madc → Madc) (s : State) : (s.setMadc f).lines = s.lines := rfl
@[simp] theorem State.setMadc_shd (f : Madc → Madc) (s : State) : (s.setMadc f).shd = s.shd := rfl
@[simp] theorem State.setMadc_aln (f : Madc → Madc) (s : State) : (s.setMadc f).aln = s.aln := rfl
@[simp] theorem State.setMadc_sv (f : Madc → Madc) (s : State) : (s.setMadc f).sv = s.sv := rfl
@[simp] theorem State.setMadc_skl (f : Madc → Madc) (s : State) : (s.setMadc f).skl = s.skl := rfl
@[simp] theorem State.setMadc_ilm (f : Madc → Madc) (s : State) : (s.setMadc f).ilm = s.ilm := rfl
@[simp] theorem State.setMadc_axes (f : Madc → Madc) (s : State) : (s.setMadc f).axes = s.axes := rfl
@[simp] theorem State.setMadc_therm (f : Madc → Madc) (s : State) : (s.setMadc f).therm = s.therm := rfl
@[simp] theorem State.setMadc_simmer (f : Madc → Madc) (s : State) : (s.setMadc f).simmer = s.simmer := rfl
@[simp] theorem State.setMadc_dram (f : Madc → Madc) (s : State) : (s.setMadc f).dram = s.dram := rfl
@[simp] theorem State.setMadc_pantry (f : Madc → Madc) (s : State) : (s.setMadc f).pantry = s.pantry := rfl
@[simp] theorem State.setMadc_dma (f : Madc → Madc) (s : State) : (s.setMadc f).dma = s.dma := rfl
@[simp] theorem State.setMadc_host (f : Madc → Madc) (s : State) : (s.setMadc f).host = s.host := rfl
@[simp] theorem State.setMadc_ev (f : Madc → Madc) (s : State) : (s.setMadc f).ev = s.ev := rfl
@[simp] theorem State.setMadc_sec (f : Madc → Madc) (s : State) : (s.setMadc f).sec = s.sec := rfl
@[simp] theorem State.setMadc_cpu (f : Madc → Madc) (s : State) : (s.setMadc f).cpu = s.cpu := rfl
@[simp] theorem State.setMadc_diag (f : Madc → Madc) (s : State) : (s.setMadc f).diag = s.diag := rfl
@[simp] theorem State.setMadc_fresh (f : Madc → Madc) (s : State) : (s.setMadc f).fresh = s.fresh := rfl
@[simp] theorem State.setMadc_pending (f : Madc → Madc) (s : State) : (s.setMadc f).pending = s.pending := rfl

/-! ### `State.setConv` changes `madc`. -/

@[simp] theorem State.setConv_now (c : Nat) (f : Conv → Conv) (s : State) : (s.setConv c f).now = s.now := by unfold State.setConv; split <;> rfl
@[simp] theorem State.setConv_board (c : Nat) (f : Conv → Conv) (s : State) : (s.setConv c f).board = s.board := by unfold State.setConv; split <;> rfl
@[simp] theorem State.setConv_mode (c : Nat) (f : Conv → Conv) (s : State) : (s.setConv c f).mode = s.mode := by unfold State.setConv; split <;> rfl
@[simp] theorem State.setConv_rst (c : Nat) (f : Conv → Conv) (s : State) : (s.setConv c f).rst = s.rst := by unfold State.setConv; split <;> rfl
@[simp] theorem State.setConv_clk (c : Nat) (f : Conv → Conv) (s : State) : (s.setConv c f).clk = s.clk := by unfold State.setConv; split <;> rfl
@[simp] theorem State.setConv_ports (c : Nat) (f : Conv → Conv) (s : State) : (s.setConv c f).ports = s.ports := by unfold State.setConv; split <;> rfl
@[simp] theorem State.setConv_lt (c : Nat) (f : Conv → Conv) (s : State) : (s.setConv c f).lt = s.lt := by unfold State.setConv; split <;> rfl
@[simp] theorem State.setConv_uzs (c : Nat) (f : Conv → Conv) (s : State) : (s.setConv c f).uzs = s.uzs := by unfold State.setConv; split <;> rfl
@[simp] theorem State.setConv_ring (c : Nat) (f : Conv → Conv) (s : State) : (s.setConv c f).ring = s.ring := by unfold State.setConv; split <;> rfl
@[simp] theorem State.setConv_banks (c : Nat) (f : Conv → Conv) (s : State) : (s.setConv c f).banks = s.banks := by unfold State.setConv; split <;> rfl
@[simp] theorem State.setConv_active (c : Nat) (f : Conv → Conv) (s : State) : (s.setConv c f).active = s.active := by unfold State.setConv; split <;> rfl
@[simp] theorem State.setConv_shadow (c : Nat) (f : Conv → Conv) (s : State) : (s.setConv c f).shadow = s.shadow := by unfold State.setConv; split <;> rfl
@[simp] theorem State.setConv_staged (c : Nat) (f : Conv → Conv) (s : State) : (s.setConv c f).staged = s.staged := by unfold State.setConv; split <;> rfl
@[simp] theorem State.setConv_lines (c : Nat) (f : Conv → Conv) (s : State) : (s.setConv c f).lines = s.lines := by unfold State.setConv; split <;> rfl
@[simp] theorem State.setConv_shd (c : Nat) (f : Conv → Conv) (s : State) : (s.setConv c f).shd = s.shd := by unfold State.setConv; split <;> rfl
@[simp] theorem State.setConv_aln (c : Nat) (f : Conv → Conv) (s : State) : (s.setConv c f).aln = s.aln := by unfold State.setConv; split <;> rfl
@[simp] theorem State.setConv_sv (c : Nat) (f : Conv → Conv) (s : State) : (s.setConv c f).sv = s.sv := by unfold State.setConv; split <;> rfl
@[simp] theorem State.setConv_skl (c : Nat) (f : Conv → Conv) (s : State) : (s.setConv c f).skl = s.skl := by unfold State.setConv; split <;> rfl
@[simp] theorem State.setConv_ilm (c : Nat) (f : Conv → Conv) (s : State) : (s.setConv c f).ilm = s.ilm := by unfold State.setConv; split <;> rfl
@[simp] theorem State.setConv_axes (c : Nat) (f : Conv → Conv) (s : State) : (s.setConv c f).axes = s.axes := by unfold State.setConv; split <;> rfl
@[simp] theorem State.setConv_therm (c : Nat) (f : Conv → Conv) (s : State) : (s.setConv c f).therm = s.therm := by unfold State.setConv; split <;> rfl
@[simp] theorem State.setConv_simmer (c : Nat) (f : Conv → Conv) (s : State) : (s.setConv c f).simmer = s.simmer := by unfold State.setConv; split <;> rfl
@[simp] theorem State.setConv_dram (c : Nat) (f : Conv → Conv) (s : State) : (s.setConv c f).dram = s.dram := by unfold State.setConv; split <;> rfl
@[simp] theorem State.setConv_pantry (c : Nat) (f : Conv → Conv) (s : State) : (s.setConv c f).pantry = s.pantry := by unfold State.setConv; split <;> rfl
@[simp] theorem State.setConv_dma (c : Nat) (f : Conv → Conv) (s : State) : (s.setConv c f).dma = s.dma := by unfold State.setConv; split <;> rfl
@[simp] theorem State.setConv_host (c : Nat) (f : Conv → Conv) (s : State) : (s.setConv c f).host = s.host := by unfold State.setConv; split <;> rfl
@[simp] theorem State.setConv_ev (c : Nat) (f : Conv → Conv) (s : State) : (s.setConv c f).ev = s.ev := by unfold State.setConv; split <;> rfl
@[simp] theorem State.setConv_sec (c : Nat) (f : Conv → Conv) (s : State) : (s.setConv c f).sec = s.sec := by unfold State.setConv; split <;> rfl
@[simp] theorem State.setConv_cpu (c : Nat) (f : Conv → Conv) (s : State) : (s.setConv c f).cpu = s.cpu := by unfold State.setConv; split <;> rfl
@[simp] theorem State.setConv_diag (c : Nat) (f : Conv → Conv) (s : State) : (s.setConv c f).diag = s.diag := by unfold State.setConv; split <;> rfl
@[simp] theorem State.setConv_fresh (c : Nat) (f : Conv → Conv) (s : State) : (s.setConv c f).fresh = s.fresh := by unfold State.setConv; split <;> rfl
@[simp] theorem State.setConv_pending (c : Nat) (f : Conv → Conv) (s : State) : (s.setConv c f).pending = s.pending := by unfold State.setConv; split <;> rfl

/-! ### `State.setSensor` changes `therm`. -/

@[simp] theorem State.setSensor_now (i : Nat) (f : Sensor → Sensor) (s : State) : (s.setSensor i f).now = s.now := rfl
@[simp] theorem State.setSensor_board (i : Nat) (f : Sensor → Sensor) (s : State) : (s.setSensor i f).board = s.board := rfl
@[simp] theorem State.setSensor_mode (i : Nat) (f : Sensor → Sensor) (s : State) : (s.setSensor i f).mode = s.mode := rfl
@[simp] theorem State.setSensor_rst (i : Nat) (f : Sensor → Sensor) (s : State) : (s.setSensor i f).rst = s.rst := rfl
@[simp] theorem State.setSensor_clk (i : Nat) (f : Sensor → Sensor) (s : State) : (s.setSensor i f).clk = s.clk := rfl
@[simp] theorem State.setSensor_ports (i : Nat) (f : Sensor → Sensor) (s : State) : (s.setSensor i f).ports = s.ports := rfl
@[simp] theorem State.setSensor_lt (i : Nat) (f : Sensor → Sensor) (s : State) : (s.setSensor i f).lt = s.lt := rfl
@[simp] theorem State.setSensor_uzs (i : Nat) (f : Sensor → Sensor) (s : State) : (s.setSensor i f).uzs = s.uzs := rfl
@[simp] theorem State.setSensor_ring (i : Nat) (f : Sensor → Sensor) (s : State) : (s.setSensor i f).ring = s.ring := rfl
@[simp] theorem State.setSensor_banks (i : Nat) (f : Sensor → Sensor) (s : State) : (s.setSensor i f).banks = s.banks := rfl
@[simp] theorem State.setSensor_active (i : Nat) (f : Sensor → Sensor) (s : State) : (s.setSensor i f).active = s.active := rfl
@[simp] theorem State.setSensor_shadow (i : Nat) (f : Sensor → Sensor) (s : State) : (s.setSensor i f).shadow = s.shadow := rfl
@[simp] theorem State.setSensor_staged (i : Nat) (f : Sensor → Sensor) (s : State) : (s.setSensor i f).staged = s.staged := rfl
@[simp] theorem State.setSensor_lines (i : Nat) (f : Sensor → Sensor) (s : State) : (s.setSensor i f).lines = s.lines := rfl
@[simp] theorem State.setSensor_shd (i : Nat) (f : Sensor → Sensor) (s : State) : (s.setSensor i f).shd = s.shd := rfl
@[simp] theorem State.setSensor_aln (i : Nat) (f : Sensor → Sensor) (s : State) : (s.setSensor i f).aln = s.aln := rfl
@[simp] theorem State.setSensor_sv (i : Nat) (f : Sensor → Sensor) (s : State) : (s.setSensor i f).sv = s.sv := rfl
@[simp] theorem State.setSensor_skl (i : Nat) (f : Sensor → Sensor) (s : State) : (s.setSensor i f).skl = s.skl := rfl
@[simp] theorem State.setSensor_ilm (i : Nat) (f : Sensor → Sensor) (s : State) : (s.setSensor i f).ilm = s.ilm := rfl
@[simp] theorem State.setSensor_axes (i : Nat) (f : Sensor → Sensor) (s : State) : (s.setSensor i f).axes = s.axes := rfl
@[simp] theorem State.setSensor_madc (i : Nat) (f : Sensor → Sensor) (s : State) : (s.setSensor i f).madc = s.madc := rfl
@[simp] theorem State.setSensor_simmer (i : Nat) (f : Sensor → Sensor) (s : State) : (s.setSensor i f).simmer = s.simmer := rfl
@[simp] theorem State.setSensor_dram (i : Nat) (f : Sensor → Sensor) (s : State) : (s.setSensor i f).dram = s.dram := rfl
@[simp] theorem State.setSensor_pantry (i : Nat) (f : Sensor → Sensor) (s : State) : (s.setSensor i f).pantry = s.pantry := rfl
@[simp] theorem State.setSensor_dma (i : Nat) (f : Sensor → Sensor) (s : State) : (s.setSensor i f).dma = s.dma := rfl
@[simp] theorem State.setSensor_host (i : Nat) (f : Sensor → Sensor) (s : State) : (s.setSensor i f).host = s.host := rfl
@[simp] theorem State.setSensor_ev (i : Nat) (f : Sensor → Sensor) (s : State) : (s.setSensor i f).ev = s.ev := rfl
@[simp] theorem State.setSensor_sec (i : Nat) (f : Sensor → Sensor) (s : State) : (s.setSensor i f).sec = s.sec := rfl
@[simp] theorem State.setSensor_cpu (i : Nat) (f : Sensor → Sensor) (s : State) : (s.setSensor i f).cpu = s.cpu := rfl
@[simp] theorem State.setSensor_diag (i : Nat) (f : Sensor → Sensor) (s : State) : (s.setSensor i f).diag = s.diag := rfl
@[simp] theorem State.setSensor_fresh (i : Nat) (f : Sensor → Sensor) (s : State) : (s.setSensor i f).fresh = s.fresh := rfl
@[simp] theorem State.setSensor_pending (i : Nat) (f : Sensor → Sensor) (s : State) : (s.setSensor i f).pending = s.pending := rfl

/-! ### `State.setSim` changes `simmer`. -/

@[simp] theorem State.setSim_now (f : Simmer → Simmer) (s : State) : (s.setSim f).now = s.now := rfl
@[simp] theorem State.setSim_board (f : Simmer → Simmer) (s : State) : (s.setSim f).board = s.board := rfl
@[simp] theorem State.setSim_mode (f : Simmer → Simmer) (s : State) : (s.setSim f).mode = s.mode := rfl
@[simp] theorem State.setSim_rst (f : Simmer → Simmer) (s : State) : (s.setSim f).rst = s.rst := rfl
@[simp] theorem State.setSim_clk (f : Simmer → Simmer) (s : State) : (s.setSim f).clk = s.clk := rfl
@[simp] theorem State.setSim_ports (f : Simmer → Simmer) (s : State) : (s.setSim f).ports = s.ports := rfl
@[simp] theorem State.setSim_lt (f : Simmer → Simmer) (s : State) : (s.setSim f).lt = s.lt := rfl
@[simp] theorem State.setSim_uzs (f : Simmer → Simmer) (s : State) : (s.setSim f).uzs = s.uzs := rfl
@[simp] theorem State.setSim_ring (f : Simmer → Simmer) (s : State) : (s.setSim f).ring = s.ring := rfl
@[simp] theorem State.setSim_banks (f : Simmer → Simmer) (s : State) : (s.setSim f).banks = s.banks := rfl
@[simp] theorem State.setSim_active (f : Simmer → Simmer) (s : State) : (s.setSim f).active = s.active := rfl
@[simp] theorem State.setSim_shadow (f : Simmer → Simmer) (s : State) : (s.setSim f).shadow = s.shadow := rfl
@[simp] theorem State.setSim_staged (f : Simmer → Simmer) (s : State) : (s.setSim f).staged = s.staged := rfl
@[simp] theorem State.setSim_lines (f : Simmer → Simmer) (s : State) : (s.setSim f).lines = s.lines := rfl
@[simp] theorem State.setSim_shd (f : Simmer → Simmer) (s : State) : (s.setSim f).shd = s.shd := rfl
@[simp] theorem State.setSim_aln (f : Simmer → Simmer) (s : State) : (s.setSim f).aln = s.aln := rfl
@[simp] theorem State.setSim_sv (f : Simmer → Simmer) (s : State) : (s.setSim f).sv = s.sv := rfl
@[simp] theorem State.setSim_skl (f : Simmer → Simmer) (s : State) : (s.setSim f).skl = s.skl := rfl
@[simp] theorem State.setSim_ilm (f : Simmer → Simmer) (s : State) : (s.setSim f).ilm = s.ilm := rfl
@[simp] theorem State.setSim_axes (f : Simmer → Simmer) (s : State) : (s.setSim f).axes = s.axes := rfl
@[simp] theorem State.setSim_madc (f : Simmer → Simmer) (s : State) : (s.setSim f).madc = s.madc := rfl
@[simp] theorem State.setSim_therm (f : Simmer → Simmer) (s : State) : (s.setSim f).therm = s.therm := rfl
@[simp] theorem State.setSim_dram (f : Simmer → Simmer) (s : State) : (s.setSim f).dram = s.dram := rfl
@[simp] theorem State.setSim_pantry (f : Simmer → Simmer) (s : State) : (s.setSim f).pantry = s.pantry := rfl
@[simp] theorem State.setSim_dma (f : Simmer → Simmer) (s : State) : (s.setSim f).dma = s.dma := rfl
@[simp] theorem State.setSim_host (f : Simmer → Simmer) (s : State) : (s.setSim f).host = s.host := rfl
@[simp] theorem State.setSim_ev (f : Simmer → Simmer) (s : State) : (s.setSim f).ev = s.ev := rfl
@[simp] theorem State.setSim_sec (f : Simmer → Simmer) (s : State) : (s.setSim f).sec = s.sec := rfl
@[simp] theorem State.setSim_cpu (f : Simmer → Simmer) (s : State) : (s.setSim f).cpu = s.cpu := rfl
@[simp] theorem State.setSim_diag (f : Simmer → Simmer) (s : State) : (s.setSim f).diag = s.diag := rfl
@[simp] theorem State.setSim_fresh (f : Simmer → Simmer) (s : State) : (s.setSim f).fresh = s.fresh := rfl
@[simp] theorem State.setSim_pending (f : Simmer → Simmer) (s : State) : (s.setSim f).pending = s.pending := rfl

/-! ### `State.setDch` changes `dram`. -/

@[simp] theorem State.setDch_now (c : Nat) (f : DramChan → DramChan) (s : State) : (s.setDch c f).now = s.now := rfl
@[simp] theorem State.setDch_board (c : Nat) (f : DramChan → DramChan) (s : State) : (s.setDch c f).board = s.board := rfl
@[simp] theorem State.setDch_mode (c : Nat) (f : DramChan → DramChan) (s : State) : (s.setDch c f).mode = s.mode := rfl
@[simp] theorem State.setDch_rst (c : Nat) (f : DramChan → DramChan) (s : State) : (s.setDch c f).rst = s.rst := rfl
@[simp] theorem State.setDch_clk (c : Nat) (f : DramChan → DramChan) (s : State) : (s.setDch c f).clk = s.clk := rfl
@[simp] theorem State.setDch_ports (c : Nat) (f : DramChan → DramChan) (s : State) : (s.setDch c f).ports = s.ports := rfl
@[simp] theorem State.setDch_lt (c : Nat) (f : DramChan → DramChan) (s : State) : (s.setDch c f).lt = s.lt := rfl
@[simp] theorem State.setDch_uzs (c : Nat) (f : DramChan → DramChan) (s : State) : (s.setDch c f).uzs = s.uzs := rfl
@[simp] theorem State.setDch_ring (c : Nat) (f : DramChan → DramChan) (s : State) : (s.setDch c f).ring = s.ring := rfl
@[simp] theorem State.setDch_banks (c : Nat) (f : DramChan → DramChan) (s : State) : (s.setDch c f).banks = s.banks := rfl
@[simp] theorem State.setDch_active (c : Nat) (f : DramChan → DramChan) (s : State) : (s.setDch c f).active = s.active := rfl
@[simp] theorem State.setDch_shadow (c : Nat) (f : DramChan → DramChan) (s : State) : (s.setDch c f).shadow = s.shadow := rfl
@[simp] theorem State.setDch_staged (c : Nat) (f : DramChan → DramChan) (s : State) : (s.setDch c f).staged = s.staged := rfl
@[simp] theorem State.setDch_lines (c : Nat) (f : DramChan → DramChan) (s : State) : (s.setDch c f).lines = s.lines := rfl
@[simp] theorem State.setDch_shd (c : Nat) (f : DramChan → DramChan) (s : State) : (s.setDch c f).shd = s.shd := rfl
@[simp] theorem State.setDch_aln (c : Nat) (f : DramChan → DramChan) (s : State) : (s.setDch c f).aln = s.aln := rfl
@[simp] theorem State.setDch_sv (c : Nat) (f : DramChan → DramChan) (s : State) : (s.setDch c f).sv = s.sv := rfl
@[simp] theorem State.setDch_skl (c : Nat) (f : DramChan → DramChan) (s : State) : (s.setDch c f).skl = s.skl := rfl
@[simp] theorem State.setDch_ilm (c : Nat) (f : DramChan → DramChan) (s : State) : (s.setDch c f).ilm = s.ilm := rfl
@[simp] theorem State.setDch_axes (c : Nat) (f : DramChan → DramChan) (s : State) : (s.setDch c f).axes = s.axes := rfl
@[simp] theorem State.setDch_madc (c : Nat) (f : DramChan → DramChan) (s : State) : (s.setDch c f).madc = s.madc := rfl
@[simp] theorem State.setDch_therm (c : Nat) (f : DramChan → DramChan) (s : State) : (s.setDch c f).therm = s.therm := rfl
@[simp] theorem State.setDch_simmer (c : Nat) (f : DramChan → DramChan) (s : State) : (s.setDch c f).simmer = s.simmer := rfl
@[simp] theorem State.setDch_pantry (c : Nat) (f : DramChan → DramChan) (s : State) : (s.setDch c f).pantry = s.pantry := rfl
@[simp] theorem State.setDch_dma (c : Nat) (f : DramChan → DramChan) (s : State) : (s.setDch c f).dma = s.dma := rfl
@[simp] theorem State.setDch_host (c : Nat) (f : DramChan → DramChan) (s : State) : (s.setDch c f).host = s.host := rfl
@[simp] theorem State.setDch_ev (c : Nat) (f : DramChan → DramChan) (s : State) : (s.setDch c f).ev = s.ev := rfl
@[simp] theorem State.setDch_sec (c : Nat) (f : DramChan → DramChan) (s : State) : (s.setDch c f).sec = s.sec := rfl
@[simp] theorem State.setDch_cpu (c : Nat) (f : DramChan → DramChan) (s : State) : (s.setDch c f).cpu = s.cpu := rfl
@[simp] theorem State.setDch_diag (c : Nat) (f : DramChan → DramChan) (s : State) : (s.setDch c f).diag = s.diag := rfl
@[simp] theorem State.setDch_fresh (c : Nat) (f : DramChan → DramChan) (s : State) : (s.setDch c f).fresh = s.fresh := rfl
@[simp] theorem State.setDch_pending (c : Nat) (f : DramChan → DramChan) (s : State) : (s.setDch c f).pending = s.pending := rfl

/-! ### `State.setWin` changes `dram`. -/

@[simp] theorem State.setWin_now (w : Nat) (x : Option Window) (s : State) : (s.setWin w x).now = s.now := rfl
@[simp] theorem State.setWin_board (w : Nat) (x : Option Window) (s : State) : (s.setWin w x).board = s.board := rfl
@[simp] theorem State.setWin_mode (w : Nat) (x : Option Window) (s : State) : (s.setWin w x).mode = s.mode := rfl
@[simp] theorem State.setWin_rst (w : Nat) (x : Option Window) (s : State) : (s.setWin w x).rst = s.rst := rfl
@[simp] theorem State.setWin_clk (w : Nat) (x : Option Window) (s : State) : (s.setWin w x).clk = s.clk := rfl
@[simp] theorem State.setWin_ports (w : Nat) (x : Option Window) (s : State) : (s.setWin w x).ports = s.ports := rfl
@[simp] theorem State.setWin_lt (w : Nat) (x : Option Window) (s : State) : (s.setWin w x).lt = s.lt := rfl
@[simp] theorem State.setWin_uzs (w : Nat) (x : Option Window) (s : State) : (s.setWin w x).uzs = s.uzs := rfl
@[simp] theorem State.setWin_ring (w : Nat) (x : Option Window) (s : State) : (s.setWin w x).ring = s.ring := rfl
@[simp] theorem State.setWin_banks (w : Nat) (x : Option Window) (s : State) : (s.setWin w x).banks = s.banks := rfl
@[simp] theorem State.setWin_active (w : Nat) (x : Option Window) (s : State) : (s.setWin w x).active = s.active := rfl
@[simp] theorem State.setWin_shadow (w : Nat) (x : Option Window) (s : State) : (s.setWin w x).shadow = s.shadow := rfl
@[simp] theorem State.setWin_staged (w : Nat) (x : Option Window) (s : State) : (s.setWin w x).staged = s.staged := rfl
@[simp] theorem State.setWin_lines (w : Nat) (x : Option Window) (s : State) : (s.setWin w x).lines = s.lines := rfl
@[simp] theorem State.setWin_shd (w : Nat) (x : Option Window) (s : State) : (s.setWin w x).shd = s.shd := rfl
@[simp] theorem State.setWin_aln (w : Nat) (x : Option Window) (s : State) : (s.setWin w x).aln = s.aln := rfl
@[simp] theorem State.setWin_sv (w : Nat) (x : Option Window) (s : State) : (s.setWin w x).sv = s.sv := rfl
@[simp] theorem State.setWin_skl (w : Nat) (x : Option Window) (s : State) : (s.setWin w x).skl = s.skl := rfl
@[simp] theorem State.setWin_ilm (w : Nat) (x : Option Window) (s : State) : (s.setWin w x).ilm = s.ilm := rfl
@[simp] theorem State.setWin_axes (w : Nat) (x : Option Window) (s : State) : (s.setWin w x).axes = s.axes := rfl
@[simp] theorem State.setWin_madc (w : Nat) (x : Option Window) (s : State) : (s.setWin w x).madc = s.madc := rfl
@[simp] theorem State.setWin_therm (w : Nat) (x : Option Window) (s : State) : (s.setWin w x).therm = s.therm := rfl
@[simp] theorem State.setWin_simmer (w : Nat) (x : Option Window) (s : State) : (s.setWin w x).simmer = s.simmer := rfl
@[simp] theorem State.setWin_pantry (w : Nat) (x : Option Window) (s : State) : (s.setWin w x).pantry = s.pantry := rfl
@[simp] theorem State.setWin_dma (w : Nat) (x : Option Window) (s : State) : (s.setWin w x).dma = s.dma := rfl
@[simp] theorem State.setWin_host (w : Nat) (x : Option Window) (s : State) : (s.setWin w x).host = s.host := rfl
@[simp] theorem State.setWin_ev (w : Nat) (x : Option Window) (s : State) : (s.setWin w x).ev = s.ev := rfl
@[simp] theorem State.setWin_sec (w : Nat) (x : Option Window) (s : State) : (s.setWin w x).sec = s.sec := rfl
@[simp] theorem State.setWin_cpu (w : Nat) (x : Option Window) (s : State) : (s.setWin w x).cpu = s.cpu := rfl
@[simp] theorem State.setWin_diag (w : Nat) (x : Option Window) (s : State) : (s.setWin w x).diag = s.diag := rfl
@[simp] theorem State.setWin_fresh (w : Nat) (x : Option Window) (s : State) : (s.setWin w x).fresh = s.fresh := rfl
@[simp] theorem State.setWin_pending (w : Nat) (x : Option Window) (s : State) : (s.setWin w x).pending = s.pending := rfl

/-! ### `State.setQ` changes `pantry`. -/

@[simp] theorem State.setQ_now (n : Nat) (f : Queue → Queue) (s : State) : (s.setQ n f).now = s.now := rfl
@[simp] theorem State.setQ_board (n : Nat) (f : Queue → Queue) (s : State) : (s.setQ n f).board = s.board := rfl
@[simp] theorem State.setQ_mode (n : Nat) (f : Queue → Queue) (s : State) : (s.setQ n f).mode = s.mode := rfl
@[simp] theorem State.setQ_rst (n : Nat) (f : Queue → Queue) (s : State) : (s.setQ n f).rst = s.rst := rfl
@[simp] theorem State.setQ_clk (n : Nat) (f : Queue → Queue) (s : State) : (s.setQ n f).clk = s.clk := rfl
@[simp] theorem State.setQ_ports (n : Nat) (f : Queue → Queue) (s : State) : (s.setQ n f).ports = s.ports := rfl
@[simp] theorem State.setQ_lt (n : Nat) (f : Queue → Queue) (s : State) : (s.setQ n f).lt = s.lt := rfl
@[simp] theorem State.setQ_uzs (n : Nat) (f : Queue → Queue) (s : State) : (s.setQ n f).uzs = s.uzs := rfl
@[simp] theorem State.setQ_ring (n : Nat) (f : Queue → Queue) (s : State) : (s.setQ n f).ring = s.ring := rfl
@[simp] theorem State.setQ_banks (n : Nat) (f : Queue → Queue) (s : State) : (s.setQ n f).banks = s.banks := rfl
@[simp] theorem State.setQ_active (n : Nat) (f : Queue → Queue) (s : State) : (s.setQ n f).active = s.active := rfl
@[simp] theorem State.setQ_shadow (n : Nat) (f : Queue → Queue) (s : State) : (s.setQ n f).shadow = s.shadow := rfl
@[simp] theorem State.setQ_staged (n : Nat) (f : Queue → Queue) (s : State) : (s.setQ n f).staged = s.staged := rfl
@[simp] theorem State.setQ_lines (n : Nat) (f : Queue → Queue) (s : State) : (s.setQ n f).lines = s.lines := rfl
@[simp] theorem State.setQ_shd (n : Nat) (f : Queue → Queue) (s : State) : (s.setQ n f).shd = s.shd := rfl
@[simp] theorem State.setQ_aln (n : Nat) (f : Queue → Queue) (s : State) : (s.setQ n f).aln = s.aln := rfl
@[simp] theorem State.setQ_sv (n : Nat) (f : Queue → Queue) (s : State) : (s.setQ n f).sv = s.sv := rfl
@[simp] theorem State.setQ_skl (n : Nat) (f : Queue → Queue) (s : State) : (s.setQ n f).skl = s.skl := rfl
@[simp] theorem State.setQ_ilm (n : Nat) (f : Queue → Queue) (s : State) : (s.setQ n f).ilm = s.ilm := rfl
@[simp] theorem State.setQ_axes (n : Nat) (f : Queue → Queue) (s : State) : (s.setQ n f).axes = s.axes := rfl
@[simp] theorem State.setQ_madc (n : Nat) (f : Queue → Queue) (s : State) : (s.setQ n f).madc = s.madc := rfl
@[simp] theorem State.setQ_therm (n : Nat) (f : Queue → Queue) (s : State) : (s.setQ n f).therm = s.therm := rfl
@[simp] theorem State.setQ_simmer (n : Nat) (f : Queue → Queue) (s : State) : (s.setQ n f).simmer = s.simmer := rfl
@[simp] theorem State.setQ_dram (n : Nat) (f : Queue → Queue) (s : State) : (s.setQ n f).dram = s.dram := rfl
@[simp] theorem State.setQ_dma (n : Nat) (f : Queue → Queue) (s : State) : (s.setQ n f).dma = s.dma := rfl
@[simp] theorem State.setQ_host (n : Nat) (f : Queue → Queue) (s : State) : (s.setQ n f).host = s.host := rfl
@[simp] theorem State.setQ_ev (n : Nat) (f : Queue → Queue) (s : State) : (s.setQ n f).ev = s.ev := rfl
@[simp] theorem State.setQ_sec (n : Nat) (f : Queue → Queue) (s : State) : (s.setQ n f).sec = s.sec := rfl
@[simp] theorem State.setQ_cpu (n : Nat) (f : Queue → Queue) (s : State) : (s.setQ n f).cpu = s.cpu := rfl
@[simp] theorem State.setQ_diag (n : Nat) (f : Queue → Queue) (s : State) : (s.setQ n f).diag = s.diag := rfl
@[simp] theorem State.setQ_fresh (n : Nat) (f : Queue → Queue) (s : State) : (s.setQ n f).fresh = s.fresh := rfl
@[simp] theorem State.setQ_pending (n : Nat) (f : Queue → Queue) (s : State) : (s.setQ n f).pending = s.pending := rfl

/-! ### `State.setChan` changes `dma`. -/

@[simp] theorem State.setChan_now (c : Nat) (f : DmaChan → DmaChan) (s : State) : (s.setChan c f).now = s.now := rfl
@[simp] theorem State.setChan_board (c : Nat) (f : DmaChan → DmaChan) (s : State) : (s.setChan c f).board = s.board := rfl
@[simp] theorem State.setChan_mode (c : Nat) (f : DmaChan → DmaChan) (s : State) : (s.setChan c f).mode = s.mode := rfl
@[simp] theorem State.setChan_rst (c : Nat) (f : DmaChan → DmaChan) (s : State) : (s.setChan c f).rst = s.rst := rfl
@[simp] theorem State.setChan_clk (c : Nat) (f : DmaChan → DmaChan) (s : State) : (s.setChan c f).clk = s.clk := rfl
@[simp] theorem State.setChan_ports (c : Nat) (f : DmaChan → DmaChan) (s : State) : (s.setChan c f).ports = s.ports := rfl
@[simp] theorem State.setChan_lt (c : Nat) (f : DmaChan → DmaChan) (s : State) : (s.setChan c f).lt = s.lt := rfl
@[simp] theorem State.setChan_uzs (c : Nat) (f : DmaChan → DmaChan) (s : State) : (s.setChan c f).uzs = s.uzs := rfl
@[simp] theorem State.setChan_ring (c : Nat) (f : DmaChan → DmaChan) (s : State) : (s.setChan c f).ring = s.ring := rfl
@[simp] theorem State.setChan_banks (c : Nat) (f : DmaChan → DmaChan) (s : State) : (s.setChan c f).banks = s.banks := rfl
@[simp] theorem State.setChan_active (c : Nat) (f : DmaChan → DmaChan) (s : State) : (s.setChan c f).active = s.active := rfl
@[simp] theorem State.setChan_shadow (c : Nat) (f : DmaChan → DmaChan) (s : State) : (s.setChan c f).shadow = s.shadow := rfl
@[simp] theorem State.setChan_staged (c : Nat) (f : DmaChan → DmaChan) (s : State) : (s.setChan c f).staged = s.staged := rfl
@[simp] theorem State.setChan_lines (c : Nat) (f : DmaChan → DmaChan) (s : State) : (s.setChan c f).lines = s.lines := rfl
@[simp] theorem State.setChan_shd (c : Nat) (f : DmaChan → DmaChan) (s : State) : (s.setChan c f).shd = s.shd := rfl
@[simp] theorem State.setChan_aln (c : Nat) (f : DmaChan → DmaChan) (s : State) : (s.setChan c f).aln = s.aln := rfl
@[simp] theorem State.setChan_sv (c : Nat) (f : DmaChan → DmaChan) (s : State) : (s.setChan c f).sv = s.sv := rfl
@[simp] theorem State.setChan_skl (c : Nat) (f : DmaChan → DmaChan) (s : State) : (s.setChan c f).skl = s.skl := rfl
@[simp] theorem State.setChan_ilm (c : Nat) (f : DmaChan → DmaChan) (s : State) : (s.setChan c f).ilm = s.ilm := rfl
@[simp] theorem State.setChan_axes (c : Nat) (f : DmaChan → DmaChan) (s : State) : (s.setChan c f).axes = s.axes := rfl
@[simp] theorem State.setChan_madc (c : Nat) (f : DmaChan → DmaChan) (s : State) : (s.setChan c f).madc = s.madc := rfl
@[simp] theorem State.setChan_therm (c : Nat) (f : DmaChan → DmaChan) (s : State) : (s.setChan c f).therm = s.therm := rfl
@[simp] theorem State.setChan_simmer (c : Nat) (f : DmaChan → DmaChan) (s : State) : (s.setChan c f).simmer = s.simmer := rfl
@[simp] theorem State.setChan_dram (c : Nat) (f : DmaChan → DmaChan) (s : State) : (s.setChan c f).dram = s.dram := rfl
@[simp] theorem State.setChan_pantry (c : Nat) (f : DmaChan → DmaChan) (s : State) : (s.setChan c f).pantry = s.pantry := rfl
@[simp] theorem State.setChan_host (c : Nat) (f : DmaChan → DmaChan) (s : State) : (s.setChan c f).host = s.host := rfl
@[simp] theorem State.setChan_ev (c : Nat) (f : DmaChan → DmaChan) (s : State) : (s.setChan c f).ev = s.ev := rfl
@[simp] theorem State.setChan_sec (c : Nat) (f : DmaChan → DmaChan) (s : State) : (s.setChan c f).sec = s.sec := rfl
@[simp] theorem State.setChan_cpu (c : Nat) (f : DmaChan → DmaChan) (s : State) : (s.setChan c f).cpu = s.cpu := rfl
@[simp] theorem State.setChan_diag (c : Nat) (f : DmaChan → DmaChan) (s : State) : (s.setChan c f).diag = s.diag := rfl
@[simp] theorem State.setChan_fresh (c : Nat) (f : DmaChan → DmaChan) (s : State) : (s.setChan c f).fresh = s.fresh := rfl
@[simp] theorem State.setChan_pending (c : Nat) (f : DmaChan → DmaChan) (s : State) : (s.setChan c f).pending = s.pending := rfl

/-! ### `State.stage` changes `shadow` and `staged`. -/

@[simp] theorem State.stage_now (op : Nat) (f : Tables → Tables) (s : State) : (s.stage op f).now = s.now := rfl
@[simp] theorem State.stage_board (op : Nat) (f : Tables → Tables) (s : State) : (s.stage op f).board = s.board := rfl
@[simp] theorem State.stage_mode (op : Nat) (f : Tables → Tables) (s : State) : (s.stage op f).mode = s.mode := rfl
@[simp] theorem State.stage_rst (op : Nat) (f : Tables → Tables) (s : State) : (s.stage op f).rst = s.rst := rfl
@[simp] theorem State.stage_clk (op : Nat) (f : Tables → Tables) (s : State) : (s.stage op f).clk = s.clk := rfl
@[simp] theorem State.stage_ports (op : Nat) (f : Tables → Tables) (s : State) : (s.stage op f).ports = s.ports := rfl
@[simp] theorem State.stage_lt (op : Nat) (f : Tables → Tables) (s : State) : (s.stage op f).lt = s.lt := rfl
@[simp] theorem State.stage_uzs (op : Nat) (f : Tables → Tables) (s : State) : (s.stage op f).uzs = s.uzs := rfl
@[simp] theorem State.stage_ring (op : Nat) (f : Tables → Tables) (s : State) : (s.stage op f).ring = s.ring := rfl
@[simp] theorem State.stage_banks (op : Nat) (f : Tables → Tables) (s : State) : (s.stage op f).banks = s.banks := rfl
@[simp] theorem State.stage_active (op : Nat) (f : Tables → Tables) (s : State) : (s.stage op f).active = s.active := rfl
@[simp] theorem State.stage_lines (op : Nat) (f : Tables → Tables) (s : State) : (s.stage op f).lines = s.lines := rfl
@[simp] theorem State.stage_shd (op : Nat) (f : Tables → Tables) (s : State) : (s.stage op f).shd = s.shd := rfl
@[simp] theorem State.stage_aln (op : Nat) (f : Tables → Tables) (s : State) : (s.stage op f).aln = s.aln := rfl
@[simp] theorem State.stage_sv (op : Nat) (f : Tables → Tables) (s : State) : (s.stage op f).sv = s.sv := rfl
@[simp] theorem State.stage_skl (op : Nat) (f : Tables → Tables) (s : State) : (s.stage op f).skl = s.skl := rfl
@[simp] theorem State.stage_ilm (op : Nat) (f : Tables → Tables) (s : State) : (s.stage op f).ilm = s.ilm := rfl
@[simp] theorem State.stage_axes (op : Nat) (f : Tables → Tables) (s : State) : (s.stage op f).axes = s.axes := rfl
@[simp] theorem State.stage_madc (op : Nat) (f : Tables → Tables) (s : State) : (s.stage op f).madc = s.madc := rfl
@[simp] theorem State.stage_therm (op : Nat) (f : Tables → Tables) (s : State) : (s.stage op f).therm = s.therm := rfl
@[simp] theorem State.stage_simmer (op : Nat) (f : Tables → Tables) (s : State) : (s.stage op f).simmer = s.simmer := rfl
@[simp] theorem State.stage_dram (op : Nat) (f : Tables → Tables) (s : State) : (s.stage op f).dram = s.dram := rfl
@[simp] theorem State.stage_pantry (op : Nat) (f : Tables → Tables) (s : State) : (s.stage op f).pantry = s.pantry := rfl
@[simp] theorem State.stage_dma (op : Nat) (f : Tables → Tables) (s : State) : (s.stage op f).dma = s.dma := rfl
@[simp] theorem State.stage_host (op : Nat) (f : Tables → Tables) (s : State) : (s.stage op f).host = s.host := rfl
@[simp] theorem State.stage_ev (op : Nat) (f : Tables → Tables) (s : State) : (s.stage op f).ev = s.ev := rfl
@[simp] theorem State.stage_sec (op : Nat) (f : Tables → Tables) (s : State) : (s.stage op f).sec = s.sec := rfl
@[simp] theorem State.stage_cpu (op : Nat) (f : Tables → Tables) (s : State) : (s.stage op f).cpu = s.cpu := rfl
@[simp] theorem State.stage_diag (op : Nat) (f : Tables → Tables) (s : State) : (s.stage op f).diag = s.diag := rfl
@[simp] theorem State.stage_fresh (op : Nat) (f : Tables → Tables) (s : State) : (s.stage op f).fresh = s.fresh := rfl
@[simp] theorem State.stage_pending (op : Nat) (f : Tables → Tables) (s : State) : (s.stage op f).pending = s.pending := rfl

/-! ### `State.wake` changes `mode`. -/

theorem State.wake_shape (s : State) : ∃ m, s.wake = { s with mode := m } := by
  unfold State.wake; split <;> exact ⟨_, rfl⟩

@[simp] theorem State.wake_now (s : State) : (s.wake).now = s.now := by
  obtain ⟨_, e⟩ := s.wake_shape; rw [e]
@[simp] theorem State.wake_board (s : State) : (s.wake).board = s.board := by
  obtain ⟨_, e⟩ := s.wake_shape; rw [e]
@[simp] theorem State.wake_rst (s : State) : (s.wake).rst = s.rst := by
  obtain ⟨_, e⟩ := s.wake_shape; rw [e]
@[simp] theorem State.wake_clk (s : State) : (s.wake).clk = s.clk := by
  obtain ⟨_, e⟩ := s.wake_shape; rw [e]
@[simp] theorem State.wake_ports (s : State) : (s.wake).ports = s.ports := by
  obtain ⟨_, e⟩ := s.wake_shape; rw [e]
@[simp] theorem State.wake_lt (s : State) : (s.wake).lt = s.lt := by
  obtain ⟨_, e⟩ := s.wake_shape; rw [e]
@[simp] theorem State.wake_uzs (s : State) : (s.wake).uzs = s.uzs := by
  obtain ⟨_, e⟩ := s.wake_shape; rw [e]
@[simp] theorem State.wake_ring (s : State) : (s.wake).ring = s.ring := by
  obtain ⟨_, e⟩ := s.wake_shape; rw [e]
@[simp] theorem State.wake_banks (s : State) : (s.wake).banks = s.banks := by
  obtain ⟨_, e⟩ := s.wake_shape; rw [e]
@[simp] theorem State.wake_active (s : State) : (s.wake).active = s.active := by
  obtain ⟨_, e⟩ := s.wake_shape; rw [e]
@[simp] theorem State.wake_shadow (s : State) : (s.wake).shadow = s.shadow := by
  obtain ⟨_, e⟩ := s.wake_shape; rw [e]
@[simp] theorem State.wake_staged (s : State) : (s.wake).staged = s.staged := by
  obtain ⟨_, e⟩ := s.wake_shape; rw [e]
@[simp] theorem State.wake_lines (s : State) : (s.wake).lines = s.lines := by
  obtain ⟨_, e⟩ := s.wake_shape; rw [e]
@[simp] theorem State.wake_shd (s : State) : (s.wake).shd = s.shd := by
  obtain ⟨_, e⟩ := s.wake_shape; rw [e]
@[simp] theorem State.wake_aln (s : State) : (s.wake).aln = s.aln := by
  obtain ⟨_, e⟩ := s.wake_shape; rw [e]
@[simp] theorem State.wake_sv (s : State) : (s.wake).sv = s.sv := by
  obtain ⟨_, e⟩ := s.wake_shape; rw [e]
@[simp] theorem State.wake_skl (s : State) : (s.wake).skl = s.skl := by
  obtain ⟨_, e⟩ := s.wake_shape; rw [e]
@[simp] theorem State.wake_ilm (s : State) : (s.wake).ilm = s.ilm := by
  obtain ⟨_, e⟩ := s.wake_shape; rw [e]
@[simp] theorem State.wake_axes (s : State) : (s.wake).axes = s.axes := by
  obtain ⟨_, e⟩ := s.wake_shape; rw [e]
@[simp] theorem State.wake_madc (s : State) : (s.wake).madc = s.madc := by
  obtain ⟨_, e⟩ := s.wake_shape; rw [e]
@[simp] theorem State.wake_therm (s : State) : (s.wake).therm = s.therm := by
  obtain ⟨_, e⟩ := s.wake_shape; rw [e]
@[simp] theorem State.wake_simmer (s : State) : (s.wake).simmer = s.simmer := by
  obtain ⟨_, e⟩ := s.wake_shape; rw [e]
@[simp] theorem State.wake_dram (s : State) : (s.wake).dram = s.dram := by
  obtain ⟨_, e⟩ := s.wake_shape; rw [e]
@[simp] theorem State.wake_pantry (s : State) : (s.wake).pantry = s.pantry := by
  obtain ⟨_, e⟩ := s.wake_shape; rw [e]
@[simp] theorem State.wake_dma (s : State) : (s.wake).dma = s.dma := by
  obtain ⟨_, e⟩ := s.wake_shape; rw [e]
@[simp] theorem State.wake_host (s : State) : (s.wake).host = s.host := by
  obtain ⟨_, e⟩ := s.wake_shape; rw [e]
@[simp] theorem State.wake_ev (s : State) : (s.wake).ev = s.ev := by
  obtain ⟨_, e⟩ := s.wake_shape; rw [e]
@[simp] theorem State.wake_sec (s : State) : (s.wake).sec = s.sec := by
  obtain ⟨_, e⟩ := s.wake_shape; rw [e]
@[simp] theorem State.wake_cpu (s : State) : (s.wake).cpu = s.cpu := by
  obtain ⟨_, e⟩ := s.wake_shape; rw [e]
@[simp] theorem State.wake_diag (s : State) : (s.wake).diag = s.diag := by
  obtain ⟨_, e⟩ := s.wake_shape; rw [e]
@[simp] theorem State.wake_fresh (s : State) : (s.wake).fresh = s.fresh := by
  obtain ⟨_, e⟩ := s.wake_shape; rw [e]
@[simp] theorem State.wake_pending (s : State) : (s.wake).pending = s.pending := by
  obtain ⟨_, e⟩ := s.wake_shape; rw [e]

/-! ### `State.msix` changes `host`. -/

theorem State.setPort_shape (p : Nat) (f : HostPort → HostPort) (s : State) : ∃ h, s.setPort p f = { s with host := h } := by
  unfold State.setPort; split <;> exact ⟨_, rfl⟩

theorem State.msix_shape (p v : Nat) (s : State) : ∃ h, s.msix p v = { s with host := h } := by
  unfold State.msix
  dsimp only
  split
  · exact State.setPort_shape ..
  · split <;> exact ⟨_, rfl⟩

@[simp] theorem State.msix_now (p v : Nat) (s : State) : (s.msix p v).now = s.now := by
  obtain ⟨_, e⟩ := s.msix_shape p v; rw [e]
@[simp] theorem State.msix_board (p v : Nat) (s : State) : (s.msix p v).board = s.board := by
  obtain ⟨_, e⟩ := s.msix_shape p v; rw [e]
@[simp] theorem State.msix_mode (p v : Nat) (s : State) : (s.msix p v).mode = s.mode := by
  obtain ⟨_, e⟩ := s.msix_shape p v; rw [e]
@[simp] theorem State.msix_rst (p v : Nat) (s : State) : (s.msix p v).rst = s.rst := by
  obtain ⟨_, e⟩ := s.msix_shape p v; rw [e]
@[simp] theorem State.msix_clk (p v : Nat) (s : State) : (s.msix p v).clk = s.clk := by
  obtain ⟨_, e⟩ := s.msix_shape p v; rw [e]
@[simp] theorem State.msix_ports (p v : Nat) (s : State) : (s.msix p v).ports = s.ports := by
  obtain ⟨_, e⟩ := s.msix_shape p v; rw [e]
@[simp] theorem State.msix_lt (p v : Nat) (s : State) : (s.msix p v).lt = s.lt := by
  obtain ⟨_, e⟩ := s.msix_shape p v; rw [e]
@[simp] theorem State.msix_uzs (p v : Nat) (s : State) : (s.msix p v).uzs = s.uzs := by
  obtain ⟨_, e⟩ := s.msix_shape p v; rw [e]
@[simp] theorem State.msix_ring (p v : Nat) (s : State) : (s.msix p v).ring = s.ring := by
  obtain ⟨_, e⟩ := s.msix_shape p v; rw [e]
@[simp] theorem State.msix_banks (p v : Nat) (s : State) : (s.msix p v).banks = s.banks := by
  obtain ⟨_, e⟩ := s.msix_shape p v; rw [e]
@[simp] theorem State.msix_active (p v : Nat) (s : State) : (s.msix p v).active = s.active := by
  obtain ⟨_, e⟩ := s.msix_shape p v; rw [e]
@[simp] theorem State.msix_shadow (p v : Nat) (s : State) : (s.msix p v).shadow = s.shadow := by
  obtain ⟨_, e⟩ := s.msix_shape p v; rw [e]
@[simp] theorem State.msix_staged (p v : Nat) (s : State) : (s.msix p v).staged = s.staged := by
  obtain ⟨_, e⟩ := s.msix_shape p v; rw [e]
@[simp] theorem State.msix_lines (p v : Nat) (s : State) : (s.msix p v).lines = s.lines := by
  obtain ⟨_, e⟩ := s.msix_shape p v; rw [e]
@[simp] theorem State.msix_shd (p v : Nat) (s : State) : (s.msix p v).shd = s.shd := by
  obtain ⟨_, e⟩ := s.msix_shape p v; rw [e]
@[simp] theorem State.msix_aln (p v : Nat) (s : State) : (s.msix p v).aln = s.aln := by
  obtain ⟨_, e⟩ := s.msix_shape p v; rw [e]
@[simp] theorem State.msix_sv (p v : Nat) (s : State) : (s.msix p v).sv = s.sv := by
  obtain ⟨_, e⟩ := s.msix_shape p v; rw [e]
@[simp] theorem State.msix_skl (p v : Nat) (s : State) : (s.msix p v).skl = s.skl := by
  obtain ⟨_, e⟩ := s.msix_shape p v; rw [e]
@[simp] theorem State.msix_ilm (p v : Nat) (s : State) : (s.msix p v).ilm = s.ilm := by
  obtain ⟨_, e⟩ := s.msix_shape p v; rw [e]
@[simp] theorem State.msix_axes (p v : Nat) (s : State) : (s.msix p v).axes = s.axes := by
  obtain ⟨_, e⟩ := s.msix_shape p v; rw [e]
@[simp] theorem State.msix_madc (p v : Nat) (s : State) : (s.msix p v).madc = s.madc := by
  obtain ⟨_, e⟩ := s.msix_shape p v; rw [e]
@[simp] theorem State.msix_therm (p v : Nat) (s : State) : (s.msix p v).therm = s.therm := by
  obtain ⟨_, e⟩ := s.msix_shape p v; rw [e]
@[simp] theorem State.msix_simmer (p v : Nat) (s : State) : (s.msix p v).simmer = s.simmer := by
  obtain ⟨_, e⟩ := s.msix_shape p v; rw [e]
@[simp] theorem State.msix_dram (p v : Nat) (s : State) : (s.msix p v).dram = s.dram := by
  obtain ⟨_, e⟩ := s.msix_shape p v; rw [e]
@[simp] theorem State.msix_pantry (p v : Nat) (s : State) : (s.msix p v).pantry = s.pantry := by
  obtain ⟨_, e⟩ := s.msix_shape p v; rw [e]
@[simp] theorem State.msix_dma (p v : Nat) (s : State) : (s.msix p v).dma = s.dma := by
  obtain ⟨_, e⟩ := s.msix_shape p v; rw [e]
@[simp] theorem State.msix_ev (p v : Nat) (s : State) : (s.msix p v).ev = s.ev := by
  obtain ⟨_, e⟩ := s.msix_shape p v; rw [e]
@[simp] theorem State.msix_sec (p v : Nat) (s : State) : (s.msix p v).sec = s.sec := by
  obtain ⟨_, e⟩ := s.msix_shape p v; rw [e]
@[simp] theorem State.msix_cpu (p v : Nat) (s : State) : (s.msix p v).cpu = s.cpu := by
  obtain ⟨_, e⟩ := s.msix_shape p v; rw [e]
@[simp] theorem State.msix_diag (p v : Nat) (s : State) : (s.msix p v).diag = s.diag := by
  obtain ⟨_, e⟩ := s.msix_shape p v; rw [e]
@[simp] theorem State.msix_fresh (p v : Nat) (s : State) : (s.msix p v).fresh = s.fresh := by
  obtain ⟨_, e⟩ := s.msix_shape p v; rw [e]
@[simp] theorem State.msix_pending (p v : Nat) (s : State) : (s.msix p v).pending = s.pending := by
  obtain ⟨_, e⟩ := s.msix_shape p v; rw [e]

/-! ### `State.latchSet` changes `ev` and `host` and `mode`. -/

theorem State.latchSet_shape (i : Nat) (s : State) : ∃ e h m, s.latchSet i = { s with ev := e, host := h, mode := m } := by
  unfold State.latchSet
  dsimp only
  split
  · exact ⟨_, _, _, rfl⟩
  · split
    · split
      · obtain ⟨m, h⟩ := State.wake_shape { s with ev := { s.ev with latch := s.ev.latch ||| BitVec.twoPow 256 i } }
        exact ⟨_, _, m, by rw [h]⟩
      · exact ⟨_, _, _, rfl⟩
    · split
      · exact ⟨_, _, _, rfl⟩
      · obtain ⟨m, h⟩ := State.msix_shape (b2n (s.route i).port) (s.route i).vec.toNat
          { s with ev := { s.ev with latch := s.ev.latch ||| BitVec.twoPow 256 i } }
        exact ⟨_, m, _, by rw [h]⟩

@[simp] theorem State.latchSet_now (i : Nat) (s : State) : (s.latchSet i).now = s.now := by
  obtain ⟨_, _, _, e⟩ := s.latchSet_shape i; rw [e]
@[simp] theorem State.latchSet_board (i : Nat) (s : State) : (s.latchSet i).board = s.board := by
  obtain ⟨_, _, _, e⟩ := s.latchSet_shape i; rw [e]
@[simp] theorem State.latchSet_rst (i : Nat) (s : State) : (s.latchSet i).rst = s.rst := by
  obtain ⟨_, _, _, e⟩ := s.latchSet_shape i; rw [e]
@[simp] theorem State.latchSet_clk (i : Nat) (s : State) : (s.latchSet i).clk = s.clk := by
  obtain ⟨_, _, _, e⟩ := s.latchSet_shape i; rw [e]
@[simp] theorem State.latchSet_ports (i : Nat) (s : State) : (s.latchSet i).ports = s.ports := by
  obtain ⟨_, _, _, e⟩ := s.latchSet_shape i; rw [e]
@[simp] theorem State.latchSet_lt (i : Nat) (s : State) : (s.latchSet i).lt = s.lt := by
  obtain ⟨_, _, _, e⟩ := s.latchSet_shape i; rw [e]
@[simp] theorem State.latchSet_uzs (i : Nat) (s : State) : (s.latchSet i).uzs = s.uzs := by
  obtain ⟨_, _, _, e⟩ := s.latchSet_shape i; rw [e]
@[simp] theorem State.latchSet_ring (i : Nat) (s : State) : (s.latchSet i).ring = s.ring := by
  obtain ⟨_, _, _, e⟩ := s.latchSet_shape i; rw [e]
@[simp] theorem State.latchSet_banks (i : Nat) (s : State) : (s.latchSet i).banks = s.banks := by
  obtain ⟨_, _, _, e⟩ := s.latchSet_shape i; rw [e]
@[simp] theorem State.latchSet_active (i : Nat) (s : State) : (s.latchSet i).active = s.active := by
  obtain ⟨_, _, _, e⟩ := s.latchSet_shape i; rw [e]
@[simp] theorem State.latchSet_shadow (i : Nat) (s : State) : (s.latchSet i).shadow = s.shadow := by
  obtain ⟨_, _, _, e⟩ := s.latchSet_shape i; rw [e]
@[simp] theorem State.latchSet_staged (i : Nat) (s : State) : (s.latchSet i).staged = s.staged := by
  obtain ⟨_, _, _, e⟩ := s.latchSet_shape i; rw [e]
@[simp] theorem State.latchSet_lines (i : Nat) (s : State) : (s.latchSet i).lines = s.lines := by
  obtain ⟨_, _, _, e⟩ := s.latchSet_shape i; rw [e]
@[simp] theorem State.latchSet_shd (i : Nat) (s : State) : (s.latchSet i).shd = s.shd := by
  obtain ⟨_, _, _, e⟩ := s.latchSet_shape i; rw [e]
@[simp] theorem State.latchSet_aln (i : Nat) (s : State) : (s.latchSet i).aln = s.aln := by
  obtain ⟨_, _, _, e⟩ := s.latchSet_shape i; rw [e]
@[simp] theorem State.latchSet_sv (i : Nat) (s : State) : (s.latchSet i).sv = s.sv := by
  obtain ⟨_, _, _, e⟩ := s.latchSet_shape i; rw [e]
@[simp] theorem State.latchSet_skl (i : Nat) (s : State) : (s.latchSet i).skl = s.skl := by
  obtain ⟨_, _, _, e⟩ := s.latchSet_shape i; rw [e]
@[simp] theorem State.latchSet_ilm (i : Nat) (s : State) : (s.latchSet i).ilm = s.ilm := by
  obtain ⟨_, _, _, e⟩ := s.latchSet_shape i; rw [e]
@[simp] theorem State.latchSet_axes (i : Nat) (s : State) : (s.latchSet i).axes = s.axes := by
  obtain ⟨_, _, _, e⟩ := s.latchSet_shape i; rw [e]
@[simp] theorem State.latchSet_madc (i : Nat) (s : State) : (s.latchSet i).madc = s.madc := by
  obtain ⟨_, _, _, e⟩ := s.latchSet_shape i; rw [e]
@[simp] theorem State.latchSet_therm (i : Nat) (s : State) : (s.latchSet i).therm = s.therm := by
  obtain ⟨_, _, _, e⟩ := s.latchSet_shape i; rw [e]
@[simp] theorem State.latchSet_simmer (i : Nat) (s : State) : (s.latchSet i).simmer = s.simmer := by
  obtain ⟨_, _, _, e⟩ := s.latchSet_shape i; rw [e]
@[simp] theorem State.latchSet_dram (i : Nat) (s : State) : (s.latchSet i).dram = s.dram := by
  obtain ⟨_, _, _, e⟩ := s.latchSet_shape i; rw [e]
@[simp] theorem State.latchSet_pantry (i : Nat) (s : State) : (s.latchSet i).pantry = s.pantry := by
  obtain ⟨_, _, _, e⟩ := s.latchSet_shape i; rw [e]
@[simp] theorem State.latchSet_dma (i : Nat) (s : State) : (s.latchSet i).dma = s.dma := by
  obtain ⟨_, _, _, e⟩ := s.latchSet_shape i; rw [e]
@[simp] theorem State.latchSet_sec (i : Nat) (s : State) : (s.latchSet i).sec = s.sec := by
  obtain ⟨_, _, _, e⟩ := s.latchSet_shape i; rw [e]
@[simp] theorem State.latchSet_cpu (i : Nat) (s : State) : (s.latchSet i).cpu = s.cpu := by
  obtain ⟨_, _, _, e⟩ := s.latchSet_shape i; rw [e]
@[simp] theorem State.latchSet_diag (i : Nat) (s : State) : (s.latchSet i).diag = s.diag := by
  obtain ⟨_, _, _, e⟩ := s.latchSet_shape i; rw [e]
@[simp] theorem State.latchSet_fresh (i : Nat) (s : State) : (s.latchSet i).fresh = s.fresh := by
  obtain ⟨_, _, _, e⟩ := s.latchSet_shape i; rw [e]
@[simp] theorem State.latchSet_pending (i : Nat) (s : State) : (s.latchSet i).pending = s.pending := by
  obtain ⟨_, _, _, e⟩ := s.latchSet_shape i; rw [e]

/-! ### `State.pulse` changes `ev` and `host` and `mode`. -/

theorem State.pulse_shape (i : Nat) (s : State) : ∃ e h m, s.pulse i = { s with ev := e, host := h, mode := m } := by
  unfold State.pulse
  split
  · exact ⟨_, _, _, rfl⟩
  · exact State.latchSet_shape ..

@[simp] theorem State.pulse_now (i : Nat) (s : State) : (s.pulse i).now = s.now := by
  obtain ⟨_, _, _, e⟩ := s.pulse_shape i; rw [e]
@[simp] theorem State.pulse_board (i : Nat) (s : State) : (s.pulse i).board = s.board := by
  obtain ⟨_, _, _, e⟩ := s.pulse_shape i; rw [e]
@[simp] theorem State.pulse_rst (i : Nat) (s : State) : (s.pulse i).rst = s.rst := by
  obtain ⟨_, _, _, e⟩ := s.pulse_shape i; rw [e]
@[simp] theorem State.pulse_clk (i : Nat) (s : State) : (s.pulse i).clk = s.clk := by
  obtain ⟨_, _, _, e⟩ := s.pulse_shape i; rw [e]
@[simp] theorem State.pulse_ports (i : Nat) (s : State) : (s.pulse i).ports = s.ports := by
  obtain ⟨_, _, _, e⟩ := s.pulse_shape i; rw [e]
@[simp] theorem State.pulse_lt (i : Nat) (s : State) : (s.pulse i).lt = s.lt := by
  obtain ⟨_, _, _, e⟩ := s.pulse_shape i; rw [e]
@[simp] theorem State.pulse_uzs (i : Nat) (s : State) : (s.pulse i).uzs = s.uzs := by
  obtain ⟨_, _, _, e⟩ := s.pulse_shape i; rw [e]
@[simp] theorem State.pulse_ring (i : Nat) (s : State) : (s.pulse i).ring = s.ring := by
  obtain ⟨_, _, _, e⟩ := s.pulse_shape i; rw [e]
@[simp] theorem State.pulse_banks (i : Nat) (s : State) : (s.pulse i).banks = s.banks := by
  obtain ⟨_, _, _, e⟩ := s.pulse_shape i; rw [e]
@[simp] theorem State.pulse_active (i : Nat) (s : State) : (s.pulse i).active = s.active := by
  obtain ⟨_, _, _, e⟩ := s.pulse_shape i; rw [e]
@[simp] theorem State.pulse_shadow (i : Nat) (s : State) : (s.pulse i).shadow = s.shadow := by
  obtain ⟨_, _, _, e⟩ := s.pulse_shape i; rw [e]
@[simp] theorem State.pulse_staged (i : Nat) (s : State) : (s.pulse i).staged = s.staged := by
  obtain ⟨_, _, _, e⟩ := s.pulse_shape i; rw [e]
@[simp] theorem State.pulse_lines (i : Nat) (s : State) : (s.pulse i).lines = s.lines := by
  obtain ⟨_, _, _, e⟩ := s.pulse_shape i; rw [e]
@[simp] theorem State.pulse_shd (i : Nat) (s : State) : (s.pulse i).shd = s.shd := by
  obtain ⟨_, _, _, e⟩ := s.pulse_shape i; rw [e]
@[simp] theorem State.pulse_aln (i : Nat) (s : State) : (s.pulse i).aln = s.aln := by
  obtain ⟨_, _, _, e⟩ := s.pulse_shape i; rw [e]
@[simp] theorem State.pulse_sv (i : Nat) (s : State) : (s.pulse i).sv = s.sv := by
  obtain ⟨_, _, _, e⟩ := s.pulse_shape i; rw [e]
@[simp] theorem State.pulse_skl (i : Nat) (s : State) : (s.pulse i).skl = s.skl := by
  obtain ⟨_, _, _, e⟩ := s.pulse_shape i; rw [e]
@[simp] theorem State.pulse_ilm (i : Nat) (s : State) : (s.pulse i).ilm = s.ilm := by
  obtain ⟨_, _, _, e⟩ := s.pulse_shape i; rw [e]
@[simp] theorem State.pulse_axes (i : Nat) (s : State) : (s.pulse i).axes = s.axes := by
  obtain ⟨_, _, _, e⟩ := s.pulse_shape i; rw [e]
@[simp] theorem State.pulse_madc (i : Nat) (s : State) : (s.pulse i).madc = s.madc := by
  obtain ⟨_, _, _, e⟩ := s.pulse_shape i; rw [e]
@[simp] theorem State.pulse_therm (i : Nat) (s : State) : (s.pulse i).therm = s.therm := by
  obtain ⟨_, _, _, e⟩ := s.pulse_shape i; rw [e]
@[simp] theorem State.pulse_simmer (i : Nat) (s : State) : (s.pulse i).simmer = s.simmer := by
  obtain ⟨_, _, _, e⟩ := s.pulse_shape i; rw [e]
@[simp] theorem State.pulse_dram (i : Nat) (s : State) : (s.pulse i).dram = s.dram := by
  obtain ⟨_, _, _, e⟩ := s.pulse_shape i; rw [e]
@[simp] theorem State.pulse_pantry (i : Nat) (s : State) : (s.pulse i).pantry = s.pantry := by
  obtain ⟨_, _, _, e⟩ := s.pulse_shape i; rw [e]
@[simp] theorem State.pulse_dma (i : Nat) (s : State) : (s.pulse i).dma = s.dma := by
  obtain ⟨_, _, _, e⟩ := s.pulse_shape i; rw [e]
@[simp] theorem State.pulse_sec (i : Nat) (s : State) : (s.pulse i).sec = s.sec := by
  obtain ⟨_, _, _, e⟩ := s.pulse_shape i; rw [e]
@[simp] theorem State.pulse_cpu (i : Nat) (s : State) : (s.pulse i).cpu = s.cpu := by
  obtain ⟨_, _, _, e⟩ := s.pulse_shape i; rw [e]
@[simp] theorem State.pulse_diag (i : Nat) (s : State) : (s.pulse i).diag = s.diag := by
  obtain ⟨_, _, _, e⟩ := s.pulse_shape i; rw [e]
@[simp] theorem State.pulse_fresh (i : Nat) (s : State) : (s.pulse i).fresh = s.fresh := by
  obtain ⟨_, _, _, e⟩ := s.pulse_shape i; rw [e]
@[simp] theorem State.pulse_pending (i : Nat) (s : State) : (s.pulse i).pending = s.pending := by
  obtain ⟨_, _, _, e⟩ := s.pulse_shape i; rw [e]

/-! ### `State.pulseIf` changes `ev` and `host` and `mode`. -/

theorem State.pulseIf_shape (c : Bool) (i : Nat) (s : State) :
    ∃ e h m, s.pulseIf c i = { s with ev := e, host := h, mode := m } := by
  unfold State.pulseIf
  split
  · exact State.pulse_shape ..
  · exact ⟨_, _, _, rfl⟩

@[simp] theorem State.pulseIf_now (c : Bool) (i : Nat) (s : State) : (s.pulseIf c i).now = s.now := by
  obtain ⟨_, _, _, e⟩ := s.pulseIf_shape c i; rw [e]
@[simp] theorem State.pulseIf_board (c : Bool) (i : Nat) (s : State) : (s.pulseIf c i).board = s.board := by
  obtain ⟨_, _, _, e⟩ := s.pulseIf_shape c i; rw [e]
@[simp] theorem State.pulseIf_rst (c : Bool) (i : Nat) (s : State) : (s.pulseIf c i).rst = s.rst := by
  obtain ⟨_, _, _, e⟩ := s.pulseIf_shape c i; rw [e]
@[simp] theorem State.pulseIf_clk (c : Bool) (i : Nat) (s : State) : (s.pulseIf c i).clk = s.clk := by
  obtain ⟨_, _, _, e⟩ := s.pulseIf_shape c i; rw [e]
@[simp] theorem State.pulseIf_ports (c : Bool) (i : Nat) (s : State) : (s.pulseIf c i).ports = s.ports := by
  obtain ⟨_, _, _, e⟩ := s.pulseIf_shape c i; rw [e]
@[simp] theorem State.pulseIf_lt (c : Bool) (i : Nat) (s : State) : (s.pulseIf c i).lt = s.lt := by
  obtain ⟨_, _, _, e⟩ := s.pulseIf_shape c i; rw [e]
@[simp] theorem State.pulseIf_uzs (c : Bool) (i : Nat) (s : State) : (s.pulseIf c i).uzs = s.uzs := by
  obtain ⟨_, _, _, e⟩ := s.pulseIf_shape c i; rw [e]
@[simp] theorem State.pulseIf_ring (c : Bool) (i : Nat) (s : State) : (s.pulseIf c i).ring = s.ring := by
  obtain ⟨_, _, _, e⟩ := s.pulseIf_shape c i; rw [e]
@[simp] theorem State.pulseIf_banks (c : Bool) (i : Nat) (s : State) : (s.pulseIf c i).banks = s.banks := by
  obtain ⟨_, _, _, e⟩ := s.pulseIf_shape c i; rw [e]
@[simp] theorem State.pulseIf_active (c : Bool) (i : Nat) (s : State) : (s.pulseIf c i).active = s.active := by
  obtain ⟨_, _, _, e⟩ := s.pulseIf_shape c i; rw [e]
@[simp] theorem State.pulseIf_shadow (c : Bool) (i : Nat) (s : State) : (s.pulseIf c i).shadow = s.shadow := by
  obtain ⟨_, _, _, e⟩ := s.pulseIf_shape c i; rw [e]
@[simp] theorem State.pulseIf_staged (c : Bool) (i : Nat) (s : State) : (s.pulseIf c i).staged = s.staged := by
  obtain ⟨_, _, _, e⟩ := s.pulseIf_shape c i; rw [e]
@[simp] theorem State.pulseIf_lines (c : Bool) (i : Nat) (s : State) : (s.pulseIf c i).lines = s.lines := by
  obtain ⟨_, _, _, e⟩ := s.pulseIf_shape c i; rw [e]
@[simp] theorem State.pulseIf_shd (c : Bool) (i : Nat) (s : State) : (s.pulseIf c i).shd = s.shd := by
  obtain ⟨_, _, _, e⟩ := s.pulseIf_shape c i; rw [e]
@[simp] theorem State.pulseIf_aln (c : Bool) (i : Nat) (s : State) : (s.pulseIf c i).aln = s.aln := by
  obtain ⟨_, _, _, e⟩ := s.pulseIf_shape c i; rw [e]
@[simp] theorem State.pulseIf_sv (c : Bool) (i : Nat) (s : State) : (s.pulseIf c i).sv = s.sv := by
  obtain ⟨_, _, _, e⟩ := s.pulseIf_shape c i; rw [e]
@[simp] theorem State.pulseIf_skl (c : Bool) (i : Nat) (s : State) : (s.pulseIf c i).skl = s.skl := by
  obtain ⟨_, _, _, e⟩ := s.pulseIf_shape c i; rw [e]
@[simp] theorem State.pulseIf_ilm (c : Bool) (i : Nat) (s : State) : (s.pulseIf c i).ilm = s.ilm := by
  obtain ⟨_, _, _, e⟩ := s.pulseIf_shape c i; rw [e]
@[simp] theorem State.pulseIf_axes (c : Bool) (i : Nat) (s : State) : (s.pulseIf c i).axes = s.axes := by
  obtain ⟨_, _, _, e⟩ := s.pulseIf_shape c i; rw [e]
@[simp] theorem State.pulseIf_madc (c : Bool) (i : Nat) (s : State) : (s.pulseIf c i).madc = s.madc := by
  obtain ⟨_, _, _, e⟩ := s.pulseIf_shape c i; rw [e]
@[simp] theorem State.pulseIf_therm (c : Bool) (i : Nat) (s : State) : (s.pulseIf c i).therm = s.therm := by
  obtain ⟨_, _, _, e⟩ := s.pulseIf_shape c i; rw [e]
@[simp] theorem State.pulseIf_simmer (c : Bool) (i : Nat) (s : State) : (s.pulseIf c i).simmer = s.simmer := by
  obtain ⟨_, _, _, e⟩ := s.pulseIf_shape c i; rw [e]
@[simp] theorem State.pulseIf_dram (c : Bool) (i : Nat) (s : State) : (s.pulseIf c i).dram = s.dram := by
  obtain ⟨_, _, _, e⟩ := s.pulseIf_shape c i; rw [e]
@[simp] theorem State.pulseIf_pantry (c : Bool) (i : Nat) (s : State) : (s.pulseIf c i).pantry = s.pantry := by
  obtain ⟨_, _, _, e⟩ := s.pulseIf_shape c i; rw [e]
@[simp] theorem State.pulseIf_dma (c : Bool) (i : Nat) (s : State) : (s.pulseIf c i).dma = s.dma := by
  obtain ⟨_, _, _, e⟩ := s.pulseIf_shape c i; rw [e]
@[simp] theorem State.pulseIf_sec (c : Bool) (i : Nat) (s : State) : (s.pulseIf c i).sec = s.sec := by
  obtain ⟨_, _, _, e⟩ := s.pulseIf_shape c i; rw [e]
@[simp] theorem State.pulseIf_cpu (c : Bool) (i : Nat) (s : State) : (s.pulseIf c i).cpu = s.cpu := by
  obtain ⟨_, _, _, e⟩ := s.pulseIf_shape c i; rw [e]
@[simp] theorem State.pulseIf_diag (c : Bool) (i : Nat) (s : State) : (s.pulseIf c i).diag = s.diag := by
  obtain ⟨_, _, _, e⟩ := s.pulseIf_shape c i; rw [e]
@[simp] theorem State.pulseIf_fresh (c : Bool) (i : Nat) (s : State) : (s.pulseIf c i).fresh = s.fresh := by
  obtain ⟨_, _, _, e⟩ := s.pulseIf_shape c i; rw [e]
@[simp] theorem State.pulseIf_pending (c : Bool) (i : Nat) (s : State) : (s.pulseIf c i).pending = s.pending := by
  obtain ⟨_, _, _, e⟩ := s.pulseIf_shape c i; rw [e]

/-! ### `State.level` changes `ev` and `host` and `mode`. -/

theorem State.level_shape (i : Nat) (on : Bool) (s : State) :
    ∃ e h m, s.level i on = { s with ev := e, host := h, mode := m } := by
  unfold State.level
  dsimp only
  split
  · obtain ⟨e, h, m, eq⟩ := State.latchSet_shape i { s with ev := { s.ev with
      raw := if on then s.ev.raw ||| BitVec.twoPow 256 i else s.ev.raw &&& ~~~BitVec.twoPow 256 i } }
    exact ⟨e, h, m, by rw [eq]⟩
  · exact ⟨_, _, _, rfl⟩

@[simp] theorem State.level_now (i : Nat) (on : Bool) (s : State) : (s.level i on).now = s.now := by
  obtain ⟨_, _, _, e⟩ := s.level_shape i on; rw [e]
@[simp] theorem State.level_board (i : Nat) (on : Bool) (s : State) : (s.level i on).board = s.board := by
  obtain ⟨_, _, _, e⟩ := s.level_shape i on; rw [e]
@[simp] theorem State.level_rst (i : Nat) (on : Bool) (s : State) : (s.level i on).rst = s.rst := by
  obtain ⟨_, _, _, e⟩ := s.level_shape i on; rw [e]
@[simp] theorem State.level_clk (i : Nat) (on : Bool) (s : State) : (s.level i on).clk = s.clk := by
  obtain ⟨_, _, _, e⟩ := s.level_shape i on; rw [e]
@[simp] theorem State.level_ports (i : Nat) (on : Bool) (s : State) : (s.level i on).ports = s.ports := by
  obtain ⟨_, _, _, e⟩ := s.level_shape i on; rw [e]
@[simp] theorem State.level_lt (i : Nat) (on : Bool) (s : State) : (s.level i on).lt = s.lt := by
  obtain ⟨_, _, _, e⟩ := s.level_shape i on; rw [e]
@[simp] theorem State.level_uzs (i : Nat) (on : Bool) (s : State) : (s.level i on).uzs = s.uzs := by
  obtain ⟨_, _, _, e⟩ := s.level_shape i on; rw [e]
@[simp] theorem State.level_ring (i : Nat) (on : Bool) (s : State) : (s.level i on).ring = s.ring := by
  obtain ⟨_, _, _, e⟩ := s.level_shape i on; rw [e]
@[simp] theorem State.level_banks (i : Nat) (on : Bool) (s : State) : (s.level i on).banks = s.banks := by
  obtain ⟨_, _, _, e⟩ := s.level_shape i on; rw [e]
@[simp] theorem State.level_active (i : Nat) (on : Bool) (s : State) : (s.level i on).active = s.active := by
  obtain ⟨_, _, _, e⟩ := s.level_shape i on; rw [e]
@[simp] theorem State.level_shadow (i : Nat) (on : Bool) (s : State) : (s.level i on).shadow = s.shadow := by
  obtain ⟨_, _, _, e⟩ := s.level_shape i on; rw [e]
@[simp] theorem State.level_staged (i : Nat) (on : Bool) (s : State) : (s.level i on).staged = s.staged := by
  obtain ⟨_, _, _, e⟩ := s.level_shape i on; rw [e]
@[simp] theorem State.level_lines (i : Nat) (on : Bool) (s : State) : (s.level i on).lines = s.lines := by
  obtain ⟨_, _, _, e⟩ := s.level_shape i on; rw [e]
@[simp] theorem State.level_shd (i : Nat) (on : Bool) (s : State) : (s.level i on).shd = s.shd := by
  obtain ⟨_, _, _, e⟩ := s.level_shape i on; rw [e]
@[simp] theorem State.level_aln (i : Nat) (on : Bool) (s : State) : (s.level i on).aln = s.aln := by
  obtain ⟨_, _, _, e⟩ := s.level_shape i on; rw [e]
@[simp] theorem State.level_sv (i : Nat) (on : Bool) (s : State) : (s.level i on).sv = s.sv := by
  obtain ⟨_, _, _, e⟩ := s.level_shape i on; rw [e]
@[simp] theorem State.level_skl (i : Nat) (on : Bool) (s : State) : (s.level i on).skl = s.skl := by
  obtain ⟨_, _, _, e⟩ := s.level_shape i on; rw [e]
@[simp] theorem State.level_ilm (i : Nat) (on : Bool) (s : State) : (s.level i on).ilm = s.ilm := by
  obtain ⟨_, _, _, e⟩ := s.level_shape i on; rw [e]
@[simp] theorem State.level_axes (i : Nat) (on : Bool) (s : State) : (s.level i on).axes = s.axes := by
  obtain ⟨_, _, _, e⟩ := s.level_shape i on; rw [e]
@[simp] theorem State.level_madc (i : Nat) (on : Bool) (s : State) : (s.level i on).madc = s.madc := by
  obtain ⟨_, _, _, e⟩ := s.level_shape i on; rw [e]
@[simp] theorem State.level_therm (i : Nat) (on : Bool) (s : State) : (s.level i on).therm = s.therm := by
  obtain ⟨_, _, _, e⟩ := s.level_shape i on; rw [e]
@[simp] theorem State.level_simmer (i : Nat) (on : Bool) (s : State) : (s.level i on).simmer = s.simmer := by
  obtain ⟨_, _, _, e⟩ := s.level_shape i on; rw [e]
@[simp] theorem State.level_dram (i : Nat) (on : Bool) (s : State) : (s.level i on).dram = s.dram := by
  obtain ⟨_, _, _, e⟩ := s.level_shape i on; rw [e]
@[simp] theorem State.level_pantry (i : Nat) (on : Bool) (s : State) : (s.level i on).pantry = s.pantry := by
  obtain ⟨_, _, _, e⟩ := s.level_shape i on; rw [e]
@[simp] theorem State.level_dma (i : Nat) (on : Bool) (s : State) : (s.level i on).dma = s.dma := by
  obtain ⟨_, _, _, e⟩ := s.level_shape i on; rw [e]
@[simp] theorem State.level_sec (i : Nat) (on : Bool) (s : State) : (s.level i on).sec = s.sec := by
  obtain ⟨_, _, _, e⟩ := s.level_shape i on; rw [e]
@[simp] theorem State.level_cpu (i : Nat) (on : Bool) (s : State) : (s.level i on).cpu = s.cpu := by
  obtain ⟨_, _, _, e⟩ := s.level_shape i on; rw [e]
@[simp] theorem State.level_diag (i : Nat) (on : Bool) (s : State) : (s.level i on).diag = s.diag := by
  obtain ⟨_, _, _, e⟩ := s.level_shape i on; rw [e]
@[simp] theorem State.level_fresh (i : Nat) (on : Bool) (s : State) : (s.level i on).fresh = s.fresh := by
  obtain ⟨_, _, _, e⟩ := s.level_shape i on; rw [e]
@[simp] theorem State.level_pending (i : Nat) (on : Bool) (s : State) : (s.level i on).pending = s.pending := by
  obtain ⟨_, _, _, e⟩ := s.level_shape i on; rw [e]

/-! ### `State.settle` changes `ev` and `host` and `mode`. -/

/-- What bringing the level sources up to date can change (R638, R640, R641). -/
theorem State.settle_shape (s : State) : ∃ e h m, s.settle = { s with ev := e, host := h, mode := m } := by
  unfold State.settle
  generalize s.levels = l
  generalize (s.mode.mode == .boot) = b
  induction l generalizing s with
  | nil => exact ⟨_, _, _, rfl⟩
  | cons x l ih =>
    obtain ⟨e, h, m, eq⟩ := State.level_shape x.1 (x.2 && !b) s
    rw [List.foldl_cons, State.settleOne, eq]
    obtain ⟨e', h', m', eq'⟩ := ih { s with ev := e, host := h, mode := m }
    exact ⟨e', h', m', by rw [eq']⟩

@[simp] theorem State.settle_now (s : State) : (s.settle).now = s.now := by
  obtain ⟨_, _, _, e⟩ := s.settle_shape; rw [e]
@[simp] theorem State.settle_board (s : State) : (s.settle).board = s.board := by
  obtain ⟨_, _, _, e⟩ := s.settle_shape; rw [e]
@[simp] theorem State.settle_rst (s : State) : (s.settle).rst = s.rst := by
  obtain ⟨_, _, _, e⟩ := s.settle_shape; rw [e]
@[simp] theorem State.settle_clk (s : State) : (s.settle).clk = s.clk := by
  obtain ⟨_, _, _, e⟩ := s.settle_shape; rw [e]
@[simp] theorem State.settle_ports (s : State) : (s.settle).ports = s.ports := by
  obtain ⟨_, _, _, e⟩ := s.settle_shape; rw [e]
@[simp] theorem State.settle_lt (s : State) : (s.settle).lt = s.lt := by
  obtain ⟨_, _, _, e⟩ := s.settle_shape; rw [e]
@[simp] theorem State.settle_uzs (s : State) : (s.settle).uzs = s.uzs := by
  obtain ⟨_, _, _, e⟩ := s.settle_shape; rw [e]
@[simp] theorem State.settle_ring (s : State) : (s.settle).ring = s.ring := by
  obtain ⟨_, _, _, e⟩ := s.settle_shape; rw [e]
@[simp] theorem State.settle_banks (s : State) : (s.settle).banks = s.banks := by
  obtain ⟨_, _, _, e⟩ := s.settle_shape; rw [e]
@[simp] theorem State.settle_active (s : State) : (s.settle).active = s.active := by
  obtain ⟨_, _, _, e⟩ := s.settle_shape; rw [e]
@[simp] theorem State.settle_shadow (s : State) : (s.settle).shadow = s.shadow := by
  obtain ⟨_, _, _, e⟩ := s.settle_shape; rw [e]
@[simp] theorem State.settle_staged (s : State) : (s.settle).staged = s.staged := by
  obtain ⟨_, _, _, e⟩ := s.settle_shape; rw [e]
@[simp] theorem State.settle_lines (s : State) : (s.settle).lines = s.lines := by
  obtain ⟨_, _, _, e⟩ := s.settle_shape; rw [e]
@[simp] theorem State.settle_shd (s : State) : (s.settle).shd = s.shd := by
  obtain ⟨_, _, _, e⟩ := s.settle_shape; rw [e]
@[simp] theorem State.settle_aln (s : State) : (s.settle).aln = s.aln := by
  obtain ⟨_, _, _, e⟩ := s.settle_shape; rw [e]
@[simp] theorem State.settle_sv (s : State) : (s.settle).sv = s.sv := by
  obtain ⟨_, _, _, e⟩ := s.settle_shape; rw [e]
@[simp] theorem State.settle_skl (s : State) : (s.settle).skl = s.skl := by
  obtain ⟨_, _, _, e⟩ := s.settle_shape; rw [e]
@[simp] theorem State.settle_ilm (s : State) : (s.settle).ilm = s.ilm := by
  obtain ⟨_, _, _, e⟩ := s.settle_shape; rw [e]
@[simp] theorem State.settle_axes (s : State) : (s.settle).axes = s.axes := by
  obtain ⟨_, _, _, e⟩ := s.settle_shape; rw [e]
@[simp] theorem State.settle_madc (s : State) : (s.settle).madc = s.madc := by
  obtain ⟨_, _, _, e⟩ := s.settle_shape; rw [e]
@[simp] theorem State.settle_therm (s : State) : (s.settle).therm = s.therm := by
  obtain ⟨_, _, _, e⟩ := s.settle_shape; rw [e]
@[simp] theorem State.settle_simmer (s : State) : (s.settle).simmer = s.simmer := by
  obtain ⟨_, _, _, e⟩ := s.settle_shape; rw [e]
@[simp] theorem State.settle_dram (s : State) : (s.settle).dram = s.dram := by
  obtain ⟨_, _, _, e⟩ := s.settle_shape; rw [e]
@[simp] theorem State.settle_pantry (s : State) : (s.settle).pantry = s.pantry := by
  obtain ⟨_, _, _, e⟩ := s.settle_shape; rw [e]
@[simp] theorem State.settle_dma (s : State) : (s.settle).dma = s.dma := by
  obtain ⟨_, _, _, e⟩ := s.settle_shape; rw [e]
@[simp] theorem State.settle_sec (s : State) : (s.settle).sec = s.sec := by
  obtain ⟨_, _, _, e⟩ := s.settle_shape; rw [e]
@[simp] theorem State.settle_cpu (s : State) : (s.settle).cpu = s.cpu := by
  obtain ⟨_, _, _, e⟩ := s.settle_shape; rw [e]
@[simp] theorem State.settle_diag (s : State) : (s.settle).diag = s.diag := by
  obtain ⟨_, _, _, e⟩ := s.settle_shape; rw [e]
@[simp] theorem State.settle_fresh (s : State) : (s.settle).fresh = s.fresh := by
  obtain ⟨_, _, _, e⟩ := s.settle_shape; rw [e]
@[simp] theorem State.settle_pending (s : State) : (s.settle).pending = s.pending := by
  obtain ⟨_, _, _, e⟩ := s.settle_shape; rw [e]

/-! ### `State.fetched` changes `dram`. -/

/-- Reading a payload changes the DRAM controller alone. -/
theorem State.fetched_shape (h : Hdr) (s : State) : ∃ d, s.fetched h = { s with dram := d } := by
  unfold State.fetched
  split <;> exact ⟨_, rfl⟩

@[simp] theorem State.fetched_now (h : Hdr) (s : State) : (s.fetched h).now = s.now := by
  obtain ⟨_, e⟩ := s.fetched_shape h; rw [e]
@[simp] theorem State.fetched_board (h : Hdr) (s : State) : (s.fetched h).board = s.board := by
  obtain ⟨_, e⟩ := s.fetched_shape h; rw [e]
@[simp] theorem State.fetched_mode (h : Hdr) (s : State) : (s.fetched h).mode = s.mode := by
  obtain ⟨_, e⟩ := s.fetched_shape h; rw [e]
@[simp] theorem State.fetched_rst (h : Hdr) (s : State) : (s.fetched h).rst = s.rst := by
  obtain ⟨_, e⟩ := s.fetched_shape h; rw [e]
@[simp] theorem State.fetched_clk (h : Hdr) (s : State) : (s.fetched h).clk = s.clk := by
  obtain ⟨_, e⟩ := s.fetched_shape h; rw [e]
@[simp] theorem State.fetched_ports (h : Hdr) (s : State) : (s.fetched h).ports = s.ports := by
  obtain ⟨_, e⟩ := s.fetched_shape h; rw [e]
@[simp] theorem State.fetched_lt (h : Hdr) (s : State) : (s.fetched h).lt = s.lt := by
  obtain ⟨_, e⟩ := s.fetched_shape h; rw [e]
@[simp] theorem State.fetched_uzs (h : Hdr) (s : State) : (s.fetched h).uzs = s.uzs := by
  obtain ⟨_, e⟩ := s.fetched_shape h; rw [e]
@[simp] theorem State.fetched_ring (h : Hdr) (s : State) : (s.fetched h).ring = s.ring := by
  obtain ⟨_, e⟩ := s.fetched_shape h; rw [e]
@[simp] theorem State.fetched_banks (h : Hdr) (s : State) : (s.fetched h).banks = s.banks := by
  obtain ⟨_, e⟩ := s.fetched_shape h; rw [e]
@[simp] theorem State.fetched_active (h : Hdr) (s : State) : (s.fetched h).active = s.active := by
  obtain ⟨_, e⟩ := s.fetched_shape h; rw [e]
@[simp] theorem State.fetched_shadow (h : Hdr) (s : State) : (s.fetched h).shadow = s.shadow := by
  obtain ⟨_, e⟩ := s.fetched_shape h; rw [e]
@[simp] theorem State.fetched_staged (h : Hdr) (s : State) : (s.fetched h).staged = s.staged := by
  obtain ⟨_, e⟩ := s.fetched_shape h; rw [e]
@[simp] theorem State.fetched_lines (h : Hdr) (s : State) : (s.fetched h).lines = s.lines := by
  obtain ⟨_, e⟩ := s.fetched_shape h; rw [e]
@[simp] theorem State.fetched_shd (h : Hdr) (s : State) : (s.fetched h).shd = s.shd := by
  obtain ⟨_, e⟩ := s.fetched_shape h; rw [e]
@[simp] theorem State.fetched_aln (h : Hdr) (s : State) : (s.fetched h).aln = s.aln := by
  obtain ⟨_, e⟩ := s.fetched_shape h; rw [e]
@[simp] theorem State.fetched_sv (h : Hdr) (s : State) : (s.fetched h).sv = s.sv := by
  obtain ⟨_, e⟩ := s.fetched_shape h; rw [e]
@[simp] theorem State.fetched_skl (h : Hdr) (s : State) : (s.fetched h).skl = s.skl := by
  obtain ⟨_, e⟩ := s.fetched_shape h; rw [e]
@[simp] theorem State.fetched_ilm (h : Hdr) (s : State) : (s.fetched h).ilm = s.ilm := by
  obtain ⟨_, e⟩ := s.fetched_shape h; rw [e]
@[simp] theorem State.fetched_axes (h : Hdr) (s : State) : (s.fetched h).axes = s.axes := by
  obtain ⟨_, e⟩ := s.fetched_shape h; rw [e]
@[simp] theorem State.fetched_madc (h : Hdr) (s : State) : (s.fetched h).madc = s.madc := by
  obtain ⟨_, e⟩ := s.fetched_shape h; rw [e]
@[simp] theorem State.fetched_therm (h : Hdr) (s : State) : (s.fetched h).therm = s.therm := by
  obtain ⟨_, e⟩ := s.fetched_shape h; rw [e]
@[simp] theorem State.fetched_simmer (h : Hdr) (s : State) : (s.fetched h).simmer = s.simmer := by
  obtain ⟨_, e⟩ := s.fetched_shape h; rw [e]
@[simp] theorem State.fetched_pantry (h : Hdr) (s : State) : (s.fetched h).pantry = s.pantry := by
  obtain ⟨_, e⟩ := s.fetched_shape h; rw [e]
@[simp] theorem State.fetched_dma (h : Hdr) (s : State) : (s.fetched h).dma = s.dma := by
  obtain ⟨_, e⟩ := s.fetched_shape h; rw [e]
@[simp] theorem State.fetched_host (h : Hdr) (s : State) : (s.fetched h).host = s.host := by
  obtain ⟨_, e⟩ := s.fetched_shape h; rw [e]
@[simp] theorem State.fetched_ev (h : Hdr) (s : State) : (s.fetched h).ev = s.ev := by
  obtain ⟨_, e⟩ := s.fetched_shape h; rw [e]
@[simp] theorem State.fetched_sec (h : Hdr) (s : State) : (s.fetched h).sec = s.sec := by
  obtain ⟨_, e⟩ := s.fetched_shape h; rw [e]
@[simp] theorem State.fetched_cpu (h : Hdr) (s : State) : (s.fetched h).cpu = s.cpu := by
  obtain ⟨_, e⟩ := s.fetched_shape h; rw [e]
@[simp] theorem State.fetched_diag (h : Hdr) (s : State) : (s.fetched h).diag = s.diag := by
  obtain ⟨_, e⟩ := s.fetched_shape h; rw [e]
@[simp] theorem State.fetched_fresh (h : Hdr) (s : State) : (s.fetched h).fresh = s.fresh := by
  obtain ⟨_, e⟩ := s.fetched_shape h; rw [e]
@[simp] theorem State.fetched_pending (h : Hdr) (s : State) : (s.fetched h).pending = s.pending := by
  obtain ⟨_, e⟩ := s.fetched_shape h; rw [e]

/-! ### `State.finish` changes `host` and `dram`. -/

/-- The end of a command changes its context, and memory where a result goes to the payload buffer (R546). -/
theorem State.finish_shape (n : Nat) (st : OpState) (code : Nat) (data pay : List Byte) (s : State) :
    ∃ h d, s.finish n st code data pay = { s with host := h, dram := d } := by
  unfold State.finish
  split
  · exact ⟨_, _, rfl⟩
  · dsimp only
    generalize decide (pay.length ≤ s.bufSize n) = f
    generalize (f && !pay.isEmpty) = g
    split <;> cases g <;> exact ⟨_, _, rfl⟩

@[simp] theorem State.finish_now (n : Nat) (st : OpState) (code : Nat) (data pay : List Byte) (s : State) : (s.finish n st code data pay).now = s.now := by
  obtain ⟨_, _, e⟩ := s.finish_shape n st code data pay; rw [e]
@[simp] theorem State.finish_board (n : Nat) (st : OpState) (code : Nat) (data pay : List Byte) (s : State) : (s.finish n st code data pay).board = s.board := by
  obtain ⟨_, _, e⟩ := s.finish_shape n st code data pay; rw [e]
@[simp] theorem State.finish_mode (n : Nat) (st : OpState) (code : Nat) (data pay : List Byte) (s : State) : (s.finish n st code data pay).mode = s.mode := by
  obtain ⟨_, _, e⟩ := s.finish_shape n st code data pay; rw [e]
@[simp] theorem State.finish_rst (n : Nat) (st : OpState) (code : Nat) (data pay : List Byte) (s : State) : (s.finish n st code data pay).rst = s.rst := by
  obtain ⟨_, _, e⟩ := s.finish_shape n st code data pay; rw [e]
@[simp] theorem State.finish_clk (n : Nat) (st : OpState) (code : Nat) (data pay : List Byte) (s : State) : (s.finish n st code data pay).clk = s.clk := by
  obtain ⟨_, _, e⟩ := s.finish_shape n st code data pay; rw [e]
@[simp] theorem State.finish_ports (n : Nat) (st : OpState) (code : Nat) (data pay : List Byte) (s : State) : (s.finish n st code data pay).ports = s.ports := by
  obtain ⟨_, _, e⟩ := s.finish_shape n st code data pay; rw [e]
@[simp] theorem State.finish_lt (n : Nat) (st : OpState) (code : Nat) (data pay : List Byte) (s : State) : (s.finish n st code data pay).lt = s.lt := by
  obtain ⟨_, _, e⟩ := s.finish_shape n st code data pay; rw [e]
@[simp] theorem State.finish_uzs (n : Nat) (st : OpState) (code : Nat) (data pay : List Byte) (s : State) : (s.finish n st code data pay).uzs = s.uzs := by
  obtain ⟨_, _, e⟩ := s.finish_shape n st code data pay; rw [e]
@[simp] theorem State.finish_ring (n : Nat) (st : OpState) (code : Nat) (data pay : List Byte) (s : State) : (s.finish n st code data pay).ring = s.ring := by
  obtain ⟨_, _, e⟩ := s.finish_shape n st code data pay; rw [e]
@[simp] theorem State.finish_banks (n : Nat) (st : OpState) (code : Nat) (data pay : List Byte) (s : State) : (s.finish n st code data pay).banks = s.banks := by
  obtain ⟨_, _, e⟩ := s.finish_shape n st code data pay; rw [e]
@[simp] theorem State.finish_active (n : Nat) (st : OpState) (code : Nat) (data pay : List Byte) (s : State) : (s.finish n st code data pay).active = s.active := by
  obtain ⟨_, _, e⟩ := s.finish_shape n st code data pay; rw [e]
@[simp] theorem State.finish_shadow (n : Nat) (st : OpState) (code : Nat) (data pay : List Byte) (s : State) : (s.finish n st code data pay).shadow = s.shadow := by
  obtain ⟨_, _, e⟩ := s.finish_shape n st code data pay; rw [e]
@[simp] theorem State.finish_staged (n : Nat) (st : OpState) (code : Nat) (data pay : List Byte) (s : State) : (s.finish n st code data pay).staged = s.staged := by
  obtain ⟨_, _, e⟩ := s.finish_shape n st code data pay; rw [e]
@[simp] theorem State.finish_lines (n : Nat) (st : OpState) (code : Nat) (data pay : List Byte) (s : State) : (s.finish n st code data pay).lines = s.lines := by
  obtain ⟨_, _, e⟩ := s.finish_shape n st code data pay; rw [e]
@[simp] theorem State.finish_shd (n : Nat) (st : OpState) (code : Nat) (data pay : List Byte) (s : State) : (s.finish n st code data pay).shd = s.shd := by
  obtain ⟨_, _, e⟩ := s.finish_shape n st code data pay; rw [e]
@[simp] theorem State.finish_aln (n : Nat) (st : OpState) (code : Nat) (data pay : List Byte) (s : State) : (s.finish n st code data pay).aln = s.aln := by
  obtain ⟨_, _, e⟩ := s.finish_shape n st code data pay; rw [e]
@[simp] theorem State.finish_sv (n : Nat) (st : OpState) (code : Nat) (data pay : List Byte) (s : State) : (s.finish n st code data pay).sv = s.sv := by
  obtain ⟨_, _, e⟩ := s.finish_shape n st code data pay; rw [e]
@[simp] theorem State.finish_skl (n : Nat) (st : OpState) (code : Nat) (data pay : List Byte) (s : State) : (s.finish n st code data pay).skl = s.skl := by
  obtain ⟨_, _, e⟩ := s.finish_shape n st code data pay; rw [e]
@[simp] theorem State.finish_ilm (n : Nat) (st : OpState) (code : Nat) (data pay : List Byte) (s : State) : (s.finish n st code data pay).ilm = s.ilm := by
  obtain ⟨_, _, e⟩ := s.finish_shape n st code data pay; rw [e]
@[simp] theorem State.finish_axes (n : Nat) (st : OpState) (code : Nat) (data pay : List Byte) (s : State) : (s.finish n st code data pay).axes = s.axes := by
  obtain ⟨_, _, e⟩ := s.finish_shape n st code data pay; rw [e]
@[simp] theorem State.finish_madc (n : Nat) (st : OpState) (code : Nat) (data pay : List Byte) (s : State) : (s.finish n st code data pay).madc = s.madc := by
  obtain ⟨_, _, e⟩ := s.finish_shape n st code data pay; rw [e]
@[simp] theorem State.finish_therm (n : Nat) (st : OpState) (code : Nat) (data pay : List Byte) (s : State) : (s.finish n st code data pay).therm = s.therm := by
  obtain ⟨_, _, e⟩ := s.finish_shape n st code data pay; rw [e]
@[simp] theorem State.finish_simmer (n : Nat) (st : OpState) (code : Nat) (data pay : List Byte) (s : State) : (s.finish n st code data pay).simmer = s.simmer := by
  obtain ⟨_, _, e⟩ := s.finish_shape n st code data pay; rw [e]
@[simp] theorem State.finish_pantry (n : Nat) (st : OpState) (code : Nat) (data pay : List Byte) (s : State) : (s.finish n st code data pay).pantry = s.pantry := by
  obtain ⟨_, _, e⟩ := s.finish_shape n st code data pay; rw [e]
@[simp] theorem State.finish_dma (n : Nat) (st : OpState) (code : Nat) (data pay : List Byte) (s : State) : (s.finish n st code data pay).dma = s.dma := by
  obtain ⟨_, _, e⟩ := s.finish_shape n st code data pay; rw [e]
@[simp] theorem State.finish_ev (n : Nat) (st : OpState) (code : Nat) (data pay : List Byte) (s : State) : (s.finish n st code data pay).ev = s.ev := by
  obtain ⟨_, _, e⟩ := s.finish_shape n st code data pay; rw [e]
@[simp] theorem State.finish_sec (n : Nat) (st : OpState) (code : Nat) (data pay : List Byte) (s : State) : (s.finish n st code data pay).sec = s.sec := by
  obtain ⟨_, _, e⟩ := s.finish_shape n st code data pay; rw [e]
@[simp] theorem State.finish_cpu (n : Nat) (st : OpState) (code : Nat) (data pay : List Byte) (s : State) : (s.finish n st code data pay).cpu = s.cpu := by
  obtain ⟨_, _, e⟩ := s.finish_shape n st code data pay; rw [e]
@[simp] theorem State.finish_diag (n : Nat) (st : OpState) (code : Nat) (data pay : List Byte) (s : State) : (s.finish n st code data pay).diag = s.diag := by
  obtain ⟨_, _, e⟩ := s.finish_shape n st code data pay; rw [e]
@[simp] theorem State.finish_fresh (n : Nat) (st : OpState) (code : Nat) (data pay : List Byte) (s : State) : (s.finish n st code data pay).fresh = s.fresh := by
  obtain ⟨_, _, e⟩ := s.finish_shape n st code data pay; rw [e]
@[simp] theorem State.finish_pending (n : Nat) (st : OpState) (code : Nat) (data pay : List Byte) (s : State) : (s.finish n st code data pay).pending = s.pending := by
  obtain ⟨_, _, e⟩ := s.finish_shape n st code data pay; rw [e]

/-! ### `State.done` changes `host` and `dram`. -/

theorem State.done_shape (n : Nat) (data : List Byte) (s : State) :
    ∃ h d, s.done n data = { s with host := h, dram := d } := State.finish_shape ..

@[simp] theorem State.done_now (n : Nat) (data : List Byte) (s : State) : (s.done n data).now = s.now := by
  obtain ⟨_, _, e⟩ := s.done_shape n data; rw [e]
@[simp] theorem State.done_board (n : Nat) (data : List Byte) (s : State) : (s.done n data).board = s.board := by
  obtain ⟨_, _, e⟩ := s.done_shape n data; rw [e]
@[simp] theorem State.done_mode (n : Nat) (data : List Byte) (s : State) : (s.done n data).mode = s.mode := by
  obtain ⟨_, _, e⟩ := s.done_shape n data; rw [e]
@[simp] theorem State.done_rst (n : Nat) (data : List Byte) (s : State) : (s.done n data).rst = s.rst := by
  obtain ⟨_, _, e⟩ := s.done_shape n data; rw [e]
@[simp] theorem State.done_clk (n : Nat) (data : List Byte) (s : State) : (s.done n data).clk = s.clk := by
  obtain ⟨_, _, e⟩ := s.done_shape n data; rw [e]
@[simp] theorem State.done_ports (n : Nat) (data : List Byte) (s : State) : (s.done n data).ports = s.ports := by
  obtain ⟨_, _, e⟩ := s.done_shape n data; rw [e]
@[simp] theorem State.done_lt (n : Nat) (data : List Byte) (s : State) : (s.done n data).lt = s.lt := by
  obtain ⟨_, _, e⟩ := s.done_shape n data; rw [e]
@[simp] theorem State.done_uzs (n : Nat) (data : List Byte) (s : State) : (s.done n data).uzs = s.uzs := by
  obtain ⟨_, _, e⟩ := s.done_shape n data; rw [e]
@[simp] theorem State.done_ring (n : Nat) (data : List Byte) (s : State) : (s.done n data).ring = s.ring := by
  obtain ⟨_, _, e⟩ := s.done_shape n data; rw [e]
@[simp] theorem State.done_banks (n : Nat) (data : List Byte) (s : State) : (s.done n data).banks = s.banks := by
  obtain ⟨_, _, e⟩ := s.done_shape n data; rw [e]
@[simp] theorem State.done_active (n : Nat) (data : List Byte) (s : State) : (s.done n data).active = s.active := by
  obtain ⟨_, _, e⟩ := s.done_shape n data; rw [e]
@[simp] theorem State.done_shadow (n : Nat) (data : List Byte) (s : State) : (s.done n data).shadow = s.shadow := by
  obtain ⟨_, _, e⟩ := s.done_shape n data; rw [e]
@[simp] theorem State.done_staged (n : Nat) (data : List Byte) (s : State) : (s.done n data).staged = s.staged := by
  obtain ⟨_, _, e⟩ := s.done_shape n data; rw [e]
@[simp] theorem State.done_lines (n : Nat) (data : List Byte) (s : State) : (s.done n data).lines = s.lines := by
  obtain ⟨_, _, e⟩ := s.done_shape n data; rw [e]
@[simp] theorem State.done_shd (n : Nat) (data : List Byte) (s : State) : (s.done n data).shd = s.shd := by
  obtain ⟨_, _, e⟩ := s.done_shape n data; rw [e]
@[simp] theorem State.done_aln (n : Nat) (data : List Byte) (s : State) : (s.done n data).aln = s.aln := by
  obtain ⟨_, _, e⟩ := s.done_shape n data; rw [e]
@[simp] theorem State.done_sv (n : Nat) (data : List Byte) (s : State) : (s.done n data).sv = s.sv := by
  obtain ⟨_, _, e⟩ := s.done_shape n data; rw [e]
@[simp] theorem State.done_skl (n : Nat) (data : List Byte) (s : State) : (s.done n data).skl = s.skl := by
  obtain ⟨_, _, e⟩ := s.done_shape n data; rw [e]
@[simp] theorem State.done_ilm (n : Nat) (data : List Byte) (s : State) : (s.done n data).ilm = s.ilm := by
  obtain ⟨_, _, e⟩ := s.done_shape n data; rw [e]
@[simp] theorem State.done_axes (n : Nat) (data : List Byte) (s : State) : (s.done n data).axes = s.axes := by
  obtain ⟨_, _, e⟩ := s.done_shape n data; rw [e]
@[simp] theorem State.done_madc (n : Nat) (data : List Byte) (s : State) : (s.done n data).madc = s.madc := by
  obtain ⟨_, _, e⟩ := s.done_shape n data; rw [e]
@[simp] theorem State.done_therm (n : Nat) (data : List Byte) (s : State) : (s.done n data).therm = s.therm := by
  obtain ⟨_, _, e⟩ := s.done_shape n data; rw [e]
@[simp] theorem State.done_simmer (n : Nat) (data : List Byte) (s : State) : (s.done n data).simmer = s.simmer := by
  obtain ⟨_, _, e⟩ := s.done_shape n data; rw [e]
@[simp] theorem State.done_pantry (n : Nat) (data : List Byte) (s : State) : (s.done n data).pantry = s.pantry := by
  obtain ⟨_, _, e⟩ := s.done_shape n data; rw [e]
@[simp] theorem State.done_dma (n : Nat) (data : List Byte) (s : State) : (s.done n data).dma = s.dma := by
  obtain ⟨_, _, e⟩ := s.done_shape n data; rw [e]
@[simp] theorem State.done_ev (n : Nat) (data : List Byte) (s : State) : (s.done n data).ev = s.ev := by
  obtain ⟨_, _, e⟩ := s.done_shape n data; rw [e]
@[simp] theorem State.done_sec (n : Nat) (data : List Byte) (s : State) : (s.done n data).sec = s.sec := by
  obtain ⟨_, _, e⟩ := s.done_shape n data; rw [e]
@[simp] theorem State.done_cpu (n : Nat) (data : List Byte) (s : State) : (s.done n data).cpu = s.cpu := by
  obtain ⟨_, _, e⟩ := s.done_shape n data; rw [e]
@[simp] theorem State.done_diag (n : Nat) (data : List Byte) (s : State) : (s.done n data).diag = s.diag := by
  obtain ⟨_, _, e⟩ := s.done_shape n data; rw [e]
@[simp] theorem State.done_fresh (n : Nat) (data : List Byte) (s : State) : (s.done n data).fresh = s.fresh := by
  obtain ⟨_, _, e⟩ := s.done_shape n data; rw [e]
@[simp] theorem State.done_pending (n : Nat) (data : List Byte) (s : State) : (s.done n data).pending = s.pending := by
  obtain ⟨_, _, e⟩ := s.done_shape n data; rw [e]

/-! ### `State.failWith` changes `host` and `dram`. -/

theorem State.failWith_shape (n code : Nat) (s : State) :
    ∃ h d, s.failWith n code = { s with host := h, dram := d } := State.finish_shape ..

@[simp] theorem State.failWith_now (n code : Nat) (s : State) : (s.failWith n code).now = s.now := by
  obtain ⟨_, _, e⟩ := s.failWith_shape n code; rw [e]
@[simp] theorem State.failWith_board (n code : Nat) (s : State) : (s.failWith n code).board = s.board := by
  obtain ⟨_, _, e⟩ := s.failWith_shape n code; rw [e]
@[simp] theorem State.failWith_mode (n code : Nat) (s : State) : (s.failWith n code).mode = s.mode := by
  obtain ⟨_, _, e⟩ := s.failWith_shape n code; rw [e]
@[simp] theorem State.failWith_rst (n code : Nat) (s : State) : (s.failWith n code).rst = s.rst := by
  obtain ⟨_, _, e⟩ := s.failWith_shape n code; rw [e]
@[simp] theorem State.failWith_clk (n code : Nat) (s : State) : (s.failWith n code).clk = s.clk := by
  obtain ⟨_, _, e⟩ := s.failWith_shape n code; rw [e]
@[simp] theorem State.failWith_ports (n code : Nat) (s : State) : (s.failWith n code).ports = s.ports := by
  obtain ⟨_, _, e⟩ := s.failWith_shape n code; rw [e]
@[simp] theorem State.failWith_lt (n code : Nat) (s : State) : (s.failWith n code).lt = s.lt := by
  obtain ⟨_, _, e⟩ := s.failWith_shape n code; rw [e]
@[simp] theorem State.failWith_uzs (n code : Nat) (s : State) : (s.failWith n code).uzs = s.uzs := by
  obtain ⟨_, _, e⟩ := s.failWith_shape n code; rw [e]
@[simp] theorem State.failWith_ring (n code : Nat) (s : State) : (s.failWith n code).ring = s.ring := by
  obtain ⟨_, _, e⟩ := s.failWith_shape n code; rw [e]
@[simp] theorem State.failWith_banks (n code : Nat) (s : State) : (s.failWith n code).banks = s.banks := by
  obtain ⟨_, _, e⟩ := s.failWith_shape n code; rw [e]
@[simp] theorem State.failWith_active (n code : Nat) (s : State) : (s.failWith n code).active = s.active := by
  obtain ⟨_, _, e⟩ := s.failWith_shape n code; rw [e]
@[simp] theorem State.failWith_shadow (n code : Nat) (s : State) : (s.failWith n code).shadow = s.shadow := by
  obtain ⟨_, _, e⟩ := s.failWith_shape n code; rw [e]
@[simp] theorem State.failWith_staged (n code : Nat) (s : State) : (s.failWith n code).staged = s.staged := by
  obtain ⟨_, _, e⟩ := s.failWith_shape n code; rw [e]
@[simp] theorem State.failWith_lines (n code : Nat) (s : State) : (s.failWith n code).lines = s.lines := by
  obtain ⟨_, _, e⟩ := s.failWith_shape n code; rw [e]
@[simp] theorem State.failWith_shd (n code : Nat) (s : State) : (s.failWith n code).shd = s.shd := by
  obtain ⟨_, _, e⟩ := s.failWith_shape n code; rw [e]
@[simp] theorem State.failWith_aln (n code : Nat) (s : State) : (s.failWith n code).aln = s.aln := by
  obtain ⟨_, _, e⟩ := s.failWith_shape n code; rw [e]
@[simp] theorem State.failWith_sv (n code : Nat) (s : State) : (s.failWith n code).sv = s.sv := by
  obtain ⟨_, _, e⟩ := s.failWith_shape n code; rw [e]
@[simp] theorem State.failWith_skl (n code : Nat) (s : State) : (s.failWith n code).skl = s.skl := by
  obtain ⟨_, _, e⟩ := s.failWith_shape n code; rw [e]
@[simp] theorem State.failWith_ilm (n code : Nat) (s : State) : (s.failWith n code).ilm = s.ilm := by
  obtain ⟨_, _, e⟩ := s.failWith_shape n code; rw [e]
@[simp] theorem State.failWith_axes (n code : Nat) (s : State) : (s.failWith n code).axes = s.axes := by
  obtain ⟨_, _, e⟩ := s.failWith_shape n code; rw [e]
@[simp] theorem State.failWith_madc (n code : Nat) (s : State) : (s.failWith n code).madc = s.madc := by
  obtain ⟨_, _, e⟩ := s.failWith_shape n code; rw [e]
@[simp] theorem State.failWith_therm (n code : Nat) (s : State) : (s.failWith n code).therm = s.therm := by
  obtain ⟨_, _, e⟩ := s.failWith_shape n code; rw [e]
@[simp] theorem State.failWith_simmer (n code : Nat) (s : State) : (s.failWith n code).simmer = s.simmer := by
  obtain ⟨_, _, e⟩ := s.failWith_shape n code; rw [e]
@[simp] theorem State.failWith_pantry (n code : Nat) (s : State) : (s.failWith n code).pantry = s.pantry := by
  obtain ⟨_, _, e⟩ := s.failWith_shape n code; rw [e]
@[simp] theorem State.failWith_dma (n code : Nat) (s : State) : (s.failWith n code).dma = s.dma := by
  obtain ⟨_, _, e⟩ := s.failWith_shape n code; rw [e]
@[simp] theorem State.failWith_ev (n code : Nat) (s : State) : (s.failWith n code).ev = s.ev := by
  obtain ⟨_, _, e⟩ := s.failWith_shape n code; rw [e]
@[simp] theorem State.failWith_sec (n code : Nat) (s : State) : (s.failWith n code).sec = s.sec := by
  obtain ⟨_, _, e⟩ := s.failWith_shape n code; rw [e]
@[simp] theorem State.failWith_cpu (n code : Nat) (s : State) : (s.failWith n code).cpu = s.cpu := by
  obtain ⟨_, _, e⟩ := s.failWith_shape n code; rw [e]
@[simp] theorem State.failWith_diag (n code : Nat) (s : State) : (s.failWith n code).diag = s.diag := by
  obtain ⟨_, _, e⟩ := s.failWith_shape n code; rw [e]
@[simp] theorem State.failWith_fresh (n code : Nat) (s : State) : (s.failWith n code).fresh = s.fresh := by
  obtain ⟨_, _, e⟩ := s.failWith_shape n code; rw [e]
@[simp] theorem State.failWith_pending (n code : Nat) (s : State) : (s.failWith n code).pending = s.pending := by
  obtain ⟨_, _, e⟩ := s.failWith_shape n code; rw [e]

end Sys2Proof.Machine
end

