-- ==== Sys2Proof/Laws/Ops.lean ====
section
/-! SUPPORT. What the shared operations do: sparse tables, memory, contexts, signals, and taking and ending a command. -/

namespace Sys2Proof.Machine

/-! ## Sparse tables -/

section Tables

variable {α : Type}

theorem sget_sput_self (d : α) (k : Nat) (v : α) (m : SMap α) : sget d k (sput k v m) = v := by
  induction m with
  | nil => simp [sput, sget]
  | cons x m ih =>
    simp only [sput]
    split
    · simp [sget]
    · split
      · simp [sget]
      · rename_i h; simp [sget, h, ih]

theorem sget_sput_ne (d : α) {k j : Nat} (v : α) (m : SMap α) (h : j ≠ k) : sget d j (sput k v m) = sget d j m := by
  induction m with
  | nil => simp [sput, sget, h.symm]
  | cons x m ih =>
    simp only [sput]
    split
    · simp [sget, h.symm]
    · split
      · rename_i e; simp [sget, e, h.symm]
      · simp [sget, ih]

theorem sget_sdrop_self (d : α) (k : Nat) (m : SMap α) : sget d k (sdrop k m) = d := by
  induction m with
  | nil => rfl
  | cons x m ih =>
    simp only [sdrop]
    split
    · exact ih
    · rename_i h; simp [sget, h, ih]

theorem sget_sdrop_ne (d : α) {k j : Nat} (m : SMap α) (h : j ≠ k) : sget d j (sdrop k m) = sget d j m := by
  induction m with
  | nil => rfl
  | cons x m ih =>
    simp only [sdrop]
    split
    · rename_i e; simp [sget, e, h.symm, ih]
    · simp [sget, ih]

variable [DecidableEq α]

/-- What is written is what is read. -/
@[simp] theorem sget_sset_self (d : α) (k : Nat) (v : α) (m : SMap α) : sget d k (sset d k v m) = v := by
  unfold sset
  split
  · rename_i h; rw [sget_sdrop_self, h]
  · exact sget_sput_self ..

/-- Every other entry reads as before. -/
theorem sget_sset_ne (d : α) {k j : Nat} (v : α) (m : SMap α) (h : j ≠ k) : sget d j (sset d k v m) = sget d j m := by
  unfold sset
  split
  · exact sget_sdrop_ne d m h
  · exact sget_sput_ne d v m h

@[simp] theorem sget_supd_self (d : α) (k : Nat) (f : α → α) (m : SMap α) : sget d k (supd d k f m) = f (sget d k m) :=
  sget_sset_self ..

theorem sget_supd_ne (d : α) {k j : Nat} (f : α → α) (m : SMap α) (h : j ≠ k) : sget d j (supd d k f m) = sget d j m :=
  sget_sset_ne d _ m h

/-- A canonical table is one whose entries differ from the default, with indices that rise beyond every bound before. -/
theorem swf_cons (d : α) (j : Nat) (v : α) (m : SMap α) :
    swf d ((j, v) :: m) = true ↔ v ≠ d ∧ (∀ x ∈ m, j < x.1) ∧ swf d m = true := by
  induction m generalizing j v with
  | nil => simp [swf]
  | cons x m ih =>
    obtain ⟨k, w⟩ := x
    have hk := ih k w
    constructor
    · intro h
      simp only [swf, Bool.and_eq_true, bne_iff_ne, decide_eq_true_eq] at h
      obtain ⟨⟨h1, h2⟩, h3⟩ := h
      refine ⟨h1, ?_, h3⟩
      intro x hx
      rcases List.mem_cons.1 hx with rfl | hx
      · exact h2
      · exact Nat.lt_trans h2 ((hk.1 h3).2.1 x hx)
    · rintro ⟨h1, h2, h3⟩
      simp only [swf, Bool.and_eq_true, bne_iff_ne, decide_eq_true_eq]
      exact ⟨⟨h1, h2 (k, w) (by simp)⟩, h3⟩

omit [DecidableEq α] in
theorem mem_sdrop {k : Nat} {m : SMap α} {x : Nat × α} (h : x ∈ sdrop k m) : x ∈ m ∧ x.1 ≠ k := by
  induction m with
  | nil => simp [sdrop] at h
  | cons y m ih =>
    simp only [sdrop] at h
    split at h
    · exact ⟨List.mem_cons_of_mem _ (ih h).1, (ih h).2⟩
    · rename_i hy
      rcases List.mem_cons.1 h with rfl | h
      · exact ⟨by simp, hy⟩
      · exact ⟨List.mem_cons_of_mem _ (ih h).1, (ih h).2⟩

omit [DecidableEq α] in
theorem mem_sput {k : Nat} {v : α} {m : SMap α} {x : Nat × α} (h : x ∈ sput k v m) : x = (k, v) ∨ x ∈ m := by
  induction m with
  | nil => simpa [sput] using h
  | cons y m ih =>
    simp only [sput] at h
    split at h
    · rcases List.mem_cons.1 h with rfl | h
      · exact .inl rfl
      · exact .inr h
    · split at h
      · rcases List.mem_cons.1 h with rfl | h
        · exact .inl rfl
        · exact .inr (List.mem_cons_of_mem _ h)
      · rcases List.mem_cons.1 h with rfl | h
        · exact .inr (by simp)
        · rcases ih h with rfl | h
          · exact .inl rfl
          · exact .inr (List.mem_cons_of_mem _ h)

theorem swf_sdrop (d : α) (k : Nat) (m : SMap α) (h : swf d m = true) : swf d (sdrop k m) = true := by
  induction m with
  | nil => rfl
  | cons x m ih =>
    obtain ⟨j, w⟩ := x
    obtain ⟨h1, h2, h3⟩ := (swf_cons d j w m).1 h
    simp only [sdrop]
    split
    · exact ih h3
    · exact (swf_cons d j w _).2 ⟨h1, fun x hx => h2 x (mem_sdrop hx).1, ih h3⟩

theorem swf_sput (d : α) (k : Nat) (v : α) (m : SMap α) (hv : v ≠ d) (h : swf d m = true) : swf d (sput k v m) = true := by
  induction m with
  | nil => simpa [sput, swf] using hv
  | cons x m ih =>
    obtain ⟨j, w⟩ := x
    obtain ⟨h1, h2, h3⟩ := (swf_cons d j w m).1 h
    simp only [sput]
    split
    · rename_i hk
      refine (swf_cons d k v _).2 ⟨hv, fun x hx => ?_, h⟩
      rcases List.mem_cons.1 hx with rfl | hx
      · exact hk
      · exact Nat.lt_trans hk (h2 x hx)
    · split
      · rename_i e
        subst e
        exact (swf_cons d j v m).2 ⟨hv, h2, h3⟩
      · refine (swf_cons d j w _).2 ⟨h1, fun x hx => ?_, ih h3⟩
        rcases mem_sput hx with rfl | hx
        · simp only; omega
        · exact h2 x hx

/-- A write keeps a table canonical. -/
theorem swf_sset (d : α) (k : Nat) (v : α) (m : SMap α) (h : swf d m = true) : swf d (sset d k v m) = true := by
  unfold sset
  split
  · exact swf_sdrop d k m h
  · rename_i hv; exact swf_sput d k v m hv h

theorem swf_supd (d : α) (k : Nat) (f : α → α) (m : SMap α) (h : swf d m = true) : swf d (supd d k f m) = true :=
  swf_sset d k _ m h

theorem swf_filter (d : α) (p : Nat × α → Bool) (m : SMap α) (h : swf d m = true) : swf d (m.filter p) = true := by
  induction m with
  | nil => rfl
  | cons x m ih =>
    obtain ⟨j, w⟩ := x
    obtain ⟨h1, h2, h3⟩ := (swf_cons d j w m).1 h
    rw [List.filter_cons]
    split
    · exact (swf_cons d j w _).2 ⟨h1, fun x hx => h2 x (List.mem_filter.1 hx).1, ih h3⟩
    · exact ih h3

end Tables

/-! ## Memory -/

@[simp] theorem memRead_length (a n : Nat) (m : List Host.Cell) : (memRead a n m).length = n := by
  induction n generalizing a with
  | zero => rfl
  | succ n ih => simp [memRead, ih]

/-- Writing bytes keeps the memory canonical. -/
theorem memWrite_wf (a : Nat) (bs : List Byte) (m : List Host.Cell) (h : Memory.wf m = true) : Memory.wf (memWrite a bs m) = true := by
  induction bs generalizing a m with
  | nil => exact h
  | cons b bs ih => exact ih (a + 1) _ (swf_sset 0 a b m h)

/-- Zeroing a range keeps the memory canonical. -/
theorem memZero_wf (a n : Nat) (m : List Host.Cell) (h : Memory.wf m = true) : Memory.wf (memZero a n m) = true :=
  swf_filter 0 _ m h

@[simp] theorem State.dramReq_mem (p : Nat) (w : Bool) (a n : Nat) (s : State) : (s.dramReq p w a n).dram.mem = s.dram.mem := rfl

@[simp] theorem State.dramRead_mem (p a n : Nat) (s : State) : (s.dramRead p a n).2.dram.mem = s.dram.mem := rfl

@[simp] theorem State.dramRead_fst (p a n : Nat) (s : State) : (s.dramRead p a n).1 = memRead a n s.dram.mem := rfl

@[simp] theorem State.dramWrite_mem (p a : Nat) (bs : List Byte) (s : State) : (s.dramWrite p a bs).dram.mem = memWrite a bs s.dram.mem := rfl

@[simp] theorem State.dramWrite_windows (p a : Nat) (bs : List Byte) (s : State) : (s.dramWrite p a bs).dram.windows = s.dram.windows := rfl

/-! ## Parts of the state that are tables -/

@[simp] theorem State.ctx_setCtx_self (n : Nat) (f : Ctx → Ctx) (s : State) : (s.setCtx n f).ctx n = f (s.ctx n) :=
  sget_supd_self ..

theorem State.ctx_setCtx_ne {n k : Nat} (f : Ctx → Ctx) (s : State) (h : k ≠ n) : (s.setCtx n f).ctx k = s.ctx k :=
  sget_supd_ne _ f _ h

@[simp] theorem State.chan_setChan_self (c : Nat) (f : DmaChan → DmaChan) (s : State) : (s.setChan c f).chan c = f (s.chan c) :=
  sget_supd_self ..

theorem State.chan_setChan_ne {c k : Nat} (f : DmaChan → DmaChan) (s : State) (h : k ≠ c) : (s.setChan c f).chan k = s.chan k :=
  sget_supd_ne _ f _ h

@[simp] theorem State.q_setQ_self (n : Nat) (f : Queue → Queue) (s : State) : (s.setQ n f).q n = f (s.q n) := sget_supd_self ..

theorem State.q_setQ_ne {n k : Nat} (f : Queue → Queue) (s : State) (h : k ≠ n) : (s.setQ n f).q k = s.q k :=
  sget_supd_ne _ f _ h

@[simp] theorem State.seg_setSeg_self (p : Nat) (f : PortUnit → PortUnit) (s : State) : (s.setSeg p f).seg p = f (s.seg p) :=
  sget_supd_self ..

theorem State.seg_setSeg_ne {p k : Nat} (f : PortUnit → PortUnit) (s : State) (h : k ≠ p) : (s.setSeg p f).seg k = s.seg k :=
  sget_supd_ne _ f _ h

@[simp] theorem State.die_setDie_self (k : Nat) (f : FeDie → FeDie) (s : State) : (s.setDie k f).die k = f (s.die k) :=
  sget_supd_self ..

theorem State.die_setDie_ne {k j : Nat} (f : FeDie → FeDie) (s : State) (h : j ≠ k) : (s.setDie k f).die j = s.die j :=
  sget_supd_ne _ f _ h

@[simp] theorem State.ch_setCh_self (k c : Nat) (f : Channel → Channel) (s : State) : (s.setCh k c f).ch k c = f (s.ch k c) := by
  simp [State.setCh, State.ch]

@[simp] theorem State.axis_setAx_self (x : Nat) (f : Axis → Axis) (s : State) : (s.setAx x f).axis x = f (s.axis x) :=
  sget_supd_self ..

theorem State.axis_setAx_ne {x k : Nat} (f : Axis → Axis) (s : State) (h : k ≠ x) : (s.setAx x f).axis k = s.axis k :=
  sget_supd_ne _ f _ h

@[simp] theorem State.row_setRow_self (w : Nat) (f : RowUnit → RowUnit) (s : State) : (s.setRow w f).row w = f (s.row w) :=
  sget_supd_self ..

theorem State.row_setRow_ne {w k : Nat} (f : RowUnit → RowUnit) (s : State) (h : k ≠ w) : (s.setRow w f).row k = s.row k :=
  sget_supd_ne _ f _ h

@[simp] theorem State.sensor_setSensor_self (i : Nat) (f : Sensor → Sensor) (s : State) : (s.setSensor i f).sensor i = f (s.sensor i) :=
  sget_supd_self ..

theorem State.sensor_setSensor_ne {i k : Nat} (f : Sensor → Sensor) (s : State) (h : k ≠ i) : (s.setSensor i f).sensor k = s.sensor k :=
  sget_supd_ne _ f _ h

@[simp] theorem State.dch_setDch_self (c : Nat) (f : DramChan → DramChan) (s : State) : (s.setDch c f).dch c = f (s.dch c) :=
  sget_supd_self ..

theorem State.dch_setDch_ne {c k : Nat} (f : DramChan → DramChan) (s : State) (h : k ≠ c) : (s.setDch c f).dch k = s.dch k :=
  sget_supd_ne _ f _ h

@[simp] theorem State.port_setPort_zero (f : HostPort → HostPort) (s : State) : (s.setPort 0 f).port 0 = f (s.port 0) := rfl

@[simp] theorem State.port_setPort_one (f : HostPort → HostPort) (s : State) : (s.setPort 1 f).port 1 = f (s.port 1) := rfl

@[simp] theorem State.conv_setConv_zero (f : Conv → Conv) (s : State) : (s.setConv 0 f).conv 0 = f (s.conv 0) := rfl

@[simp] theorem State.conv_setConv_one (f : Conv → Conv) (s : State) : (s.setConv 1 f).conv 1 = f (s.conv 1) := rfl

/-! ## Signals -/

/-- `t` differs from `s` at most by levels and latches of the event unit, by messages, and by a wake from STANDBY. -/
def State.Signals (s t : State) : Prop := ∃ raw latch out a b tg tr x,
  t = { s with ev := { s.ev with raw := raw, latch := latch },
               host := { s.host with out := out, port0 := { s.host.port0 with msix := a }, port1 := { s.host.port1 with msix := b } },
               mode := { s.mode with target := tg, transit := tr, trans := x } }

theorem State.Signals.refl (s : State) : s.Signals s := ⟨_, _, _, _, _, _, _, _, rfl⟩

theorem State.Signals.trans {s t u : State} (h : s.Signals t) (k : t.Signals u) : s.Signals u := by
  obtain ⟨_, _, _, _, _, _, _, _, rfl⟩ := h
  obtain ⟨_, _, _, _, _, _, _, _, rfl⟩ := k
  exact ⟨_, _, _, _, _, _, _, _, rfl⟩

theorem State.msix_signals (p v : Nat) (s : State) : s.Signals (s.msix p v) := by
  unfold State.msix
  dsimp only
  split
  · unfold State.setPort
    split <;> exact ⟨_, _, _, _, _, _, _, _, rfl⟩
  · split <;> exact ⟨_, _, _, _, _, _, _, _, rfl⟩

theorem State.wake_signals (s : State) : s.Signals s.wake := by
  unfold State.wake
  split <;> exact ⟨_, _, _, _, _, _, _, _, rfl⟩

theorem State.latchSet_signals (i : Nat) (s : State) : s.Signals (s.latchSet i) := by
  have h1 : s.Signals { s with ev := { s.ev with latch := s.ev.latch ||| BitVec.twoPow 256 i } } :=
    ⟨_, _, _, _, _, _, _, _, rfl⟩
  unfold State.latchSet
  dsimp only
  split
  · exact h1
  · split
    · split
      · exact h1.trans (State.wake_signals _)
      · exact h1
    · split
      · exact h1
      · exact h1.trans (State.msix_signals ..)

theorem State.pulse_signals (i : Nat) (s : State) : s.Signals (s.pulse i) := by
  unfold State.pulse
  split
  · exact .refl s
  · exact s.latchSet_signals i

theorem State.pulseIf_signals (c : Bool) (i : Nat) (s : State) : s.Signals (s.pulseIf c i) := by
  unfold State.pulseIf
  split
  · exact s.pulse_signals i
  · exact .refl s

theorem State.level_signals (i : Nat) (on : Bool) (s : State) : s.Signals (s.level i on) := by
  have h1 : ∀ r, s.Signals { s with ev := { s.ev with raw := r } } := fun _ => ⟨_, _, _, _, _, _, _, _, rfl⟩
  unfold State.level
  dsimp only
  split
  · exact (h1 _).trans (State.latchSet_signals ..)
  · exact h1 _

/-- All that bringing the level sources up to date can do (R638, R640, R641). -/
theorem State.settle_signals (s : State) : s.Signals s.settle := by
  unfold State.settle
  generalize s.levels = l
  generalize (s.mode.mode == .boot) = b
  suffices h : ∀ (l : List (Nat × Bool)) (t : State), s.Signals t → s.Signals (l.foldl (State.settleOne b) t) from h l s (.refl s)
  intro l
  induction l with
  | nil => exact fun _ h => h
  | cons x l ih => exact fun t h => ih _ (h.trans (State.level_signals ..))

theorem State.Signals.ctx {s t : State} (h : s.Signals t) (n : Nat) : t.ctx n = s.ctx n := by
  obtain ⟨_, _, _, _, _, _, _, _, rfl⟩ := h; rfl

theorem State.Signals.mode {s t : State} (h : s.Signals t) : t.mode.mode = s.mode.mode := by
  obtain ⟨_, _, _, _, _, _, _, _, rfl⟩ := h; rfl

theorem State.Signals.dram {s t : State} (h : s.Signals t) : t.dram = s.dram := by
  obtain ⟨_, _, _, _, _, _, _, _, rfl⟩ := h; rfl

theorem State.Signals.cpu {s t : State} (h : s.Signals t) : t.cpu = s.cpu := by
  obtain ⟨_, _, _, _, _, _, _, _, rfl⟩ := h; rfl

theorem State.Signals.enables {s t : State} (h : s.Signals t) :
    t.ev.enable = s.ev.enable ∧ t.ev.edge = s.ev.edge ∧ t.ev.route = s.ev.route := by
  obtain ⟨_, _, _, _, _, _, _, _, rfl⟩ := h; exact ⟨rfl, rfl, rfl⟩

@[simp] theorem State.settle_ctx (n : Nat) (s : State) : s.settle.ctx n = s.ctx n := s.settle_signals.ctx n

@[simp] theorem State.settle_mode_mode (s : State) : s.settle.mode.mode = s.mode.mode := s.settle_signals.mode

@[simp] theorem State.pulse_ctx (i n : Nat) (s : State) : (s.pulse i).ctx n = s.ctx n := (s.pulse_signals i).ctx n

@[simp] theorem State.pulse_mode_mode (i : Nat) (s : State) : (s.pulse i).mode.mode = s.mode.mode := (s.pulse_signals i).mode

/-- What a meaning answers is a next state, with the level sources up to date. -/
@[simp] theorem State.out_eq (s : State) : s.out = .next s.settle := rfl

/-- A latch stays set while sources latch. -/
theorem State.latchSet_latch (i : Nat) (s : State) : (s.latchSet i).ev.latch = s.ev.latch ||| BitVec.twoPow 256 i := by
  unfold State.latchSet
  dsimp only
  split
  · rfl
  · split
    · split
      · rw [State.wake_ev]
      · rfl
    · split
      · rfl
      · rw [State.msix_ev]

/-! ## Taking and ending a command -/

/-- The context shows the command as RUNNING, with its SEQ (R542). -/
@[simp] theorem State.begun_ctx (h : Hdr) (op : Nat) (s : State) : (s.begun h op).ctx h.ctx.toNat =
    { s.ctx h.ctx.toNat with cur := some { opcode := op, seq := h.seq, noCpl := h.flags.getLsbD 0 }, opState := .running,
                             result := 0, progress := 0, seq := h.seq, partials := 0 } := State.ctx_setCtx_self ..

theorem State.begun_ctx_ne (h : Hdr) (op : Nat) (s : State) {k : Nat} (e : k ≠ h.ctx.toNat) : (s.begun h op).ctx k = s.ctx k :=
  State.ctx_setCtx_ne _ s e

@[simp] theorem State.atTime_ctx (t n : Nat) (s : State) : (s.atTime t).ctx n = s.ctx n := rfl

@[simp] theorem State.emit_ctx (o : Output) (n : Nat) (s : State) : (s.emit o).ctx n = s.ctx n := rfl

/-- Where no command is in hand, ending one changes nothing. -/
theorem State.finish_of_none {n : Nat} {s : State} (st : OpState) (code : Nat) (data pay : List Byte)
    (h : (s.ctx n).cur = none) : s.finish n st code data pay = s := by
  unfold State.finish; rw [h]

/-- A command without a payload result ends: with a completion entry, the entry waits to be pushed (R546). -/
theorem State.finish_of_entry {n : Nat} {s : State} {c : RunCmd} (st : OpState) (code : Nat) (data : List Byte)
    (h : (s.ctx n).cur = some c) (hc : c.noCpl = false) :
    s.finish n st code data [] = s.setCtx n (fun x => { x with
      cur := none,
      ending := some { opcode := c.opcode, seq := c.seq, state := st, result := BitVec.ofNat 8 code, rlen := 0,
                       data := padTo 48 0 data, noCpl := false } }) := by
  unfold State.finish; rw [h]; simp [hc]

/-- With NO_CPL the final state shows at once (R546). -/
theorem State.finish_of_noCpl {n : Nat} {s : State} {c : RunCmd} (st : OpState) (code : Nat) (data : List Byte)
    (h : (s.ctx n).cur = some c) (hc : c.noCpl = true) :
    s.finish n st code data [] = s.setCtx n (fun x => { x with
      cur := none, ending := none, opState := st, result := BitVec.ofNat 8 code, discard := false }) := by
  unfold State.finish; rw [h]; simp [hc]

/-- A context that cannot take a command is left alone. -/
theorem State.take_of_cannot {h : Hdr} {op : Nat} {cls : List Cls} {modeOk : Bool} {size : Option Nat} {inRange : Bool}
    {body : State → Res} {s : State} (hc : (s.atTime h.t).canTake h.ctx.toNat = false) :
    s.take h op cls modeOk size inRange body = s.atTime h.t := by
  simp [State.take, hc]

/-- A command that a check refuses ends with the code of that check (R545). -/
theorem State.take_of_refused {h : Hdr} {op : Nat} {cls : List Cls} {modeOk : Bool} {size : Option Nat} {inRange : Bool}
    {body : State → Res} {s : State} {code : Nat} (hc : (s.atTime h.t).canTake h.ctx.toNat = true)
    (hv : (s.atTime h.t).verdict h cls modeOk size inRange = some (code, false)) :
    s.take h op cls modeOk size inRange body = ((s.atTime h.t).begun h op).failWith h.ctx.toNat code := by
  simp [State.take, hc, hv]

/-- A command that every check passes does what its body does (R545). -/
theorem State.take_of_accepted {h : Hdr} {op : Nat} {cls : List Cls} {modeOk : Bool} {size : Option Nat} {inRange : Bool}
    {body : State → Res} {s : State} (hc : (s.atTime h.t).canTake h.ctx.toNat = true)
    (hv : (s.atTime h.t).verdict h cls modeOk size inRange = none) :
    s.take h op cls modeOk size inRange body = (body (((s.atTime h.t).begun h op).fetched h)).apply h.ctx.toNat := by
  simp [State.take, hc, hv]

/-- A command without a payload reads none. -/
theorem State.fetched_of_empty {h : Hdr} {s : State} (e : h.plen = 0) : s.fetched h = s := if_pos e

/-- Reading a payload leaves the bytes of memory and the windows as they were. -/
@[simp] theorem State.fetched_mem (h : Hdr) (s : State) : (s.fetched h).dram.mem = s.dram.mem := by
  unfold State.fetched; split <;> rfl

@[simp] theorem State.fetched_windows (h : Hdr) (s : State) : (s.fetched h).dram.windows = s.dram.windows := by
  unfold State.fetched; split <;> rfl

@[simp] theorem State.fetched_ctx (h : Hdr) (n : Nat) (s : State) : (s.fetched h).ctx n = s.ctx n := by
  unfold State.fetched; split <;> rfl

/-! ## Lengths -/

@[simp] theorem le_length (n v : Nat) : (le n v).length = n := by
  induction n generalizing v with
  | zero => rfl
  | succ n ih => simp [le, ih]

@[simp] theorem leS_length (n : Nat) (v : Int) : (leS n v).length = n := le_length ..

@[simp] theorem be_length (n v : Nat) : (be n v).length = n := by simp [be]

@[simp] theorem padTo_length {α : Type} (n : Nat) (d : α) (l : List α) : (padTo n d l).length = n := by
  simp only [padTo, List.length_append, List.length_take, List.length_replicate]; omega

/-- A round keeps eight working variables. -/
theorem ShaState.turn_length (x : ShaState) (k : BitVec 32) (h : x.v.length = 8) : (x.turn k).v.length = 8 := by
  simp [ShaState.turn, h]

theorem shaFold_length (v : List (BitVec 32)) (b : List Byte) (h : v.length = 8) : (shaFold v b).length = 8 := by
  have hr : ∀ (l : List (BitVec 32)) (x : ShaState), x.v.length = 8 → (l.foldl ShaState.turn x).v.length = 8 := by
    intro l
    induction l with
    | nil => exact fun _ h => h
    | cons k l ih => exact fun x hx => ih _ (x.turn_length k hx)
  simp [shaFold, h, hr]

/-- A digest has 32 bytes. -/
@[simp] theorem sha256_length (bs : List Byte) : (sha256 bs).length = 32 := by
  have hf : ∀ (l : List (List Byte)) (g : List (BitVec 32)), g.length = 8 → (l.foldl shaFold g).length = 8 := by
    intro l
    induction l with
    | nil => exact fun _ h => h
    | cons x l ih => exact fun g hg => ih _ (shaFold_length g x hg)
  have hm : ∀ l : List (BitVec 32), (l.flatMap (fun x => be 4 x.toNat)).length = 4 * l.length := by
    intro l
    induction l with
    | nil => rfl
    | cons x l ih => rw [List.flatMap_cons, List.length_append, ih, be_length, List.length_cons]; omega
  have hs : shaStart.length = 8 := by decide +kernel
  simp only [sha256, hm, hf _ shaStart hs]

end Sys2Proof.Machine
end

