-- ==== Sys2Proof/Laws/PerInstr.lean ====
section
/-! SUPPORT. What holds of every command as syntax, one lemma for each. -/

namespace Sys2Proof.Laws.Framed

open Sys2Proof.Machine

set_option Elab.async false

/-- The parts that a command may change are listed once each, and a mailbox command changes its context (R542). -/
def Statement (i : Instr) : Prop :=
  (decide (changesOf i).Nodup && (!(hdrOf i).isSome || decide (Part.ctxs ∈ changesOf i))) = true

theorem devIdentify : ∀ h, Statement (.devIdentify h) := fun _ => rfl
theorem setMode : ∀ h mode when target, Statement (.setMode h mode when target) := fun _ _ _ _ => rfl
theorem syncApply : ∀ h when target, Statement (.syncApply h when target) := fun _ _ _ => rfl
theorem devReset : ∀ h kind, Statement (.devReset h kind) := fun _ _ => rfl
theorem quiesce : ∀ h dmaMode timeout, Statement (.quiesce h dmaMode timeout) := fun _ _ _ => rfl
theorem mbTakeover : ∀ h, Statement (.mbTakeover h) := fun _ => rfl
theorem mbGiveback : ∀ h port, Statement (.mbGiveback h port) := fun _ _ => rfl
theorem mbAbort : ∀ h context seq, Statement (.mbAbort h context seq) := fun _ _ _ => rfl
theorem mbBufSet : ∀ h window offset size, Statement (.mbBufSet h window offset size) := fun _ _ _ _ => rfl
theorem cfgRead : ∀ h table copy index, Statement (.cfgRead h table copy index) := fun _ _ _ _ => rfl
theorem resRead : ∀ h, Statement (.resRead h) := fun _ => rfl
theorem cfgProfile : ∀ h profile, Statement (.cfgProfile h profile) := fun _ _ => rfl
theorem patBankStage : ∀ h bank mode lsLen repLen nrep blLen ports, Statement (.patBankStage h bank mode lsLen repLen nrep blLen ports) := fun _ _ _ _ _ _ _ _ => rfl
theorem patSelectStage : ∀ h ports bank drive, Statement (.patSelectStage h ports bank drive) := fun _ _ _ _ => rfl
theorem afeStage : ∀ h port range, Statement (.afeStage h port range) := fun _ _ _ => rfl
theorem tapMapStage : ∀ h firstPort count, Statement (.tapMapStage h firstPort count) := fun _ _ _ => rfl
theorem tapClockStage : ∀ h die freq, Statement (.tapClockStage h die freq) := fun _ _ _ => rfl
theorem portIsolate : ∀ h port, Statement (.portIsolate h port) := fun _ _ => rfl
theorem portSwap : ∀ h port, Statement (.portSwap h port) := fun _ _ => rfl
theorem portQualify : ∀ h port bank pwrSettle qualLines, Statement (.portQualify h port bank pwrSettle qualLines) := fun _ _ _ _ _ => rfl
theorem portRelease : ∀ h port, Statement (.portRelease h port) := fun _ _ => rfl
theorem afeFgCal : ∀ h dies, Statement (.afeFgCal h dies) := fun _ _ => rfl
theorem afeTrimSave : ∀ h, Statement (.afeTrimSave h) := fun _ => rfl
theorem afeResidRead : ∀ h die window offset, Statement (.afeResidRead h die window offset) := fun _ _ _ _ => rfl
theorem portStatusRead : ∀ h port, Statement (.portStatusRead h port) := fun _ _ => rfl
theorem ltSrcStage : ∀ h src flags followers filtEnc filtSheet chkTol div genPeriod flushPeriod, Statement (.ltSrcStage h src flags followers filtEnc filtSheet chkTol div genPeriod flushPeriod) := fun _ _ _ _ _ _ _ _ _ _ => rfl
theorem ltStrobeStage : ∀ h, Statement (.ltStrobeStage h) := fun _ => rfl
theorem ltPageStage : ∀ h, Statement (.ltPageStage h) := fun _ => rfl
theorem ltPaceStage : ∀ h hwm lwm takeup, Statement (.ltPaceStage h hwm lwm takeup) := fun _ _ _ _ => rfl
theorem ioAssignStage : ∀ h enc1 fev15 fevMask rejMin rejDist rejWidth, Statement (.ioAssignStage h enc1 fev15 fevMask rejMin rejDist rejWidth) := fun _ _ _ _ _ _ _ => rfl
theorem shdSetLoad : ∀ h set window offset, Statement (.shdSetLoad h set window offset) := fun _ _ _ _ => rfl
theorem shdSetPatch : ∀ h set window tags offset nwords, Statement (.shdSetPatch h set window tags offset nwords) := fun _ _ _ _ _ _ => rfl
theorem shdSetClear : ∀ h set, Statement (.shdSetClear h set) := fun _ _ => rfl
theorem shdSetDiscard : ∀ h, Statement (.shdSetDiscard h) := fun _ => rfl
theorem shdSetRead : ∀ h set window copy offset, Statement (.shdSetRead h set window copy offset) := fun _ _ _ _ _ => rfl
theorem shdCalibrate : ∀ h set tileAuto settleMs ports targetRed targetGrn targetBlu targetNir defLo defHi darkMax, Statement (.shdCalibrate h set tileAuto settleMs ports targetRed targetGrn targetBlu targetNir defLo defHi darkMax) := fun _ _ _ _ _ _ _ _ _ _ _ _ => rfl
theorem shdCfgStage : ∀ h, Statement (.shdCfgStage h) := fun _ => rfl
theorem linStage : ∀ h line, Statement (.linStage h line) := fun _ _ => rfl
theorem shdQualityRead : ∀ h window offset, Statement (.shdQualityRead h window offset) := fun _ _ _ => rfl
theorem alnTableStage : ∀ h stagger firstPort count, Statement (.alnTableStage h stagger firstPort count) := fun _ _ _ _ => rfl
theorem xformStage : ∀ h, Statement (.xformStage h) := fun _ => rfl
theorem productStage : ∀ h pf chMask firstCol count queue, Statement (.productStage h pf chMask firstCol count queue) := fun _ _ _ _ _ _ => rfl
theorem alnCalibrate : ∀ h ports nbars refPort window xRef offset timeout, Statement (.alnCalibrate h ports nbars refPort window xRef offset timeout) := fun _ _ _ _ _ _ _ _ => rfl
theorem seamQualityRead : ∀ h window offset, Statement (.seamQualityRead h window offset) := fun _ _ _ => rfl
theorem svJobStart : ∀ h jobId en slots refWindow width height qSieve qTongs qLadle qPreview qCrop qSummary x0, Statement (.svJobStart h jobId en slots refWindow width height qSieve qTongs qLadle qPreview qCrop qSummary x0) := fun _ _ _ _ _ _ _ _ _ _ _ _ _ _ => rfl
theorem svJobEnd : ∀ h, Statement (.svJobEnd h) := fun _ => rfl
theorem svRefSubmit : ∀ h window ncrops offset length pageSeq, Statement (.svRefSubmit h window ncrops offset length pageSeq) := fun _ _ _ _ _ _ => rfl
theorem svChainSign : ∀ h, Statement (.svChainSign h) := fun _ => rfl
theorem svSieveStage : ∀ h nclass nregion flagMad, Statement (.svSieveStage h nclass nregion flagMad) := fun _ _ _ _ => rfl
theorem svTongsStage : ∀ h nwin ngroup, Statement (.svTongsStage h nwin ngroup) := fun _ _ _ => rfl
theorem svLadleStage : ∀ h nstrip, Statement (.svLadleStage h nstrip) := fun _ _ => rfl
theorem svPreviewStage : ∀ h colour pvCh qt, Statement (.svPreviewStage h colour pvCh qt) := fun _ _ _ _ => rfl
theorem svCropStage : ∀ h ncrop, Statement (.svCropStage h ncrop) := fun _ _ => rfl
theorem sklCfgStage : ∀ h en line latLimit slkEn lanes, Statement (.sklCfgStage h en line latLimit slkEn lanes) := fun _ _ _ _ _ _ => rfl
theorem sklMapStage : ∀ h first count, Statement (.sklMapStage h first count) := fun _ _ _ => rfl
theorem sklProfileStage : ∀ h first count, Statement (.sklProfileStage h first count) := fun _ _ _ => rfl
theorem sklClassStage : ∀ h first count, Statement (.sklClassStage h first count) := fun _ _ _ => rfl
theorem sklFevStage : ∀ h, Statement (.sklFevStage h) := fun _ => rfl
theorem sklFlagsRead : ∀ h window offset, Statement (.sklFlagsRead h window offset) := fun _ _ _ => rfl
theorem ilmRowStage : ∀ h row, Statement (.ilmRowStage h row) := fun _ _ => rfl
theorem ilmLevelStage : ∀ h, Statement (.ilmLevelStage h) := fun _ => rfl
theorem ilmTcompStage : ∀ h row, Statement (.ilmTcompStage h row) := fun _ _ => rfl
theorem lswStage : ∀ h chain discard nbits, Statement (.lswStage h chain discard nbits) := fun _ _ _ _ => rfl
theorem lampTest : ∀ h rows testCode testNs lines when vLamp vOfs, Statement (.lampTest h rows testCode testNs lines when vLamp vOfs) := fun _ _ _ _ _ _ _ _ => rfl
theorem ilmLampClear : ∀ h row zone lamp, Statement (.ilmLampClear h row zone lamp) := fun _ _ _ _ => rfl
theorem ilmRowClear : ∀ h row, Statement (.ilmRowClear h row) := fun _ _ => rfl
theorem motAxisStage : ∀ h axis, Statement (.motAxisStage h axis) := fun _ _ => rfl
theorem motRampStage : ∀ h axis first count, Statement (.motRampStage h axis first count) := fun _ _ _ _ => rfl
theorem motTileStage : ∀ h, Statement (.motTileStage h) := fun _ => rfl
theorem motMove : ∀ h axis rel target vMax acc dec, Statement (.motMove h axis rel target vMax acc dec) := fun _ _ _ _ _ _ _ => rfl
theorem motTable : ∀ h axis first last, Statement (.motTable h axis first last) := fun _ _ _ _ => rfl
theorem motJog : ∀ h axis vMax acc, Statement (.motJog h axis vMax acc) := fun _ _ _ _ => rfl
theorem motCoord : ∀ h targetB targetC vMax acc dec, Statement (.motCoord h targetB targetC vMax acc dec) := fun _ _ _ _ _ _ => rfl
theorem motFollow : ∀ h axis, Statement (.motFollow h axis) := fun _ _ => rfl
theorem motHome : ∀ h axis dir vHome homePos backoff homeMax, Statement (.motHome h axis dir vHome homePos backoff homeMax) := fun _ _ _ _ _ _ _ => rfl
theorem motAdjust : ∀ h axis vMax acc dec, Statement (.motAdjust h axis vMax acc dec) := fun _ _ _ _ _ => rfl
theorem motStop : ∀ h axis flush, Statement (.motStop h axis flush) := fun _ _ _ => rfl
theorem motFaultClear : ∀ h axis, Statement (.motFaultClear h axis) := fun _ _ => rfl
theorem madcCfgStage : ∀ h mainsSrc mult calPeriod, Statement (.madcCfgStage h mainsSrc mult calPeriod) := fun _ _ _ _ => rfl
theorem madcSeqStage : ∀ h len, Statement (.madcSeqStage h len) := fun _ _ => rfl
theorem madcSetStage : ∀ h first count curves, Statement (.madcSetStage h first count curves) := fun _ _ _ _ => rfl
theorem madcCal : ∀ h, Statement (.madcCal h) := fun _ => rfl
theorem madcInject : ∀ h ch kind settle set, Statement (.madcInject h ch kind settle set) := fun _ _ _ _ _ => rfl
theorem madcTest : ∀ h conv, Statement (.madcTest h conv) := fun _ _ => rfl
theorem madcAccRead : ∀ h window clear offset mask maskHi, Statement (.madcAccRead h window clear offset mask maskHi) := fun _ _ _ _ _ _ => rfl
theorem simmerCfgStage : ∀ h tTarget theta tRelease tHold dwell ceilMin bucket, Statement (.simmerCfgStage h tTarget theta tRelease tHold dwell ceilMin bucket) := fun _ _ _ _ _ _ _ _ => rfl
theorem simmerPowerLimit : ∀ h pBoard, Statement (.simmerPowerLimit h pBoard) := fun _ _ => rfl
theorem thermRead : ∀ h window offset, Statement (.thermRead h window offset) := fun _ _ _ => rfl
theorem dramCfgStage : ∀ h fields layout protEighths scrubHours ageLimit, Statement (.dramCfgStage h fields layout protEighths scrubHours ageLimit) := fun _ _ _ _ _ _ => rfl
theorem winCreate : ∀ h window part size, Statement (.winCreate h window part size) := fun _ _ _ _ => rfl
theorem winMap : ∀ h window bar2Off, Statement (.winMap h window bar2Off) := fun _ _ _ => rfl
theorem winUnmap : ∀ h window, Statement (.winUnmap h window) := fun _ _ => rfl
theorem winFree : ∀ h window, Statement (.winFree h window) := fun _ _ => rfl
theorem ringSet : ∀ h window offset size qDesc, Statement (.ringSet h window offset size qDesc) := fun _ _ _ _ _ => rfl
theorem dramLogRead : ∀ h window clear offset, Statement (.dramLogRead h window clear offset) := fun _ _ _ _ => rfl
theorem dramTrain : ∀ h, Statement (.dramTrain h) := fun _ => rfl
theorem dramChRetire : ∀ h ch, Statement (.dramChRetire h ch) := fun _ _ => rfl
theorem dramChTest : ∀ h ch passes, Statement (.dramChTest h ch passes) := fun _ _ _ => rfl
theorem dramChRestore : ∀ h ch, Statement (.dramChRestore h ch) := fun _ _ => rfl
theorem qBind : ∀ h queue en flags limit wm, Statement (.qBind h queue en flags limit wm) := fun _ _ _ _ _ _ => rfl
theorem qFlush : ∀ h queue, Statement (.qFlush h queue) := fun _ _ => rfl
theorem dmaBind : ∀ h channel window queue port, Statement (.dmaBind h channel window queue port) := fun _ _ _ _ _ => rfl
theorem pageRelease : ∀ h firstSeq, Statement (.pageRelease h firstSeq) := fun _ _ => rfl
theorem secAttest : ∀ h nonce window offset, Statement (.secAttest h nonce window offset) := fun _ _ _ _ => rfl
theorem secOwnerEnrol : ∀ h, Statement (.secOwnerEnrol h) := fun _ => rfl
theorem secImageWrite : ∀ h slot window offset length, Statement (.secImageWrite h slot window offset length) := fun _ _ _ _ _ => rfl
theorem secLifecycle : ∀ h target, Statement (.secLifecycle h target) := fun _ _ => rfl
theorem secIdentityGen : ∀ h, Statement (.secIdentityGen h) := fun _ => rfl
theorem secDebugUnlock : ∀ h, Statement (.secDebugUnlock h) := fun _ => rfl
theorem diagTapStage : ∀ h port queue, Statement (.diagTapStage h port queue) := fun _ _ _ => rfl
theorem diagSvBypass : ∀ h mask, Statement (.diagSvBypass h mask) := fun _ _ => rfl
theorem diagPattern : ∀ h pattern lines, Statement (.diagPattern h pattern lines) := fun _ _ _ => rfl
theorem diagSelftest : ∀ h tests, Statement (.diagSelftest h tests) := fun _ _ => rfl
theorem mbDoorbell : ∀ t port n, Statement (.mbDoorbell t port n) := fun _ _ _ => rfl
theorem mbSweep : ∀ t, Statement (.mbSweep t) := fun _ => rfl
theorem completionPush : ∀ t n, Statement (.completionPush t n) := fun _ _ => rfl
theorem qPush : ∀ t q data be, Statement (.qPush t q data be) := fun _ _ _ _ => rfl
theorem qPop : ∀ t q len perr, Statement (.qPop t q len perr) := fun _ _ _ _ => rfl
theorem rcFieldRead : ∀ t port addr len, Statement (.rcFieldRead t port addr len) := fun _ _ _ _ => rfl
theorem registerWrite : ∀ t port addr len data, Statement (.registerWrite t port addr len data) := fun _ _ _ _ _ => rfl
theorem evLatchWrite : ∀ t j data resets, Statement (.evLatchWrite t j data resets) := fun _ _ _ _ => rfl
theorem msixUnmask : ∀ t port vec, Statement (.msixUnmask t port vec) := fun _ _ _ => rfl
theorem dmaStart : ∀ t c abortToo, Statement (.dmaStart t c abortToo) := fun _ _ _ => rfl
theorem dmaAbort : ∀ t c, Statement (.dmaAbort t c) := fun _ _ => rfl
theorem chainKick : ∀ t c, Statement (.chainKick t c) := fun _ _ => rfl
theorem dmaErrClear : ∀ t, Statement (.dmaErrClear t) := fun _ => rfl
theorem dmaDescFetched : ∀ t c desc, Statement (.dmaDescFetched t c desc) := fun _ _ _ => rfl
theorem dmaBurstDone : ∀ t c data perr, Statement (.dmaBurstDone t c data perr) := fun _ _ _ _ => rfl
theorem dmaReadbackDone : ∀ t c, Statement (.dmaReadbackDone t c) := fun _ _ => rfl
theorem dmaLinkRereadDone : ∀ t c link, Statement (.dmaLinkRereadDone t c link) := fun _ _ _ => rfl
theorem dmaQueueData : ∀ t c perr, Statement (.dmaQueueData t c perr) := fun _ _ _ => rfl
theorem busError : ∀ t kind port addr, Statement (.busError t kind port addr) := fun _ _ _ _ => rfl
theorem bar2Read : ∀ t port addr len, Statement (.bar2Read t port addr len) := fun _ _ _ _ => rfl
theorem bar2Write : ∀ t port addr data, Statement (.bar2Write t port addr data) := fun _ _ _ _ => rfl
theorem perstNAssert : ∀ t port, Statement (.perstNAssert t port) := fun _ _ => rfl
theorem perstNRelease : ∀ t port, Statement (.perstNRelease t port) := fun _ _ => rfl
theorem linkUp : ∀ t port width speed, Statement (.linkUp t port width speed) := fun _ _ _ _ => rfl
theorem linkLoss : ∀ t port, Statement (.linkLoss t port) := fun _ _ => rfl
theorem functionLevelReset : ∀ t port, Statement (.functionLevelReset t port) := fun _ _ => rfl
theorem hotReset : ∀ t port, Statement (.hotReset t port) := fun _ _ => rfl
theorem d3hotEntry : ∀ t port, Statement (.d3hotEntry t port) := fun _ _ => rfl
theorem powerOnReset : ∀ t, Statement (.powerOnReset t) := fun _ => rfl
theorem porstNAssert : ∀ t, Statement (.porstNAssert t) := fun _ => rfl
theorem porstNRelease : ∀ t split uzsId, Statement (.porstNRelease t split uzsId) := fun _ _ _ => rfl
theorem sysrstNAssert : ∀ t, Statement (.sysrstNAssert t) := fun _ => rfl
theorem sysrstNRelease : ∀ t, Statement (.sysrstNRelease t) := fun _ => rfl
theorem coreBrownout : ∀ t, Statement (.coreBrownout t) := fun _ => rfl
theorem sysclkLoss : ∀ t, Statement (.sysclkLoss t) := fun _ => rfl
theorem resetEnd : ∀ t, Statement (.resetEnd t) := fun _ => rfl
theorem sramWipeDone : ∀ t ok, Statement (.sramWipeDone t ok) := fun _ _ => rfl
theorem feDieReset : ∀ t die, Statement (.feDieReset t die) := fun _ _ => rfl
theorem vddNvLow : ∀ t, Statement (.vddNvLow t) := fun _ => rfl
theorem bootImageVerified : ∀ t hdr sigOk bodyHash, Statement (.bootImageVerified t hdr sigOk bodyHash) := fun _ _ _ _ => rfl
theorem nvMount : ∀ t, Statement (.nvMount t) := fun _ => rfl
theorem dramTrainingDone : ∀ t chOk, Statement (.dramTrainingDone t chOk) := fun _ _ => rfl
theorem dramWipeDone : ∀ t, Statement (.dramWipeDone t) := fun _ => rfl
theorem bootExit : ∀ t powerOk, Statement (.bootExit t powerOk) := fun _ _ => rfl
theorem aonXtalSwitch : ∀ t, Statement (.aonXtalSwitch t) := fun _ => rfl
theorem aonXtalLoss : ∀ t, Statement (.aonXtalLoss t) := fun _ => rfl
theorem oscCompUpdate : ∀ t, Statement (.oscCompUpdate t) := fun _ => rfl
theorem regionCompare : ∀ t, Statement (.regionCompare t) := fun _ => rfl
theorem modeTransitionDone : ∀ t, Statement (.modeTransitionDone t) := fun _ => rfl
theorem scrubComplete : ∀ t, Statement (.scrubComplete t) := fun _ => rfl
theorem encEdge : ∀ t enc a b, Statement (.encEdge t enc a b) := fun _ _ _ _ => rfl
theorem encIndex : ∀ t enc, Statement (.encIndex t enc) := fun _ _ => rfl
theorem sheetEdge : ∀ t n high, Statement (.sheetEdge t n high) := fun _ _ _ => rfl
theorem generatorPeriod : ∀ t, Statement (.generatorPeriod t) := fun _ => rfl
theorem interpTrigger : ∀ t, Statement (.interpTrigger t) := fun _ => rfl
theorem pendingTriggerIssue : ∀ t, Statement (.pendingTriggerIssue t) := fun _ => rfl
theorem flushTrigger : ∀ t, Statement (.flushTrigger t) := fun _ => rfl
theorem uzsLineSampled : ∀ t, Statement (.uzsLineSampled t) := fun _ => rfl
theorem uzsLineStart : ∀ t, Statement (.uzsLineStart t) := fun _ => rfl
theorem uzsFrameRx : ∀ t frame, Statement (.uzsFrameRx t frame) := fun _ _ => rfl
theorem uzsSlotRx : ∀ t j slot, Statement (.uzsSlotRx t j slot) := fun _ _ _ => rfl
theorem uzsClkTimeout : ∀ t, Statement (.uzsClkTimeout t) := fun _ => rfl
theorem feProgramStart : ∀ t die, Statement (.feProgramStart t die) := fun _ _ => rfl
theorem afeSlotSample : ∀ t port input slot sv sr overRange checks, Statement (.afeSlotSample t port input slot sv sr overRange checks) := fun _ _ _ _ _ _ _ _ => rfl
theorem feProgramEnd : ∀ t die, Statement (.feProgramEnd t die) := fun _ _ => rfl
theorem handoverCompare : ∀ t die spareMean chanMean, Statement (.handoverCompare t die spareMean chanMean) := fun _ _ _ _ => rfl
theorem spareSubstitution : ∀ t die, Statement (.spareSubstitution t die) := fun _ _ => rfl
theorem bgCalStepStart : ∀ t die, Statement (.bgCalStepStart t die) := fun _ _ => rfl
theorem bgMeasurementEnd : ∀ t die result, Statement (.bgMeasurementEnd t die result) := fun _ _ _ => rfl
theorem trimUpdate : ∀ t, Statement (.trimUpdate t) := fun _ => rfl
theorem trimSaveHourly : ∀ t, Statement (.trimSaveHourly t) := fun _ => rfl
theorem presFilterChange : ∀ t port present, Statement (.presFilterChange t port present) := fun _ _ _ => rfl
theorem swapPowerOff : ∀ t port, Statement (.swapPowerOff t port) := fun _ _ => rfl
theorem swapOutputRelease : ∀ t port, Statement (.swapOutputRelease t port) := fun _ _ => rfl
theorem qualifySettleEnd : ∀ t port, Statement (.qualifySettleEnd t port) := fun _ _ => rfl
theorem qualificationDone : ∀ t port, Statement (.qualificationDone t port) := fun _ _ => rfl
theorem zoneTempUpdate : ∀ t, Statement (.zoneTempUpdate t) := fun _ => rfl
theorem shdPatrolRead : ∀ t slot word bitsBad, Statement (.shdPatrolRead t slot word bitsBad) := fun _ _ _ _ => rfl
theorem sklGroupEval : ∀ t group entryNs, Statement (.sklGroupEval t group entryNs) := fun _ _ _ => rfl
theorem fastevStretchEnd : ∀ t pin, Statement (.fastevStretchEnd t pin) := fun _ _ => rfl
theorem slkFrameStart : ∀ t, Statement (.slkFrameStart t) := fun _ => rfl
theorem stitchedLineComplete : ∀ t late poison, Statement (.stitchedLineComplete t late poison) := fun _ _ _ => rfl
theorem rejectOutPulse : ∀ t, Statement (.rejectOutPulse t) := fun _ => rfl
theorem rejectOutEnd : ∀ t, Statement (.rejectOutEnd t) := fun _ => rfl
theorem refDecodeDone : ∀ t, Statement (.refDecodeDone t) := fun _ => rfl
theorem serviceUnitComplete : ∀ t unit poison, Statement (.serviceUnitComplete t unit poison) := fun _ _ _ => rfl
theorem pageSummaryPush : ∀ t, Statement (.pageSummaryPush t) := fun _ => rfl
theorem ilmRegStart : ∀ t row, Statement (.ilmRegStart t row) := fun _ _ => rfl
theorem lstbRise : ∀ t row, Statement (.lstbRise t row) := fun _ _ => rfl
theorem lstbFall : ∀ t row mean, Statement (.lstbFall t row mean) := fun _ _ _ => rfl
theorem ilmOvOcDetect : ∀ t row vfb current, Statement (.ilmOvOcDetect t row vfb current) := fun _ _ _ _ => rfl
theorem ilmTcompUpdate : ∀ t, Statement (.ilmTcompUpdate t) := fun _ => rfl
theorem ilmPowerUpdate : ∀ t, Statement (.ilmPowerUpdate t) := fun _ => rfl
theorem lswFrameLatch : ∀ t chain ret, Statement (.lswFrameLatch t chain ret) := fun _ _ _ => rfl
theorem motPwmPeriod : ∀ t axis sense, Statement (.motPwmPeriod t axis sense) := fun _ _ _ => rfl
theorem motRampTick : ∀ t, Statement (.motRampTick t) := fun _ => rfl
theorem holdDelayEnd : ∀ t axis, Statement (.holdDelayEnd t axis) := fun _ _ => rfl
theorem motFltInput : ∀ t axis low, Statement (.motFltInput t axis low) := fun _ _ _ => rfl
theorem stepInEdge : ∀ t axis rising dirHigh, Statement (.stepInEdge t axis rising dirHigh) := fun _ _ _ _ => rfl
theorem vbusLowTimeout : ∀ t axis, Statement (.vbusLowTimeout t axis) := fun _ _ => rfl
theorem madcConversionEnd : ∀ t conv raw outOfRange, Statement (.madcConversionEnd t conv raw outOfRange) := fun _ _ _ _ => rfl
theorem madcCalibrationEnd : ∀ t conv lo hi sarLo sarHi, Statement (.madcCalibrationEnd t conv lo hi sarLo sarHi) := fun _ _ _ _ _ _ => rfl
theorem madcCalPeriodic : ∀ t, Statement (.madcCalPeriodic t) := fun _ => rfl
theorem madcConvTimeout : ∀ t conv, Statement (.madcConvTimeout t conv) := fun _ _ => rfl
theorem mainsRefCrossing : ∀ t ticks, Statement (.mainsRefCrossing t ticks) := fun _ _ => rfl
theorem thermSample : ∀ t readings, Statement (.thermSample t readings) := fun _ _ => rfl
theorem simmerRefill : ∀ t pDev pMand, Statement (.simmerRefill t pDev pMand) := fun _ _ _ => rfl
theorem simmerCeilingStep : ∀ t, Statement (.simmerCeilingStep t) := fun _ => rfl
theorem simmerCapRaise : ∀ t, Statement (.simmerCapRaise t) := fun _ => rfl
theorem dramCommandSlot : ∀ t ch, Statement (.dramCommandSlot t ch) := fun _ _ => rfl
theorem dramReadReturn : ∀ t ch err, Statement (.dramReadReturn t ch err) := fun _ _ _ => rfl
theorem dramAccessTimeout : ∀ t ch, Statement (.dramAccessTimeout t ch) := fun _ _ => rfl
theorem refreshUnitDue : ∀ t ch, Statement (.refreshUnitDue t ch) := fun _ _ => rfl
theorem mr4Read : ∀ t ch cls, Statement (.mr4Read t ch cls) := fun _ _ _ => rfl
theorem refreshClassStep : ∀ t ch, Statement (.refreshClassStep t ch) := fun _ _ => rfl
theorem requestPromote : ∀ t, Statement (.requestPromote t) := fun _ => rfl
theorem dqsOscRun : ∀ t, Statement (.dqsOscRun t) := fun _ => rfl
theorem dramScrubStep : ∀ t err, Statement (.dramScrubStep t err) := fun _ _ => rfl
theorem dramRebuildStep : ∀ t, Statement (.dramRebuildStep t) := fun _ => rfl
theorem dramPortWindow : ∀ t, Statement (.dramPortWindow t) := fun _ => rfl
theorem hwPushRetry : ∀ t q, Statement (.hwPushRetry t q) := fun _ _ => rfl
theorem cellPatrol : ∀ t cell ok, Statement (.cellPatrol t cell ok) := fun _ _ _ => rfl
theorem lockstepMismatch : ∀ t pair, Statement (.lockstepMismatch t pair) := fun _ _ => rfl
theorem pairRestartDone : ∀ t pair ok, Statement (.pairRestartDone t pair ok) := fun _ _ _ => rfl
theorem standbySelftest : ∀ t ok, Statement (.standbySelftest t ok) := fun _ _ => rfl
theorem heartbeatTick : ∀ t, Statement (.heartbeatTick t) := fun _ => rfl
theorem nvLineProgramDone : ∀ t, Statement (.nvLineProgramDone t) := fun _ => rfl
theorem trivetSecurityReset : ∀ t, Statement (.trivetSecurityReset t) := fun _ => rfl
theorem entropyHealthFail : ∀ t, Statement (.entropyHealthFail t) := fun _ => rfl
theorem securityAccessViolation : ∀ t, Statement (.securityAccessViolation t) := fun _ => rfl
theorem jtagInstruction : ∀ t scan, Statement (.jtagInstruction t scan) := fun _ _ => rfl
theorem devResetExpiry : ∀ t, Statement (.devResetExpiry t) := fun _ => rfl
theorem prsntNChange : ∀ t port high, Statement (.prsntNChange t port high) := fun _ _ _ => rfl
theorem quiesceTimeout : ∀ t port, Statement (.quiesceTimeout t port) := fun _ _ => rfl
theorem trivetRequestDone : ∀ t ok out, Statement (.trivetRequestDone t ok out) := fun _ _ _ => rfl
theorem afeFgCalDone : ∀ t results, Statement (.afeFgCalDone t results) := fun _ _ => rfl
theorem selftestTestDone : ∀ t result durMs detail, Statement (.selftestTestDone t result durMs detail) := fun _ _ _ _ => rfl
theorem shdCalSettleEnd : ∀ t, Statement (.shdCalSettleEnd t) := fun _ => rfl
theorem alnCalibrateTimeout : ∀ t, Statement (.alnCalibrateTimeout t) := fun _ => rfl
theorem vddNvRecover : ∀ t, Statement (.vddNvRecover t) := fun _ => rfl
theorem nvWriteWaitTimeout : ∀ t, Statement (.nvWriteWaitTimeout t) := fun _ => rfl
theorem vEstTimeout : ∀ t, Statement (.vEstTimeout t) := fun _ => rfl
theorem feDieResetEnd : ∀ t die, Statement (.feDieResetEnd t die) := fun _ _ => rfl
theorem lampTestPulse : ∀ t row current voltage, Statement (.lampTestPulse t row current voltage) := fun _ _ _ _ => rfl
theorem lswShiftDone : ∀ t chain, Statement (.lswShiftDone t chain) := fun _ _ => rfl
theorem norWriteDone : ∀ t readBackOk, Statement (.norWriteDone t readBackOk) := fun _ _ => rfl

end Sys2Proof.Laws.Framed
end

