-- ==== Sys2Proof/Laws/Units.lean ====
section
/-! SUPPORT. What operations of single units do. -/

namespace Sys2Proof.Machine

/-! ## Attestation -/

/-- The H fields have 32 bytes each (R612). -/
theorem State.tableHashes_flatten_length (s : State) : s.tableHashes.flatten.length = 256 := by
  simp [State.tableHashes]

/-- The signed part of a report has 528 bytes (R612). -/
theorem State.report_length (nonce : List Byte) (hs : List (List Byte)) (unstable : Bool) (q : Nat) (s : State)
    (h : hs.flatten.length = 256) : (s.report nonce hs unstable q).length = 528 := by
  unfold State.report
  dsimp only
  simp only [List.length_append, le_length, padTo_length]
  rw [h]

/-! ## Level sources -/

/-- Bringing a level up to date clears no latch (R638). -/
theorem State.level_latch_mono (i j : Nat) (on : Bool) (s : State) (h : s.ev.latch.getLsbD j = true) :
    (s.level i on).ev.latch.getLsbD j = true := by
  unfold State.level
  dsimp only
  split
  · rw [State.latchSet_latch]; simp [h]
  · exact h

/-- In level mode, a level that holds latches (R638). -/
theorem State.level_latch_of_on (i : Nat) (s : State) (hi : i < 256) (he : s.ev.edge.getLsbD i = false) :
    (s.level i true).ev.latch.getLsbD i = true := by
  unfold State.level
  simp only [he, Bool.not_false, Bool.or_true, Bool.and_true, if_true, State.latchSet_latch]
  simp [hi]

end Sys2Proof.Machine
end

