-- ==== Sys2Proof/WellFormed.lean ====
section
/-! DEFINITION. Which commands the edge of the block can carry: the sizes of what arrives from outside. A meaning is total
whether or not its command is well formed. -/

namespace Sys2Proof

/-- A measured channel is one of the 104 of its die (R564). -/
def CalResult.WellFormed (r : CalResult) : Bool := decide (r.chan.toNat < 104)

/-- A pop takes 1 to 64 bytes of a word (R505); a read of BAR2 brings at most 4,096 bytes, a DMA burst 256 and a write
512 (R533, R515); an image header has 512 bytes (R596); a thermal sample has 24 readings (R430). -/
def Instr.WellFormed : Instr → Bool
  | .qPop _ _ len _ => decide (1 ≤ len) && decide (len ≤ 64)
  | .rcFieldRead _ _ _ len => decide (1 ≤ len) && decide (len ≤ 4096)
  | .registerWrite _ _ _ len _ => decide (1 ≤ len) && decide (len ≤ 8)
  | .bar2Read _ _ _ len => decide (1 ≤ len) && decide (len ≤ 4096)
  | .bar2Write _ _ _ data => decide (1 ≤ data.length) && decide (data.length ≤ 512)
  | .dmaBurstDone _ _ data _ => decide (1 ≤ data.length) && decide (data.length ≤ 256)
  | .bootImageVerified _ hdr _ _ => decide (hdr.length = 512)
  | .bgMeasurementEnd _ _ result => result.WellFormed
  | .afeFgCalDone _ results => results.all CalResult.WellFormed
  | .thermSample _ readings => decide (readings.length = 24)
  | .devIdentify _ | .setMode _ _ _ _ | .syncApply _ _ _ | .devReset _ _ | .quiesce _ _ _ | .mbTakeover _
  | .mbGiveback _ _ | .mbAbort _ _ _ | .mbBufSet _ _ _ _ | .cfgRead _ _ _ _ | .resRead _ | .cfgProfile _ _
  | .patBankStage _ _ _ _ _ _ _ _ | .patSelectStage _ _ _ _ | .afeStage _ _ _ | .tapMapStage _ _ _
  | .tapClockStage _ _ _ | .portIsolate _ _ | .portSwap _ _ | .portQualify _ _ _ _ _ | .portRelease _ _
  | .afeFgCal _ _ | .afeTrimSave _ | .afeResidRead _ _ _ _ | .portStatusRead _ _ | .ltSrcStage _ _ _ _ _ _ _ _ _ _
  | .ltStrobeStage _ | .ltPageStage _ | .ltPaceStage _ _ _ _ | .ioAssignStage _ _ _ _ _ _ _ | .shdSetLoad _ _ _ _
  | .shdSetPatch _ _ _ _ _ _ | .shdSetClear _ _ | .shdSetDiscard _ | .shdSetRead _ _ _ _ _
  | .shdCalibrate _ _ _ _ _ _ _ _ _ _ _ _ | .shdCfgStage _ | .linStage _ _ | .shdQualityRead _ _ _
  | .alnTableStage _ _ _ _ | .xformStage _ | .productStage _ _ _ _ _ _ | .alnCalibrate _ _ _ _ _ _ _ _
  | .seamQualityRead _ _ _ | .svJobStart _ _ _ _ _ _ _ _ _ _ _ _ _ _ | .svJobEnd _ | .svRefSubmit _ _ _ _ _ _
  | .svChainSign _ | .svSieveStage _ _ _ _ | .svTongsStage _ _ _ | .svLadleStage _ _ | .svPreviewStage _ _ _ _
  | .svCropStage _ _ | .sklCfgStage _ _ _ _ _ _ | .sklMapStage _ _ _ | .sklProfileStage _ _ _ | .sklClassStage _ _ _
  | .sklFevStage _ | .sklFlagsRead _ _ _ | .ilmRowStage _ _ | .ilmLevelStage _ | .ilmTcompStage _ _
  | .lswStage _ _ _ _ | .lampTest _ _ _ _ _ _ _ _ | .ilmLampClear _ _ _ _ | .ilmRowClear _ _ | .motAxisStage _ _
  | .motRampStage _ _ _ _ | .motTileStage _ | .motMove _ _ _ _ _ _ _ | .motTable _ _ _ _ | .motJog _ _ _ _
  | .motCoord _ _ _ _ _ _ | .motFollow _ _ | .motHome _ _ _ _ _ _ _ | .motAdjust _ _ _ _ _ | .motStop _ _ _
  | .motFaultClear _ _ | .madcCfgStage _ _ _ _ | .madcSeqStage _ _ | .madcSetStage _ _ _ _ | .madcCal _
  | .madcInject _ _ _ _ _ | .madcTest _ _ | .madcAccRead _ _ _ _ _ _ | .simmerCfgStage _ _ _ _ _ _ _ _
  | .simmerPowerLimit _ _ | .thermRead _ _ _ | .dramCfgStage _ _ _ _ _ _ | .winCreate _ _ _ _ | .winMap _ _ _
  | .winUnmap _ _ | .winFree _ _ | .ringSet _ _ _ _ _ | .dramLogRead _ _ _ _ | .dramTrain _ | .dramChRetire _ _
  | .dramChTest _ _ _ | .dramChRestore _ _ | .qBind _ _ _ _ _ _ | .qFlush _ _ | .dmaBind _ _ _ _ _ | .pageRelease _ _
  | .secAttest _ _ _ _ | .secOwnerEnrol _ | .secImageWrite _ _ _ _ _ | .secLifecycle _ _ | .secIdentityGen _
  | .secDebugUnlock _ | .diagTapStage _ _ _ | .diagSvBypass _ _ | .diagPattern _ _ _ | .diagSelftest _ _
  | .mbDoorbell _ _ _ | .mbSweep _ | .completionPush _ _ | .qPush _ _ _ _
  | .evLatchWrite _ _ _ _ | .msixUnmask _ _ _ | .dmaStart _ _ _ | .dmaAbort _ _
  | .chainKick _ _ | .dmaErrClear _ | .dmaDescFetched _ _ _ | .dmaReadbackDone _ _ | .dmaLinkRereadDone _ _ _
  | .dmaQueueData _ _ _ | .busError _ _ _ _ | .perstNAssert _ _ | .perstNRelease _ _ | .linkUp _ _ _ _ | .linkLoss _ _
  | .functionLevelReset _ _ | .hotReset _ _ | .d3hotEntry _ _ | .powerOnReset _ | .porstNAssert _
  | .porstNRelease _ _ _ | .sysrstNAssert _ | .sysrstNRelease _ | .coreBrownout _ | .sysclkLoss _ | .resetEnd _
  | .sramWipeDone _ _ | .feDieReset _ _ | .vddNvLow _ | .nvMount _ | .dramTrainingDone _ _ | .dramWipeDone _
  | .bootExit _ _ | .aonXtalSwitch _ | .aonXtalLoss _ | .oscCompUpdate _ | .regionCompare _ | .modeTransitionDone _
  | .scrubComplete _ | .encEdge _ _ _ _ | .encIndex _ _ | .sheetEdge _ _ _ | .generatorPeriod _ | .interpTrigger _
  | .pendingTriggerIssue _ | .flushTrigger _ | .uzsLineSampled _ | .uzsLineStart _ | .uzsFrameRx _ _
  | .uzsSlotRx _ _ _ | .uzsClkTimeout _ | .feProgramStart _ _ | .afeSlotSample _ _ _ _ _ _ _ _ | .feProgramEnd _ _
  | .handoverCompare _ _ _ _ | .spareSubstitution _ _ | .bgCalStepStart _ _ | .trimUpdate _ | .trimSaveHourly _
  | .presFilterChange _ _ _ | .swapPowerOff _ _ | .swapOutputRelease _ _ | .qualifySettleEnd _ _
  | .qualificationDone _ _ | .zoneTempUpdate _ | .shdPatrolRead _ _ _ _ | .sklGroupEval _ _ _ | .fastevStretchEnd _ _
  | .slkFrameStart _ | .stitchedLineComplete _ _ _ | .rejectOutPulse _ | .rejectOutEnd _ | .refDecodeDone _
  | .serviceUnitComplete _ _ _ | .pageSummaryPush _ | .ilmRegStart _ _ | .lstbRise _ _ | .lstbFall _ _ _
  | .ilmOvOcDetect _ _ _ _ | .ilmTcompUpdate _ | .ilmPowerUpdate _ | .lswFrameLatch _ _ _ | .motPwmPeriod _ _ _
  | .motRampTick _ | .holdDelayEnd _ _ | .motFltInput _ _ _ | .stepInEdge _ _ _ _ | .vbusLowTimeout _ _
  | .madcConversionEnd _ _ _ _ | .madcCalibrationEnd _ _ _ _ _ _ | .madcCalPeriodic _ | .madcConvTimeout _ _
  | .mainsRefCrossing _ _ | .simmerRefill _ _ _ | .simmerCeilingStep _ | .simmerCapRaise _ | .dramCommandSlot _ _
  | .dramReadReturn _ _ _ | .dramAccessTimeout _ _ | .refreshUnitDue _ _ | .mr4Read _ _ _ | .refreshClassStep _ _
  | .requestPromote _ | .dqsOscRun _ | .dramScrubStep _ _ | .dramRebuildStep _ | .dramPortWindow _ | .hwPushRetry _ _
  | .cellPatrol _ _ _ | .lockstepMismatch _ _ | .pairRestartDone _ _ _ | .standbySelftest _ _ | .heartbeatTick _
  | .nvLineProgramDone _ | .trivetSecurityReset _ | .entropyHealthFail _ | .securityAccessViolation _
  | .jtagInstruction _ _ | .devResetExpiry _ | .prsntNChange _ _ _ | .quiesceTimeout _ _ | .trivetRequestDone _ _ _
  | .selftestTestDone _ _ _ _ | .shdCalSettleEnd _ | .alnCalibrateTimeout _ | .vddNvRecover _ | .nvWriteWaitTimeout _
  | .vEstTimeout _ | .feDieResetEnd _ _ | .lampTestPulse _ _ _ _ | .lswShiftDone _ _ | .norWriteDone _ _ => true

end Sys2Proof
end

