-- ==== Sys2Proof/Tests/Slice0.lean ====
section
/-! SUPPORT. Tests: well-formedness, worked examples of the spec, and witnesses for the hypotheses of the statements. -/

namespace Sys2Proof.Tests

open Sys2Proof Sys2Proof.Machine

set_option Elab.async false

/-! ## Helpers -/

/-- The command answers a next state that meets the check. -/
def ans (o : Host.Outcome State Fault Refusal) (p : State → Bool) : Bool :=
  match o with
  | .next t => p t
  | _ => false

/-- A header on context 0 with a payload length. -/
def hd (plen : BitVec 24) : Hdr := { t := 5, ctx := 0, seq := 7, flags := 0, plen := plen, rsvBad := false }

/-- A host port that is UP. -/
def upPort : HostPort := { HostPort.reset with link := .up, perst := true, prsnt := true, width := 16, speed := 5 }

/-- A small device in IDLE: port 0 is UP, pair 0 serves, window 1 holds the payload buffer of context 0, and window 2 is mapped. -/
def base : State :=
  { State.reset with
    mode := { ModeUnit.reset with mode := .idle, target := .idle },
    rst := { ResetUnit.reset with phase := .done, porst := true, endsAt := none },
    cpu := { Cpu.reset with pair0 := .serving, pair1 := .standby, serving := 0 },
    host := { HostUnit.reset with
      port0 := upPort, ctxs := [(0, { Ctx.reset with buf := some { window := 1, offset := 0, size := 65536 } })] },
    dram := { Dram.reset with chOk := 0xFF, windows :=
      [(1, { base := 0x70000000, size := 0x100000, prot := false, bar2 := none }),
       (2, { base := 0x70100000, size := 0x10000, prot := false, bar2 := some 0 })] } }

/-- The device in another mode. -/
def inMode (m : Mode) (s : State) : State := { s with mode := { s.mode with mode := m, target := m } }

/-- Bytes in the payload buffer of context 0. -/
def pay (bs : List Byte) (s : State) : State := { s with dram := { s.dram with mem := memWrite 0x70000000 bs s.dram.mem } }

/-- The command of a header has ended so. -/
def endedB (h : Hdr) (op : Nat) (st : OpState) (code : Nat) (data : List Byte) (rlen : Nat) (t : State) : Bool :=
  (t.ctx h.ctx.toNat).cur == none && (t.ctx h.ctx.toNat).ending == some
    { opcode := op, seq := h.seq, state := st, result := BitVec.ofNat 8 code, rlen := rlen, data := padTo 48 0 data, noCpl := false }

/-- The command has ended DONE. -/
def doneB (h : Hdr) (op : Nat) (data : List Byte) (t : State) : Bool := endedB h op .done cOk data 0 t

/-- The command runs on its context. -/
def runsB (h : Hdr) (op : Nat) (t : State) : Bool :=
  (t.ctx h.ctx.toNat).cur == some { opcode := op, seq := h.seq, noCpl := false }

/-- The staging has ended DONE with this shadow copy. -/
def stagesB (h : Hdr) (op key : Nat) (data : List Byte) (new : Tables) (s t : State) : Bool :=
  doneB h op data t && t.shadow == new && t.active == s.active && t.staged.keys == s.staged.keys ++ [key]

/-- Every check holds. -/
def allOf (l : List (Bool × Bool)) : Bool := l.all (fun x => x.1 && x.2)

/-- Change one part of a state (a short hand for the tests). -/
def withAxis (k : Nat) (f : Axis → Axis) (s : State) : State := { s with axes := supd Axis.reset k f s.axes }
@[inherit_doc withAxis] def withCtx (k : Nat) (f : Ctx → Ctx) (s : State) : State := s.setCtx k f
@[inherit_doc withAxis] def withShadow (f : Tables → Tables) (s : State) : State := { s with shadow := f s.shadow }
@[inherit_doc withAxis] def withActive (f : Tables → Tables) (s : State) : State := { s with active := f s.active }

/-- Values that meet the hypotheses of DeviceCommandsComplete, clause by clause, with what follows for them. -/
theorem test_witness_DeviceCommandsComplete : allOf
    [(base.accepts (hd 0) [.c],
      ans (exec (.devIdentify (hd 0)) base) (doneB (hd 0) 0x0100 (le 2 2 ++ le 1 0 ++ le 1 0xB1 ++ le 4 0 ++ le 4 0 ++ le 1 0 ++ le 1 base.sec.lifecycle.code))),
     (true,
      ans (exec (.devReset (hd 0) 0) base) (fun t => doneB (hd 0) 0x0103 [] t && t.rst.devResetAt == none)),
     (base.imageCount 0x0501 == 1 && (base.image false 0x0501 0).length == 40,
      ans (exec (.cfgRead (hd 0) 0x0501 0 0) base) (fun t => endedB (hd 0) 0x0109 .done cOk [] 40 t && t.dram.mem == memWrite 0x70000000 (base.image false 0x0501 0) [])),
     ((base.resources.flatMap (fun r => conflictData r.1 r.2.1 r.2.2.1 r.2.2.2)).length ≤ 65536,
      ans (exec (.resRead (hd 0)) base) (fun t => endedB (hd 0) 0x010A .done cOk [] (8 * base.resources.length) t)),
     (true,
      ans (exec (.mbBufSet (hd 0) 1 0 0) base) (fun t => doneB (hd 0) 0x0108 [] t && (t.ctx 0).buf == none)),
     (base.winHas 1 0x40 0xFFFC0,
      ans (exec (.mbBufSet (hd 0) 1 0x40 0xFFFC0) base) (fun t => doneB (hd 0) 0x0108 [] t && (t.ctx 0).buf == some { window := 1, offset := 0x40, size := 0xFFFC0 }))] = true := by decide +kernel

/-- A device in the split layout whose port 1 is UP and owns context 128. -/
def split : State :=
  { base with host := { base.host with split := true, port1 := upPort, ctxs := base.host.ctxs ++ [(128, { Ctx.reset with owner := 1 })] } }
/-- The same device with port 1 in another state. -/
def split1 (l : PortLink) : State := { split with host := { split.host with port1 := { upPort with link := l } } }

/-- A device in a capture mode whose pending apply holds a table. -/
def locking (key : Nat) : State :=
  let s := inMode .webFast base
  { s with mode := { s.mode with apply := some { ctx := some 3, accepted := 0, target := none, keys := [key], held := 0, newMode := none, announced := false, room := none } } }
/-- Context 5 has a move queued on AX_D. -/
def moving : State :=
  withCtx 5 (fun x => { x with cur := some { opcode := 0x0903, seq := 9, noCpl := false } })
    (withAxis 3 (fun a => { a with queue := [{ ctx := some 5, kind := .move 10 1 1 1 }] }) base)
/-- Context 3 has an apply pending. -/
def applying : State := withCtx 3 (fun x => { x with cur := some { opcode := 0x0102, seq := 9, noCpl := false } }) (locking 0x0501)
/-- Context 0 waits with a staging whose table is no longer locked. -/
def resuming : State :=
  withCtx 0 (fun x => { x with cur := some { opcode := 0x0501, seq := 7, noCpl := false }, deferred := some (.xformStage (hd 40)) }) base
/-- The diagnostic tap is staged in a run mode. -/
def tapStaged : State :=
  inMode .webFast (withShadow (fun x => { x with diagPort := 3 }) { base with staged := { Staged.reset with keys := [0x0F00] } })

/-- Values that meet the hypotheses of PortHandoverCommandsComplete, clause by clause, with what follows for them. -/
theorem test_witness_PortHandoverCommandsComplete : allOf
    [(base.accepts (hd 0) [.c] && !base.host.split,
      true),
     (split.accepts (hd 0) [.c] && split.host.split && split.host.port1.link == .up,
      true),
     ((split1 .quiesced).accepts (hd 0) [.c],
      true),
     ((split1 .lost).accepts (hd 0) [.c] && decide ((split1 .lost).host.port1.since + 10000000 ≤ 10000000),
      true),
     (split.accepts (hd 0) [.c],
      true)] = true := by decide +kernel

/-- Values that meet the hypotheses of ModeCommandsComplete, clause by clause, with what follows for them. -/
theorem test_witness_ModeCommandsComplete : allOf
    [(base.accepts (hd 0) [.c] && permits .idle .diagnose && base.mode.apply.isNone && ((base.taken (hd 0) 0x0101).modeFault .diagnose (base.willBe true base.staged.keys.eraseDups) true).isNone,
      ans (exec (.setMode (hd 0) 9 0 0) base) (fun t => runsB (hd 0) 0x0101 t && t.mode.transit && t.mode.target == .diagnose && t.mode.mode == .idle)),
     (permits .idle .webFast && ((base.taken (hd 0) 0x0101).modeFault .webFast (base.willBe true base.staged.keys.eraseDups) true).isNone && ((base.taken (hd 0) 0x0101).findRoom base.protSize base.dramSize (((base.willBe true base.staged.keys.eraseDups).stagger + 2) * stagLine base.board.member (base.willBe true base.staged.keys.eraseDups))).isSome,
      ans (exec (.setMode (hd 0) 5 0 0) base) (fun t => runsB (hd 0) 0x0101 t && t.mode.transit && t.mode.target == .webFast && t.mode.mode == .idle)),
     (((base.taken (hd 0) 0x0102).applyFault (base.willBe false base.staged.keys.eraseDups) base.staged.keys.eraseDups false).isNone && ((State.swap base.staged.keys.eraseDups false { base.taken (hd 0) 0x0102 with shd := { base.shd with accFilters := base.shd.filters } }).2.ctx 0).cur == ((base.taken (hd 0) 0x0102).ctx 0).cur,
      ans (exec (.syncApply (hd 0) 0 0) base) (fun t => doneB (hd 0) 0x0102 [] t && t.active == base.active)),
     (tapStaged.accepts (hd 0) [.c] && ((tapStaged.taken (hd 0) 0x0102).applyFault (tapStaged.willBe false [0x0F00]) [0x0F00] false).isNone,
      ans (exec (.syncApply (hd 0) 0 0) tapStaged) (fun t => runsB (hd 0) 0x0102 t && t.active == base.active && t.staged == tapStaged.staged && (match t.mode.apply with | some a => a.ctx == some 0 && a.keys == [0x0F00] && !a.announced && a.newMode == none | none => false)))] = true := by decide +kernel

/-- Values that meet the hypotheses of WaitingAndAbortedCommandsBehave, clause by clause, with what follows for them. -/
theorem test_witness_WaitingAndAbortedCommandsBehave : allOf
    [((locking 0x0501).accepts (hd 40) [.s] && (locking 0x0501).locked [0x0501],
      ans (exec (.xformStage (hd 40)) (locking 0x0501)) (fun t => runsB (hd 40) 0x0501 t && (t.ctx 0).deferred == some (.xformStage (hd 40)) && (t.ctx 0).opState == .queued && t.shadow == base.shadow && t.staged == base.staged)),
     (resuming.served && !resuming.locked [0x0501] && Cls.ok resuming.mode.mode .s && (List.range 256).all (fun k => !resuming.hasCmd k && (k == 0 || (resuming.ctx k).deferred == none)),
      ans (exec (.mbSweep 9) resuming) (fun t => doneB (hd 40) 0x0501 [] t && (t.ctx 0).deferred == none && t.staged.keys == [0x0501] && t.active == base.active)),
     (moving.accepts (hd 0) [.c] && ((moving.taken (hd 0) 0x0107).abortRun 5 0x0903).isSome,
      ans (exec (.mbAbort (hd 0) 5 9) moving) (doneB (hd 0) 0x0107 [])),
     (applying.accepts (hd 0) [.c] && applying.shd.cal.isNone && applying.aln.cal.isNone && [0, 1].all (fun c => !(applying.chain c).shifted),
      ans (exec (.mbAbort (hd 0) 3 9) applying) (fun t => doneB (hd 0) 0x0107 [] t && t.mode.apply == none && (t.ctx 3).cur == none && t.active == applying.active))] = true := by decide +kernel

/-- The axis configuration of the tests: AX_B with plain values. -/
def axisBytes : List Byte :=
  le 1 1 ++ le 1 0 ++ le 2 2000 ++ le 2 1000 ++ le 2 500 ++ le 2 10 ++ le 2 1500 ++ le 2 100 ++ le 2 100 ++ le 2 0 ++ le 1 4 ++ le 1 0 ++
    le 2 24000 ++ le 2 18000 ++ le 2 1024 ++ le 1 20 ++ le 4 100000 ++ le 4 1000000 ++ le 4 500000 ++ leS 8 (-1000) ++ leS 8 1000 ++ le 1 10 ++
    le 1 3 ++ le 4 100 ++ le 1 0 ++ le 2 16 ++ le 1 0 ++ le 2 64 ++ le 4 0 ++ le 4 0 ++ le 4 0
/-- Port 7 is in one state and present. -/
def portIn (st : PortSt) (q : Nat) : State :=
  { base with ports := { base.ports with ports := [(7, { PortUnit.reset with state := st, pres := true, powered := true, qual := q })] } }
/-- The tap map covers one column of one colour line, and window 1 holds an image for it from 0x1000 on and a patch at 0x2000. -/
def onePix : State :=
  let m : SMap TapEntry := [(0, { TapEntry.reset with en := true, count := 1 })]
  let s := { base with active := { base.active with tapMap := m }, shadow := { base.shadow with tapMap := m } }
  { s with dram := { s.dram with mem := memWrite 0x70001000 (le 4 1 ++ [1]) (memWrite 0x70002000 (le 4 0 ++ le 4 0x40000000) s.dram.mem) } }
/-- The set of that image. -/
def loaded : ShdSet := { tFe := List.replicate 48 0, tLamp := List.replicate 48 [0, 0, 0, 0], words := [], bad := [] }
/-- An active set. -/
def oldSet : ShdSet := { loaded with words := [(0, 0x20000000)], bad := [0] }
/-- The device with a valid set 0. -/
def withSet : State := { onePix with shd := { onePix.shd with slots := [(0, oldSet)], place := [(0, some 0)] } }
/-- A Tongs window of the least size. -/
def tongsBytes : List Byte := le 8 0 ++ le 2 16 ++ le 2 16 ++ le 4 0 ++ le 2 1 ++ le 10 0 ++ le 2 0xFF ++ le 10 0
/-- A Ladle strip. -/
def ladleBytes : List Byte := le 16 0 ++ [3, 16] ++ le 4 0 ++ le 2 256 ++ le 7 0 ++ [8, 1, 0, 0, 0]
/-- A row configuration at its limits. -/
def rowBytes : List Byte := [1, 16] ++ le 2 1023 ++ le 2 500 ++ [2, 0] ++ le 2 5000 ++ le 2 1023 ++ le 2 512 ++ le 2 4096 ++ [1, 0] ++ le 2 1
/-- Row 2 has one lamp per zone. -/
def chained : State := withShadow (fun t => { t with ilmRow := [(2, { IlmRow.reset with lpz := 1 })] }) base
/-- The NV store is mounted. -/
def nvReady : State := { base with sec := { base.sec with mounted := true, lifecycle := .vendor } }

/-- Values that meet the hypotheses of PortStagingsComplete, clause by clause, with what follows for them. -/
theorem test_witness_PortStagingsComplete : allOf
    [(base.accepts (hd 0) [.s] && !base.locked [0x0202, 0x0208] && base.portChecks (setBits 64 1) { base.shadowView with patSel := sset PatSel.reset 0 { bank := 3, drive := 2 } base.shadowView.patSel },
      ans (exec (.patSelectStage (hd 0) 1 3 2) base) (stagesB (hd 0) 0x0202 0x0202 [] { base.shadow with patSel := sset PatSel.reset 0 { bank := 3, drive := 2 } base.shadow.patSel } base)),
     (base.accepts (hd 128) [.s] && ((chunks 8 16 (base.payload (hd 128))).map tapAfeOf).all (·.2),
      ans (exec (.afeStage (hd 128) 47 3) base) (stagesB (hd 128) 0x0203 0x0203 [] { base.shadow with afe := sset AfePort.reset 47 { range := 3, taps := ((chunks 8 16 (base.payload (hd 128))).map tapAfeOf).map (·.1) } base.shadow.afe } base)),
     (clkRange base.dense 79999 && check99 base.board.member base.dense base.banks { base.shadowView with tapClk := sset 80000 3 79999 base.shadowView.tapClk },
      ans (exec (.tapClockStage (hd 0) 3 79999) base) (stagesB (hd 0) 0x0205 0x0205 [] { base.shadow with tapClk := sset 80000 3 79999 base.shadow.tapClk } base)),
     (PortCmd.isolate.from ((portIn .active 0).seg 7),
      ans (exec (.portIsolate (hd 0) 7) (portIn .active 0)) (fun t => stagesB (hd 0) 0x0206 0x0206 [] base.shadow (portIn .active 0) t && sget none 7 t.staged.ports == some .isolate)),
     (PortCmd.swap.from ((portIn .isolated 0).seg 7),
      ans (exec (.portSwap (hd 0) 7) (portIn .isolated 0)) (fun t => stagesB (hd 0) 0x0207 0x0207 [] base.shadow (portIn .isolated 0) t && sget none 7 t.staged.ports == some .swap)),
     (PortCmd.release.from ((portIn .qualify 1).seg 7),
      ans (exec (.portRelease (hd 0) 7) (portIn .qualify 1)) (fun t => stagesB (hd 0) 0x0209 0x0209 [] base.shadow (portIn .qualify 1) t && sget none 7 t.staged.ports == some .release)),
     ((PortCmd.qualify 1 20 64).from ((portIn .swap 0).seg 7) && (portIn .swap 0).portChecks [7] { (portIn .swap 0).shadowView with patSel := supd PatSel.reset 7 (fun q => { q with bank := 1 }) (portIn .swap 0).shadowView.patSel },
      ans (exec (.portQualify (hd 0) 7 1 0 64) (portIn .swap 0)) (fun t => stagesB (hd 0) 0x0208 0x0208 [] (portIn .swap 0).shadow (portIn .swap 0) t && sget none 7 t.staged.ports == some (.qualify 1 20 64)))] = true := by decide +kernel

/-- Values that meet the hypotheses of ProgramAndMapStagingsComplete, clause by clause, with what follows for them. -/
theorem test_witness_ProgramAndMapStagingsComplete : allOf
    [(PatProgram.reset.ok base.dense && !base.pendingBank 47 3 && base.accepts (hd 24) [.s],
      ans (exec (.patBankStage (hd 24) 3 0 4 4 1 4 0x800000000001) base) (fun t => doneB (hd 24) 0x0201 [] t && sget PatProgram.reset 3 t.banks == PatProgram.reset && sget PatProgram.reset (4 * 47 + 3) t.banks == PatProgram.reset)),
     (base.portChecks [47] base.shadowView && (base.dense || check140 base.board.member false base.shadowView) && !base.anySet && base.accepts (hd 128) [.s],
      ans (exec (.tapMapStage (hd 128) 47 1) base) (stagesB (hd 128) 0x0204 0x0204 ((List.range 4).flatMap (fun k => le 1 (channelsUsed base.shadowView base.dense k))) base.shadow base))] = true := by decide +kernel

/-- Values that meet the hypotheses of LineStagingsComplete, clause by clause, with what follows for them. -/
theorem test_witness_LineStagingsComplete : allOf
    [(!base.axisClaims && (base.axis 0).queue.isEmpty,
      ans (exec (.ltSrcStage (hd 0) 3 7 3 15 100 5 0x100000000 1000 10000000) base) (stagesB (hd 0) 0x0300 0x0300 [] { base.shadow with ltSrc := { src := 3, interp := true, dir0 := true, dir1 := true, followers := 3, filtEnc := 15, filtSheet := 100, chkTol := 5, div := 0x100000000, genPeriod := 1000, flushPeriod := 10000000 } } base)),
     (let s := pay (le 4 4) base; rd (s.payload (hd 196)) 0 1 == 4 && ((chunks 12 16 ((s.payload (hd 196)).drop 4)).map slotOf).all (·.2) && check181 s.board.member s.banks { s.shadowView with strobe := { phases := 4, stbRef := 0, slots := List.replicate 16 Slot.reset } },
      ans (exec (.ltStrobeStage (hd 196)) (pay (le 4 4) base)) (stagesB (hd 196) 0x0301 0x0301 [] { base.shadow with strobe := { phases := 4, stbRef := 0, slots := List.replicate 16 Slot.reset } } (pay (le 4 4) base))),
     (let s := pay (le 4 64) base; (ltPageOf (s.payload (hd 28))).2 && pageFits s.ring.cap { s.shadowView with ltPage := (ltPageOf (s.payload (hd 28))).1 },
      let s := pay (le 4 64) base; ans (exec (.ltPageStage (hd 28)) s) (stagesB (hd 28) 0x0302 0x0302 [] { s.shadow with ltPage := (ltPageOf (s.payload (hd 28))).1 } s)),
     (!base.hasRing && pageFits base.ring.cap { base.shadowView with ltPace := { hwm := 2, lwm := 1, takeup := 9 } },
      ans (exec (.ltPaceStage (hd 0) 2 1 9) base) (stagesB (hd 0) 0x0303 0x0303 [] { base.shadow with ltPace := { hwm := 2, lwm := 1, takeup := 9 } } base)),
     (!base.ltClaims && !base.followsA,
      ans (exec (.ioAssignStage (hd 0) 2 1 0xFFFF 3 4 5) base) (stagesB (hd 0) 0x0304 0x0304 [] { base.shadow with io := { enc1 := 2, fev15 := 1, fevMask := 0xFFFF, rejMin := 3, rejDist := 4, rejWidth := 5 } } base))] = true := by decide +kernel

/-- Values that meet the hypotheses of CorrectionStagingsComplete, clause by clause, with what follows for them. -/
theorem test_witness_CorrectionStagingsComplete : allOf
    [((shdCfgOf (base.payload (hd 204))).2 && check219 base.board.member (shdCfgOf (base.payload (hd 204))).1 base.shdView,
      ans (exec (.shdCfgStage (hd 204)) base) (stagesB (hd 204) 0x0406 0x0406 [] { base.shadow with shdCfg := (shdCfgOf (base.payload (hd 204))).1 } base)),
     (base.accepts (hd 8192) [.s],
      true),
     (decide (3 < setsMax base.board.member base.shadow) && !base.locked (setKeys 3) && base.shd.cal.isNone,
      ans (exec (.shdSetClear (hd 0) 3) base) (fun t => stagesB (hd 0) 0x0402 0x40402 [] base.shadow base t && t.shd.cleared.contains 3)),
     (base.shd.staged.isNone,
      ans (exec (.shdSetDiscard (hd 0)) base) (fun t => doneB (hd 0) 0x0403 [] t && t.shd.staged == none && t.shadow == base.shadow)),
     (onePix.accepts (hd 0) [.s] && pixCount .ml9648 onePix.shadow == 1 && (onePix.setBusy 3).isNone && onePix.winHas 1 0x1000 516 && imageOk .ml9648 1 (memRead 0x70001000 516 onePix.dram.mem) && onePix.apartWith 3 loaded,
      true),
     (withSet.activeSet 0 == some oldSet && (withSet.setBusy 0).isNone && withSet.apartWith 0 { oldSet with words := sset 0 0 0x40000000 oldSet.words, bad := [] },
      ans (exec (.shdSetPatch (hd 0) 0 1 0 0x2000 1) withSet) (fun t => doneB (hd 0) 0x0401 [] t && t.shd.staged == some 0 && t.stagedSet 0 == some { oldSet with words := sset 0 0 0x40000000 oldSet.words, bad := [] })),
     (withSet.winHas 1 0x1000 512 && imageOk .ml9648 1 (memRead 0x70001000 512 withSet.dram.mem) && withSet.apartWith 0 { oldSet with tFe := List.replicate 48 0, tLamp := List.replicate 48 [0, 0, 0, 0] },
      ans (exec (.shdSetPatch (hd 0) 0 1 1 0x1000 0) withSet) (fun t => doneB (hd 0) 0x0401 [] t && t.shd.staged == some 0))] = true := by decide +kernel

/-- Values that meet the hypotheses of ProductAndServiceStagingsComplete, clause by clause, with what follows for them. -/
theorem test_witness_ProductAndServiceStagingsComplete : allOf
    [(base.accepts (hd 40) [.s],
      ans (exec (.xformStage (hd 40)) base) (stagesB (hd 40) 0x0501 0x0501 [] { base.shadow with xform := { m := List.replicate 16 0, o := List.replicate 4 0 } } base)),
     (let f := fun (t : Tables) => { t with stagger := 1024, aln := sset AlnEntry.reset 47 (alnEntryOf 0).1 t.aln }; (alnEntryOf 0).2 && (base.alnFault (f base.shadowView)).isNone,
      ans (exec (.alnTableStage (hd 16) 1024 47 1) base) (stagesB (hd 16) 0x0500 0x0500 [] { base.shadow with stagger := 1024, aln := sset AlnEntry.reset 47 (alnEntryOf 0).1 base.shadow.aln } base)),
     (isProductQueue 0x1000 && base.fitsRing { base.shadowView with product := { pf := 3, chMask := 15, firstCol := 8, count := 16, queue := 0x1000 } },
      ans (exec (.productStage (hd 0) 3 15 8 16 0x1000) base) (stagesB (hd 0) 0x0502 0x0502 [] { base.shadow with product := { pf := 3, chMask := 15, firstCol := 8, count := 16, queue := 0x1000 } } base)),
     (let s := pay (List.replicate 24 0 ++ [1]) base; (sieveClassOf ((s.payload (hd 28)).take 8)).2 && (sieveRegionOf ((s.payload (hd 28)).drop 8)).2,
      let s := pay (List.replicate 24 0 ++ [1]) base; ans (exec (.svSieveStage (hd 28) 1 1 1020) s) (stagesB (hd 28) 0x0604 0x0604 [] { s.shadow with sv := { s.shadow.sv with sieve := { classes := [(sieveClassOf (List.replicate 8 0)).1], regions := [(sieveRegionOf (List.replicate 16 0 ++ [1, 0, 0, 0])).1], flagMad := 1020 } } } s)),
     (let s := pay tongsBytes base; (tongsWinOf (ryOf s.board) (s.payload (hd 40))).2 && groupsOk [(tongsWinOf (ryOf s.board) (s.payload (hd 40))).1] [],
      let s := pay tongsBytes base; ans (exec (.svTongsStage (hd 40) 1 0) s) (stagesB (hd 40) 0x0605 0x0605 [] { s.shadow with sv := { s.shadow.sv with tongs := { wins := [(tongsWinOf (ryOf s.board) tongsBytes).1], groups := [] } } } s)),
     (let s := pay ladleBytes base; (ladleStripOf (s.payload (hd 36))).2,
      let s := pay ladleBytes base; ans (exec (.svLadleStage (hd 36) 1) s) (stagesB (hd 36) 0x0606 0x0606 [] { s.shadow with sv := { s.shadow.sv with ladle := [(ladleStripOf ladleBytes).1] } } s)),
     (base.accepts (hd 128) [.s],
      ans (exec (.svPreviewStage (hd 128) 1 3 1) base) (stagesB (hd 128) 0x0607 0x0607 [] { base.shadow with sv := { base.shadow.sv with preview := { colour := true, pvCh := 3, qt := some (List.replicate 128 0) } } } base)),
     ((cropOf (base.payload (hd 20))).2 && base.fitsRing { base.shadowView with sv := { base.shadowView.sv with crops := [(cropOf (List.replicate 20 0)).1] } },
      ans (exec (.svCropStage (hd 20) 1) base) (stagesB (hd 20) 0x0608 0x0608 [] { base.shadow with sv := { base.shadow.sv with crops := [(cropOf (List.replicate 20 0)).1] } } base)),
     (base.accepts (hd 0) [.s],
      ans (exec (.diagSvBypass (hd 0) 31) base) (stagesB (hd 0) 0x0F01 0x0F01 [] { base.shadow with sv := { base.shadow.sv with bypass := 31 } } base)),
     (base.sv.job.isNone && isProductQueue 0x1000,
      ans (exec (.diagTapStage (hd 0) 47 0x1000) base) (stagesB (hd 0) 0x0F00 0x0F00 [] { base.shadow with diagPort := 47, diagQ := 0x1000 } base))] = true := by decide +kernel

/-- Values that meet the hypotheses of SkilletStagingsComplete, clause by clause, with what follows for them. -/
theorem test_witness_SkilletStagingsComplete : allOf
    [(let x : SklCfg := { en := true, line := 3, latLimit := 255, slkEn := false, lanes := 4 }; check343 base.board.member base.banks { base.shadowView with sklCfg := x },
      ans (exec (.sklCfgStage (hd 0) 1 3 255 0 4) base) (stagesB (hd 0) 0x0700 0x0700 [] { base.shadow with sklCfg := { en := true, line := 3, latLimit := 255, slkEn := false, lanes := 4 } } base)),
     (let t := { base.shadowView with sklMap := sset SklGroup.reset 16383 (sklGroupOf 0).1 base.shadowView.sklMap }; (sklGroupOf 0).2 && check324 base.board.member t && check343 base.board.member base.banks t,
      ans (exec (.sklMapStage (hd 8) 16383 1) base) (stagesB (hd 8) 0x0701 0x0701 [] { base.shadow with sklMap := sset SklGroup.reset 16383 (sklGroupOf 0).1 base.shadow.sklMap } base)),
     (base.accepts (hd 2) [.s],
      let s := pay [7, 1] base; ans (exec (.sklProfileStage (hd 2) 16383 1) s) (stagesB (hd 2) 0x0702 0x0701 [] { s.shadow with sklMap := [(16383, { SklGroup.reset with expect := 263 })] } s)),
     (let s := pay (le 2 256 ++ le 2 256 ++ le 2 255) base; (sklClassOf (s.payload (hd 16))).2,
      let s := pay (le 2 256 ++ le 2 256 ++ le 2 255) base; ans (exec (.sklClassStage (hd 16) 15 1) s) (stagesB (hd 16) 0x0703 0x0703 [] { s.shadow with sklClass := [(15, { k := 256, m := 256, clr := 255, thr := 0, pol := 0, exp := false, freeze := false, step := 0, route := 0 })] } s)),
     ((chunks 4 16 (base.payload (hd 64))).all (fun b => decide (rd b 0 1 ≤ 1 ∧ rd b 1 1 ≤ 1)),
      let s := pay [1, 1, 9, 0] base; ans (exec (.sklFevStage (hd 64)) s) (stagesB (hd 64) 0x0704 0x0704 [] { s.shadow with sklFev := [(0, { mode := 1, actLow := true, minHi := 9 })] } s))] = true := by decide +kernel

/-- Values that meet the hypotheses of LampStagingsComplete, clause by clause, with what follows for them. -/
theorem test_witness_LampStagingsComplete : allOf
    [(let s := pay rowBytes base; (ilmRowOf (s.payload (hd 20))).2 && s.failedOf 3 == [],
      let s := pay rowBytes base; ans (exec (.ilmRowStage (hd 20) 3) s) (stagesB (hd 20) 0x0800 0x0800 [] { s.shadow with ilmRow := sset IlmRow.reset 3 (ilmRowOf rowBytes).1 s.shadow.ilmRow } s)),
     (let s := pay ((List.range 16).flatMap (fun _ => le 2 4096)) base; ((chunks 2 16 (s.payload (hd 32))).map leVal).all (fun d => decide (1 ≤ d ∧ d ≤ 4096)),
      let s := pay ((List.range 16).flatMap (fun _ => le 2 4096)) base; ans (exec (.ilmLevelStage (hd 32)) s) (stagesB (hd 32) 0x0801 0x0801 [] { s.shadow with dim := List.replicate 16 4096 } s)),
     (tempsRise ((List.range 8).map (fun i => (256 * i : Int))),
      let s := pay ((List.range 8).flatMap (fun i => le 2 (256 * i) ++ le 2 (16384 + i))) base; ans (exec (.ilmTcompStage (hd 32) 3) s) (stagesB (hd 32) 0x0802 0x0802 [] { s.shadow with tcomp := [(3, { temps := (List.range 8).map (fun i => (256 * i : Int)), ks := (List.range 8).map (16384 + ·) })] } s)),
     (base.accepts (hd 0) [.s],
      ans (exec (.ilmLampClear (hd 0) 3 47 0xFF) base) (fun t => stagesB (hd 0) 0x0805 0x0805 [] base.shadow base t && (List.range 16).all (fun n => t.staged.lamps.contains (lampKey (3, 47, n))))),
     (!(base.row 3).ovNow,
      ans (exec (.ilmRowClear (hd 0) 3) base) (fun t => stagesB (hd 0) 0x0806 0x0806 [] base.shadow base t && t.staged.rows.contains 3)),
     ((base.chain 1).staging.isNone,
      ans (exec (.lswStage (hd 0) 1 1 0) base) (fun t => runsB (hd 0) 0x0803 t && (t.chain 1).staging == some (0, true))),
     (chainLen 48 chained.shadow 1 == 48 && !closesZone 48 chained.shadow 1 (List.replicate 48 false) && chained.accepts (hd 6) [.s],
      ans (exec (.lswStage (hd 6) 1 0 48) chained) (fun t => runsB (hd 6) 0x0803 t && (t.chain 1).staging == some (0, false) && (t.chain 1).bits == List.replicate 48 false))] = true := by decide +kernel

/-- Values that meet the hypotheses of UnitStagingsComplete, clause by clause, with what follows for them. -/
theorem test_witness_UnitStagingsComplete : allOf
    [(let s := pay axisBytes base; !s.pacedAxis 1 && (motCfgOf 1 (s.payload (hd 79))).2 && !s.axisBusy 1 && s.accepts (hd 79) [.s],
      let s := pay axisBytes base; ans (exec (.motAxisStage (hd 79) 1) s) (stagesB (hd 79) 0x0900 0x0900 [] { s.shadow with motCfg := sset MotCfg.reset 1 (motCfgOf 1 axisBytes).1 s.shadow.motCfg } s)),
     (!base.pacedAxis 3 && !base.axisBusy 3,
      let s := pay (le 4 0xFFFFFF ++ leS 4 (-5) ++ leS 4 6) base; ans (exec (.motRampStage (hd 12) 3 63 1) s) (stagesB (hd 12) 0x0901 0x0901 [] { s.shadow with ramps := [(831, { dur := 0xFFFFFF, endPos := -5, endVel := 6 })] } s)),
     (!base.axisBusy 1 && !base.axisBusy 2 && base.accepts (hd 336) [.s],
      ans (exec (.motTileStage (hd 336)) base) (stagesB (hd 336) 0x0902 0x0902 [] { base.shadow with tiles := { cWork := 0, bPark := 0, tiles := List.replicate 8 { bPos := 0, cPos := 0, vB := 0, accB := 0, decB := 0, vC := 0, accC := 0, decC := 0 } } } base)),
     (base.accepts (hd 0) [.s],
      ans (exec (.madcCfgStage (hd 0) 2 16 255) base) (fun t => doneB (hd 0) 0x0A00 [] t && t.madc == { base.madc with nextCfg := some (2, 16, 255) })),
     (base.madcChan 0 != cRange && base.madcChan 0 != cConflict && (seqEntryOf 0x00000100).2,
      let s := pay [0, 1, 0, 0] base; ans (exec (.madcSeqStage (hd 4) 1) s) (fun t => doneB (hd 4) 0x0A01 [] t && t.madc == { s.madc with nextSeq := some [(seqEntryOf 0x100).1] })),
     ((setCfgOf [1, 3, 3, 0]).2 && curveOk (curveOf ((List.range 16).flatMap (fun i => le 8 i))),
      let s := pay (padTo 12 0 [1, 3, 3, 0] ++ (List.range 16).flatMap (fun i => le 8 i)) base; ans (exec (.madcSetStage (hd 140) 63 1 8) s) (fun t => doneB (hd 140) 0x0A02 [] t && t.madc == { s.madc with nextSets := [(63, (setCfgOf (padTo 12 0 [1, 3, 3, 0])).1)], nextCurves := [(3, curveOf ((List.range 16).flatMap (fun i => le 8 i)))] })),
     ((inMode .thermalHold base).accepts (hd 0) [.s, .t],
      ans (exec (.simmerCfgStage (hd 0) 25600 1 24320 30208 60000 4096 16) (inMode .thermalHold base)) (fun t => doneB (hd 0) 0x0B00 [] t && t.simmer == { base.simmer with nextCfg := some { tTarget := 25600, theta := 1, tRelease := 24320, tHold := 30208, dwell := 60000, ceilMin := 4096, bucket := 16, pBoard := 0 } })),
     (base.accepts (hd 0) [.s, .t],
      ans (exec (.simmerPowerLimit (hd 0) 0xFFFF) base) (fun t => doneB (hd 0) 0x0B01 [] t && t.simmer == { base.simmer with nextBoard := some 0xFFFF })),
     (base.accepts (hd 0) [.w],
      ans (exec (.dramCfgStage (hd 0) 14 0 8 168 250) base) (fun t => doneB (hd 0) 0x0C00 [] t && t.dram == { base.dram with prot := 8, ageLimit := 250, scrubH := 168 })),
     (nvWritable nvReady.sec.lifecycle 3 && (State.nvPut .ownerCfg (le 1 1) .layout (some 0) (nvReady.taken (hd 0) 0x0C00)).isSome,
      ans (exec (.dramCfgStage (hd 0) 1 1 0 0 0) nvReady) (fun t => runsB (hd 0) 0x0C00 t && t.sec.writes.length == 1 && t.dram == nvReady.dram))] = true := by decide +kernel

/-- The command ended DONE and its result lies in the window's range. -/
def writesB (h : Hdr) (op a : Nat) (bs data : List Byte) (t : State) : Bool := doneB h op data t && memRead a bs.length t.dram.mem == bs
/-- Every axis is configured, referenced and at rest. -/
def motor : State :=
  let s := withActive (fun x => { x with motCfg := (List.range 4).map (fun k => (k, (motCfgOf 1 axisBytes).1)), ramps := [(256, { dur := 1000, endPos := 0, endVel := 0 })] }) base
  { s with axes := (List.range 4).map (fun k => (k, { Axis.reset with state := .rest, homed := true, hold := true, gates := true })) }
/-- A move of AX_B is under way. -/
def moved : State :=
  withCtx 5 (fun x => { x with cur := some { opcode := 0x0903, seq := 9, noCpl := false } })
    (withAxis 1 (fun a => { a with state := .moving, running := true, queue := [{ ctx := some 5, kind := .move 500 1000 1000 1000 }] }) motor)
/-- A page of a job, with every service off. -/
def svPage : SvPage :=
  { seq := 0, firstSeq := 100, mode := .webFast, tabs := State.reset.active.sv, isOpen := true, dropped := false, seqGap := false, gapPages := 0,
    short := false, lines := [], ref := none, refLate := false, refBad := false, close := 0, stage := 0, decimated := false, lead := none,
    trail := none, skew := none, lastPos := 0, prog := List.replicate 5 .off, part := List.replicate 5 false, issued := [], finished := [],
    lost := [], reduced := [], fewer := [], rowsOut := 0, found := 0, stored := 0, regs := [], patches := 0, noBar := false, bars := [], patchOut := [], marks := [],
    crops := [], refused := 0, coded := [], judged := false }
/-- A job of the Sieve with one open page. -/
def job0 : Job :=
  { id := 77, en := 1, slots := 2, refWin := 1, width := 64, height := 64, queues := [768, 0, 0, 0, 0, 2815], x0 := 0, nextPage := 1, refs := [],
    pages := [svPage], past := [], hash := List.replicate 32 0, chain := List.replicate 32 0, pushed := none, count := 0, gapPages := 0,
    closing := false, endCtx := none, wrapped := false, aMax := 0, aKey := [], summing := none }
/-- The device with that job. -/
def withJob : State := { base with sv := { base.sv with job := some job0 } }
/-- Both converters in service. -/
def madcUp : State :=
  { base with madc := { base.madc with convA := { base.madc.convA with state := .normal }, convB := { base.madc.convB with state := .normal } } }
/-- Window 9 is in the protected part. -/
def win9 : State :=
  { base with dram := { base.dram with windows := base.dram.windows ++ [(9, ({ base := 0, size := 65536, prot := true, bar2 := none } : Window))] } }
/-- A device whose staged pages have at most 512 lines. -/
def shortPages : State := withShadow (fun x => { x with ltPage := { x.ltPage with maxLen := 512 }, ltPace := { x.ltPace with lwm := 512 } }) base
/-- A ring of one released and one closed page. -/
def ringed : State :=
  let p : RingPage := { firstSeq := 100, firstRl := 0, lines := 4, isOpen := false, released := false, reserved := 0 }
  { base with ring := { base.ring with window := 1, size := 0x10000, cap := 64, rl := 1024, qDesc := 0x1000, pages := [p, { p with firstSeq := 104 }] } }
/-- A resilient DRAM, with one channel spared. -/
def spareDram (sp : Nat) (ch : Option Nat) (m : Mode) : State :=
  inMode m { base with dram := { base.dram with resilient := true, spare := sp, spared := ch } }
/-- An owner key record, as SEC_OWNER_ENROL takes it in VENDOR. -/
def ownerBytes : List Byte := le 4 0x4B4F4C4D ++ le 2 1 ++ le 2 1184 ++ le 8 0 ++ le 4 65537
/-- An image header, with its body of one byte. -/
def imageBytes : List Byte := le 4 0x57464C4D ++ le 8 0 ++ le 4 1 ++ le 2 0 ++ le 2 2
/-- A device in VENDOR or PROVISIONED, with random numbers. -/
def secState (l : Lifecycle) : State :=
  { base with sec := { base.sec with lifecycle := l, mounted := true, entropyOk := true, owner := true, challenge := List.replicate 32 7 } }
/-- An authorisation block. -/
def blockBytes (action target owner : Nat) : List Byte :=
  le 4 0x55414C4D ++ le 1 action ++ le 1 target ++ le 1 owner ++ [0] ++ padTo 8 0 base.board.serial ++ List.replicate 32 7

/-- Values that meet the hypotheses of WindowReadsComplete, clause by clause, with what follows for them. -/
theorem test_witness_WindowReadsComplete : allOf
    [(base.accepts (hd 0) [.c] && base.winHas 1 0x10000 (104 * 16),
      true),
     (withSet.activeSet 0 == some oldSet && withSet.winHas 1 0x10000 516,
      true),
     (base.winHas 1 0x10000 (48 * 4 * 12),
      true),
     (base.winHas 1 0x10000 8,
      let s := { base with aln := { base.aln with seams := [{ portA := 1, portB := 2, resid := 3, dstep := 4 }] } }; ans (exec (.seamQualityRead (hd 0) 1 0x10000) s) (writesB (hd 0) 0x0504 0x70010000 [1, 2, 3, 0, 4, 0, 0, 0] [])),
     (base.winHas 1 0x10000 65536,
      true),
     (base.winHas 1 0x10000 64,
      ans (exec (.madcAccRead (hd 0) 1 1 0x10000 (2 ^ 63) 0x80) base) (fun t => writesB (hd 0) 0x0A06 0x70010000 ((base.taken (hd 0) 0x0A06).accRec 63 ++ (base.taken (hd 0) 0x0A06).accRec 71) [] t && !(sget AccSet.reset 63 t.madc.acc).sticky)),
     (base.winHas 1 0x10000 ((base.taken (hd 0) 0x0B02).thermBytes).length,
      true),
     (base.winHas 1 0x10000 64,
      let s := { base with dram := { base.dram with dropCorr := 70000, log := [{ time := 1, addr := 64, ch := 1, port := 2, type := 1, words := 1, phys := 0, count := 1 }] } }; ans (exec (.dramLogRead (hd 0) 1 1 0x10000) s) (fun t => writesB (hd 0) 0x0C06 0x70010000 (s.dram.log.flatMap LogEntry.bytes) (le 2 1 ++ le 2 0xFFFF ++ le 2 0) t && t.dram.log == [] && t.dram.dropCorr == 0))] = true := by decide +kernel

/-- Values that meet the hypotheses of PortCommandsComplete, clause by clause, with what follows for them. -/
theorem test_witness_PortCommandsComplete : allOf
    [(base.accepts (hd 0) [.idle],
      ans (exec (.cfgProfile (hd 0) 1) base) (fun t => doneB (hd 0) 0x0200 [] t && t.mode == { base.mode with profile := .dense })),
     (base.accepts (hd 0) [.idleDiag] && base.ports.fgCal == none,
      true),
     (nvReady.accepts (hd 0) [.s] && ((nvReady.taken (hd 0) 0x020B).saveTrims (some 0)).isSome,
      true),
     (base.accepts (hd 0) [.c],
      let s := portIn .swap 3; ans (exec (.portStatusRead (hd 0) 7) s) (fun t => doneB (hd 0) 0x020D [3, 1, 0, 3, 0, 0, 0, 0] t && (t.seg 7).causes == 0))] = true := by decide +kernel

/-- Values that meet the hypotheses of CalibrationsAndLampTestStart, clause by clause, with what follows for them. -/
theorem test_witness_CalibrationsAndLampTestStart : allOf
    [((inMode .calibrate motor).accepts (hd 0) [.k] && decide (3 < setsMax .ml9648 motor.active) && (motor.setBusy 3).isNone && motor.axisIdle 1 && motor.axisIdle 2,
      true),
     ((base.setBusy 3).isNone,
      true),
     ((inMode .calibrate base).winHas 1 0x10000 (2 + 16 * 48) && base.aln.cal.isNone && base.shd.cal.isNone,
      ans (exec (.alnCalibrate (hd 0) 3 0 1 1 0xFFFFFF 0x10000 0) (inMode .calibrate base)) (fun t => runsB (hd 0) 0x0503 t && (match t.aln.cal with | some c => c.ctx == 0 && c.ports == 3 && c.nbars == 64 && c.deadline == 60000000005 | none => false))),
     ((inMode .webFast base).accepts (hd 0) [.j, .k] && base.ilm.test.isNone,
      ans (exec (.lampTest (hd 0) 15 127 400 5 1 0 0) (inMode .webFast base)) (fun t => runsB (hd 0) 0x0804 t && (match t.ilm.test with | some x => x.ctx == 0 && x.rows == 15 && x.code == 127 && x.ns == 400 && x.lines == 5 | none => false))),
     ((inMode .webFast base).accepts (hd 0) [.j, .k] && decide (64 ≤ base.bufSize 0),
      ans (exec (.lampTest (hd 0) 0 1 80 1 0 0 0) (inMode .webFast base)) (fun t => endedB (hd 0) 0x0804 .done cOk [] 64 t && t.ilm.test.isNone))] = true := by decide +kernel

/-- Values that meet the hypotheses of ServiceCommandsComplete, clause by clause, with what follows for them. -/
theorem test_witness_ServiceCommandsComplete : allOf
    [((inMode .webFast base).accepts (hd 0) [.j] && base.sv.job.isNone && isResultQueue 768,
      true),
     (slotBytes 64 64 * 2 == 32768 + 256 && base.winHas 1 0 (2 * slotBytes 64 64) && [768, 2815].all isResultQueue && base.active.diagPort == 0xFF,
      true),
     ((inMode .webFast withJob).accepts (hd 0) [.j] && (match withJob.sv.job with | some j => !j.closing && j.refs.isEmpty && !j.pages.isEmpty | none => false),
      ans (exec (.svJobEnd (hd 0)) (inMode .webFast withJob)) (fun t => runsB (hd 0) 0x0601 t && (match t.sv.job with | some j => j.closing && j.endCtx == some 0 && j.refs.isEmpty | none => false))),
     ((inMode .webFast withJob).accepts (hd 20) [.j] && (cropOf (withJob.payload (hd 20))).2 && withJob.winHas 1 0x10000 64,
      ans (exec (.svRefSubmit (hd 20) 1 1 0x10000 64 5) (inMode .webFast withJob)) (fun t => runsB (hd 20) 0x0602 t && (match t.sv.job with | some j => j.refs.any (fun r => r.ctx == 0 && r.page == 5 && r.state == .waiting && r.crops == [(cropOf (List.replicate 20 0)).1]) | none => false))),
     (let s := inMode .webFast { withJob with sec := { withJob.sec with dik := true } }; s.accepts (hd 0) [.j] && !s.sec.debugOpen && s.sv.job.isSome,
      true)] = true := by decide +kernel

/-- Values that meet the hypotheses of MotionCommandsComplete, clause by clause, with what follows for them. -/
theorem test_witness_MotionCommandsComplete : allOf
    [(motor.accepts (hd 0) [.m] && (motor.motRefusal 1 false).isNone && motor.rateOk 1 1000 [1000, 1000] && motor.targetIn 1 1000,
      ans (exec (.motMove (hd 0) 1 0 1000 1000 1000 1000) motor) (fun t => runsB (hd 0) 0x0903 t && (t.axis 1).queue == [{ ctx := some 0, kind := .move 1000 1000 1000 1000 }])),
     (moved.queueEnd 1 == 500 && moved.targetIn 1 (-1000),
      ans (exec (.motMove (hd 0) 1 1 (-1500) 1000 1000 1000) moved) (fun t => runsB (hd 0) 0x0903 t && (t.axis 1).queue == (moved.axis 1).queue ++ [{ ctx := some 0, kind := .move (-1000) 1000 1000 1000 }])),
     (rampsOk (motor.motCfg 1) (some ((motor.motCfg 1).posMin, (motor.motCfg 1).posMax)) (motor.queueEnd 1) 0 0 (rampOf motor.active 1 0 0),
      ans (exec (.motTable (hd 0) 1 0 0) motor) (fun t => runsB (hd 0) 0x0904 t && (t.axis 1).queue == [{ ctx := some 0, kind := .table 0 0 }])),
     (motor.rateOk 3 1000 [1000],
      ans (exec (.motJog (hd 0) 3 (-1000) 1000) motor) (fun t => runsB (hd 0) 0x0905 t && (t.axis 3).queue == [{ ctx := some 0, kind := .jog (-1000) 1000 }])),
     ((motor.motRefusal 2 false).isNone,
      ans (exec (.motFollow (hd 0) 2) motor) (fun t => runsB (hd 0) 0x0907 t && (t.axis 2).queue == [{ ctx := some 0, kind := .follow }])),
     (let s := withShadow (fun x => { x with io := { x.io with enc1 := 2 } }) (withActive (fun x => { x with io := { x.io with enc1 := 2 } }) motor); s.active.io.enc1 == 2 && s.shadow.io.enc1 != 1 && !s.ltClaims && (s.motRefusal 0 false).isNone,
      let s := withShadow (fun x => { x with io := { x.io with enc1 := 2 } }) (withActive (fun x => { x with io := { x.io with enc1 := 2 } }) motor); ans (exec (.motFollow (hd 0) 0) s) (fun t => runsB (hd 0) 0x0907 t && (t.axis 0).queue == [{ ctx := some 0, kind := .follow }])),
     (motor.rateOk 1 1000 [] && (motor.motCfg 1).stallThr != 0 && decide ((motor.motCfg 1).vStallMin ≤ 1000),
      ans (exec (.motHome (hd 0) 1 1 1000 (-7) 10 5000) motor) (fun t => runsB (hd 0) 0x0908 t && (t.axis 1).queue == [{ ctx := some 0, kind := .home true 1000 (-7) 10 5000 }])),
     (motor.rateOk 1 1000 [1000, 1000] && motor.targetIn 2 (-500) && (motor.motRefusal 2 false).isNone,
      ans (exec (.motCoord (hd 0) 1000 (-500) 1000 1000 1000) motor) (fun t => runsB (hd 0) 0x0906 t && (t.axis 1).queue == [{ ctx := some 0, kind := .coord 1000 (-500) 1000 1000 1000 }] && (t.axis 2).queue == (t.axis 1).queue)),
     ((moved.motRefusal 1 false).isNone && (moved.axis 1).running && (moved.axis 1).stopDec.isNone && moved.profileAxis 1 { ctx := some 5, kind := .move 500 1000 1000 1000 } == 1,
      ans (exec (.motAdjust (hd 0) 1 2000 3000 4000) moved) (fun t => (doneB (hd 0) 0x0909 (le 1 0) t && (t.axis 1).dec == 4000 || doneB (hd 0) 0x0909 (le 1 1) t && (t.axis 1).dec == (moved.axis 1).dec) && (t.axis 1).vMax == 2000 && (t.axis 1).acc == 3000)),
     ((motor.motRefusal 1 true).isNone && !(motor.axis 1).running && !((motor.axis 1).owned && (motor.axis 1).v != 0),
      ans (exec (.motStop (hd 0) 1 1) motor) (doneB (hd 0) 0x090A (leS 8 (motor.axis 1).pos))),
     ((moved.motRefusal 1 true).isNone && (moved.axis 1).running,
      ans (exec (.motStop (hd 0) 1 1) moved) (fun t => runsB (hd 0) 0x090A t && (t.axis 1).stops.contains (0, true))),
     (let s := withAxis 1 (fun a => { a with state := .hardFault, gates := false, hold := false }) motor; (s.motRefusal 1 true).isNone && !(s.axis 1).fltPin,
      let s := withAxis 1 (fun a => { a with state := .hardFault, gates := false, hold := false }) motor; ans (exec (.motFaultClear (hd 0) 1) s) (fun t => doneB (hd 0) 0x090B [] t && (t.axis 1).state == .rest && (t.axis 1).gates && (t.axis 1).hold)),
     ((motor.axis 1).state != .hardFault,
      ans (exec (.motFaultClear (hd 0) 1) motor) (fun t => doneB (hd 0) 0x090B [] t && t.axes == motor.axes))] = true := by decide +kernel

/-- Values that meet the hypotheses of MonitorCommandsStart, clause by clause, with what follows for them. -/
theorem test_witness_MonitorCommandsStart : allOf
    [(madcUp.accepts (hd 0) [.s] && madcUp.madc.calCtx.isNone && madcUp.convs == [0, 1],
      ans (exec (.madcCal (hd 0)) madcUp) (fun t => runsB (hd 0) 0x0A03 t && t.madc.calCtx == some 0)),
     (madcUp.accepts (hd 0) [.c] && madcUp.madcChan 79 == cOk && madcUp.madc.inj.isNone,
      ans (exec (.madcInject (hd 0) 79 1 255 63) madcUp) (fun t => runsB (hd 0) 0x0A04 t && (match t.madc.inj with | some i => i.ctx == 0 && i.ch == 79 && i.sar && i.set == 63 | none => false))),
     (madcUp.madc.testCtx.isNone && madcUp.madc.calCtx.isNone,
      ans (exec (.madcTest (hd 0) 1) madcUp) (fun t => runsB (hd 0) 0x0A05 t && t.madc.testCtx == some (0, 1) && (t.conv 1).state == .test))] = true := by decide +kernel

/-- Values that meet the hypotheses of MemoryCommandsComplete, clause by clause, with what follows for them. -/
theorem test_witness_MemoryCommandsComplete : allOf
    [(base.accepts (hd 0) [.w] && (base.win 9).isNone && !base.dramHw && base.findRoom base.protSize base.dramSize 65536 == some 0x70110000,
      ans (exec (.winCreate (hd 0) 9 0 1) base) (fun t => doneB (hd 0) 0x0C01 [] t && t.win 9 == some { base := 0x70110000, size := 65536, prot := false, bar2 := none })),
     (base.findRoom 0 base.protSize 65536 == some 0,
      ans (exec (.winCreate (hd 0) 9 1 1) base) (fun t => doneB (hd 0) 0x0C01 [] t && t.win 9 == some { base := 0, size := 65536, prot := true, bar2 := none })),
     ((match base.win 1 with | some w => w.bar2.isNone && 0xFFF0 * 65536 + w.size == 2 ^ 32 | none => false) && !base.dram.windows.any (fun p => match p.2.bar2 with | some b => overlaps (0xFFF0 * 65536) 0x100000 b p.2.size | none => false),
      ans (exec (.winMap (hd 0) 1 0xFFF0) base) (fun t => doneB (hd 0) 0x0C02 [] t && t.win 1 == some { base := 0x70000000, size := 0x100000, prot := false, bar2 := some 0xFFF00000 })),
     ((match base.win 2 with | some w => w.bar2.isSome | none => false),
      ans (exec (.winUnmap (hd 0) 2) base) (fun t => doneB (hd 0) 0x0C03 [] t && t.win 2 == some { base := 0x70100000, size := 0x10000, prot := false, bar2 := none })),
     (let s := win9; !s.winInUse 9,
      let s := win9; ans (exec (.winFree (hd 0) 9) s) (fun t => doneB (hd 0) 0x0C04 [] t && t.win 9 == none)),
     (base.ring.pages.isEmpty && base.winHas 1 0x10000 0x10000 && pageFits (0x10000 / max 64 (base.ringNeed base.active)) (shortPages.shadowView),
      ans (exec (.ringSet (hd 0) 1 0x10000 0x10000 0x1000) shortPages) (fun t => doneB (hd 0) 0x0C05 (le 4 t.ring.cap ++ le 4 t.ring.rl) t && t.ring.rl == max 64 (base.ringNeed base.active) && t.ring.cap == 0x10000 / t.ring.rl && t.ring.window == 1 && t.ring.offset == 0x10000)),
     (ringed.accepts (hd 0) [.b] && (markReleased 100 ringed.ring.pages).isSome,
      ans (exec (.pageRelease (hd 0) 100) ringed) (fun t => doneB (hd 0) 0x0D03 (le 4 4) t && t.ring.pages.map (·.firstSeq) == [104])),
     ((inMode .diagnose base).accepts (hd 0) [.d],
      ans (exec (.dramTrain (hd 0)) (inMode .diagnose base)) (fun t => runsB (hd 0) 0x0C07 t && t.dram.trainCtx == some 0)),
     ((spareDram 0 none .webFast).accepts (hd 0) [.j, .w] && (spareDram 0 none .webFast).dram.spare == 0,
      ans (exec (.dramChRetire (hd 0) 6) (spareDram 0 none .webFast)) (fun t => runsB (hd 0) 0x0C08 t && t.dram.spare == 1 && t.dram.spared == some 6 && t.dram.rebuild == some { ch := 6, retire := true, restore := false, pos := 0, ctx := some 0 })),
     ((spareDram 2 (some 6) .idle).accepts (hd 0) [.j, .w] && (spareDram 2 (some 6) .idle).dram.rebuild.isNone,
      ans (exec (.dramChTest (hd 0) 6 3) (spareDram 2 (some 6) .idle)) (fun t => (t.ctx 0).cur == none && t.fresh == 3)),
     ((spareDram 2 (some 6) .idle).dram.rebuild.isNone,
      ans (exec (.dramChRestore (hd 0) 6) (spareDram 2 (some 6) .idle)) (fun t => runsB (hd 0) 0x0C0A t && t.dram.rebuild == some { ch := 6, retire := false, restore := true, pos := 0, ctx := some 0 }))] = true := by decide +kernel

/-- Values that meet the hypotheses of BindingCommandsComplete, clause by clause, with what follows for them. -/
theorem test_witness_BindingCommandsComplete : allOf
    [(base.accepts (hd 0) [.b] && isBindable 6911 && !base.queueBusy 6911,
      ans (exec (.qBind (hd 0) 6911 1 7 9 5) base) (fun t => doneB (hd 0) 0x0D00 [] t && t.q 6911 == { Queue.reset with en := true, whole := true, ngrp := 3, limit := 9, wm := 5 })),
     (qAccess 256 == 1 && !base.queueBusy 256,
      let s := base.setQ 256 (fun q => { q with cells := [{ id := 3, bytes := [1], isOpen := false }] }); ans (exec (.qFlush (hd 0) 256) s) (fun t => doneB (hd 0) 0x0D01 (le 4 1) t && (t.q 256).cells.isEmpty)),
     ((base.chan 63).state == .idle && isBindable 768,
      ans (exec (.dmaBind (hd 0) 63 1 768 0) base) (fun t => (t.ctx 0).cur == none && (t.chan 63).window == some 1 && (t.chan 63).queue == some 768 && (t.chan 63).port == 0 && (t.q 768).consumer == some 63)),
     ((base.chan 0).state == .idle,
      ans (exec (.dmaBind (hd 0) 0 0xFF 0xFFFF 0) base) (fun t => (t.ctx 0).cur == none && (t.chan 0).window == none && (t.chan 0).queue == none))] = true := by decide +kernel

/-- Values that meet the hypotheses of SecurityCommandsStart, clause by clause, with what follows for them. -/
theorem test_witness_SecurityCommandsStart : allOf
    [(let s := { base with sec := { base.sec with dik := true, entropyOk := true } }; s.accepts (hd 0) [.c] && s.winHas 1 0x10000 912,
      let s := { base with sec := { base.sec with dik := true, entropyOk := true } }; ans (exec (.secAttest (hd 0) 5 1 0x10000) s) (fun t => runsB (hd 0) 0x0E00 t && t.sec.reqs == [{ opcode := 0x0E00, ctx := 0, body := le 32 5, target := s.lt.seq.toNat, window := 1, offset := 0x10000 }])),
     (!base.sec.dik && base.winHas 1 0x10000 912,
      true),
     (let s := pay ownerBytes (secState .vendor); s.accepts (hd 1184) [.l] && rd (s.payload (hd 1184)) 24 8 == 0 && (s.secGate 0 none).isNone && s.ownerRecOk (s.payload (hd 1184)),
      true),
     (let s := pay imageBytes (secState .vendor); s.winHas 1 0 513 && 513 == 512 + rd (memRead 0x70000000 512 s.dram.mem) 12 4 && !s.poisoned 0x70000000 513 && s.headerOk (memRead 0x70000000 512 s.dram.mem),
      let s := pay imageBytes (secState .vendor); ans (exec (.secImageWrite (hd 0) 1 1 0 513) s) (fun t => runsB (hd 0) 0x0E02 t && t.sec.secCtx == some 0 && t.sec.reqs == [{ opcode := 0x0E02, ctx := 0, body := memRead 0x70000000 513 s.dram.mem, target := 1, window := 1, offset := 0 }])),
     ((secState .provisioned).accepts (hd 0) [.l] && ((secState .provisioned).secGate 0 none).isNone && (secState .provisioned).sec.entropyOk,
      ans (exec (.secIdentityGen (hd 0)) (secState .provisioned)) (fun t => runsB (hd 0) 0x0E04 t && t.sec.secCtx == some 0 && t.sec.reqs.length == 1)),
     (let s := pay (blockBytes 1 2 1) (secState .vendor); s.accepts (hd 432) [.l] && rd (s.payload (hd 432)) 7 1 == 0 && Lifecycle.ofCode 2 == some .provisioned && (transWipes .vendor .provisioned).isSome && s.transReady .provisioned && s.blockOk (s.payload (hd 432)) 1 2 (ownerSigns .vendor (some .provisioned)),
      true),
     (let s := pay (blockBytes 2 0 0) (secState .vendor); s.accepts (hd 432) [.l] && rd (s.payload (hd 432)) 7 1 == 0 && s.blockOk (s.payload (hd 432)) 2 0 (ownerSigns .vendor none),
      let s := pay (blockBytes 2 0 0) (secState .vendor); ans (exec (.secDebugUnlock (hd 432)) s) (fun t => runsB (hd 432) 0x0E05 t && t.sec.secCtx == some 0 && t.sec.reqs.length == 1))] = true := by decide +kernel

/-- Values that meet the hypotheses of DiagnosticsComplete, clause by clause, with what follows for them. -/
theorem test_witness_DiagnosticsComplete : allOf
    [((inMode .diagnose base).accepts (hd 0) [.d] && decide (100 * base.tMin ≤ 10000000000),
      true),
     ((inMode .diagnose base).accepts (hd 0) [.d],
      ans (exec (.diagPattern (hd 0) 3 0) (inMode .diagnose base)) (fun t => doneB (hd 0) 0x0F02 (le 4 0) t)),
     (base.diag.selfTest.isNone && setBits 15 0 == [],
      ans (exec (.diagSelftest (hd 0) 0) (inMode .diagnose base)) (fun t => doneB (hd 0) 0x0F03 (le 4 0) t)),
     (setBits 15 0x4002 == [1, 14],
      ans (exec (.diagSelftest (hd 0) 0x4002) (inMode .diagnose base)) (fun t => runsB (hd 0) 0x0F03 t && t.diag.selfTest == some { ctx := 0, cur := 1, left := [14], failed := [], aborted := false }))] = true := by decide +kernel

/-- The completion entry of a command that ended DONE. -/
def ended0 : Ending := { opcode := 0x0100, seq := 7, state := .done, result := 0, rlen := 0, data := padTo 48 0 [], noCpl := false }
/-- A queue as the host or the mailbox has it enabled. -/
def withQ (n : Nat) (cs : List Machine.Cell) (s : State) : State := s.setQ n (fun q => { q with en := true, cells := cs })
/-- A closed cell of these bytes. -/
def cell (bs : List Byte) : Machine.Cell := { id := 3, bytes := bs, isOpen := false }
/-- DMA channel 5 in one state and phase, on window 1 and queue 768. -/
def dmaIn (st : DmaState) (ph : DmaPhase) (f : DmaChan → DmaChan) : State :=
  { base with dma := { base.dma with chans := [(5, f { DmaChan.reset with state := st, phase := ph, window := some 1, queue := some 768, len := 512, limit := 512 })] } }
/-- The state of the clause on queue data. -/
def queueData : State := withQ 768 [cell [9, 8, 7]] (dmaIn .running .moving (fun c => { c with ctl := 4, qWait := true }))
/-- Context 0 has ended a command and waits for its completion entry to be pushed. -/
def pushing (en : Bool) : State := (withCtx 0 (fun x => { x with ending := some ended0 }) base).setQ 512 (fun q => { q with en := en })
/-- Port 0 in another state. -/
def port0In (l : PortLink) : State := { base with host := { base.host with port0 := { upPort with link := l } } }

/-- Values that meet the hypotheses of MailboxEventsComplete, clause by clause, with what follows for them. -/
theorem test_witness_MailboxEventsComplete : allOf
    [(base.host.port0.quiesce.isNone && base.host.port1.quiesce.isNone && (withCtx 0 (fun x => { x with shut := true }) base).ctx 0 != base.ctx 0,
      let s := withCtx 0 (fun x => { x with shut := true }) base; ans (exec (.mbDoorbell 9 0 0) s) (fun t => t.host.ctxs == s.host.ctxs && t.pantry == s.pantry)),
     ((inMode .boot base).mode.mode == .boot,
      ans (exec (.mbDoorbell 9 0 0) (inMode .boot base)) (fun t => t.host.ctxs == base.host.ctxs)),
     (!base.hasCmd 0 && (base.ctx 0).owner == 0 && !(base.ctx 0).shut,
      ans (exec (.mbDoorbell 9 0 0) (withCtx 0 (fun x => { x with paused := true }) base)) (fun t => !(t.ctx 0).paused && !(t.ctx 0).rung)),
     (let s := withCtx 0 (fun x => { x with paused := true, cur := some { opcode := 0x0102, seq := 1, noCpl := false } }) (withQ 256 [cell (le 2 0x0100)] base); s.hasCmd 0 && (s.ctx 0).cur.isSome,
      let s := withCtx 0 (fun x => { x with paused := true, cur := some { opcode := 0x0102, seq := 1, noCpl := false } }) (withQ 256 [cell (le 2 0x0100)] base); ans (exec (.mbDoorbell 9 0 0) s) (fun t => !(t.ctx 0).paused && (t.ctx 0).rung && t.pantry == s.pantry)),
     ((match parseCmd 9 0 (padTo 64 0 (le 2 0x0100)) with | some (.devIdentify h) => !h.rsvBad && h.flags == 0 && h.plen == 0 && h.ctx == 0 && h.t == 9 | _ => false) && base.served && (base.port 0).link == .up && (base.ctx 0).cur.isNone && (base.ctx 0).ending.isNone && (base.ctx 0).deferred.isNone,
      ans (exec (.mbDoorbell 9 0 0) (withQ 256 [cell (padTo 64 0 (le 2 0x0100))] base)) (fun t => (t.q 256).cells.isEmpty && (t.ctx 0).cur.isNone && (match t.ctx 0 with | x => x.ending.isSome && (x.ending.map (·.data)) == some (padTo 48 0 (le 2 2 ++ le 1 0 ++ le 1 0xB1 ++ le 4 0 ++ le 4 0 ++ le 1 0 ++ le 1 base.sec.lifecycle.code ++ le 2 0 ++ padTo 8 0 base.board.serial))))),
     (((pushing true).atTime 9).hasRoom 512 && ((pushing true).q 512).tailRoom == 0 && sget [] 512 (pushing true).pantry.held == [] && (pushing true).served && !((pushing true).ctx 0).discard,
      ans (exec (.completionPush 9 0) (pushing true)) (fun t => (t.ctx 0).ending.isNone && (t.ctx 0).opState == .done && (t.ctx 0).result == 0 && (t.q 512).cells.map (·.bytes) == [ended0.bytes 0])),
     (!((pushing false).atTime 9).hasRoom 512,
      ans (exec (.completionPush 9 0) (pushing false)) (fun t => (t.ctx 0).ending == some ended0 && t.pantry == (pushing false).pantry))] = true := by decide +kernel

/-- Values that meet the hypotheses of RegisterEventsComplete, clause by clause, with what follows for them. -/
theorem test_witness_RegisterEventsComplete : allOf
    [(queueOf 0x300040 == none,
      let s := { base with ev := { base.ev with enable := 0x30 } }; ans (exec (.rcFieldRead 9 0 0x300040 4) s) (fun t => t.host.out.head? == some (.hostRead (le 4 0x30) false))),
     (queueOf 0x300044 == none && !barFits 0x300044 8,
      ans (exec (.rcFieldRead 9 0 0x300044 8) base) (fun t => t.host.out.head? == some (.hostRead (List.replicate 8 0) false))),
     (base.mode.mode != .boot && 0x30005C == 0x300040 + 4 * 7,
      true),
     (0x203F08 == 0x200008 + 256 * 63 && (base.chan 63).state == .idle,
      ans (exec (.registerWrite 9 0 0x203F08 8 0x12345678FF) base) (fun t => (t.chan 63).desc == 0x12345678E0)),
     ((inMode .boot base).mode.mode == .boot,
      ans (exec (.registerWrite 9 0 0x300040 4 1) (inMode .boot base)) (fun t => t.dma == base.dma && t.pantry == base.pantry)),
     (base.mode.mode != .boot,
      let s := { base with ev := { base.ev with latch := 0xF000000000, raw := 0x1000000000, edge := 0 } }; ans (exec (.evLatchWrite 9 1 0x30 (2 ^ 37)) s) (fun t => [36, 37, 38, 39].map (t.ev.latch.getLsbD ·) == [true, true, true, true] && !t.ev.latch.getLsbD 40)),
     (base.mode.mode != .boot,
      let s := { base with ev := { base.ev with latch := 0xF000000000 } }; ans (exec (.evLatchWrite 9 1 0x30 0) s) (fun t => [36, 37, 38, 39].map (t.ev.latch.getLsbD ·) == [false, false, true, true])),
     (true,
      ans (exec (.msixUnmask 9 0 63) { base with host := { base.host with port0 := { upPort with msix := [(63, { MsixEntry.reset with ctrl := 1, pending := true })] } } }) (fun t => (sget MsixEntry.reset 63 (t.port 0).msix).ctrl == 0 && !(sget MsixEntry.reset 63 (t.port 0).msix).pending))] = true := by decide +kernel

/-- Values that meet the hypotheses of PantryEventsComplete, clause by clause, with what follows for them. -/
theorem test_witness_PantryEventsComplete : allOf
    [(qAccess 256 == 1 && ((withQ 256 [] base).atTime 9).canNew 256 && ((withQ 256 [] base).q 256).tailRoom == 0,
      ans (exec (.qPush 9 256 0x1122334455667788 0xFF) (withQ 256 [] base)) (fun t => (t.q 256).cells.map (·.bytes) == [le 8 0x1122334455667788])),
     (!(base.atTime 9).canNew 511 && qAccess 511 == 1,
      ans (exec (.qPush 9 511 5 0xFF) base) (fun t => (t.q 511).overflow && (t.q 511).drops == 1 && (t.q 511).cells.isEmpty && t.ev.latch.getLsbD 228)),
     (qAccess 512 != 1,
      ans (exec (.qPush 9 512 5 0xFF) base) (fun t => t.pantry == base.pantry)),
     (let s := withQ 6911 [cell [1, 2], cell [3]] base; qAccess 6911 == 2 && (s.q 6911).consumer.isNone && (s.q 6911).cycle != some 9,
      ans (exec (.qPop 9 6911 8 false) (withQ 6911 [cell [1, 2], cell [3]] base)) (fun t => (t.q 6911).cells == [cell [3]] && (t.q 6911).lastCount == 2 && t.host.out.head? == some (.hostRead [1, 2, 0, 0, 0, 0, 0, 0] false))),
     ((base.q 512).cells.isEmpty && qAccess 512 == 2,
      ans (exec (.qPop 9 512 8 true) base) (fun t => (t.q 512).underrun && (t.q 512).lastCount == 0)),
     (let s := withQ 768 [] { base with pantry := { base.pantry with held := [(768, [[1, 2, 3, 4, 5, 6, 7, 8]])] } }; sget [] 768 s.pantry.held == [[1, 2, 3, 4, 5, 6, 7, 8]] && (({ s.atTime 9 with pantry := { s.pantry with held := sset [] 768 [] s.pantry.held } } : State).push 768 [1, 2, 3, 4, 5, 6, 7, 8]).isSome,
      true),
     (!base.pantry.retired.contains 65535,
      ans (exec (.cellPatrol 9 65535 false) base) (fun t => t.pantry.retired == [65535] && t.ev.latch.getLsbD 230)),
     (!base.pantry.retired.contains 65535,
      ans (exec (.cellPatrol 9 65535 true) base) (fun t => t.pantry == base.pantry))] = true := by decide +kernel

/-- Values that meet the hypotheses of DmaEventsComplete, clause by clause, with what follows for them. -/
theorem test_witness_DmaEventsComplete : allOf
    [(let s := dmaIn .idleAtEnd .none (fun c => { c with desc := 0x40 }); (s.chan 5).state == .idleAtEnd && !s.mode.mode.noDma,
      ans (exec (.chainKick 9 5) (dmaIn .idleAtEnd .none (fun c => { c with desc := 0x40 }))) (fun t => (t.chan 5).phase == .reread && t.host.out.contains (.linkRead 0 5 0x58))),
     ((dmaIn .stopped .none id).dma.latched == false,
      ans (exec (.dmaErrClear 9) { dmaIn .stopped .none id with dma := { (dmaIn .stopped .none id).dma with latched := true, count := 3 } }) (fun t => !t.dma.latched && t.dma.count == 0 && (t.chan 5).state == .idle)),
     ((dmaIn .aborting .moving id).dma.latched == false && ((dmaIn .aborting .moving id).chan 5).state.isActive,
      ans (exec (.busError 9 3 1 0x1122334455) (dmaIn .aborting .moving id)) (fun t => t.dma.latched && t.dma.kind == 3 && t.dma.errPort == 1 && t.dma.errAddr == 0x1122334455 && t.dma.count == 1 && (t.chan 5).state == .stopped && (t.chan 5).code == 4 && (t.chan 5).int)),
     (let s := { dmaIn .stopped .none id with dma := { (dmaIn .stopped .none id).dma with latched := true, kind := 2, count := 0xFFFF } }; s.dma.latched,
      let s := { dmaIn .stopped .none id with dma := { (dmaIn .stopped .none id).dma with latched := true, kind := 2, count := 0xFFFF } }; ans (exec (.busError 9 3 1 7) s) (fun t => t.dma == s.dma)),
     (let s := dmaIn .running .fetch id; s.descBad (s.chan 5) 0,
      ans (exec (.dmaDescFetched 9 5 0) (dmaIn .running .fetch id)) (fun t => (t.chan 5).state == .idle && (t.chan 5).code == 3 && (t.chan 5).crc == 0 && (t.chan 5).int && t.ev.latch.getLsbD 233)),
     (let s := dmaIn .running .fetch id; !s.descBad { s.chan 5 with src := 0x1000, dst := 0x2000, len := 64, ctl := 1, link := 1 } 64,
      ans (exec (.dmaDescFetched 9 5 (BitVec.ofNat 256 (0x1000 + 2 ^ 64 * 0x2000 + 2 ^ 128 * 64 + 2 ^ 160 * 1 + 2 ^ 192 * 1))) (dmaIn .running .fetch id)) (fun t => (t.chan 5).state == .running && (t.chan 5).phase == .moving && (t.chan 5).src == 0x1000 && (t.chan 5).dst == 0x2000 && (t.chan 5).len == 64 && (t.chan 5).ctl == 1 && (t.chan 5).link == 1 && (t.chan 5).moved == 0)),
     (let s := dmaIn .running .moving (fun c => { c with ctl := 1, dst := 0xF0 }); (s.chan 5).type == 1 && (s.chan 5).window == some 1 && (s.chan 5).burst == (0, 16) && !(s.chan 5).qWait,
      ans (exec (.dmaBurstDone 9 5 (List.replicate 16 0xAB) false) (dmaIn .running .moving (fun c => { c with ctl := 1, dst := 0xF0 }))) (fun t => (t.chan 5).moved == 16 && t.dram.mem == memWrite 0x700000F0 (List.replicate 16 0xAB) [])),
     (let s := dmaIn .running .readBack (fun c => { c with moved := 512, link := 1, written := [1, 2] }); (s.chan 5).endCode == 0 && (s.chan 5).link % 2 == 1 && !(s.chan 5).kick,
      ans (exec (.dmaReadbackDone 9 5) (dmaIn .running .readBack (fun c => { c with moved := 512, link := 1, written := [1, 2] }))) (fun t => (t.chan 5).state == .idleAtEnd && (t.chan 5).code == 0 && (t.chan 5).residue == 0 && (t.chan 5).crc == crc32c 0 [1, 2])),
     (((dmaIn .idleAtEnd .reread id).chan 5).phase == .reread,
      ans (exec (.dmaLinkRereadDone 9 5 0x12345E) (dmaIn .idleAtEnd .reread id)) (fun t => (t.chan 5).state == .running && (t.chan 5).phase == .fetch && (t.chan 5).next == 0x123440)),
     (!((dmaIn .idleAtEnd .reread id).chan 5).kick,
      ans (exec (.dmaLinkRereadDone 9 5 0x12345F) (dmaIn .idleAtEnd .reread id)) (fun t => (t.chan 5).state == .idleAtEnd)),
     ((queueData.chan 5).type == 4 && (queueData.chan 5).burst == (0, 256) && (queueData.chan 5).carry.isEmpty && (queueData.q 768).cells == [cell [9, 8, 7]] && (queueData.q 768).cycle != some 9,
      ans (exec (.dmaQueueData 9 5 false) queueData) (fun t => (t.q 768).cells.isEmpty && (t.chan 5).moved == 3))] = true := by decide +kernel

/-- Values that meet the hypotheses of HostLinkEventsComplete, clause by clause, with what follows for them. -/
theorem test_witness_HostLinkEventsComplete : allOf
    [(base.hasPort 0 && !base.hasPort 1,
      ans (exec (.perstNAssert 9 0) (dmaIn .running .moving id)) (fun t => (t.port 0).link == .down && !(t.port 0).perst && (t.port 0).width == 0 && (t.port 0).speed == 0 && !(t.chan 5).state.isActive)),
     (split.hasPort 1,
      ans (exec (.perstNRelease 9 1) split) (fun t => (t.port 1).perst && (t.port 1).link == .up)),
     ((port0In .down).host.port0.link.isDown && base.rst.phase.linksAllowed,
      true),
     (base.host.port0.link == .up,
      true),
     ((port0In .quiesced).host.port0.link == .quiesced,
      true),
     (base.hasPort 0,
      true),
     (base.host.port0.link == .up,
      true),
     (base.hasPort 0,
      true),
     (let s := { dmaIn .running .moving id with host := { base.host with port0 := { upPort with quiesce := some (0, false, 9, 1) } } }; (s.port 0).quiesce == some (0, false, 9, 1),
      true),
     (base.mode.mode != .boot,
      ans (exec (.bar2Read 9 0 0xFFFE 4) { base with dram := { base.dram with mem := memWrite 0x7010FFFE [5, 6] [] } }) (fun t => t.host.out.head? == some (.hostRead [5, 6, 0, 0] false) && t.dram.mem == memWrite 0x7010FFFE [5, 6] [])),
     ((List.range 3).all (fun i => base.bar2Addr (0xFFFD + i) == some (0x7010FFFD + i)),
      ans (exec (.bar2Write 9 0 0xFFFD [5, 6, 7]) base) (fun t => t.dram.mem == memWrite 0x7010FFFD [5, 6, 7] [])),
     ((List.range 3).all (fun i => base.bar2Addr (0x10000 + i) == none),
      ans (exec (.bar2Write 9 0 0x10000 [5, 6, 7]) base) (fun t => t.dram.mem == [] && t.ev.latch.getLsbD 241))] = true := by decide +kernel

/-- A device in BOOT, in one of its phases. -/
def booting (ph : BootPhase) : State :=
  { base with mode := ModeUnit.reset, rst := { base.rst with phase := ph, thermTrip := false }, sec := { base.sec with lifecycle := .vendor } }
/-- A device reset in progress. -/
def resetting (at_ : Option Nat) : State := { booting .inReset with rst := { (booting .inReset).rst with porst := true, sysrst := true, endsAt := at_ } }
/-- The device was reset (R112), told by some of its parts. -/
def wasReset (s t : State) : Bool :=
  t.mode == ModeUnit.reset && t.rst.phase == .inReset && t.active == Tables.reset && t.ev == EvUnit.reset && t.dma == Dma.reset &&
    t.host.ctxs == [] && t.host.port0.link == .down && t.dram.mem == s.dram.mem && t.sec.nv == s.sec.nv && t.board == s.board
/-- RST_CAUSE after the reset. -/
def causeB (s : State) (code : BitVec 4) (t : State) : Bool := t.rst.last == code && t.rst.prev == s.rst.last && t.rst.count == s.rst.count + 1
/-- A transition to IDLE is under way, from DIAGNOSE. -/
def leaving : State :=
  let s := inMode .diagnose base
  { s with mode := { s.mode with target := .idle, transit := true, trans := some { ctx := none, accepted := 0, discarded := 0, bytes := 0 } } }
/-- A record write of one byte, with this many lines to come. -/
def nvWrite (n : Nat) : NvWrite := { id := .ownerCfg, data := [1], left := n, begun := true, waitSince := none, ctx := none, why := .layout }
/-- The store has record writes to do. -/
def writing (ws : List NvWrite) : State := { nvReady with sec := { nvReady.sec with writes := ws } }
/-- Trivet has a request of context 3 to answer. -/
def asked (op : Nat) : State :=
  withCtx 3 (fun x => { x with cur := some { opcode := op, seq := 9, noCpl := false } }) { base with sec := { base.sec with secCtx := some 3, reqs := if op == 0x0E05 then [{ opcode := op, ctx := 3, body := [], target := 0, window := 0, offset := 0 }] else [] } }
/-- A self-test runs. -/
def testing (l : List Nat) : State :=
  withCtx 3 (fun x => { x with cur := some { opcode := 0x0F03, seq := 9, noCpl := false } })
    { inMode .diagnose base with diag := { base.diag with selfTest := some { ctx := 3, cur := 1, left := l, failed := [0], aborted := false } } }
/-- The pairs in these states. -/
def pairs (a b : PairState) : State := { base with cpu := { base.cpu with pair0 := a, pair1 := b } }

/-- Values that meet the hypotheses of ResetsComplete, clause by clause, with what follows for them. -/
theorem test_witness_ResetsComplete : allOf
    [(base.mode.mode != .boot,
      ans (exec (.powerOnReset 9) base) (fun t => wasReset base t && t.rst.last == 1 && t.rst.prev == 0 && t.rst.count == 1 && t.rst.endsAt == some 1009)),
     (base.rst.phase == .done,
      ans (exec (.porstNAssert 9) base) (fun t => wasReset base t && causeB base 2 t && !t.rst.porst && t.rst.wide)),
     (base.rst.phase == .done,
      ans (exec (.sysrstNAssert 9) { base with rst := { base.rst with thermTrip := true } }) (fun t => wasReset base t && causeB base 3 t && !t.rst.sysrst && t.rst.thermTrip)),
     (base.rst.phase == .done,
      ans (exec (.coreBrownout 9) base) (fun t => wasReset base t && causeB base 4 t && t.rst.endsAt == some 1009)),
     (base.rst.phase == .done,
      ans (exec (.sysclkLoss 9) base) (fun t => wasReset base t && causeB base 7 t && t.rst.sysclkAt == some 100009)),
     (let s := { base with rst := { base.rst with devResetAt := some 9 } }; s.rst.devResetAt == some 9,
      ans (exec (.devResetExpiry 9) { base with rst := { base.rst with devResetAt := some 9 } }) (fun t => wasReset base t && causeB base 5 t && t.rst.devResetAt == none)),
     (let s := { base with rst := { base.rst with devResetAt := some 9 } }; s.rst.devResetAt == some 9,
      ans (exec (.devResetExpiry 8) { base with rst := { base.rst with devResetAt := some 9 } }) (fun t => t.rst.devResetAt == some 9 && t.rst.phase == .done)),
     (let s := { base with rst := { base.rst with secResetAt := some 9 } }; s.rst.secResetAt == some 9,
      ans (exec (.trivetSecurityReset 9) { base with rst := { base.rst with secResetAt := some 9 } }) (fun t => wasReset base t && causeB base 6 t)),
     (let s := { base with rst := { base.rst with secResetAt := some 9 } }; s.rst.secResetAt == some 9,
      ans (exec (.trivetSecurityReset 8) { base with rst := { base.rst with secResetAt := some 9 } }) (fun t => t.rst.secResetAt == some 9 && t.rst.phase == .done)),
     (let s := { resetting none with rst := { (resetting none).rst with porst := false } }; s.rst.phase == .inReset && s.rst.sysrst && s.rst.endsAt == none,
      ans (exec (.porstNRelease 9 true 3) { resetting none with rst := { (resetting none).rst with porst := false } }) (fun t => t.rst.porst && t.rst.uzsId == 3 && t.host.split && t.rst.phase == .sramWipe)),
     (let s := { resetting none with rst := { (resetting none).rst with sysrst := false } }; s.rst.phase == .inReset && s.rst.porst && s.rst.endsAt == none,
      ans (exec (.sysrstNRelease 9) { resetting none with rst := { (resetting none).rst with sysrst := false } }) (fun t => t.rst.sysrst && t.rst.phase == .sramWipe)),
     ((resetting (some 9)).rst.phase == .inReset && (resetting (some 9)).rst.endsAt == some 9,
      ans (exec (.resetEnd 9) (resetting (some 9))) (fun t => t.rst.phase == .sramWipe && t.rst.endsAt == none && t.rst.endedAt == 9)),
     ((resetting (some 9)).rst.phase == .inReset && (resetting (some 9)).rst.endsAt == some 9,
      ans (exec (.resetEnd 8) (resetting (some 9))) (fun t => t.rst == (resetting (some 9)).rst))] = true := by decide +kernel

/-- Values that meet the hypotheses of BootSequenceAdvances, clause by clause, with what follows for them. -/
theorem test_witness_BootSequenceAdvances : allOf
    [((booting .sramWipe).rst.phase == .sramWipe && !(booting .sramWipe).rst.thermTrip,
      ans (exec (.sramWipeDone 9 true) (booting .sramWipe)) (fun t => t.rst.phase == .romRun && t.clk.sysclkOk && !t.clk.lockHost1)),
     ((booting .sramWipe).rst.phase == .sramWipe,
      ans (exec (.sramWipeDone 9 true) { booting .sramWipe with rst := { (booting .sramWipe).rst with thermTrip := true } }) (fun t => t.rst.phase == .held)),
     ((booting .sramWipe).rst.wipeTries == 0,
      ans (exec (.sramWipeDone 9 false) (booting .sramWipe)) (fun t => t.rst.phase == .sramWipe && t.rst.wipeRetry && t.rst.wipeTries == 1)),
     ((booting .sramWipe).rst.phase == .sramWipe,
      ans (exec (.sramWipeDone 9 false) { booting .sramWipe with rst := { (booting .sramWipe).rst with wipeTries := 1 } }) (fun t => t.rst.phase == .held)),
     ((booting .romRun).rst.phase == .romRun && (booting .romRun).nvData .pending == none,
      ans (exec (.nvMount 9) (booting .romRun)) (fun t => t.sec.mounted && t.sec.entropyOk && t.clk.aonComp && t.sec.debugOpen == (t.sec.lifecycle == .blank) && t.rst.phase == .imageA && t.sec.lifecycle == (booting .romRun).lifecycleNow)),
     ((booting .imageB).headerOk (padTo 512 0 imageBytes) && ((padTo 512 0 imageBytes).drop 32).take 32 == (le 32 0).reverse,
      ans (exec (.bootImageVerified 9 (padTo 512 0 imageBytes) true 0) (booting .imageB)) (fun t => t.rst.phase == .released && t.rst.imageB && t.cpu.pair0 == .serving && t.cpu.pair1 == .standby && t.sec.fwVersion == 0)),
     ((booting .imageA).headerOk [] == false,
      ans (exec (.bootImageVerified 9 [] true 0) (booting .imageA)) (fun t => t.rst.phase == .imageB)),
     ((booting .imageB).rst.phase == .imageB,
      ans (exec (.bootImageVerified 9 (padTo 512 0 imageBytes) false 0) (booting .imageB)) (fun t => t.rst.phase == .bootFail)),
     ((booting .released).rst.phase == .released,
      ans (exec (.dramTrainingDone 9 0xFF) (booting .released)) (fun t => t.rst.phase == .dramWipe && t.dram.chOk == 0xFF)),
     (let s := { asked 0x0C07 with dram := { base.dram with trainCtx := some 3 } }; s.rst.phase != .released && (s.ctx 3).cur == some { opcode := 0x0C07, seq := 9, noCpl := false },
      ans (exec (.dramTrainingDone 9 0xFE) { asked 0x0C07 with dram := { base.dram with trainCtx := some 3 } }) (fun t => t.dram.trainCtx == none && t.dram.chOk == 0xFE && (t.ctx 3).ending == some { opcode := 0x0C07, seq := 9, state := .done, result := 0, rlen := 0, data := padTo 48 0 [0xFE], noCpl := false })),
     ((booting .dramWipe).rst.phase == .dramWipe,
      ans (exec (.dramWipeDone 9) (pay [1] (booting .dramWipe))) (fun t => t.rst.phase == .restore && t.dram.mem == [] && t.dram.poison == [])),
     ((booting .restore).rst.phase == .restore,
      let s := { booting .restore with ports := { base.ports with ports := [(7, { PortUnit.reset with pres := true }), (8, { PortUnit.reset with pres := true })] } }; ans (exec (.bootExit 9 0x80) s) (fun t => t.rst.phase == .done && t.mode.mode == .idle && !t.mode.transit && [7, 8, 9].map (fun p => (t.seg p).state) == [.active, .isolated, .isolated]))] = true := by decide +kernel

/-- Values that meet the hypotheses of ClockAndModeEventsComplete, clause by clause, with what follows for them. -/
theorem test_witness_ClockAndModeEventsComplete : allOf
    [(!base.clk.aonSrc && !base.clk.xtalLocked && decide (base.rst.powerAt + 2000000 ≤ max base.now 5000000) && decide (max base.now 5000000 ≤ base.rst.powerAt + 5000000),
      ans (exec (.aonXtalSwitch 5000000) base) (fun t => t.clk == { base.clk with aonSrc := true })),
     (let s := { base with clk := { base.clk with aonSrc := true } }; s.clk.aonSrc,
      ans (exec (.aonXtalLoss 9) { base with clk := { base.clk with aonSrc := true } }) (fun t => t.clk == { base.clk with aonSrc := false, xtalLocked := true } && t.ev.latch.getLsbD 2)),
     (let s := { base with clk := { base.clk with aonComp := true } }; s.clk.aonComp,
      true),
     (decide (0 + 1 < base.board.member.dies),
      true),
     (leaving.mode.trans.isSome && leaving.mode.target == .idle && leaving.canArrive,
      true),
     ((inMode .scrub base).mode.mode == .scrub && !base.mode.transit,
      true)] = true := by decide +kernel

/-- Values that meet the hypotheses of PairEventsComplete, clause by clause, with what follows for them. -/
theorem test_witness_PairEventsComplete : allOf
    [(base.cpu.pair0 == .serving && base.cpu.pair1 == .standby && decide (base.cpu.all0 < 3),
      ans (exec (.lockstepMismatch 9 0) base) (fun t => t.cpu.pair0 == .restarting && t.cpu.pair1 == .serving && t.cpu.serving == 1 && t.cpu.failovers == 1 && t.ev.latch.getLsbD 5)),
     ((pairs .standby .serving).cpu.pair1 == .serving && decide (base.cpu.all1 < 3),
      ans (exec (.lockstepMismatch 9 1) (pairs .standby .serving)) (fun t => t.cpu.pair1 == .restarting && t.cpu.pair0 == .serving && t.cpu.serving == 0)),
     (let s := { base with cpu := { base.cpu with all1 := 3 } }; (s.cpu.pair 1).inService && s.cpu.halts 1 == 3,
      ans (exec (.lockstepMismatch 9 1) { base with cpu := { base.cpu with all1 := 3 } }) (fun t => t.cpu.pair 1 == .out)),
     ((pairs .serving .restarting).cpu.pair 1 == .restarting,
      ans (exec (.pairRestartDone 9 1 false) (pairs .serving .restarting)) (fun t => t.cpu.pair 1 == .out)),
     ((pairs .serving .restarting).served && !(pairs .out .restarting).served,
      ans (exec (.pairRestartDone 9 1 true) (pairs .serving .restarting)) (fun t => t.cpu.pair 1 == .standby) && ans (exec (.pairRestartDone 9 1 true) (pairs .out .restarting)) (fun t => t.cpu.pair 1 == .serving && t.cpu.serving == 1)),
     (base.cpu.pair0 != .standby && base.cpu.pair1 == .standby && decide (base.cpu.all1 < 3),
      ans (exec (.standbySelftest 9 false) base) (fun t => t.cpu.pair1 == .restarting && t.cpu.all1 == base.cpu.all1 + 1 && t.cpu.pair0 == .serving)),
     (true,
      ans (exec (.standbySelftest 9 true) base) (fun t => t.cpu == base.cpu)),
     (base.served,
      ans (exec (.heartbeatTick 9) base) (fun t => t.host.beat == base.host.beat + 1 && t.host.beatBy == 0))] = true := by decide +kernel

/-- Values that meet the hypotheses of NvEventsComplete, clause by clause, with what follows for them. -/
theorem test_witness_NvEventsComplete : allOf
    [((writing [nvWrite 2]).sec.writes == [nvWrite 2] && !(writing [nvWrite 2]).sec.stopNv,
      ans (exec (.nvLineProgramDone 9) (writing [nvWrite 2])) (fun t => t.sec.writes == [nvWrite 1])),
     (((writing [nvWrite 1]).nvRec .ownerCfg).curIs == none,
      ans (exec (.nvLineProgramDone 9) (writing [nvWrite 1])) (fun t => t.sec.writes == [] && t.nvData .ownerCfg == some [1])),
     (true,
      ans (exec (.vddNvLow 9) (writing [nvWrite 2, nvWrite 2])) (fun t => t.sec.vddNvLow && t.sec.writes == [nvWrite 2, { nvWrite 2 with waitSince := some 9 }])),
     (true,
      ans (exec (.vddNvRecover 9) (writing [nvWrite 2, { nvWrite 2 with waitSince := some 5 }])) (fun t => !t.sec.vddNvLow && t.sec.writes == [nvWrite 2, nvWrite 2])),
     (((asked 0x0C00).ctx 3).cur.isSome,
      ans (exec (.nvWriteWaitTimeout 10000005) { asked 0x0C00 with sec := { nvReady.sec with writes := [{ nvWrite 2 with waitSince := some 6 }, { nvWrite 2 with waitSince := some 5, ctx := some 3 }] } }) (fun t => t.sec.writes == [{ nvWrite 2 with waitSince := some 6 }] && (t.ctx 3).cur == none))] = true := by decide +kernel

/-- Values that meet the hypotheses of SecurityEventsComplete, clause by clause, with what follows for them. -/
theorem test_witness_SecurityEventsComplete : allOf
    [((asked 0x0E05).sec.reqs.length == 1,
      ans (exec (.trivetRequestDone 9 true []) (asked 0x0E05)) (fun t => t.sec.debugOpen && t.sec.secCtx == none && t.sec.reqs == [] && (t.ctx 3).cur == none)),
     ((asked 0x0E05).sec.reqs.length == 1,
      ans (exec (.trivetRequestDone 9 false []) (asked 0x0E05)) (fun t => t.sec.debugOpen == base.sec.debugOpen && t.sec.secCtx == none && (t.ctx 3).cur == none && t.ev.latch.getLsbD 17)),
     ((asked 0x0E02).sec.secCtx == some 3 && ((asked 0x0E02).ctx 3).cur == some { opcode := 0x0E02, seq := 9, noCpl := false } && (asked 0x0E02).sec.reqs == [],
      [true, false].all (fun b => ans (exec (.norWriteDone 9 b) (asked 0x0E02)) (fun t => t.sec.secCtx == none && (match (t.ctx 3).ending with | some e => e.state == (if b then .done else .failed) && e.result == BitVec.ofNat 8 (if b then cOk else cHw) | none => false)))),
     (true,
      ans (exec (.entropyHealthFail 9) (secState .vendor)) (fun t => !t.sec.entropyOk && t.ev.raw.getLsbD 18)),
     (true,
      ans (exec (.securityAccessViolation 9) { base with sec := { base.sec with violations := 0xFFFF } }) (fun t => t.sec.violations == 0xFFFF && t.ev.latch.getLsbD 16)),
     (!base.sec.debugOpen,
      ans (exec (.jtagInstruction 9 { ir := .debug, cells := [] }) base) (fun t => t.rst == { base.rst with jtagIr := .bypass })),
     ((testing [4, 5]).diag.selfTest.isSome,
      ans (exec (.selftestTestDone 9 1 7 8) (testing [4, 5])) (fun t => t.diag.selfTest == some { ctx := 3, cur := 4, left := [5], failed := [0, 1], aborted := false })),
     ((testing []).diag.selfTest.isSome,
      ans (exec (.selftestTestDone 9 1 7 8) (testing [])) (fun t => t.diag.selfTest == none && (t.ctx 3).cur == none))] = true := by decide +kernel

/-- The tag of line `q`. -/
def tagN (q : BitVec 32) : LineTag :=
  { seq := q, pitch := 0, vEst := 0, lateNs := 0, first := false, last := false, gap := false, phase := 0, restart := false, skipped := 0 }
/-- Line `q`, with the tables of a device. -/
def recN (q : BitVec 32) (t : Tables) : LineRec :=
  { tag := tagN q, trigAt := 0, mode := .webFast, profile := .fast, tabs := t, sets := [], places := [], choices := [], delta := [], lamps := [], masked := [], dead := [], seams := [],
    cap := 0, gate := GateInfo.gap, started := true, done := false, dieAt := [], words := [] }
/-- A device that captures, at line 100, a position of 0 and the next trigger far away. -/
def capturing (m : Mode) : State :=
  let s := inMode m base
  { s with lt := { s.lt with run := true, seq := 100, seqValid := true, next := 2 ^ 40 } }
/-- The same device as a follower of the bar. -/
def follower : State := { capturing .webFast with rst := { base.rst with uzsId := 2 } }
/-- The same device with an active page table of this cue. -/
def cued (c : Nat) : State := withActive (fun x => { x with ltPage := { x.ltPage with cue := c, cueDist := 5 } }) (capturing .webFast)
/-- Die 1 of a device. -/
def withDie (f : FeDie → FeDie) (s : State) : State :=
  { s with ports := { s.ports with dies := [(1, f { FeDie.reset with powered := true })] } }
/-- A handover of channel 5 to the spare 96. -/
def hand (attempt : Nat) (recal passed : Bool) : Handover :=
  { spare := 96, home := 5, readyAt := 9, back := false, attempt := attempt, recal := recal, passed := passed, fg := false }
/-- Die 1 compares the channels of a handover. -/
def handing : State := withDie (fun d => { d with handover := some (hand 1 false false) }) base
/-- A calibration result without errors. -/
def goodCal : CalResult := { die := 1, chan := 5, offRes := 8, gainRes := -8, inl := 16, runDiff := 8, fired := false, off := 1, gain := 2, elem := 0 }
/-- Qualification in one phase. -/
def qualIn (ph : QualPhase) : QualRun := { phase := ph, until_ := 9, lines := 64, settled := 0, inRun := 0, done := 64, started := true, taps := [] }
/-- Port 7 in qualification. -/
def qualState (ph : QualPhase) : State :=
  { base with ports := { base.ports with ports := [(7, { PortUnit.reset with state := .qualify, pres := true, powered := true, run := some (qualIn ph) })] } }
/-- Tap 112 (input 0 of port 7) is in use with a direct program of one slot, and line 100 is being read out of die 0. -/
def reading : State :=
  let t : Tables := { base.active with tapMap := [(112, { TapEntry.reset with en := true, count := 1 })] }
  let s := capturing .webFast
  { s with active := t, shadow := t, banks := [(28, { PatProgram.reset with direct := true, ls := [0x200, 0, 0, 0] })], lines := [recN 100 t], ports := { s.ports with dies := [(0, { FeDie.reset with powered := true, running := true, line := some 100 })] } }
/-- The master's line 100 waits for its UZS_LINE. -/
def barLine : State :=
  let r : LineRec := { recN 100 base.active with started := false }
  { capturing .webFast with lines := [r], uzs := { base.uzs with lineAt := some 9 } }
/-- Port 7 with a tap that has failed its qualification. -/
def qualBad : State :=
  let q : QualRun := { qualIn .capturing with taps := [(112, { QualTap.reset with bad := true })] }
  let s := withActive (fun x => { x with tapMap := [(112, { TapEntry.reset with en := true })] }) base
  { s with ports := { s.ports with ports := [(7, { PortUnit.reset with state := .qualify, pres := true, powered := true, run := some q })] } }
/-- A one-pixel reference. -/
def rrfBytes : List Byte :=
  let h := le 4 0x31465252 ++ [1, 4] ++ le 2 0 ++ le 4 1 ++ le 4 1 ++ le 8 77 ++ le 4 1 ++ List.replicate 32 0
  h ++ le 4 (crc32c 0 h).toNat ++ le 4 0 ++ le 4 8 ++ le 4 (crc32c 0 (List.replicate 8 0)).toNat ++ le 4 0 ++ List.replicate 8 0
/-- The job with a waiting reference, at the start of window 1. -/
def refState (bs : List Byte) : State :=
  withCtx 3 (fun x => { x with cur := some { opcode := 0x0602, seq := 9, noCpl := false } }) (pay bs (inMode .webFast { base with sv := { base.sv with job := some { job0 with refs := [{ ctx := 3, page := 0, window := 1, offset := 0, length := bs.length, crops := [], state := .waiting, pageId := 0, width := 0, height := 0, slot := 0 }] } } }))
/-- The job with one page that is over, and its summary queue. -/
def overState : State :=
  withQ 2815 [] (inMode .webFast { base with sv := { base.sv with job := some { job0 with pages := [{ svPage with isOpen := false }] } } })
/-- The same with room for one cell of the summary. -/
def fullState : State := overState.setQ 2815 (fun q => { q with limit := 1 })
/-- The job with one Tongs window issued. -/
def issuedState : State :=
  inMode .webFast { base with sv := { base.sv with job := some { job0 with en := 2, pages := [{ svPage with prog := [.off, .going, .off, .off, .off], issued := [.window 0 3] }] } } }
/-- Row 2 is enabled and slot 0 of the strobe table belongs to it. -/
def litRow : State :=
  withActive (fun x => { x with ilmRow := [(2, { IlmRow.reset with en := true, vOv := 500, iRef := 100 })], strobe := { x.strobe with slots := [{ Slot.reset with en := true, row := 2, width := 400 }, Slot.reset, Slot.reset, Slot.reset] } }) (capturing .webFast)
/-- That row in one state of a slot. -/
def rowIn (r : Option SlotRun) : State := { litRow with ilm := { litRow.ilm with rows := [(2, { RowUnit.reset with run := r })] } }
/-- The same with line 100 triggered. -/
def rowLine (r : Option SlotRun) : State := { rowIn r with lines := [recN 100 litRow.active] }
/-- The slot that runs. -/
def slotRun (lit : Bool) : SlotRun := { seq := 100, slot := 0, aCode := 50, on := 100, lit := lit, fallAt := 9, endAt := 500 }
/-- The same with a long program, which leaves room for a test pulse. -/
def slowRow : State :=
  { withActive (fun x => { x with tapMap := reading.active.tapMap }) litRow with banks := [(28, { PatProgram.reset with direct := true, rep := List.replicate 4 0, nrep := 512 })] }
/-- A lamp test of row 2 runs. -/
def lampTesting : State :=
  withCtx 3 (fun x => { x with cur := some { opcode := 0x0804, seq := 9, noCpl := false } }) { slowRow with ilm := { litRow.ilm with test := some { ctx := 3, rows := 4, code := 5, ns := 80, lines := 2, when_ := 1, vLamp := 0, vOfs := 0, plen := 0, iSum := [0, 0, 7, 0], vSum := [0, 0, 0, 0], n := [0, 0, 0, 0], ratio := [0, 0, 0, 0], last := [none, none, none, none] } } }
/-- SHD_CALIBRATE is in one of its steps. -/
def shdCal (st : ShdCalStep) : State :=
  withCtx 3 (fun x => { x with cur := some { opcode := 0x0405, seq := 9, noCpl := false } }) (inMode .calibrate { base with shd := { base.shd with cal := some { ctx := 3, set := 0, ports := 0, tile := false, settle := 0, targets := [0x1000, 0x1000, 0x1000, 0x1000], defLo := 0, defHi := 0, darkMax := 0, step := st, until_ := some 9, left := 0, retried := false, sums := [], tagSum := [], tagN := 0, result := none, aborted := false } } })
/-- Skillet evaluates line 100, with groups 5 and 16383 enabled. -/
def sklOn : State :=
  let t : Tables := { base.active with sklCfg := { base.active.sklCfg with en := true }, sklMap := [(5, { SklGroup.reset with en := true }), (16383, { SklGroup.reset with en := true, expect := 263 })] }
  let s := capturing .webFast
  { s with active := t, lines := [recN 100 t], skl := { s.skl with cur := some 100 } }
/-- The same with group 5 evaluated. -/
def sklLast : State := { sklOn with skl := { sklOn.skl with evaluated := [5] } }
/-- Chain 1 has a staging to shift. -/
def shifting (t : Bool) : State :=
  withCtx 3 (fun x => { x with cur := some { opcode := 0x0803, seq := 9, noCpl := false } }) { base with ilm := { base.ilm with chain1 := { ChainUnit.reset with staging := some (3, t), bits := [true, false] } } }
/-- The same while an apply that carries LSW_STAGE is pending. -/
def lockShift : State :=
  { shifting false with mode := (locking 0x0803).mode }

/-- Values that meet the hypotheses of FrontEndEventsComplete, clause by clause, with what follows for them. -/
theorem test_witness_FrontEndEventsComplete : allOf
    [(base.hasSeg 47 && !(base.seg 47).pres && base.rst.phase.linksAllowed,
      ans (exec (.presFilterChange 9 47 true) base) (fun t => (t.seg 47).pres && t.ev.latch.getLsbD 79)),
     (let s := { base with ports := { base.ports with ports := [(7, { PortUnit.reset with offAt := some 9, powered := true })] } }; (s.seg 7).offAt == some 9,
      ans (exec (.swapPowerOff 9 7) { base with ports := { base.ports with ports := [(7, { PortUnit.reset with offAt := some 9, powered := true })] } }) (fun t => !(t.seg 7).powered && (t.seg 7).offAt == none && (t.seg 7).releaseAt == some 1000009)),
     (let s := { base with ports := { base.ports with ports := [(7, { PortUnit.reset with releaseAt := some 9, outLow := true })] } }; (s.seg 7).releaseAt == some 9,
      ans (exec (.swapOutputRelease 9 7) { base with ports := { base.ports with ports := [(7, { PortUnit.reset with releaseAt := some 9, outLow := true })] } }) (fun t => !(t.seg 7).outLow && (t.seg 7).outHiZ && (t.seg 7).releaseAt == none)),
     (((qualState .powering).seg 7).run == some (qualIn .powering),
      ans (exec (.qualifySettleEnd 9 7) (qualState .powering)) (fun t => (t.seg 7).run == some { qualIn .settling with started := false })),
     (((qualState .capturing).seg 7).run == some (qualIn .capturing) && (qualState .capturing).qualPass 7 (qualIn .capturing),
      ans (exec (.qualificationDone 9 7) (qualState .capturing)) (fun t => (t.seg 7).run == none && (t.seg 7).qual == 1 && (t.seg 7).qualLines == 64 && t.ev.latch.getLsbD 39)),
     (!qualBad.qualPass 7 { qualIn .capturing with taps := [(112, { QualTap.reset with bad := true })] },
      ans (exec (.qualificationDone 9 7) qualBad) (fun t => (t.seg 7).qual == 2 && (t.seg 7).state == .isolated)),
     (let s := withDie (fun d => { d with trigs := [some 100, none] }) base; (s.die 1).trigs == [some 100, none] && (s.die 1).powered && !(s.die 1).running,
      ans (exec (.feProgramStart 9 1) (withDie (fun d => { d with trigs := [some 100, none] }) base)) (fun t => (t.die 1).running && (t.die 1).line == some 100 && (t.die 1).trigs == [none])),
     (let s := withDie (fun d => { d with running := true, trigs := [some 101] }) base; (s.die 1).running && decide ((s.die 1).progEnd ≤ 9),
      ans (exec (.feProgramEnd 9 1) (withDie (fun d => { d with running := true, trigs := [some 101] }) base)) (fun t => !(t.die 1).running && (t.die 1).line == none && (t.die 1).trigs == [some 101])),
     (decide (1 < base.board.member.dies),
      ans (exec (.feDieReset 9 1) { withDie id base with banks := [(48, { PatProgram.reset with direct := true })] }) (fun t => t.banks == [] && !(t.die 1).powered && !t.clk.lockFe.getLsbD 1 && [12, 23].all (fun p => (t.seg p).state == .isolated) && t.ev.latch.getLsbD 4)),
     (!(base.die 3).powered && !base.therm.shutdown,
      ans (exec (.feDieResetEnd 9 3) base) (fun t => (t.die 3).powered && t.clk.lockFe.getLsbD 3)),
     ((reading.lineRec 100).isSome && (tapEntry reading.active 112).en && ((recN 100 reading.active).chanOf 112).isSome && (reading.seg 7).state != .swap && (progOf reading.banks reading.active 7).direct && decide (0 < (progOf reading.banks reading.active 7).slots) && (reading.die 0).line == some 100,
      ans (exec (.afeSlotSample 9 7 0 0 500000000 0 true { residue := false, ecc := [] }) reading) (fun t => match t.lineRec 100 with | some r => r.word 112 0 == { code := 0x3FFF, sat := true, bad := false } | none => false)),
     (rawCode 0 250000000 500000000 == 8192,
      ans (exec (.afeSlotSample 9 7 0 0 250000000 99 false { residue := true, ecc := [] }) reading) (fun t => match t.lineRec 100 with | some r => r.word 112 0 == tapWord 8192 false (clampCorr 0) true | none => false))] = true := by decide +kernel

/-- Values that meet the hypotheses of CalibrationEventsComplete, clause by clause, with what follows for them. -/
theorem test_witness_CalibrationEventsComplete : allOf
    [(let s := withDie id base; s.calibrating && (s.die 1).powered && !(s.die 1).bgHalt && (s.die 1).rotCh.isNone && (s.die 1).handover.isNone && s.nextRot 1 == some 0 && !s.carriesTaps 1 0 && !s.inFgCal 1,
      ans (exec (.bgCalStepStart 9 1) (withDie id base)) (fun t => (t.die 1).rotCh == some 0 && (t.die 1).rotUntil == 2100009)),
     (let s := handing; (s.die 1).handover == some (hand 1 false false) && s.portsMove && !s.mode.mode.isCapture && (inMode .webFast s).portsMove,
      ans (exec (.handoverCompare 9 1 16 0) handing) (fun t => (t.die 1).handover == some (hand 0 false false) && (t.ch 1 96).covers == some 5) && ans (exec (.handoverCompare 9 1 0 17) handing) (fun t => (t.die 1).handover == some (hand 2 true false) && (t.die 1).rotUntil == 2100009) && ans (exec (.handoverCompare 9 1 16 0) (inMode .webFast handing)) (fun t => (t.die 1).handover == some (hand 1 false true) && (t.ch 1 96).covers == none)),
     (let s := withDie (fun d => { d with pendingSub := [5] }) base; (s.die 1).pendingSub == [5] && (s.pickSpare 1) == some 96 && s.portsMove,
      ans (exec (.spareSubstitution 9 1) (withDie (fun d => { d with pendingSub := [5] }) base)) (fun t => (t.ch 1 96).covers == some 5 && (t.die 1).pendingSub == [])),
     (let s := withDie (fun d => { d with rotCh := some 5, rotUntil := 9 }) base; (s.die 1).rotCh == some 5 && (s.die 1).handover.isNone && s.portsMove && calAccepted goodCal,
      ans (exec (.bgMeasurementEnd 9 1 goodCal) (withDie (fun d => { d with rotCh := some 5, rotUntil := 9 }) base)) (fun t => (t.die 1).rotCh == none && (t.ch 1 5).calAt == some 9 && (t.ch 1 5).calFails == 0)),
     (!calAccepted { goodCal with inl := 17 } && ((withDie id base).ch 1 5).calFails == 0,
      ans (exec (.bgMeasurementEnd 9 1 { goodCal with inl := 17 }) (withDie (fun d => { d with rotCh := some 5, rotUntil := 9 }) base)) (fun t => (t.die 1).rotCh == some 5 && (t.ch 1 5).calFails == 1 && (t.die 1).rotUntil == 2100009)),
     (decide (1 < base.board.member.dies),
      true),
     (let s := inMode .webFast (withDie id base); (s.die 1).powered && s.mode.mode.isCapture,
      true),
     (nvReady.mode.mode != .boot && nvReady.sec.trimAt == 0 && !nvReady.therm.nvBlock && !nvReady.sec.stopNv,
      true),
     ((asked 0x020A).sec.secCtx == some 3 && ((asked 0x020A).ctx 3).cur.isSome,
      true)] = true := by decide +kernel

/-- Values that meet the hypotheses of LineTimingEventsComplete, clause by clause, with what follows for them. -/
theorem test_witness_LineTimingEventsComplete : allOf
    [((capturing .webFast).srcNow == 0 && quadDir (capturing .webFast).lt.enc0 true false == 1 && !(capturing .webFast).lt.enc0.a && !(capturing .webFast).lt.enc0.b,
      ans (exec (.encEdge 9 0 true false) (capturing .webFast)) (fun t => t.lt.pos == 2 ^ 32 && t.lt.enc0 == { (capturing .webFast).lt.enc0 with a := true, b := false, sum := (capturing .webFast).lt.enc0.sum + 1 } && t.lt.seq == 100 && t.lines == [])),
     (!(capturing .webFast).lt.enc0.a && !(capturing .webFast).lt.enc0.b,
      ans (exec (.encEdge 9 0 true true) (capturing .webFast)) (fun t => t.lt.encErr && t.lt.faults == 1 && t.lt.pos == 0 && t.ev.latch.getLsbD 89)),
     ((cued 5).active.ltPage.cue == 5 && (cued 5).mode.mode.isWeb && (cued 5).rst.uzsId == 0,
      ans (exec (.encIndex 9 0) (cued 5)) (fun t => match t.lt.starts with | [x] => x.lead == ((cued 5).atTime 9).edgePos && x.pos == ((cued 5).atTime 9).edgePos + 5 | _ => false)),
     ((cued 4).active.ltPage.cue == 3 + 1 && (cued 4).lt.sheets.length == 4 && !(cued 4).lt.sheets.getD 3 false,
      ans (exec (.sheetEdge 9 3 true) (cued 4)) (fun t => t.lt.sheets.getD 3 false && (match t.lt.starts with | [x] => x.pos == ((cued 4).atTime 9).edgePos + 5 | _ => false))),
     (let s := { capturing .webFast with lt := { (capturing .webFast).lt with counts := [5], vEst := 77 } }; s.lt.counts.head? == some 5,
      ans (exec (.vEstTimeout 10000005) { capturing .webFast with lt := { (capturing .webFast).lt with counts := [5], vEst := 77 } }) (fun t => t.lt.vEst == 0)),
     (let s := withActive (fun x => { x with ltSrc := { x.ltSrc with src := 3, genPeriod := 512 } }) (capturing .webFast); s.srcNow == 3 && s.crossOk && s.mode.apply == none,
      let s := withActive (fun x => { x with ltSrc := { x.ltSrc with src := 3, genPeriod := 512 } }) (capturing .webFast); ans (exec (.generatorPeriod 9) { s with lt := { s.lt with genAt := some (256 * 9 + 255), next := 2 ^ 32 } }) (fun t => t.lt.genAt == some (256 * 9 + 255 + 512) && t.lt.pos == 2 ^ 32 && t.lt.next == 2 ^ 33 && t.lt.seq == 101)),
     ((capturing .webFast).crossOk && (capturing .webFast).nextSeq == 101 && (capturing .webFast).divNow == 2 ^ 32,
      let s := capturing .webFast; ans (exec (.interpTrigger 9) { s with lt := { s.lt with interpAt := some 9 } }) (fun t => t.lt.seq == 101 && t.lt.seqValid && t.lt.interpAt == none && t.lt.next == 2 ^ 40 + 2 ^ 32 && t.lt.lastTrig == some 9 && (t.lines.map (fun r => r.tag.seq)).getLast? == some 101)),
     (decide (9 < 0 + (capturing .webFast).tMin),
      let s := capturing .webFast; ans (exec (.interpTrigger 9) { s with lt := { s.lt with interpAt := some 9, lastAny := some 0 } }) (fun t => t.lt.pend == some 9 && t.lt.seq == 100 && t.lines == [])),
     (decide (0 + (capturing .webFast).tMin ≤ 1000000),
      let s := capturing .webFast; ans (exec (.pendingTriggerIssue 1000000) { s with lt := { s.lt with pend := some 9, lastAny := some 0 } }) (fun t => t.lt.pend == none && t.lt.seq == 101 && (t.lines.map (fun r => r.tag.seq)).getLast? == some 101)),
     (((capturing .webFast).atTime 9).flushDue,
      ans (exec (.flushTrigger 9) (withDie id (capturing .webFast))) (fun t => t.lt.lastAny == some 9 && t.lt.seq == 100 && (t.die 1).trigs == [none])),
     (let s := withActive (fun x => { x with io := { x.io with fev15 := 1, rejWidth := 3 } }) (capturing .webFast); decide ((-100000 : Int) ≤ (s.atTime 9).edgePos),
      let s := withActive (fun x => { x with io := { x.io with fev15 := 1, rejWidth := 3 } }) (capturing .webFast); ans (exec (.rejectOutPulse 9) { s with sv := { s.sv with rejects := [-100000] } }) (fun t => t.sv.rejects == [] && t.sv.rejUntil == some 3009)),
     (let s := { base with sv := { base.sv with rejUntil := some 9 } }; s.sv.rejUntil == some 9,
      ans (exec (.rejectOutEnd 9) { base with sv := { base.sv with rejUntil := some 9 } }) (fun t => t.sv.rejUntil == none))] = true := by decide +kernel

/-- Values that meet the hypotheses of SyncBusEventsComplete, clause by clause, with what follows for them. -/
theorem test_witness_SyncBusEventsComplete : allOf
    [(follower.onBar,
      ans (exec (.uzsLineSampled 9) follower) (fun t => t.uzs.lineAt == some 169)),
     (let s := barLine; s.rst.uzsId == 0 && s.uzs.lineAt == some 9,
      let s := barLine; ans (exec (.uzsLineStart 9) s) (fun t => t.uzs.lineAt == none && t.host.out.contains (.uzonFrame (packBits (frameOf { recN 100 base.active with started := false } 0))))),
     (!follower.uzs.stopped && follower.uzs.applySeen == none && follower.lt.run && follower.mode.apply == none,
      ans (exec (.uzsLineStart 9) { follower with uzs := { follower.uzs with lineAt := some 9 } }) (fun t => t.lt.seq == 101 && t.lt.pitchIx == follower.lt.pitchIx + 1 && (t.lines.map (fun r => r.tag.seq)).getLast? == some 101)),
     ((frameIn 0).isNone && follower.lt.seqValid,
      ans (exec (.uzsFrameRx 9 0) { follower with uzs := { follower.uzs with speed := 640 } }) (fun t => t.uzs.crcErrs == 1 && t.uzs.speed == 640 && t.lt.vEst == 640 && t.lt.seq == 100 && t.host.out.any (fun o => match o with | .uzonSlot 2 _ => true | _ => false))),
     ((match frameIn (BitVec.ofNat 51 (leVal (packBits (frameOf { recN 100 base.active with tag := { tagN 100 with vEst := 1280, gap := true } } 0)))) with | some f => f.seqLo == 100 && f.mode == Mode.webFast.code && f.speed == 1280 && f.gate == 2 | none => false),
      ans (exec (.uzsFrameRx 9 (BitVec.ofNat 51 (leVal (packBits (frameOf { recN 100 base.active with tag := { tagN 100 with vEst := 1280, gap := true } } 0))))) follower) (fun t => t.uzs.speed == 1280 && t.lt.vEst == 1280 && t.lt.seq == 100 && t.uzs.gate == 2)),
     (let s := withActive (fun x => { x with ltSrc := { x.ltSrc with followers := 3 } }) (capturing .webFast); s.isMaster,
      ans (exec (.uzsSlotRx 9 3 0x0E) (withActive (fun x => { x with ltSrc := { x.ltSrc with followers := 3 } }) (capturing .webFast))) (fun t => t.uzs.seen == [false, false, true] && t.uzs.status == [0, 0, 3] && t.uzs.perr == [false, false, false]) && ans (exec (.uzsSlotRx 9 3 0x06) (withActive (fun x => { x with ltSrc := { x.ltSrc with followers := 3 } }) (capturing .webFast))) (fun t => t.uzs.status == [0, 0, 1] && t.uzs.perr == [false, false, true])),
     (follower.rst.uzsId != 0,
      ans (exec (.uzsClkTimeout 9) follower) (fun t => t.uzs.lost && t.uzs.stopped && !t.lt.run && t.ev.latch.getLsbD 6))] = true := by decide +kernel

/-- Values that meet the hypotheses of CorrectionEventsComplete, clause by clause, with what follows for them. -/
theorem test_witness_CorrectionEventsComplete : allOf
    [(decide (47 < base.board.member.ports),
      true),
     (decide (4 < shdSlots (pixCount .ml9648 withSet.active)) && decide (0 < pixCount .ml9648 withSet.active),
      ans (exec (.shdPatrolRead 9 4 0 1) withSet) (fun t => t.shd.corr == 1 && t.shd.slots == withSet.shd.slots && t.ev.latch.getLsbD 80)),
     (!(sget ShdSet.reset 4 withSet.shd.slots).bad.contains 0,
      ans (exec (.shdPatrolRead 9 4 0 2) withSet) (fun t => t.shd.uncorr == 1 && (sget ShdSet.reset 4 t.shd.slots).bad.contains 0 && t.ev.latch.getLsbD 81)),
     ((shdCal .settle).shd.cal.isSome,
      ans (exec (.shdCalSettleEnd 9) (shdCal .settle)) (fun t => match t.shd.cal with | some c => c.step == .dark && c.left == 576 && t.ilm.dark | none => false)),
     (((asked 0x0503).ctx 3).cur == some { opcode := 0x0503, seq := 9, noCpl := false },
      let s := inMode .calibrate { asked 0x0503 with aln := { base.aln with cal := some { ctx := 3, ports := 3, nbars := 64, refPort := 0, window := 1, xRef := 0, offset := 0, deadline := 9, found := 0, retried := false } } }; ans (exec (.alnCalibrateTimeout 9) s) (fun t => t.aln.cal == none && (match (t.ctx 3).ending with | some e => e.state == .failed && e.result == BitVec.ofNat 8 cTimeout | none => false))),
     (({ capturing .webFast with lines := [recN 100 base.active] } : State).nextStitch == some (recN 100 base.active),
      true)] = true := by decide +kernel

/-- Values that meet the hypotheses of SkilletEventsComplete, clause by clause, with what follows for them. -/
theorem test_witness_SkilletEventsComplete : allOf
    [(let s1 := (sklOn.atTime 9).sklTick; s1.skl.cur == some 100 && (s1.lineRec 100) == some (recN 100 sklOn.active) && s1.sklOpen 16383 (recN 100 sklOn.active) && s1.entryOf (recN 100 sklOn.active) { SklGroup.reset with en := true, expect := 263 } 0 == some 0 && (sklGroups sklOn.active).any (fun x => x.1 == 5) && s1.skl.evaluated == [],
      ans (exec (.sklGroupEval 9 16383 0) sklOn) (fun t => t.skl.evaluated == [16383] && sget GroupSt.reset 16383 t.skl.groups == GroupSt.reset.eval SklClass.reset 64 263 ((recN 100 sklOn.active).groupSum { SklGroup.reset with en := true, expect := 263 }).1 ((recN 100 sklOn.active).groupSum { SklGroup.reset with en := true, expect := 263 }).2)),
     (let s1 := (sklLast.atTime 9).sklTick; s1.skl.cur == some 100 && s1.sklOpen 16383 (recN 100 sklOn.active) && (sklGroups sklOn.active).all (fun x => x.1 == 16383 || s1.skl.evaluated.contains x.1),
      ans (exec (.sklGroupEval 9 16383 0) sklLast) (fun t => t.skl.lastLat == min 0xFF (sklLatency false 9))),
     (let s := { base with skl := { base.skl with pins := [(3, { on := true, holdTo := some 9 })] } }; (sget FevPin.reset 3 s.skl.pins).holdTo == some 9,
      let s := { base with skl := { base.skl with pins := [(3, { on := true, holdTo := some 9 })] } }; ans (exec (.fastevStretchEnd 9 3) s) (fun t => (List.range 16).all (fun n => sget FevPin.reset n t.skl.pins == FevPin.follow (sget SklFev.reset n s.skl.fev) 9 s.skl.out (s.route? n) (sget FevPin.reset n s.skl.pins)))),
     (let s := { base with skl := { base.skl with frames := [[[1, 2], [3]], [[4]]], frameEnd := 9 } }; decide (s.skl.frameEnd ≤ 9),
      ans (exec (.slkFrameStart 9) { base with skl := { base.skl with frames := [[[1, 2], [3]], [[4]]], frameEnd := 9 } }) (fun t => t.skl.frames == [[[4]]] && t.host.out.contains (.streakFrame 0 (frameSymbols [1, 2] (rdIdle 1 (base.skl.rd.getD 0 false))).1) && t.host.out.contains (.streakFrame 1 (frameSymbols [3] (rdIdle 1 (base.skl.rd.getD 1 false))).1) && t.skl.frameEnd == 9 + 8 * 4))] = true := by decide +kernel

/-- Values that meet the hypotheses of ServiceEventsComplete, clause by clause, with what follows for them. -/
theorem test_witness_ServiceEventsComplete : allOf
    [((match issuedState.svPage 0 with | some p => p.issued.contains (.window 0 3) && !p.over (.window 0 3) && p.going 1 | none => false),
      [true, false].all (fun b => ans (exec (.serviceUnitComplete 9 (.window 0 3) b) issuedState) (fun t => match t.sv.job with | some j => j.pages.any (fun p => if b then p.lost.contains (.window 0 3) else p.finished.contains (.window 0 3)) | none => false))),
     (let s1 := (overState.atTime 9).svAdvance; (match s1.sv.job with | some j => !j.closing && (match j.pages with | [p] => !p.isOpen && p.prog.all (· != .going) | _ => false) | none => false) && [0, 1, 2, 5].all (fun k => !s1.svHeld k) && s1.hasRoom 2815 && (match s1.sv.job with | some j => j.summing == none && (match j.pages with | [p] => !(s1.svRecord 5 (summaryOf j (j.view s1.board p) p)).svHeld 5 | _ => false) | none => false),
      true),
     (let s1 := (fullState.atTime 9).svAdvance; s1.hasRoom 2815 && (match s1.sv.job with | some j => (match j.pages with | [p] => (s1.svRecord 5 (summaryOf j (j.view s1.board p) p)).svHeld 5 | _ => false) | none => false),
      true),
     ((match decodeRrf rrfBytes with | .ok (w, h, id, _) => w == 1 && h == 1 && id == 77 | .error _ => false) && memRead ((refState rrfBytes).winAddr 1 0) 88 (refState rrfBytes).dram.mem == rrfBytes && job0.freeSlot == some 0,
      ans (exec (.refDecodeDone 9) (refState rrfBytes)) (fun t => (match t.sv.job with | some j => j.refs.any (fun r => r.page == 0 && r.state == .decoded && r.width == 1 && r.height == 1 && r.pageId == 77) | none => false) && (t.ctx 3).cur == none)),
     ((match decodeRrf (List.replicate 64 0) with | .ok _ => false | .error e => e == 0),
      ans (exec (.refDecodeDone 9) (refState (List.replicate 64 0))) (fun t => (match t.sv.job with | some j => j.refs.any (fun r => r.page == 0 && r.state == .bad) | none => false) && (t.ctx 3).cur == none && t.ev.latch.getLsbD 98))] = true := by decide +kernel

/-- Values that meet the hypotheses of IlluminationEventsComplete, clause by clause, with what follows for them. -/
theorem test_witness_IlluminationEventsComplete : allOf
    [((rowIn none).mayLight 2 && ((rowIn none).row 2).run == none && ((rowIn none).atTime 9).dueSlot 2 == none && (rowIn none).nextSlot 2 == some (101, 0),
      ans (exec (.ilmRegStart 9 2) (rowIn none)) (fun t => (t.row 2).run == some { seq := 101, slot := 0, aCode := ((rowIn none).slotDrive 0).1, on := ((rowIn none).slotDrive 0).2, lit := false, fallAt := 0, endAt := 0 })),
     (let s := rowLine none; let r := recN 100 litRow.active; s.mayLight 2 && (s.row 2).regTo == 0 && (s.atTime 9).dueSlot 2 == some (r, 0) && decide (4 * r.trigAt + r.slotAt 0 ≤ 4 * 9 + 4 * (rowCfg r.tabs 2).regLead),
      let r := recN 100 litRow.active; ans (exec (.ilmRegStart 9 2) (rowLine none)) (fun t => (t.row 2).run == some { seq := 100, slot := 0, aCode := (r.slotDrive 0).1, on := (r.slotDrive 0).2, lit := false, fallAt := 0, endAt := 0 })),
     (let s := rowLine (some (slotRun false)); let r := recN 100 litRow.active; (s.row 2).run == some (slotRun false) && s.mayLight 2 && (s.atTime 250).dueSlot 2 == some (r, 0) && decide (r.slotAt 0 + 5 * ((400 - (r.slotDrive 0).2) / 2) ≤ 1003),
      let r := recN 100 litRow.active; ans (exec (.lstbRise 250 2) (rowLine (some (slotRun false)))) (fun t => (t.row 2).run == some { seq := 100, slot := 0, aCode := (r.slotDrive 0).1, on := (r.slotDrive 0).2, lit := true, fallAt := (5 * ((400 - (r.slotDrive 0).2) / 2) + 5 * (r.slotDrive 0).2) / 4, endAt := 500 })),
     (decide (50 < 10 * ((44 : Int) - 50).natAbs) && decide (10 * ((45 : Int) - 50).natAbs ≤ 50),
      ans (exec (.lstbFall 9 2 44) (rowIn (some (slotRun true)))) (fun t => (t.row 2).run == none && (t.row 2).lastSlot == some (100, 0) && (t.row 2).curSeq == some 100) && ans (exec (.lstbFall 9 2 45) (rowIn (some (slotRun true)))) (fun t => (t.row 2).curSeq == none)),
     ((rowCfg litRow.active 2).vOv == 500,
      ans (exec (.ilmOvOcDetect 9 2 501 0) (rowIn (some (slotRun true)))) (fun t => (t.row 2).fault && (t.row 2).ovNow && (t.row 2).run == none && t.ev.latch.getLsbD 149)),
     ((rowCfg litRow.active 2).vOv == 500,
      ans (exec (.ilmOvOcDetect 9 2 500 1281) (rowIn none)) (fun t => (t.row 2).fault) && ans (exec (.ilmOvOcDetect 9 2 500 1280) (rowIn none)) (fun t => !(t.row 2).ovNow && !(t.row 2).fault)),
     (litRow.rowTemps 2 == [] && (rowCfg litRow.active 2).en,
      ans (exec (.ilmTcompUpdate 9) litRow) (fun t => (t.row 2).held && (t.row 2).nextK == (litRow.row 2).nextK)),
     (true,
      ans (exec (.ilmPowerUpdate 9) litRow) (fun t => (List.range 4).all (fun w => (t.row w).power == litRow.rowPower w))),
     (let s := withActive (fun x => { x with ilmRow := [(2, { IlmRow.reset with lpz := 1 })] }) base; chainLen 48 s.active 1 == 48 && !(s.chain 1).hold && (s.chain 1).staging == none && (padTo 48 false (List.replicate 48 true)).all id && (s.atTime 9).darkNow,
      let s := withActive (fun x => { x with ilmRow := [(2, { IlmRow.reset with lpz := 1 })] }) base; ans (exec (.lswFrameLatch 9 1 (List.replicate 48 true)) s) (fun t => (t.chain 1).driven == s.chainBits 1 && (t.chain 1).err && t.ev.latch.getLsbD 146)),
     (((shifting false).chain 1).staging == some (3, false) && !(shifting false).locked [0x0803],
      ans (exec (.lswShiftDone 9 1) (shifting false)) (fun t => (t.chain 1).staging == none && (t.chain 1).hold && sget [] 1 t.shadow.lsw == [true, false] && (t.ctx 3).cur == none)),
     (((shifting true).chain 1).staging == some (3, true) && !(shifting true).locked [0x0803],
      ans (exec (.lswShiftDone 9 1) (shifting true)) (fun t => (t.chain 1).staging == none && !(t.chain 1).hold && sget [] 1 t.shadow.lsw == sget [] 1 base.active.lsw && (t.ctx 3).cur == none)),
     ((lockShift.chain 1).staging == some (3, false) && lockShift.locked [0x0803],
      ans (exec (.lswShiftDone 9 1) lockShift) (fun t => (t.chain 1).staging == some (3, false) && (t.chain 1).shifted && t.shadow.lsw == base.shadow.lsw)),
     (lampTesting.mayLight 2 && lampTesting.pulseFits 80,
      ans (exec (.lampTestPulse 9 2 11 22) lampTesting) (fun t => match t.ilm.test with | some x => x.n.getD 2 0 == 1 && x.iSum.getD 2 0 == 18 | none => false))] = true := by decide +kernel

/-- AX_B of the motor board in another state. -/
def axB (f : Axis → Axis) : State := withAxis 1 f motor
/-- The move of the tests. -/
def mv : Move := { ctx := none, kind := .move 500 1000 1000 1000 }
/-- A request to the DRAM. -/
def req (port cls since : Nat) : DramReq := { port := port, cls := cls, since := since, at_ := since, addr := 128, bytes := 64, write := false, parity := false }
/-- Channel 7 of the DRAM. -/
def withDch (f : DramChan → DramChan) : State := { base with dram := { base.dram with chans := [(7, f DramChan.reset)] } }
/-- A wake from STANDBY is under way, with a byte outside the protected partition. -/
def waking (v : Byte) : State :=
  let s0 := inMode .standby base
  let s := { s0 with
    mode := { s0.mode with target := .idle, transit := true, trans := some { ctx := none, accepted := 0, discarded := 0, bytes := 0 } },
    dram := { s0.dram with prot := 4 } }
  { s with dram := { s.dram with mem := [(s.protSize, v)] } }
/-- The DRAM with a rebuild at this block of its channel. -/
def rebuilding (restore : Bool) (pos : Nat) : State :=
  withCtx 3 (fun x => { x with cur := some { opcode := 0x0C0A, seq := 9, noCpl := false } }) { base with dram := { base.dram with spare := 2, spared := some 6, rebuild := some { ch := 6, retire := !restore, restore := restore, pos := pos, ctx := some 3 } } }
/-- Converter A performs an entry of the sequence, converter B another; `n` conversions are in the set. -/
def converting (n : Nat) : State :=
  let e : SeqEntry := { ch := 5, sar := false, rep := 4, settle := 0, set := 9 }
  { base with madc := { base.madc with convA := { base.madc.convA with state := .normal, work := .entry e 2, endAt := 9, intLo := 1000, intHi := 900000 }, convB := { base.madc.convB with state := .normal, work := .shared }, acc := [(9, { AccSet.reset with work := { SetAcc.reset with taken := n } })] } }
/-- Converter A calibrates. -/
def calConv : State := { base with madc := { base.madc with convA := { base.madc.convA with state := .cal, work := .none, endAt := 9, back := .normal }, calRun := some 0 } }
/-- A DRAM access of channel 7 is due. -/
def chReq (r : DramReq) (panic : BitVec 32) : State := { withDch (fun c => { c with reqs := [r] }) with dram := { (withDch (fun c => { c with reqs := [r] })).dram with panic := panic } }
/-- The Pan queue 0 is in panic; a request of the queue and an older class wait. -/
def panicking : State :=
  { withDch id with dram := { base.dram with panic := 1, chans := [(7, { DramChan.reset with reqs := [req 2 0 5, req 0 1 5] })] } }

/-- Values that meet the hypotheses of MotionEventsComplete, clause by clause, with what follows for them. -/
theorem test_witness_MotionEventsComplete : allOf
    [(let s := axB (fun a => { a with queue := [mv] }); (s.axis 1).queue.head? == some mv && !(s.axis 1).owned && s.shd.cal.isNone && [0, 2, 3].all (fun y => !(s.axis y).running && (s.axis y).queue.isEmpty && !(s.axis y).owned) && (s.axis 1).ready,
      ans (exec (.motRampTick 9) (axB (fun a => { a with queue := [mv] }))) (fun t => (t.axis 1).running && (t.axis 1).target == 500 && (t.axis 1).vMax == 1000 && (t.axis 1).start == 0)),
     ((trapStep (500 * 2 ^ 32) 100000 1000000 1000000 0 0).2.2 == false,
      ans (exec (.motRampTick 9) (axB (fun a => { a with queue := [mv], running := true, state := .moving, target := 500, vMax := 100000, acc := 1000000, dec := 1000000 }))) (fun t => ((t.axis 1).p, (t.axis 1).v) == ((trapStep (500 * 2 ^ 32) 100000 1000000 1000000 0 0).1, (trapStep (500 * 2 ^ 32) 100000 1000000 1000000 0 0).2.1))),
     (!(base.axis 1).gates,
      ans (exec (.motPwmPeriod 9 1 { miA := 0, miB := 0, mv1 := 0, mv2 := 0, mv3 := 0, mv4 := 0 }) (withAxis 1 (fun a => { a with high := [1, 2, 3, 4] }) base)) (fun t => (t.axis 1).high == [0, 0, 0, 0] && (t.axis 1).lambda == none)),
     ((motor.axis 1).gates && decide ((motor.motCfg 1).iTrip * 250000 < (motor.motCfg 1).iFs * 1000000),
      ans (exec (.motPwmPeriod 9 1 { miA := 0, miB := -1000000, mv1 := 0, mv2 := 0, mv3 := 0, mv4 := 0 }) (axB (fun a => { a with overRun := 1 }))) (fun t => (t.axis 1).state == .hardFault && !(t.axis 1).gates && !(t.axis 1).homed && (t.axis 1).cause == 2 && t.ev.latch.getLsbD 166)),
     (decide (5 + 1000000 * (motor.motCfg 1).holdDelay ≤ 10000005),
      ans (exec (.holdDelayEnd 10000005 1) (axB (fun a => { a with restAt := some 5, hold := false }))) (fun t => (t.axis 1).hold && (t.axis 1).restAt == none)),
     ((motor.motCfg 1).en && (motor.axis 1).state != .hardFault,
      ans (exec (.motFltInput 9 1 true) motor) (fun t => (t.axis 1).fltPin && (t.axis 1).state == .hardFault && (t.axis 1).cause == 1 && !(t.axis 1).gates)),
     (true,
      ans (exec (.motFltInput 9 1 false) (axB (fun a => { a with fltPin := true }))) (fun t => !(t.axis 1).fltPin)),
     (!(motor.motCfg 1).stepEdge && (motor.motCfg 1).stepSize == 16 && !(motor.motCfg 1).dirInv,
      ans (exec (.stepInEdge 9 1 true false) (axB (fun a => { a with state := .following, running := true, queue := [{ ctx := none, kind := .follow }] }))) (fun t => (t.axis 1).edgeAt == some 9 && (t.axis 1).coarse == -16)),
     (true,
      ans (exec (.vbusLowTimeout 1000009 1) (axB (fun a => { a with vbusLow := some 9, running := true, state := .moving, queue := [mv] }))) (fun t => (t.axis 1).vbusLow == none && (t.axis 1).cause == 5 && t.ev.latch.getLsbD 166))] = true := by decide +kernel

/-- Values that meet the hypotheses of MonitorEventsComplete, clause by clause, with what follows for them. -/
theorem test_witness_MonitorEventsComplete : allOf
    [(let s := converting 7; (s.conv 0).state != .cal && (s.conv 0).discard == 0 && s.madc.inj.isNone && s.madc.calLeft == [] && (s.conv 1).work != .none && ((s.accSet 9).work.add ((s.conv 0).code (s.conv 0).sarKind 5000) false (s.conv 0).sarKind).taken == 8 && decide (8 < (s.setCfg 9).win),
      let s := converting 7; ans (exec (.madcConversionEnd 9 0 5000 false) s) (fun t => (t.conv 0).work == .entry { ch := 5, sar := false, rep := 4, settle := 0, set := 9 } 1 && (t.accSet 9).work == (s.accSet 9).work.add ((s.conv 0).code (s.conv 0).sarKind 5000) false (s.conv 0).sarKind && (t.accSet 9).seq == (s.accSet 9).seq)),
     (let s := converting 255; decide ((s.setCfg 9).win ≤ ((s.accSet 9).work.add ((s.conv 0).code (s.conv 0).sarKind 5000) false (s.conv 0).sarKind).taken),
      let s := converting 255; ans (exec (.madcConversionEnd 9 0 5000 false) s) (fun t => (t.accSet 9).work == SetAcc.reset && (t.accSet 9).snap == (s.accSet 9).work.add ((s.conv 0).code (s.conv 0).sarKind 5000) false (s.conv 0).sarKind && (t.accSet 9).seq == (s.accSet 9).seq + 1 && (t.accSet 9).dv == s.derive 9 ((s.accSet 9).work.add ((s.conv 0).code (s.conv 0).sarKind 5000) false (s.conv 0).sarKind))),
     ((calConv.conv 0).state == .cal && calAccept eLo eSh,
      ans (exec (.madcCalibrationEnd 9 0 eLo eSh 7 8) calConv) (fun t => (t.conv 0).intLo == eLo && (t.conv 0).intHi == eSh && (t.conv 0).sarLo == 7 && (t.conv 0).sarHi == 8)),
     (!calAccept (eLo + 5244) eSh,
      ans (exec (.madcCalibrationEnd 9 0 (eLo + 5244) eSh 7 8) calConv) (fun t => (t.conv 0).failed && t.ev.latch.getLsbD 178)),
     (let s := { madcUp with madc := { madcUp.madc with calPeriod := 2, seqGo := true, calNextAt := 9 } }; s.madc.nextCfg.isNone && s.madc.calPeriod == 2,
      ans (exec (.madcCalPeriodic 9) { madcUp with madc := { madcUp.madc with calPeriod := 2, seqGo := true, calNextAt := 9 } }) (fun t => t.madc.calNextAt == 120000000009)),
     (let s := converting 7; (s.conv 0).work != .none && s.madc.testCtx.isNone && (s.conv 0).startAt == 0,
      ans (exec (.madcConvTimeout 18 0) (converting 7)) (fun t => (t.conv 0).failed && t.ev.latch.getLsbD 178)),
     (mainsValid (List.replicate 8 416666),
      ans (exec (.mainsRefCrossing 9 416666) { base with madc := { base.madc with mainsSrc := 2, periods := List.replicate 8 416666 } }) (fun t => t.madc.periods == List.replicate 8 416666 && t.madc.mainsOk)),
     (base.madc.mainsSrc != 2 && base.madc.nextCfg.isNone,
      ans (exec (.mainsRefCrossing 9 416666) base) (fun t => t.madc.periods == base.madc.periods && t.madc.mainsOk == base.madc.mainsOk))] = true := by decide +kernel

/-- Values that meet the hypotheses of ThermalEventsComplete, clause by clause, with what follows for them. -/
theorem test_witness_ThermalEventsComplete : allOf
    [(base.rst.phase.linksAllowed,
      true),
     (base.served && base.mode.mode != .boot,
      true),
     (!base.simmer.slow,
      ans (exec (.simmerCeilingStep 9) { base with simmer := { base.simmer with stepAt := some 9, ceil := 2000 } }) (fun t => t.simmer.ceil == if base.mayRise 2512 then 2512 else 2000)),
     (let s := { base with therm := { base.therm with tHot := 25600 }, simmer := { base.simmer with slow := true, stepAt := some 9, ceil := 2000 } }; (s.atTime 9).entry 3,
      let s := { base with therm := { base.therm with tHot := 25600 }, simmer := { base.simmer with slow := true, stepAt := some 9, ceil := 2000 } }; ans (exec (.simmerCeilingStep 9) s) (fun t => t.simmer.ceil == min 2000 (max s.simmer.cfg.ceilMin 1488) && t.simmer.stepAt == some 500000009)),
     (let s := { base with simmer := { base.simmer with lowSince := some 9 } }; (s.atTime 100000009).heldFor 100000000 s.simmer.lowSince && decide (s.simmer.capRaiseAt ≤ 100000009),
      ans (exec (.simmerCapRaise 100000009) { base with simmer := { base.simmer with lowSince := some 9 }, ilm := { base.ilm with rows := [(2, { RowUnit.reset with nextCap := 4090 }), (3, { RowUnit.reset with nextCap := 100 })] } }) (fun t => t.simmer.capRaiseAt == 110000009 && (List.range 4).map (fun w => (t.row w).nextCap) == [4096, 4096, 4096, 164]))] = true := by decide +kernel

/-- Values that meet the hypotheses of DramEventsComplete, clause by clause, with what follows for them. -/
theorem test_witness_DramEventsComplete : allOf
    [(decide (0 < ((((withDch (fun c => { c with forcedDue := 2 })).atTime 9).panNotes 7).dch 7).forcedDue),
      ans (exec (.dramCommandSlot 9 7) (withDch (fun c => { c with forcedDue := 2 }))) (fun t => t.dram.forced == 1 && (t.dch 7).forcedDue == 1)),
     (let s1 := ((chReq (req 2 1 5) 0).atTime 9).panNotes 7; (s1.dch 7).forcedDue == 0 && !(s1.dch 7).osc && s1.pickReq true (s1.dch 7) == none && s1.pickReq false (s1.dch 7) == some (req 2 1 5) && (s1.dch 7).due == 0 && (s1.dch 7).debt == 0,
      ans (exec (.dramCommandSlot 9 7) (chReq (req 2 1 5) 0)) (fun t => (t.dch 7).reqs == [] && (match (t.dch 7).flight with | [q] => q.addr == 128 && q.port == 2 | _ => false))),
     (let s1 := (panicking.atTime 9).panNotes 7; (s1.dch 7).forcedDue == 0 && !(s1.dch 7).osc && s1.pickReq true (s1.dch 7) == some (req 0 1 5),
      ans (exec (.dramCommandSlot 9 7) panicking) (fun t => (t.dch 7).reqs == [req 2 0 5])),
     (((withDch (fun c => { c with flight := [req 2 1 5, req 3 1 5] })).dch 7).flight == [req 2 1 5, req 3 1 5],
      ans (exec (.dramReadReturn 9 7 .clean) (withDch (fun c => { c with flight := [req 2 1 5, req 3 1 5] }))) (fun t => (t.dch 7).flight == [req 3 1 5] && t.dram.corr == 0 && t.dram.uncorr == 0)),
     (true,
      ans (exec (.dramReadReturn 9 7 (.corrected 1)) (withDch (fun c => { c with flight := [req 2 1 5] }))) (fun t => (t.dch 7).flight == [] && t.dram.corr == 1 && t.ev.latch.getLsbD 210)),
     (!base.rebuildable 128 true,
      ans (exec (.dramReadReturn 9 7 (.uncorrectable 1)) (withDch (fun c => { c with flight := [req 2 1 5] }))) (fun t => t.dram.uncorr == 1 && t.dram.poison.contains 2 && t.ev.latch.getLsbD 211)),
     (let s := { withDch (fun c => { c with flight := [req 2 1 5] }) with dram := { (withDch (fun c => { c with flight := [req 2 1 5] })).dram with poison := [2] } }; s.dram.poison.contains 2,
      let s := { withDch (fun c => { c with flight := [req 2 1 5] }) with dram := { (withDch (fun c => { c with flight := [req 2 1 5] })).dram with poison := [2] } }; ans (exec (.dramReadReturn 9 7 .clean) s) (fun t => (t.dch 7).flight == [] && t.dram.uncorr == 1)),
     (let s := { withDch (fun c => { c with flight := [req 2 1 5] }) with dram := { (withDch (fun c => { c with flight := [req 2 1 5] })).dram with resilient := true, spare := 0 } }; s.rebuildable 128 true,
      let s := { withDch (fun c => { c with flight := [req 2 1 5] }) with dram := { (withDch (fun c => { c with flight := [req 2 1 5] })).dram with resilient := true, spare := 0 } }; ans (exec (.dramReadReturn 9 7 (.uncorrectable 1)) s) (fun t => t.dram.uncorr == 1 && t.dram.poison == [] && t.ev.latch.getLsbD 212)),
     (decide (5 + 10000 ≤ 10005),
      ans (exec (.dramAccessTimeout 10005 7) (withDch (fun c => { c with flight := [req 2 1 5] }))) (fun t => (t.dch 7).flight == [] && t.dram.failedCh == 7 && t.dma.latched && t.ev.latch.getLsbD 213)),
     (true,
      let s := { withDch (fun c => { c with reqs := [req 2 1 5, req 3 0 5, req 3 2 6] }) with dram := { (withDch (fun c => { c with reqs := [req 2 1 5, req 3 0 5, req 3 2 6] })).dram with ageLimit := 1000 } }; ans (exec (.requestPromote 1005) s) (fun t => (t.dch 7).reqs == [{ req 2 1 5 with cls := 0, since := 1005 }, req 3 0 5, req 3 2 6])),
     (true,
      ans (exec (.dramPortWindow 9) { base with dram := { base.dram with count := [(2, 77)] } }) (fun t => t.dram.latched == [(2, 77)] && t.dram.count == [])),
     (!base.anyPanic,
      ans (exec (.refreshUnitDue 9 7) base) (fun t => (t.dch 7).due == 1)),
     ((chReq (req 2 1 5) 1).anyPanic && decide (((chReq (req 2 1 5) 1).dch 7).debt + tRefi ((chReq (req 2 1 5) 1).dch 7).cls ≤ refCeiling ((chReq (req 2 1 5) 1).dch 7).cls * tRefi ((chReq (req 2 1 5) 1).dch 7).cls),
      ans (exec (.refreshUnitDue 9 7) (chReq (req 2 1 5) 1)) (fun t => (t.dch 7).debt == tRefi (t.dch 7).cls)),
     (((withDch id).dch 7).stepAt == none,
      ans (exec (.mr4Read 9 7 3) (withDch (fun c => { c with cls := 1 }))) (fun t => (t.dch 7).report == 3 && (t.dch 7).cls == 2)),
     (((withDch (fun c => { c with stepAt := some 9 })).dch 7).stepAt == some 9,
      ans (exec (.refreshClassStep 9 7) (withDch (fun c => { c with cls := 2, report := 0, stepAt := some 9 }))) (fun t => (t.dch 7).cls == 1)),
     (base.dram.chOk.getLsbD 7,
      ans (exec (.dqsOscRun 9) base) (fun t => (List.range 8).all (fun c => (t.dch c).osc))),
     (decide (8 * base.chanBlocks ≤ (8 * base.chanBlocks - 1) + 1),
      ans (exec (.dramScrubStep 9 .clean) { base with dram := { base.dram with pos := 8 * base.chanBlocks - 1 } }) (fun t => t.dram.pos == 0 && t.dram.passes == 1) && ans (exec (.dramScrubStep 9 .clean) base) (fun t => t.dram.pos == 1 && t.dram.passes == 0)),
     ((inMode .scrub base).dram.pos == 0 && (base.physBlock 0).2.2 && (base.physBlock 0).1 == 0,
      ans (exec (.dramScrubStep 9 .clean) (inMode .scrub { base with dram := { base.dram with mem := [(0, 7), (64, 8)] } })) (fun t => t.dram.pos == 1 && t.dram.mem == [(64, 8)])),
     ((waking 7).mode.mode == .standby && (waking 7).mode.trans.isSome && (waking 7).mode.target == .idle && decide (0 < (waking 7).dramSize - (waking 7).protSize),
      ans (exec (.dramScrubStep 9 .clean) (waking 7)) (fun t => t.dram.mem == memZero ((waking 7).protSize) 64 [((waking 7).protSize, 7)] && t.dram.mem == [] && (t.mode.trans.map (·.bytes)) == some 64)),
     (decide (0 + 1 < base.chanBlocks),
      ans (exec (.dramRebuildStep 9) (rebuilding true 0)) (fun t => t.dram.rebuild == some { ch := 6, retire := false, restore := true, pos := 1, ctx := some 3 })),
     (decide (base.chanBlocks ≤ (base.chanBlocks - 1) + 1),
      ans (exec (.dramRebuildStep 9) (rebuilding true (base.chanBlocks - 1))) (fun t => t.dram.rebuild == none && t.dram.spare == 0 && t.dram.spared == none && (t.ctx 3).cur == none)),
     (((rebuilding false 0).ctx 3).cur.isSome,
      ans (exec (.dramRebuildStep 9) (rebuilding false (base.chanBlocks - 1))) (fun t => t.dram.rebuild == none && t.dram.spare == 2 && t.ev.latch.getLsbD 214 && (t.ctx 3).cur == none))] = true := by decide +kernel

/-- Two sets: a pixel of dark level 100 and unit gain, and one of dark level 200 and double gain. -/
def twoSets : SMap ShdSet := [(0, { loaded with words := [(0, 0x40000064)] }), (1, { loaded with words := [(0, 0x800000C8)] })]
/-- The result of one pixel with no neighbours. -/
def onePixel (a b f x : Nat) (sat bad : Bool) : Pix := fixPix none none (shadeOne twoSets { a := a, b := b, f := f } 0 x sat bad) none none

/-- Values that meet the hypotheses of StepRunsFrontCommand, clause by clause, with what follows for them. -/
theorem test_witness_StepRunsFrontCommand : allOf
    [(true,
      (match step { base with pending := [.heartbeatTick 9, .mbSweep 10] } with | .next t => t.pending == [.mbSweep 10] && t.host.beat == base.host.beat + 1 | _ => false))] = true := by decide +kernel

/-- Values that meet the hypotheses of PixelsAreCorrected, clause by clause, with what follows for them. -/
theorem test_witness_PixelsAreCorrected : allOf
    [(!twoSets.isEmpty && darkOf (sget 0 0 (sget ShdSet.reset 0 twoSets).words) == 100 && gainOf (sget 0 0 (sget ShdSet.reset 1 twoSets).words) == 0x8000,
      (onePixel 0 0 0 1100 false false).data == 1000 && (onePixel 1 1 255 1100 false false).data == 1800 && (onePixel 0 1 128 1100 false false).data == 1425 && (onePixel 0 0 0 50 false false).data == 0 && (onePixel 1 1 0 65535 false false).sat && (onePixel 0 0 0 7 true false).data == 0xFFFF && (onePixel 0 0 0 7 false true).defpix)] = true := by decide +kernel

/-- Values that meet the hypotheses of LinearisationFollowsTables, clause by clause, with what follows for them. -/
theorem test_witness_LinearisationFollowsTables : allOf
    [(linEntry [] 4095 == 65520,
      [0, 65519, 65520, 65535].map (linValue []) == [0, 65519, 65520, 65534] && (linPix [] { data := 5, sat := true, defpix := true, interp := false, stitch := true }).data == 0)] = true := by decide +kernel

/-- Values that meet the hypotheses of StartIsJudgedOnState, clause by clause, with what follows for them. -/
theorem test_witness_StartIsJudgedOnState : allOf
    [(let s := dmaIn .idle .none (fun c => { c with desc := 0x40 }); (s.chan 5).state == .idle && !s.dma.latched && s.mode.mode == .idle && !s.portQuiet (s.chan 5).port,
      [true, false].all (fun b => ans (exec (.dmaStart 9 5 b) (dmaIn .idle .none (fun c => { c with desc := 0x40 }))) (fun t => (t.chan 5).state == .running && (t.chan 5).phase == .fetch && (t.chan 5).next == 0x40 && t.host.out.contains (.descRead 0 5 0x40)))),
     ((inMode .standby (dmaIn .idle .none id)).mode.mode == .standby,
      [true, false].all (fun b => ans (exec (.dmaStart 9 5 b) (inMode .standby (dmaIn .idle .none id))) (fun t => t.dma == (dmaIn .idle .none id).dma))),
     (((dmaIn .running .moving id).chan 5).state == .running,
      ans (exec (.dmaStart 9 5 true) (dmaIn .running .moving id)) (fun t => ans (exec (.dmaAbort 9 5) (dmaIn .running .moving id)) (fun u => t == u)) && ans (exec (.dmaStart 9 5 false) (dmaIn .running .moving id)) (fun t => t.dma == (dmaIn .running .moving id).dma)),
     ((inMode .scrub (dmaIn .idleAtEnd .none id)).mode.mode == .scrub,
      ans (exec (.chainKick 9 5) (inMode .scrub (dmaIn .idleAtEnd .none id))) (fun t => t.dma == (dmaIn .idleAtEnd .none id).dma)),
     ((dmaIn .running .moving id).accepts (hd 0) [.c] && !base.mode.transit,
      ans (exec (.setMode (hd 0) 11 0 0) (dmaIn .running .moving id)) (fun t => endedB (hd 0) 0x0101 .failed cState [] 0 t && t.mode.mode == .idle))] = true := by decide +kernel

/-- Values that meet the hypotheses of AbortStopsChannel, clause by clause, with what follows for them. -/
theorem test_witness_AbortStopsChannel : allOf
    [(let s := dmaIn .running .moving (fun c => { c with qWait := true, moved := 0, last := 0x80 }); (s.chan 5).qWait && (s.chan 5).moved == 0,
      ans (exec (.dmaAbort 9 5) (dmaIn .running .moving (fun c => { c with qWait := true, moved := 0, last := 0x80 }))) (fun t => (t.chan 5).state == .idle && (t.chan 5).code == 2 && (t.chan 5).residue == 0 && (t.chan 5).int && (t.chan 5).desc == 0x80)),
     (((dmaIn .running .moving id).chan 5).isQueue == false && !((dmaIn .running .moving id).chan 5).qWait,
      ans (exec (.dmaAbort 9 5) (dmaIn .running .moving (fun c => { c with kick := true }))) (fun t => (t.chan 5).state == .aborting && (t.chan 5).phase == .moving && !(t.chan 5).kick && t.host.out == [])),
     (((dmaIn .aborting .readBack (fun c => { c with ctl := 0x10, desc := 0x40, moved := 500, carry := [1] })).chan 5).ctl.getLsbD 4,
      let s := dmaIn .aborting .readBack (fun c => { c with ctl := 0x10, desc := 0x40, moved := 500, carry := [1] }); ans (exec (.dmaReadbackDone 9 5) s) (fun t => (t.chan 5).state == .idle && (t.chan 5).code == 2 && (t.chan 5).int && (t.chan 5).desc == 0x40 && (t.chan 5).carry == [1] && (t.chan 5).residue == 12 && t.host.out.contains (.hostWrite 0 0x50 (statusBytes (t.chan 5).crc 12 2) false))),
     (((dmaIn .idleAtEnd .none id).chan 5).state == .idleAtEnd && ((dmaIn .running .fetch id).chan 5).phase == .fetch,
      [dmaIn .idleAtEnd .none id, dmaIn .idleAtEnd .reread id, dmaIn .running .fetch id].all (fun s => ans (exec (.dmaAbort 9 5) s) (fun t => (t.chan 5).state == .idle && (t.chan 5).phase == .none && (t.chan 5).code == 2 && (t.chan 5).residue == 0 && (t.chan 5).int && t.host.out == []))),
     (((dmaIn .stopped .none id).chan 5).state == .stopped,
      [DmaState.idle, .aborting, .stopped].all (fun d => ans (exec (.dmaAbort 9 5) (dmaIn d .moving id)) (fun t => t.dma == (dmaIn d .moving id).dma))),
     (((dmaIn .idle .none id).chan 5).phase == .none,
      [Instr.chainKick 9 5, .dmaDescFetched 9 5 7, .dmaLinkRereadDone 9 5 7].all (fun i => ans (exec i (dmaIn .idle .none id)) (fun t => t.dma == (dmaIn .idle .none id).dma)))] = true := by decide +kernel

/-- Values that meet the hypotheses of ProfileIsFastAfterReset, clause by clause, with what follows for them. -/
theorem test_witness_ProfileIsFastAfterReset : allOf
    [(let s := { base with rst := { base.rst with devResetAt := some 9, secResetAt := some 9 } }; s.rst.devResetAt == some 9 && s.rst.secResetAt == some 9,
      let s : State := { base with rst := { base.rst with devResetAt := some 9, secResetAt := some 9 }, mode := { base.mode with profile := .dense } }; [Instr.powerOnReset 9, .porstNAssert 9, .sysrstNAssert 9, .coreBrownout 9, .sysclkLoss 9, .trivetSecurityReset 9].all (fun i => ans (exec i s) (fun t => t.mode.profile == .fast)) && ans (exec (.devResetExpiry 9) s) (fun t => t.mode.profile == .fast))] = true := by decide +kernel

/-- Values that meet the hypotheses of StagingsChangeOnlyShadow, clause by clause, with what follows for them. -/
theorem test_witness_StagingsChangeOnlyShadow : allOf
    [(hdrOf (.xformStage (hd 40)) == some (hd 40) && changesOf (.xformStage (hd 40)) == [.shadow, .staged, .dram, .ctxs] && changesOf (.diagSvBypass (hd 0) 0) == [.shadow, .staged, .ctxs],
      ans (exec (.xformStage (hd 40)) base) (fun t => t.dram.mem == base.dram.mem && t.ports == base.ports && t.ctx 1 == base.ctx 1))] = true := by decide +kernel

/-- Values that meet the hypotheses of MailboxCommandsKeepTheRest, clause by clause, with what follows for them. -/
theorem test_witness_MailboxCommandsKeepTheRest : allOf
    [(hdrOf (.motMove (hd 0) 1 0 1000 1000 1000 1000) == some (hd 0) && changesOf (.motMove (hd 0) 1 0 1000 1000 1000 1000) != [.shadow, .staged, .ctxs] && changesOf (.motMove (hd 0) 1 0 1000 1000 1000 1000) != [.shadow, .staged, .dram, .ctxs],
      ans (exec (.motMove (hd 0) 1 0 1000 1000 1000 1000) motor) (fun t => t.dram == motor.dram && t.ports == motor.ports && t.shadow == motor.shadow))] = true := by decide +kernel

/-- Values that meet the hypotheses of EventsKeepTheRest, clause by clause, with what follows for them. -/
theorem test_witness_EventsKeepTheRest : allOf
    [(hdrOf (.heartbeatTick 9) == none,
      ans (exec (.heartbeatTick 9) base) (fun t => t.dram == base.dram && t.host.ctxs == base.host.ctxs))] = true := by decide +kernel

/-- Values that meet the hypotheses of MemoryChangesOnlyWhereStored, clause by clause, with what follows for them. -/
theorem test_witness_MemoryChangesOnlyWhereStored : allOf
    [((match storesOf base (.bar2Write 9 0 0xFFFD [5, 6, 7]) with | some rs => rs == [(0x7010FFFD, 1), (0x7010FFFE, 1), (0x7010FFFF, 1)] | none => false),
      ans (exec (.bar2Write 9 0 0xFFFD [5, 6, 7]) base) (fun t => sget 0 0x7010FFFC t.dram.mem == 0 && sget 0 0x70110000 t.dram.mem == 0))] = true := by decide +kernel

/-- Values that meet the hypotheses of MemoryReadsBack, clause by clause, with what follows for them. -/
theorem test_witness_MemoryReadsBack : allOf
    [(Memory.wf [(4, 9)],
      memWrite 3 [1, 0, 2] [(4, 9)] == [(3, 1), (5, 2)] && Memory.wf (memWrite 3 [1, 0, 2] [(4, 9)]))] = true := by decide +kernel

/-- Values that meet the hypotheses of StepKeepsMemoryCanonical, clause by clause, with what follows for them. -/
theorem test_witness_StepKeepsMemoryCanonical : allOf
    [(base.memOk,
      (match step { base with pending := [.bar2Write 9 0 3 [0, 7]] } with | .next t => t.memOk && t.dram.mem == [(0x70100004, 7)] | _ => false))] = true := by decide +kernel

/-- Values that meet the hypotheses of StepKeepsOnePairServing, clause by clause, with what follows for them. -/
theorem test_witness_StepKeepsOnePairServing : allOf
    [(base.pairsOk,
      (match step { base with pending := [.lockstepMismatch 9 0] } with | .next t => t.pairsOk && t.cpu.serving == 1 | _ => false))] = true := by decide +kernel

/-- Values that meet the hypotheses of LevelSourcesAreLatched, clause by clause, with what follows for them. -/
theorem test_witness_LevelSourcesAreLatched : allOf
    [(levelSources.contains 18,
      ans (exec (.entropyHealthFail 9) (secState .vendor)) (fun t => t.ev.raw.getLsbD 18 && t.ev.latch.getLsbD 18) && ans (exec (.heartbeatTick 9) { booting .romRun with ev := { base.ev with raw := 0x40000 } }) (fun t => !t.ev.raw.getLsbD 18 || t.ev.latch.getLsbD 18))] = true := by decide +kernel

/-- The block has no instruction words: no row of the table gives bits. -/
theorem test_no_words : decodeTableWord 16 0x0100 = none := rfl
/-- R505: a pop takes 1 to 64 bytes. -/
theorem test_wf_qPop : [0, 1, 64, 65].map (fun n => (Instr.qPop 0 768 n false).WellFormed) = [false, true, true, false] := by decide
theorem test_wf_rcFieldRead : [0, 1, 4096, 4097].map (fun n => (Instr.rcFieldRead 0 0 0 n).WellFormed) = [false, true, true, false] := by decide
theorem test_wf_registerWrite : [0, 1, 8, 9].map (fun n => (Instr.registerWrite 0 0 0 n 0).WellFormed) = [false, true, true, false] := by decide
/-- R533: a BAR2 read brings 1 to 4,096 bytes, a write 1 to 512. -/
theorem test_wf_bar2 : [0, 4096, 4097].map (fun n => (Instr.bar2Read 0 0 0 n).WellFormed) = [false, true, false] ∧
    [0, 512, 513].map (fun n => (Instr.bar2Write 0 0 0 (List.replicate n 0)).WellFormed) = [false, true, false] := by decide +kernel
/-- R515: a DMA burst has 1 to 256 bytes. -/
theorem test_wf_dmaBurstDone : [0, 256, 257].map (fun n => (Instr.dmaBurstDone 0 0 (List.replicate n 0) false).WellFormed) = [false, true, false] := by decide +kernel
/-- R596: an image header has 512 bytes. -/
theorem test_wf_bootImageVerified : [511, 512].map (fun n => (Instr.bootImageVerified 0 (List.replicate n 0) true 0).WellFormed) = [false, true] := by decide +kernel
/-- R564: a die has 104 channels. -/
theorem test_wf_calResult : [103, 104].map (fun n => (Instr.bgMeasurementEnd 0 0 { goodCal with chan := n }).WellFormed) = [true, false] ∧
    (Instr.afeFgCalDone 0 [goodCal, { goodCal with chan := 104 }]).WellFormed = false := by decide
/-- R430: a thermal sample has 24 readings. -/
theorem test_wf_thermSample : [23, 24].map (fun n => (Instr.thermSample 0 (List.replicate n 0)).WellFormed) = [false, true] := by decide
/-- The spec's example of one corrected pixel (chapter on shading, R223 and R224). -/
theorem test_example_corrected_pixel :
    between 108 1040 1072 = 1054 ∧ between 108 20480 20992 = 20696 ∧ applyGain 40000 1054 20696 = (49196, false) := by decide
/-- The spec's example of a replaced pixel (R227). -/
theorem test_example_replaced_pixel :
    (replaceAll none none ([(false, 30000), (true, 0), (true, 0), (false, 30600)].map (fun x => { bad := x.1, fault := x.1, v := x.2, sat := false }))).map
      (fun x => (x.data.toNat, x.interp)) = [(30000, false), (30200, true), (30400, true), (30600, false)] := by decide +kernel
/-- The spec's example of linearisation (R230). -/
theorem test_example_linearised : linValue (List.replicate 3074 0 ++ [47300, 47318]) 49196 = 47314 := by decide +kernel
/-- The spec's example of the alignment of the NIR line (R244), and of its 12-bit code (R252). -/
theorem test_example_aligned : coefs 16 = [-72, 888, 232, -24] ∧
    (interpPix 16 ([40000, 41000, 43000, 44000].map (fun v => { Pix.none with data := BitVec.ofNat 16 v, defpix := false }))).data = 41453 ∧
    code12 { Pix.none with data := 41453, defpix := false } = 0xC90 ∧ (expand12 0xC90).data = 41440 := by decide +kernel
/-- The spec's example of a blend column (R260). -/
theorem test_example_blend :
    (blend 84 true { Pix.none with data := 30000, defpix := false } { Pix.none with data := 30600, defpix := false }).data = 30197 := by decide
/-- The spec's example of a coded line (R281, R282). -/
theorem test_example_reference_line :
    decodeLine 4 [] [0x09, 0xFF, 0xFF, 0x6F, 0x42, 0x40] = some ([200, 201, 201, 198], []) := by decide +kernel
/-- The spec's example of two slots (R353 to R355). -/
theorem test_example_slots :
    tcompAt 0x2F80 [(0, 0x4000), (0x2800, 0x4000), (0x3C00, 0x4400)] = 16768 ∧ levelOf 300 16768 = 307 ∧
    driveOf { IlmRow.reset with iRef := 800, dNom := 4096 } 4096 307 3200 = (100, 1919) ∧
    driveOf { IlmRow.reset with iRef := 600, dNom := 3072 } 4096 2048 3200 = (400, 2400) := by decide +kernel
/-- The spec's example of a derived value in mV (R417): the mean 699,051 with SCALE = 36,000. -/
theorem test_example_derived_value :
    ({ base with madc := { base.madc with sets := [(9, { SetCfg.reset with unit := 1, scale := 36000 })] } } : State).derive 9
      { SetAcc.reset with sum := 699051, count := 1 } = 24000 := by decide +kernel
/-- The spec's example of a refused MOT_FOLLOW (R545, R576): its completion entry, and OP_STATUS_5. -/
theorem test_example_refused_follow :
    ans (exec (.motFollow { hd 0 with ctx := 5, seq := 0x11 } 0)
        ((withActive (fun x => { x with io := { x.io with enc1 := 1 } }) motor).setQ 517 (fun q => { q with en := true }))) (fun t =>
      ans (exec (.completionPush 9 5) t) (fun u =>
        (u.q 517).cells.map (fun c => (c.bytes.take 4, (c.bytes.drop 16).take 8)) ==
            [([0x07, 0x09, 0x11, 0x05], [0x01, 0x00, 0x00, 0x00, 0x03, 0x01, 0x00, 0x00])] &&
          u.readWord 0 0x10144 == 0x50600011)) = true := by decide +kernel
/-- The spec's example of one command on context 3: the addresses of Q_PUSH and of the doorbell, and OP_STATUS_3 of a refusal (R545,
R49). -/
theorem test_example_refused_mode :
    ans (exec (.setMode { hd 0 with ctx := 3, seq := 0x2A } 5 0 0) { base with mode := { base.mode with profile := .dense } }) (fun t =>
      (t.ctx 3).ending.map (fun e => (e.state, e.result)) == some (OpState.failed, 0x0F)) = true := by decide +kernel
/-- The examples of FIPS 180-4 (R586): the digests of the three bytes abc and of the empty message. -/
theorem test_example_digest : (sha256 [0x61, 0x62, 0x63]).take 8 = [0xba, 0x78, 0x16, 0xbf, 0x8f, 0x01, 0xcf, 0xea] ∧
    (sha256 []).drop 28 = [0x78, 0x52, 0xb8, 0x55] := by decide +kernel

end Sys2Proof.Tests
end

section
/-! PROOFS. Staging commands change the shadow copies, the record of what is staged and their own context (R19, R20). -/

namespace Sys2Proof.Machine

/-! ## The frame of a staging command -/

/-- `t` is `s` but for the shadow copies and the record of what is staged (R19, R21). -/
def State.StagesOnly (s t : State) : Prop := ∃ sh sg, t = { s with shadow := sh, staged := sg }

/-- The body of a staging ends at once without a result for the payload buffer, having written at most shadow copies. -/
def Res.StagesOnly (s : State) : Res → Prop
  | .ok _ pay t => pay = [] ∧ s.StagesOnly t
  | .fail _ _ t => s.StagesOnly t
  | .go _ | .wait _ => False

namespace Res.StagesOnly

variable {s : State}

theorem fail {code : Nat} {data : List Byte} : (Res.fail code data s).StagesOnly s := ⟨_, _, rfl⟩

theorem stage {data : List Byte} {op : Nat} {f : Tables → Tables} : (Res.ok data [] (s.stage op f)).StagesOnly s := ⟨rfl, _, _, rfl⟩

/-- Stagings that leave more than a table record it beside the keys (R157, R574). -/
theorem stage_of_staged {data : List Byte} {op : Nat} {f : Tables → Tables} {g : Staged} :
    (Res.ok data [] (({ s with staged := g }).stage op f)).StagesOnly s := ⟨rfl, _, _, rfl⟩

theorem ite {c : Prop} [Decidable c] {x y : Res} (hx : x.StagesOnly s) (hy : y.StagesOnly s) :
    (if c then x else y).StagesOnly s := by
  split
  · exact hx
  · exact hy

end Res.StagesOnly

/-- A command without a result for the payload buffer ends: its context runs nothing more, and nothing else changes (R546). -/
theorem State.finish_cases (n : Nat) (st : OpState) (code : Nat) (data : List Byte) (s : State) :
    ((s.ctx n).cur = none ∧ s.finish n st code data [] = s) ∨
      ∃ f, s.finish n st code data [] = s.setCtx n f ∧ ∀ x : Ctx, (f x).cur = none ∧ (f x).deferred = x.deferred := by
  cases hc : (s.ctx n).cur with
  | none => exact .inl ⟨rfl, State.finish_of_none st code data [] hc⟩
  | some c =>
    cases hn : c.noCpl with
    | false => exact .inr ⟨_, State.finish_of_entry st code data hc hn, fun _ => ⟨rfl, rfl⟩⟩
    | true => exact .inr ⟨_, State.finish_of_noCpl st code data hc hn, fun _ => ⟨rfl, rfl⟩⟩

/-- What a staging on context `n` may have changed before the level sources settle: time, outputs, its context, the shadow copies and
their record, and, where it may have a payload, the DRAM controller but for the bytes it holds. -/
def State.StagingStep (n : Nat) (mayRead : Prop) (s t : State) : Prop := ∃ now out cs sh sg d,
  t = { s with now := now, host := { s.host with out := out, ctxs := cs }, shadow := sh, staged := sg, dram := d } ∧
  d.mem = s.dram.mem ∧ (¬ mayRead → d = s.dram) ∧ ∀ k, k ≠ n → sget Ctx.reset k cs = s.ctx k

namespace State.StagingStep

variable {n : Nat} {r : Prop} {s t u : State}

theorem trans (h : s.StagingStep n r t) (k : t.StagingStep n r u) : s.StagingStep n r u := by
  obtain ⟨_, _, cs, _, _, _, rfl, hm, hd, hc⟩ := h
  obtain ⟨_, _, cs', _, _, _, rfl, km, kd, kc⟩ := k
  exact ⟨_, _, cs', _, _, _, rfl, km.trans hm, fun e => (kd e).trans (hd e), fun j e => (kc j e).trans (hc j e)⟩

theorem of_atTime (a : Nat) : s.StagingStep n r (s.atTime a) :=
  ⟨_, _, _, _, _, _, rfl, rfl, fun _ => rfl, fun _ _ => rfl⟩

theorem of_stagesOnly (h : s.StagesOnly t) : s.StagingStep n r t := by
  obtain ⟨_, _, rfl⟩ := h
  exact ⟨_, _, _, _, _, _, rfl, rfl, fun _ => rfl, fun _ _ => rfl⟩

theorem of_setCtx (f : Ctx → Ctx) : s.StagingStep n r (s.setCtx n f) :=
  ⟨_, _, _, _, _, _, rfl, rfl, fun _ => rfl, fun _ e => ctx_setCtx_ne f s e⟩

/-- The end of a command without a result for the payload buffer changes its context alone. -/
theorem of_finish (st : OpState) (code : Nat) (data : List Byte) : s.StagingStep n r (s.finish n st code data []) := by
  obtain ⟨-, e⟩ | ⟨f, e, -⟩ := s.finish_cases n st code data
  · rw [e]; exact of_stagesOnly ⟨_, _, rfl⟩
  · rw [e]; exact of_setCtx f

/-- Stockpot reads a payload only where the command has one. -/
theorem of_fetched (h : Hdr) (hr : r ∨ h.plen = 0) : s.StagingStep n r (s.fetched h) := by
  obtain ⟨d, e⟩ := s.fetched_shape h
  have hd : (s.fetched h).dram = d := by rw [e]
  refine ⟨_, _, _, _, _, d, e, hd ▸ s.fetched_mem h, fun hn => ?_, fun _ _ => rfl⟩
  rw [← hd, fetched_of_empty (hr.resolve_left hn)]

end State.StagingStep

/-- A body that ends at once, having staged at most, leaves a staging's step. -/
theorem Res.StagesOnly.apply {n : Nat} {r : Prop} {s : State} {x : Res} (h : x.StagesOnly s) : s.StagingStep n r (x.apply n) := by
  cases x with
  | ok data pay t =>
    obtain ⟨rfl, ht⟩ := h
    exact (State.StagingStep.of_stagesOnly ht).trans (.of_finish ..)
  | fail code data t => exact (State.StagingStep.of_stagesOnly h).trans (.of_finish ..)
  | go t => exact h.elim
  | wait t => exact h.elim

/-- Check 6 of R545 refuses a payload where the parameters fix none (R556). -/
theorem State.plen_of_verdict {h : Hdr} {cls : List Cls} {modeOk inRange : Bool} {s : State}
    (hv : s.verdict h cls modeOk (some 0) inRange = none) : h.plen = 0 := by
  unfold State.verdict at hv
  split_ifs at hv with h1 h2 h3 h4 h5
  simp only [Bool.not_eq_true, Bool.not_eq_false', Bool.and_eq_true, beq_iff_eq] at h5
  exact BitVec.eq_of_toNat_eq h5.2

/-- A staging command whose body stages at most: it is refused, waits in its context for the lock of an apply, or is executed. -/
theorem State.take_stagingStep {h : Hdr} {op : Nat} {cls : List Cls} {modeOk inRange : Bool} {size : Option Nat} {i : Instr}
    {ops : List Nat} {body : State → Res} {r : Prop} {s : State} (hr : r ∨ size = some 0) (hb : ∀ u, (body u).StagesOnly u) :
    s.StagingStep h.ctx.toNat r (s.take h op cls modeOk size inRange (State.staging i h ops body)) := by
  refine (State.StagingStep.of_atTime h.t).trans ?_
  unfold State.take
  dsimp only
  split
  · refine (State.StagingStep.of_setCtx _ : (s.atTime h.t).StagingStep _ _ ((s.atTime h.t).begun h op)).trans ?_
    split
    · have hf (u : State) (code : Nat) : u.StagingStep h.ctx.toNat r (u.failWith h.ctx.toNat code) := .of_finish ..
      split
      · exact (hf _ _).trans (.of_setCtx _)
      · exact hf _ _
    · rename_i hv
      have hp : r ∨ h.plen = 0 := hr.imp_right (fun e => State.plen_of_verdict (e ▸ hv))
      refine (State.StagingStep.of_fetched h hp).trans ?_
      unfold State.staging
      split
      · exact (State.StagingStep.of_setCtx _).trans (.of_setCtx _)
      · exact (hb _).apply
  · exact .of_stagesOnly ⟨_, _, rfl⟩

/-- The stagings of the line-boundary tables that carry a payload (R556). -/
theorem exec_stagingStep_of_payload {i : Instr} {s : State} (hi : changesOf i = [.shadow, .staged, .dram, .ctxs]) :
    ∃ h u, hdrOf i = some h ∧ exec i s = .next u.settle ∧ s.StagingStep h.ctx.toNat True u := by
  cases i with
  | afeStage h => exact ⟨h, _, rfl, rfl, State.take_stagingStep (.inl trivial) fun _ => .ite .stage .fail⟩
  | tapMapStage h => exact ⟨h, _, rfl, rfl, State.take_stagingStep (.inl trivial) fun _ => .ite .fail (.ite .fail .stage)⟩
  | ltStrobeStage h => exact ⟨h, _, rfl, rfl, State.take_stagingStep (.inl trivial) fun _ => .ite .stage .fail⟩
  | ltPageStage h => exact ⟨h, _, rfl, rfl, State.take_stagingStep (.inl trivial) fun _ => .ite .fail (.ite .fail .stage)⟩
  | shdCfgStage h => exact ⟨h, _, rfl, rfl, State.take_stagingStep (.inl trivial) fun _ => .ite .stage .fail⟩
  | linStage h => exact ⟨h, _, rfl, rfl, State.take_stagingStep (.inl trivial) fun _ => .stage⟩
  | alnTableStage h => exact ⟨h, _, rfl, rfl, State.take_stagingStep (.inl trivial) fun _ => .ite .fail (by split; exacts [.fail, .stage])⟩
  | xformStage h => exact ⟨h, _, rfl, rfl, State.take_stagingStep (.inl trivial) fun _ => .stage⟩
  | svSieveStage h => exact ⟨h, _, rfl, rfl, State.take_stagingStep (.inl trivial) fun _ => .ite .stage .fail⟩
  | svTongsStage h => exact ⟨h, _, rfl, rfl, State.take_stagingStep (.inl trivial) fun _ => .ite .stage .fail⟩
  | svLadleStage h => exact ⟨h, _, rfl, rfl, State.take_stagingStep (.inl trivial) fun _ => .ite .stage .fail⟩
  | svPreviewStage h => exact ⟨h, _, rfl, rfl, State.take_stagingStep (.inl trivial) fun _ => .stage⟩
  | svCropStage h => exact ⟨h, _, rfl, rfl, State.take_stagingStep (.inl trivial) fun _ => .ite .fail (.ite .stage .fail)⟩
  | sklMapStage h => exact ⟨h, _, rfl, rfl, State.take_stagingStep (.inl trivial) fun _ => .ite .stage .fail⟩
  | sklProfileStage h => exact ⟨h, _, rfl, rfl, State.take_stagingStep (.inl trivial) fun _ => .stage⟩
  | sklClassStage h => exact ⟨h, _, rfl, rfl, State.take_stagingStep (.inl trivial) fun _ => .ite .stage .fail⟩
  | sklFevStage h => exact ⟨h, _, rfl, rfl, State.take_stagingStep (.inl trivial) fun _ => .ite .stage .fail⟩
  | ilmRowStage h => exact ⟨h, _, rfl, rfl, State.take_stagingStep (.inl trivial) fun _ => .ite .fail .stage⟩
  | ilmLevelStage h => exact ⟨h, _, rfl, rfl, State.take_stagingStep (.inl trivial) fun _ => .ite .stage .fail⟩
  | ilmTcompStage h => exact ⟨h, _, rfl, rfl, State.take_stagingStep (.inl trivial) fun _ => .ite .stage .fail⟩
  | motTileStage h => exact ⟨h, _, rfl, rfl, State.take_stagingStep (.inl trivial) fun _ => .ite .fail .stage⟩
  | _ => nomatch hi

/-- Those whose parameters are all in the command itself (R556). -/
theorem exec_stagingStep_of_inline {i : Instr} {s : State} (hi : changesOf i = [.shadow, .staged, .ctxs]) :
    ∃ h u, hdrOf i = some h ∧ exec i s = .next u.settle ∧ s.StagingStep h.ctx.toNat False u := by
  cases i with
  | patSelectStage h => exact ⟨h, _, rfl, rfl, State.take_stagingStep (.inr rfl) fun _ => .ite .stage .fail⟩
  | tapClockStage h => exact ⟨h, _, rfl, rfl, State.take_stagingStep (.inr rfl) fun _ => .ite .fail (.ite .stage .fail)⟩
  | portIsolate h => exact ⟨h, _, rfl, rfl, State.take_stagingStep (.inr rfl) fun _ => .ite .fail (.ite .fail .stage_of_staged)⟩
  | portSwap h => exact ⟨h, _, rfl, rfl, State.take_stagingStep (.inr rfl) fun _ => .ite .fail (.ite .fail .stage_of_staged)⟩
  | portQualify h => exact ⟨h, _, rfl, rfl, State.take_stagingStep (.inr rfl) fun _ => .ite .fail (.ite .fail .stage_of_staged)⟩
  | portRelease h => exact ⟨h, _, rfl, rfl, State.take_stagingStep (.inr rfl) fun _ => .ite .fail (.ite .fail .stage_of_staged)⟩
  | ltSrcStage h => exact ⟨h, _, rfl, rfl, State.take_stagingStep (.inr rfl) fun _ => .ite .fail (.ite .fail .stage)⟩
  | ltPaceStage h => exact ⟨h, _, rfl, rfl, State.take_stagingStep (.inr rfl) fun _ => .ite .stage .fail⟩
  | ioAssignStage h => exact ⟨h, _, rfl, rfl, State.take_stagingStep (.inr rfl) fun _ => .ite .fail (.ite .fail .stage)⟩
  | productStage h => exact ⟨h, _, rfl, rfl, State.take_stagingStep (.inr rfl) fun _ => .ite .stage .fail⟩
  | sklCfgStage h => exact ⟨h, _, rfl, rfl, State.take_stagingStep (.inr rfl) fun _ => .ite .stage .fail⟩
  | ilmLampClear h => exact ⟨h, _, rfl, rfl, State.take_stagingStep (.inr rfl) fun _ => .stage_of_staged⟩
  | ilmRowClear h => exact ⟨h, _, rfl, rfl, State.take_stagingStep (.inr rfl) fun _ => .ite .fail .stage_of_staged⟩
  | diagTapStage h => exact ⟨h, _, rfl, rfl, State.take_stagingStep (.inr rfl) fun _ => by dsimp only; split; exacts [.ite .fail .stage, .stage]⟩
  | diagSvBypass h => exact ⟨h, _, rfl, rfl, State.take_stagingStep (.inr rfl) fun _ => .stage⟩
  | _ => nomatch hi

/-! ## What settling leaves of MODE, and the frame of a staging -/

theorem State.wake_same_mode (s : State) : Part.mode.same s s.wake := by
  unfold State.wake
  split
  · rename_i hw
    have hs : s.mode.mode = .standby := by simp_all
    exact .inr ⟨hs, hs⟩
  · exact .inl rfl

theorem State.latchSet_same_mode (i : Nat) (s : State) : Part.mode.same s (s.latchSet i) := by
  unfold State.latchSet
  dsimp only
  split
  · exact .inl rfl
  · split
    · split
      · exact State.wake_same_mode { s with ev := { s.ev with latch := s.ev.latch ||| BitVec.twoPow 256 i } }
      · exact .inl rfl
    · split
      · exact .inl rfl
      · exact .inl (State.msix_mode ..)

theorem State.level_same_mode (i : Nat) (on : Bool) (s : State) : Part.mode.same s (s.level i on) := by
  unfold State.level
  dsimp only
  split
  · exact State.latchSet_same_mode i { s with ev := { s.ev with raw := _ } }
  · exact .inl rfl

/-- The level sources change MODE by nothing but a wake from STANDBY, which leaves the mode itself (R641). -/
theorem State.settle_same_mode (s : State) : Part.mode.same s s.settle := by
  have step : ∀ (b : Bool) (l : List (Nat × Bool)) (t : State), Part.mode.same s t → Part.mode.same s (l.foldl (State.settleOne b) t) := by
    intro b l
    induction l with
    | nil => exact fun _ h => h
    | cons x l ih =>
      refine fun t h => ih _ ?_
      rcases h with h | ⟨hs, ht⟩
      · simpa only [Part.same, h, State.settleOne] using t.level_same_mode x.1 (x.2 && !b)
      · exact .inr ⟨hs, (t.level_signals x.1 (x.2 && !b)).mode.trans ht⟩
  exact step _ _ s (.inl rfl)

/-- A staging's step, once the level sources have settled, changes the shadow copies, their record, its context and, where it may read a
payload, the DRAM controller. -/
theorem State.StagingStep.frame {n : Nat} {r : Prop} {s u : State} {parts : List Part} (h : s.StagingStep n r u)
    (hp : [.shadow, .staged, .ctxs] ⊆ parts) (hr : r → .dram ∈ parts) : State.Frame parts s u.settle := by
  intro p hnot
  have hmode := u.settle_same_mode
  have hsig := u.settle_signals
  generalize u.settle = t at hmode hsig
  obtain ⟨_, _, _, _, _, d, rfl, hmem, hdram, -⟩ := h
  obtain ⟨_, _, _, _, _, _, _, _, rfl⟩ := hsig
  cases p with
  | mode => exact hmode
  | shadow | staged | ctxs => exact absurd (hp (by simp)) hnot
  | dram => exact hdram (fun e => hnot (hr e)) ▸ rfl
  | mem => exact hmem
  | host => exact ⟨rfl, rfl, rfl, rfl, rfl⟩
  | ev => exact ⟨rfl, rfl, rfl⟩
  | _ => rfl

/-- The other contexts keep what they show. -/
theorem State.StagingStep.settle_ctx_ne {n k : Nat} {r : Prop} {s u : State} (h : s.StagingStep n r u) (hk : k ≠ n) :
    u.settle.ctx k = s.ctx k := by
  rw [State.settle_ctx]
  obtain ⟨_, _, _, _, _, _, rfl, -, -, hc⟩ := h
  exact hc k hk

/-- Settles O52: every staging is one step on its own context, the shadow copies and their record. -/
theorem stagingsChangeOnlyShadow : Obligations.StagingsChangeOnlyShadow := by
  intro i h s t hh hi he
  suffices hs : ∃ r u, (r → .dram ∈ changesOf i) ∧ exec i s = .next u.settle ∧ s.StagingStep h.ctx.toNat r u by
    obtain ⟨r, u, hr, hu, hstep⟩ := hs
    obtain rfl : t = u.settle := by simpa [hu] using he.symm
    exact ⟨hstep.frame (by rcases hi with hi | hi <;> simp [hi]) hr, fun k hk => hstep.settle_ctx_ne hk⟩
  rcases hi with hi | hi
  · obtain ⟨h', u, hh', hu, hstep⟩ := exec_stagingStep_of_inline (s := s) hi
    obtain rfl : h' = h := by simpa [hh'] using hh
    exact ⟨False, u, False.elim, hu, hstep⟩
  · obtain ⟨h', u, hh', hu, hstep⟩ := exec_stagingStep_of_payload (s := s) hi
    obtain rfl : h' = h := by simpa [hh'] using hh
    exact ⟨True, u, fun _ => by simp [hi], hu, hstep⟩

end Sys2Proof.Machine
end

section
/-! PROOFS. Commands that wait for an apply's lock, that a sweep executes again, or that MB_ABORT ends (R24, R542, R543, R548, R561). -/

namespace Sys2Proof.Machine

/-! ## Taking an accepted command -/

/-- A command that passes checks 2 to 6 of R545 does what its body does. -/
theorem State.take_of_accepts {h : Hdr} {op : Nat} {cls : List Cls} {size : Option Nat} {body : State → Res} {s : State}
    (ha : s.accepts h cls = true) (hs : ∀ n, size = some n → h.plen.toNat = n) :
    s.take h op cls true size true body = (body ((s.taken h op).fetched h)).apply h.ctx.toNat := by
  simp only [State.accepts, Bool.and_eq_true, Bool.not_eq_true', decide_eq_true_eq] at ha
  obtain ⟨⟨⟨⟨⟨hc, hr⟩, hf⟩, hp⟩, hm⟩, ht⟩ := ha
  refine State.take_of_accepted hc ?_
  have hflags : h.flags.toNat / 2 = 0 := by omega
  have hbuf : ¬ (s.atTime h.t).bufSize h.ctx.toNat < h.plen.toNat := Nat.not_lt.2 hp
  have hbusy : ¬ (s.mode.transit = true ∧ Cls.c ∉ cls) := by
    simpa [imp_iff_not_or] using ht
  unfold State.verdict
  cases size with
  | none => simp [hr, hflags, hbuf, hm, hbusy]
  | some n =>
    obtain rfl := hs n rfl
    simp [hr, hflags, hbuf, hm, hbusy]

/-- A command that runs has ended once it is finished without a result for the payload buffer (R546). -/
theorem State.Runs.finish_ended {h : Hdr} {op : Nat} {s : State} (hr : s.Runs h op) (st : OpState) (code : Nat) (data : List Byte) :
    (s.finish h.ctx.toNat st code data []).Ended h op st code data 0 := by
  cases hn : h.flags.getLsbD 0 with
  | false =>
    rw [State.finish_of_entry st code data hr hn]
    exact ⟨by simp, fun _ => by simp, fun hn' => absurd (hn.symm.trans hn') (by decide)⟩
  | true =>
    rw [State.finish_of_noCpl st code data hr hn]
    exact ⟨by simp, fun hn' => absurd (hn.symm.trans hn') (by decide), fun _ => by simp⟩

/-- What a command shows once it has ended is all in its context. -/
theorem State.Ended.congr {h : Hdr} {op code rlen : Nat} {st : OpState} {data : List Byte} {s t : State}
    (hs : s.Ended h op st code data rlen) (hcur : (t.ctx h.ctx.toNat).cur = (s.ctx h.ctx.toNat).cur)
    (hend : (t.ctx h.ctx.toNat).ending = (s.ctx h.ctx.toNat).ending) (hst : (t.ctx h.ctx.toNat).opState = (s.ctx h.ctx.toNat).opState)
    (hres : (t.ctx h.ctx.toNat).result = (s.ctx h.ctx.toNat).result) : t.Ended h op st code data rlen := by
  simpa only [State.Ended, hcur, hend, hst, hres] using hs

theorem State.Ended.settle {h : Hdr} {op code rlen : Nat} {st : OpState} {data : List Byte} {s : State}
    (hs : s.Ended h op st code data rlen) : s.settle.Ended h op st code data rlen :=
  hs.congr (by simp) (by simp) (by simp) (by simp)

@[simp] theorem State.taken_active (h : Hdr) (op : Nat) (s : State) : (s.taken h op).active = s.active := rfl

@[simp] theorem State.taken_shadow (h : Hdr) (op : Nat) (s : State) : (s.taken h op).shadow = s.shadow := rfl

@[simp] theorem State.taken_staged (h : Hdr) (op : Nat) (s : State) : (s.taken h op).staged = s.staged := rfl

/-- A command that has been taken runs. -/
theorem State.taken_runs (h : Hdr) (op : Nat) (s : State) : (s.taken h op).Runs h op := by
  simp [State.Runs, State.taken]

/-- The locks are those of the announced and of the pending apply (R24). -/
theorem State.locked_congr {ops : List Nat} {s t : State} (hu : t.uzs = s.uzs) (hm : t.mode = s.mode) : t.locked ops = s.locked ops := by
  simp only [State.locked, hu, hm]

/-! ## A staging that waits -/

@[simp] theorem State.stage_ctx (op : Nat) (f : Tables → Tables) (n : Nat) (s : State) : (s.stage op f).ctx n = s.ctx n := rfl

@[simp] theorem State.stage_keys (op : Nat) (f : Tables → Tables) (s : State) : (s.stage op f).staged.keys = s.staged.keys ++ [op] := rfl

@[simp] theorem State.stage_shadow (op : Nat) (f : Tables → Tables) (s : State) : (s.stage op f).shadow = f s.shadow := rfl

theorem State.staging_of_locked {i : Instr} {h : Hdr} {ops : List Nat} {body : State → Res} {s : State} (hl : s.locked ops = true) :
    s.staging i h ops body = .wait (s.setCtx h.ctx.toNat (fun x => { x with deferred := some i })) := if_pos hl

theorem State.staging_of_free {i : Instr} {h : Hdr} {ops : List Nat} {body : State → Res} {s : State} (hl : s.locked ops = false) :
    s.staging i h ops body = body s := if_neg (by simp [hl])

/-- XFORM_STAGE under the lock of its table waits in its context, shown as QUEUED (R24, R542). -/
theorem xformStage_waits {h : Hdr} {s : State} (ha : s.accepts h [.s] = true) (hp : h.plen = 40) (hl : s.locked [0x0501] = true) :
    ∃ t, exec (.xformStage h) s = .next t ∧ t.Runs h 0x0501 ∧ (t.ctx h.ctx.toNat).deferred = some (.xformStage h) ∧
      (t.ctx h.ctx.toNat).opState = .queued ∧ t.shadow = s.shadow ∧ t.staged = s.staged := by
  have hx : takeXformStage h s = (((s.taken h 0x0501).fetched h).setCtx h.ctx.toNat
      (fun x => { x with deferred := some (.xformStage h) })).setCtx h.ctx.toNat (fun x => { x with opState := .queued }) := by
    unfold takeXformStage
    rw [State.take_of_accepts ha (by simp [hp]), State.staging_of_locked ((State.locked_congr (by simp [State.taken])
      (by simp [State.taken])).trans hl)]
    rfl
  refine ⟨_, rfl, ?_⟩
  rw [hx]
  simp [State.Runs, State.taken]

/-! ## The sweep -/

/-- A pass over a table in which every entry leaves the state alone. -/
theorem foldl_eq_self {α β : Type} {f : β → α → β} {s : β} : ∀ {l : List α}, (∀ k ∈ l, f s k = s) → l.foldl f s = s
  | [], _ => rfl
  | k :: l, h => by
    rw [List.foldl_cons, h k (by simp)]
    exact foldl_eq_self (fun j hj => h j (by simp [hj]))

/-- A pass in which one entry alone does anything. -/
theorem foldl_eq_apply {α β : Type} {f : β → α → β} {s : β} {l : List α} {n : α} (hl : l.Nodup) (hn : n ∈ l)
    (hbefore : ∀ k ∈ l, k ≠ n → f s k = s) (hafter : ∀ k ∈ l, k ≠ n → f (f s n) k = f s n) : l.foldl f s = f s n := by
  obtain ⟨a, b, rfl⟩ := List.append_of_mem hn
  obtain ⟨hab, hnb⟩ : n ∉ a ∧ n ∉ b := by
    have := List.nodup_append.1 hl
    grind
  rw [List.foldl_append, foldl_eq_self (fun k hk => hbefore k (by simp [hk]) (fun e => hab (e ▸ hk))), List.foldl_cons]
  exact foldl_eq_self (fun k hk => hafter k (by simp [hk]) (fun e => hnb (e ▸ hk)))

theorem State.resumeStaging_of_none {n : Nat} {s : State} (hd : (s.ctx n).deferred = none) : s.resumeStaging n = s := by
  unfold State.resumeStaging; rw [hd]

/-- No QUIESCE waits on the port, so none can end (R538). -/
theorem State.quiesceCheck_of_none {p : Nat} {s : State} (hq : (s.port p).quiesce = none) : s.quiesceCheck p = s := by
  unfold State.quiesceCheck; rw [hq]

theorem State.dmaOut_of_none {s : State} (h0 : s.host.port0.quiesce = none) (h1 : s.host.port1.quiesce = none) :
    s.dmaOut = .next s.settle := by
  unfold State.dmaOut
  have e0 : s.quiesceCheck 0 = s := State.quiesceCheck_of_none h0
  have e1 : s.quiesceCheck 1 = s := State.quiesceCheck_of_none h1
  rw [e0, e1, State.out_eq]

/-- What leaves the block is put behind what has left it in the same event. -/
theorem State.StagingStep.after {n : Nat} {r : Prop} {f : State → State} {s : State} (h : s.StagingStep n r (f s)) :
    s.StagingStep n r (s.after f) :=
  h.trans ⟨_, _, _, _, _, _, rfl, rfl, fun _ => rfl, fun _ _ => rfl⟩

/-- A step on one context leaves the queues and the host ports' QUIESCE as they were. -/
theorem State.StagingStep.pantry {n : Nat} {r : Prop} {s t : State} (h : s.StagingStep n r t) : t.pantry = s.pantry := by
  obtain ⟨_, _, _, _, _, _, rfl, -⟩ := h; rfl

theorem State.StagingStep.ports {n : Nat} {r : Prop} {s t : State} (h : s.StagingStep n r t) :
    t.host.port0 = s.host.port0 ∧ t.host.port1 = s.host.port1 := by
  obtain ⟨_, _, _, _, _, _, rfl, -⟩ := h; exact ⟨rfl, rfl⟩

theorem State.StagingStep.ctx_ne {n k : Nat} {r : Prop} {s t : State} (h : s.StagingStep n r t) (hk : k ≠ n) : t.ctx k = s.ctx k := by
  obtain ⟨_, _, _, _, _, _, rfl, -, -, hc⟩ := h; exact hc k hk

theorem State.StagingStep.active {n : Nat} {r : Prop} {s t : State} (h : s.StagingStep n r t) : t.active = s.active := by
  obtain ⟨_, _, _, _, _, _, rfl, -⟩ := h; rfl

/-- Where one context alone has a staging waiting and no queue a command, the sweep executes that staging again (R24, R543). -/
theorem execMbSweep_of_one {tm n : Nat} {r : Prop} {s : State} (hm : s.mode.mode ≠ .boot) (hs : s.served = true) (hn : n < 256)
    (hd : ∀ k, k < 256 → k ≠ n → (s.ctx k).deferred = none) (hq : ∀ k, k < 256 → s.hasCmd k = false)
    (h0 : s.host.port0.quiesce = none) (h1 : s.host.port1.quiesce = none)
    (hstep : (s.atTime tm).StagingStep n r ((s.atTime tm).resumeStaging n)) :
    execMbSweep tm s = .next ((s.atTime tm).resumeStaging n).settle := by
  have hresume : (List.range 256).foldl (fun (u : State) k => u.resumeStaging k) (s.atTime tm) = (s.atTime tm).resumeStaging n := by
    refine foldl_eq_apply List.nodup_range (List.mem_range.2 hn) (fun k hk e => ?_) (fun k hk e => ?_)
    · exact State.resumeStaging_of_none (hd k (List.mem_range.1 hk) e)
    · exact State.resumeStaging_of_none (by rw [hstep.ctx_ne e]; exact hd k (List.mem_range.1 hk) e)
  have hidle (k : Nat) (hk : k < 256) : ((s.atTime tm).resumeStaging n).hasCmd k = false := by
    rw [← hq k hk]
    simp only [State.hasCmd, State.q, hstep.pantry, State.atTime_pantry]
  have hguard : ((s.atTime tm).mode.mode == .boot || !(s.atTime tm).served) = false := by
    have : (s.atTime tm).served = true := hs
    simp [hm, this]
  unfold execMbSweep
  simp only [hguard, Bool.false_eq_true, if_false, hresume]
  rw [foldl_eq_self (fun k hk => by simp [hidle k (List.mem_range.1 hk)])]
  exact State.dmaOut_of_none (hstep.ports.1 ▸ h0) (hstep.ports.2 ▸ h1)

/-- The payload lies where the context's buffer and its window say (R544). -/
theorem State.payload_congr {h : Hdr} {s t : State} (hb : (t.ctx h.ctx.toNat).buf = (s.ctx h.ctx.toNat).buf)
    (hw : t.dram.windows = s.dram.windows) (hm : t.dram.mem = s.dram.mem) : t.payload h = s.payload h := by
  simp only [State.payload, State.bufAddr, State.winAddr, State.win, hb, hw, hm]

/-- XFORM_STAGE under no lock stages its table and ends DONE (R19, R263). -/
theorem takeXformStage_eq {h : Hdr} {s : State} (hc : (s.atTime h.t).canTake h.ctx.toNat = true)
    (hv : (s.atTime h.t).verdict h [.s] true (some 40) true = none) (hl : s.locked [0x0501] = false) :
    ∃ f : Tables → Tables, takeXformStage h s = (((s.taken h 0x0501).fetched h).stage 0x0501 f).done h.ctx.toNat [] ∧
      ∀ t, (f t).xform.m = ((chunks 2 20 (s.payload h)).map (fun b => signed 16 (leVal b))).take 16 := by
  have hlock : ((s.taken h 0x0501).fetched h).locked [0x0501] = false :=
    (State.locked_congr (by simp [State.taken]) (by simp [State.taken])).trans hl
  have hpay : ((s.taken h 0x0501).fetched h).payload h = s.payload h :=
    State.payload_congr (by simp [State.taken]) (by simp [State.taken]) (by simp [State.taken])
  unfold takeXformStage
  rw [State.take_of_accepted hc hv, ← State.taken, State.staging_of_free hlock, hpay]
  exact ⟨_, rfl, fun _ => rfl⟩

/-- The end of a command without a result for the payload buffer does not defer one. -/
theorem State.done_deferred (n : Nat) (data : List Byte) (s : State) : ((s.done n data).ctx n).deferred = (s.ctx n).deferred := by
  obtain ⟨-, e⟩ | ⟨f, e, hf⟩ := s.finish_cases n .done cOk data
  · rw [State.done, e]
  · rw [State.done, e, State.ctx_setCtx_self, (hf _).2]

/-- What a staging that is executed again starts from: its context is free for the command that has waited in it. -/
def State.reopened (n : Nat) (s : State) : State := s.setCtx n (fun x => { x with cur := none, deferred := none, resume := true })

@[simp] theorem State.reopened_ctx (n : Nat) (s : State) :
    (s.reopened n).ctx n = { s.ctx n with cur := none, deferred := none, resume := true } := State.ctx_setCtx_self ..

@[simp] theorem State.reopened_mode (n : Nat) (s : State) : (s.reopened n).mode = s.mode := rfl

@[simp] theorem State.reopened_staged (n : Nat) (s : State) : (s.reopened n).staged = s.staged := rfl

@[simp] theorem State.reopened_served (n t : Nat) (s : State) : ((s.reopened n).atTime t).served = s.served := rfl

/-- `after` touches the outputs alone. -/
@[simp] theorem State.after_ctx (f : State → State) (n : Nat) (s : State) : (s.after f).ctx n = (f s).ctx n := rfl

@[simp] theorem State.after_staged (f : State → State) (s : State) : (s.after f).staged = (f s).staged := rfl

@[simp] theorem State.after_shadow (f : State → State) (s : State) : (s.after f).shadow = (f s).shadow := rfl

theorem State.resumeStaging_of_some {n : Nat} {i : Instr} {s : State} (hd : (s.ctx n).deferred = some i) :
    s.resumeStaging n = ((s.reopened n).after (State.runMail i)).setCtx n (fun x => { x with resume := false }) := by
  unfold State.resumeStaging; rw [hd]; rfl

/-- A reopened context takes its command, whatever becomes of its port (R537). -/
theorem State.reopened_canTake {n t : Nat} {s : State} (hm : s.mode.mode ≠ .boot) (hs : s.served = true) (he : (s.ctx n).ending = none) :
    ((s.reopened n).atTime t).canTake n = true := by
  simp [State.canTake, hm, hs, he]

/-- A staging with a payload of its size passes the checks of R545 in the modes of its class. -/
theorem State.verdict_of_staging {h : Hdr} {n : Nat} {s : State} (hr : h.rsvBad = false) (hf : h.flags = 0) (hp : h.plen.toNat = n)
    (hb : n ≤ s.bufSize h.ctx.toNat) (hm : Cls.ok s.mode.mode .s = true) (ht : s.mode.transit = false) :
    s.verdict h [.s] true (some n) true = none := by
  subst hp
  simp [State.verdict, hr, hf, hm, ht, Nat.not_lt.2 hb]

/-- An XFORM_STAGE that has waited is executed again once its table is free: it stages the table and ends DONE (R24). -/
theorem resumeStaging_xformStage {h : Hdr} {s : State} (hd : (s.ctx h.ctx.toNat).deferred = some (.xformStage h))
    (hm : s.mode.mode ≠ .boot) (hs : s.served = true) (he : (s.ctx h.ctx.toNat).ending = none) (hr : h.rsvBad = false)
    (hf : h.flags = 0) (hp : h.plen = 40) (hb : h.plen.toNat ≤ s.bufSize h.ctx.toNat) (hok : Cls.ok s.mode.mode .s = true)
    (ht : s.mode.transit = false) (hl : s.locked [0x0501] = false) :
    let t := s.resumeStaging h.ctx.toNat
    s.StagingStep h.ctx.toNat True t ∧ t.Done h 0x0501 [] ∧ (t.ctx h.ctx.toNat).deferred = none ∧
      t.staged.keys = s.staged.keys ++ [0x0501] ∧
      t.shadow.xform.m = ((chunks 2 20 (s.payload h)).map (fun b => signed 16 (leVal b))).take 16 := by
  have hv : ((s.reopened h.ctx.toNat).atTime h.t).verdict h [.s] true (some 40) true = none :=
    State.verdict_of_staging hr hf (by simp [hp]) (by simpa [hp, State.bufSize] using hb) hok ht
  obtain ⟨f, hx, hxm⟩ := takeXformStage_eq (State.reopened_canTake hm hs he) hv hl
  have hpay : (s.reopened h.ctx.toNat).payload h = s.payload h := State.payload_congr (by simp) rfl rfl
  rw [hpay] at hxm
  have hrun : State.runMail (.xformStage h) = takeXformStage h := rfl
  have hruns : ((((s.reopened h.ctx.toNat).taken h 0x0501).fetched h).stage 0x0501 f).Runs h 0x0501 := by
    simp [State.Runs, State.taken]
  have hdone : (takeXformStage h (s.reopened h.ctx.toNat)).Done h 0x0501 [] := hx ▸ hruns.finish_ended ..
  dsimp only
  rw [State.resumeStaging_of_some hd, hrun]
  refine ⟨?_, hdone.congr (by simp) (by simp) (by simp) (by simp), ?_, ?_, ?_⟩
  · exact (State.StagingStep.of_setCtx _).trans ((State.take_stagingStep (.inl trivial) fun _ => .stage).after.trans (.of_setCtx _))
  · simp [hx, State.done_deferred, State.taken]
  · simp [hx, State.taken]
  · simp [hx, hxm]

/-! ## MB_ABORT -/

/-- An MB_ABORT of a command that is abortable now ends DONE, with what the abort has left (R548). -/
theorem execMbAbort_of_abortRun {h : Hdr} {context seq : BitVec 8} {c : RunCmd} {s s1 : State} (ha : s.accepts h [.c] = true)
    (hp : h.plen = 0) (hc : ((s.taken h 0x0107).ctx context.toNat).cur = some c) (hs : c.seq = seq)
    (hr : (s.taken h 0x0107).abortRun context.toNat c.opcode = some s1) :
    exec (.mbAbort h context seq) s = .next (s1.done h.ctx.toNat []).settle := by
  have ht : takeMbAbort h context seq s = s1.done h.ctx.toNat [] := by
    unfold takeMbAbort
    rw [State.take_of_accepts ha (by simp [hp]), State.fetched_of_empty hp]
    simp only [hc, hs, beq_self_eq_true, if_true, hr]
    rfl
  exact congrArg (fun t : State => t.out) ht

/-- Nothing completes when the lock of an apply goes for which nothing has waited (R24). -/
theorem State.unlocked_of_lockFree {s : State} (h : s.lockFree) : s.unlocked = s := by
  obtain ⟨hshd, haln, hchain⟩ := h
  simp [State.unlocked, hshd, haln, State.lswResume, hchain]

/-- A SYNC_APPLY that is dropped unannounced ends in its context, and stages and applies nothing (R561). -/
theorem State.dropApply_of_lockFree {code n : Nat} {a : PendingApply} {s : State} (h : s.lockFree) (ha : s.mode.apply = some a)
    (hn : a.ctx = some n) :
    ∃ m : ModeUnit, m.apply = none ∧ s.dropApply code = ({ s with mode := m } : State).failWith n code := by
  unfold State.dropApply
  simp only [ha, hn]
  refine ⟨_, ?_, by rw [State.unlocked_of_lockFree]; exact h⟩
  rfl

/-- A command that ends leaves its context free. -/
theorem State.finish_cur (n : Nat) (st : OpState) (code : Nat) (data : List Byte) (s : State) :
    ((s.finish n st code data []).ctx n).cur = none := by
  obtain ⟨hc, e⟩ | ⟨f, e, hf⟩ := s.finish_cases n st code data
  · rw [e, hc]
  · rw [e, State.ctx_setCtx_self, (hf _).1]

/-- The end of a command leaves the other contexts alone. -/
theorem State.finish_ctx_ne {n k : Nat} (st : OpState) (code : Nat) (data : List Byte) (s : State) (hk : k ≠ n) :
    (s.finish n st code data []).ctx k = s.ctx k :=
  (State.StagingStep.of_finish (r := True) st code data).ctx_ne hk

/-- Settling leaves a pending apply alone. -/
@[simp] theorem State.settle_apply (s : State) : s.settle.mode.apply = s.mode.apply := by
  obtain ⟨_, _, _, _, _, _, _, _, e⟩ := s.settle_signals; rw [e]

/-- The SYNC_APPLY of another context, aborted before it is announced (R548, R561). -/
theorem mbAbort_syncApply {h : Hdr} {context seq : BitVec 8} {c : RunCmd} {a : PendingApply} {s : State} (ha : s.accepts h [.c] = true)
    (hp : h.plen = 0) (hne : context ≠ h.ctx) (hc : (s.ctx context.toNat).cur = some c) (hs : c.seq = seq) (ho : c.opcode = 0x0102)
    (hap : s.mode.apply = some a) (hctx : a.ctx = some context.toNat) (hann : a.announced = false) (hl : s.lockFree) :
    ∃ t, exec (.mbAbort h context seq) s = .next t ∧ t.Done h 0x0107 [] ∧ t.mode.apply = none ∧
      (t.ctx context.toNat).cur = none ∧ t.active = s.active ∧ t.shadow = s.shadow ∧ t.staged = s.staged := by
  have hk : context.toNat ≠ h.ctx.toNat := fun e => hne (BitVec.eq_of_toNat_eq e)
  obtain ⟨m, hm, hdrop⟩ := State.dropApply_of_lockFree (s := s.taken h 0x0107) (code := cAborted) hl hap hctx
  have hrun : (s.taken h 0x0107).abortRun context.toNat c.opcode = some ((s.taken h 0x0107).dropApply cAborted) := by
    have happ : (s.taken h 0x0107).mode.apply = some a := hap
    simp [State.abortRun, ho, happ, hctx, hann]
  have hcur : ((s.taken h 0x0107).ctx context.toNat).cur = some c := (congrArg Ctx.cur (State.begun_ctx_ne h _ _ hk)).trans hc
  refine ⟨_, execMbAbort_of_abortRun ha hp hcur hs hrun, ?_, ?_, ?_, ?_, ?_, ?_⟩
  · have hruns : ((s.taken h 0x0107).dropApply cAborted).Runs h 0x0107 := by
      rw [hdrop]
      exact (congrArg Ctx.cur (State.finish_ctx_ne _ _ _ _ hk.symm)).trans (s.taken_runs h 0x0107)
    exact (hruns.finish_ended ..).settle
  · simp [hdrop, hm]
  · rw [State.settle_ctx, State.done, State.finish_ctx_ne _ _ _ _ hk, hdrop]
    exact State.finish_cur ..
  · simp [hdrop]
  · simp [hdrop]
  · simp [hdrop]

/-- Settles O5. A staging waits where its table is locked; the sweep executes it again on a reopened context; MB_ABORT ends a command
that is abortable, and drops an unannounced apply. -/
theorem waitingAndAbortedCommandsBehave : Obligations.WaitingAndAbortedCommandsBehave := by
  refine ⟨fun h s ha hp hl => xformStage_waits ha hp hl, ?_, fun h context seq s ha hp => ⟨?_, ?_⟩⟩
  · intro tm h c s hm hs hd _ he hother hq hr hf hp hb hok ht hl h0 h1
    obtain ⟨hstep, hdone, hdef, hkeys, hx⟩ :=
      resumeStaging_xformStage (s := s.atTime tm) hd hm hs he hr hf hp hb hok ht hl
    refine ⟨_, execMbSweep_of_one hm hs h.ctx.isLt hother hq h0 h1 hstep, hdone.settle, by simpa using hdef, by simpa using hkeys, ?_, ?_⟩
    · rw [State.settle_active]; exact hstep.active
    · rw [State.settle_shadow]; exact hx
  · intro c s1 hc hs hr hcur
    have hruns : s1.Runs h 0x0107 := hcur.trans (s.taken_runs h 0x0107)
    exact ⟨_, execMbAbort_of_abortRun ha hp hc hs hr, (hruns.finish_ended ..).settle⟩
  · intro c a hne hc hs ho hap hctx hann hl
    exact mbAbort_syncApply ha hp hne hc hs ho hap hctx hann hl

end Sys2Proof.Machine
end

section
/-! PROOFS. The events of the illumination controller (R350 to R371). -/

namespace Sys2Proof.Machine

/-! ## Rows and chains of the illumination unit -/

@[simp] theorem State.atTime_row (tm w : Nat) (s : State) : (s.atTime tm).row w = s.row w := rfl

@[simp] theorem State.atTime_chain (tm c : Nat) (s : State) : (s.atTime tm).chain c = s.chain c := rfl

@[simp] theorem State.atTime_mayLight (tm w : Nat) (s : State) : (s.atTime tm).mayLight w = s.mayLight w := rfl

@[simp] theorem State.settle_row (w : Nat) (s : State) : s.settle.row w = s.row w := by
  simp only [State.row, State.settle_ilm]

@[simp] theorem State.pulseIf_row (b : Bool) (i w : Nat) (s : State) : (s.pulseIf b i).row w = s.row w := by
  simp only [State.row, State.pulseIf_ilm]

@[simp] theorem State.settle_chain (c : Nat) (s : State) : s.settle.chain c = s.chain c := by
  simp only [State.chain, State.settle_ilm]

@[simp] theorem State.pulse_chain (i c : Nat) (s : State) : (s.pulse i).chain c = s.chain c := by
  simp only [State.chain, State.pulse_ilm]

@[simp] theorem State.done_chain (n c : Nat) (data : List Byte) (s : State) : (s.done n data).chain c = s.chain c := by
  simp only [State.chain, State.done_ilm]

@[simp] theorem State.chain_setChain_self (c : Nat) (f : ChainUnit → ChainUnit) (s : State) :
    (s.setChain c f).chain c = f (s.chain c) := by
  unfold State.setChain State.chain
  split <;> rfl

theorem State.chain_setChain_ne {c k : Nat} (hc : c < 2) (hk : k < 2) (hne : k ≠ c) (f : ChainUnit → ChainUnit) (s : State) :
    (s.setChain k f).chain c = s.chain c := by
  obtain ⟨rfl, rfl⟩ | ⟨rfl, rfl⟩ : c = 0 ∧ k = 1 ∨ c = 1 ∧ k = 0 := by omega
  · rfl
  · rfl

/-- A pass over other rows leaves a row alone. -/
theorem State.row_foldl_setRow_of_notMem (g : Nat → State → RowUnit → RowUnit) {l : List Nat} {w : Nat} (hw : w ∉ l) (s : State) :
    (l.foldl (fun (s : State) v => s.setRow v (g v s)) s).row w = s.row w := by
  induction l generalizing s with
  | nil => rfl
  | cons v l ih =>
    obtain ⟨hv, hl⟩ := not_or.1 (List.mem_cons.not.1 hw)
    rw [List.foldl_cons, ih hl, State.row_setRow_ne _ _ hv]

/-- A pass over rows, each of which is changed by what the pass leaves alone. -/
theorem State.row_foldl_setRow {g : Nat → State → RowUnit → RowUnit}
    (hg : ∀ (s : State) (v : Nat) (f : RowUnit → RowUnit) (w : Nat), g w (s.setRow v f) = g w s) {l : List Nat} {w : Nat}
    (hl : l.Nodup) (hw : w ∈ l) (s : State) :
    (l.foldl (fun (s : State) v => s.setRow v (g v s)) s).row w = g w s (s.row w) := by
  induction l generalizing s with
  | nil => cases hw
  | cons v l ih =>
    obtain ⟨hv, hl⟩ := List.nodup_cons.1 hl
    rw [List.foldl_cons]
    by_cases e : w = v
    · subst e
      rw [State.row_foldl_setRow_of_notMem g hv, State.row_setRow_self]
    · rw [ih hl ((List.mem_cons.1 hw).resolve_left e), hg, State.row_setRow_ne _ _ e]

/-! ## Latches -/

/-- Settling clears no latch (R638). -/
theorem State.settle_latch_mono {i : Nat} {s : State} (h : s.ev.latch.getLsbD i = true) : s.settle.ev.latch.getLsbD i = true := by
  unfold State.settle
  generalize s.levels = l
  generalize (s.mode.mode == .boot) = b
  induction l generalizing s with
  | nil => exact h
  | cons x l ih => exact ih (State.level_latch_mono _ _ _ _ h)

/-- From BOOT exit on a pulse latches its source (R637, R639). -/
theorem State.pulse_latch {i : Nat} {s : State} (hi : i < 256) (hm : s.mode.mode ≠ .boot) : (s.pulse i).ev.latch.getLsbD i = true := by
  have hb : (s.mode.mode == .boot) = false := by simpa using hm
  simp [State.pulse, hb, State.latchSet_latch, hi]

/-! ## Slots (R350, R351, R356, R369) -/

section
variable {tm : Nat} {row : BitVec 2} {s : State}

/-- A row that may light regulates for no slot and whose last slot is over looks for its next one. -/
theorem ilmRegStart_guard (hl : s.mayLight row.toNat = true) (hr : (s.row row.toNat).run = none)
    (ht : (s.row row.toNat).regTo ≤ max s.now tm) :
    (!(s.atTime tm).mayLight row.toNat || ((s.atTime tm).row row.toNat).run.isSome ||
      decide ((s.atTime tm).now < ((s.atTime tm).row row.toNat).regTo)) = false := by
  have : ¬ (s.atTime tm).now < (s.row row.toNat).regTo := Nat.not_lt.2 ht
  simp [hl, hr, this]

theorem exec_ilmRegStart_of_due {r : LineRec} {i : Nat} (hl : s.mayLight row.toNat = true) (hr : (s.row row.toNat).run = none)
    (ht : (s.row row.toNat).regTo ≤ max s.now tm) (hd : (s.atTime tm).dueSlot row.toNat = some (r, i))
    (hs : 4 * r.trigAt + r.slotAt i ≤ 4 * max s.now tm + 4 * (rowCfg r.tabs row.toNat).regLead) :
    exec (.ilmRegStart tm row) s = .next ((s.atTime tm).regulate row.toNat r.tag.seq i (r.slotDrive i)).settle := by
  have hlead : ¬ 4 * (s.atTime tm).now + 4 * (rowCfg r.tabs row.toNat).regLead < 4 * r.trigAt + r.slotAt i := Nat.not_lt.2 hs
  show execIlmRegStart tm row s = _
  unfold execIlmRegStart
  simp only [ilmRegStart_guard hl hr ht, hd, hlead, Bool.false_eq_true, if_false, State.out_eq]

theorem exec_ilmRegStart_of_next {q : BitVec 32} {i : Nat} (hl : s.mayLight row.toNat = true) (hr : (s.row row.toNat).run = none)
    (ht : (s.row row.toNat).regTo ≤ max s.now tm) (hd : (s.atTime tm).dueSlot row.toNat = none)
    (hn : s.nextSlot row.toNat = some (q, i)) :
    exec (.ilmRegStart tm row) s = .next ((s.atTime tm).regulate row.toNat q i (s.slotDrive i)).settle := by
  have hn' : (s.atTime tm).nextSlot row.toNat = some (q, i) := hn
  show execIlmRegStart tm row s = _
  unfold execIlmRegStart
  simp only [ilmRegStart_guard hl hr ht, hd, hn', Bool.false_eq_true, if_false, State.out_eq]
  rfl

@[simp] theorem State.regulate_run (w : Nat) (q : BitVec 32) (i : Nat) (d : Nat × Nat) (s : State) :
    ((s.regulate w q i d).row w).run = some { seq := q, slot := i, aCode := d.1, on := d.2, lit := false, fallAt := 0, endAt := 0 } := by
  simp [State.regulate]

theorem lstbRise_lights {x : SlotRun} {r : LineRec} {i rise : Nat} (hx : (s.row row.toNat).run = some x) (hlit : x.lit = false)
    (hl : s.mayLight row.toNat = true) (hd : (s.atTime tm).dueSlot row.toNat = some (r, i))
    (hrise : rise = r.slotAt i + 5 * (((r.tabs.strobe.slots.getD i Slot.reset).width.toNat - (r.slotDrive i).2) / 2))
    (ht : 4 * r.trigAt + rise ≤ 4 * max s.now tm + 3) :
    ∃ t, exec (.lstbRise tm row) s = .next t ∧ (t.row row.toNat).run = some
      { seq := r.tag.seq, slot := i, aCode := (r.slotDrive i).1, on := (r.slotDrive i).2, lit := true,
        fallAt := r.trigAt + (rise + 5 * (r.slotDrive i).2) / 4, endAt := r.trigAt + r.slotEnd i / 4 } := by
  subst hrise
  replace ht : 4 * r.trigAt + (r.slotAt i + 5 * (((r.tabs.strobe.slots.getD i Slot.reset).width.toNat - (r.slotDrive i).2) / 2)) ≤
      4 * (s.atTime tm).now + 3 := ht
  have he : exec (.lstbRise tm row) s = execLstbRise tm row s := rfl
  unfold execLstbRise at he
  simp only [State.atTime_row, hx, hd, State.atTime_mayLight, hl, hlit, Bool.not_false, Bool.and_self, Bool.true_and,
    State.out_eq] at he
  rw [if_pos (decide_eq_true ht)] at he
  exact ⟨_, he, by simp⟩

theorem lstbFall_ends {x : SlotRun} {mean : Nat} (hx : (s.row row.toNat).run = some x) (hlit : x.lit = true)
    (ht : x.fallAt ≤ max s.now tm) :
    ∃ t, exec (.lstbFall tm row mean) s = .next t ∧ (t.row row.toNat).run = none ∧
      (t.row row.toNat).lastSlot = some (x.seq, x.slot) ∧
      (x.aCode < 10 * ((mean : Int) - x.aCode).natAbs → (t.row row.toNat).curSeq = some x.seq) ∧
      (10 * ((mean : Int) - x.aCode).natAbs ≤ x.aCode → (t.row row.toNat).curSeq = (s.row row.toNat).curSeq) := by
  have ht' : ¬ (s.atTime tm).now < x.fallAt := Nat.not_lt.2 ht
  have habs : (if mean < x.aCode then x.aCode - mean else mean - x.aCode) = ((mean : Int) - x.aCode).natAbs := by
    split <;> omega
  have he : exec (.lstbFall tm row mean) s = execLstbFall tm row mean s := rfl
  unfold execLstbFall at he
  simp only [State.atTime_row, hx, hlit, ht', Bool.not_true, decide_false, Bool.or_self, Bool.false_eq_true, if_false, habs,
    State.out_eq] at he
  exact ⟨_, he, by simp, by simp, fun h => by simp [h], fun h => by simp [Nat.not_lt.2 h]⟩

/-- A report beyond a limit latches the row's fault (R369). -/
theorem ilmOvOcDetect_faults {vfb current : Nat} (h : (rowCfg s.active row.toNat).vOv < vfb ∨ 1280 < current) :
    ∃ t, exec (.ilmOvOcDetect tm row vfb current) s = .next t ∧ (t.row row.toNat).fault = true ∧ (t.row row.toNat).ovNow = true ∧
      (t.row row.toNat).run = none ∧ (s.mode.mode ≠ .boot → (s.row row.toNat).fault = false → t.ev.latch.getLsbD 149 = true) := by
  have hbad : (decide ((rowCfg (s.atTime tm).active row.toNat).vOv < vfb) || decide (1280 < current)) = true := by
    rwa [Bool.or_eq_true, decide_eq_true_eq, decide_eq_true_eq]
  have he : exec (.ilmOvOcDetect tm row vfb current) s = execIlmOvOcDetect tm row vfb current s := rfl
  unfold execIlmOvOcDetect at he
  simp only [State.atTime_row, hbad, Bool.not_true, Bool.false_eq_true, if_false, State.out_eq] at he
  refine ⟨_, he, by simp, by simp, by simp, fun hm hf => State.settle_latch_mono ?_⟩
  simp only [hf, State.pulseIf, Bool.not_false, if_true]
  exact State.pulse_latch (by decide) hm

/-- A report within both limits ends the condition and leaves the fault latched (R369, R574). -/
theorem ilmOvOcDetect_clears {vfb current : Nat} (hv : vfb ≤ (rowCfg s.active row.toNat).vOv) (hc : current ≤ 1280) :
    ∃ t, exec (.ilmOvOcDetect tm row vfb current) s = .next t ∧ (t.row row.toNat).ovNow = false ∧
      (t.row row.toNat).fault = (s.row row.toNat).fault := by
  have hbad : (decide ((rowCfg (s.atTime tm).active row.toNat).vOv < vfb) || decide (1280 < current)) = false := by
    simp [Nat.not_lt.2 hv, Nat.not_lt.2 hc]
  have he : exec (.ilmOvOcDetect tm row vfb current) s = execIlmOvOcDetect tm row vfb current s := rfl
  unfold execIlmOvOcDetect at he
  simp only [hbad, Bool.not_false, if_true, State.out_eq] at he
  exact ⟨_, he, by simp, by simp⟩

end

/-! ## Compensation and power (R353, R370) -/

/-- What a compensation update makes of a row (R353). -/
def State.compensated (w : Nat) (s : State) (r : RowUnit) : RowUnit :=
  if (s.rowTemps w).isEmpty then { r with held := (rowCfg s.active w).en }
  else { r with held := false, nextK := tcompAt (meanOf (s.rowTemps w))
                  ((sget IlmTcomp.reset w s.active.tcomp).temps.zip (sget IlmTcomp.reset w s.active.tcomp).ks) }

theorem execIlmTcompUpdate_eq (tm : Nat) (s : State) : execIlmTcompUpdate tm s =
    .next ((List.range 4).foldl (fun (s : State) w => s.setRow w (State.compensated w s)) (s.atTime tm)).settle := by
  refine congrArg (fun f => Host.Outcome.next ((List.range 4).foldl f (s.atTime tm)).settle) ?_
  funext s w
  unfold State.compensated
  dsimp only
  split <;> rfl

theorem ilmTcompUpdate_compensates (tm : Nat) (s : State) : ∃ t, exec (.ilmTcompUpdate tm) s = .next t ∧ ∀ w, w < 4 →
    (s.rowTemps w = [] → (t.row w).held = (rowCfg s.active w).en ∧ (t.row w).nextK = (s.row w).nextK) ∧
    (s.rowTemps w ≠ [] → (t.row w).held = false ∧ (t.row w).nextK = tcompAt (meanOf (s.rowTemps w))
      ((sget IlmTcomp.reset w s.active.tcomp).temps.zip (sget IlmTcomp.reset w s.active.tcomp).ks)) := by
  refine ⟨_, execIlmTcompUpdate_eq tm s, fun w hw => ?_⟩
  have hrow := State.row_foldl_setRow (g := State.compensated) (fun _ _ _ _ => rfl) List.nodup_range (List.mem_range.2 hw) (s.atTime tm)
  have hcomp : State.compensated w (s.atTime tm) = State.compensated w s := rfl
  rw [State.settle_row, hrow, hcomp, State.atTime_row]
  constructor
  · intro h
    simp [State.compensated, h]
  · intro h
    simp [State.compensated, h]

/-- Each row reports the power that its two sets give at the time of the update (R370). -/
theorem ilmPowerUpdate_power (tm : Nat) (s : State) :
    ∃ t, exec (.ilmPowerUpdate tm) s = .next t ∧ ∀ w, w < 4 → (t.row w).power = (s.atTime tm).rowPower w := by
  refine ⟨_, rfl, fun w hw => ?_⟩
  have hrow := State.row_foldl_setRow (g := fun w s r => { r with power := s.rowPower w }) (fun _ _ _ _ => rfl) List.nodup_range
    (List.mem_range.2 hw) (s.atTime tm)
  rw [State.settle_row, hrow]

/-! ## Chains (R24, R359 to R363) -/

@[simp] theorem State.pulseIf_chain (b : Bool) (i c : Nat) (s : State) : (s.pulseIf b i).chain c = s.chain c := by
  simp only [State.chain, State.pulseIf_ilm]

theorem State.setChain_driven {f : ChainUnit → ChainUnit} (hf : ∀ u, (f u).driven = u.driven) (c k : Nat) (s : State) :
    ((s.setChain c f).chain k).driven = (s.chain k).driven := by
  unfold State.setChain State.chain
  split <;> split <;> simp [hf]

/-- A failed lamp may put a reserve lamp in wait; what the chain is driven with stays until the next latch (R364, R365). -/
theorem State.lampFailed_driven (c : Nat) (x : Nat × Nat × Nat) (seq : BitVec 32) (k : Nat) (s : State) :
    ((s.lampFailed c x seq).chain k).driven = (s.chain k).driven := by
  unfold State.lampFailed
  lift_lets
  extract_lets _ _ _ _ _ s1
  have hs1 : (s1.chain k).driven = (s.chain k).driven := by
    rw [State.pulseIf_chain, State.pulse_chain]; rfl
  split
  · refine (State.setChain_driven ?_ c k s1).trans hs1
    exact fun _ => rfl
  · exact hs1

theorem State.foldl_driven {α : Type} {f : State → α → State} {k : Nat}
    (hf : ∀ s x, ((f s x).chain k).driven = (s.chain k).driven) (l : List α) (s : State) :
    ((l.foldl f s).chain k).driven = (s.chain k).driven := by
  induction l generalizing s with
  | nil => rfl
  | cons x l ih => rw [List.foldl_cons, ih, hf]

/-- A latch drives the chain with its bits; a return that is all ones is an error (R359, R362). -/
theorem lswFrameLatch_drives {tm : Nat} {chain : BitVec 1} {ret : List Bool} {s : State}
    (hn : chainLen s.board.member.ports s.active chain.toNat ≠ 0) (hhold : (s.chain chain.toNat).hold = false)
    (hst : (s.chain chain.toNat).staging = none) (hb : s.mode.mode ≠ .boot) (hs : s.mode.mode ≠ .standby)
    (hdark : (s.atTime tm).darkNow = true) :
    ∃ t, exec (.lswFrameLatch tm chain ret) s = .next t ∧ (t.chain chain.toNat).driven = s.chainBits chain.toNat ∧
      ((padTo (chainLen s.board.member.ports s.active chain.toNat) false ret).all id = true →
        (t.chain chain.toNat).err = true ∧ t.ev.latch.getLsbD 146 = true) := by
  have he : exec (.lswFrameLatch tm chain ret) s = execLswFrameLatch tm chain ret s := rfl
  unfold execLswFrameLatch at he
  extract_lets s1 c ch n _ s2 _ s3 st at he
  have hguard : (decide (n = 0) || ch.hold || ch.staging.isSome || s1.mode.mode == .boot || s1.mode.mode == .standby || !s1.darkNow) =
      false := by
    have hn' : n ≠ 0 := hn
    have hhold' : ch.hold = false := hhold
    have hst' : ch.staging = none := hst
    have hb' : s1.mode.mode ≠ .boot := hb
    have hs' : s1.mode.mode ≠ .standby := hs
    have hdark' : s1.darkNow = true := hdark
    simp [hn', hhold', hst', hb', hs', hdark']
  rw [hguard, if_neg Bool.false_ne_true] at he
  have hs3 : (s3.chain c).driven = s.chainBits c ∧ s3.mode = s.mode := by
    have h2 : (s2.chain c).driven = s.chainBits c := congrArg ChainUnit.driven (State.chain_setChain_self chain.toNat _ s1)
    have h3 : s2.mode = s.mode := State.setChain_mode _ _ _
    unfold s3
    split
    · exact ⟨h2, h3⟩
    · exact ⟨h2, h3⟩
  split at he
  · refine ⟨_, he, ?_, fun _ => ⟨?_, State.settle_latch_mono (State.pulse_latch (by decide) ?_)⟩⟩
    · simp [c, hs3]
    · simp [c]
    · simp [hs3, hb]
  · rename_i hne
    refine ⟨_, he, ?_, fun h => absurd h hne⟩
    rw [State.settle_chain, State.foldl_driven (fun s x => ?_), hs3.1]
    split
    · exact State.lampFailed_driven ..
    · rfl

/-- `t` agrees with `s` on what concerns chain `c`, and no command has begun to run. -/
def State.SparesChain (c : Nat) (s t : State) : Prop :=
  t.chain c = s.chain c ∧ sget [] c t.shadow.lsw = sget [] c s.shadow.lsw ∧ t.active = s.active ∧ t.uzs = s.uzs ∧ t.mode = s.mode ∧
    ∀ n, (s.ctx n).cur = none → (t.ctx n).cur = none

theorem State.SparesChain.refl (c : Nat) (s : State) : s.SparesChain c s := ⟨rfl, rfl, rfl, rfl, rfl, fun _ h => h⟩

theorem State.SparesChain.locked {c : Nat} {s t : State} (h : s.SparesChain c t) (ops : List Nat) : t.locked ops = s.locked ops := by
  obtain ⟨-, -, -, hu, hm, -⟩ := h
  exact State.locked_congr hu hm

theorem State.done_cur (n : Nat) (data : List Byte) (s : State) : ((s.done n data).ctx n).cur = none := State.finish_cur ..

/-- A context that runs no command runs none after another command has ended. -/
theorem State.done_cur_of_none {k : Nat} (n : Nat) (data : List Byte) {s : State} (h : (s.ctx k).cur = none) :
    ((s.done n data).ctx k).cur = none := by
  by_cases e : k = n
  · subst e; exact State.done_cur ..
  · rw [State.done, State.finish_ctx_ne _ _ _ _ e, h]

/-- What the end of an LSW_STAGE leaves before its command completes: nothing is being shifted on the chain, and its shadow pattern is
`pat` (R358, R363). -/
def State.lswSettled (k : Nat) (hold : Bool) (pat : List Bool) (sg : Staged) (s : State) : State :=
  { s.setChain k (fun x => { x with staging := none, shifted := false, hold := hold }) with
      shadow := { s.shadow with lsw := sset [] k pat s.shadow.lsw }, staged := sg }

section
variable (k : Nat) (hold : Bool) (pat : List Bool) (sg : Staged) (s : State)

@[simp] theorem State.lswSettled_chain : (s.lswSettled k hold pat sg).chain k =
    { s.chain k with staging := none, shifted := false, hold := hold } := State.chain_setChain_self ..

@[simp] theorem State.lswSettled_lsw : (s.lswSettled k hold pat sg).shadow.lsw = sset [] k pat s.shadow.lsw := rfl

@[simp] theorem State.lswSettled_active : (s.lswSettled k hold pat sg).active = s.active := State.setChain_active ..

@[simp] theorem State.lswSettled_uzs : (s.lswSettled k hold pat sg).uzs = s.uzs := State.setChain_uzs ..

@[simp] theorem State.lswSettled_mode : (s.lswSettled k hold pat sg).mode = s.mode := State.setChain_mode ..

@[simp] theorem State.lswSettled_ctx (n : Nat) : (s.lswSettled k hold pat sg).ctx n = s.ctx n :=
  congrArg (fun x : HostUnit => sget Ctx.reset n x.ctxs) (State.setChain_host ..)

end

/-- A pattern is staged, a release takes back the one in force. -/
theorem State.lswDone_eq {k n : Nat} {release : Bool} {s : State} (h : (s.chain k).staging = some (n, release)) :
    ∃ sg, s.lswDone k =
      (s.lswSettled k (!release) (if release then sget [] k s.active.lsw else (s.chain k).bits) sg).done n [] := by
  unfold State.lswDone
  cases release with
  | false =>
    simp only [h]
    exact ⟨_, by simp [State.lswSettled, State.stage]; rfl⟩
  | true =>
    simp only [h]
    split
    · exact ⟨_, by simp [State.lswSettled]; rfl⟩
    · exact ⟨_, by simp [State.lswSettled]; rfl⟩

/-- A pattern that completes concerns its own chain (R363). -/
theorem State.lswDone_spares {c k : Nat} (hc : c < 2) (hk : k < 2) (hne : k ≠ c) (s : State) : s.SparesChain c (s.lswDone k) := by
  cases hst : (s.chain k).staging with
  | none =>
    have : s.lswDone k = s := by unfold State.lswDone; rw [hst]
    rw [this]; exact .refl ..
  | some x =>
    obtain ⟨sg, e⟩ := State.lswDone_eq hst
    rw [e]
    refine ⟨?_, ?_, by simp, by simp, by simp, fun n h => State.done_cur_of_none _ _ (by simpa using h)⟩
    · rw [State.done_chain]
      exact State.chain_setChain_ne hc hk hne _ s
    · simp [sget_sset_ne _ _ _ hne.symm]

/-- One chain's turn when patterns that have been shifted complete. -/
def State.lswTurn (s : State) (c : Nat) : State := if (s.chain c).shifted && !s.locked [0x0803] then s.lswDone c else s

theorem State.lswResume_eq (s : State) : s.lswResume = (s.lswTurn 0).lswTurn 1 := rfl

theorem State.lswTurn_of_locked {c : Nat} {s : State} (h : s.locked [0x0803] = true) : s.lswTurn c = s := by
  simp [State.lswTurn, h]

theorem State.lswTurn_of_free {c : Nat} {s : State} (h : s.locked [0x0803] = false) (hs : (s.chain c).shifted = true) :
    s.lswTurn c = s.lswDone c := by
  simp [State.lswTurn, h, hs]

theorem State.lswTurn_spares {c k : Nat} (hc : c < 2) (hk : k < 2) (hne : k ≠ c) (s : State) : s.SparesChain c (s.lswTurn k) := by
  unfold State.lswTurn
  split
  · exact State.lswDone_spares hc hk hne s
  · exact .refl ..

/-- What a shifted chain's pattern does under no lock is not disturbed by the other chain, before or after. -/
theorem State.lswResume_of_free {c : BitVec 1} {s : State} (h : s.locked [0x0803] = false) (hs : (s.chain c.toNat).shifted = true) :
    ∃ v, s.SparesChain c.toNat v ∧ (v.lswDone c.toNat).SparesChain c.toNat s.lswResume := by
  rw [State.lswResume_eq]
  obtain hc | hc : c.toNat = 0 ∨ c.toNat = 1 := by have := c.isLt; omega
  · rw [hc] at hs ⊢
    rw [State.lswTurn_of_free h hs]
    exact ⟨s, .refl .., State.lswTurn_spares (by decide) (by decide) (by decide) _⟩
  · rw [hc] at hs ⊢
    have hv : s.SparesChain 1 (s.lswTurn 0) := State.lswTurn_spares (by decide) (by decide) (by decide) s
    rw [State.lswTurn_of_free ((hv.locked _).trans h) (hv.1 ▸ hs)]
    exact ⟨_, hv, .refl ..⟩

/-- LSW_SHIFT_DONE on a chain whose pattern is being shifted (R363). -/
theorem exec_lswShiftDone {tm : Nat} {chain : BitVec 1} {x : Nat × Bool} {s : State} (hx : (s.chain chain.toNat).staging = some x) :
    exec (.lswShiftDone tm chain) s =
      .next ((s.atTime tm).setChain chain.toNat (fun u => { u with shifted := true })).lswResume.settle := by
  show execLswShiftDone tm chain s = _
  unfold execLswShiftDone
  simp only [State.atTime_chain, hx, Option.isSome_some, if_true, State.out_eq]

/-- With its table free, the pattern is staged or the one in force taken back, and the command completes (R358, R363). -/
theorem lswShiftDone_completes {tm n : Nat} {chain : BitVec 1} {release : Bool} {s : State} (hl : s.locked [0x0803] = false)
    (hx : (s.chain chain.toNat).staging = some (n, release)) :
    ∃ t, exec (.lswShiftDone tm chain) s = .next t ∧ (t.chain chain.toNat).staging = none ∧
      (t.chain chain.toNat).hold = !release ∧
      sget [] chain.toNat t.shadow.lsw =
        (if release then sget [] chain.toNat s.active.lsw else (s.chain chain.toNat).bits) ∧ (t.ctx n).cur = none := by
  refine ⟨_, exec_lswShiftDone hx, ?_⟩
  generalize hu : (s.atTime tm).setChain chain.toNat (fun u => { u with shifted := true }) = u
  have huc : u.chain chain.toNat = { s.chain chain.toNat with shifted := true } := by simp [← hu]
  have hua : u.active = s.active := by simp [← hu]
  have hul : u.locked [0x0803] = false := (State.locked_congr (by simp [← hu]) (by simp [← hu])).trans hl
  obtain ⟨v, ⟨hvc, -, hva, -⟩, htc, htl, -, -, -, htn⟩ := State.lswResume_of_free (c := chain) hul (by rw [huc])
  obtain ⟨sg, e⟩ := State.lswDone_eq (k := chain.toNat) (n := n) (release := release) (s := v) (by rw [hvc, huc]; exact hx)
  rw [e] at htc htl htn
  refine ⟨?_, ?_, ?_, ?_⟩
  · simp [htc]
  · simp [htc]
  · simp [htl, hvc, hva, huc, hua]
  · rw [State.settle_ctx]
    exact htn n (State.done_cur ..)

/-- Under the lock of an apply the pattern waits, shifted (R24). -/
theorem lswShiftDone_waits {tm : Nat} {chain : BitVec 1} {x : Nat × Bool} {s : State} (hl : s.locked [0x0803] = true)
    (hx : (s.chain chain.toNat).staging = some x) :
    ∃ t, exec (.lswShiftDone tm chain) s = .next t ∧ (t.chain chain.toNat).staging = some x ∧
      (t.chain chain.toNat).shifted = true ∧ t.shadow.lsw = s.shadow.lsw := by
  refine ⟨_, exec_lswShiftDone hx, ?_⟩
  have hul : ((s.atTime tm).setChain chain.toNat (fun u => { u with shifted := true })).locked [0x0803] = true :=
    (State.locked_congr (by simp) (by simp)).trans hl
  rw [State.lswResume_eq, State.lswTurn_of_locked hul, State.lswTurn_of_locked hul]
  exact ⟨by simp [hx], by simp, by simp⟩

/-! ## Lamp test (R368) -/

/-- A pulse that is not the row's last is counted and its current summed. -/
theorem lampTestPulse_counts {tm : Nat} {row : BitVec 2} {current voltage : Nat} {x : LampTest} {s : State} (hx : s.ilm.test = some x)
    (hrow : x.rows.getLsbD row.toNat = true) (hn : x.n.length = 4) (hi : x.iSum.length = 4)
    (hlines : x.n.getD row.toNat 0 + 1 < x.lines) (hseq : s.lt.seqValid = true) (hl : s.mayLight row.toNat = true)
    (hlast : x.last.getD row.toNat none ≠ some s.lt.seq) (hgap : x.when_ ≠ 0 ∨ s.inGap = true) (hfits : s.pulseFits x.ns = true) :
    ∃ t x', exec (.lampTestPulse tm row current voltage) s = .next t ∧ t.ilm.test = some x' ∧
      x'.n.getD row.toNat 0 = x.n.getD row.toNat 0 + 1 ∧ x'.iSum.getD row.toNat 0 = x.iSum.getD row.toNat 0 + current := by
  have he : exec (.lampTestPulse tm row current voltage) s = execLampTestPulse tm row current voltage s := rfl
  have hw : row.toNat < 4 := row.isLt
  have hgap' : (x.when_ == 0 && !(s.atTime tm).inGap) = false := by
    have hin : (s.atTime tm).inGap = s.inGap := rfl
    rcases hgap with h | h
    · simp [h]
    · simp [hin, h]
  have hfits' : (s.atTime tm).pulseFits x.ns = true := hfits
  have hmore : ¬ x.lines ≤ x.n.getD row.toNat 0 := by omega
  have hnotlast : ¬ x.n.getD row.toNat 0 + 1 = x.lines := by omega
  have hlast' : (x.last.getD row.toNat none == some s.lt.seq) = false := beq_eq_false_iff_ne.2 hlast
  unfold execLampTestPulse at he
  simp only [State.atTime_ilm, hx, hrow, State.atTime_lt, hseq, State.atTime_mayLight, hl, hlast', hgap', hfits', hmore, hnotlast,
    decide_false, Bool.not_true, Bool.or_self, Bool.false_and, Bool.false_eq_true, if_false, State.out_eq] at he
  refine ⟨_, _, he, by rw [State.settle_ilm], ?_, ?_⟩
  · simp [List.getD_eq_getElem?_getD, hn, hw]
  · simp [List.getD_eq_getElem?_getD, hi, hw]

/-! ## The reports of power and the sets they come from (R370, R415) -/

/-- A row that names one set for voltage and current reports no power: no set has both units. -/
theorem State.rowPower_of_sameSet {w : Nat} (h : Config.rowSet w false = Config.rowSet w true) (s : State) :
    s.rowPower w = if (rowCfg s.active w).en then 0xFFFF else 0 := by
  unfold State.rowPower
  dsimp only
  rw [h]
  cases (rowCfg s.active w).en with
  | false => rfl
  | true =>
    by_cases hu : (s.setCfg (Config.rowSet w true).toNat).unit = 1
    · simp [hu]
    · simp [hu]

/-- A set that has published a value at time 0. -/
def publishedSet : AccSet := { AccSet.reset with at_ := some 0 }

/-- After reset, a row is enabled and the two sets it names have their units and have published at time 0. -/
def poweredRow (w : Nat) : State :=
  let v := (Config.rowSet w false).toNat
  let i := (Config.rowSet w true).toNat
  { State.reset with
      active := { Tables.reset with ilmRow := sset IlmRow.reset w { IlmRow.reset with en := true } [] },
      madc := { Madc.reset with
        sets := sset SetCfg.reset v { SetCfg.reset with unit := 1 } (sset SetCfg.reset i { SetCfg.reset with unit := 2 } []),
        acc := sset AccSet.reset v publishedSet (sset AccSet.reset i publishedSet []) } }

section
variable {w : Nat}

theorem poweredRow_en (tm : Nat) : (rowCfg ((poweredRow w).atTime tm).active w).en = true := by
  simp [poweredRow, rowCfg]

theorem poweredRow_accSet (h : Config.rowSet w false ≠ Config.rowSet w true) (tm : Nat) (b : Bool) :
    ((poweredRow w).atTime tm).accSet (Config.rowSet w b).toNat = publishedSet := by
  have hne : (Config.rowSet w true).toNat ≠ (Config.rowSet w false).toNat := fun e => h (BitVec.eq_of_toNat_eq e).symm
  cases b with
  | false => simp [poweredRow, State.accSet]
  | true => simp [poweredRow, State.accSet, sget_sset_ne _ _ _ hne]

theorem poweredRow_unit (h : Config.rowSet w false ≠ Config.rowSet w true) (tm : Nat) (b : Bool) :
    (((poweredRow w).atTime tm).setCfg (Config.rowSet w b).toNat).unit = if b then 2 else 1 := by
  have hne : (Config.rowSet w true).toNat ≠ (Config.rowSet w false).toNat := fun e => h (BitVec.eq_of_toNat_eq e).symm
  have hlt : (Config.rowSet w b).toNat < 64 := (Config.rowSet w b).isLt
  unfold State.setCfg
  rw [if_pos hlt]
  cases b with
  | false => simp [poweredRow]
  | true => simp [poweredRow, sget_sset_ne _ _ _ hne]

/-- The published values are stale 100 ms later (R415). -/
theorem poweredRow_stale (h : Config.rowSet w false ≠ Config.rowSet w true) (tm : Nat) (b : Bool) :
    ((poweredRow w).atTime tm).stale (Config.rowSet w b).toNat = decide (100000000 < tm) := by
  have hnow : ((poweredRow w).atTime tm).now = tm := Nat.zero_max tm
  unfold State.stale
  rw [poweredRow_accSet h, hnow]
  simp [publishedSet, AccSet.reset, SetAcc.reset]

theorem poweredRow_power (h : Config.rowSet w false ≠ Config.rowSet w true) (tm : Nat) :
    ((poweredRow w).atTime tm).rowPower w = 0xFFFF ↔ 100000000 < tm := by
  unfold State.rowPower
  simp only [poweredRow_en, poweredRow_stale h, poweredRow_unit h]
  by_cases ht : 100000000 < tm
  · simp [ht]
  · have hmin (n : Nat) : min 65534 n ≠ 0xFFFF := by omega
    simp [ht, hmin]

end

/-- What O42 turns on; neither it nor its negation can be proved. Its clause on power compares the report with the power at the time
before the update, where R370 and R415 judge staleness at the update itself. So it fails where a row names two sets, as `poweredRow`
shows, and holds where every row names one set twice; and `Config.rowSet`, which names them, is opaque and has either kind of value as a
model. All else that O42 states holds. -/
theorem illuminationEventsComplete_iff_sameSet :
    Obligations.IlluminationEventsComplete ↔ ∀ w, w < 4 → Config.rowSet w false = Config.rowSet w true := by
  constructor
  · intro h w hw
    by_contra hne
    obtain ⟨-, -, -, -, -, ⟨t, ht, hpow⟩, -⟩ := h 200000000 0 (poweredRow w)
    obtain ⟨t', ht', hpow'⟩ := ilmPowerUpdate_power 200000000 (poweredRow w)
    obtain rfl : t' = t := by simpa [ht'] using ht
    have hold : (poweredRow w).rowPower w ≠ 0xFFFF := fun e => absurd ((poweredRow_power hne 0).1 e) (by decide)
    exact hold (by rw [← hpow w hw, hpow' w hw]; exact (poweredRow_power hne _).2 (by decide))
  · intro h tm row s
    refine ⟨fun hl hr ht => ⟨fun r i hd hs => ?_, fun q i hd hn => ?_⟩, fun x r i rise hx hlit hl hd hrise ht =>
      lstbRise_lights hx hlit hl hd hrise ht, fun x mean hx hlit ht => lstbFall_ends hx hlit ht, fun vfb current =>
      ⟨ilmOvOcDetect_faults, ilmOvOcDetect_clears⟩, ilmTcompUpdate_compensates tm s, ?_, ?_, fun chain n => ⟨?_, ?_, ?_⟩,
      fun current voltage x hx hrow hn hi hlines hseq hl hlast hgap hfits =>
        lampTestPulse_counts hx hrow hn hi hlines hseq hl hlast hgap hfits⟩
    · exact ⟨_, exec_ilmRegStart_of_due hl hr ht hd hs, by simp⟩
    · exact ⟨_, exec_ilmRegStart_of_next hl hr ht hd hn, by simp⟩
    · obtain ⟨t, ht, hpow⟩ := ilmPowerUpdate_power tm s
      refine ⟨t, ht, fun w hw => ?_⟩
      rw [hpow w hw, State.rowPower_of_sameSet (h w hw), State.rowPower_of_sameSet (h w hw), State.atTime_active]
    · exact fun chain ret hn hhold hst hb hs hdark => lswFrameLatch_drives hn hhold hst hb hs hdark
    · exact fun hl hx => by simpa using lswShiftDone_completes (tm := tm) hl hx
    · exact fun hl hx => by simpa using lswShiftDone_completes (tm := tm) hl hx
    · exact fun release hl hx => lswShiftDone_waits hl hx

end Sys2Proof.Machine
end

section
/-! PROOFS. Resets leave the profile FAST (R37), and mode commands start their transition or their apply (R21 to R23, R35 to R41, R650). -/

namespace Sys2Proof.Machine

/-! ## The profile (R37) -/

/-- The level sources do not touch the profile. -/
@[simp] theorem State.settle_profile (s : State) : s.settle.mode.profile = s.mode.profile := by
  obtain ⟨_, _, _, _, _, _, _, _, e⟩ := s.settle_signals; rw [e]

/-- A device reset sets the whole of MODE to its reset value (R35, R37). -/
@[simp] theorem State.deviceReset_mode (src : ResetSource) (ends : Option Nat) (s : State) :
    (s.deviceReset src ends).mode = ModeUnit.reset := rfl

theorem State.due_of_le {a : Nat} {at_ : Option Nat} {s : State} (ha : at_ = some a) (h : a ≤ s.now) : s.due at_ = true := by
  subst ha; exact decide_eq_true h

theorem exec_devResetExpiry_of_due {tm a : Nat} {s : State} (ha : s.rst.devResetAt = some a) (h : a ≤ max s.now tm) :
    exec (.devResetExpiry tm) s = .next ((s.atTime tm).deviceReset .command (some (max s.now tm + 1000))).settle := by
  have hd : (s.atTime tm).due (s.atTime tm).rst.devResetAt = true := State.due_of_le ha h
  show execDevResetExpiry tm s = _
  simp only [execDevResetExpiry, hd, if_true, State.out_eq]
  rfl

theorem exec_trivetSecurityReset_of_due {tm a : Nat} {s : State} (ha : s.rst.secResetAt = some a) (h : a ≤ max s.now tm) :
    exec (.trivetSecurityReset tm) s = .next ((s.atTime tm).deviceReset .trivet (some (max s.now tm + 1000))).settle := by
  have hd : (s.atTime tm).due (s.atTime tm).rst.secResetAt = true := State.due_of_le ha h
  show execTrivetSecurityReset tm s = _
  simp only [execTrivetSecurityReset, hd, if_true, State.out_eq]
  rfl

/-- Settles O51: every source of a device reset leaves MODE at its reset value, in which the profile is FAST. -/
theorem profileIsFastAfterReset : Obligations.ProfileIsFastAfterReset := by
  intro tm s
  refine ⟨fun i hi => ?_, fun a ha h => ⟨_, exec_devResetExpiry_of_due ha h, by simp [ModeUnit.reset]⟩,
    fun a ha h => ⟨_, exec_trivetSecurityReset_of_due ha h, by simp [ModeUnit.reset]⟩⟩
  rcases hi with rfl | rfl | rfl | rfl | rfl
  all_goals exact ⟨_, rfl, State.settle_profile _⟩

/-! ## No wake where a transition is under way (R641) -/

/-- No event can start a wake from STANDBY: the mode is another, or a transition is in progress already. -/
def State.Awake (s : State) : Prop := s.mode.mode = .standby → s.mode.transit = true

theorem State.Awake.congr {s t : State} (h : s.Awake) (hm : t.mode = s.mode) : t.Awake := by
  unfold State.Awake; rw [hm]; exact h

theorem State.awake_of_idle {s : State} (h : s.mode.mode = .idle) : s.Awake := fun e => absurd (h.symm.trans e) (by decide)

theorem State.wake_of_awake {s : State} (h : s.Awake) : s.wake = s := by
  unfold State.wake
  refine if_neg fun hw => ?_
  rw [Bool.and_eq_true, beq_iff_eq, Bool.not_eq_true'] at hw
  exact absurd (h hw.1) (by simp [hw.2])

theorem State.latchSet_mode {s : State} (h : s.Awake) (i : Nat) : (s.latchSet i).mode = s.mode := by
  unfold State.latchSet
  dsimp only
  split
  · rfl
  · split
    · split
      · rw [State.wake_of_awake]; exact h
      · rfl
    · split
      · rfl
      · rw [State.msix_mode]

theorem State.pulse_mode {s : State} (h : s.Awake) (i : Nat) : (s.pulse i).mode = s.mode := by
  unfold State.pulse
  split
  · rfl
  · exact State.latchSet_mode h i

theorem State.level_mode {s : State} (h : s.Awake) (i : Nat) (on : Bool) : (s.level i on).mode = s.mode := by
  unfold State.level
  dsimp only
  split
  · exact State.latchSet_mode (by exact h) i
  · rfl

/-- Where no wake can start, the level sources leave MODE alone. -/
theorem State.settle_mode {s : State} (h : s.Awake) : s.settle.mode = s.mode := by
  unfold State.settle
  refine List.foldlRecOn (motive := fun t : State => t.mode = s.mode) _ _ rfl fun t ht _ _ =>
    (State.level_mode (h.congr ht) _ _).trans ht

/-! ## Commands without a payload -/

/-- A command that has no payload and passes the checks of R545 does what its body does on the state that has taken it. -/
theorem State.take_of_accepts_empty {h : Hdr} {op : Nat} {cls : List Cls} {inRange : Bool} {body : State → Res} {s : State}
    (ha : s.accepts h cls = true) (hp : h.plen = 0) (hr : inRange = true) :
    s.take h op cls true (some 0) inRange body = (body (s.taken h op)).apply h.ctx.toNat := by
  rw [hr, State.take_of_accepts ha (by simp [hp]), State.fetched_of_empty hp]

/-- The level sources leave what a command shows. -/
theorem State.Runs.settle {h : Hdr} {op : Nat} {s : State} (hr : s.Runs h op) : s.settle.Runs h op := by
  unfold State.Runs; rw [State.settle_ctx]; exact hr

/-! ## SET_MODE starts a transition (R35, R36, R38, R41) -/

/-- `t` is on its way to a mode: TRANSIT is 1, TARGET the new mode, MODE still the mode of `s`; context `n` is as it was. -/
def State.Departs (n : Nat) (m : Mode) (s t : State) : Prop :=
  t.mode.transit = true ∧ t.mode.target = m ∧ t.mode.mode = s.mode.mode ∧ t.ctx n = s.ctx n

theorem State.transTo_departs (n : Nat) (m : Mode) (ctx : Option Nat) (discarded : Nat) (s : State) :
    s.Departs n m (s.transTo m ctx discarded) := ⟨rfl, rfl, rfl, rfl⟩

/-- A change between capture modes goes on as an apply that carries the mode (R41). -/
theorem State.changeMode_departs {n w : Nat} {m : Mode} {target : BitVec 32} {s : State} (ht : w = 1 → s.targetOk target = true) :
    ∃ t, s.changeMode n m w target = .go t ∧ s.Departs n m t := by
  have hok : ¬ (decide (w = 1) && !s.targetOk target) = true := by
    rw [Bool.and_eq_true, decide_eq_true_eq, Bool.not_eq_true']
    exact fun h => absurd (ht h.1) (by simp [h.2])
  exact ⟨_, if_neg hok, rfl, rfl, rfl, rfl⟩

/-- Entry into a capture mode goes on where the row-stagger buffer finds room (R253). -/
theorem State.acceptCapture_departs {n : Nat} {m : Mode} {tabs : Tables} {s : State}
    (hroom : (s.findRoom s.protSize s.dramSize ((tabs.stagger + 2) * stagLine s.board.member tabs)).isSome = true) :
    ∃ t, s.acceptCapture n m tabs = .go t ∧ s.Departs n m t := by
  obtain ⟨base, hbase⟩ := Option.isSome_iff_exists.1 hroom
  unfold State.acceptCapture
  dsimp only
  rw [hbase]
  exact ⟨_, rfl, rfl, rfl, rfl, rfl⟩

/-- The end of an apply for which nothing waits leaves MODE and every context but its own. -/
theorem State.dropApply_keeps {code n : Nat} {s : State} (h : ∀ a, s.mode.apply = some a → a.ctx ≠ some n ∧ s.lockFree) :
    (s.dropApply code).mode.mode = s.mode.mode ∧ (s.dropApply code).ctx n = s.ctx n := by
  unfold State.dropApply
  split
  · exact ⟨rfl, rfl⟩
  · rename_i a ha
    obtain ⟨hne, hfree⟩ := h a ha
    dsimp only
    rw [State.unlocked_of_lockFree (by exact hfree)]
    split
    · rename_i k hk
      have hkn : n ≠ k := fun e => hne (hk.trans (congrArg some e.symm))
      exact ⟨by rw [State.failWith_mode], State.finish_ctx_ne _ _ _ _ hkn⟩
    · exact ⟨rfl, rfl⟩

/-- Capture ends by way of IDLE: a pending apply is dropped, and no further trigger is issued (R43, R560). -/
theorem State.leaveCapture_departs {n : Nat} {s : State} (h : ∀ a, s.mode.apply = some a → a.ctx ≠ some n ∧ s.lockFree) :
    s.Departs n .idle (((s.dropApply cAborted).stopTriggers).transTo .idle (some n) 0) :=
  ⟨rfl, rfl, (State.dropApply_keeps h).1, (State.dropApply_keeps h).2⟩

/-- From a capture mode SET_MODE leads to another one or to IDLE (R38). -/
theorem permits_idle_of_capture {old new : Mode} (hp : permits old new = true) (ho : old.isCapture = true) (hn : new.isCapture = false) :
    new = .idle := by
  cases old with
  | boot | scrub => cases hp
  | idle | standby | diagnose | thermalHold => cases ho
  | _ => simpa [permits, hn] using hp

/-- A SET_MODE that nothing refuses goes on, whatever the two modes are. -/
theorem State.setModeBody_departs {n w : Nat} {m : Mode} {target : BitVec 32} {s : State} (htr : s.mode.transit = false)
    (hne : m ≠ s.mode.mode) (hp : permits s.mode.mode m = true)
    (hcap : (s.mode.mode.isCapture && m.isCapture) = true → s.mode.apply = none ∧ (w = 1 → s.targetOk target = true))
    (happ : ∀ a, s.mode.apply = some a → a.ctx ≠ some n ∧ s.lockFree)
    (hfault : s.modeFault m (s.willBe true s.staged.keys.eraseDups) (s.mode.mode == .idle) = none)
    (hroom : s.mode.mode.isCapture = false → m.isCapture = true →
      (s.findRoom s.protSize s.dramSize (((s.willBe true s.staged.keys.eraseDups).stagger + 2) *
        stagLine s.board.member (s.willBe true s.staged.keys.eraseDups))).isSome = true) :
    ∃ t, s.setModeBody n m w target = .go t ∧ s.Departs n m t := by
  have hfree : (s.mode.mode.isCapture && m.isCapture && s.mode.apply.isSome) = false := by
    by_cases hc : (s.mode.mode.isCapture && m.isCapture) = true
    · simp [(hcap hc).1]
    · simp [hc]
  unfold State.setModeBody
  simp only [htr, hne, hp, hfree, hfault, Bool.false_eq_true, if_false, beq_iff_eq, Bool.not_true]
  cases ho : s.mode.mode.isCapture with
  | true =>
    cases hm : m.isCapture with
    | true => simpa using State.changeMode_departs (hcap (by simp [ho, hm])).2
    | false =>
      obtain rfl := permits_idle_of_capture hp ho hm
      exact ⟨_, rfl, State.leaveCapture_departs happ⟩
  | false =>
    cases hm : m.isCapture with
    | true => simpa using State.acceptCapture_departs (hroom ho hm)
    | false => exact ⟨_, rfl, State.transTo_departs ..⟩


/-- A SET_MODE whose body goes on starts its transition. -/
theorem setMode_departs {h : Hdr} {mode when_ : BitVec 8} {target : BitVec 32} {m : Mode} {s u : State} (ha : s.accepts h [.c] = true)
    (hp : h.plen = 0) (hw : when_.toNat ≤ 1) (hm : Mode.ofCode mode.toNat = some m)
    (hgo : (s.taken h 0x0101).setModeBody h.ctx.toNat m when_.toNat target = .go u) (hd : (s.taken h 0x0101).Departs h.ctx.toNat m u) :
    ∃ t, exec (.setMode h mode when_ target) s = .next t ∧ t.Runs h 0x0101 ∧ t.mode.transit = true ∧ t.mode.target = m ∧
      t.mode.mode = s.mode.mode := by
  have ht : takeSetMode h mode when_ target s = u := by
    unfold takeSetMode
    rw [State.take_of_accepts_empty ha hp (by simp [hm, hw])]
    simp only [hm, Option.getD_some, hgo]
    rfl
  obtain ⟨htr, htg, hmm, hctx⟩ := hd
  have hmode : u.settle.mode = u.mode := State.settle_mode fun _ => htr
  have hruns : u.Runs h 0x0101 := (congrArg Ctx.cur hctx).trans (s.taken_runs h 0x0101)
  exact ⟨_, congrArg (fun t : State => t.out) ht, hruns.settle, by rw [hmode, htr], by rw [hmode, htg], by rw [hmode, hmm]; rfl⟩

/-! ## SYNC_APPLY (R21, R23, R650) -/

section
variable {h : Hdr} {when_ : BitVec 8} {target : BitVec 32} {s : State}

/-- In IDLE and DIAGNOSE a SYNC_APPLY that no check refuses swaps at once and ends DONE (R23). -/
theorem takeSyncApply_of_still {r : (Nat × Nat) × State} (ha : s.accepts h [.c] = true) (hp : h.plen = 0) (hw : when_.toNat ≤ 1)
    (htr : s.mode.transit = false) (hap : s.mode.apply = none)
    (hf : (s.taken h 0x0102).applyFault (s.willBe false s.staged.keys.eraseDups) s.staged.keys.eraseDups false = none)
    (hm : s.mode.mode = .idle ∨ s.mode.mode = .diagnose)
    (hr : r = State.swap s.staged.keys.eraseDups false
      { s.taken h 0x0102 with shd := { s.shd with accFilters := s.shd.filters } }) :
    takeSyncApply h when_ target s = r.2.done h.ctx.toNat (le 4 0 ++ le 2 r.1.1 ++ le 2 r.1.2) := by
  subst hr
  have hfault : (s.taken h 0x0102).applyFault ((s.taken h 0x0102).willBe false s.staged.keys.eraseDups) s.staged.keys.eraseDups
      false = none := hf
  have hcap : s.mode.mode.isCapture = false := by rcases hm with hm | hm <;> rw [hm] <;> rfl
  have hstill : (s.mode.mode == .idle || s.mode.mode == .diagnose) = true := by rcases hm with hm | hm <;> rw [hm] <;> rfl
  have hmode : (s.taken h 0x0102).mode = s.mode := rfl
  unfold takeSyncApply
  rw [State.take_of_accepts_empty ha hp (decide_eq_true hw)]
  simp only [hmode, State.taken_staged, htr, hap, hstill, hcap, hfault, Option.isSome_none, Bool.or_self, Bool.false_or,
    Bool.not_true, Bool.false_eq_true, if_false]
  rfl

/-- In a capture mode it becomes the pending apply (R23, R650). -/
theorem takeSyncApply_of_capture (ha : s.accepts h [.c] = true) (hp : h.plen = 0) (hw : when_.toNat ≤ 1)
    (htr : s.mode.transit = false) (hap : s.mode.apply = none)
    (hf : (s.taken h 0x0102).applyFault (s.willBe false s.staged.keys.eraseDups) s.staged.keys.eraseDups false = none)
    (hc : s.mode.mode.isCapture = true) (ht : when_ = 1 → s.targetOk target = true) :
    ∃ tgt, takeSyncApply h when_ target s = (s.taken h 0x0102).startApply h.ctx.toNat tgt none ∧ (when_ = 1 → tgt = some target) := by
  have hfault : (s.taken h 0x0102).applyFault ((s.taken h 0x0102).willBe false s.staged.keys.eraseDups) s.staged.keys.eraseDups
      false = none := hf
  have hmode : (s.taken h 0x0102).mode = s.mode := rfl
  have hok : ¬ (decide (when_ = 1) && !(s.taken h 0x0102).targetOk target) = true := by
    rw [Bool.and_eq_true, decide_eq_true_eq, Bool.not_eq_true']
    exact fun hx => absurd ((ht hx.1).symm.trans hx.2) (by decide)
  refine ⟨if when_ = 1 then some target else if (s.taken h 0x0102).isMaster then some ((s.taken h 0x0102).nextSeq + 2) else none, ?_,
    fun hone => if_pos hone⟩
  unfold takeSyncApply
  rw [State.take_of_accepts_empty ha hp (decide_eq_true hw)]
  simp only [hmode, State.taken_staged, htr, hap, hc, hfault, hok, Option.isSome_none, Bool.or_self, Bool.true_or, Bool.not_true,
    Bool.false_eq_true, if_false, if_true]
  rfl

end

/-- Settles O4. A SET_MODE goes on in each of the four kinds of transition; a SYNC_APPLY swaps at once or is the pending apply. -/
theorem modeCommandsComplete : Obligations.ModeCommandsComplete := by
  refine ⟨?_, fun h when_ target s ha hp hw htr hap hf => ⟨?_, ?_⟩⟩
  · intro h mode when_ target m s ha hp hw hm htr hne hperm hcap happ hfault hroom
    have hcap' : (s.mode.mode.isCapture && m.isCapture) = true →
        s.mode.apply = none ∧ (when_.toNat = 1 → (s.taken h 0x0101).targetOk target = true) :=
      fun hc => ⟨(hcap hc).1, fun hone => (hcap hc).2 (BitVec.eq_of_toNat_eq hone)⟩
    obtain ⟨u, hgo, hd⟩ := State.setModeBody_departs (s := s.taken h 0x0101) htr hne hperm hcap' happ hfault hroom
    exact setMode_departs ha hp hw hm hgo hd
  · intro r hm hr hcur
    have hruns : r.2.Runs h 0x0102 := hcur.trans (s.taken_runs h 0x0102)
    exact ⟨_, congrArg (fun t : State => t.out) (takeSyncApply_of_still ha hp hw htr hap hf hm hr), (hruns.finish_ended ..).settle,
      by simp, by simp⟩
  · intro hc ht
    obtain ⟨tgt, htake, htgt⟩ := takeSyncApply_of_capture ha hp hw htr hap hf hc ht
    have hruns : ((s.taken h 0x0102).startApply h.ctx.toNat tgt none).Runs h 0x0102 := s.taken_runs h 0x0102
    exact ⟨_, _, congrArg (fun t : State => t.out) htake, hruns.settle, State.settle_apply _, rfl, rfl, rfl, rfl, htgt,
      State.settle_active _, State.settle_staged _⟩

end Sys2Proof.Machine
end

section
/-! PROOFS. What the operations on ports and dies leave alone, and the commands of the ports family that act at once or start (R48, R153,
R155, R565). -/

namespace Sys2Proof.Machine

/-! ## Operations on ports and dies -/

/-- `t` differs from `s` at most in the units of ports and dies, in the clocks and by signals; every port reads present as before, and
MODE stays where no wake can start. -/
def State.PortStep (s t : State) : Prop :=
  (∃ p c, ({ s with ports := p, clk := c } : State).Signals t) ∧ (s.Awake → t.mode = s.mode) ∧ ∀ q, (t.seg q).pres = (s.seg q).pres

namespace State.PortStep

variable {s t u : State}

theorem refl (s : State) : s.PortStep s := ⟨⟨_, _, .refl s⟩, fun _ => rfl, fun _ => rfl⟩

theorem trans (h : s.PortStep t) (k : t.PortStep u) : s.PortStep u := by
  obtain ⟨⟨_, _, hs⟩, hm, hp⟩ := h
  obtain ⟨⟨p, c, ks⟩, km, kp⟩ := k
  refine ⟨⟨p, c, ?_⟩, fun ha => (km (ha.congr (hm ha))).trans (hm ha), fun q => (kp q).trans (hp q)⟩
  obtain ⟨_, _, _, _, _, _, _, _, rfl⟩ := hs
  obtain ⟨_, _, _, _, _, _, _, _, rfl⟩ := ks
  exact ⟨_, _, _, _, _, _, _, _, rfl⟩

/-- A pass of such operations is one. -/
theorem foldl {α : Type} {f : State → α → State} (hf : ∀ (s : State) (k : α), s.PortStep (f s k)) (l : List α) (s : State) :
    s.PortStep (l.foldl f s) :=
  List.foldlRecOn l f (refl s) fun t ht k _ => ht.trans (hf t k)

theorem ite {c : Prop} [Decidable c] (ht : s.PortStep t) (hu : s.PortStep u) : s.PortStep (if c then t else u) := by
  split
  · exact ht
  · exact hu

theorem of_setSeg {p : Nat} {f : PortUnit → PortUnit} (hf : ∀ x, (f x).pres = x.pres) : s.PortStep (s.setSeg p f) := by
  refine ⟨⟨_, _, .refl _⟩, fun _ => rfl, fun q => ?_⟩
  by_cases e : q = p
  · subst e; rw [State.seg_setSeg_self, hf]
  · rw [State.seg_setSeg_ne _ _ e]

theorem of_setDie (k : Nat) (f : FeDie → FeDie) : s.PortStep (s.setDie k f) := ⟨⟨_, _, .refl _⟩, fun _ => rfl, fun _ => rfl⟩

theorem of_setCh (k c : Nat) (f : Channel → Channel) : s.PortStep (s.setCh k c f) := ⟨⟨_, _, .refl _⟩, fun _ => rfl, fun _ => rfl⟩

theorem of_clk (c : ClkUnit) : s.PortStep { s with clk := c } := ⟨⟨_, _, .refl _⟩, fun _ => rfl, fun _ => rfl⟩

theorem of_pulse (i : Nat) : s.PortStep (s.pulse i) :=
  ⟨⟨_, _, s.pulse_signals i⟩, fun h => State.pulse_mode h i, fun q => by simp only [State.seg, State.pulse_ports]⟩

theorem ctx (h : s.PortStep t) (n : Nat) : t.ctx n = s.ctx n := by
  obtain ⟨⟨_, _, hs⟩, -⟩ := h; exact hs.ctx n

theorem mode (h : s.PortStep t) (ha : s.Awake) : t.mode = s.mode := h.2.1 ha

theorem pres (h : s.PortStep t) (q : Nat) : (t.seg q).pres = (s.seg q).pres := h.2.2 q

theorem board (h : s.PortStep t) : t.board = s.board := by
  obtain ⟨⟨_, _, _, _, _, _, _, _, _, _, rfl⟩, -⟩ := h; rfl

end State.PortStep

theorem State.portEvent_portStep (p : Nat) (causes : BitVec 6) (s : State) : s.PortStep (s.portEvent p causes) := by
  refine .trans ?_ (.of_pulse _)
  exact .of_setSeg fun _ => rfl

theorem State.portTo_portStep (p : Nat) (st : PortSt) (s : State) : s.PortStep (s.portTo p st) := by
  refine .ite (.refl s) (.trans ?_ (State.portEvent_portStep ..))
  exact .of_setSeg fun _ => rfl

theorem State.syncCover_portStep (p : Nat) (s : State) : s.PortStep (s.syncCover p) := .ite (State.portTo_portStep ..) (.refl s)

theorem State.syncDie_portStep (k : Nat) (s : State) : s.PortStep (s.syncDie k) := .foldl (fun s p => s.syncCover_portStep p) _ s

theorem State.spareNote_portStep (k : Nat) (s : State) : s.PortStep (s.spareNote k) :=
  .ite ((State.PortStep.of_setDie _ _).trans (.foldl (fun s p => s.portEvent_portStep p 8) _ _)) (.of_setDie _ _)

theorem State.restoreTrims_portStep (k : Nat) (s : State) : s.PortStep (s.restoreTrims k) :=
  (State.PortStep.of_setDie _ _).trans (State.spareNote_portStep ..)

theorem State.substitute_portStep (k : Nat) (s : State) : s.PortStep (s.substitute k) := by
  refine (State.PortStep.foldl (fun s c => ?_) _ s).trans ((State.spareNote_portStep ..).trans (State.syncDie_portStep ..))
  split
  · exact (State.PortStep.of_setCh ..).trans (.of_setDie ..)
  · exact .refl _

/-! ## Record writes -/

/-- A record write that is not refused waits in the security unit (R609). -/
theorem State.nvPut_shape {id : NvId} {data : List Byte} {why : NvWhy} {ctx : Option Nat} {s t : State}
    (h : s.nvPut id data why ctx = some t) : ∃ x, t = { s with sec := x } := by
  unfold State.nvPut at h
  split at h
  · cases h
  · exact ⟨_, (Option.some.inj h).symm⟩

/-- A save of the trims leaves all but the security unit alone (R153). -/
theorem State.saveTrims_shape {ctx : Option Nat} {s t : State} (h : s.saveTrims ctx = some t) : ∃ x, t = { s with sec := x } := by
  unfold State.saveTrims at h
  refine List.foldlRecOn (motive := fun r : Option State => ∀ t, r = some t → ∃ x, t = { s with sec := x }) _ _
    (fun t ht => ⟨s.sec, (Option.some.inj ht).symm⟩) (fun r hr k _ t ht => ?_) t h
  obtain ⟨u, hu, ht⟩ := Option.bind_eq_some_iff.1 ht
  obtain ⟨v, hv, ht⟩ := Option.bind_eq_some_iff.1 ht
  obtain ⟨_, rfl⟩ := hr u hu
  obtain ⟨_, rfl⟩ := State.nvPut_shape hv
  obtain ⟨_, rfl⟩ := State.nvPut_shape ht
  exact ⟨_, rfl⟩

/-! ## The commands -/

/-- The profile is another one, and the states of the ports follow the taps in it (R48, R157). -/
def State.inProfile (p : Profile) (s : State) : State :=
  (List.range s.board.member.dies).foldl (fun (s : State) k => s.syncDie k) { s with mode := { s.mode with profile := p } }

theorem State.inProfile_portStep (p : Profile) (s : State) :
    ({ s with mode := { s.mode with profile := p } } : State).PortStep (s.inProfile p) :=
  .foldl (fun s k => s.syncDie_portStep k) _ _

theorem State.inProfile_ctx (p : Profile) (n : Nat) (s : State) : (s.inProfile p).ctx n = s.ctx n := (s.inProfile_portStep p).ctx n

theorem State.inProfile_mode (p : Profile) {s : State} (h : s.mode.mode = .idle) :
    (s.inProfile p).mode = { s.mode with profile := p } :=
  (s.inProfile_portStep p).mode (State.awake_of_idle h)

/-- The rotation has stopped on the dies that a foreground calibration takes (R155). -/
def State.rotationStopped (dies : BitVec 8) (s : State) : State :=
  (setBits 4 dies.toNat).foldl (fun (s : State) k =>
    s.setDie k (fun d => { d with rotCh := none, handover := none, backs := [] })) s

theorem State.rotationStopped_portStep (dies : BitVec 8) (s : State) : s.PortStep (s.rotationStopped dies) :=
  .foldl (fun _ _ => .of_setDie ..) _ s

/-- What PORT_STATUS_READ returns of a port (R565). -/
def PortUnit.statusBytes (x : PortUnit) : List Byte :=
  le 1 x.state.code ++ le 1 (b2n x.pres) ++ le 1 x.causes.toNat ++ le 1 x.qual.toNat ++ le 4 x.qualLines

section
variable {h : Hdr} {s : State}

/-- A command of class IDLE is accepted in IDLE only (R557). -/
theorem State.mode_of_accepts_idle (ha : s.accepts h [.idle] = true) : s.mode.mode = .idle := by
  simp only [State.accepts, Cls.ok, Bool.and_eq_true, List.any_cons, List.any_nil, Bool.or_false, beq_iff_eq] at ha
  obtain ⟨⟨-, hm⟩, -⟩ := ha
  exact hm

/-- CFG_PROFILE sets the profile, and the states of the ports follow (R48, R157). -/
theorem cfgProfile_completes {profile : BitVec 8} (hp : h.plen = 0) (ha : s.accepts h [.idle] = true) (hr : profile.toNat ≤ 1) :
    ∃ t, exec (.cfgProfile h profile) s = .next t ∧ t.Done h 0x0200 [] ∧
      t.mode = { s.mode with profile := if profile = 0 then .fast else .dense } := by
  have hidle : s.mode.mode = .idle := State.mode_of_accepts_idle ha
  have ht : ∃ p, p = (if profile = 0 then .fast else .dense) ∧
      takeCfgProfile h profile s = ((s.taken h 0x0200).inProfile p).done h.ctx.toNat [] := by
    unfold takeCfgProfile
    rw [State.take_of_accepts_empty ha hp (decide_eq_true hr)]
    exact ⟨_, rfl, rfl⟩
  obtain ⟨p, hprof, ht⟩ := ht
  have hmode : (((s.taken h 0x0200).inProfile p).done h.ctx.toNat []).mode = { s.mode with profile := p } :=
    (State.done_mode ..).trans (State.inProfile_mode p (s := s.taken h 0x0200) hidle)
  have hruns : ((s.taken h 0x0200).inProfile p).Runs h 0x0200 :=
    (congrArg Ctx.cur (State.inProfile_ctx ..)).trans (s.taken_runs h 0x0200)
  refine ⟨_, congrArg (fun t : State => t.out) ht, (hruns.finish_ended ..).settle, ?_⟩
  rw [State.settle_mode (State.awake_of_idle (by rw [hmode]; exact hidle)), hmode, hprof]

/-- AFE_FG_CAL holds its context and its dies until their calibration is over (R155). -/
theorem afeFgCal_starts {dies : BitVec 8} (hp : h.plen = 0) (ha : s.accepts h [.idleDiag] = true)
    (hr : dies.toNat < 2 ^ s.board.member.dies) (hfree : s.ports.fgCal = none) :
    ∃ t, exec (.afeFgCal h dies) s = .next t ∧ t.Runs h 0x020A ∧ t.ports.fgCal = some (h.ctx.toNat, dies.setWidth 4) := by
  have hnone : (s.taken h 0x020A).ports.fgCal = none := hfree
  have ht : ∃ p, takeAfeFgCal h dies s = { (s.taken h 0x020A).rotationStopped dies with ports := p } ∧
      p.fgCal = some (h.ctx.toNat, dies.setWidth 4) := by
    unfold takeAfeFgCal
    rw [State.take_of_accepts_empty ha hp (decide_eq_true hr)]
    simp only [hnone, Option.isSome_none, Bool.false_eq_true, if_false]
    exact ⟨_, rfl, rfl⟩
  obtain ⟨p, ht, hcal⟩ := ht
  have hruns : (takeAfeFgCal h dies s).Runs h 0x020A := by
    rw [ht]
    exact (congrArg Ctx.cur ((State.rotationStopped_portStep dies _).ctx _)).trans (s.taken_runs h 0x020A)
  exact ⟨_, rfl, hruns.settle, by rw [State.settle_ports, ht, hcal]⟩

/-- AFE_TRIM_SAVE holds its context until its records are written (R153). -/
theorem afeTrimSave_starts {s1 : State} (hp : h.plen = 0) (ha : s.accepts h [.s] = true)
    (hs : (s.taken h 0x020B).saveTrims (some h.ctx.toNat) = some s1) :
    ∃ t, exec (.afeTrimSave h) s = .next t ∧ t.Runs h 0x020B ∧ t.sec.writes = s1.sec.writes := by
  have ht : takeAfeTrimSave h s = s1 := by
    unfold takeAfeTrimSave
    rw [State.take_of_accepts_empty ha hp rfl]
    simp only [hs]
    rfl
  have hruns : s1.Runs h 0x020B := by
    obtain ⟨_, rfl⟩ := State.saveTrims_shape hs
    exact s.taken_runs h 0x020B
  exact ⟨_, congrArg (fun t : State => t.out) ht, hruns.settle, by rw [State.settle_sec]⟩

/-- PORT_STATUS_READ answers with the status of its port and clears the causes it has returned (R565). -/
theorem portStatusRead_completes {port : BitVec 8} (hp : h.plen = 0) (ha : s.accepts h [.c] = true)
    (hr : port.toNat < s.board.member.ports) :
    ∃ t, exec (.portStatusRead h port) s = .next t ∧ t.Done h 0x020D (s.seg port.toNat).statusBytes ∧
      (t.seg port.toNat).causes = 0 := by
  have ht : takePortStatusRead h port s = ((s.taken h 0x020D).setSeg port.toNat (fun x => { x with causes := 0 })).done h.ctx.toNat
      (s.seg port.toNat).statusBytes := by
    have hseg : s.hasSeg port.toNat = true := decide_eq_true hr
    unfold takePortStatusRead
    rw [State.take_of_accepts_empty ha hp hseg]
    rfl
  have hruns : ((s.taken h 0x020D).setSeg port.toNat (fun x => { x with causes := 0 })).Runs h 0x020D := s.taken_runs h 0x020D
  refine ⟨_, congrArg (fun t : State => t.out) ht, (hruns.finish_ended ..).settle, ?_⟩
  simp only [State.seg, State.settle_ports, State.done_ports]
  exact congrArg PortUnit.causes (State.seg_setSeg_self port.toNat _ (s.taken h 0x020D))

end

/-- Settles O15, one command after the other. -/
theorem portCommandsComplete : Obligations.PortCommandsComplete := fun _ _ hp =>
  ⟨fun _ ha hr => cfgProfile_completes hp ha hr, fun _ ha hr hfree => afeFgCal_starts hp ha hr hfree,
    fun _ ha hs => afeTrimSave_starts hp ha hs, fun _ ha hr => portStatusRead_completes hp ha hr⟩

end Sys2Proof.Machine
end

section
/-! PROOFS. The boot sequence (R51, R110, R113 to R118, R475, R597, R605, R610). -/

namespace Sys2Proof.Machine

/-! ## SRAM wipe, DRAM wipe and images (R110, R114 to R116, R118, R597) -/

section
variable {tm : Nat} {s : State}

/-- The wipe that passes its check starts the ROM, with SYSCLK and the PLLs up, unless the THERMTRIP_N latch holds the device. -/
theorem sramWipeDone_passes (hp : s.rst.phase = .sramWipe) :
    (s.rst.thermTrip = false → ∃ t, exec (.sramWipeDone tm true) s = .next t ∧ t.rst.phase = .romRun ∧ t.clk.sysclkOk = true ∧
      t.clk.lockHost1 = s.host.split) ∧
    (s.rst.thermTrip = true → ∃ t, exec (.sramWipeDone tm true) s = .next t ∧ t.rst.phase = .held) := by
  have he : exec (.sramWipeDone tm true) s = execSramWipeDone tm true s := rfl
  unfold execSramWipeDone at he
  simp only [State.atTime_rst, hp, beq_self_eq_true, Bool.not_true, Bool.false_eq_true, if_false, State.out_eq] at he
  constructor
  · intro ht
    simp only [ht, Bool.false_eq_true, if_false] at he
    exact ⟨_, he, by simp, by simp, by simp; rfl⟩
  · intro ht
    simp only [ht, if_true] at he
    exact ⟨_, he, by simp⟩

/-- A failed check is retried once; a second failure holds the device (R110). -/
theorem sramWipeDone_fails (hp : s.rst.phase = .sramWipe) :
    (s.rst.wipeTries = 0 → ∃ t, exec (.sramWipeDone tm false) s = .next t ∧ t.rst.phase = .sramWipe ∧ t.rst.wipeRetry = true ∧
      t.rst.wipeTries = 1) ∧
    (s.rst.wipeTries ≠ 0 → ∃ t, exec (.sramWipeDone tm false) s = .next t ∧ t.rst.phase = .held) := by
  have he : exec (.sramWipeDone tm false) s = execSramWipeDone tm false s := rfl
  unfold execSramWipeDone at he
  simp only [State.atTime_rst, hp, beq_self_eq_true, Bool.not_true, Bool.not_false, Bool.false_eq_true, if_false, if_true,
    State.out_eq] at he
  constructor
  · intro ht
    simp only [ht, if_true] at he
    exact ⟨_, he, by simp, by simp, by simp⟩
  · intro ht
    simp only [ht, if_false] at he
    exact ⟨_, he, by simp⟩

/-- After the DRAM wipe every byte reads 0 (R115). -/
theorem dramWipeDone_erases (hp : s.rst.phase = .dramWipe) :
    ∃ t, exec (.dramWipeDone tm) s = .next t ∧ t.rst.phase = .restore ∧ t.dram.mem = [] ∧ t.dram.poison = [] := by
  have he : exec (.dramWipeDone tm) s = execDramWipeDone tm s := rfl
  unfold execDramWipeDone at he
  simp only [State.atTime_rst, hp, beq_self_eq_true, if_true, State.out_eq] at he
  exact ⟨_, he, by simp, by simp, by simp⟩

variable {hdr : List Byte} {sigOk : Bool} {bodyHash : BitVec 256}

theorem bootImage_phase (hp : s.rst.phase = .imageA ∨ s.rst.phase = .imageB) :
    (!(s.rst.phase == .imageA || s.rst.phase == .imageB)) = false := by
  rcases hp with hp | hp <;> rw [hp] <;> rfl

/-- An image whose header, signature and body verify runs: pair 0 serves, pair 1 is its standby (R118, R597). -/
theorem bootImageVerified_runs (hp : s.rst.phase = .imageA ∨ s.rst.phase = .imageB) (hh : s.headerOk hdr = true) (hs : sigOk = true)
    (hb : (hdr.drop 32).take 32 = (le 32 bodyHash.toNat).reverse) :
    ∃ t, exec (.bootImageVerified tm hdr sigOk bodyHash) s = .next t ∧ t.rst.phase = .released ∧
      (t.rst.imageB = true ↔ s.rst.phase = .imageB) ∧ t.cpu.pair0 = .serving ∧ t.cpu.pair1 = .standby ∧
      t.sec.fwVersion = BitVec.ofNat 32 (rd hdr 4 4) ∧ t.sec.mHdr = sha256 hdr := by
  subst hs
  have hh' : (s.atTime tm).headerOk hdr = true := hh
  have hslot : (!(s.rst.phase == .imageA)) = true ↔ s.rst.phase = .imageB := by
    rcases hp with hp | hp <;> simp [hp]
  have he : exec (.bootImageVerified tm hdr true bodyHash) s = execBootImageVerified tm hdr true bodyHash s := rfl
  unfold execBootImageVerified at he
  simp only [State.atTime_rst, bootImage_phase hp, hh', hb, beq_self_eq_true, Bool.and_self, Bool.false_eq_true, if_false, if_true,
    State.out_eq] at he
  exact ⟨_, he, by simp, by simpa using hslot, by simp, by simp, by simp, by simp⟩

/-- An image that does not verify gives way to image B, and image B to BOOT_FAIL (R118). -/
theorem bootImageVerified_rejects (hp : s.rst.phase = .imageA ∨ s.rst.phase = .imageB) (hf : s.headerOk hdr = false ∨ sigOk = false) :
    ∃ t, exec (.bootImageVerified tm hdr sigOk bodyHash) s = .next t ∧
      t.rst.phase = (if s.rst.phase = .imageA then .imageB else .bootFail) ∧ t.cpu = s.cpu := by
  have hbad : ((s.atTime tm).headerOk hdr && sigOk) = false := Bool.and_eq_false_iff.2 hf
  have he : exec (.bootImageVerified tm hdr sigOk bodyHash) s = execBootImageVerified tm hdr sigOk bodyHash s := rfl
  unfold execBootImageVerified at he
  simp only [State.atTime_rst, bootImage_phase hp, hbad, Bool.false_and, Bool.false_eq_true, if_false, State.out_eq] at he
  exact ⟨_, he, by simp, by simp⟩

end

/-! ## The NV mount (R605, R610) -/

/-- A record with its invalid slots given VOID (R610). -/
def NvRec.repaired (r : NvRec) : NvRec := { r with slot0 := r.slot0.repaired, slot1 := r.slot1.repaired }

theorem NvSlot.repaired_valid (x : NvSlot) : x.repaired.valid = x.valid := by
  unfold NvSlot.repaired
  split
  · rfl
  · rename_i h
    simp only [NvSlot.valid, Bool.not_eq_true] at h ⊢
    rw [h]; rfl

theorem NvSlot.repaired_seq (x : NvSlot) : x.repaired.seq = x.seq := by
  unfold NvSlot.repaired; split <;> rfl

theorem NvSlot.repaired_data (x : NvSlot) : x.repaired.data = x.data := by
  unfold NvSlot.repaired; split <;> rfl

/-- A repair keeps the current copy. -/
theorem NvRec.repaired_curIs (r : NvRec) : r.repaired.curIs = r.curIs := by
  simp only [NvRec.curIs, NvRec.repaired, NvSlot.repaired_valid, NvSlot.repaired_seq]

theorem NvRec.repaired_slot_data (r : NvRec) (b : Bool) : (r.repaired.slot b).data = (r.slot b).data := by
  cases b <;> exact NvSlot.repaired_data _

/-- The store with every record repaired. -/
def State.repaired (s : State) : State := { s with sec := { s.sec with nv := s.sec.nv.map NvRec.repaired } }

/-- A repair of the store keeps the data of every record. -/
@[simp] theorem State.repaired_nvData (id : NvId) (s : State) : s.repaired.nvData id = s.nvData id := by
  have hfind : s.repaired.sec.nv.find? (fun r => r.id == id) = (s.sec.nv.find? (fun r => r.id == id)).map NvRec.repaired :=
    List.find?_map ..
  unfold State.nvData State.nvRec
  rw [hfind]
  cases s.sec.nv.find? (fun r => r.id == id) with
  | none => rfl
  | some r => simp only [Option.map_some, NvRec.repaired_curIs, NvRec.repaired_slot_data]

theorem State.repaired_lifecycleNow (s : State) : s.repaired.lifecycleNow = s.lifecycleNow := by
  simp only [State.lifecycleNow, State.repaired_nvData]; rfl

/-- Without a pending transition there is none to complete (R605). -/
theorem State.resumeTransition_of_none {s : State} (h : s.nvData .pending = none) : s.resumeTransition = s := by
  unfold State.resumeTransition; rw [h]

/-- A record write leaves the vendor key's hash and the fused one alone. -/
theorem State.nvSet_keyHashes (id : NvId) (data : List Byte) (s : State) :
    (s.nvSet id data).sec.romKeyHash = s.sec.romKeyHash ∧ (s.nvSet id data).sec.vrkHash = s.sec.vrkHash := by
  unfold State.nvSet State.nvCommit
  dsimp only
  rw [State.pulseIf_sec]
  split
  · exact ⟨rfl, rfl⟩
  · exact ⟨rfl, rfl⟩

/-- So does the completion of an interrupted transition. -/
theorem State.resumeTransition_keyHashes (s : State) :
    s.resumeTransition.sec.romKeyHash = s.sec.romKeyHash ∧ s.resumeTransition.sec.vrkHash = s.sec.vrkHash := by
  unfold State.resumeTransition
  split
  · split
    · exact ⟨rfl, rfl⟩
    · dsimp only
      rw [(State.nvSet_keyHashes ..).1, (State.nvSet_keyHashes ..).2]
      split
      · exact State.nvSet_keyHashes ..
      · exact ⟨rfl, rfl⟩
  · exact ⟨rfl, rfl⟩

/-- Free values leave the security unit alone. -/
theorem State.frees_sec (w n : Nat) (s : State) : (s.frees w n).2.sec = s.sec := by
  induction n generalizing s with
  | zero => rfl
  | succ n ih => exact ih _

section
variable {tm : Nat} {s : State}

/-- While VDD_NV is low, a mount that needs line programs waits (R107). -/
theorem nvMount_waits (hw : (s.sec.vddNvLow && s.mountWrites) = true) :
    ∃ t, exec (.nvMount tm) s = .next t ∧ t.rst = s.rst ∧ t.sec = s.sec := by
  have hguard : (!((s.atTime tm).rst.phase == .romRun) || ((s.atTime tm).sec.vddNvLow && (s.atTime tm).mountWrites)) = true := by
    have : ((s.atTime tm).sec.vddNvLow && (s.atTime tm).mountWrites) = true := hw
    rw [this, Bool.or_true]
  have he : exec (.nvMount tm) s = execNvMount tm s := rfl
  unfold execNvMount at he
  simp only [hguard, if_true, State.out_eq] at he
  exact ⟨_, he, by simp, by simp⟩

/-- The mount repairs the store, completes an interrupted transition and takes over the lifecycle it then finds (R605, R610); it goes on
to image A unless that is SCRAP or the vendor key does not match (R591). -/
theorem nvMount_mounts (hp : s.rst.phase = .romRun) (hw : (s.sec.vddNvLow && s.mountWrites) = false) :
    ∃ t, exec (.nvMount tm) s = .next t ∧ t.sec.mounted = true ∧ t.sec.entropyOk = true ∧ t.clk.aonComp = true ∧
      t.sec.debugOpen = (t.sec.lifecycle == .blank) ∧
      t.rst.phase = (if t.sec.lifecycle == .scrap || s.sec.romKeyHash != s.sec.vrkHash then .bootFail else .imageA) ∧
      t.sec.lifecycle = (s.atTime tm).repaired.resumeTransition.lifecycleNow := by
  have hguard : (!((s.atTime tm).rst.phase == .romRun) || ((s.atTime tm).sec.vddNvLow && (s.atTime tm).mountWrites)) = false := by
    have hlow : ((s.atTime tm).sec.vddNvLow && (s.atTime tm).mountWrites) = false := hw
    rw [hlow, State.atTime_rst, hp]; rfl
  have he : exec (.nvMount tm) s = execNvMount tm s := rfl
  unfold execNvMount at he
  simp only [hguard, Bool.false_eq_true, if_false, State.out_eq] at he
  refine ⟨_, he, by rw [State.settle_sec], by rw [State.settle_sec], by rw [State.settle_clk], by rw [State.settle_sec], ?_,
    by rw [State.settle_sec]; rfl⟩
  simp only [State.settle_rst, State.settle_sec, State.frees_sec, (State.resumeTransition_keyHashes _).1,
    (State.resumeTransition_keyHashes _).2, State.atTime_sec]

end

/-! ## DRAM training (R115, R117, R455, R475) -/

/-- The channels that the training at boot has found are those that work (R115). -/
theorem State.trained_chOk (chOk : BitVec 8) (s : State) : (s.trained chOk).dram.chOk = chOk := by
  unfold State.trained
  dsimp only
  split
  · rfl
  · rfl

/-- The end of a command without a result for the payload buffer leaves DRAM alone. -/
theorem State.finish_dram (n : Nat) (st : OpState) (code : Nat) (data : List Byte) (s : State) :
    (s.finish n st code data []).dram = s.dram := by
  obtain ⟨-, e⟩ | ⟨f, e, -⟩ := s.finish_cases n st code data
  · rw [e]
  · rw [e]; rfl

/-- `t` is left of `s` by failures of channels: no channel works that did not, and the same retraining is in progress. -/
def State.LosesChannels (s t : State) : Prop :=
  t.dram.trainCtx = s.dram.trainCtx ∧ ∀ k, s.dram.chOk.getLsbD k = false → t.dram.chOk.getLsbD k = false

theorem State.LosesChannels.foldl {f : State → Nat → State} (hf : ∀ (s : State) (k : Nat), s.LosesChannels (f s k)) (l : List Nat)
    (s : State) : s.LosesChannels (l.foldl f s) := by
  refine List.foldlRecOn l f ⟨rfl, fun _ h => h⟩ fun t ⟨ht, hc⟩ k _ => ?_
  obtain ⟨kt, kc⟩ := hf t k
  exact ⟨kt.trans ht, fun j h => kc j (hc j h)⟩

/-- A channel declared failed may stop working; no other starts (R475, R476). -/
theorem State.chFail_losesChannels (ch : Nat) (s : State) : s.LosesChannels (s.chFail ch) := by
  have hd : (({ s with dram := { s.dram with failedCh := ch } } : State).pulse 213).dram = { s.dram with failedCh := ch } :=
    State.pulse_dram ..
  have hoff (k : Nat) (h : s.dram.chOk.getLsbD k = false) : (s.dram.chOk &&& ~~~(BitVec.twoPow 8 ch)).getLsbD k = false := by
    rw [BitVec.getLsbD_and, h, Bool.false_and]
  unfold State.LosesChannels State.chFail
  simp only [hd]
  split
  · rw [hd]; exact ⟨rfl, fun _ h => h⟩
  · split
    · split
      · rw [State.failWith, State.finish_dram]; exact ⟨rfl, hoff⟩
      · exact ⟨rfl, hoff⟩
    · split
      · split
        · exact ⟨rfl, hoff⟩
        · rw [hd]; exact ⟨rfl, fun _ h => h⟩
      · split
        · exact ⟨rfl, hoff⟩
        · rw [hd]; exact ⟨rfl, fun _ h => h⟩

/-- The channel that the spare has replaced, which the training's verdict does not bring back (R476). -/
def State.awayChan (s : State) : BitVec 8 :=
  match s.dram.spared with
  | some c => if s.dram.spare = 2 then BitVec.twoPow 8 c else 0
  | none => 0

theorem State.awayChan_of_spare_ne {s : State} (h : s.dram.spare ≠ 2) : s.awayChan = 0#8 := by
  unfold State.awayChan
  split
  · exact if_neg h
  · rfl

/-- The channels that a retraining has lost. -/
def State.lostChans (chOk : BitVec 8) (s : State) : List Nat :=
  (List.range 8).filter (fun c => s.dram.chOk.getLsbD c && !chOk.getLsbD c)

/-- The training's verdict is in force, before the failures it brings. -/
def State.retrained (chOk : BitVec 8) (s : State) : State :=
  { s with dram := { s.dram with trainCtx := none, chOk := chOk &&& ~~~s.awayChan } }

section
variable {tm : Nat} {chOk : BitVec 8} {s : State}

theorem dramTrainingDone_boots (hp : s.rst.phase = .released) :
    ∃ t, exec (.dramTrainingDone tm chOk) s = .next t ∧ t.rst.phase = .dramWipe ∧ t.dram.chOk = chOk := by
  have he : exec (.dramTrainingDone tm chOk) s = execDramTrainingDone tm chOk s := rfl
  unfold execDramTrainingDone at he
  simp only [State.atTime_rst, hp, beq_self_eq_true, if_true, State.out_eq] at he
  exact ⟨_, he, by simp, by rw [State.settle_dram]; exact State.trained_chOk ..⟩

/-- In DIAGNOSE the verdict is taken over, the channels lost fail, and DRAM_TRAIN ends with those that work (R475). -/
theorem exec_dramTrainingDone_of_retraining {n : Nat} (hp : s.rst.phase ≠ .released) (hn : s.dram.trainCtx = some n) :
    ∃ u, u = (s.lostChans chOk).foldl (fun (s : State) c => s.chFail c) ((s.atTime tm).retrained chOk) ∧
      exec (.dramTrainingDone tm chOk) s = .next (u.done n (le 1 u.dram.chOk.toNat)).settle := by
  have hphase : (s.rst.phase == .released) = false := beq_eq_false_iff_ne.2 hp
  refine ⟨_, rfl, ?_⟩
  show execDramTrainingDone tm chOk s = _
  unfold execDramTrainingDone
  simp only [State.atTime_rst, State.atTime_dram, hphase, hn, Bool.false_eq_true, if_false]
  rfl

theorem dramTrainingDone_retrains {n : Nat} (hp : s.rst.phase ≠ .released) (hn : s.dram.trainCtx = some n) :
    ∃ t, exec (.dramTrainingDone tm chOk) s = .next t ∧ t.dram.trainCtx = none ∧
      ∀ k, k < 8 → chOk.getLsbD k = false → t.dram.chOk.getLsbD k = false := by
  obtain ⟨u, hu, he⟩ := exec_dramTrainingDone_of_retraining (tm := tm) (chOk := chOk) hp hn
  obtain ⟨hctx, hlost⟩ : ((s.atTime tm).retrained chOk).LosesChannels u :=
    hu ▸ .foldl (fun s c => s.chFail_losesChannels c) _ _
  have hdram : (u.done n (le 1 u.dram.chOk.toNat)).settle.dram = u.dram := by rw [State.settle_dram, State.done, State.finish_dram]
  refine ⟨_, he, by rw [hdram]; exact hctx, fun k _ hk => ?_⟩
  rw [hdram]
  refine hlost k ?_
  show (chOk &&& ~~~(s.atTime tm).awayChan).getLsbD k = false
  rw [BitVec.getLsbD_and, hk, Bool.false_and]

/-- A retraining that loses no channel ends DRAM_TRAIN with the channels it has found. -/
theorem dramTrainingDone_answers {n : Nat} {c : RunCmd} (hp : s.rst.phase ≠ .released) (hn : s.dram.trainCtx = some n)
    (hc : (s.ctx n).cur = some c) (hcpl : c.noCpl = false) (hs : s.dram.spare ≠ 2)
    (hall : ∀ k, k < 8 → s.dram.chOk.getLsbD k = true → chOk.getLsbD k = true) :
    ∃ t, exec (.dramTrainingDone tm chOk) s = .next t ∧ t.dram.chOk = chOk ∧
      (t.ctx n).ending = some { opcode := c.opcode, seq := c.seq, state := .done, result := 0, rlen := 0,
                                data := padTo 48 0 (le 1 chOk.toNat), noCpl := false } := by
  have hnone : s.lostChans chOk = [] := by
    refine List.filter_eq_nil_iff.2 fun k hk hlost => ?_
    rw [Bool.and_eq_true, Bool.not_eq_true'] at hlost
    exact absurd ((hall k (List.mem_range.1 hk) hlost.1).symm.trans hlost.2) (by decide)
  obtain ⟨u, hu, he⟩ := exec_dramTrainingDone_of_retraining (tm := tm) (chOk := chOk) hp hn
  rw [hnone, List.foldl_nil] at hu
  have hok : u.dram.chOk = chOk := by
    have haway : (s.atTime tm).awayChan = 0#8 := State.awayChan_of_spare_ne hs
    rw [hu]
    show chOk &&& ~~~(s.atTime tm).awayChan = chOk
    rw [haway, BitVec.not_zero, BitVec.and_allOnes]
  have hcur : (u.ctx n).cur = some c := by rw [hu]; exact hc
  refine ⟨_, he, by rw [State.settle_dram, State.done, State.finish_dram, hok], ?_⟩
  rw [State.settle_ctx, State.done, State.finish_of_entry _ _ _ hcur hcpl, State.ctx_setCtx_self, hok]
  rfl

end

/-! ## The exit from BOOT (R51, R117, R410, R541, R598) -/

/-- `t` differs from `s` at most in the monitor converters and the clocks. -/
def State.ConvStep (s t : State) : Prop := ∃ m c, t = { s with madc := m, clk := c }

namespace State.ConvStep

variable {s t u : State}

theorem refl (s : State) : s.ConvStep s := ⟨_, _, rfl⟩

theorem trans (h : s.ConvStep t) (k : t.ConvStep u) : s.ConvStep u := by
  obtain ⟨_, _, rfl⟩ := h
  obtain ⟨_, _, rfl⟩ := k
  exact ⟨_, _, rfl⟩

theorem foldl {f : State → Nat → State} (hf : ∀ (s : State) (k : Nat), s.ConvStep (f s k)) (l : List Nat) (s : State) :
    s.ConvStep (l.foldl f s) :=
  List.foldlRecOn l f (refl s) fun t ht k _ => ht.trans (hf t k)

theorem ite {c : Prop} [Decidable c] (ht : s.ConvStep t) (hu : s.ConvStep u) : s.ConvStep (if c then t else u) := by
  split
  · exact ht
  · exact hu

theorem of_setMadc (f : Madc → Madc) : s.ConvStep (s.setMadc f) := ⟨_, _, rfl⟩

theorem of_setConv (c : Nat) (f : Conv → Conv) : s.ConvStep (s.setConv c f) := by
  unfold State.setConv
  split
  · exact ⟨_, _, rfl⟩
  · exact ⟨_, _, rfl⟩

theorem of_startConv (c : Nat) (w : ConvWork) (d : Nat) : s.ConvStep (s.startConv c w d) := of_setConv ..

theorem of_startCal (c : Nat) (w : ConvWork) : s.ConvStep (s.startCal c w) := by
  unfold State.startCal
  exact (of_setMadc _).trans (of_setConv ..)

theorem of_takeEntry (c : Nat) : s.ConvStep (s.takeEntry c) := by
  unfold State.takeEntry
  split
  · split
    · exact (of_setMadc _).trans (of_startConv ..)
    · exact refl s
  · exact refl s

theorem of_loopBoundary : s.ConvStep s.loopBoundary := ⟨_, _, rfl⟩

theorem of_tryShared : s.ConvStep s.tryShared :=
  .ite ((of_setMadc _).trans (foldl (fun _ c => (of_setConv c _).trans (of_startConv ..)) _ _)) (refl s)

theorem of_convNext (c : Nat) (cont : ConvWork) (b : Bool) : s.ConvStep (s.convNext c cont b) := by
  unfold State.convNext
  refine (of_setConv c (fun k => { k with work := .none })).trans (.ite ?_ (.ite ?_ (.ite ?_ ?_)))
  · exact ((of_setMadc _).trans (of_setConv ..)).trans (of_startConv ..)
  · exact of_startCal ..
  · exact of_startConv ..
  · refine (of_takeEntry c).trans (.trans ?_ of_tryShared)
    exact .ite (of_loopBoundary.trans (foldl (fun _ d => of_takeEntry d) _ _)) (refl _)

theorem of_kickConvs : s.ConvStep s.kickConvs := .foldl (fun s c => .ite (of_convNext c .none false) (refl s)) _ s

end State.ConvStep

theorem State.madcStart_convStep (s : State) : s.ConvStep s.madcStart := (State.ConvStep.of_setMadc _).trans .of_kickConvs

/-- Dies that come up change units of ports and dies, and the locks of their PLLs (R38, R439). -/
theorem State.diesOn_portStep (s : State) : s.PortStep s.diesOn :=
  .foldl (fun s k => .ite (.refl s) (((s.restoreTrims_portStep k).trans (State.substitute_portStep k _)).trans (.of_clk _))) _ s

/-- A port at BOOT exit: ACTIVE where it reads present and has passed its power-on check, else ISOLATED (R51, R53). -/
def PortUnit.booted (ok : Bool) (x : PortUnit) : PortUnit :=
  { x with state := if x.pres && ok then .active else .isolated, ever := x.pres, powered := x.pres, outHiZ := !x.pres }

/-- A pass over other ports leaves a port alone. -/
theorem State.seg_foldl_setSeg_of_notMem (f : Nat → PortUnit → PortUnit) {l : List Nat} {p : Nat} (hp : p ∉ l) (s : State) :
    (l.foldl (fun (s : State) q => s.setSeg q (f q)) s).seg p = s.seg p := by
  induction l generalizing s with
  | nil => rfl
  | cons q l ih =>
    obtain ⟨hq, hl⟩ := not_or.1 (List.mem_cons.not.1 hp)
    rw [List.foldl_cons, ih hl, State.seg_setSeg_ne _ _ hq]

theorem State.seg_foldl_setSeg (f : Nat → PortUnit → PortUnit) {l : List Nat} {p : Nat} (hl : l.Nodup) (hp : p ∈ l) (s : State) :
    (l.foldl (fun (s : State) q => s.setSeg q (f q)) s).seg p = f p (s.seg p) := by
  induction l generalizing s with
  | nil => cases hp
  | cons q l ih =>
    obtain ⟨hq, hl⟩ := List.nodup_cons.1 hl
    rw [List.foldl_cons]
    by_cases e : p = q
    · subst e
      rw [State.seg_foldl_setSeg_of_notMem f hq, State.seg_setSeg_self]
    · rw [ih hl ((List.mem_cons.1 hp).resolve_left e), State.seg_setSeg_ne _ _ e]

theorem State.portsBoot_eq (powerOk : BitVec 64) (s : State) : s.portsBoot powerOk =
    (List.range s.board.member.ports).foldl (fun (s : State) p => s.setSeg p (PortUnit.booted (powerOk.getLsbD p))) s := rfl

theorem State.portsBoot_seg {powerOk : BitVec 64} {p : Nat} {s : State} (hp : p < s.board.member.ports) :
    (s.portsBoot powerOk).seg p = (s.seg p).booted (powerOk.getLsbD p) := by
  rw [State.portsBoot_eq]
  exact State.seg_foldl_setSeg (fun q => PortUnit.booted (powerOk.getLsbD q)) List.nodup_range (List.mem_range.2 hp) s

/-- The owners of the contexts are all that the split layout sets (R541). -/
theorem State.contextsBoot_ports (s : State) : s.contextsBoot.ports = s.ports := by
  unfold State.contextsBoot
  split
  · exact List.foldlRecOn (motive := fun t : State => t.ports = s.ports) _ _ rfl fun _ ht _ _ => ht
  · rfl

/-- Entry into IDLE: MODE is IDLE and no transition is in progress (R36). -/
theorem State.modeTo_idle_mode (s : State) : (s.modeTo .idle).mode.mode = .idle ∧ (s.modeTo .idle).mode.transit = false := by
  have hm : (s.modeTo .idle).mode = { s.mode with mode := .idle, target := .idle, transit := false, trans := none,
                                                  modeSeq := s.mode.modeSeq + 1 } :=
    State.pulse_mode (State.awake_of_idle rfl) 1
  rw [hm]
  exact ⟨rfl, rfl⟩

theorem State.modeTo_idle_ports (s : State) : (s.modeTo .idle).ports = s.ports := State.pulse_ports ..

theorem State.modeTo_idle_rst (s : State) : (s.modeTo .idle).rst = s.rst := State.pulse_rst ..

/-- The raise of an SVN counter is a matter of the security unit (R598). -/
theorem State.svnRaise_shape (s : State) : ∃ x, s.svnRaise = { s with sec := x } := by
  unfold State.svnRaise
  split
  · exact ⟨_, rfl⟩
  · dsimp only
    generalize (if s.sec.keyId == 1 then s.sec.svnOwner else s.sec.svnVendor) = cur
    generalize (if s.sec.keyId == 1 then NvId.svnOwner else .svnVendor) = id
    split
    · exact ⟨_, rfl⟩
    · split
      · rename_i t ht
        obtain ⟨_, rfl⟩ := State.nvPut_shape ht
        exact ⟨_, rfl⟩
      · exact ⟨_, rfl⟩

/-- The device at BOOT exit, before it enters IDLE: dies, ports, queues, contexts and converters have started. -/
def State.booted (powerOk : BitVec 64) (s : State) : State :=
  let t := ((((s.diesOn).portsBoot powerOk).bindFixed).contextsBoot).madcStart
  { t with rst := { t.rst with phase := .done }, sec := { t.sec with svnDue := true, trimAt := t.now } }

theorem State.booted_phase (powerOk : BitVec 64) (s : State) : (s.booted powerOk).rst.phase = .done := rfl

theorem State.booted_ports (powerOk : BitVec 64) (s : State) : (s.booted powerOk).ports = (s.diesOn.portsBoot powerOk).ports := by
  obtain ⟨_, _, e⟩ := State.madcStart_convStep (((s.diesOn.portsBoot powerOk).bindFixed).contextsBoot)
  unfold State.booted
  rw [e]
  exact State.contextsBoot_ports _

theorem State.booted_seg {powerOk : BitVec 64} {p : Nat} {s : State} (hp : p < s.board.member.ports) :
    ((s.booted powerOk).seg p).state = if (s.seg p).pres = true ∧ powerOk.getLsbD p = true then .active else .isolated := by
  have hdies := s.diesOn_portStep
  have hseg : (s.booted powerOk).seg p = (s.diesOn.portsBoot powerOk).seg p := by
    unfold State.seg; rw [State.booted_ports]
  rw [hseg, State.portsBoot_seg (by rw [hdies.board]; exact hp), PortUnit.booted, hdies.pres]
  simp only [Bool.and_eq_true]

theorem exec_bootExit {tm : Nat} {powerOk : BitVec 64} {s : State} (hp : s.rst.phase = .restore) :
    exec (.bootExit tm powerOk) s = .next ((((s.atTime tm).booted powerOk).modeTo .idle).svnRaise).settle := by
  show execBootExit tm powerOk s = _
  unfold execBootExit
  simp only [State.atTime_rst, hp, beq_self_eq_true, Bool.not_true, Bool.false_eq_true, if_false, State.out_eq]
  rfl

/-- BOOT_EXIT ends the boot sequence in IDLE, with every port ACTIVE or ISOLATED. -/
theorem bootExit_enters {tm : Nat} {powerOk : BitVec 64} {s : State} (hp : s.rst.phase = .restore) :
    ∃ t, exec (.bootExit tm powerOk) s = .next t ∧ t.rst.phase = .done ∧ t.mode.mode = .idle ∧ t.mode.transit = false ∧
      ∀ p, p < s.board.member.ports →
        (t.seg p).state = if (s.seg p).pres = true ∧ powerOk.getLsbD p = true then .active else .isolated := by
  obtain ⟨hmode, htransit⟩ := ((s.atTime tm).booted powerOk).modeTo_idle_mode
  obtain ⟨x, hx⟩ := (((s.atTime tm).booted powerOk).modeTo .idle).svnRaise_shape
  refine ⟨_, exec_bootExit hp, ?_⟩
  rw [hx, State.settle_mode (State.awake_of_idle (by exact hmode))]
  refine ⟨?_, hmode, htransit, fun p hlt => ?_⟩
  · rw [State.settle_rst]
    exact (congrArg ResetUnit.phase (State.modeTo_idle_rst _)).trans (State.booted_phase ..)
  · refine Eq.trans ?_ (State.booted_seg (s := s.atTime tm) hlt)
    unfold State.seg
    rw [State.settle_ports]
    exact congrArg (fun u : PortsUnit => (sget PortUnit.reset p u.ports).state) (State.modeTo_idle_ports _)

/-! ## The boot sequence -/

/-- Settles O30, phase by phase. -/
theorem bootSequenceAdvances : Obligations.BootSequenceAdvances := by
  intro tm s
  refine ⟨fun hp => ?_, fun hp => ⟨fun hw => nvMount_waits hw, fun hw => ?_⟩, fun hdr sigOk bodyHash hp =>
    ⟨fun hh hs hb => bootImageVerified_runs hp hh hs hb, fun hf => bootImageVerified_rejects hp hf⟩, fun chOk =>
    ⟨fun hp => dramTrainingDone_boots hp, fun n c hp hn => ⟨dramTrainingDone_retrains hp hn, fun hc hcpl hs hall =>
      dramTrainingDone_answers hp hn hc hcpl hs hall⟩⟩, fun hp => dramWipeDone_erases hp, fun powerOk hp => bootExit_enters hp⟩
  · obtain ⟨hrom, hheld⟩ := sramWipeDone_passes (tm := tm) hp
    obtain ⟨hretry, hfail⟩ := sramWipeDone_fails (tm := tm) hp
    exact ⟨hrom, hheld, hretry, hfail⟩
  · obtain ⟨t, he, hm, hen, hcomp, hdebug, hphase, hlife⟩ := nvMount_mounts (tm := tm) hp hw
    refine ⟨t, he, hm, hen, hcomp, by rw [hdebug, beq_iff_eq], ?_, fun hnone => ?_⟩
    · simpa using hphase
    · have hpend : (s.atTime tm).repaired.nvData .pending = none := (State.repaired_nvData ..).trans hnone
      rw [hlife, State.resumeTransition_of_none hpend, State.repaired_lifecycleNow]
      rfl

end Sys2Proof.Machine
end

section
/-! PROOFS. The events of the Uzon sync bus (R78, R196 to R200). -/

namespace Sys2Proof.Machine

/-! ## Outputs -/

@[simp] theorem State.emit_out (o : Output) (s : State) : (s.emit o).host.out = s.host.out ++ [o] := rfl

theorem State.msix_out_mono {o : Output} {s : State} (p v : Nat) (h : o ∈ s.host.out) : o ∈ (s.msix p v).host.out := by
  unfold State.msix
  dsimp only
  split
  · unfold State.setPort
    split
    · exact h
    · exact h
  · split
    · exact List.mem_append_left _ h
    · exact h

theorem State.latchSet_out_mono {o : Output} {s : State} (i : Nat) (h : o ∈ s.host.out) : o ∈ (s.latchSet i).host.out := by
  unfold State.latchSet
  dsimp only
  split
  · exact h
  · split
    · split
      · rw [State.wake_host]; exact h
      · exact h
    · split
      · exact h
      · exact State.msix_out_mono _ _ h

theorem State.level_out_mono {o : Output} {s : State} (i : Nat) (on : Bool) (h : o ∈ s.host.out) : o ∈ (s.level i on).host.out := by
  unfold State.level
  dsimp only
  split
  · exact State.latchSet_out_mono _ h
  · exact h

/-- Settling takes back nothing that has left the block. -/
theorem State.settle_out_mono {o : Output} {s : State} (h : o ∈ s.host.out) : o ∈ s.settle.host.out := by
  unfold State.settle
  exact List.foldlRecOn (motive := fun t : State => o ∈ t.host.out) _ _ h fun _ ht _ _ => State.level_out_mono _ _ ht

/-! ## Lines over the bus (R78, R196, R198, R200) -/

/-- A line boundary concerns the rows' factors and the shading choices. -/
theorem State.lineBoundary_shape (s : State) : ∃ x y, s.lineBoundary = { s with ilm := x, shd := y } := by
  have hrows : ∃ x, s.rowBoundary = { s with ilm := x } := by
    unfold State.rowBoundary
    refine List.foldlRecOn (motive := fun t : State => ∃ x, t = { s with ilm := x }) _ _ ⟨_, rfl⟩ ?_
    rintro _ ⟨_, rfl⟩ w -
    exact ⟨_, rfl⟩
  obtain ⟨_, e⟩ := hrows
  unfold State.lineBoundary
  rw [e]
  exact ⟨_, _, rfl⟩

/-- A line starts in its record and in the dies that take its trigger. -/
theorem State.startLine_shape (seq : BitVec 32) (s : State) : ∃ p, s.startLine seq =
    { s with lines := (s.setLine seq (fun r => { r with started := true })).lines, ports := p } := by
  unfold State.startLine State.trigDies
  refine List.foldlRecOn (motive := fun t : State => ∃ p, t =
    { s with lines := (s.setLine seq (fun r => { r with started := true })).lines, ports := p }) _ _ ⟨_, rfl⟩ ?_
  rintro _ ⟨_, rfl⟩ k -
  split
  · exact ⟨_, rfl⟩
  · exact ⟨_, rfl⟩

/-- The start of a line leaves the numbers of the lines alone. -/
theorem State.startLine_seqs (seq : BitVec 32) (s : State) :
    (s.startLine seq).lines.map (fun r => r.tag.seq) = s.lines.map (fun r => r.tag.seq) := by
  obtain ⟨_, e⟩ := s.startLine_shape seq
  rw [e, State.setLine, List.map_map]
  refine List.map_congr_left fun r _ => ?_
  dsimp only [Function.comp]
  split
  · rfl
  · rfl

theorem State.applyDue_of_none {seq : BitVec 32} {s : State} (h : s.mode.apply = none) : s.applyDue seq = s := by
  unfold State.applyDue; rw [h]

/-- Without an apply to meet, a follower's line takes the next number and the next pitch (R200). -/
theorem State.followLine_counts {s : State} (hseen : s.uzs.applySeen = none) (happ : s.mode.apply = none) :
    s.followLine.lt.seq = s.nextSeq ∧ s.followLine.lt.pitchIx = s.lt.pitchIx + 1 ∧
      (s.followLine.lines.map (fun r => r.tag.seq)).getLast? = some s.nextSeq := by
  unfold State.followLine
  simp only [hseen, State.applyDue_of_none happ]
  obtain ⟨_, _, hb⟩ := (s.setLt (fun l => { l with pitchIx := l.pitchIx + 1, vEst := s.uzs.speed })).lineBoundary_shape
  rw [hb]
  refine ⟨?_, ?_, ?_⟩
  · obtain ⟨_, e⟩ := State.startLine_shape s.nextSeq _
    rw [e]; rfl
  · obtain ⟨_, e⟩ := State.startLine_shape s.nextSeq _
    rw [e]; rfl
  · rw [State.startLine_seqs]
    simp [State.setLt, State.lineAt]

/-- The sampled line has been taken. -/
def State.lineTaken (s : State) : State := { s with uzs := { s.uzs with lineAt := none } }

section
variable {tm x : Nat} {s : State}

theorem exec_uzsLineStart_of_master {r : LineRec} (hx : s.uzs.lineAt = some x) (ht : x ≤ max s.now tm) (hid : s.rst.uzsId = 0)
    (hr : s.lines.find? (fun r => !r.started) = some r) :
    exec (.uzsLineStart tm) s = .next (((s.atTime tm).lineTaken.startLine r.tag.seq).emit
      (.uzonFrame (packBits (frameOf r (s.applyIn r.tag.seq))))).settle := by
  have hat : (s.atTime tm).uzs.lineAt = some x := hx
  have hnow : ¬ (s.atTime tm).now < x := Nat.not_lt.2 ht
  have hmaster : (!((s.atTime tm).rst.uzsId == 0)) = false := by rw [State.atTime_rst, hid]; rfl
  have hline : (s.atTime tm).lines.find? (fun r => !r.started) = some r := hr
  show execUzsLineStart tm s = _
  unfold execUzsLineStart
  simp only [hat, hnow, hmaster, hline, if_false, Bool.false_eq_true]
  rfl

theorem exec_uzsLineStart_of_follower (hx : s.uzs.lineAt = some x) (ht : x ≤ max s.now tm) (hid : s.rst.uzsId ≠ 0)
    (hrun : s.lt.run = true) (hstop : s.uzs.stopped = false) :
    exec (.uzsLineStart tm) s = .next (s.atTime tm).lineTaken.followLine.settle := by
  have hat : (s.atTime tm).uzs.lineAt = some x := hx
  have hnow : ¬ (s.atTime tm).now < x := Nat.not_lt.2 ht
  have hfollower : (!((s.atTime tm).rst.uzsId == 0)) = true := by simpa using hid
  have htakes : ((s.atTime tm).lt.run && !(s.atTime tm).uzs.stopped) = true := by
    rw [State.atTime_lt, State.atTime_uzs, hrun, hstop]; rfl
  show execUzsLineStart tm s = _
  unfold execUzsLineStart
  simp only [hat, hnow, hfollower, htakes, if_false, if_true]
  rfl

/-- The master's line starts with its frame on the bus (R78, R196). -/
theorem uzsLineStart_sends {r : LineRec} (hx : s.uzs.lineAt = some x) (ht : x ≤ max s.now tm) (hid : s.rst.uzsId = 0)
    (hr : s.lines.find? (fun r => !r.started) = some r) :
    ∃ t, exec (.uzsLineStart tm) s = .next t ∧ t.uzs.lineAt = none ∧
      .uzonFrame (packBits (frameOf r (s.applyIn r.tag.seq))) ∈ t.host.out := by
  refine ⟨_, exec_uzsLineStart_of_master hx ht hid hr, ?_, State.settle_out_mono ?_⟩
  · obtain ⟨_, e⟩ := State.startLine_shape r.tag.seq (s.atTime tm).lineTaken
    rw [State.settle_uzs, State.emit_uzs, e]
    rfl
  · rw [State.emit_out]
    exact List.mem_append_right _ (List.mem_singleton_self _)

/-- A follower counts a line of its own at the master's (R200). -/
theorem uzsLineStart_counts (hx : s.uzs.lineAt = some x) (ht : x ≤ max s.now tm) (hid : s.rst.uzsId ≠ 0) (hrun : s.lt.run = true)
    (hstop : s.uzs.stopped = false) (hseen : s.uzs.applySeen = none) (happ : s.mode.apply = none) :
    ∃ t, exec (.uzsLineStart tm) s = .next t ∧ t.lt.seq = s.nextSeq ∧ t.lt.pitchIx = s.lt.pitchIx + 1 ∧
      (t.lines.map (fun r => r.tag.seq)).getLast? = some s.nextSeq := by
  refine ⟨_, exec_uzsLineStart_of_follower hx ht hid hrun hstop, ?_⟩
  rw [State.settle_lt, State.settle_lines]
  exact State.followLine_counts (s := (s.atTime tm).lineTaken) hseen happ

end

/-! ## The lock of an apply goes (R24) -/

/-- `t` agrees with `s` on the line-timing unit and the sync bus. -/
def State.SparesBus (s t : State) : Prop := t.lt = s.lt ∧ t.uzs = s.uzs

namespace State.SparesBus

variable {s t u : State}

theorem refl (s : State) : s.SparesBus s := ⟨rfl, rfl⟩

theorem trans (h : s.SparesBus t) (k : t.SparesBus u) : s.SparesBus u := ⟨k.1.trans h.1, k.2.trans h.2⟩

theorem of_finish (n : Nat) (st : OpState) (code : Nat) (data pay : List Byte) : s.SparesBus (s.finish n st code data pay) :=
  ⟨State.finish_lt .., State.finish_uzs ..⟩

theorem of_free (w : Nat) : s.SparesBus (s.free w).2 := ⟨rfl, rfl⟩

theorem of_frees (w n : Nat) : s.SparesBus (s.frees w n).2 := by
  induction n generalizing s with
  | zero => exact refl s
  | succ n ih => exact (of_free w).trans ih

theorem of_shdCalEnd : s.SparesBus s.shdCalEnd := by
  unfold State.shdCalEnd
  split
  · exact refl s
  · exact trans ⟨rfl, rfl⟩ (of_finish ..)

theorem of_shdCalOut (code : Nat) (data pay : List Byte) : s.SparesBus (s.shdCalOut code data pay) := by
  unfold State.shdCalOut
  split
  · exact refl s
  · dsimp only
    split
    · exact ⟨rfl, rfl⟩
    · exact trans ⟨rfl, rfl⟩ of_shdCalEnd

theorem of_shdCalCheck : s.SparesBus s.shdCalCheck := by
  unfold State.shdCalCheck
  split
  · exact refl s
  · split
    · exact refl s
    · dsimp only
      split
      · split
        · exact of_shdCalOut ..
        · exact ⟨rfl, rfl⟩
      · split
        · exact of_shdCalOut ..
        · exact trans ⟨rfl, rfl⟩ (of_shdCalOut ..)

theorem of_alnOut (code : Nat) (ports : List Nat) : s.SparesBus (s.alnOut code ports) := by
  unfold State.alnOut
  split
  · exact refl s
  · exact trans ⟨rfl, rfl⟩ (of_finish ..)

theorem of_seamFigures (l : List (Nat × Nat)) : s.SparesBus (s.seamFigures l).2 := by
  induction l generalizing s with
  | nil => exact refl s
  | cons x l ih => exact (of_frees 12 256).trans (((of_free 16).trans (of_free 16)).trans ih)

theorem of_alnSeen (c : AlnCal) : s.SparesBus (s.alnSeen c).2 := (of_frees 24 _).trans (of_frees 24 _)

theorem of_alnAccept (c : AlnCal) (x : AlnSeen) (stagger : Nat) : s.SparesBus (s.alnAccept c x stagger) := by
  unfold State.alnAccept
  extract_lets m t q bytes s1 s2 view
  have h2 : s.SparesBus s2 := (of_seamFigures _).trans ⟨rfl, rfl⟩
  clear_value s2
  split
  · exact h2.trans (of_alnOut ..)
  · split
    · exact h2.trans (of_alnOut ..)
    · split
      · exact h2.trans (of_alnOut ..)
      · exact (h2.trans ⟨rfl, rfl⟩).trans (of_alnOut ..)

theorem of_alnVerdict (c : AlnCal) : s.SparesBus (s.alnVerdict c) := by
  have hseen : s.SparesBus (s.alnSeen c).2 := of_alnSeen c
  unfold State.alnVerdict
  dsimp only
  split
  · exact hseen.trans ⟨rfl, rfl⟩
  · split
    · exact hseen.trans (of_alnOut ..)
    · split
      · split
        · exact hseen.trans ((of_free 11).trans (of_alnAccept ..))
        · exact hseen.trans ((of_free 11).trans (of_alnOut ..))
      · split
        · exact hseen.trans (of_alnAccept ..)
        · exact hseen.trans (of_alnOut ..)

theorem of_alnJudge (c : AlnCal) : s.SparesBus (s.alnJudge c) := by
  unfold State.alnJudge
  split
  · exact refl s
  · exact of_alnVerdict c

theorem of_lswTurn (c : Nat) : s.SparesBus (s.lswTurn c) := by
  unfold State.lswTurn
  split
  · cases hst : (s.chain c).staging with
    | none =>
      have : s.lswDone c = s := by unfold State.lswDone; rw [hst]
      rw [this]; exact refl s
    | some x =>
      obtain ⟨sg, e⟩ := State.lswDone_eq hst
      rw [e]
      exact trans ⟨State.setChain_lt .., State.setChain_uzs ..⟩ (of_finish ..)
  · exact refl s

/-- What has waited for the lock concerns neither the triggers nor the bus. -/
theorem of_unlocked : s.SparesBus s.unlocked := by
  unfold State.unlocked
  extract_lets s1 s2
  have h1 : s.SparesBus s1 := by
    unfold s1
    split
    · split
      · exact of_shdCalCheck
      · exact refl s
    · exact refl s
  have h2 : s1.SparesBus s2 := by
    unfold s2
    split
    · split
      · exact of_alnJudge _
      · exact refl s1
    · exact refl s1
  rw [State.lswResume_eq]
  exact ((h1.trans h2).trans (of_lswTurn 0)).trans (of_lswTurn 1)

end State.SparesBus

/-! ## Frames and slots (R196 to R198, R200) -/

/-- Warm-up concerns the page that begins among its lines (R257). -/
theorem Gated.warm_st (cap : Nat) (g : Gated) : ∃ w, (g.warm cap).st = { g.st with ring := w } := by
  unfold Gated.warm
  dsimp only
  split
  · exact ⟨_, rfl⟩
  · split
    · exact ⟨_, rfl⟩
    · split
      · exact ⟨_, rfl⟩
      · exact ⟨_, rfl⟩

/-- The line just started takes the speed that the bus gave last (R196, R199). -/
theorem State.followFrame_shape (gate phase : Nat) (s : State) : ∃ g w l, s.followFrame gate phase =
    { s with lt := { s.lt with gate := g, vEst := s.uzs.speed }, ring := w, lines := l } := by
  obtain ⟨_, e⟩ := (s.gateFollow gate).warm_st (s.lt.caps - 1)
  unfold State.followFrame
  dsimp only
  rw [e]
  exact ⟨_, _, _, rfl⟩

theorem Mode.ofCode_code (m : Mode) : Mode.ofCode m.code = some m := by cases m <;> rfl

/-- A frame of the mode that the follower is in changes no mode (R198). -/
theorem State.followMode_of_same {m : Mode} {s : State} (h : m = s.mode.mode) : s.followMode m = s := by
  unfold State.followMode
  simp [h]

/-- What a follower knows before it looks at a frame: after two frames in a row that were not good, APPLY_MISS is open (log entry 174). -/
def State.missGuess (s : State) : State :=
  let m := if s.uzs.badRun = 3 then s.free 1 else (0, s)
  if m.1 = 1 then { m.2 with uzs := { m.2.uzs with missed := true } } else m.2

theorem State.missGuess_shape (s : State) : ∃ f b, s.missGuess = { s with fresh := f, uzs := { s.uzs with missed := b } } := by
  unfold State.missGuess
  by_cases h : s.uzs.badRun = 3
  · simp only [if_pos h]
    split
    · exact ⟨_, _, rfl⟩
    · exact ⟨_, _, rfl⟩
  · simp only [if_neg h]
    exact ⟨_, _, rfl⟩

/-- A bad frame is counted (R200). -/
def State.badFrame (s : State) : State := { s with uzs := { s.uzs with crcErrs := s.uzs.crcErrs + 1 } }

/-- A good frame is what UZS_STATUS shows from now on (R200). -/
def State.goodFrame (f : FrameIn) (s : State) : State :=
  { s with uzs := { s.uzs with speed := f.speed, mode := BitVec.ofNat 4 f.mode, gate := BitVec.ofNat 2 f.gate, badRun := 0 } }

/-- An announced apply has met its line (R198). -/
def State.applyMet (s : State) : State :=
  match s.uzs.applySeen with
  | some (0, _) => { s with uzs := { s.uzs with applySeen := none } }
  | _ => s

/-- APPLY_IN of a good frame announces an apply (R198). -/
def State.announced (applyIn : Nat) (s : State) : State :=
  match applyIn, s.uzs.applySeen with
  | 2, _ => { s with uzs := { s.uzs with applySeen := some (2, s.staged.keys.eraseDups) } }
  | 1, none => { s with uzs := { s.uzs with applySeen := some (1, s.staged.keys.eraseDups) } }
  | _, _ => s

theorem State.applyMet_shape (s : State) : ∃ x, s.applyMet = { s with uzs := { s.uzs with applySeen := x } } := by
  unfold State.applyMet
  split
  · exact ⟨_, rfl⟩
  · exact ⟨_, rfl⟩

theorem State.announced_shape (applyIn : Nat) (s : State) :
    ∃ x, s.announced applyIn = { s with uzs := { s.uzs with applySeen := x } } := by
  unfold State.announced
  split
  · exact ⟨_, rfl⟩
  · exact ⟨_, rfl⟩
  · exact ⟨_, rfl⟩

section
variable {tm : Nat} {frame : BitVec 51} {s : State}

theorem State.followRx_of_bad (hf : frameIn frame = none) : s.followRx frame =
    s.missGuess.badFrame.followFrame s.missGuess.uzs.gate.toNat (s.missGuess.lt.seq.toNat % s.missGuess.active.strobe.phases) := by
  unfold State.followRx
  rw [hf]
  rfl

/-- A good frame of the line and the mode that the follower is in. -/
theorem State.followRx_of_good {f : FrameIn} (hf : frameIn frame = some f) (hseq : s.lt.seq.toNat % 65536 = f.seqLo)
    (hmode : f.mode = s.mode.mode.code) : s.followRx frame =
      ((((s.missGuess.goodFrame f).applyMet.followFrame f.gate f.phase).unlocked).announced f.applyIn) := by
  obtain ⟨_, _, e⟩ := s.missGuess_shape
  have hown : s.missGuess.lt.seq.toNat % 65536 = f.seqLo := by rw [e]; exact hseq
  have hsame : (s.missGuess.goodFrame f).followMode s.mode.mode = s.missGuess.goodFrame f :=
    State.followMode_of_same (by rw [e]; rfl)
  have hcode : Mode.ofCode f.mode = some s.mode.mode := by rw [hmode, Mode.ofCode_code]
  unfold State.followRx
  rw [hf]
  extract_lets +onlyGivenNames m u v s0
  have hs0 : s0 = s.missGuess := rfl
  clear_value s0
  subst hs0
  simp only [hown, hcode, if_true]
  exact congrArg (fun u : State => ((u.applyMet.followFrame f.gate f.phase).unlocked).announced f.applyIn) hsame

/-- After a bad frame the line goes on at the last speed and gate (R200, log entry 99). -/
theorem State.followRx_bad (hf : frameIn frame = none) :
    (s.followRx frame).uzs.crcErrs = s.uzs.crcErrs + 1 ∧ (s.followRx frame).uzs.speed = s.uzs.speed ∧
      (s.followRx frame).lt.vEst = s.uzs.speed ∧ (s.followRx frame).lt.seq = s.lt.seq ∧ (s.followRx frame).mode = s.mode ∧
      (s.followRx frame).rst = s.rst := by
  obtain ⟨_, _, hmiss⟩ := s.missGuess_shape
  obtain ⟨_, _, _, hframe⟩ := State.followFrame_shape s.missGuess.uzs.gate.toNat
    (s.missGuess.lt.seq.toNat % s.missGuess.active.strobe.phases) s.missGuess.badFrame
  rw [State.followRx_of_bad hf, hframe, hmiss]
  exact ⟨rfl, rfl, rfl, rfl, rfl, rfl⟩

/-- After a good frame the line goes on at the speed that the frame gives (R196). -/
theorem State.followRx_good {f : FrameIn} (hf : frameIn frame = some f) (hseq : s.lt.seq.toNat % 65536 = f.seqLo)
    (hmode : f.mode = s.mode.mode.code) :
    (s.followRx frame).uzs.speed = f.speed ∧ (s.followRx frame).lt.vEst = f.speed ∧ (s.followRx frame).lt.seq = s.lt.seq ∧
      (s.followRx frame).uzs.gate = BitVec.ofNat 2 f.gate := by
  obtain ⟨_, _, hmiss⟩ := s.missGuess_shape
  obtain ⟨_, hmet⟩ := (s.missGuess.goodFrame f).applyMet_shape
  obtain ⟨_, _, _, hframe⟩ := State.followFrame_shape f.gate f.phase (s.missGuess.goodFrame f).applyMet
  obtain ⟨hlt, huzs⟩ : ((s.missGuess.goodFrame f).applyMet.followFrame f.gate f.phase).SparesBus _ := .of_unlocked
  obtain ⟨_, hann⟩ := State.announced_shape f.applyIn ((s.missGuess.goodFrame f).applyMet.followFrame f.gate f.phase).unlocked
  rw [State.followRx_of_good hf hseq hmode, hann]
  simp only [hlt, huzs]
  rw [hframe, hmet, hmiss]
  exact ⟨rfl, rfl, rfl, rfl⟩

/-- A follower's answer in its slot of the line; in BOOT and STANDBY it drives nothing (R197, log entry 174). -/
def State.answered (s : State) : State :=
  if s.mode.mode == .boot || s.mode.mode == .standby then s else s.emit (.uzonSlot s.rst.uzsId.toNat s.slotOut)

@[simp] theorem State.answered_lt (s : State) : s.answered.lt = s.lt := by
  unfold State.answered
  split
  · rfl
  · rfl

@[simp] theorem State.answered_uzs (s : State) : s.answered.uzs = s.uzs := by
  unfold State.answered
  split
  · rfl
  · rfl

theorem State.answered_out (hb : s.mode.mode ≠ .boot) (hs : s.mode.mode ≠ .standby) :
    .uzonSlot s.rst.uzsId.toNat s.slotOut ∈ s.answered.host.out := by
  have hquiet : ¬ (s.mode.mode == .boot || s.mode.mode == .standby) = true := by simp [hb, hs]
  rw [State.answered, if_neg hquiet, State.emit_out]
  exact List.mem_append_right _ (List.mem_singleton_self _)

theorem exec_uzsFrameRx (hid : s.rst.uzsId ≠ 0) (hrun : s.lt.run = true) (hstop : s.uzs.stopped = false)
    (hvalid : s.lt.seqValid = true) :
    exec (.uzsFrameRx tm frame) s = .next ((s.atTime tm).followRx frame).answered.settle := by
  have hfollower : ¬ (s.atTime tm).rst.uzsId = 0 := hid
  have htakes : ((s.atTime tm).lt.run && !(s.atTime tm).uzs.stopped && (s.atTime tm).lt.seqValid) = true := by
    simp [hrun, hstop, hvalid]
  show execUzsFrameRx tm frame s = _
  unfold execUzsFrameRx
  simp only [hfollower, htakes, if_false, if_true, State.out_eq]
  rfl

/-- A follower counts a bad frame, keeps the last speed and answers in its slot (R197, R200). -/
theorem uzsFrameRx_counts (hid : s.rst.uzsId ≠ 0) (hrun : s.lt.run = true) (hstop : s.uzs.stopped = false)
    (hvalid : s.lt.seqValid = true) (hf : frameIn frame = none) :
    ∃ t, exec (.uzsFrameRx tm frame) s = .next t ∧ t.uzs.crcErrs = s.uzs.crcErrs + 1 ∧ t.uzs.speed = s.uzs.speed ∧
      t.lt.vEst = s.uzs.speed ∧ t.lt.seq = s.lt.seq ∧
      (s.mode.mode ≠ .boot → s.mode.mode ≠ .standby → ∃ b, .uzonSlot s.rst.uzsId.toNat b ∈ t.host.out) := by
  obtain ⟨hcrc, hspeed, hv, hseq, hmode, hrst⟩ := State.followRx_bad (s := s.atTime tm) hf
  refine ⟨_, exec_uzsFrameRx hid hrun hstop hvalid, by simpa using hcrc, by simpa using hspeed, by simpa using hv, by simpa using hseq,
    fun hb hs => ?_⟩
  have hout := State.answered_out (s := (s.atTime tm).followRx frame) (by rw [hmode]; exact hb) (by rw [hmode]; exact hs)
  rw [hrst] at hout
  exact ⟨_, State.settle_out_mono hout⟩

/-- A follower follows the frame of the line and the mode that it is in (R196, R197). -/
theorem uzsFrameRx_follows {f : FrameIn} (hid : s.rst.uzsId ≠ 0) (hrun : s.lt.run = true) (hstop : s.uzs.stopped = false)
    (hvalid : s.lt.seqValid = true) (hf : frameIn frame = some f) (hseq : s.lt.seq.toNat % 65536 = f.seqLo)
    (hmode : f.mode = s.mode.mode.code) :
    ∃ t, exec (.uzsFrameRx tm frame) s = .next t ∧ t.uzs.speed = f.speed ∧ t.lt.vEst = f.speed ∧ t.lt.seq = s.lt.seq ∧
      t.uzs.gate = BitVec.ofNat 2 f.gate := by
  obtain ⟨hspeed, hv, hs, hgate⟩ := State.followRx_good (s := s.atTime tm) hf hseq hmode
  exact ⟨_, exec_uzsFrameRx hid hrun hstop hvalid, by simpa using hspeed, by simpa using hv, by simpa using hs, by simpa using hgate⟩

/-- The master records a follower's slot: whether it came whole, and of one with its SOF the status and the parity (R197, R200; log
entry 175). -/
theorem uzsSlotRx_records {j : BitVec 2} {slot : BitVec 9} (hm : s.isMaster = true) (hj : j ≠ 0)
    (hn : j.toNat ≤ s.active.ltSrc.followers.toNat) :
    ∃ t, exec (.uzsSlotRx tm j slot) s = .next t ∧ t.uzs.seen = s.uzs.seen.set (j.toNat - 1) (slot.getLsbD 1) ∧
      (slot.getLsbD 1 = true → t.uzs.status = s.uzs.status.set (j.toNat - 1) (slot.extractLsb' 2 6) ∧
        t.uzs.perr = s.uzs.perr.set (j.toNat - 1) (((List.range 7).filter (fun k => slot.getLsbD (k + 2))).length % 2 == 1)) := by
  have hconf : (!(s.atTime tm).isMaster || decide (j = 0) || decide ((s.atTime tm).active.ltSrc.followers.toNat < j.toNat)) = false := by
    have hm' : (s.atTime tm).isMaster = true := hm
    have hj' : ¬ j = 0#2 := hj
    simp [hm', hj', Nat.not_lt.2 hn]
  have he : exec (.uzsSlotRx tm j slot) s = execUzsSlotRx tm j slot s := rfl
  unfold execUzsSlotRx at he
  simp only [hconf, Bool.false_eq_true, if_false, State.out_eq] at he
  refine ⟨_, he, by simp, fun hsof => ⟨by simp [hsof], ?_⟩⟩
  have hodd (n : Nat) : (!(n % 2 == 0)) = (n % 2 == 1) := by
    rcases Nat.mod_two_eq_zero_or_one n with h | h
    · simp [h]
    · simp [h]
  simp only [State.settle_uzs, State.pulseIf_uzs, hsof, Bool.true_and, hodd, State.atTime_uzs]

/-- Without UZS_CLK a follower stops triggering, and source 6 reports it (R200). -/
theorem uzsClkTimeout_stops (hid : s.rst.uzsId ≠ 0) :
    ∃ t, exec (.uzsClkTimeout tm) s = .next t ∧ t.uzs.lost = true ∧ t.uzs.stopped = true ∧ t.lt.run = false ∧
      (s.mode.mode ≠ .boot → t.ev.latch.getLsbD 6 = true) := by
  have hfollower : ¬ (s.atTime tm).rst.uzsId = 0 := hid
  have he : exec (.uzsClkTimeout tm) s = execUzsClkTimeout tm s := rfl
  unfold execUzsClkTimeout at he
  simp only [hfollower, if_false, State.out_eq] at he
  exact ⟨_, he, by simp, by simp, by simp [State.setLt], fun hm => State.settle_latch_mono (State.pulse_latch (by decide) hm)⟩

/-- A sampled line starts 160 ns later (R78). -/
theorem uzsLineSampled_delays (hb : s.onBar = true) :
    ∃ t, exec (.uzsLineSampled tm) s = .next t ∧ t.uzs.lineAt = some (max s.now tm + 160) := by
  have hb' : (s.atTime tm).onBar = true := hb
  have he : exec (.uzsLineSampled tm) s = execUzsLineSampled tm s := rfl
  unfold execUzsLineSampled at he
  simp only [hb', if_true, State.out_eq] at he
  exact ⟨_, he, by rw [State.settle_uzs]; rfl⟩

end

/-- Settles O38, event by event. -/
theorem syncBusEventsComplete : Obligations.SyncBusEventsComplete := fun _ _ =>
  ⟨uzsLineSampled_delays, fun _ _ hx ht hid hr => uzsLineStart_sends hx ht hid hr,
    fun _ hx ht hid hrun hstop hseen happ => uzsLineStart_counts hx ht hid hrun hstop hseen happ,
    fun _ hid hrun hstop hvalid => ⟨fun hf => uzsFrameRx_counts hid hrun hstop hvalid hf,
      fun _ hf hseq hmode => uzsFrameRx_follows hid hrun hstop hvalid hf hseq hmode⟩,
    fun _ _ hm hj hn => uzsSlotRx_records hm hj hn, uzsClkTimeout_stops⟩

end Sys2Proof.Machine
end

section
/-! PROOFS. The events of Skillet (R77, R327, R334, R335, R338, R341, R344). -/

namespace Sys2Proof.Machine

/-! ## Tables changed entry by entry -/

/-- A pass over other entries leaves an entry alone. -/
theorem sget_foldl_supd_of_notMem {α : Type} [DecidableEq α] (d : α) (f : Nat → α → α) {l : List Nat} {n : Nat} (hn : n ∉ l)
    (m : SMap α) : sget d n (l.foldl (fun m k => supd d k (f k) m) m) = sget d n m := by
  induction l generalizing m with
  | nil => rfl
  | cons k l ih =>
    obtain ⟨hk, hl⟩ := not_or.1 (List.mem_cons.not.1 hn)
    rw [List.foldl_cons, ih hl, sget_supd_ne _ _ _ hk]

theorem sget_foldl_supd {α : Type} [DecidableEq α] (d : α) (f : Nat → α → α) {l : List Nat} {n : Nat} (hl : l.Nodup) (hn : n ∈ l)
    (m : SMap α) : sget d n (l.foldl (fun m k => supd d k (f k) m) m) = f n (sget d n m) := by
  induction l generalizing m with
  | nil => cases hn
  | cons k l ih =>
    obtain ⟨hk, hl⟩ := List.nodup_cons.1 hl
    rw [List.foldl_cons]
    by_cases e : n = k
    · subst e
      rw [sget_foldl_supd_of_notMem d f hk, sget_supd_self]
    · rw [ih hl ((List.mem_cons.1 hn).resolve_left e), sget_supd_ne _ _ _ e]

/-! ## Pins (R338, R340) -/

theorem State.fevUpdate_shape (s : State) : ∃ p, s.fevUpdate = { s with skl := { s.skl with pins := p } } := ⟨_, rfl⟩

/-- Every pin follows its route output. -/
theorem State.fevUpdate_pin {n : Nat} (hn : n < 16) (s : State) : sget FevPin.reset n s.fevUpdate.skl.pins =
    FevPin.follow (sget SklFev.reset n s.skl.fev) s.now s.skl.out (s.route? n) (sget FevPin.reset n s.skl.pins) :=
  sget_foldl_supd FevPin.reset (fun k => FevPin.follow (sget SklFev.reset k s.skl.fev) s.now s.skl.out (s.route? k))
    List.nodup_range (List.mem_range.2 hn) s.skl.pins

/-- A stretch that is over lets the pins follow. -/
theorem fastevStretchEnd_follows {tm x : Nat} {pin : BitVec 4} {s : State}
    (hx : (sget FevPin.reset pin.toNat s.skl.pins).holdTo = some x) (ht : x ≤ max s.now tm) :
    ∃ t, exec (.fastevStretchEnd tm pin) s = .next t ∧ ∀ n, n < 16 → sget FevPin.reset n t.skl.pins =
      FevPin.follow (sget SklFev.reset n s.skl.fev) (max s.now tm) s.skl.out (s.route? n) (sget FevPin.reset n s.skl.pins) := by
  have hover : ¬ (s.atTime tm).now < x := Nat.not_lt.2 ht
  have he : exec (.fastevStretchEnd tm pin) s = execFastevStretchEnd tm pin s := rfl
  unfold execFastevStretchEnd at he
  simp only [State.atTime_skl, hx, hover, if_false, State.out_eq] at he
  refine ⟨_, he, fun n hn => ?_⟩
  rw [State.settle_skl, State.fevUpdate_pin hn]
  rfl

/-! ## Latency (R333, R336) -/

/-- `t` shows the latencies that `s` shows. -/
def State.SparesLatency (s t : State) : Prop := t.skl.lastLat = s.skl.lastLat ∧ t.skl.maxLat = s.skl.maxLat

namespace State.SparesLatency

variable {s t u : State}

theorem refl (s : State) : s.SparesLatency s := ⟨rfl, rfl⟩

theorem trans (h : s.SparesLatency t) (k : t.SparesLatency u) : s.SparesLatency u := ⟨k.1.trans h.1, k.2.trans h.2⟩

theorem of_slkQueue (r : LineRec) (due : Nat) : s.SparesLatency (s.slkQueue r due) := by
  unfold State.slkQueue
  dsimp only
  split
  · exact ⟨rfl, rfl⟩
  · unfold SparesLatency
    rw [State.pulseIf_skl]
    exact ⟨rfl, rfl⟩

/-- A line begins at the stage. -/
theorem of_sklBegin (r : LineRec) : s.SparesLatency (s.sklBegin r) := by
  unfold State.sklBegin
  dsimp only
  split
  · split
    · exact ⟨rfl, rfl⟩
    · exact (of_slkQueue ..).trans ⟨rfl, rfl⟩
  · exact ⟨rfl, rfl⟩

/-- A line is over at the stage. -/
theorem of_sklOver : s.SparesLatency s.sklOver.2 := by
  unfold State.sklOver
  split
  · exact refl s
  · split
    · dsimp only
      split
      · exact refl s
      · exact of_slkQueue ..
    · exact refl s

theorem of_sklGo (n : Nat) : s.SparesLatency (s.sklGo n) := by
  induction n generalizing s with
  | zero => exact refl s
  | succ n ih =>
    have hover : s.SparesLatency s.sklOver.2 := of_sklOver
    unfold State.sklGo
    dsimp only
    split
    · exact refl s
    · split
      · split
        · exact hover.trans ((of_sklBegin _).trans ih)
        · exact hover
      · split
        · exact hover
        · exact hover.trans ⟨rfl, rfl⟩

/-- Only the evaluation of a line's last group sets the latencies. -/
theorem of_sklTick : s.SparesLatency s.sklTick := of_sklGo _

end State.SparesLatency

/-! ## The evaluation of a group (R327, R334 to R336) -/

/-- A group's state after a line (R327); a gap line leaves it as it was. -/
def LineRec.evaluates (r : LineRec) (g : Nat) (x : GroupSt) : GroupSt :=
  let e := sget SklGroup.reset g r.tabs.sklMap
  if r.tag.gap = true then x
  else x.eval (sget SklClass.reset e.cls r.tabs.sklClass) e.width e.expect (r.groupSum e).1 (r.groupSum e).2

/-- A group is evaluated in a line, and the pins follow. -/
def State.groupEvaluated (g : Nat) (r : LineRec) (s : State) : State :=
  let x := sget GroupSt.reset g s.skl.groups
  let y := r.evaluates g x
  let c := sget SklClass.reset (sget SklGroup.reset g r.tabs.sklMap).cls r.tabs.sklClass
  (({ s with skl := { s.skl with groups := sset GroupSt.reset g y s.skl.groups, evaluated := s.skl.evaluated ++ [g],
                                 fevWait := s.skl.fevWait && !c.route.getLsbD 15 } }).pulseIf (y.flag && !x.flag) 128).fevUpdate

/-- A line that is no gap line shows its latency, and source 130 where it is beyond the limit (R336). -/
def State.latencyTaken (r : LineRec) (lat : Nat) (s : State) : State :=
  if r.tag.gap then s
  else ({ s with skl := { s.skl with lastLat := min 0xFF lat, maxLat := max s.skl.maxLat (min 0xFF lat) } }).pulseIf
    (r.tabs.sklCfg.latLimit != 0 && decide (r.tabs.sklCfg.latLimit < lat)) 130

section
variable {g : Nat} {r : LineRec} {s : State}

@[simp] theorem State.groupEvaluated_now : (s.groupEvaluated g r).now = s.now := State.pulseIf_now ..

theorem State.groupEvaluated_skl : ∃ p w, (s.groupEvaluated g r).skl = { s.skl with
    groups := sset GroupSt.reset g (r.evaluates g (sget GroupSt.reset g s.skl.groups)) s.skl.groups,
    evaluated := s.skl.evaluated ++ [g], pins := p, fevWait := w } := by
  obtain ⟨_, e⟩ := State.fevUpdate_shape _
  unfold State.groupEvaluated
  dsimp only
  rw [e]
  dsimp only
  rw [State.pulseIf_skl]
  exact ⟨_, _, rfl⟩

/-- All groups of a line with Skillet outputs have closed once the others and this one have. -/
theorem State.groupEvaluated_sklAll (hr : r.sklRuns = true) :
    (s.groupEvaluated g r).sklAll r = true ↔ ∀ x ∈ sklGroups r.tabs, x.1 = g ∨ x.1 ∈ s.skl.evaluated := by
  obtain ⟨_, _, e⟩ := State.groupEvaluated_skl (g := g) (r := r) (s := s)
  simp [State.sklAll, hr, e, or_comm]

theorem State.latencyTaken_skl {lat : Nat} (hg : r.tag.gap = false) :
    (s.latencyTaken r lat).skl = { s.skl with lastLat := min 0xFF lat, maxLat := max s.skl.maxLat (min 0xFF lat) } := by
  unfold State.latencyTaken
  rw [hg, if_neg Bool.false_ne_true, State.pulseIf_skl]

/-- A group that is open in the stage's line is evaluated in it (R97). -/
theorem State.sklLine_of_open {q : BitVec 32} (hc : s.skl.cur = some q) (hr : s.lineRec q = some r) (ho : s.sklOpen g r = true) :
    s.sklLine g = some (r, s) := by
  unfold State.sklLine
  simp only [hc, Option.bind_some, hr, ho, if_true]

theorem State.sklRuns_of_open (ho : s.sklOpen g r = true) : r.sklRuns = true := by
  simp only [State.sklOpen, Bool.and_eq_true] at ho
  obtain ⟨⟨hr, -⟩, -⟩ := ho
  exact hr

end

section
variable {tm entryNs entry : Nat} {group : BitVec 14} {r : LineRec} {s s1 : State}

theorem exec_sklGroupEval (h1 : (s.atTime tm).sklTick = s1) (hl : s1.sklLine group.toNat = some (r, s1))
    (he : s1.entryOf r (sget SklGroup.reset group.toNat r.tabs.sklMap) entryNs = some entry) :
    exec (.sklGroupEval tm group entryNs) s = .next (if (s1.groupEvaluated group.toNat r).sklAll r then
      ((((s1.groupEvaluated group.toNat r).latencyTaken r (sklLatency (r.profile == .dense)
        ((s1.groupEvaluated group.toNat r).now - entry))).slkQueue r (entry + 50)).sklTick)
      else s1.groupEvaluated group.toNat r).settle := by
  show execSklGroupEval tm group entryNs s = _
  unfold execSklGroupEval
  simp only [h1, hl, he]
  rfl

/-- While other groups of the line are open, a group takes its evaluation (R327). -/
theorem sklGroupEval_evaluates (h1 : (s.atTime tm).sklTick = s1) (hl : s1.sklLine group.toNat = some (r, s1))
    (he : s1.entryOf r (sget SklGroup.reset group.toNat r.tabs.sklMap) entryNs = some entry) (hr : r.sklRuns = true)
    (hopen : ∃ x ∈ sklGroups r.tabs, x.1 ≠ group.toNat ∧ x.1 ∉ s1.skl.evaluated) :
    ∃ t, exec (.sklGroupEval tm group entryNs) s = .next t ∧ t.skl.evaluated = s1.skl.evaluated ++ [group.toNat] ∧
      sget GroupSt.reset group.toNat t.skl.groups = r.evaluates group.toNat (sget GroupSt.reset group.toNat s1.skl.groups) := by
  have hmore : ¬ (s1.groupEvaluated group.toNat r).sklAll r = true := fun h => by
    obtain ⟨x, hx, hne, hnot⟩ := hopen
    exact ((State.groupEvaluated_sklAll hr).1 h x hx).elim hne hnot
  obtain ⟨_, _, e⟩ := State.groupEvaluated_skl (g := group.toNat) (r := r) (s := s1)
  have hex := exec_sklGroupEval h1 hl he
  rw [if_neg hmore] at hex
  exact ⟨_, hex, by rw [State.settle_skl, e], by rw [State.settle_skl, e, sget_sset_self]⟩

/-- The last group of a line gives the line's latency, counted from the entry of its closing word (R336, log entry 80). -/
theorem sklGroupEval_closes (h1 : (s.atTime tm).sklTick = s1) (hl : s1.sklLine group.toNat = some (r, s1))
    (he : s1.entryOf r (sget SklGroup.reset group.toNat r.tabs.sklMap) entryNs = some entry) (hr : r.sklRuns = true)
    (hclosed : ∀ x ∈ sklGroups r.tabs, x.1 = group.toNat ∨ x.1 ∈ s1.skl.evaluated) (hg : r.tag.gap = false) :
    ∃ t, exec (.sklGroupEval tm group entryNs) s = .next t ∧
      t.skl.lastLat = min 0xFF (sklLatency (r.profile == .dense) (s1.now - entry)) ∧ s1.skl.maxLat ≤ t.skl.maxLat := by
  have hall := (State.groupEvaluated_sklAll (s := s1) hr).2 hclosed
  obtain ⟨_, _, e⟩ := State.groupEvaluated_skl (g := group.toNat) (r := r) (s := s1)
  have hex := exec_sklGroupEval h1 hl he
  rw [if_pos hall] at hex
  obtain ⟨hlast, hmax⟩ := (State.SparesLatency.of_slkQueue (s := (s1.groupEvaluated group.toNat r).latencyTaken r
    (sklLatency (r.profile == .dense) ((s1.groupEvaluated group.toNat r).now - entry))) r (entry + 50)).trans .of_sklTick
  refine ⟨_, hex, ?_, ?_⟩
  · rw [State.settle_skl, hlast, State.latencyTaken_skl hg, State.groupEvaluated_now]
  · rw [State.settle_skl, hmax, State.latencyTaken_skl hg, e]
    exact Nat.le_max_left ..

end

/-! ## Streak frames (R77, R341, R344) -/

/-- Outputs that leave one after the other. -/
theorem State.foldl_emit (o : Nat → Output) (l : List Nat) (s : State) :
    l.foldl (fun (s : State) k => s.emit (o k)) s = { s with host := { s.host with out := s.host.out ++ l.map o } } := by
  induction l generalizing s with
  | nil => simp
  | cons k l ih =>
    rw [List.foldl_cons, ih, State.emit_out, List.append_assoc]
    rfl

/-- How long a frame is on its lanes, in characters, with SOF and EOF (R341). -/
def frameChars (f : List (List Byte)) : Nat := (f.map List.length).foldl max 0 + 2

/-- What a lane sends while a frame is on the link, and its running disparity after: its share between SOF and EOF, or idle
characters, from the disparity that the idle characters since the last frame have left (log entry 81). -/
def State.laneSends (f : List (List Byte)) (s : State) (l : Nat) : List (BitVec 10) × Bool :=
  let rd := rdIdle ((s.now - s.skl.rdAt) / 8) (s.skl.rd.getD l false)
  match f[l]? with
  | some bs => frameSymbols bs rd
  | none => ([], rdIdle (frameChars f) rd)

/-- The link is taken by a frame, and `rest` waits. -/
def State.linkTaken (f : List (List Byte)) (rest : List (List (List Byte))) (s : State) : State :=
  { s with skl := { s.skl with
      frames := rest, frameEnd := s.now + 8 * frameChars f, rd := ((List.range 4).map (s.laneSends f)).map (fun y => y.2),
      rdAt := s.now + 8 * frameChars f } }

section
variable {tm : Nat} {f : List (List Byte)} {rest : List (List (List Byte))} {s s1 : State}

theorem State.laneSends_of_lt {l : Nat} (hl : l < f.length) :
    s.laneSends f l = frameSymbols (f.getD l []) (rdIdle ((s.now - s.skl.rdAt) / 8) (s.skl.rd.getD l false)) := by
  simp [State.laneSends, hl]

theorem exec_slkFrameStart (h1 : (s.atTime tm).sklTick = s1) (hf : s1.skl.frames = f :: rest) (he : s1.skl.frameEnd ≤ s1.now) :
    exec (.slkFrameStart tm) s = .next ((List.range f.length).foldl (fun (u : State) l =>
      u.emit (.streakFrame l ((((List.range 4).map (s1.laneSends f)).map (fun y => y.1)).getD l []))) (s1.linkTaken f rest)).settle := by
  have hfree : ¬ s1.now < s1.skl.frameEnd := Nat.not_lt.2 he
  show execSlkFrameStart tm s = _
  unfold execSlkFrameStart
  simp only [h1, hf, hfree, if_false]
  rfl

/-- The frame that waits longest starts on its lanes once the link is free. -/
theorem slkFrameStart_sends (h1 : (s.atTime tm).sklTick = s1) (hf : s1.skl.frames = f :: rest) (he : s1.skl.frameEnd ≤ s1.now) :
    ∃ t, exec (.slkFrameStart tm) s = .next t ∧ t.skl.frames = rest ∧
      (∀ l, l < f.length → l < 4 → .streakFrame l (frameSymbols (f.getD l [])
        (rdIdle ((s1.now - s1.skl.rdAt) / 8) (s1.skl.rd.getD l false))).1 ∈ t.host.out) ∧
      t.skl.frameEnd = s1.now + 8 * frameChars f := by
  have hex := exec_slkFrameStart h1 hf he
  rw [State.foldl_emit] at hex
  refine ⟨_, hex, by rw [State.settle_skl]; rfl, fun l hl hl4 => State.settle_out_mono ?_, by rw [State.settle_skl]; rfl⟩
  refine List.mem_append_right _ (List.mem_map.2 ⟨l, List.mem_range.2 hl, ?_⟩)
  simp [List.getD_eq_getElem?_getD, hl4, State.laneSends_of_lt hl]

end

/-- Settles O40, event by event. -/
theorem skilletEventsComplete : Obligations.SkilletEventsComplete := by
  rintro tm s s1 rfl
  refine ⟨?_, fun pin x hx ht => fastevStretchEnd_follows hx ht, fun f rest hf he => slkFrameStart_sends rfl hf he⟩
  rintro group entryNs entry q r e g rfl hc hr ho rfl hentry
  have hline := State.sklLine_of_open hc hr ho
  have hruns := State.sklRuns_of_open ho
  exact ⟨fun hopen => sklGroupEval_evaluates rfl hline hentry hruns hopen,
    fun hclosed hgap => sklGroupEval_closes rfl hline hentry hruns hclosed hgap⟩

end Sys2Proof.Machine
end

section
/-! PROOFS. The commands of the device family that end at once (R108, R540, R544, R562, R563), and the state after reset. -/

namespace Sys2Proof.Machine

/-! ## Results for the payload buffer (R546) -/

/-- A result of at least one byte has gone to the payload buffer. -/
def State.resultStored (n : Nat) (pay : List Byte) (s : State) : State :=
  if pay.isEmpty then s else s.dramWrite 9 (s.bufAddr n) pay

@[simp] theorem State.resultStored_ctx (n k : Nat) (pay : List Byte) (s : State) : (s.resultStored n pay).ctx k = s.ctx k := by
  unfold State.resultStored
  split
  · rfl
  · rfl

@[simp] theorem State.resultStored_mem (n : Nat) (pay : List Byte) (s : State) :
    (s.resultStored n pay).dram.mem = memWrite (s.bufAddr n) pay s.dram.mem := by
  unfold State.resultStored
  cases pay with
  | nil => rfl
  | cons b bs => exact State.dramWrite_mem ..

/-- A result that fits is stored, and the command then ends as one without. -/
theorem State.finish_of_fits {n : Nat} {s : State} {c : RunCmd} {pay : List Byte} (st : OpState) (code : Nat) (data : List Byte)
    (h : (s.ctx n).cur = some c) (hp : pay.length ≤ s.bufSize n) :
    s.finish n st code data pay = (s.resultStored n pay).setCtx n (fun x =>
      if c.noCpl then { x with cur := none, ending := none, opState := st, result := BitVec.ofNat 8 code, discard := false }
      else { x with
        cur := none,
        ending := some { opcode := c.opcode, seq := c.seq, state := st, result := BitVec.ofNat 8 code, rlen := pay.length,
                         data := padTo 48 0 data, noCpl := c.noCpl } }) := by
  unfold State.finish State.resultStored
  rw [h]
  simp only [hp, decide_true, Bool.true_and, if_true]
  cases pay with
  | nil => rfl
  | cons b bs => rfl

/-- A command that runs has ended once it is finished with a result that fits, and the result is in its payload buffer. -/
theorem State.Runs.finish_stored {h : Hdr} {op : Nat} {s : State} (hr : s.Runs h op) (st : OpState) (code : Nat) (data : List Byte)
    {pay : List Byte} (hp : pay.length ≤ s.bufSize h.ctx.toNat) :
    (s.finish h.ctx.toNat st code data pay).Ended h op st code data pay.length ∧
      (s.finish h.ctx.toNat st code data pay).dram.mem = memWrite (s.bufAddr h.ctx.toNat) pay s.dram.mem := by
  rw [State.finish_of_fits st code data hr hp]
  refine ⟨?_, by rw [State.setCtx_dram, State.resultStored_mem]⟩
  unfold State.Ended
  rw [State.ctx_setCtx_self]
  cases h.flags.getLsbD 0 with
  | false => simp
  | true => simp

/-- The end of a command leaves the payload buffer bound as it was. -/
theorem State.done_buf (n : Nat) (data : List Byte) (s : State) : ((s.done n data).ctx n).buf = (s.ctx n).buf := by
  unfold State.done
  cases hc : (s.ctx n).cur with
  | none => rw [State.finish_of_none _ _ _ _ hc]
  | some c =>
    rw [State.finish_of_fits _ _ _ hc (Nat.zero_le _), State.ctx_setCtx_self]
    split
    · rw [State.resultStored_ctx]
    · rw [State.resultStored_ctx]

/-! ## The commands -/

/-- What DEV_IDENTIFY returns (R562). -/
def State.identity (s : State) : List Byte :=
  le 2 2 ++ le 1 (match s.board.member with | .ml9648 => 0 | .ml9624 => 1) ++ le 1 0xB1 ++ le 4 s.sec.fwVersion.toNat ++
    le 4 s.sec.fwSvn.toNat ++ le 1 (b2n s.rst.imageB) ++ le 1 s.sec.lifecycle.code ++ le 2 0 ++ padTo 8 0 s.board.serial

/-- What RES_READ returns: the resources with their owners (R562). -/
def State.ownerBytes (s : State) : List Byte := s.resources.flatMap (fun r => conflictData r.1 r.2.1 r.2.2.1 r.2.2.2)

section
variable {h : Hdr} {s : State}

theorem devIdentify_completes (ha : s.accepts h [.c] = true) (hp : h.plen = 0) :
    ∃ t, exec (.devIdentify h) s = .next t ∧ t.Done h 0x0100 s.identity := by
  have ht : takeDevIdentify h s = (s.taken h 0x0100).done h.ctx.toNat s.identity := by
    unfold takeDevIdentify
    rw [State.take_of_accepts_empty ha hp rfl]
    rfl
  exact ⟨_, congrArg (fun t : State => t.out) ht, ((s.taken_runs h 0x0100).finish_ended ..).settle⟩

/-- DEV_RESET is accepted; without a completion entry its 100 us start at its end (R108). -/
theorem devReset_completes (ha : s.accepts h [.c] = true) (hp : h.plen = 0) :
    ∃ t, exec (.devReset h 0) s = .next t ∧ t.Done h 0x0103 [] ∧
      (h.flags.getLsbD 0 = true → t.rst.devResetAt = some (max s.now h.t + 100000)) := by
  have ht : ∃ r, takeDevReset h 0 s = ({ s.taken h 0x0103 with rst := r } : State).done h.ctx.toNat [] ∧
      (h.flags.getLsbD 0 = true → r.devResetAt = some (max s.now h.t + 100000)) := by
    unfold takeDevReset
    rw [State.take_of_accepts_empty ha hp (by rfl)]
    split
    · exact ⟨_, rfl, fun _ => rfl⟩
    · rename_i hn
      exact ⟨_, rfl, fun hn' => absurd hn' hn⟩
  obtain ⟨r, ht, hat⟩ := ht
  have hruns : ({ s.taken h 0x0103 with rst := r } : State).Runs h 0x0103 := s.taken_runs h 0x0103
  exact ⟨_, congrArg (fun t : State => t.out) ht, (hruns.finish_ended ..).settle, fun hn => by
    rw [State.settle_rst, State.done_rst]; exact hat hn⟩

/-- A command whose result fits its payload buffer has stored it there. -/
theorem State.taken_stores {op : Nat} {pay : List Byte} {u : State} (hu : u = (s.taken h op).finish h.ctx.toNat .done cOk [] pay)
    (hl : pay.length ≤ s.bufSize h.ctx.toNat) :
    u.settle.Ended h op .done cOk [] pay.length ∧ u.settle.dram.mem = memWrite (s.bufAddr h.ctx.toNat) pay s.dram.mem := by
  have hbuf : ((s.taken h op).ctx h.ctx.toNat).buf = (s.ctx h.ctx.toNat).buf := by simp [State.taken]
  have hsize : (s.taken h op).bufSize h.ctx.toNat = s.bufSize h.ctx.toNat := by unfold State.bufSize; rw [hbuf]
  have haddr : (s.taken h op).bufAddr h.ctx.toNat = s.bufAddr h.ctx.toNat := by unfold State.bufAddr; rw [hbuf]; rfl
  obtain ⟨hend, hmem⟩ := (s.taken_runs h op).finish_stored .done cOk [] (pay := pay) (by rw [hsize]; exact hl)
  subst hu
  refine ⟨hend.settle, ?_⟩
  rw [State.settle_dram, hmem, haddr]
  rfl

/-- CFG_READ answers with the image of the entry (R562). -/
theorem cfgRead_completes {table : BitVec 16} {copy : BitVec 8} {index : BitVec 32} {bs : List Byte} (ha : s.accepts h [.c] = true)
    (hp : h.plen = 0) (hc : copy.toNat ≤ 1) (hi : index.toNat < s.imageCount table.toNat)
    (hbs : bs = s.image (copy = 1) table.toNat index.toNat) (hl : bs.length ≤ s.bufSize h.ctx.toNat) :
    ∃ t, exec (.cfgRead h table copy index) s = .next t ∧ t.Ended h 0x0109 .done cOk [] bs.length ∧
      t.dram.mem = memWrite (s.bufAddr h.ctx.toNat) bs s.dram.mem := by
  have ht : takeCfgRead h table copy index s = (s.taken h 0x0109).finish h.ctx.toNat .done cOk [] bs := by
    unfold takeCfgRead
    rw [State.take_of_accepts_empty ha hp (by rw [decide_eq_true hc, decide_eq_true hi]; rfl), hbs]
    rfl
  exact ⟨_, rfl, State.taken_stores ht hl⟩

/-- RES_READ answers with the owners of the shared resources (R562). -/
theorem resRead_completes (ha : s.accepts h [.c] = true) (hp : h.plen = 0) (hl : s.ownerBytes.length ≤ s.bufSize h.ctx.toNat) :
    ∃ t, exec (.resRead h) s = .next t ∧ t.Ended h 0x010A .done cOk [] s.ownerBytes.length ∧
      t.dram.mem = memWrite (s.bufAddr h.ctx.toNat) s.ownerBytes s.dram.mem := by
  have ht : takeResRead h s = (s.taken h 0x010A).finish h.ctx.toNat .done cOk [] s.ownerBytes := by
    unfold takeResRead
    rw [State.take_of_accepts_empty ha hp rfl]
    rfl
  exact ⟨_, rfl, State.taken_stores ht hl⟩

/-- MB_BUF_SET that binds the payload buffer to `b`, or to nothing, ends DONE with it bound so (R544). -/
theorem mbBufSet_binds {window : BitVec 8} {offset size : BitVec 32} {b : Option PayBuf}
    (ht : takeMbBufSet h window offset size s =
      ((s.taken h 0x0108).setCtx h.ctx.toNat (fun x => { x with buf := b })).done h.ctx.toNat []) :
    ∃ t, exec (.mbBufSet h window offset size) s = .next t ∧ t.Done h 0x0108 [] ∧ (t.ctx h.ctx.toNat).buf = b := by
  have hruns : ((s.taken h 0x0108).setCtx h.ctx.toNat (fun x => { x with buf := b })).Runs h 0x0108 := by
    unfold State.Runs
    rw [State.ctx_setCtx_self]
    exact s.taken_runs h 0x0108
  refine ⟨_, congrArg (fun t : State => t.out) ht, (hruns.finish_ended ..).settle, ?_⟩
  rw [State.settle_ctx, State.done_buf, State.ctx_setCtx_self]

/-- SIZE 0 releases the buffer (R544). -/
theorem takeMbBufSet_of_zero {window : BitVec 8} {offset : BitVec 32} (ha : s.accepts h [.c] = true) (hp : h.plen = 0) :
    takeMbBufSet h window offset 0 s =
      ((s.taken h 0x0108).setCtx h.ctx.toNat (fun x => { x with buf := none })).done h.ctx.toNat [] := by
  unfold takeMbBufSet
  rw [State.take_of_accepts_empty ha hp (by rfl)]
  rfl

theorem takeMbBufSet_of_range {window : BitVec 8} {offset size : BitVec 32} (ha : s.accepts h [.c] = true) (hp : h.plen = 0)
    (h0 : size ≠ 0) (h64 : size.toNat % 64 = 0) (hw : s.winHas window.toNat offset.toNat size.toNat = true) :
    takeMbBufSet h window offset size s = ((s.taken h 0x0108).setCtx h.ctx.toNat (fun x =>
      { x with buf := some { window := window.toNat, offset := offset.toNat, size := size.toNat } })).done h.ctx.toNat [] := by
  have hhas : (s.taken h 0x0108).winHas window.toNat offset.toNat size.toNat = true := hw
  have hwin : ((s.taken h 0x0108).win window.toNat).isNone = false := by
    unfold State.winHas at hhas
    split at hhas
    · rename_i hx; rw [hx]; rfl
    · cases hhas
  unfold takeMbBufSet
  rw [State.take_of_accepts_empty ha hp (beq_iff_eq.2 h64), if_neg h0, hwin, hhas]
  rfl

end

/-- Settles O2, one command after the other. -/
theorem deviceCommandsComplete : Obligations.DeviceCommandsComplete := by
  intro h s ha hp
  refine ⟨devIdentify_completes ha hp, devReset_completes ha hp, fun _ _ _ _ hc hi hbs hl => cfgRead_completes ha hp hc hi hbs hl, ?_,
    fun _ _ => mbBufSet_binds (takeMbBufSet_of_zero ha hp),
    fun _ _ _ h0 h64 hw => mbBufSet_binds (takeMbBufSet_of_range ha hp h0 h64 hw)⟩
  rintro _ rfl hl
  exact resRead_completes ha hp hl

/-- Settles O60: the reset state is a closed term. -/
theorem resetMeetsInvariants : Obligations.ResetMeetsInvariants := ⟨rfl, rfl⟩

end Sys2Proof.Machine
end

section
/-! PROOFS. The sources of a device reset, and its end (R59, R108, R110 to R113, R605). -/

namespace Sys2Proof.Machine

/-! ## Level sources in BOOT (R639) -/

/-- A level that is off and stays off changes nothing. -/
theorem State.level_off {s : State} (h : s.ev.raw = 0) (i : Nat) : s.level i false = s := by
  have hraw : s.ev.raw &&& ~~~(BitVec.twoPow 256 i) = s.ev.raw := by rw [h]; exact BitVec.zero_and
  unfold State.level
  simp only [Bool.false_and, Bool.false_eq_true, if_false, hraw]

/-- In BOOT, with every level off, the level sources stay as they are. -/
theorem State.settle_of_boot {s : State} (hm : s.mode.mode = .boot) (h : s.ev.raw = 0) : s.settle = s := by
  have hboot : (s.mode.mode == .boot) = true := beq_iff_eq.2 hm
  unfold State.settle
  rw [hboot]
  refine foldl_eq_self fun x _ => ?_
  rw [State.settleOne, Bool.not_true, Bool.and_false, State.level_off h]

/-- So a reset leaves the event unit at its reset value (R112). -/
theorem State.WasReset.settle {s t : State} (h : s.WasReset t) : t.settle = t := by
  obtain ⟨hmode, -, -, -, -, -, -, -, -, hev, -⟩ := h
  exact State.settle_of_boot (by rw [hmode]; rfl) (by rw [hev]; rfl)

/-! ## Sources of a reset (R108 to R112) -/

/-- The reset unit beside the phase is not among what every reset leaves. -/
theorem State.WasReset.with_rst {s t : State} (h : s.WasReset t) (r : ResetUnit) (hr : r.phase = .inReset) :
    s.WasReset { t with rst := r } := by
  obtain ⟨hmode, -, hrest⟩ := h
  exact ⟨hmode, hr, hrest⟩

theorem State.cleared_wasReset (r : ResetUnit) (c : ClkUnit) (tm : Nat) (s : State) (hr : r.phase = .inReset) :
    s.WasReset { (s.atTime tm).cleared with rst := r, clk := c } :=
  ⟨rfl, hr, rfl, rfl, rfl, rfl, rfl, rfl, rfl, rfl, rfl, rfl, rfl, rfl, rfl, rfl, rfl, rfl, rfl, rfl, rfl⟩

theorem State.deviceReset_wasReset (src : ResetSource) (ends : Option Nat) (tm : Nat) (s : State) :
    s.WasReset ((s.atTime tm).deviceReset src ends) := State.cleared_wasReset _ _ tm s rfl

/-- RST_CAUSE has the code of the source (R111). -/
theorem State.deviceReset_recordsCause (src : ResetSource) (ends : Option Nat) (tm : Nat) (s : State) :
    s.RecordsCause (BitVec.ofNat 4 src.code) ((s.atTime tm).deviceReset src ends) := ⟨rfl, rfl, rfl⟩

/-- The THERMTRIP_N latch is cleared by the sources that reach it, and by no other (R110). -/
theorem State.deviceReset_thermTrip (src : ResetSource) (ends : Option Nat) (s : State) :
    (s.deviceReset src ends).rst.thermTrip = (s.rst.thermTrip && !(src == .porst || src == .powerOn)) := rfl

/-- A command that resets answers the reset state itself: the level sources add nothing. -/
theorem State.WasReset.exec_eq {i : Instr} {s u : State} (he : exec i s = .next u.settle) (h : s.WasReset u) : exec i s = .next u := by
  rw [he, h.settle]

section
variable {tm : Nat} {s : State}

theorem powerOnReset_completes : ∃ t, exec (.powerOnReset tm) s = .next t ∧ s.WasReset t ∧ t.rst.last = 1 ∧ t.rst.prev = 0 ∧
    t.rst.count = 1 ∧ t.rst.tripSeen = false ∧ t.rst.thermTrip = false ∧ t.clk = ClkUnit.reset ∧
    t.rst.endsAt = some (max s.now tm + 1000) := by
  have hw := State.cleared_wasReset
    { ResetUnit.reset with porst := s.rst.porst, sysrst := s.rst.sysrst, endsAt := some (max s.now tm + 1000), uzsId := s.rst.uzsId,
                           powerAt := max s.now tm } ClkUnit.reset tm s rfl
  exact ⟨_, State.WasReset.exec_eq rfl hw, hw, rfl, rfl, rfl, rfl, rfl, rfl, rfl⟩

theorem porstNAssert_completes : ∃ t, exec (.porstNAssert tm) s = .next t ∧ s.WasReset t ∧ s.RecordsCause 2 t ∧
    t.rst.porst = false ∧ t.rst.thermTrip = false ∧ t.rst.wide = true := by
  have hw := (State.deviceReset_wasReset .porst none tm s).with_rst
    { ((s.atTime tm).deviceReset .porst none).rst with porst := false } rfl
  exact ⟨_, State.WasReset.exec_eq rfl hw, hw, State.deviceReset_recordsCause .porst none tm s, rfl, Bool.and_false _, rfl⟩

theorem sysrstNAssert_completes : ∃ t, exec (.sysrstNAssert tm) s = .next t ∧ s.WasReset t ∧ s.RecordsCause 3 t ∧
    t.rst.sysrst = false ∧ t.rst.thermTrip = s.rst.thermTrip := by
  have hw := (State.deviceReset_wasReset .sysrst none tm s).with_rst
    { ((s.atTime tm).deviceReset .sysrst none).rst with sysrst := false } rfl
  exact ⟨_, State.WasReset.exec_eq rfl hw, hw, State.deviceReset_recordsCause .sysrst none tm s, rfl, Bool.and_true _⟩

theorem coreBrownout_completes : ∃ t, exec (.coreBrownout tm) s = .next t ∧ s.WasReset t ∧ s.RecordsCause 4 t ∧
    t.rst.endsAt = some (max s.now tm + 1000) := by
  have hw := State.deviceReset_wasReset .brownout (some (max s.now tm + 1000)) tm s
  exact ⟨_, State.WasReset.exec_eq rfl hw, hw, State.deviceReset_recordsCause .brownout _ tm s, rfl⟩

theorem sysclkLoss_completes : ∃ t, exec (.sysclkLoss tm) s = .next t ∧ s.WasReset t ∧ s.RecordsCause 7 t ∧
    t.rst.sysclkAt = some (max s.now tm + 100000) := by
  have hw := (State.deviceReset_wasReset .sysclk none tm s).with_rst
    { ((s.atTime tm).deviceReset .sysclk none).rst with sysclkAt := some (max s.now tm + 100000) } rfl
  exact ⟨_, State.WasReset.exec_eq rfl hw, hw, State.deviceReset_recordsCause .sysclk none tm s, rfl⟩

theorem State.due_of_lt {a : Nat} {at_ : Option Nat} (ha : at_ = some a) (h : s.now < a) : s.due at_ = false := by
  subst ha; exact decide_eq_false (Nat.not_le.2 h)

/-- DEV_RESET takes place when it is due, and not before (R108). -/
theorem devResetExpiry_completes {a : Nat} (ha : s.rst.devResetAt = some a) :
    (a ≤ max s.now tm → ∃ t, exec (.devResetExpiry tm) s = .next t ∧ s.WasReset t ∧ s.RecordsCause 5 t ∧ t.rst.devResetAt = none) ∧
    (max s.now tm < a → ∃ t, exec (.devResetExpiry tm) s = .next t ∧ t.rst = s.rst) := by
  constructor
  · intro h
    have hw := State.deviceReset_wasReset .command (some (max s.now tm + 1000)) tm s
    exact ⟨_, State.WasReset.exec_eq (exec_devResetExpiry_of_due ha h) hw, hw,
      State.deviceReset_recordsCause .command _ tm s, rfl⟩
  · intro h
    have hd : (s.atTime tm).due (s.atTime tm).rst.devResetAt = false := State.due_of_lt ha h
    have he : exec (.devResetExpiry tm) s = execDevResetExpiry tm s := rfl
    simp only [execDevResetExpiry, hd, Bool.false_eq_true, if_false, State.out_eq] at he
    exact ⟨_, he, by rw [State.settle_rst]; rfl⟩

/-- So does the reset that follows a lifecycle transition (R605). -/
theorem trivetSecurityReset_completes {a : Nat} (ha : s.rst.secResetAt = some a) :
    (a ≤ max s.now tm → ∃ t, exec (.trivetSecurityReset tm) s = .next t ∧ s.WasReset t ∧ s.RecordsCause 6 t) ∧
    (max s.now tm < a → ∃ t, exec (.trivetSecurityReset tm) s = .next t ∧ t.rst = s.rst) := by
  constructor
  · intro h
    have hw := State.deviceReset_wasReset .trivet (some (max s.now tm + 1000)) tm s
    exact ⟨_, State.WasReset.exec_eq (exec_trivetSecurityReset_of_due ha h) hw, hw,
      State.deviceReset_recordsCause .trivet _ tm s⟩
  · intro h
    have hd : (s.atTime tm).due (s.atTime tm).rst.secResetAt = false := State.due_of_lt ha h
    have he : exec (.trivetSecurityReset tm) s = execTrivetSecurityReset tm s := rfl
    simp only [execTrivetSecurityReset, hd, Bool.false_eq_true, if_false, State.out_eq] at he
    exact ⟨_, he, by rw [State.settle_rst]; rfl⟩

end

/-! ## The end of a reset (R59, R108, R110, R113) -/

/-- Nothing holds the reset any longer. -/
def ResetUnit.free (now : Nat) (r : ResetUnit) : Prop :=
  r.porst = true ∧ r.sysrst = true ∧ r.sysclkAt = none ∧ ∀ a, r.endsAt = some a → a ≤ now

/-- The reset is over: the SRAM wipe starts. -/
def ResetUnit.ended (now : Nat) (r : ResetUnit) : ResetUnit := { r with phase := .sramWipe, endsAt := none, endedAt := now }

/-- A reset in progress ends exactly when nothing holds it. -/
theorem State.endReset_cases (s : State) :
    (s.rst.phase = .inReset ∧ s.rst.free s.now ∧ s.endReset = { s with rst := s.rst.ended s.now }) ∨
      (¬ (s.rst.phase = .inReset ∧ s.rst.free s.now) ∧ s.endReset = s) := by
  obtain ⟨due, hdue, e⟩ : ∃ due : Bool, (due = true ↔ ∀ a, s.rst.endsAt = some a → a ≤ s.now) ∧
      s.endReset = if s.rst.phase == .inReset && s.rst.porst && s.rst.sysrst && s.rst.sysclkAt.isNone && due then
        { s with rst := s.rst.ended s.now } else s := by
    refine ⟨_, ?_, rfl⟩
    cases s.rst.endsAt with
    | none => simp
    | some a => simp
  have hcond : (s.rst.phase == .inReset && s.rst.porst && s.rst.sysrst && s.rst.sysclkAt.isNone && due) = true ↔
      s.rst.phase = .inReset ∧ s.rst.free s.now := by
    simp only [Bool.and_eq_true, beq_iff_eq, Option.isNone_iff_eq_none, hdue, ResetUnit.free, and_assoc]
  rw [e]
  split
  · rename_i hc
    obtain ⟨hp, hf⟩ := hcond.1 hc
    exact .inl ⟨hp, hf, rfl⟩
  · rename_i hc
    exact .inr ⟨fun h => hc (hcond.2 h), rfl⟩

theorem State.endReset_of_free {s : State} (hp : s.rst.phase = .inReset) (hf : s.rst.free s.now) :
    s.endReset = { s with rst := s.rst.ended s.now } := by
  obtain ⟨-, -, e⟩ | ⟨hn, -⟩ := s.endReset_cases
  · exact e
  · exact absurd ⟨hp, hf⟩ hn

theorem State.endReset_of_held {s : State} (hf : ¬ s.rst.free s.now) : s.endReset = s := by
  obtain ⟨-, h, -⟩ | ⟨-, e⟩ := s.endReset_cases
  · exact absurd h hf
  · exact e

/-- The end of a reset is a matter of the reset unit, and leaves the pins and straps as they are. -/
theorem State.endReset_pins (s : State) : s.endReset.rst.porst = s.rst.porst ∧ s.endReset.rst.sysrst = s.rst.sysrst ∧
    s.endReset.rst.uzsId = s.rst.uzsId ∧ s.endReset.host = s.host := by
  obtain ⟨-, -, e⟩ | ⟨-, e⟩ := s.endReset_cases
  · rw [e]; exact ⟨rfl, rfl, rfl, rfl⟩
  · rw [e]; exact ⟨rfl, rfl, rfl, rfl⟩

theorem State.settle_split (s : State) : s.settle.host.split = s.host.split := by
  obtain ⟨_, _, _, _, _, _, _, _, e⟩ := s.settle_signals; rw [e]

/-- PORST_N is high, and the straps are sampled (R59). -/
def State.porstHigh (split : Bool) (uzsId : BitVec 2) (s : State) : State :=
  { s with rst := { s.rst with porst := true, uzsId := uzsId }, host := { s.host with split := split } }

/-- SYSRST_N is high. -/
def State.sysrstHigh (s : State) : State := { s with rst := { s.rst with sysrst := true } }

/-- A SYSCLK loss no longer holds the reset once its time has come. -/
def State.sysclkBack (s : State) : State :=
  { s with rst := { s.rst with sysclkAt := s.rst.sysclkAt.filter (fun b => decide (s.now < b)) } }

section
variable {tm : Nat} {s : State}

theorem porstNRelease_completes {split : Bool} {uzsId : BitVec 2} :
    ∃ t, exec (.porstNRelease tm split uzsId) s = .next t ∧ t.rst.porst = true ∧ t.rst.uzsId = uzsId ∧ t.host.split = split ∧
      (s.rst.phase = .inReset → s.rst.sysrst = true → s.rst.endsAt = none → s.rst.sysclkAt = none → t.rst.phase = .sramWipe) := by
  obtain ⟨hporst, -, hid, hhost⟩ := ((s.atTime tm).porstHigh split uzsId).endReset_pins
  refine ⟨((s.atTime tm).porstHigh split uzsId).endReset.settle, rfl, ?_⟩
  rw [State.settle_rst, State.settle_split, hporst, hid, hhost]
  refine ⟨rfl, rfl, rfl, fun hp hs he hc => ?_⟩
  have hfree : ((s.atTime tm).porstHigh split uzsId).rst.free (max s.now tm) := ⟨rfl, hs, hc, fun a ha => nomatch he.symm.trans ha⟩
  rw [State.endReset_of_free (s := (s.atTime tm).porstHigh split uzsId) hp hfree]
  rfl

/-- The release of SYSRST_N ends a reset that nothing else holds; a loss of SYSCLK holds it. -/
theorem sysrstNRelease_completes :
    ∃ t, exec (.sysrstNRelease tm) s = .next t ∧ t.rst.sysrst = true ∧
      (s.rst.phase = .inReset → s.rst.porst = true → s.rst.endsAt = none → s.rst.sysclkAt = none → t.rst.phase = .sramWipe) ∧
      (s.rst.phase = .inReset → s.rst.sysclkAt ≠ none → t.rst.phase = .inReset) := by
  obtain ⟨-, hsysrst, -⟩ := (s.atTime tm).sysrstHigh.endReset_pins
  refine ⟨(s.atTime tm).sysrstHigh.endReset.settle, rfl, ?_⟩
  rw [State.settle_rst, hsysrst]
  refine ⟨rfl, fun hp hporst he hc => ?_, fun hp hc => ?_⟩
  · have hfree : (s.atTime tm).sysrstHigh.rst.free (max s.now tm) := ⟨hporst, rfl, hc, fun a ha => nomatch he.symm.trans ha⟩
    rw [State.endReset_of_free (s := (s.atTime tm).sysrstHigh) hp hfree]
    rfl
  · rw [State.endReset_of_held (s := (s.atTime tm).sysrstHigh) fun ⟨_, _, hnone, _⟩ => hc hnone]
    exact hp

theorem exec_resetEnd : exec (.resetEnd tm) s = .next (s.atTime tm).sysclkBack.endReset.settle := rfl

theorem resetEnd_ends (hp : s.rst.phase = .inReset) (hporst : s.rst.porst = true) (hsysrst : s.rst.sysrst = true)
    (he : ∀ a, s.rst.endsAt = some a → a ≤ max s.now tm) (hc : ∀ b, s.rst.sysclkAt = some b → b ≤ max s.now tm) :
    ∃ t, exec (.resetEnd tm) s = .next t ∧ t.rst.phase = .sramWipe ∧ t.rst.endsAt = none ∧ t.rst.endedAt = max s.now tm := by
  have hnone : (s.atTime tm).sysclkBack.rst.sysclkAt = none :=
    Option.filter_eq_none_iff.2 fun b hb => by rw [decide_eq_true_iff]; exact Nat.not_lt.2 (hc b hb)
  refine ⟨_, exec_resetEnd, ?_⟩
  rw [State.settle_rst, State.endReset_of_free (s := (s.atTime tm).sysclkBack) hp ⟨hporst, hsysrst, hnone, he⟩]
  exact ⟨rfl, rfl, rfl⟩

theorem resetEnd_holds (h : s.rst.porst = false ∨ s.rst.sysrst = false ∨ (∃ a, s.rst.endsAt = some a ∧ max s.now tm < a) ∨
    (∃ b, s.rst.sysclkAt = some b ∧ max s.now tm < b)) :
    ∃ t, exec (.resetEnd tm) s = .next t ∧ t.rst = (s.atTime tm).sysclkBack.rst := by
  refine ⟨_, exec_resetEnd, ?_⟩
  rw [State.settle_rst, State.endReset_of_held]
  rintro ⟨hporst, hsysrst, hclk, hends⟩
  rcases h with h | h | ⟨a, ha, hlt⟩ | ⟨b, hb, hlt⟩
  · exact absurd (h.symm.trans hporst) (by decide)
  · exact absurd (h.symm.trans hsysrst) (by decide)
  · exact absurd (hends a ha) (Nat.not_le.2 hlt)
  · exact Option.filter_eq_none_iff.1 hclk b hb (decide_eq_true hlt)

end

/-- Settles O29: the sources one by one, then the releases and the end. -/
theorem resetsComplete : Obligations.ResetsComplete := by
  refine ⟨fun tm s => ⟨powerOnReset_completes, porstNAssert_completes, sysrstNAssert_completes, coreBrownout_completes,
    sysclkLoss_completes, fun a ha => devResetExpiry_completes ha, fun a ha => trivetSecurityReset_completes ha⟩, fun tm s => ⟨?_, ?_, ?_⟩⟩
  · exact fun split uzsId => porstNRelease_completes
  · exact sysrstNRelease_completes
  · exact fun hp => ⟨fun hporst hsysrst he hc => resetEnd_ends hp hporst hsysrst he hc, fun h => resetEnd_holds h⟩

end Sys2Proof.Machine
end

section
/-! PROOFS. Record writes of the NV store, line by line (R107, R594, R609, R610). -/

namespace Sys2Proof.Machine

/-! ## Records and their slots (R609, R610) -/

/-- The slot that a commit writes, made newer than the current copy, is the current copy. -/
theorem NvRec.curIs_commit {r : NvRec} {y : NvSlot} (hy : y.valid = true)
    (hseq : ∀ c, r.curIs = some c → (r.slot c).seq.toNat < y.seq.toNat) :
    (r.setSlot r.target (fun _ => y)).curIs = some r.target := by
  unfold NvRec.target
  cases hc : r.curIs with
  | none =>
    have h1 : r.slot1.valid = false := by
      unfold NvRec.curIs at hc; split at hc <;> simp_all
    simp [NvRec.setSlot, NvRec.curIs, hy, h1]
  | some c =>
    cases c with
    | false =>
      have h0 : r.slot0.valid = true := by
        unfold NvRec.curIs at hc; split at hc <;> simp_all
      have hlt : r.slot0.seq.toNat < y.seq.toNat := hseq false hc
      simp [NvRec.setSlot, NvRec.curIs, hy, h0, hlt]
    | true =>
      have h1 : r.slot1.valid = true := by
        unfold NvRec.curIs at hc; split at hc <;> simp_all
      have hlt : r.slot1.seq.toNat < y.seq.toNat := hseq true hc
      simp [NvRec.setSlot, NvRec.curIs, hy, h1, Nat.le_of_lt hlt]

/-- The first line of a write spoils the slot that is not the current copy, so the current copy stays. -/
theorem NvRec.curIs_spoil (r : NvRec) : (r.setSlot r.target (fun x => { x with hashOk := false })).curIs = r.curIs := by
  have hbad (x : NvSlot) : NvSlot.valid { x with hashOk := false } = false := Bool.and_false _
  unfold NvRec.target
  cases h0 : r.slot0.valid with
  | false => cases h1 : r.slot1.valid <;> simp [NvRec.setSlot, NvRec.curIs, hbad, h0, h1]
  | true =>
    cases h1 : r.slot1.valid with
    | false => simp [NvRec.setSlot, NvRec.curIs, hbad, h0, h1]
    | true => by_cases hlt : r.slot0.seq.toNat < r.slot1.seq.toNat <;> simp [NvRec.setSlot, NvRec.curIs, hbad, h0, h1, hlt]

theorem NvRec.slot_setSlot_self (r : NvRec) (b : Bool) (f : NvSlot → NvSlot) : (r.setSlot b f).slot b = f (r.slot b) := by
  cases b with
  | false => rfl
  | true => rfl

theorem NvRec.slot_setSlot_ne (r : NvRec) {b c : Bool} (f : NvSlot → NvSlot) (h : c ≠ b) : (r.setSlot b f).slot c = r.slot c := by
  cases b with
  | false => cases c with
    | false => exact absurd rfl h
    | true => rfl
  | true => cases c with
    | false => rfl
    | true => exact absurd rfl h

/-- A write goes to the other slot than the current copy's (R609). -/
theorem NvRec.target_ne {r : NvRec} {c : Bool} (h : r.curIs = some c) : c ≠ r.target := by
  unfold NvRec.target
  rw [h]
  cases c with
  | false => decide
  | true => decide

theorem NvRec.setSlot_id (r : NvRec) (b : Bool) (f : NvSlot → NvSlot) : (r.setSlot b f).id = r.id := by
  cases b with
  | false => rfl
  | true => rfl

/-! ## Records of the store -/

theorem State.nvRec_id (id : NvId) (s : State) : (s.nvRec id).id = id := by
  unfold State.nvRec
  split
  · rename_i r hr
    simpa using List.find?_some hr
  · rfl

/-- A record that is changed, its name kept, reads as changed. -/
theorem State.nvRec_setNv_self {id : NvId} {f : NvRec → NvRec} (hf : ∀ r, (f r).id = r.id) (s : State) :
    (s.setNv id f).nvRec id = f (s.nvRec id) := by
  have hid : (f (s.nvRec id)).id = id := (hf _).trans (s.nvRec_id id)
  have hfind : (s.setNv id f).sec.nv.find? (fun x => x.id == id) = some (f (s.nvRec id)) := by
    unfold State.setNv
    dsimp only
    split
    · rename_i hany
      obtain ⟨y, hy⟩ := Option.isSome_iff_exists.1 (List.find?_isSome.2 (List.any_eq_true.1 hany))
      have hsame : ((fun x : NvRec => x.id == id) ∘ fun x => if x.id == id then f (s.nvRec id) else x) = fun x => x.id == id := by
        funext x
        by_cases hx : x.id = id <;> simp [hx, hid]
      rw [List.find?_map, hsame, hy, Option.map_some, if_pos (List.find?_some hy)]
    · rename_i hany
      have hnone : s.sec.nv.find? (fun x => x.id == id) = none :=
        List.find?_eq_none.2 fun x hx hxi => hany (List.any_eq_true.2 ⟨x, hx, hxi⟩)
      rw [List.find?_append, hnone, Option.none_or, List.find?_singleton, if_pos (beq_iff_eq.2 hid)]
  show (match (s.setNv id f).sec.nv.find? (fun x => x.id == id) with | some r => r | none => NvRec.blank id) = _
  rw [hfind]

/-- What the commit line of a write leaves in its slot (R609, R611). -/
def State.commitSlot (w : NvWrite) (s : State) : NvSlot :=
  let r := s.nvRec w.id
  let worn := (r.slot r.target).wear + 1
  let need := sget 0 w.id.region s.sec.reserve + divUp w.data.length 64 + 1
  { marker := .valid, seq := match r.curIs with | some c => (r.slot c).seq + 1 | none => 1, hashOk := true, data := w.data,
    wear := if decide (500000 ≤ worn) && decide (need ≤ reserveLines w.id.region) then 0 else worn }

/-- The record of a write with its commit line programmed. -/
def State.slotCommitted (w : NvWrite) (s : State) : State :=
  s.setNv w.id (fun r => r.setSlot (s.nvRec w.id).target (fun _ => s.commitSlot w))

/-- A commit beside its record changes the reserve and signals wear. -/
theorem State.nvCommit_shape (w : NvWrite) (s : State) : ∃ (move b : Bool) (res : SMap Nat), s.nvCommit w =
    (if move = true then { s.slotCommitted w with sec := { (s.slotCommitted w).sec with reserve := res } }
      else s.slotCommitted w).pulseIf b 19 := ⟨_, _, _, rfl⟩

theorem State.nvCommit_sec (w : NvWrite) (s : State) :
    (s.nvCommit w).sec.nv = (s.slotCommitted w).sec.nv ∧ (s.nvCommit w).sec.writes = s.sec.writes := by
  obtain ⟨move, b, res, e⟩ := s.nvCommit_shape w
  rw [e, State.pulseIf_sec]
  cases move with
  | false => exact ⟨rfl, rfl⟩
  | true => exact ⟨rfl, rfl⟩

/-- The commit line makes the new data the current copy (R609, R610), unless the sequence number overflows. -/
theorem State.nvCommit_nvData {w : NvWrite} {s : State}
    (hseq : ∀ c, (s.nvRec w.id).curIs = some c → ((s.nvRec w.id).slot c).seq.toNat + 1 < 2 ^ 32) :
    (s.nvCommit w).nvData w.id = some w.data := by
  have hrec : (s.nvCommit w).nvRec w.id = (s.nvRec w.id).setSlot (s.nvRec w.id).target (fun _ => s.commitSlot w) := by
    refine Eq.trans ?_ (State.nvRec_setNv_self (fun r => r.setSlot_id _ _) s)
    unfold State.nvRec
    rw [(s.nvCommit_sec w).1]
    rfl
  have hlt : ∀ c, (s.nvRec w.id).curIs = some c → ((s.nvRec w.id).slot c).seq.toNat < (s.commitSlot w).seq.toNat := by
    intro c hc
    have hnew : (s.commitSlot w).seq = ((s.nvRec w.id).slot c).seq + 1 := by
      unfold State.commitSlot
      simp only [hc]
    have hno := hseq c hc
    rw [hnew]
    bv_omega
  unfold State.nvData
  rw [hrec, NvRec.curIs_commit rfl hlt, Option.map_some, NvRec.slot_setSlot_self]
  rfl

/-- The first line leaves the current copy of its record. -/
theorem State.nvSpoil_current (id : NvId) (s : State) : ((s.nvSpoil id).nvRec id).curIs = (s.nvRec id).curIs ∧
    ∀ c, (s.nvRec id).curIs = some c → ((s.nvSpoil id).nvRec id).slot c = (s.nvRec id).slot c := by
  have hrec : (s.nvSpoil id).nvRec id = (s.nvRec id).setSlot (s.nvRec id).target (fun x => { x with hashOk := false }) :=
    State.nvRec_setNv_self (f := fun r => r.setSlot r.target (fun x => { x with hashOk := false })) (fun r => r.setSlot_id _ _) s
  rw [hrec]
  exact ⟨NvRec.curIs_spoil _, fun c hc => NvRec.slot_setSlot_ne _ _ (NvRec.target_ne hc)⟩

/-! ## Line programs (R609) -/

/-- A write that belongs to no lifecycle transition starts with its first line alone. -/
theorem State.nvStart_of_layout {w : NvWrite} {s : State} (h : w.why = .layout) : s.nvStart w = s.nvSpoil w.id := by
  have hwhy : (w.why == NvWhy.newState || w.why == NvWhy.clear) = false := by rw [h]; rfl
  unfold State.nvStart
  simp only [hwhy, Bool.false_eq_true, if_false]
  split
  · rfl
  · rfl

theorem State.nvDone_sec_of_layout {w : NvWrite} {rest : List NvWrite} {s : State} (h : w.why = .layout) :
    (s.nvDone w rest).sec = s.sec := by
  unfold State.nvDone
  simp only [h]
  split
  · rw [State.done_sec]
  · rfl

@[simp] theorem State.nvSafe_sec (s : State) : s.nvSafe.sec = s.sec := rfl

@[simp] theorem State.nvSafe_ctx (n : Nat) (s : State) : s.nvSafe.ctx n = s.ctx n := rfl

section
variable {tm : Nat} {s : State} {w : NvWrite} {rest : List NvWrite}

/-- The writes still to come are these. -/
def State.withWrites (ws : List NvWrite) (s : State) : State := { s with sec := { s.sec with writes := ws } }

/-- The oldest write once the line in progress has been programmed. -/
def State.nvBegun (w : NvWrite) (s : State) : State := if w.begun then s else s.nvStart w

/-- A line before the last one: the write goes on, or waits where VDD_NV is low (R107, R609). -/
theorem nvLineProgramDone_goes_on (hw : s.sec.writes = w :: rest) (hwait : w.waitSince = none) (hl : 2 ≤ w.left)
    (hstop : s.sec.stopNv = false ∨ w.left = 2) :
    ∃ t, exec (.nvLineProgramDone tm) s = .next t ∧ t.sec.writes =
      { w with left := w.left - 1, begun := true, waitSince := if s.sec.vddNvLow then some (max s.now tm) else none } :: rest := by
  have hleft : ¬ w.left - 1 = 0 := by omega
  have hgo : (s.sec.stopNv && decide (1 < w.left - 1)) = false := by
    rcases hstop with h | h
    · rw [h]; rfl
    · rw [h]; exact Bool.and_false _
  have he : exec (.nvLineProgramDone tm) s = execNvLineProgramDone tm s := rfl
  unfold execNvLineProgramDone at he
  simp only [State.atTime_sec, hw, hwait, Option.isSome_none, Bool.false_eq_true, if_false, hleft, hgo, State.out_eq] at he
  exact ⟨_, he, by rw [State.settle_sec]; rfl⟩

theorem exec_nvLineProgramDone_of_last (hw : s.sec.writes = w :: rest) (hwait : w.waitSince = none) (hl : w.left = 1) :
    exec (.nvLineProgramDone tm) s =
      .next (((((s.atTime tm).nvBegun w).withWrites rest).nvCommit w).nvDone w rest).nvSafe.settle := by
  have he : exec (.nvLineProgramDone tm) s = execNvLineProgramDone tm s := rfl
  unfold execNvLineProgramDone at he
  simp only [State.atTime_sec, hw, hwait, Option.isSome_none, Bool.false_eq_true, if_false, hl, Nat.sub_self, if_true,
    State.out_eq] at he
  exact he

/-- The last line of a record makes its data the current copy. -/
theorem nvLineProgramDone_commits (hw : s.sec.writes = w :: rest) (hwait : w.waitSince = none) (hl : w.left = 1)
    (hwhy : w.why = .layout)
    (hseq : ∀ b, (s.nvRec w.id).curIs = some b → ((s.nvRec w.id).slot b).seq.toNat + 1 < 2 ^ 32) :
    ∃ t, exec (.nvLineProgramDone tm) s = .next t ∧ t.sec.writes = rest ∧ t.nvData w.id = some w.data := by
  have hseq' : ∀ c, ((((s.atTime tm).nvBegun w).withWrites rest).nvRec w.id).curIs = some c →
      (((((s.atTime tm).nvBegun w).withWrites rest).nvRec w.id).slot c).seq.toNat + 1 < 2 ^ 32 := by
    show ∀ c, (((s.atTime tm).nvBegun w).nvRec w.id).curIs = some c →
      ((((s.atTime tm).nvBegun w).nvRec w.id).slot c).seq.toNat + 1 < 2 ^ 32
    unfold State.nvBegun
    split
    · exact hseq
    · obtain ⟨hcur, hslot⟩ := (s.atTime tm).nvSpoil_current w.id
      rw [State.nvStart_of_layout hwhy, hcur]
      intro c hc
      rw [hslot c hc]
      exact hseq c hc
  refine ⟨_, exec_nvLineProgramDone_of_last hw hwait hl, ?_, ?_⟩
  · rw [State.settle_sec, State.nvSafe_sec, State.nvDone_sec_of_layout hwhy, (State.nvCommit_sec ..).2]
    rfl
  · rw [← State.nvCommit_nvData hseq']
    unfold State.nvData State.nvRec
    rw [State.settle_sec, State.nvSafe_sec, State.nvDone_sec_of_layout hwhy]

/-! ## VDD_NV (R107, R610) -/

theorem vddNvLow_waits : ∃ t, exec (.vddNvLow tm) s = .next t ∧ t.sec.vddNvLow = true ∧
    t.sec.writes.head? = s.sec.writes.head? ∧ ∀ w ∈ t.sec.writes.tail, w.waitSince.isSome = true := by
  have he : exec (.vddNvLow tm) s = execVddNvLow tm s := rfl
  unfold execVddNvLow at he
  simp only [State.out_eq, State.atTime_sec] at he
  refine ⟨_, he, ?_⟩
  rw [State.settle_sec]
  cases s.sec.writes with
  | nil => exact ⟨rfl, rfl, fun w hw => nomatch hw⟩
  | cons x l =>
    refine ⟨rfl, rfl, fun w hw => ?_⟩
    obtain ⟨y, -, rfl⟩ := List.mem_map.1 hw
    rfl

theorem vddNvRecover_goes_on : ∃ t, exec (.vddNvRecover tm) s = .next t ∧ t.sec.vddNvLow = false ∧
    ∀ w ∈ t.sec.writes, w.waitSince = none := by
  refine ⟨_, rfl, ?_⟩
  rw [State.settle_sec]
  refine ⟨rfl, fun w hw => ?_⟩
  obtain ⟨y, -, rfl⟩ := List.mem_map.1 hw
  rfl

end

/-! ## Writes given up (R610) -/

/-- A context with no command has none after the end of a command. -/
theorem State.finish_cur_of_none {n k : Nat} {s : State} (st : OpState) (code : Nat) (data : List Byte) (h : (s.ctx k).cur = none) :
    ((s.finish n st code data []).ctx k).cur = none := by
  by_cases e : k = n
  · subst e; exact State.finish_cur ..
  · rw [State.finish_ctx_ne _ _ _ _ e]; exact h

/-- The command that asked for the write ends, and none starts. -/
theorem State.nvDrop_cur {w : NvWrite} {s : State} {k : Nat} (h : w.ctx = some k ∨ (s.ctx k).cur = none) :
    ((s.nvDrop w).ctx k).cur = none := by
  unfold State.nvDrop
  cases hc : w.ctx with
  | none =>
    rcases h with h | h
    · exact nomatch hc.symm.trans h
    · exact h
  | some n =>
    have hend (u : State) (st : OpState) (hu : u.ctx k = s.ctx k) : ((u.finish n st cHw [] []).ctx k).cur = none := by
      rcases h with h | h
      · obtain rfl : n = k := Option.some.inj (hc.symm.trans h)
        exact State.finish_cur ..
      · exact State.finish_cur_of_none _ _ _ (by rw [hu]; exact h)
    dsimp only
    split
    · exact hend _ _ rfl
    · exact hend _ _ rfl

/-- The other writes wait as before. -/
theorem State.nvDrop_waits {w x : NvWrite} {s : State} (hx : x ∈ (s.nvDrop w).sec.writes) :
    ∃ y ∈ s.sec.writes, x.waitSince = y.waitSince := by
  unfold State.nvDrop at hx
  cases hc : w.ctx with
  | none => rw [hc] at hx; exact ⟨x, hx, rfl⟩
  | some n =>
    rw [hc] at hx
    have hmap : x ∈ s.sec.writes.map (fun x => if x.ctx == some n then { x with ctx := none } else x) := by
      dsimp only at hx
      split at hx
      · rw [State.secFail, State.secEnd, State.finish_sec] at hx; exact hx
      · rw [State.failWith_sec] at hx; exact hx
    obtain ⟨y, hy, rfl⟩ := List.mem_map.1 hmap
    refine ⟨y, hy, ?_⟩
    split
    · rfl
    · rfl

/-- A write has waited 10 ms. -/
def NvWrite.late (now : Nat) (w : NvWrite) : Bool :=
  match w.waitSince with | some a => decide (a + 10000000 ≤ now) | none => false

theorem NvWrite.late_of_le {now a : Nat} {w : NvWrite} (hw : w.waitSince = some a) (h : a + 10000000 ≤ now) : w.late now = true := by
  unfold NvWrite.late; rw [hw]; exact decide_eq_true h

/-- The writes given up. -/
def State.lateWrites (s : State) : List NvWrite := s.sec.writes.filter (NvWrite.late s.now)

/-- They have left the list of writes; an SVN write among them is due again (R598). -/
def State.lateGone (s : State) : State :=
  { s with sec := { s.sec with writes := s.sec.writes.filter (fun w => !w.late s.now),
                               svnDue := s.sec.svnDue || s.lateWrites.any (·.why == NvWhy.svn) } }

/-- The command of a context ends where one of these writes is its own. -/
def State.dropFor (gone : List NvWrite) (s : State) (n : Nat) : State :=
  match gone.find? (fun w => w.ctx == some n) with | some w => s.nvDrop w | none => s

theorem exec_nvWriteWaitTimeout (tm : Nat) (s : State) : exec (.nvWriteWaitTimeout tm) s =
    .next ((((s.atTime tm).lateWrites.filterMap (fun w => w.ctx)).eraseDups.foldl (State.dropFor (s.atTime tm).lateWrites)
      (s.atTime tm).lateGone).nvSafe).settle := rfl

/-- What one element of a list brings about, and every other keeps, holds after a pass over the list. -/
theorem foldl_of_mem {α β : Type} {P : β → Prop} {f : β → α → β} {l : List α} {n : α} (hn : n ∈ l) (hkeep : ∀ s k, P s → P (f s k))
    (hset : ∀ s, P (f s n)) (s : β) : P (l.foldl f s) := by
  obtain ⟨a, b, rfl⟩ := List.append_of_mem hn
  rw [List.foldl_append, List.foldl_cons]
  exact List.foldlRecOn b f (hset _) fun t ht k _ => hkeep t k ht

theorem State.dropFor_keeps_cur {gone : List NvWrite} {s : State} {n k : Nat} (h : (s.ctx k).cur = none) :
    ((s.dropFor gone n).ctx k).cur = none := by
  unfold State.dropFor
  split
  · exact State.nvDrop_cur (.inr h)
  · exact h

theorem State.dropFor_ends {gone : List NvWrite} {w : NvWrite} {n : Nat} (hw : w ∈ gone) (hn : w.ctx = some n) (s : State) :
    ((s.dropFor gone n).ctx n).cur = none := by
  obtain ⟨x, hx⟩ := Option.isSome_iff_exists.1
    ((List.find?_isSome (xs := gone) (p := fun w => w.ctx == some n)).2 ⟨w, hw, beq_iff_eq.2 hn⟩)
  unfold State.dropFor
  rw [hx]
  exact State.nvDrop_cur (.inl (by simpa using List.find?_some hx))

theorem State.dropFor_waits {gone : List NvWrite} {now n : Nat} {s : State} (h : ∀ w ∈ s.sec.writes, w.late now = false) :
    ∀ w ∈ (s.dropFor gone n).sec.writes, w.late now = false := by
  unfold State.dropFor
  split
  · intro x hx
    obtain ⟨y, hy, e⟩ := State.nvDrop_waits hx
    rw [← h y hy]
    unfold NvWrite.late
    rw [e]
  · exact h

/-- After the timeout no write has waited 10 ms, and the commands of those given up have ended. -/
theorem nvWriteWaitTimeout_gives_up {tm : Nat} {s : State} : ∃ t, exec (.nvWriteWaitTimeout tm) s = .next t ∧
    (∀ w ∈ t.sec.writes, ∀ a, w.waitSince = some a → max s.now tm < a + 10000000) ∧
    (∀ w ∈ s.sec.writes, ∀ a n, w.waitSince = some a → a + 10000000 ≤ max s.now tm → w.ctx = some n → (t.ctx n).cur = none) := by
  refine ⟨_, exec_nvWriteWaitTimeout tm s, ?_, ?_⟩
  · rw [State.settle_sec, State.nvSafe_sec]
    have hkept : ∀ w ∈ (s.atTime tm).lateGone.sec.writes, w.late (max s.now tm) = false := fun w hw =>
      (Bool.not_eq_true' _).mp (List.mem_filter.1 hw).2
    intro w hw a ha
    refine Nat.lt_of_not_le fun hle => ?_
    have hlate := List.foldlRecOn (motive := fun u : State => ∀ w ∈ u.sec.writes, w.late (max s.now tm) = false) _ _ hkept
      (fun u hu n _ => State.dropFor_waits hu) w hw
    exact absurd ((NvWrite.late_of_le ha hle).symm.trans hlate) (by decide)
  · intro w hw a n ha hle hn
    have hgone : w ∈ (s.atTime tm).lateWrites := List.mem_filter.2 ⟨hw, NvWrite.late_of_le ha hle⟩
    have hmem : n ∈ ((s.atTime tm).lateWrites.filterMap (fun w => w.ctx)).eraseDups :=
      List.mem_eraseDups.2 (List.mem_filterMap.2 ⟨w, hgone, hn⟩)
    rw [State.settle_ctx, State.nvSafe_ctx]
    exact foldl_of_mem (P := fun u : State => (u.ctx n).cur = none) (f := State.dropFor (s.atTime tm).lateWrites) hmem (fun u k hu => State.dropFor_keeps_cur hu)
      (State.dropFor_ends hgone hn) _

/-- Settles O33, event by event. -/
theorem nvEventsComplete : Obligations.NvEventsComplete := fun _ _ =>
  ⟨fun _ _ hw hwait => ⟨nvLineProgramDone_goes_on hw hwait, nvLineProgramDone_commits hw hwait⟩, vddNvLow_waits,
    vddNvRecover_goes_on, nvWriteWaitTimeout_gives_up⟩

end Sys2Proof.Machine
end

section
/-! PROOFS. The clocks' events, and the ends of transitions to IDLE (R36, R38, R46, R94, R98, R99, R101, R121). -/

namespace Sys2Proof.Machine

/-! ## Numbers and tables -/

/-- A pass over the values of a table relates each entry to what it was, where the default is related to itself. -/
theorem sget_map_rel {α : Type} {R : α → α → Prop} {d : α} {g : Nat → α → α} (hd : R d d) (hg : ∀ k v, R v (g k v)) (k : Nat)
    (m : SMap α) : R (sget d k m) (sget d k (m.map (fun x => (x.1, g x.1 x.2)))) := by
  induction m with
  | nil => exact hd
  | cons x m ih =>
    simp only [List.map_cons, sget]
    split
    · exact hg ..
    · exact ih

theorem oneStep_natAbs_le (now goal : Int) : (oneStep now goal - now).natAbs ≤ 1 := by
  unfold oneStep
  split
  · omega
  · split
    · omega
    · omega

theorem mkBits_succ (n : Nat) (f : Nat → Bool) : mkBits (n + 1) f = 2 ^ n * b2n (f n) + mkBits n f := by
  simp only [mkBits, List.range_succ, List.map_append, List.sum_append, List.map_singleton, List.sum_singleton]
  rw [Nat.add_comm, Nat.mul_comm]

theorem b2n_lt (b : Bool) : b2n b < 2 := by cases b <;> decide

theorem mkBits_lt (n : Nat) (f : Nat → Bool) : mkBits n f < 2 ^ n := by
  induction n with
  | zero => exact Nat.one_pos
  | succ n ih =>
    have hb : 2 ^ n * b2n (f n) ≤ 2 ^ n * 1 := Nat.mul_le_mul_left _ (Nat.le_of_lt_succ (b2n_lt _))
    rw [mkBits_succ, Nat.pow_succ]
    omega

/-- Bit `j` of a bit array is what the array has been made of. -/
theorem mkBits_testBit {n j : Nat} (hj : j < n) (f : Nat → Bool) : (mkBits n f).testBit j = f j := by
  induction n with
  | zero => omega
  | succ n ih =>
    rw [mkBits_succ, Nat.testBit_two_pow_mul_add _ (mkBits_lt n f)]
    split
    · rename_i h; exact ih h
    · obtain rfl : j = n := by omega
      rw [Nat.sub_self]
      cases f j with
      | false => rfl
      | true => rfl

theorem mkBits_getLsbD {n j : Nat} (hj : j < n) (f : Nat → Bool) : (BitVec.ofNat n (mkBits n f)).getLsbD j = f j := by
  rw [BitVec.getLsbD_ofNat, mkBits_testBit hj, decide_eq_true hj, Bool.true_and]

/-! ## Clocks (R94, R98, R99, R101, R121) -/

section
variable {tm : Nat} {s : State}

/-- In its window the always-on clock moves to the crystal (R94). -/
theorem aonXtalSwitch_moves (hsrc : s.clk.aonSrc = false) (hlock : s.clk.xtalLocked = false)
    (hlo : s.rst.powerAt + 2000000 ≤ max s.now tm) (hhi : max s.now tm ≤ s.rst.powerAt + 5000000) :
    ∃ t, exec (.aonXtalSwitch tm) s = .next t ∧ t.clk = { s.clk with aonSrc := true } := by
  have hge : 2000000 ≤ (s.atTime tm).now - s.rst.powerAt := Nat.le_sub_of_add_le' hlo
  have hle : (s.atTime tm).now - s.rst.powerAt ≤ 5000000 := Nat.sub_le_iff_le_add'.2 hhi
  have he : exec (.aonXtalSwitch tm) s = execAonXtalSwitch tm s := rfl
  unfold execAonXtalSwitch at he
  simp only [State.atTime_clk, State.atTime_rst, hsrc, hlock, hge, hle, decide_true, Bool.not_false, Bool.and_self, if_true,
    State.out_eq] at he
  refine ⟨_, he, ?_⟩
  rw [State.settle_clk]
  exact congrArg (fun b => { s.clk with aonSrc := true, xtalLocked := b }) hlock.symm

/-- The crystal's failure moves it off for good, with event 2 (R94). -/
theorem aonXtalLoss_moves (hsrc : s.clk.aonSrc = true) :
    ∃ t, exec (.aonXtalLoss tm) s = .next t ∧ t.clk = { s.clk with aonSrc := false, xtalLocked := true } ∧
      (s.mode.mode ≠ .boot → t.ev.latch.getLsbD 2 = true) := by
  have he : exec (.aonXtalLoss tm) s = execAonXtalLoss tm s := rfl
  unfold execAonXtalLoss at he
  simp only [State.atTime_clk, hsrc, if_true, State.out_eq] at he
  exact ⟨_, he, by rw [State.settle_clk, State.pulse_clk],
    fun hm => State.settle_latch_mono (State.pulse_latch (by decide) hm)⟩

/-- The trims of the compensated circuits move by at most one unit (R121). -/
theorem oscCompUpdate_steps (hc : s.clk.aonComp = true) :
    ∃ t, exec (.oscCompUpdate tm) s = .next t ∧ ∀ k,
      (sget CompTrim.reset k t.clk.comp).points = (sget CompTrim.reset k s.clk.comp).points ∧
      ((sget CompTrim.reset k t.clk.comp).trim - (sget CompTrim.reset k s.clk.comp).trim).natAbs ≤ 1 := by
  have he : exec (.oscCompUpdate tm) s = execOscCompUpdate tm s := rfl
  unfold execOscCompUpdate at he
  simp only [State.atTime_clk, hc, Bool.not_true, Bool.false_eq_true, if_false, State.out_eq] at he
  refine ⟨_, he, fun k => ?_⟩
  rw [State.settle_clk]
  exact sget_map_rel (R := fun x y : CompTrim => y.points = x.points ∧ (y.trim - x.trim).natAbs ≤ 1)
    (g := fun i x => { x with trim := oneStep x.trim (compAt ((s.atTime tm).circuitTemp i) (compTemps.zip x.points)) })
    ⟨rfl, by simp⟩ (fun _ _ => ⟨rfl, oneStep_natAbs_le _ _⟩) k s.clk.comp

/-- The temperature difference between a die and the next one. -/
def State.dieStep (j : Nat) (s : State) : Nat := (s.dieTemp j - s.dieTemp (j + 1)).natAbs

theorem Member.dies_le (m : Member) : m.dies ≤ 4 := by cases m <;> decide

/-- The comparison sets its bit above 25 degrees, clears it up to 23 degrees, and keeps it in between (R98, R101). -/
theorem regionCompare_compares :
    ∃ t, exec (.regionCompare tm) s = .next t ∧ ∀ j, j + 1 < s.board.member.dies →
      t.clk.skewTemp.getLsbD j = if 6400 < s.dieStep j then true else s.clk.skewTemp.getLsbD j && decide (5888 < s.dieStep j) := by
  refine ⟨_, rfl, fun j hj => ?_⟩
  have h3 : j < 3 := by have := Member.dies_le s.board.member; omega
  rw [State.settle_clk]
  exact (mkBits_getLsbD h3 _).trans (if_neg (Nat.not_le.2 hj))

end

/-! ## What entry into IDLE leaves of MODE_SEQ (R36) -/

/-- `t` shows the count of mode changes that `s` shows. -/
def State.SparesSeq (s t : State) : Prop := t.mode.modeSeq = s.mode.modeSeq

namespace State.SparesSeq

variable {s t u : State}

theorem refl (s : State) : s.SparesSeq s := rfl

theorem trans (h : s.SparesSeq t) (k : t.SparesSeq u) : s.SparesSeq u := Eq.trans k h

theorem ite {c : Prop} [Decidable c] (ht : s.SparesSeq t) (hu : s.SparesSeq u) : s.SparesSeq (if c then t else u) := by
  split
  · exact ht
  · exact hu

theorem foldl {α : Type} {f : State → α → State} (hf : ∀ (s : State) (x : α), s.SparesSeq (f s x)) (l : List α) (s : State) :
    s.SparesSeq (l.foldl f s) :=
  List.foldlRecOn l f (refl s) fun t ht x _ => ht.trans (hf t x)

theorem of_signals (h : s.Signals t) : s.SparesSeq t := by
  obtain ⟨_, _, _, _, _, _, _, _, rfl⟩ := h; rfl

theorem of_portStep (h : s.PortStep t) : s.SparesSeq t := by
  obtain ⟨⟨_, _, _, _, _, _, _, _, _, _, rfl⟩, -⟩ := h; rfl

theorem of_pulse (i : Nat) : s.SparesSeq (s.pulse i) := of_signals (s.pulse_signals i)

theorem of_pulseIf (b : Bool) (i : Nat) : s.SparesSeq (s.pulseIf b i) := of_signals (s.pulseIf_signals b i)

theorem of_finish (n : Nat) (st : OpState) (code : Nat) (data pay : List Byte) : s.SparesSeq (s.finish n st code data pay) :=
  congrArg ModeUnit.modeSeq (State.finish_mode ..)

theorem of_setAx (x : Nat) (f : Axis → Axis) : s.SparesSeq (s.setAx x f) := rfl

/-! ### Axes (R387, R395, R397) -/

theorem of_moveOver (x : Nat) (m : Move) (st : OpState) (code : Nat) : s.SparesSeq (s.moveOver x m st code) := by
  unfold State.moveOver
  dsimp only
  split
  · exact ((foldl (fun _ y => of_setAx y _) _ s).trans (of_finish ..)).trans (foldl (fun _ _ => of_pulse _) _ _)
  · exact (foldl (fun _ y => of_setAx y _) _ s).trans (foldl (fun _ _ => of_pulse _) _ _)

theorem of_flushMoves (x : Nat) : s.SparesSeq (s.flushMoves x) := foldl (fun _ m => of_moveOver x m _ _) _ s

theorem of_stopMove (x code : Nat) : s.SparesSeq (s.stopMove x code) := ite (refl s) rfl

theorem of_stopAll (x : Nat) : s.SparesSeq (s.stopAll x) := (of_flushMoves x).trans (of_stopMove ..)

theorem of_comeToRest (x : Nat) : s.SparesSeq (s.comeToRest x) :=
  (of_setAx x _).trans (foldl (fun _ _ => of_finish ..) _ _)

theorem of_endMove (x : Nat) (st : OpState) (code : Nat) : s.SparesSeq (s.endMove x st code) := by
  unfold State.endMove
  split
  · exact of_comeToRest x
  · exact (foldl (fun _ y => of_setAx y _) _ s).trans ((of_moveOver ..).trans (foldl (fun _ y => of_comeToRest y) _ _))

theorem of_haltAxis (x : Nat) (st : MotState) (cause : Nat) : s.SparesSeq (s.haltAxis x st cause) := by
  unfold State.haltAxis
  dsimp only
  refine (trans ?_ (of_pulse _))
  refine trans ((of_flushMoves x).trans (of_setAx x _)) (ite ?_ (ite (of_endMove ..) (of_comeToRest x)))
  refine trans ?_ (of_comeToRest _)
  split
  · exact ((of_setAx _ _).trans (of_moveOver ..)).trans (of_setAx _ _)
  · exact (of_setAx _ _).trans (of_setAx _ _)

theorem of_gatesOn : s.SparesSeq s.gatesOn :=
  foldl (fun _ x => ite (ite (of_haltAxis x _ _) (of_setAx x _)) (refl _)) _ s

/-! ### Calibrations and tests (R547) -/

theorem of_shdCalEnd : s.SparesSeq s.shdCalEnd := by
  unfold State.shdCalEnd
  split
  · exact refl s
  · exact trans rfl (of_finish ..)

theorem of_shdCalOut (code : Nat) (data pay : List Byte) : s.SparesSeq (s.shdCalOut code data pay) := by
  unfold State.shdCalOut
  split
  · exact refl s
  · exact ite rfl (trans rfl of_shdCalEnd)

theorem of_tileStep : s.SparesSeq s.tileStep := by
  have hfail (f : ShdCal → ShdCal) : s.SparesSeq ((s.setCal f).shdCalEnd) := trans rfl of_shdCalEnd
  unfold State.tileStep
  split
  · exact refl s
  · dsimp only
    split
    · exact ite (refl s) (ite rfl (hfail _))
    · exact ite (refl s) (ite rfl (hfail _))
    · exact ite rfl (refl s)
    · exact ite (refl s) (ite rfl (hfail _))
    · exact ite (refl s) (ite of_shdCalEnd (hfail _))
    · exact refl s

theorem of_shdAbort : s.SparesSeq s.shdAbort := by
  unfold State.shdAbort
  split
  · exact refl s
  · exact ((ite ((of_stopAll 1).trans (of_stopAll 2)) (refl s)).trans (of_shdCalOut ..)).trans of_tileStep

theorem of_alnOut (code : Nat) (ports : List Nat) : s.SparesSeq (s.alnOut code ports) := by
  unfold State.alnOut
  split
  · exact refl s
  · exact trans rfl (of_finish ..)

theorem of_lampTestEnd (st : OpState) (code : Nat) : s.SparesSeq (s.lampTestEnd st code) := by
  unfold State.lampTestEnd
  split
  · exact refl s
  · exact trans rfl (of_finish ..)

theorem of_abortCtx (n : Option Nat) : s.SparesSeq (s.abortCtx n) := by
  cases n with
  | none => exact refl s
  | some n => exact of_finish ..

theorem of_cutRest : s.SparesSeq s.cutRest := by
  have h1 : s.SparesSeq (s.alnAbort.lampTestEnd .aborted cAborted) := (of_alnOut ..).trans (of_lampTestEnd ..)
  have h2 (t : State) (n : Option Nat) : t.SparesSeq (({ t with ports := { t.ports with fgCal := none } }).abortCtx n) :=
    of_abortCtx n
  have h3 (t : State) (n : Option Nat) : t.SparesSeq (({ t with dram := { t.dram with trainCtx := none } }).abortCtx n) :=
    of_abortCtx n
  have h4 (t : State) (n : Option Nat) : t.SparesSeq (({ t with diag := { t.diag with selfTest := none } }).abortCtx n) :=
    of_abortCtx n
  exact ((h1.trans (h2 _ _)).trans (h3 _ _)).trans (h4 _ _)

theorem of_cutShort : s.SparesSeq s.cutShort := of_shdAbort.trans of_cutRest

/-! ### Queues (R489, R491, R494) -/

theorem of_addCell (n : Nat) (bs : List Byte) : s.SparesSeq (s.addCell n bs) := by
  have hpick : s.SparesSeq s.pickCell.2 := rfl
  unfold State.addCell
  generalize s.pickCell = c at hpick
  obtain ⟨id, s1⟩ := c
  exact trans hpick rfl

theorem of_push {n : Nat} {bs : List Byte} (h : s.push n bs = some t) : s.SparesSeq t := by
  have hset (f : Queue → Queue) : s.SparesSeq (s.setQ n f) := rfl
  unfold State.push at h
  dsimp only at h
  split_ifs at h
  · rw [← Option.some.inj h]; exact hset _
  · rw [← Option.some.inj h]; exact (hset _).trans (of_addCell ..)
  · rw [← Option.some.inj h]; exact (hset _).trans (of_addCell ..)

theorem of_pushItems (n : Nat) (l : List (List Byte)) : s.SparesSeq (s.pushItems n l) := by
  induction l generalizing s with
  | nil => exact refl s
  | cons b l ih =>
    unfold State.pushItems
    split
    · split
      · rename_i t ht; exact (of_push ht).trans ih
      · rfl
    · rfl

theorem of_pushHard (n : Nat) (bs : List Byte) : s.SparesSeq (s.pushHard n bs) := of_pushItems ..

/-! ### Pages and services (R312, R316) -/

theorem of_svRecord (k : Nat) (bs : List Byte) : s.SparesSeq (s.svRecord k bs) := by
  unfold State.svRecord
  split
  · exact of_pushHard ..
  · exact refl s

theorem of_setPage (k : Nat) (f : SvPage → SvPage) : s.SparesSeq (s.setPage k f) := rfl

theorem of_svSet (pg k : Nat) (x : SvProg) : s.SparesSeq (s.svSet pg k x) := of_setPage ..

theorem of_reducedOut (j : Job) (p : SvPage) (ty : Nat) : s.SparesSeq (s.reducedOut j p ty) :=
  ite (refl s) (foldl (fun _ _ => congrArg ModeUnit.modeSeq (State.dramReq_mode ..)) _ s)

theorem of_defect (pg : Nat) (b : List OverPix) : s.SparesSeq (s.defect pg b) := by
  unfold State.defect
  split
  · exact refl s
  · exact (of_setPage ..).trans (ite (of_svRecord ..) (of_pulseIf ..))

theorem of_emitBlobs (pg row rows : Nat) : s.SparesSeq (s.emitBlobs pg row rows) := by
  unfold State.emitBlobs
  split
  · split
    · exact refl s
    · exact foldl (fun _ b => of_defect pg b) _ s
  · exact refl s

theorem of_judge (pg : Nat) : s.SparesSeq (s.judge pg) := by
  unfold State.judge
  split
  · exact ite (refl s) (ite rfl rfl)
  · exact refl s

theorem of_ladleOut (pg : Nat) (last : Bool) : s.SparesSeq (s.ladleOut pg last) := by
  unfold State.ladleOut
  split
  · refine foldl (fun s t => ?_) _ s
    split
    · exact refl s
    · dsimp only
      refine trans ?_ (of_setPage ..)
      exact foldl (fun s _ => trans (t := (s.free 48).2) rfl ((of_setPage pg _).trans (of_svRecord ..))) _ s
  · exact refl s

theorem of_sieveRows (pg n : Nat) : s.SparesSeq (s.sieveRows pg n) := by
  induction n generalizing s with
  | zero => exact refl s
  | succ n ih =>
    unfold State.sieveRows
    split
    · exact ite (((of_setPage ..).trans (ite (refl _) (of_emitBlobs ..))).trans ih) (refl s)
    · exact refl s

theorem of_sieveGo (pg : Nat) : s.SparesSeq (s.sieveGo pg) := by
  unfold State.sieveGo
  split
  · rename_i j p _ _
    have hrows : s.SparesSeq (s.sieveRows pg ((j.view s.board p).tilesY + 1)) := of_sieveRows ..
    refine ite (refl s) ?_
    dsimp only
    split
    · exact ite (((hrows.trans (ite (refl _) (of_emitBlobs ..))).trans (of_svSet ..)).trans (of_judge pg)) hrows
    · exact hrows
  · exact refl s

theorem of_tongsGo (pg : Nat) : s.SparesSeq (s.tongsGo pg) := by
  unfold State.tongsGo
  split
  · exact ite (refl s) ((foldl (fun s w => ite (refl s) (of_svRecord ..)) _ s).trans (of_svSet ..))
  · exact refl s

theorem of_ladleGo (pg : Nat) : s.SparesSeq (s.ladleGo pg) := by
  unfold State.ladleGo
  split
  · exact ite (refl s) ((of_ladleOut ..).trans (ite (of_svSet ..) (refl _)))
  · exact refl s

theorem of_previewGo (pg : Nat) : s.SparesSeq (s.previewGo pg) := by
  unfold State.previewGo
  split
  · exact ite ((of_svRecord ..).trans (of_svSet ..)) (refl s)
  · exact refl s

theorem of_cropGo (pg : Nat) : s.SparesSeq (s.cropGo pg) := by
  unfold State.cropGo
  split
  · exact ite (of_svSet ..) (refl s)
  · exact refl s

theorem of_svAdvance : s.SparesSeq s.svAdvance := by
  unfold State.svAdvance
  split
  · exact foldl (fun s k => ((((of_tongsGo k).trans (of_sieveGo k)).trans (of_ladleGo k)).trans (of_previewGo k)).trans (of_cropGo k)) _ s
  · exact refl s

theorem of_svClose (e : PageEnd) : s.SparesSeq (s.svClose e) := by
  unfold State.svClose
  split
  · exact ((ite (refl s) (of_reducedOut ..)).trans (of_setPage ..)).trans of_svAdvance
  · exact refl s

theorem of_closePage (e : PageEnd) : s.SparesSeq (s.closePage e) := by
  unfold State.closePage
  split
  · exact refl s
  · refine .trans ?_ (of_svClose e)
    split
    · exact trans rfl (of_pushHard ..)
    · rfl

theorem of_svFinish : s.SparesSeq s.svFinish := by
  unfold State.svFinish
  split
  · exact refl s
  · refine ite (refl s) ?_
    split
    · exact ite rfl rfl
    · exact ite rfl (trans rfl (of_finish ..))

theorem of_svEnd (ctx : Option Nat) : s.SparesSeq (s.svEnd ctx) := by
  unfold State.svEnd
  split
  · exact refl s
  · dsimp only
    refine trans (trans rfl ?_) of_svFinish
    exact foldl (fun _ _ => of_finish ..) _ (s.setJob _)

theorem of_endCapture (code : Nat) : s.SparesSeq (s.endCapture code) :=
  ((of_closePage _).trans (of_svEnd none)).trans rfl

end State.SparesSeq

/-! ## Ports on the way to IDLE (R51, R157, R159) -/

theorem State.powerDown_portStep (p : Nat) (s : State) : s.PortStep (s.powerDown p) :=
  .of_setSeg fun x => by split <;> rfl

theorem State.removePort_portStep (p : Nat) (s : State) : s.PortStep (s.removePort p) :=
  (s.powerDown_portStep p).trans (State.portTo_portStep ..)

theorem State.removals_portStep (s : State) : s.PortStep s.removals :=
  .foldl (fun s p => .ite (s.removePort_portStep p) (.refl s)) _ s

theorem State.portsOn_portStep (s : State) : s.PortStep s.portsOn := by
  unfold State.portsOn
  refine .foldl (fun _ _ => .of_setSeg ?_) _ s
  exact fun _ => rfl

theorem State.powerUp_sparesSeq (s : State) : s.SparesSeq s.powerUp :=
  .ite (.of_portStep s.diesOn_portStep)
    ((State.SparesSeq.of_portStep (s.diesOn_portStep.trans (State.portsOn_portStep _))).trans .of_gatesOn)

theorem State.removals_sparesSeq (s : State) : s.SparesSeq s.removals := .of_portStep s.removals_portStep

theorem State.zeroRest_sparesSeq (s : State) : s.SparesSeq s.zeroRest := rfl

/-- The row-stagger buffer and the Pan queues are no part of the mode. -/
theorem State.panClear_sparesSeq (s : State) : s.SparesSeq s.stagFree.panClear := rfl

/-- Entry into IDLE counts no mode change itself, from whichever mode. -/
theorem State.idleEntry_sparesSeq (s : State) : s.SparesSeq s.idleEntry := by
  unfold State.idleEntry
  split
  · exact (s.zeroRest_sparesSeq.trans (State.powerUp_sparesSeq _)).trans (State.removals_sparesSeq _)
  · exact .of_cutShort
  · exact (s.panClear_sparesSeq.trans (State.powerUp_sparesSeq _)).trans (State.removals_sparesSeq _)
  · exact s.removals_sparesSeq
  · exact ((State.SparesSeq.of_endCapture 5).trans .of_cutShort).trans (State.panClear_sparesSeq _)

/-! ## Arrival in IDLE (R36, R38, R46) -/

/-- IDLE is shown: MODE, TARGET, TRANSIT and MODE_SEQ change in one update (R36). -/
theorem State.modeTo_idle_mode_eq (s : State) : (s.modeTo .idle).mode =
    { s.mode with mode := .idle, target := .idle, transit := false, trans := none, modeSeq := s.mode.modeSeq + 1 } :=
  State.pulse_mode (State.awake_of_idle rfl) 1

theorem State.modeTo_idle_latch (s : State) : (s.modeTo .idle).ev.latch.getLsbD 1 = true :=
  State.pulse_latch (by decide) (show Mode.idle ≠ .boot by decide)

/-- The end of the command that asked for the transition leaves MODE and the latches alone. -/
theorem State.transDone_keeps (x : Transition) (n : Nat) (s : State) :
    (s.transDone x n).mode = s.mode ∧ (s.transDone x n).ev = s.ev := by
  unfold State.transDone
  split
  · exact ⟨State.done_mode .., State.done_ev ..⟩
  · exact ⟨rfl, rfl⟩

section
variable {tm : Nat} {s : State}

theorem exec_modeTransitionDone_of_idle {x : Transition} (hx : s.mode.trans = some x) (ht : s.mode.target = .idle)
    (hc : s.canArrive = true) :
    exec (.modeTransitionDone tm) s = .next ((((s.atTime tm).idleEntry).modeTo .idle).transDone x 0).settle := by
  have hc' : (s.atTime tm).canArrive = true := hc
  have harrive : (s.atTime tm).arrive = ((s.atTime tm).idleEntry.modeTo .idle).transDone x 0 := by
    unfold State.arrive
    simp only [State.atTime_mode, hx, ht, hc', Bool.not_true, Bool.false_eq_true, if_false]
  exact congrArg (fun t : State => t.out) harrive

theorem modeTransitionDone_arrives {x : Transition} (hx : s.mode.trans = some x) (ht : s.mode.target = .idle)
    (hc : s.canArrive = true) :
    ∃ t, exec (.modeTransitionDone tm) s = .next t ∧ t.mode.mode = .idle ∧ t.mode.transit = false ∧ t.mode.trans = none ∧
      t.mode.modeSeq = s.mode.modeSeq + 1 ∧ t.ev.latch.getLsbD 1 = true ∧ ∀ n, x.ctx = some n → (t.ctx n).cur = none := by
  have hseq : (s.atTime tm).idleEntry.mode.modeSeq = s.mode.modeSeq := (s.atTime tm).idleEntry_sparesSeq
  obtain ⟨hmode, hev⟩ := ((s.atTime tm).idleEntry.modeTo .idle).transDone_keeps x 0
  rw [State.modeTo_idle_mode_eq, hseq] at hmode
  refine ⟨_, exec_modeTransitionDone_of_idle hx ht hc, ?_⟩
  rw [State.settle_mode (State.awake_of_idle (by rw [hmode])), hmode]
  refine ⟨rfl, rfl, rfl, rfl, State.settle_latch_mono ?_, fun n hn => ?_⟩
  · rw [hev]; exact State.modeTo_idle_latch _
  · rw [State.settle_ctx]
    unfold State.transDone
    rw [hn]
    exact State.finish_cur ..

/-- A complete SCRUB has erased the data of jobs and the Skillet store (R46, R346). -/
def State.scrubbed (s : State) : State :=
  { s with
    dram := { s.dram with mem := [], poison := [], pos := 0, passes := s.dram.passes + 1 },
    active := { s.active with sklMap := [] }, shadow := { s.shadow with sklMap := [] },
    skl := { s.skl with map := [], groups := [], snap := [] } }

theorem exec_scrubComplete (hm : s.mode.mode = .scrub) (ht : s.mode.transit = false) :
    exec (.scrubComplete tm) s = .next ((s.atTime tm).scrubbed.removals.modeTo .idle).settle := by
  have he : exec (.scrubComplete tm) s = execScrubComplete tm s := rfl
  unfold execScrubComplete at he
  simp only [State.atTime_mode, hm, ht, beq_self_eq_true, Bool.not_false, Bool.and_self, if_true, State.out_eq] at he
  rw [he]
  unfold State.idleEntry
  simp only [hm]
  rfl

theorem scrubComplete_erases (hm : s.mode.mode = .scrub) (ht : s.mode.transit = false) :
    ∃ t, exec (.scrubComplete tm) s = .next t ∧ t.mode.mode = .idle ∧ t.mode.modeSeq = s.mode.modeSeq + 1 ∧ t.dram.mem = [] ∧
      t.dram.passes = s.dram.passes + 1 ∧ t.skl.groups = [] := by
  obtain ⟨⟨p, c, hsig⟩, -⟩ := (s.atTime tm).scrubbed.removals_portStep
  have hmode := (s.atTime tm).scrubbed.removals.modeTo_idle_mode_eq
  have hdram : ((s.atTime tm).scrubbed.removals.modeTo .idle).dram = (s.atTime tm).scrubbed.removals.dram := State.pulse_dram ..
  have hskl : ((s.atTime tm).scrubbed.removals.modeTo .idle).skl.groups = (s.atTime tm).scrubbed.removals.skl.groups := by
    show (State.pulse 1 _).skl.groups = _
    rw [State.pulse_skl]
    rfl
  refine ⟨_, exec_scrubComplete hm ht, ?_⟩
  rw [State.settle_mode (State.awake_of_idle (by rw [hmode])), State.settle_dram, State.settle_skl, hmode, hdram, hskl]
  obtain ⟨_, _, _, _, _, _, _, _, e⟩ := hsig
  rw [e]
  exact ⟨rfl, rfl, rfl, rfl, rfl⟩

end

/-- Settles O31: the clocks' events, then the two ways into IDLE. -/
theorem clockAndModeEventsComplete : Obligations.ClockAndModeEventsComplete := by
  refine ⟨fun tm s => ⟨aonXtalSwitch_moves, aonXtalLoss_moves, oscCompUpdate_steps, ?_⟩,
    fun tm s => ⟨fun x hx ht hc => modeTransitionDone_arrives hx ht hc, scrubComplete_erases⟩⟩
  obtain ⟨t, he, hbit⟩ := regionCompare_compares (tm := tm) (s := s)
  refine ⟨t, he, fun j hj => ⟨fun hd => ?_, fun hd => ?_, fun hlo hhi => ?_⟩⟩
  · rw [hbit j hj]; exact if_pos hd
  · rw [hbit j hj, State.dieStep, if_neg (by omega), decide_eq_false (Nat.not_lt.2 hd), Bool.and_false]
  · rw [hbit j hj, State.dieStep, if_neg (Nat.not_lt.2 hhi), decide_eq_true hlo, Bool.and_true]

end Sys2Proof.Machine
end

section
/-! PROOFS. The events of ports, front-end dies and slots (R107, R109, R129, R133 to R135, R157, R160 to R164, R175). -/

namespace Sys2Proof.Machine

/-! ## Operations on ports alone -/

/-- `t` differs from `s` at most in the units of the ports and by signals: not in a die, a clamp, a line or a clock. -/
def State.SegStep (s t : State) : Prop := ∃ g, ({ s with ports := { s.ports with ports := g } } : State).Signals t

namespace State.SegStep

variable {s t u : State}

theorem refl (s : State) : s.SegStep s := ⟨_, .refl s⟩

theorem trans (h : s.SegStep t) (k : t.SegStep u) : s.SegStep u := by
  obtain ⟨_, hs⟩ := h
  obtain ⟨g, ks⟩ := k
  obtain ⟨_, _, _, _, _, _, _, _, rfl⟩ := hs
  obtain ⟨_, _, _, _, _, _, _, _, rfl⟩ := ks
  exact ⟨g, _, _, _, _, _, _, _, _, rfl⟩

theorem foldl {α : Type} {f : State → α → State} (hf : ∀ (s : State) (x : α), s.SegStep (f s x)) (l : List α) (s : State) :
    s.SegStep (l.foldl f s) :=
  List.foldlRecOn l f (refl s) fun t ht x _ => ht.trans (hf t x)

theorem ite {c : Prop} [Decidable c] (ht : s.SegStep t) (hu : s.SegStep u) : s.SegStep (if c then t else u) := by
  split
  · exact ht
  · exact hu

theorem of_setSeg (p : Nat) (f : PortUnit → PortUnit) : s.SegStep (s.setSeg p f) := ⟨_, .refl _⟩

theorem of_signals (h : s.Signals t) : s.SegStep t := ⟨_, h⟩

theorem of_portEvent (p : Nat) (causes : BitVec 6) : s.SegStep (s.portEvent p causes) :=
  (of_setSeg p _).trans (of_signals (State.pulse_signals ..))

theorem of_portEvents (l : List Nat) (causes : BitVec 6) :
    s.SegStep (l.foldl (fun (s : State) p => s.portEvent p causes) s) := foldl (fun _ p => of_portEvent p causes) l s

theorem of_portTo (p : Nat) (st : PortSt) : s.SegStep (s.portTo p st) :=
  ite (refl s) ((of_setSeg p _).trans (of_portEvent ..))

theorem of_syncDie (k : Nat) : s.SegStep (s.syncDie k) := foldl (fun _ _ => ite (of_portTo ..) (refl _)) _ s

theorem of_qualLine (r : LineRec) (p : Nat) : s.SegStep (s.qualLine r p) := by
  unfold State.qualLine
  split
  · exact refl s
  · dsimp only
    split
    · exact refl s
    · split
      · exact of_setSeg ..
      · exact ite (refl s) (of_setSeg ..)
      · exact refl s

theorem die (h : s.SegStep t) (k : Nat) : t.die k = s.die k := by
  obtain ⟨_, _, _, _, _, _, _, _, _, rfl⟩ := h; rfl

theorem clk (h : s.SegStep t) : t.clk = s.clk := by
  obtain ⟨_, _, _, _, _, _, _, _, _, rfl⟩ := h; rfl

theorem banks (h : s.SegStep t) : t.banks = s.banks := by
  obtain ⟨_, _, _, _, _, _, _, _, _, rfl⟩ := h; rfl

theorem lines (h : s.SegStep t) : t.lines = s.lines := by
  obtain ⟨_, _, _, _, _, _, _, _, _, rfl⟩ := h; rfl

theorem mode (h : s.SegStep t) : t.mode.mode = s.mode.mode := by
  obtain ⟨_, _, _, _, _, _, _, _, _, rfl⟩ := h; rfl

end State.SegStep

/-! ## What a port's event shows (R157, R162) -/

@[simp] theorem State.pulse_seg (i q : Nat) (s : State) : (s.pulse i).seg q = s.seg q := by simp only [State.seg, State.pulse_ports]

@[simp] theorem State.settle_seg (q : Nat) (s : State) : s.settle.seg q = s.seg q := by simp only [State.seg, State.settle_ports]

@[simp] theorem State.settle_die (k : Nat) (s : State) : s.settle.die k = s.die k := by simp only [State.die, State.settle_ports]

@[simp] theorem State.settle_lineRec (seq : BitVec 32) (s : State) : s.settle.lineRec seq = s.lineRec seq := by
  simp only [State.lineRec, State.settle_lines]

theorem State.portEvent_seg_self (p : Nat) (causes : BitVec 6) (s : State) :
    (s.portEvent p causes).seg p = { s.seg p with causes := (s.seg p).causes ||| causes } :=
  (State.pulse_seg ..).trans (State.seg_setSeg_self ..)

theorem State.portEvent_seg_ne {p q : Nat} (h : q ≠ p) (causes : BitVec 6) (s : State) : (s.portEvent p causes).seg q = s.seg q :=
  (State.pulse_seg ..).trans (State.seg_setSeg_ne _ _ h)

theorem State.portEvent_latch {p : Nat} (hp : p < 64) {s : State} (hm : s.mode.mode ≠ .boot) (causes : BitVec 6) :
    (s.portEvent p causes).ev.latch.getLsbD (32 + p) = true := State.pulse_latch (by omega) hm

/-- A port that is brought to a state is in it, and only the causes of its event change beside. -/
theorem State.portTo_seg_self (p : Nat) (st : PortSt) (s : State) :
    ∃ c, (s.portTo p st).seg p = { s.seg p with state := st, causes := c } := by
  unfold State.portTo
  split
  · rename_i h; rw [← eq_of_beq h]; exact ⟨_, rfl⟩
  · rw [State.portEvent_seg_self, State.seg_setSeg_self]; exact ⟨_, rfl⟩

theorem State.portTo_seg_ne {p q : Nat} (h : q ≠ p) (st : PortSt) (s : State) : (s.portTo p st).seg q = s.seg q := by
  unfold State.portTo
  split
  · rfl
  · rw [State.portEvent_seg_ne h, State.seg_setSeg_ne _ _ h]

/-- An event of a port stays latched while the port changes its state. -/
theorem State.portTo_latch {p : Nat} (hp : p < 64) (st : PortSt) {s : State} (hm : s.mode.mode ≠ .boot)
    (h : s.ev.latch.getLsbD (32 + p) = true) : (s.portTo p st).ev.latch.getLsbD (32 + p) = true := by
  unfold State.portTo
  split
  · exact h
  · exact State.portEvent_latch hp (by exact hm) 2

/-- Removal of a port is a matter of its state: what PRES reads stays. -/
theorem State.removeIf_pres (b : Bool) (p q : Nat) (s : State) : ((if b then s.removePort p else s).seg q).pres = (s.seg q).pres := by
  cases b with
  | false => rfl
  | true => exact (s.removePort_portStep p).pres q

theorem State.removeIf_latch {b : Bool} {p : Nat} (hp : p < 64) {s : State} (hm : s.mode.mode ≠ .boot)
    (h : s.ev.latch.getLsbD (32 + p) = true) : (if b then s.removePort p else s).ev.latch.getLsbD (32 + p) = true := by
  cases b with
  | false => exact h
  | true => exact State.portTo_latch hp .swap (by exact hm) (by exact h)

/-! ## Presence, swap and qualification (R157, R159, R160) -/

section
variable {tm : Nat} {port : BitVec 6} {s : State}

theorem presFilterChange_follows {present : Bool} (hseg : s.hasSeg port.toNat = true) (hne : (s.seg port.toNat).pres ≠ present)
    (hlinks : s.rst.phase.linksAllowed = true) :
    ∃ t, exec (.presFilterChange tm port present) s = .next t ∧ (t.seg port.toNat).pres = present ∧
      (s.mode.mode ≠ .boot → t.ev.latch.getLsbD (32 + port.toNat) = true) := by
  have hp : port.toNat < 64 := port.isLt
  have hgo : ¬ (!(s.atTime tm).hasSeg port.toNat || ((s.atTime tm).seg port.toNat).pres == present ||
      !(s.atTime tm).rst.phase.linksAllowed) = true := by
    have hseg' : (s.atTime tm).hasSeg port.toNat = true := hseg
    have hlinks' : (s.atTime tm).rst.phase.linksAllowed = true := hlinks
    have hne' : (((s.atTime tm).seg port.toNat).pres == present) = false := beq_eq_false_iff_ne.2 hne
    rw [hseg', hlinks', hne']; decide
  have he : exec (.presFilterChange tm port present) s = execPresFilterChange tm port present s := rfl
  unfold execPresFilterChange at he
  simp only [hgo, Bool.false_eq_true, if_false] at he
  split at he
  · rename_i hb
    exact ⟨_, he, by rw [State.settle_seg, State.seg_setSeg_self], fun hm => absurd (eq_of_beq hb) hm⟩
  · refine ⟨_, he, ?_, fun hm => State.settle_latch_mono ?_⟩
    · rw [State.settle_seg, State.removeIf_pres, State.portEvent_seg_self, State.seg_setSeg_self]
    · exact State.removeIf_latch hp (by rw [(State.SegStep.of_portEvent ..).mode]; exact hm) (State.portEvent_latch hp (by exact hm) _)

theorem swapPowerOff_unpowers {d : Nat} (hoff : (s.seg port.toNat).offAt = some d) (hd : d ≤ max s.now tm) :
    ∃ t, exec (.swapPowerOff tm port) s = .next t ∧ (t.seg port.toNat).powered = false ∧ (t.seg port.toNat).offAt = none ∧
      (t.seg port.toNat).releaseAt = some (max s.now tm + 1000000) := by
  have hoff' : ((s.atTime tm).seg port.toNat).offAt = some d := hoff
  have he : exec (.swapPowerOff tm port) s = execSwapPowerOff tm port s := rfl
  unfold execSwapPowerOff at he
  simp only [hoff'] at he
  rw [if_pos (show d ≤ (s.atTime tm).now from hd)] at he
  refine ⟨_, he, ?_⟩
  rw [State.settle_seg, State.seg_setSeg_self]
  exact ⟨rfl, rfl, rfl⟩

theorem swapOutputRelease_releases {d : Nat} (hrel : (s.seg port.toNat).releaseAt = some d) (hd : d ≤ max s.now tm) :
    ∃ t, exec (.swapOutputRelease tm port) s = .next t ∧ (t.seg port.toNat).outLow = false ∧ (t.seg port.toNat).outHiZ = true ∧
      (t.seg port.toNat).releaseAt = none := by
  have hrel' : ((s.atTime tm).seg port.toNat).releaseAt = some d := hrel
  have he : exec (.swapOutputRelease tm port) s = execSwapOutputRelease tm port s := rfl
  unfold execSwapOutputRelease at he
  simp only [hrel'] at he
  rw [if_pos (show d ≤ (s.atTime tm).now from hd)] at he
  refine ⟨_, he, ?_⟩
  rw [State.settle_seg, State.seg_setSeg_self]
  exact ⟨rfl, rfl, rfl⟩

theorem qualifySettleEnd_settles {r : QualRun} (hrun : (s.seg port.toNat).run = some r) (hph : r.phase = .powering)
    (hu : r.until_ ≤ max s.now tm) :
    ∃ t, exec (.qualifySettleEnd tm port) s = .next t ∧
      (t.seg port.toNat).run = some { r with phase := .settling, started := false } := by
  have hrun' : ((s.atTime tm).seg port.toNat).run = some r := hrun
  have hgo : (r.phase == .powering && decide (r.until_ ≤ (s.atTime tm).now)) = true := by
    rw [hph, decide_eq_true (show r.until_ ≤ (s.atTime tm).now from hu)]; rfl
  have he : exec (.qualifySettleEnd tm port) s = execQualifySettleEnd tm port s := rfl
  unfold execQualifySettleEnd at he
  simp only [hrun'] at he
  rw [if_pos hgo] at he
  refine ⟨_, he, ?_⟩
  rw [State.settle_seg, State.seg_setSeg_self]

theorem qualificationDone_judges {r : QualRun} (hrun : (s.seg port.toNat).run = some r) (hph : r.phase = .capturing)
    (hl : r.lines ≤ r.done) :
    ∃ t, exec (.qualificationDone tm port) s = .next t ∧ (t.seg port.toNat).run = none ∧
      (t.seg port.toNat).qual = (if s.qualPass port.toNat r = true then 1 else 2) ∧ (t.seg port.toNat).qualLines = r.done ∧
      (s.qualPass port.toNat r = false → (t.seg port.toNat).state = .isolated) ∧
      (s.mode.mode ≠ .boot → t.ev.latch.getLsbD (32 + port.toNat) = true) := by
  have hp : port.toNat < 64 := port.isLt
  have hrun' : ((s.atTime tm).seg port.toNat).run = some r := hrun
  have hgo : (r.phase == .capturing && decide (r.lines ≤ r.done)) = true := by
    rw [hph, decide_eq_true hl]; rfl
  have hpass : (s.atTime tm).qualPass port.toNat r = s.qualPass port.toNat r := rfl
  have he : exec (.qualificationDone tm port) s = execQualificationDone tm port s := rfl
  unfold execQualificationDone at he
  simp only [hrun'] at he
  rw [if_pos hgo, hpass] at he
  refine ⟨_, he, ?_⟩
  rw [State.settle_seg]
  have hlatch := fun f hm => State.portEvent_latch hp (s := (s.atTime tm).setSeg port.toNat f) hm 16
  cases s.qualPass port.toNat r with
  | true =>
    rw [if_pos rfl, State.portEvent_seg_self, State.seg_setSeg_self]
    exact ⟨rfl, rfl, rfl, fun h => absurd h (by decide), fun hm => State.settle_latch_mono (hlatch _ hm)⟩
  | false =>
    rw [if_neg Bool.false_ne_true, if_neg Bool.false_ne_true]
    obtain ⟨c, hc⟩ := State.portTo_seg_self port.toNat .isolated (((s.atTime tm).setSeg port.toNat
      (fun x => { x with run := none, qual := 2, qualLines := r.done })).portEvent port.toNat 16)
    rw [hc, State.portEvent_seg_self, State.seg_setSeg_self]
    exact ⟨rfl, rfl, rfl, fun _ => rfl, fun hm => State.settle_latch_mono
      (State.portTo_latch hp .isolated (by rw [(State.SegStep.of_portEvent ..).mode]; exact hm) (hlatch _ hm))⟩

end

/-! ## The Skillet stage follows the words and the programs (R20, R97) -/

/-- `t` differs from `s` at most in the Skillet unit and by signals. -/
def State.SklStep (s t : State) : Prop := ∃ k, ({ s with skl := k } : State).Signals t

namespace State.SklStep

variable {s t u : State}

theorem refl (s : State) : s.SklStep s := ⟨_, .refl s⟩

theorem trans (h : s.SklStep t) (k : t.SklStep u) : s.SklStep u := by
  obtain ⟨_, hs⟩ := h
  obtain ⟨g, ks⟩ := k
  obtain ⟨_, _, _, _, _, _, _, _, rfl⟩ := hs
  obtain ⟨_, _, _, _, _, _, _, _, rfl⟩ := ks
  exact ⟨g, _, _, _, _, _, _, _, _, rfl⟩

theorem of_skl (k : SklUnit) : s.SklStep { s with skl := k } := ⟨k, .refl _⟩

theorem of_pulseIf (b : Bool) (i : Nat) : s.SklStep (s.pulseIf b i) := ⟨_, s.pulseIf_signals b i⟩

theorem of_slkQueue (r : LineRec) (due : Nat) : s.SklStep (s.slkQueue r due) := by
  unfold State.slkQueue
  dsimp only
  split
  · exact of_skl _
  · exact (of_skl _).trans (of_pulseIf ..)

theorem of_sklBegin (r : LineRec) : s.SklStep (s.sklBegin r) := by
  unfold State.sklBegin
  dsimp only
  split
  · split
    · exact of_skl _
    · exact (of_slkQueue ..).trans (of_skl _)
  · exact of_skl _

theorem of_sklOver : s.SklStep s.sklOver.2 := by
  unfold State.sklOver
  split
  · exact refl s
  · split
    · dsimp only
      split
      · exact refl s
      · exact of_slkQueue ..
    · exact refl s

theorem of_sklGo (n : Nat) : s.SklStep (s.sklGo n) := by
  induction n generalizing s with
  | zero => exact refl s
  | succ n ih =>
    have hover : s.SklStep s.sklOver.2 := of_sklOver
    unfold State.sklGo
    dsimp only
    split
    · exact refl s
    · split
      · split
        · exact hover.trans ((of_sklBegin _).trans ih)
        · exact hover
      · split
        · exact hover
        · exact hover.trans (of_skl _)

theorem of_sklTick : s.SklStep s.sklTick := of_sklGo _

theorem die (h : s.SklStep t) (k : Nat) : t.die k = s.die k := by
  obtain ⟨_, _, _, _, _, _, _, _, _, rfl⟩ := h; rfl

theorem lines (h : s.SklStep t) : t.lines = s.lines := by
  obtain ⟨_, _, _, _, _, _, _, _, _, rfl⟩ := h; rfl

end State.SklStep

/-! ## Programs (R129, R175) -/

section
variable {tm : Nat} {die : BitVec 2} {s : State}

theorem feProgramStart_starts {g : Option (BitVec 32)} {rest : List (Option (BitVec 32))}
    (htrigs : (s.die die.toNat).trigs = g :: rest) (hrun : (s.die die.toNat).running = false)
    (hpow : (s.die die.toNat).powered = true) :
    ∃ t, exec (.feProgramStart tm die) s = .next t ∧ (t.die die.toNat).running = true ∧ (t.die die.toNat).line = g ∧
      (t.die die.toNat).trigs = rest := by
  have htrigs' : ((s.atTime tm).die die.toNat).trigs = g :: rest := htrigs
  have hgo : ¬ (((s.atTime tm).die die.toNat).running || !((s.atTime tm).die die.toNat).powered) = true := by
    have hrun' : ((s.atTime tm).die die.toNat).running = false := hrun
    have hpow' : ((s.atTime tm).die die.toNat).powered = true := hpow
    rw [hrun', hpow']; decide
  have he : exec (.feProgramStart tm die) s = execFeProgramStart tm die s := rfl
  unfold execFeProgramStart at he
  simp only [htrigs'] at he
  rw [if_neg hgo] at he
  refine ⟨_, he, ?_⟩
  rw [State.settle_die]
  cases g with
  | none => simp only [State.die, State.setDie, sget_supd_self, and_self]
  | some q => simp only [State.die, State.setLine, State.setDie, sget_supd_self, and_self]

/-- A program that has run its time ends: the die runs none, and shows no line (R129). -/
theorem State.programEnd_die {k : Nat} (hrun : (s.die k).running = true) (hend : (s.die k).progEnd ≤ s.now) :
    (s.programEnd k).die k = { s.die k with running := false, line := none } := by
  have hgo : ¬ (!(s.die k).running || decide (s.now < (s.die k).progEnd)) = true := by
    rw [hrun, decide_eq_false (Nat.not_lt.2 hend)]; decide
  have houts {f : Nat → State → PortUnit → PortUnit} (l : List Nat) (u : State) :
      u.SegStep (l.foldl (fun (s : State) p => s.setSeg p (f p s)) u) := .foldl (fun _ _ => .of_setSeg ..) l u
  unfold State.programEnd
  dsimp only
  rw [if_neg hgo]
  split
  · exact ((houts _ _).die k).trans (State.die_setDie_self ..)
  · rename_i r _
    have hqual (l : List Nat) (u : State) : u.SegStep (l.foldl (fun (s : State) p => s.qualLine r p) u) :=
      .foldl (fun _ p => .of_qualLine r p) l u
    have hclamp (c : SMap Clamp) (u : State) : ({ u with ports := { u.ports with clamp := c } } : State).die k = u.die k := rfl
    exact (hclamp _ _).trans (((hqual _ _).die k).trans (((houts _ _).die k).trans (State.die_setDie_self ..)))

theorem feProgramEnd_ends (hrun : (s.die die.toNat).running = true) (hend : (s.die die.toNat).progEnd ≤ max s.now tm) :
    ∃ t, exec (.feProgramEnd tm die) s = .next t ∧ (t.die die.toNat).running = false ∧ (t.die die.toNat).line = none ∧
      (t.die die.toNat).trigs = (s.die die.toNat).trigs := by
  refine ⟨(((s.atTime tm).programEnd die.toNat).sklTick).settle, rfl, ?_⟩
  rw [State.settle_die, State.SklStep.of_sklTick.die, State.programEnd_die (by exact hrun) (by exact hend)]
  exact ⟨rfl, rfl, rfl⟩

/-! ## Die resets (R107, R109, R164) -/

/-- The ports of a die go to ISOLATED, their runs ended. -/
def State.isolatePorts (l : List Nat) (s : State) : State :=
  l.foldl (fun (s : State) p => (s.setSeg p (fun x => { x with run := none })).portTo p .isolated) s

theorem State.isolatePorts_segStep (l : List Nat) (s : State) : s.SegStep (s.isolatePorts l) :=
  .foldl (fun _ _ => (State.SegStep.of_setSeg ..).trans (.of_portTo ..)) l s

/-- A port is in ISOLATED after the pass that takes it there, and stays so. -/
theorem State.isolatePorts_state {p : Nat} (l : List Nat) (s : State) (h : p ∈ l ∨ (s.seg p).state = .isolated) :
    ((s.isolatePorts l).seg p).state = .isolated := by
  induction l generalizing s with
  | nil => exact h.resolve_left List.not_mem_nil
  | cons q l ih =>
    refine ih _ ?_
    by_cases e : p = q
    · subst e
      obtain ⟨c, hc⟩ := State.portTo_seg_self p .isolated (s.setSeg p fun x => { x with run := none })
      exact .inr (by rw [hc])
    · rw [State.portTo_seg_ne e, State.seg_setSeg_ne _ _ e]
      exact h.imp_left fun hm => (List.mem_cons.1 hm).resolve_left e

/-- An entry that a filter by index keeps out of a table reads as the default. -/
theorem sget_filter_of_false {α : Type} (d : α) {f : Nat → Bool} {k : Nat} (hk : f k = false) (m : SMap α) :
    sget d k (m.filter (fun x => f x.1)) = d := by
  induction m with
  | nil => rfl
  | cons x m ih =>
    obtain ⟨j, v⟩ := x
    by_cases hj : f j = true
    · rw [List.filter_cons_of_pos (p := fun x : Nat × α => f x.1) hj]
      exact (if_neg fun e : j = k => by rw [e, hk] at hj; cases hj).trans ih
    · rw [List.filter_cons_of_neg (p := fun x : Nat × α => f x.1) hj]
      exact ih

theorem State.dieOff_die (k : Nat) (s : State) : ((s.dieOff k).die k).powered = false := by
  simp only [State.dieOff, State.die, State.setDie, sget_supd_self]

theorem State.dieOff_lockFe {k : Nat} (hk : k < 4) (s : State) : (s.dieOff k).clk.lockFe.getLsbD k = false := by
  unfold State.dieOff
  simp [hk]

/-- The die's SRAM is wiped, with the programs of its ports (R109). -/
def State.dieWiped (k : Nat) (s : State) : State :=
  { s.dieOff k with banks := (s.dieOff k).banks.filter (fun b => decide (b.1 / 48 ≠ k)) }

theorem State.dieWiped_bank {k p b : Nat} (hlo : 12 * k ≤ p) (hhi : p < 12 * k + 12) (hb : b < 4) (s : State) :
    sget PatProgram.reset (4 * p + b) (s.dieWiped k).banks = PatProgram.reset := by
  refine sget_filter_of_false _ (f := fun j => decide (j / 48 ≠ k)) (decide_eq_false ?_) _
  have : (4 * p + b) / 48 = k := by omega
  exact fun h => h this

theorem exec_feDieReset (hk : die.toNat < s.board.member.dies) (hm : s.mode.mode ≠ .boot) :
    exec (.feDieReset tm die) s =
      .next (((((s.atTime tm).dieWiped die.toNat).isolatePorts (List.range' (12 * die.toNat) 12)).pulse 4).settle) := by
  have hgo : ¬ (decide ((s.atTime tm).board.member.dies ≤ die.toNat) || (s.atTime tm).mode.mode == .boot) = true := by
    have hm' : ((s.atTime tm).mode.mode == .boot) = false := beq_eq_false_iff_ne.2 hm
    have hk' : decide ((s.atTime tm).board.member.dies ≤ die.toNat) = false := decide_eq_false (Nat.not_le.2 hk)
    rw [hk', hm']; decide
  exact if_neg hgo

theorem feDieReset_wipes (hk : die.toNat < s.board.member.dies) (hm : s.mode.mode ≠ .boot) :
    ∃ t, exec (.feDieReset tm die) s = .next t ∧ (t.die die.toNat).powered = false ∧ t.clk.lockFe.getLsbD die.toNat = false ∧
      (∀ p, 12 * die.toNat ≤ p → p < 12 * die.toNat + 12 → (t.seg p).state = .isolated ∧
        ∀ b, b < 4 → sget PatProgram.reset (4 * p + b) t.banks = PatProgram.reset) ∧ t.ev.latch.getLsbD 4 = true := by
  have hports := ((s.atTime tm).dieWiped die.toNat).isolatePorts_segStep (List.range' (12 * die.toNat) 12)
  have hpulse := hports.trans (.of_signals (State.pulse_signals 4 _))
  refine ⟨_, exec_feDieReset hk hm, ?_, ?_, fun p hlo hhi => ⟨?_, fun b hb => ?_⟩, ?_⟩
  · rw [State.settle_die, hpulse.die]; exact State.dieOff_die ..
  · rw [State.settle_clk, hpulse.clk]; exact State.dieOff_lockFe die.isLt _
  · rw [State.settle_seg, State.pulse_seg]
    exact State.isolatePorts_state _ _ (.inl (List.mem_range'_1.2 ⟨hlo, hhi⟩))
  · rw [State.settle_banks, hpulse.banks]; exact State.dieWiped_bank hlo hhi hb _
  · exact State.settle_latch_mono (State.pulse_latch (by decide) (by rw [hports.mode]; exact hm))

/-- `t` has a die's power as `s` has it. -/
def State.KeepsPower (k : Nat) (s t : State) : Prop := (t.die k).powered = (s.die k).powered

namespace State.KeepsPower

variable {k : Nat} {s t u : State}

theorem trans (h : s.KeepsPower k t) (g : t.KeepsPower k u) : s.KeepsPower k u := Eq.trans g h

theorem of_segStep (h : s.SegStep t) : s.KeepsPower k t := congrArg FeDie.powered (h.die k)

theorem of_setDie {f : FeDie → FeDie} (hf : ∀ d, (f d).powered = d.powered) : s.KeepsPower k (s.setDie k f) :=
  (congrArg FeDie.powered (State.die_setDie_self ..)).trans (hf _)

theorem of_setCh (c : Nat) (f : Channel → Channel) : s.KeepsPower k (s.setCh k c f) := by
  unfold State.setCh
  exact of_setDie fun _ => rfl

theorem of_spareNote : s.KeepsPower k (s.spareNote k) := by
  have hset (b c : Bool) : s.KeepsPower k (s.setDie k (fun d => { d with bgHalt := b, bgSlow := c })) := of_setDie fun _ => rfl
  unfold State.spareNote
  dsimp only
  split
  · exact (hset ..).trans (of_segStep (.of_portEvents _ 8))
  · exact hset ..

theorem of_substitute : s.KeepsPower k (s.substitute k) := by
  have htodo (l : List Nat) : s.KeepsPower k (l.foldl (fun (s : State) c =>
      match s.pickSpare k with
      | some sp => (s.setCh k sp (fun x => { x with covers := some c, forFault := true })).setDie k (fun d =>
          { d with pendingSub := d.pendingSub.filter (· != c) })
      | none => s) s) := by
    refine List.foldlRecOn (motive := fun t => s.KeepsPower k t) l _ rfl fun t ht c _ => ht.trans ?_
    split
    · refine trans (of_setCh ..) (of_setDie ?_)
      exact fun _ => rfl
    · rfl
  exact (htodo _).trans (of_spareNote.trans (of_segStep (.of_syncDie k)))

end State.KeepsPower

theorem State.restoreTrims_powered (k : Nat) (s : State) : ((s.restoreTrims k).die k).powered = true :=
  Eq.trans State.KeepsPower.of_spareNote (congrArg FeDie.powered (State.die_setDie_self k _ s))

theorem feDieResetEnd_powers (hk : die.toNat < s.board.member.dies) (hm : s.mode.mode ≠ .boot) (hst : s.mode.mode ≠ .standby)
    (hpow : (s.die die.toNat).powered = false) (hsd : s.therm.shutdown = false) :
    ∃ t, exec (.feDieResetEnd tm die) s = .next t ∧ (t.die die.toNat).powered = true ∧
      t.clk.lockFe.getLsbD die.toNat = true := by
  have hgo : ¬ (decide ((s.atTime tm).board.member.dies ≤ die.toNat) || ((s.atTime tm).die die.toNat).powered ||
      (s.atTime tm).mode.mode == .boot || (s.atTime tm).mode.mode == .standby || (s.atTime tm).therm.shutdown) = true := by
    have hpow' : ((s.atTime tm).die die.toNat).powered = false := hpow
    have hm' : ((s.atTime tm).mode.mode == .boot) = false := beq_eq_false_iff_ne.2 hm
    have hst' : ((s.atTime tm).mode.mode == .standby) = false := beq_eq_false_iff_ne.2 hst
    have hsd' : (s.atTime tm).therm.shutdown = false := hsd
    have hk' : decide ((s.atTime tm).board.member.dies ≤ die.toNat) = false := decide_eq_false (Nat.not_le.2 hk)
    rw [hk', hpow', hm', hst', hsd']; decide
  have hlt : die.toNat < 4 := die.isLt
  refine ⟨_, if_neg hgo, ?_, ?_⟩
  · have hclk (c : ClkUnit) (u : State) : ({ u with clk := c } : State).die die.toNat = u.die die.toNat := rfl
    rw [State.settle_die, hclk]
    exact Eq.trans (State.KeepsPower.of_substitute (s := (s.atTime tm).restoreTrims die.toNat)) (State.restoreTrims_powered ..)
  · rw [State.settle_clk]
    simp [hlt]

end

/-! ## Lines in flight -/

theorem State.lineRec_seq {seq : BitVec 32} {r : LineRec} {s : State} (h : s.lineRec seq = some r) : r.tag.seq = seq :=
  eq_of_beq (List.find?_some (p := fun r : LineRec => r.tag.seq == seq) h)

/-- A pass over the lines that leaves their numbers alone maps what each number finds. -/
theorem find?_map_of_seq {f : LineRec → LineRec} (hf : ∀ r, (f r).tag.seq = r.tag.seq) (seq : BitVec 32) (l : List LineRec) :
    (l.map f).find? (fun r => r.tag.seq == seq) = (l.find? (fun r => r.tag.seq == seq)).map f := by
  rw [List.find?_map]
  exact congrArg (fun p => (l.find? p).map f) (funext fun r => congrArg (· == seq) (hf r))

theorem State.lineRec_setLine {seq : BitVec 32} {f : LineRec → LineRec} (hf : ∀ r, (f r).tag.seq = r.tag.seq) {r : LineRec} {s : State}
    (h : s.lineRec seq = some r) : (s.setLine seq f).lineRec seq = some (f r) := by
  have hmap : ∀ x : LineRec, (if x.tag.seq == seq then f x else x).tag.seq = x.tag.seq := fun x => by
    split
    · exact hf x
    · rfl
  refine (find?_map_of_seq hmap seq s.lines).trans ?_
  rw [show s.lines.find? (fun r => r.tag.seq == seq) = some r from h]
  exact congrArg some (if_pos (beq_iff_eq.2 (State.lineRec_seq h)))

/-- `t` has the lines of `s`, each with its words. -/
def State.KeepsWords (s t : State) : Prop :=
  ∀ seq r, s.lineRec seq = some r → ∃ r', t.lineRec seq = some r' ∧ r'.words = r.words

namespace State.KeepsWords

variable {s t u : State}

theorem of_lines (h : t.lines = s.lines) : s.KeepsWords t := fun seq r hr =>
  ⟨r, by
    unfold State.lineRec
    rw [h]
    exact hr, rfl⟩

theorem refl (s : State) : s.KeepsWords s := of_lines rfl

theorem trans (h : s.KeepsWords t) (k : t.KeepsWords u) : s.KeepsWords u := fun seq r hr => by
  obtain ⟨r1, h1, e1⟩ := h seq r hr
  obtain ⟨r2, h2, e2⟩ := k seq r1 h1
  exact ⟨r2, h2, e2.trans e1⟩

/-- A pass over the lines that changes neither number nor words. -/
theorem of_map {f : LineRec → LineRec} (hseq : ∀ r, (f r).tag.seq = r.tag.seq) (hwords : ∀ r, (f r).words = r.words)
    (h : t.lines = s.lines.map f) : s.KeepsWords t := fun seq r hr =>
  ⟨f r, by
    unfold State.lineRec
    rw [h, find?_map_of_seq hseq]
    exact congrArg (Option.map f) hr, hwords r⟩

/-- Wrong bits in the shading store change no word of a line (R214). -/
theorem of_shdEcc (slot word bits : Nat) : s.KeepsWords (s.shdEcc slot word bits) := by
  unfold State.shdEcc
  dsimp only
  split
  · exact refl s
  · split
    · exact of_lines (State.pulse_lines ..)
    · split
      · exact refl s
      · refine of_map ?_ ?_ (Eq.trans (State.pulse_lines ..) rfl)
        · exact fun _ => rfl
        · exact fun _ => rfl

theorem of_shdRead (i slot : Nat) (ecc : List (BitVec 3 × BitVec 2)) : s.KeepsWords (s.shdRead i slot ecc) := by
  unfold State.shdRead
  split
  · exact refl s
  · dsimp only
    split
    · exact refl s
    · split
      · exact refl s
      · refine List.foldlRecOn (motive := fun t => s.KeepsWords t) ecc _ (refl s) fun t ht x _ => ht.trans ?_
        split
        · exact of_shdEcc _ _ _
        · exact refl t

end State.KeepsWords

/-! ## The declaration of a failed channel touches no line (R144) -/

theorem State.spareNote_lines (k : Nat) (s : State) : (s.spareNote k).lines = s.lines := by
  unfold State.spareNote
  dsimp only
  split
  · rw [(State.SegStep.of_portEvents ..).lines, State.setDie_lines]
  · rw [State.setDie_lines]

theorem State.declareFailed_lines (k c : Nat) (s : State) : (s.declareFailed k c).lines = s.lines := by
  have hports (l : List Nat) (u : State) : (l.foldl (fun (s : State) p => s.portEvent p 4) u).lines = u.lines :=
    (State.SegStep.of_portEvents l 4).lines
  unfold State.declareFailed
  dsimp only
  split
  · rfl
  · rw [(State.SegStep.of_syncDie k).lines, State.spareNote_lines]
    split
    · split
      · rw [State.setCh_lines, hports, State.setCh_lines]
      · rw [State.setDie_lines, hports, State.setCh_lines]
    · split
      · split
        · rw [State.setDie_lines, State.setCh_lines, hports, State.setCh_lines]
        · rw [State.setCh_lines, hports, State.setCh_lines]
      · rw [State.setCh_lines]

/-! ## The conversion of a slot (R130, R133 to R137) -/

/-- A line takes the word of a slot. -/
def LineRec.takes (i slot : Nat) (w : TapWord) (r : LineRec) : LineRec :=
  { r with words := sset TapWord.none (1024 * i + slot) w r.words }

theorem LineRec.takes_word (i slot : Nat) (w : TapWord) (r : LineRec) : (r.takes i slot w).word i slot = w := sget_sset_self ..

/-- The word of a conversion whose raw code before its limit is `c` (R133 to R135). -/
def convWord (c : Nat) (overRange : Bool) (corr : Int) (residue : Bool) : TapWord :=
  let sat := overRange || decide (16383 < c)
  tapWord (if sat then 16383 else c) sat corr residue

theorem convWord_of_over {c : Nat} {overRange : Bool} (corr : Int) (residue : Bool) (h : overRange = true ∨ 16383 < c) :
    convWord c overRange corr residue = { code := 0x3FFF, sat := true, bad := residue } := by
  have hsat : (overRange || decide (16383 < c)) = true := by simpa using h
  unfold convWord
  simp only [hsat]
  rfl

theorem convWord_of_in {c : Nat} {overRange : Bool} (corr : Int) (residue : Bool) (h : ¬ (overRange = true ∨ 16383 < c)) :
    convWord c overRange corr residue = tapWord c false corr residue := by
  have hsat : (overRange || decide (16383 < c)) = false := by simpa using h
  unfold convWord
  simp only [hsat]
  rfl

section
variable {tm : Nat} {port : BitVec 6} {input : BitVec 4} {slot : BitVec 10} {sv sr : Int} {overRange residue : Bool}
  {r : LineRec} {seq : BitVec 32} {s : State}

/-- The code of an input before its limit, with the afe tables and the program of a line (R133). -/
def State.slotCode (r : LineRec) (p input : Nat) (sv sr : Int) (s : State) : Nat :=
  let afe := sget AfePort.reset p r.tabs.afe
  let a := afe.taps.getD input TapAfe.reset
  rawCode a.pga.toNat ((if (progOf s.banks r.tabs p).direct then sv else sv - sr) + 390625 * a.offset)
    (500000000 * (afe.range.toNat + 1))

/-- A conversion gives the line the word of its slot, and nothing else. -/
theorem State.sampleSlot_lines (hline : (s.die (port.toNat / 12)).line = some seq) (hr : s.lineRec seq = some r)
    (hrun : (s.die (port.toNat / 12)).running = true) (hen : (tapEntry r.tabs (16 * port.toNat + input.toNat)).en = true)
    (hch : (r.chanOf (16 * port.toNat + input.toNat)).isSome = true) (hst : (s.seg port.toNat).state ≠ .swap)
    (hslot : slot.toNat < (progOf s.banks r.tabs port.toNat).slots) :
    (s.sampleSlot port input slot sv sr overRange residue).lines =
      (s.setLine seq (LineRec.takes (16 * port.toNat + input.toNat) slot.toNat
        (convWord (s.slotCode r port.toNat input.toNat sv sr) overRange
          (clampCorr (sget Clamp.reset (16 * port.toNat + input.toNat) s.ports.clamp).acc) residue))).lines := by
  have hbind : (s.die (port.toNat / 12)).line.bind (fun q => s.lineRec q) = some r := by rw [hline]; exact hr
  have hgo : ¬ (!(s.die (port.toNat / 12)).running || !(tapEntry r.tabs (16 * port.toNat + input.toNat)).en ||
      (r.chanOf (16 * port.toNat + input.toNat)).isNone || (s.seg port.toNat).state == .swap ||
      decide ((progOf s.banks r.tabs port.toNat).slots ≤ slot.toNat)) = true := by
    have hst' : ((s.seg port.toNat).state == .swap) = false := beq_eq_false_iff_ne.2 hst
    have hch' : (r.chanOf (16 * port.toNat + input.toNat)).isNone = false := by
      rw [← Option.not_isSome, hch]; rfl
    rw [hrun, hen, hch', hst', decide_eq_false (Nat.not_le.2 hslot)]; decide
  have hdark (b : Bool) (c : SMap Clamp) (u : State) :
      (if b then ({ u with ports := { u.ports with clamp := c } } : State) else u).lines = u.lines := by cases b <;> rfl
  unfold State.sampleSlot
  simp only [hbind]
  rw [if_neg hgo, ← State.lineRec_seq hr]
  split
  · split
    · rw [State.declareFailed_lines, State.setDie_lines]; exact hdark ..
    · rw [State.setDie_lines]; exact hdark ..
  · exact hdark ..

theorem afeSlotSample_converts {checks : SampleChecks} (hline : (s.die (port.toNat / 12)).line = some seq)
    (hr : s.lineRec seq = some r) (hrun : (s.die (port.toNat / 12)).running = true)
    (hen : (tapEntry r.tabs (16 * port.toNat + input.toNat)).en = true)
    (hch : (r.chanOf (16 * port.toNat + input.toNat)).isSome = true) (hst : (s.seg port.toNat).state ≠ .swap)
    (hslot : slot.toNat < (progOf s.banks r.tabs port.toNat).slots) :
    ∃ t r', exec (.afeSlotSample tm port input slot sv sr overRange checks) s = .next t ∧ t.lineRec seq = some r' ∧
      r'.word (16 * port.toNat + input.toNat) slot.toNat = convWord (s.slotCode r port.toNat input.toNat sv sr) overRange
        (clampCorr (sget Clamp.reset (16 * port.toNat + input.toNat) s.ports.clamp).acc) checks.residue := by
  have hlines := State.sampleSlot_lines (s := s.atTime tm) (sv := sv) (sr := sr) (overRange := overRange) (residue := checks.residue)
    hline hr hrun hen hch hst hslot
  have hset := (State.KeepsWords.of_lines hlines).trans
    ((State.KeepsWords.of_shdRead (16 * port.toNat + input.toNat) slot.toNat checks.ecc).trans
      (.of_lines State.SklStep.of_sklTick.lines))
  obtain ⟨r', hr', hw⟩ := hset seq _ (State.lineRec_setLine (f := LineRec.takes _ _ _) (fun _ => rfl) (s := s.atTime tm) hr)
  refine ⟨_, r', rfl, (State.settle_lineRec ..).trans hr', ?_⟩
  unfold LineRec.word
  rw [hw]
  exact LineRec.takes_word ..

end

/-- Settles O35: ports, then dies, then slots. -/
theorem frontEndEventsComplete : Obligations.FrontEndEventsComplete := by
  refine ⟨fun tm port s => ⟨fun present => presFilterChange_follows, fun d => swapPowerOff_unpowers, fun d => swapOutputRelease_releases,
    fun r => qualifySettleEnd_settles, fun r => qualificationDone_judges⟩,
    fun tm die s => ⟨fun g rest => feProgramStart_starts, feProgramEnd_ends, feDieReset_wipes, feDieResetEnd_powers⟩, ?_⟩
  rintro tm port input slot sv sr overRange checks i p r q a c seq s rfl rfl hline hr hrun hen hch hst rfl hslot rfl rfl
  obtain ⟨t, r', he, hr', hword⟩ := afeSlotSample_converts (tm := tm) (sv := sv) (sr := sr) (overRange := overRange) (checks := checks)
    hline hr hrun hen hch hst hslot
  refine ⟨t, r', he, hr', ?_, fun hover => ?_⟩
  · rw [hword]
    by_cases hov : overRange = true ∨ 16383 < s.slotCode r port.toNat input.toNat sv sr
    · exact (convWord_of_over _ _ hov).trans (if_pos hov).symm
    · exact (convWord_of_in _ _ hov).trans (if_neg hov).symm
  · rw [hword, convWord_of_over _ _ (.inl hover)]
    exact ⟨rfl, rfl⟩

end Sys2Proof.Machine
end

section
/-! PROOFS. The stagings of the ports family, and the programs that PAT_BANK_STAGE writes (R123, R127, R131, R132, R139, R140, R157). -/

namespace Sys2Proof.Machine

/-! ## The state in which the body of a command runs -/

/-- The state in which the body of a command runs: the command is taken and its payload is read (R542, R544). -/
def State.received (h : Hdr) (op : Nat) (s : State) : State := (s.taken h op).fetched h

section
variable (h : Hdr) (op : Nat) (s : State)

@[simp] theorem State.received_board : (s.received h op).board = s.board := State.fetched_board ..
@[simp] theorem State.received_mode : (s.received h op).mode = s.mode := State.fetched_mode ..
@[simp] theorem State.received_uzs : (s.received h op).uzs = s.uzs := State.fetched_uzs ..
@[simp] theorem State.received_ports : (s.received h op).ports = s.ports := State.fetched_ports ..
@[simp] theorem State.received_banks : (s.received h op).banks = s.banks := State.fetched_banks ..
@[simp] theorem State.received_active : (s.received h op).active = s.active := State.fetched_active ..
@[simp] theorem State.received_shadow : (s.received h op).shadow = s.shadow := State.fetched_shadow ..
@[simp] theorem State.received_staged : (s.received h op).staged = s.staged := State.fetched_staged ..
@[simp] theorem State.received_shd : (s.received h op).shd = s.shd := State.fetched_shd ..

theorem State.received_runs : (s.received h op).Runs h op :=
  (congrArg Ctx.cur (State.fetched_ctx ..)).trans (s.taken_runs h op)

/-! ### What the checks of a staging read (R651) -/

@[simp] theorem State.received_dense : (s.received h op).dense = s.dense := by simp only [State.dense, State.received_mode]

@[simp] theorem State.received_shadowView : (s.received h op).shadowView = s.shadowView := by
  simp only [State.shadowView, State.received_shadow, State.received_staged]

@[simp] theorem State.received_portChecks (ps : List Nat) (t : Tables) : (s.received h op).portChecks ps t = s.portChecks ps t := by
  simp only [State.portChecks, State.received_banks, State.received_board, State.received_dense]

@[simp] theorem State.received_locked (ops : List Nat) : (s.received h op).locked ops = s.locked ops :=
  State.locked_congr (State.received_uzs ..) (State.received_mode ..)

@[simp] theorem State.received_seg (p : Nat) : (s.received h op).seg p = s.seg p := by simp only [State.seg, State.received_ports]

@[simp] theorem State.received_anySet : (s.received h op).anySet = s.anySet := by simp only [State.anySet, State.received_shd]

@[simp] theorem State.received_pendingBank (p bank : Nat) : (s.received h op).pendingBank p bank = s.pendingBank p bank := by
  simp only [State.pendingBank, State.received_locked, State.received_shadow, State.received_staged]

@[simp] theorem State.received_payload : (s.received h op).payload h = s.payload h :=
  State.payload_congr (by simp [State.received, State.taken]) (by simp [State.received, State.taken])
    (by simp [State.received, State.taken])

end

/-! ## A staging that completes (R19, R21) -/

/-- A staging that has written its shadow copy ends DONE, whatever it has recorded besides. -/
theorem State.Runs.stages {h : Hdr} {op key : Nat} {data : List Byte} {f : Tables → Tables} {s u : State} (hr : u.Runs h op)
    (hsh : u.shadow = s.shadow) (hact : u.active = s.active) (hk : u.staged.keys = s.staged.keys) :
    State.Stages h op key data (f s.shadow) s ((u.stage key f).done h.ctx.toNat data).settle := by
  have hruns : (u.stage key f).Runs h op := hr
  exact ⟨(hruns.finish_ended ..).settle, by simp [hsh], by simp [hact], by simp [hk]⟩

/-- A command of class S of its size and in range whose table is not locked does what the body of its staging does (R24, R545). -/
theorem State.take_staging_of_free {i : Instr} {h : Hdr} {op n : Nat} {inRange : Bool} {ops : List Nat} {body : State → Res} {s : State}
    (ha : s.accepts h [.s] = true) (hn : h.plen.toNat = n) (hr : inRange = true) (hl : s.locked ops = false) :
    s.take h op [.s] true (some n) inRange (fun u => u.staging i h ops body) = (body (s.received h op)).apply h.ctx.toNat := by
  subst hr
  rw [State.take_of_accepts ha (by simp [hn]), ← State.received, State.staging_of_free (by simpa using hl)]

/-- A staging whose body writes one shadow copy completes. -/
theorem staging_completes {i : Instr} {h : Hdr} {op n : Nat} {inRange : Bool} {ops : List Nat} {body : State → Res} {data : List Byte}
    {f : Tables → Tables} {s : State}
    (he : exec i s = (s.take h op [.s] true (some n) inRange (fun u => u.staging i h ops body)).out)
    (ha : s.accepts h [.s] = true) (hn : h.plen.toNat = n) (hr : inRange = true) (hl : s.locked ops = false)
    (hb : body (s.received h op) = .ok data [] ((s.received h op).stage op f)) :
    ∃ t, exec i s = .next t ∧ State.Stages h op op data (f s.shadow) s t := by
  refine ⟨(((s.received h op).stage op f).done h.ctx.toNat data).settle, ?_,
    (s.received_runs h op).stages (by simp) (by simp) (by simp)⟩
  rw [he, State.take_staging_of_free ha hn hr hl, hb]
  rfl

section
variable {h : Hdr} {s : State}

theorem patSelectStage_completes {ports : BitVec 64} {bank drive : BitVec 8} {f : Tables → Tables}
    (ha : s.accepts h [.s] = true) (hp : h.plen = 0) (hbank : bank.toNat ≤ 3) (hdrive : drive.toNat ≤ 2)
    (hports : ports.toNat < 2 ^ s.board.member.ports) (hl : s.locked [0x0202, 0x0208] = false)
    (hf : f = fun t => { t with patSel := (setBits 64 ports.toNat).foldl (fun m p =>
      sset PatSel.reset p { bank := bank.setWidth 2, drive := drive } m) t.patSel })
    (hc : s.portChecks (setBits 64 ports.toNat) (f s.shadowView) = true) :
    ∃ t, exec (.patSelectStage h ports bank drive) s = .next t ∧ State.Stages h 0x0202 0x0202 [] (f s.shadow) s t := by
  refine staging_completes rfl ha (by simp [hp]) (by simp [hbank, hdrive, hports]) hl ?_
  subst hf
  exact if_pos ((State.received_portChecks ..).trans (by rw [State.received_shadowView]; exact hc))

theorem afeStage_completes {port range : BitVec 8} {xs : List (TapAfe × Bool)} (ha : s.accepts h [.s] = true) (hp : h.plen = 128)
    (hport : port.toNat < s.board.member.ports) (hrange : range.toNat ≤ 3) (hl : s.locked [0x0203] = false)
    (hxs : xs = (chunks 8 16 (s.payload h)).map tapAfeOf) (hok : xs.all (·.2) = true) :
    ∃ t, exec (.afeStage h port range) s = .next t ∧ State.Stages h 0x0203 0x0203 []
      { s.shadow with afe := sset AfePort.reset port.toNat { range := range.setWidth 2, taps := xs.map (·.1) } s.shadow.afe } s t := by
  refine staging_completes (f := fun t => { t with
      afe := sset AfePort.reset port.toNat { range := range.setWidth 2, taps := xs.map (·.1) } t.afe })
    rfl ha (by simp [hp]) (by simp [State.hasSeg, hport, hrange]) hl ?_
  dsimp only
  rw [State.received_payload, ← hxs, if_pos hok]

/-- In a capture mode a die's tap clock can only be staged as it is (R123). -/
theorem tapClockStage_completes {die : BitVec 8} {freq : BitVec 32} (ha : s.accepts h [.s] = true) (hp : h.plen = 0)
    (hdie : die.toNat < s.board.member.dies) (hrange : clkRange s.dense freq.toNat = true) (hl : s.locked [0x0205] = false)
    (hsame : s.mode.mode.isCapture = true → tapClkOf s.active die.toNat = freq.toNat)
    (hc : check99 s.board.member s.dense s.banks
      { s.shadowView with tapClk := sset tapClkReset die.toNat freq.toNat s.shadowView.tapClk } = true) :
    ∃ t, exec (.tapClockStage h die freq) s = .next t ∧ State.Stages h 0x0205 0x0205 []
      { s.shadow with tapClk := sset tapClkReset die.toNat freq.toNat s.shadow.tapClk } s t := by
  refine staging_completes (f := fun t => { t with tapClk := sset tapClkReset die.toNat freq.toNat t.tapClk })
    rfl ha (by simp [hp]) (by simp [hdie, hrange]) hl ?_
  have hmoves : ¬ ((s.received h 0x0205).mode.mode.isCapture &&
      tapClkOf (s.received h 0x0205).active die.toNat != freq.toNat) = true := by
    simpa using hsame
  dsimp only
  rw [if_neg hmoves, if_pos (by simpa using hc)]

/-! ## Port-state commands (R157) -/

/-- A port-state command that its port is in the state for, and that passes its own check, is staged for the next apply. -/
theorem portCommand_completes {i : Instr} {port : Nat} {c : PortCmd} {more : State → Bool} {inRange : Bool}
    (he : exec i s = (s.take h c.op [.s] true (some 0) inRange (stagePort i h port c more)).out)
    (ha : s.accepts h [.s] = true) (hp : h.plen = 0) (hr : inRange = true) (hl : s.locked [0x0206, 0x0207, 0x0208, 0x0209] = false)
    (hfrom : c.from (s.seg port) = true) (hmore : more (s.received h c.op) = true) :
    ∃ t, exec i s = .next t ∧ State.Stages h c.op c.op [] s.shadow s t ∧ sget none port t.staged.ports = some c := by
  let u : State := { s.received h c.op with
    staged := { (s.received h c.op).staged with ports := sset none port (some c) (s.received h c.op).staged.ports } }
  have hruns : u.Runs h c.op := s.received_runs h c.op
  have ht : s.take h c.op [.s] true (some 0) inRange (stagePort i h port c more) = (u.stage c.op id).done h.ctx.toNat [] := by
    refine (State.take_staging_of_free ha (by simp [hp]) hr hl).trans ?_
    simp only [State.received_seg, hfrom, hmore, Bool.not_true, Bool.false_eq_true, if_false]
    rfl
  refine ⟨_, he.trans (congrArg (fun t : State => t.out) ht), hruns.stages (by simp [u]) (by simp [u]) (by simp [u]), ?_⟩
  rw [State.settle_staged, State.done_staged]
  exact sget_sset_self none port (some c) (s.received h c.op).staged.ports

end

/-- Settles O6: the three stagings of tables, then the four port-state commands. -/
theorem portStagingsComplete : Obligations.PortStagingsComplete := by
  intro h s ha
  refine ⟨fun ports bank drive x f hp hb hd hports hl hf hx hc => patSelectStage_completes ha hp hb hd hports hl (by rw [hf, hx]) hc,
    fun port range xs hp hport hr hl hxs hok => afeStage_completes ha hp hport hr hl hxs hok,
    fun die freq hp hdie hr hl hsame hc => tapClockStage_completes ha hp hdie hr hl hsame hc, fun port hp hport hl => ?_⟩
  have hseg : s.hasSeg port.toNat = true := decide_eq_true hport
  refine ⟨fun hfrom => portCommand_completes rfl ha hp hseg hl hfrom rfl, fun hfrom => portCommand_completes rfl ha hp hseg hl hfrom rfl,
    fun hfrom => portCommand_completes rfl ha hp hseg hl hfrom rfl, fun bank pwrSettle qualLines c hb hs hq hc hfrom hchk => ?_⟩
  subst hc
  exact portCommand_completes rfl ha hp (by simpa [hseg, hb, hs] using hq) hl hfrom (by simpa using hchk)

/-! ## Programs and tap maps (R127, R131, R139, R140) -/

/-- Every entry that a pass has written reads as the one value it writes. -/
theorem sget_foldl_sset_of_mem {α : Type} [DecidableEq α] (d v : α) (g : Nat → Nat) {l : List Nat} {p : Nat} (hp : p ∈ l)
    (m : SMap α) : sget d (g p) (l.foldl (fun m k => sset d (g k) v m) m) = v := by
  have hkeep (m : SMap α) (k : Nat) (hm : sget d (g p) m = v) : sget d (g p) (sset d (g k) v m) = v := by
    by_cases e : g p = g k
    · rw [e, sget_sset_self]
    · rw [sget_sset_ne _ _ _ e, hm]
  exact foldl_of_mem hp hkeep (fun m => sget_sset_self d (g p) v m) m

section
variable {h : Hdr} {s : State}

/-- What PAT_BANK_STAGE puts into a bank of some ports (R131). -/
def banksWith (ports : BitVec 64) (bank : Nat) (q : PatProgram) (m : SMap PatProgram) : SMap PatProgram :=
  (setBits 64 ports.toNat).foldl (fun m p => sset PatProgram.reset (4 * p + bank) q m) m

theorem patBankStage_completes {bank mode lsLen repLen : BitVec 8} {nrep blLen : BitVec 16} {ports : BitVec 64}
    {es : List (BitVec 16)} {q : PatProgram} (ha : s.accepts h [.s] = true)
    (hp : h.plen.toNat = 2 * (zeroIs 256 lsLen.toNat + zeroIs 64 repLen.toNat + zeroIs 512 blLen.toNat))
    (hbank : bank.toNat ≤ 3) (hmode : mode.toNat ≤ 1) (hrep : repLen.toNat < 64) (hnrep : nrep.toNat < 1024) (hbl : blLen.toNat < 512)
    (hports : ports.toNat < 2 ^ s.board.member.ports)
    (hes : es = (chunks 2 (zeroIs 256 lsLen.toNat + zeroIs 64 repLen.toNat + zeroIs 512 blLen.toNat) (s.payload h)).map
      (fun b => BitVec.ofNat 16 (leVal b)))
    (hq : q = { direct := (mode = 1), ls := es.take (zeroIs 256 lsLen.toNat),
                rep := (es.drop (zeroIs 256 lsLen.toNat)).take (zeroIs 64 repLen.toNat), nrep := zeroIs 1024 nrep.toNat,
                bl := es.drop (zeroIs 256 lsLen.toNat + zeroIs 64 repLen.toNat) })
    (hsmall : ∀ e ∈ es, e.toNat < 2 ^ 11) (hok : q.ok s.dense = true)
    (hc : check99 s.board.member s.dense (banksWith ports bank.toNat q s.banks) s.shadowView = true)
    (hfree : ∀ p ∈ setBits 64 ports.toNat, (sget PatSel.reset p s.active.patSel).bank.toNat ≠ bank.toNat)
    (hpend : ∀ p ∈ setBits 64 ports.toNat, s.pendingBank p bank.toNat = false) :
    ∃ t, exec (.patBankStage h bank mode lsLen repLen nrep blLen ports) s = .next t ∧ t.Done h 0x0201 [] ∧
      ∀ p ∈ setBits 64 ports.toNat, sget PatProgram.reset (4 * p + bank.toNat) t.banks = q := by
  let r := s.received h 0x0201
  let u : State := { r with banks := banksWith ports bank.toNat q r.banks }
  have hbad : ¬ (es.any (fun e => decide (2 ^ 11 ≤ e.toNat)) || !q.ok r.dense ||
      !check99 r.board.member r.dense (banksWith ports bank.toNat q r.banks) r.shadowView) = true := by
    simpa [r, hok, hc] using hsmall
  have hsel : ¬ ((setBits 64 ports.toNat).any (fun p => (sget PatSel.reset p r.active.patSel).bank.toNat == bank.toNat)) = true := by
    simpa [r] using hfree
  have hwait : ¬ ((setBits 64 ports.toNat).any (fun p => r.pendingBank p bank.toNat)) = true := by
    simpa [r] using hpend
  have ht : takePatBankStage h bank mode lsLen repLen nrep blLen ports s = u.done h.ctx.toNat [] := by
    have hr : (decide (bank.toNat ≤ 3) && decide (mode.toNat ≤ 1) && decide (repLen.toNat < 64) && decide (nrep.toNat < 1024) &&
        decide (blLen.toNat < 512) && decide (ports.toNat < 2 ^ s.board.member.ports)) = true := by
      simp [hbank, hmode, hrep, hnrep, hbl, hports]
    unfold takePatBankStage
    dsimp only
    rw [hr, State.take_of_accepts ha (by simp [hp]), ← State.received, State.received_payload, ← hes, ← hq]
    exact congrArg (Res.apply h.ctx.toNat) ((if_neg hbad).trans ((if_neg hsel).trans (if_neg hwait)))
  have hruns : u.Runs h 0x0201 := s.received_runs h 0x0201
  refine ⟨_, congrArg (fun t : State => t.out) ht, (hruns.finish_ended ..).settle, fun p hp => ?_⟩
  rw [State.settle_banks, State.done_banks]
  exact sget_foldl_sset_of_mem _ _ (fun p => 4 * p + bank.toNat) hp _

theorem tapMapStage_completes {firstPort count : BitVec 8} {es : List (TapEntry × Bool)} {f : Tables → Tables}
    (ha : s.accepts h [.s] = true) (hp : h.plen.toNat = 128 * count.toNat)
    (hports : firstPort.toNat + count.toNat ≤ s.board.member.ports) (hl : s.locked [0x0204] = false)
    (hes : es = (chunks 8 (16 * count.toNat) (s.payload h)).map (fun b => tapEntryOf (leVal b)))
    (hf : f = fun t => { t with tapMap := es.zipIdx.foldl (fun m x =>
      sset TapEntry.reset (16 * firstPort.toNat + x.2) x.1.1 m) t.tapMap })
    (hok : es.all (·.2) = true) (hc : s.portChecks (List.range' firstPort.toNat count.toNat) (f s.shadowView) = true)
    (h140 : (s.dense || check140 s.board.member false (f s.shadowView)) = true) (hset : s.anySet = false) :
    ∃ t, exec (.tapMapStage h firstPort count) s = .next t ∧ State.Stages h 0x0204 0x0204
      ((List.range 4).flatMap (fun k => le 1 (channelsUsed (f s.shadowView) s.dense k))) (f s.shadow) s t := by
  refine staging_completes rfl ha hp (by simpa using hports) hl ?_
  subst hf hes
  simp only [State.received_payload, State.received_dense, State.received_board, State.received_shadowView, State.received_portChecks,
    State.received_anySet, hok, hc, h140, hset, Bool.and_self, Bool.not_true, Bool.false_and, Bool.false_eq_true, if_false]

end

/-- Settles O7: a program that passes every check of its bank, then a part of the tap map that passes its own. -/
theorem programAndMapStagingsComplete : Obligations.ProgramAndMapStagingsComplete := fun _ _ ha =>
  ⟨fun _ _ _ _ _ _ _ _ _ hp hb hm hr hn hbl hports hes hq hsmall hok hc hfree hpend =>
      patBankStage_completes ha hp hb hm hr hn hbl hports hes hq hsmall hok hc hfree hpend,
    fun _ _ _ _ hp hports hl hes hf hok hc h140 hset => tapMapStage_completes ha hp hports hl hes hf hok hc h140 hset⟩

end Sys2Proof.Machine
end

section
/-! PROOFS. Commands that write a result into a window (R154, R209, R240, R270, R332, R418, R451, R474, R556). -/

namespace Sys2Proof.Machine

/-! ## A result for a window (R556, R654) -/

/-- A range within a window takes the result. -/
theorem State.winResult_of_has {w off : Nat} {bs data : List Byte} {s : State} (hw : s.winHas w off bs.length = true) :
    s.winResult w off bs data = .ok data [] (s.dramWrite 9 (s.winAddr w off) bs) := by
  have hwin : (s.win w).isNone = false := by
    unfold State.winHas at hw
    cases e : s.win w with
    | none => simp [e] at hw
    | some x => rfl
  unfold State.winResult
  simp [hwin, hw]

/-- The end of a command without a result for the payload buffer leaves the DRAM controller alone. -/
@[simp] theorem State.done_dram (n : Nat) (data : List Byte) (s : State) : (s.done n data).dram = s.dram := by
  obtain ⟨-, e⟩ | ⟨f, e, -⟩ := s.finish_cases n .done cOk data
  · rw [State.done, e]
  · rw [State.done, e, State.setCtx_dram]

/-- A command of class C without a payload whose body ends with inline data alone. -/
theorem exec_of_inline_body {i : Instr} {h : Hdr} {op : Nat} {inRange : Bool} {body : State → Res} {data : List Byte} {s u : State}
    (he : exec i s = (s.take h op [.c] true (some 0) inRange body).out) (ha : s.accepts h [.c] = true) (hp : h.plen = 0)
    (hr : inRange = true) (hb : body (s.taken h op) = .ok data [] u) : exec i s = .next (u.done h.ctx.toNat data).settle := by
  rw [he, State.take_of_accepts_empty ha hp hr, hb]
  rfl

/-- A command that has stored its result and ends DONE has written it (R556). -/
theorem State.Runs.writes {h : Hdr} {op a : Nat} {bs data : List Byte} {s u : State} (hr : u.Runs h op)
    (hm : u.dram.mem = memWrite a bs s.dram.mem) : State.Writes h op a bs data s (u.done h.ctx.toNat data).settle :=
  ⟨(hr.finish_ended ..).settle, by rw [State.settle_dram, State.done_dram, hm]⟩

/-- A command whose body writes one result, on a state that has its context and its memory as they were when it was taken. -/
theorem windowRead_completes {i : Instr} {h : Hdr} {op w off : Nat} {inRange : Bool} {body : State → Res} {bs data : List Byte}
    {s u : State} (he : exec i s = (s.take h op [.c] true (some 0) inRange body).out) (ha : s.accepts h [.c] = true) (hp : h.plen = 0)
    (hr : inRange = true) (hb : body (s.taken h op) = u.winResult w off bs data) (hruns : u.Runs h op) (hdram : u.dram = s.dram)
    (hw : s.winHas w off bs.length = true) :
    ∃ t, exec i s = .next t ∧ State.Writes h op (s.winAddr w off) bs data s t := by
  have hw' : u.winHas w off bs.length = true := by simpa only [State.winHas, State.win, hdram] using hw
  have ha' : u.winAddr w off = s.winAddr w off := by simp only [State.winAddr, State.win, hdram]
  refine ⟨_, exec_of_inline_body he ha hp hr (hb.trans (State.winResult_of_has hw')), State.Runs.writes hruns ?_⟩
  rw [State.dramWrite_mem, ha', hdram]

/-! ## Free values -/

/-- Taking free values changes nothing but which come next. -/
theorem State.frees_shape (w n : Nat) (s : State) : ∃ k, (s.frees w n).2 = { s with fresh := k } := by
  induction n generalizing s with
  | zero => exact ⟨_, rfl⟩
  | succ n ih =>
    obtain ⟨k, hk⟩ := ih (s.free w).2
    exact ⟨k, hk⟩

section
variable {h : Hdr} {window : BitVec 8} {offset : BitVec 32} {s : State}

theorem afeResidRead_completes {die : BitVec 8} {bs : List Byte} (ha : s.accepts h [.c] = true) (hp : h.plen = 0)
    (hdie : die.toNat < s.board.member.dies) (hbs : bs = (List.range 104).flatMap (fun c => (s.taken h 0x020C).residRec die.toNat c))
    (hw : s.winHas window.toNat offset.toNat bs.length = true) :
    ∃ t, exec (.afeResidRead h die window offset) s = .next t ∧
      State.Writes h 0x020C (s.winAddr window.toNat offset.toNat) bs [] s t := by
  subst hbs
  exact windowRead_completes rfl ha hp (decide_eq_true hdie) rfl (s.taken_runs ..) rfl hw

theorem shdSetRead_completes {set copy : BitVec 8} {x : ShdSet} {bs : List Byte} (ha : s.accepts h [.c] = true) (hp : h.plen = 0)
    (hset : set.toNat ≤ 3) (hcopy : copy.toNat ≤ 1)
    (hx : (if copy = 0 then s.activeSet set.toNat else s.stagedSet set.toNat) = some x)
    (hbs : bs = x.image (pixCount s.board.member (if copy = 0 then s.active else s.shadow)))
    (hw : s.winHas window.toNat offset.toNat bs.length = true) :
    ∃ t, exec (.shdSetRead h set window copy offset) s = .next t ∧
      State.Writes h 0x0404 (s.winAddr window.toNat offset.toNat) bs [] s t := by
  have hx' : (if copy = 0 then (s.taken h 0x0404).activeSet set.toNat else (s.taken h 0x0404).stagedSet set.toNat) = some x := hx
  subst hbs
  refine windowRead_completes (u := s.taken h 0x0404) rfl ha hp (by simp [hset, hcopy]) ?_ (s.taken_runs ..) rfl hw
  dsimp only
  rw [hx']
  rfl

/-- SHD_QUALITY_READ takes a free value for each figure that no calibration has left (R240). -/
theorem shdQualityRead_completes {x : ShdSet} {c : ShdCfg} {vs : List Nat} {fig : Nat → Nat → Quality} {bs : List Byte}
    (ha : s.accepts h [.c] = true) (hp : h.plen = 0)
    (hx : x = (match s.shd.staged with | some k => s.stagedSet k | none => s.activeSet s.shd.qSet).getD ShdSet.reset)
    (hc : c = (if s.shd.staged.isSome then s.shadow.shdCfg else s.active.shdCfg)) (hvs : vs = ((s.taken h 0x0408).frees 16 384).1)
    (hfig : fig = fun z k => if s.shd.qPorts.getLsbD z then sget Quality.reset (4 * z + k) s.shd.quality
      else x.figures (if s.shd.staged.isSome then s.shadow else s.active) z k
        (vs.getD (2 * (4 * z + k)) 0, vs.getD (2 * (4 * z + k) + 1) 0))
    (hbs : bs = (List.range 48).flatMap (fun z => (List.range 4).flatMap (fun k =>
      le 2 (fig z k).rnu ++ le 2 (fig z k).prnu ++ le 2 (fig z k).defects ++ le 2 (fig z k).unrecov ++ leS 2 (tagOf c x z k) ++ le 2 0)))
    (hw : s.winHas window.toNat offset.toNat bs.length = true) :
    ∃ t, exec (.shdQualityRead h window offset) s = .next t ∧
      State.Writes h 0x0408 (s.winAddr window.toNat offset.toNat) bs [] s t := by
  obtain ⟨k, hk⟩ := State.frees_shape 16 384 (s.taken h 0x0408)
  have hcfg : c = (if s.shd.staged.isSome then s.shadow else s.active).shdCfg := by rw [hc]; split <;> rfl
  subst hx hcfg hvs hfig hbs
  refine windowRead_completes (u := ((s.taken h 0x0408).frees 16 384).2) rfl ha hp rfl rfl ?_ ?_ hw
  · rw [hk]; exact s.taken_runs h 0x0408
  · rw [hk]; rfl

theorem seamQualityRead_completes {bs : List Byte} (ha : s.accepts h [.c] = true) (hp : h.plen = 0)
    (hbs : bs = s.aln.seams.flatMap (fun q => le 1 q.portA ++ le 1 q.portB ++ le 2 q.resid ++ le 2 q.dstep ++ le 2 0))
    (hw : s.winHas window.toNat offset.toNat bs.length = true) :
    ∃ t, exec (.seamQualityRead h window offset) s = .next t ∧
      State.Writes h 0x0504 (s.winAddr window.toNat offset.toNat) bs [] s t := by
  subst hbs
  exact windowRead_completes rfl ha hp rfl rfl (s.taken_runs ..) rfl hw

theorem sklFlagsRead_completes {bs : List Byte} (ha : s.accepts h [.c] = true) (hp : h.plen = 0)
    (hbs : bs = (List.range 16384).flatMap (fun g => le 4 (sget GroupSt.reset g s.skl.snap).word))
    (hw : s.winHas window.toNat offset.toNat bs.length = true) :
    ∃ t, exec (.sklFlagsRead h window offset) s = .next t ∧
      State.Writes h 0x0705 (s.winAddr window.toNat offset.toNat) bs [] s t := by
  have hbody : (s.taken h 0x0705).winResult window.toNat offset.toNat
      ((List.range 16384).flatMap (fun g => le 4 (sget GroupSt.reset g (s.taken h 0x0705).skl.snap).word)) [] =
        (s.taken h 0x0705).winResult window.toNat offset.toNat bs [] := by rw [hbs]; rfl
  exact windowRead_completes rfl ha hp rfl hbody (s.taken_runs ..) rfl hw

theorem thermRead_completes {bs : List Byte} (ha : s.accepts h [.c] = true) (hp : h.plen = 0)
    (hbs : bs = (s.taken h 0x0B02).thermBytes) (hw : s.winHas window.toNat offset.toNat bs.length = true) :
    ∃ t, exec (.thermRead h window offset) s = .next t ∧
      State.Writes h 0x0B02 (s.winAddr window.toNat offset.toNat) bs [] s t := by
  subst hbs
  exact windowRead_completes rfl ha hp rfl rfl (s.taken_runs ..) rfl hw

/-! ## Reads that also clear (R418, R474) -/

/-- A command that writes one result, and with CLEAR = 1 then clears what it has read. -/
theorem windowReadClear_completes {i : Instr} {op : Nat} {inRange : Bool} {body : State → Res} {bs data : List Byte}
    {clear : BitVec 8} {g : State → State} (he : exec i s = (s.take h op [.c] true (some 0) inRange body).out)
    (ha : s.accepts h [.c] = true) (hp : h.plen = 0) (hr : inRange = true)
    (hctx : ∀ u n, (g u).ctx n = u.ctx n) (hmem : ∀ u, (g u).dram.mem = u.dram.mem)
    (hb : body (s.taken h op) = .ok data [] (if clear = 1 then g ((s.taken h op).dramWrite 9 (s.winAddr window.toNat offset.toNat) bs)
      else (s.taken h op).dramWrite 9 (s.winAddr window.toNat offset.toNat) bs)) :
    ∃ t, exec i s = .next t ∧ State.Writes h op (s.winAddr window.toNat offset.toNat) bs data s t ∧
      (clear = 1 → ∃ u, t = ((g u).done h.ctx.toNat data).settle) := by
  have hruns : ((s.taken h op).dramWrite 9 (s.winAddr window.toNat offset.toNat) bs).Runs h op := s.taken_runs h op
  refine ⟨_, exec_of_inline_body he ha hp hr hb, State.Runs.writes ?_ ?_, fun hc => ⟨_, by rw [if_pos hc]⟩⟩
  · split
    · exact (congrArg Ctx.cur (hctx ..)).trans hruns
    · exact hruns
  · split
    · exact hmem _
    · rfl

/-- The sticky flags of some accumulators are cleared (R418). -/
def State.stickyCleared (ns : List Nat) (s : State) : State :=
  s.setMadc (fun m => { m with acc := ns.foldl (fun t n => supd AccSet.reset n (fun a => { a with sticky := false }) t) m.acc })

theorem State.stickyCleared_sticky {n : Nat} {ns : List Nat} (hd : ns.Nodup) (hn : n ∈ ns) (s : State) :
    (sget AccSet.reset n (s.stickyCleared ns).madc.acc).sticky = false :=
  congrArg AccSet.sticky (sget_foldl_supd AccSet.reset (fun _ a => { a with sticky := false }) hd hn s.madc.acc)

theorem madcAccRead_completes {clear maskHi : BitVec 8} {mask : BitVec 64} {bs : List Byte} (ha : s.accepts h [.c] = true)
    (hp : h.plen = 0) (hclear : clear.toNat ≤ 1)
    (hbs : bs = (setBits 72 (mask.toNat + 2 ^ 64 * maskHi.toNat)).flatMap (fun n => (s.taken h 0x0A06).accRec n))
    (hw : s.winHas window.toNat offset.toNat bs.length = true) :
    ∃ t, exec (.madcAccRead h window clear offset mask maskHi) s = .next t ∧
      State.Writes h 0x0A06 (s.winAddr window.toNat offset.toNat) bs [] s t ∧
      (clear = 1 → ∀ n ∈ setBits 72 (mask.toNat + 2 ^ 64 * maskHi.toNat), (sget AccSet.reset n t.madc.acc).sticky = false) := by
  obtain ⟨t, he, hwrites, hcleared⟩ := windowReadClear_completes (i := .madcAccRead h window clear offset mask maskHi) (clear := clear)
    (g := State.stickyCleared (setBits 72 (mask.toNat + 2 ^ 64 * maskHi.toNat))) (bs := bs) (data := [])
    rfl ha hp (decide_eq_true hclear) (fun _ _ => rfl) (fun _ => rfl) (by
      dsimp only
      rw [← hbs, State.winResult_of_has (s := s.taken h 0x0A06) hw]
      rfl)
  refine ⟨t, he, hwrites, fun hc n hn => ?_⟩
  obtain ⟨u, rfl⟩ := hcleared hc
  rw [State.settle_madc, State.done_madc]
  exact State.stickyCleared_sticky (List.nodup_range.filter _) hn u

/-- The log is cleared, with its counts of the entries it had no room for (R474). -/
def State.logCleared (s : State) : State := { s with dram := { s.dram with log := [], dropCorr := 0, dropUnc := 0 } }

theorem dramLogRead_completes {clear : BitVec 8} {bs : List Byte} (ha : s.accepts h [.c] = true) (hp : h.plen = 0)
    (hclear : clear.toNat ≤ 1) (hbs : bs = s.dram.log.flatMap LogEntry.bytes)
    (hw : s.winHas window.toNat offset.toNat bs.length = true) :
    ∃ t, exec (.dramLogRead h window clear offset) s = .next t ∧
      State.Writes h 0x0C06 (s.winAddr window.toNat offset.toNat) bs
        (le 2 s.dram.log.length ++ le 2 (min 0xFFFF s.dram.dropCorr) ++ le 2 (min 0xFFFF s.dram.dropUnc)) s t ∧
      (clear = 1 → t.dram.log = [] ∧ t.dram.dropCorr = 0 ∧ t.dram.dropUnc = 0) := by
  have hlog : (s.taken h 0x0C06).dram.log.flatMap LogEntry.bytes = bs := hbs.symm
  obtain ⟨t, he, hwrites, hcleared⟩ := windowReadClear_completes (i := .dramLogRead h window clear offset) (clear := clear)
    (g := State.logCleared) (bs := bs)
    (data := le 2 s.dram.log.length ++ le 2 (min 0xFFFF s.dram.dropCorr) ++ le 2 (min 0xFFFF s.dram.dropUnc))
    rfl ha hp (decide_eq_true hclear) (fun _ _ => rfl) (fun _ => rfl) (by
      dsimp only
      rw [hlog, State.winResult_of_has (s := s.taken h 0x0C06) hw]
      rfl)
  refine ⟨t, he, hwrites, fun hc => ?_⟩
  obtain ⟨u, rfl⟩ := hcleared hc
  rw [State.settle_dram, State.done_dram]
  exact ⟨rfl, rfl, rfl⟩

end

/-- Settles O14, one command after the other. -/
theorem windowReadsComplete : Obligations.WindowReadsComplete := by
  rintro h window offset a s ha hp rfl
  exact ⟨fun die bs hdie hbs hw => afeResidRead_completes ha hp hdie hbs hw,
    fun set copy x bs hset hcopy hx hbs hw => shdSetRead_completes ha hp hset hcopy hx hbs hw,
    fun x c vs fig bs hx hc hvs hfig hbs hw => shdQualityRead_completes ha hp hx hc hvs hfig hbs hw,
    fun bs hbs hw => seamQualityRead_completes ha hp hbs hw, fun bs hbs hw => sklFlagsRead_completes ha hp hbs hw,
    fun clear maskHi mask bs hclear hbs hw => madcAccRead_completes ha hp hclear hbs hw,
    fun bs hbs hw => thermRead_completes ha hp hbs hw, fun clear bs hclear hbs hw => dramLogRead_completes ha hp hclear hbs hw⟩

end Sys2Proof.Machine
end

section
/-! PROOFS. The events of calibration and spares (R141, R142, R147, R149, R150, R152, R153, R155). -/

namespace Sys2Proof.Machine

/-! ## Operations on ports and dies alone -/

/-- `t` differs from `s` at most in the ports, in the dies, and by signals. -/
def State.FrontStep (s t : State) : Prop :=
  ∃ g d, ({ s with ports := { s.ports with ports := g, dies := d } } : State).Signals t

namespace State.FrontStep

variable {s t u : State}

theorem refl (s : State) : s.FrontStep s := ⟨_, _, .refl s⟩

theorem trans (h : s.FrontStep t) (k : t.FrontStep u) : s.FrontStep u := by
  obtain ⟨_, _, hs⟩ := h
  obtain ⟨g, d, ks⟩ := k
  obtain ⟨_, _, _, _, _, _, _, _, rfl⟩ := hs
  obtain ⟨_, _, _, _, _, _, _, _, rfl⟩ := ks
  exact ⟨g, d, _, _, _, _, _, _, _, _, rfl⟩

theorem foldl {α : Type} {f : State → α → State} (hf : ∀ (s : State) (x : α), s.FrontStep (f s x)) (l : List α) (s : State) :
    s.FrontStep (l.foldl f s) :=
  List.foldlRecOn l f (refl s) fun t ht x _ => ht.trans (hf t x)

theorem of_setDie (k : Nat) (f : FeDie → FeDie) : s.FrontStep (s.setDie k f) := ⟨_, _, .refl _⟩

theorem of_setCh (k c : Nat) (f : Channel → Channel) : s.FrontStep (s.setCh k c f) := of_setDie ..

theorem of_segStep (h : s.SegStep t) : s.FrontStep t := by
  obtain ⟨g, hg⟩ := h
  exact ⟨g, _, hg⟩

theorem of_spareNote (k : Nat) : s.FrontStep (s.spareNote k) := by
  unfold State.spareNote
  dsimp only
  split
  · exact (of_setDie ..).trans (of_segStep (.of_portEvents _ 8))
  · exact of_setDie ..

theorem of_substitute (k : Nat) : s.FrontStep (s.substitute k) := by
  refine (foldl (fun s c => ?_) _ s).trans ((of_spareNote k).trans (of_segStep (.of_syncDie k)))
  split
  · exact (of_setCh ..).trans (of_setDie ..)
  · exact refl _

theorem of_declareFailed (k c : Nat) : s.FrontStep (s.declareFailed k c) := by
  have hports (l : List Nat) (u : State) : u.FrontStep (l.foldl (fun (s : State) p => s.portEvent p 4) u) :=
    of_segStep (.of_portEvents l 4)
  have hend (u : State) : u.FrontStep ((u.spareNote k).syncDie k) := (of_spareNote k).trans (of_segStep (.of_syncDie k))
  unfold State.declareFailed
  dsimp only
  split
  · exact refl s
  · refine trans ?_ (hend _)
    have hdecl : s.FrontStep (s.setCh k c (fun x => { x with failed := true })) := of_setCh ..
    generalize s.setCh k c (fun x => { x with failed := true }) = u at hdecl
    have hcarried (o : Option Nat) : s.FrontStep (match o with
        | some home => (s.portsOfChan k home).foldl (fun (s : State) p => s.portEvent p 4) u
        | none => u) := by
      cases o with
      | none => exact hdecl
      | some home => exact hdecl.trans (hports ..)
    split
    · split
      · exact (hcarried (some c)).trans (of_setCh ..)
      · exact (hcarried (some c)).trans (of_setDie ..)
    · split
      · split
        · exact ((hcarried (some _)).trans (of_setCh ..)).trans (of_setDie ..)
        · exact (hcarried (some _)).trans (of_setCh ..)
      · exact hcarried none

theorem of_fgResult (r : CalResult) : s.FrontStep (s.fgResult r) := by
  unfold State.fgResult
  dsimp only
  split
  · split
    · exact (((of_setCh ..).trans (of_setDie ..)).trans (of_setCh ..)).trans (of_setDie ..)
    · exact (of_setCh ..).trans (of_setDie ..)
  · exact (of_setCh ..).trans (of_declareFailed ..)

theorem of_startBack (k : Nat) : s.FrontStep (s.startBack k) := by
  unfold State.startBack
  split
  · dsimp only
    split
    · exact (of_setDie ..).trans (of_setDie ..)
    · exact of_setDie ..
  · exact refl s

theorem ctx (h : s.FrontStep t) (n : Nat) : t.ctx n = s.ctx n := by
  obtain ⟨_, _, hs⟩ := h; exact hs.ctx n

theorem fgCal (h : s.FrontStep t) : t.ports.fgCal = s.ports.fgCal := by
  obtain ⟨_, _, _, _, _, _, _, _, _, _, rfl⟩ := h; rfl

end State.FrontStep

/-! ## Channels of a die -/

/-- A change of a die that is not one of its channels. -/
theorem State.ch_setDie {k : Nat} {f : FeDie → FeDie} {s : State} (hf : ∀ d, (f d).chans = d.chans) (c : Nat) :
    (s.setDie k f).ch k c = s.ch k c := by
  simp only [State.ch, State.die_setDie_self, hf]

/-- A channel's figures are no other part of its die. -/
theorem State.die_setCh (k c : Nat) (f : Channel → Channel) (s : State) :
    (s.setCh k c f).die k = { s.die k with chans := supd Channel.reset c f (s.die k).chans } := State.die_setDie_self ..

@[simp] theorem State.settle_ch (k c : Nat) (s : State) : s.settle.ch k c = s.ch k c := by simp only [State.ch, State.settle_die]

theorem State.SegStep.ch {s t : State} (h : s.SegStep t) (k c : Nat) : t.ch k c = s.ch k c := by simp only [State.ch, h.die]

/-- BG_HALT and BG_SLOW are all of a die that its free spares decide (R148). -/
theorem State.spareNote_die (k : Nat) (s : State) : ∃ a b, (s.spareNote k).die k = { s.die k with bgHalt := a, bgSlow := b } := by
  unfold State.spareNote
  dsimp only
  split
  · exact ⟨_, _, ((State.SegStep.of_portEvents _ 8).die k).trans (State.die_setDie_self ..)⟩
  · exact ⟨_, _, State.die_setDie_self ..⟩

section
variable {tm : Nat} {die : BitVec 2} {s : State}

/-! ## The rotation (R141, R147, R149) -/

theorem execBgCalStepStart_of_bare {c : Nat} {u : State} (hu : s.atTime tm = u) (hcal : u.calibrating = true)
    (hpow : (u.die die.toNat).powered = true) (hhalt : (u.die die.toNat).bgHalt = false) (hrot : (u.die die.toNat).rotCh = none)
    (hho : (u.die die.toNat).handover = none) (hdue : (u.die die.toNat).rotUntil ≤ u.now) (hfg : u.inFgCal die.toNat = false)
    (hnext : u.nextRot die.toNat = some c) (hbare : u.carriesTaps die.toNat c = false) :
    execBgCalStepStart tm die s =
      (u.setDie die.toNat (fun d => { d with rotCh := some c, rotUntil := u.now + 2100000 })).out := by
  unfold execBgCalStepStart
  simp [hu, hcal, hpow, hhalt, hrot, hho, hdue, hfg, hnext, hbare]

/-- A channel that carries no taps is measured at once. -/
theorem bgCalStepStart_starts {c : Nat} (hcal : s.calibrating = true) (hpow : (s.die die.toNat).powered = true)
    (hhalt : (s.die die.toNat).bgHalt = false) (hrot : (s.die die.toNat).rotCh = none) (hho : (s.die die.toNat).handover = none)
    (hdue : (s.die die.toNat).rotUntil ≤ max s.now tm) (hfg : s.inFgCal die.toNat = false) (hnext : s.nextRot die.toNat = some c)
    (hbare : s.carriesTaps die.toNat c = false) :
    ∃ t, exec (.bgCalStepStart tm die) s = .next t ∧ (t.die die.toNat).rotCh = some c ∧
      (t.die die.toNat).rotUntil = max s.now tm + 2100000 := by
  refine ⟨_, execBgCalStepStart_of_bare rfl hcal hpow hhalt hrot hho hdue hfg hnext hbare, ?_⟩
  rw [State.settle_die, State.die_setDie_self]
  exact ⟨rfl, rfl⟩

/-! ## Handovers (R142) -/

/-- The spare carries the home channel's taps once the source has changed to it. -/
theorem State.switchTaps_covers {k : Nat} {h : Handover} (hback : h.back = false) (hhome : h.home < 96) (s : State) :
    ((s.switchTaps k h).ch k h.spare).covers = some h.home := by
  unfold State.switchTaps
  simp only [hback, hhome, if_true, Bool.false_eq_true, if_false]
  rw [(State.SegStep.of_syncDie k).ch, State.ch_setCh_self, State.ch_setCh_self]

/-- After a handover out, the channel is measured. -/
theorem State.takeOver_out {k : Nat} {h : Handover} (hback : h.back = false) (hhome : h.home < 96) (s : State) :
    ((s.takeOver k h).die k).handover = some { h with attempt := 0, passed := false } ∧
      ((s.takeOver k h).ch k h.spare).covers = some h.home := by
  have ht : s.takeOver k h = (s.switchTaps k h).setDie k (fun d =>
      { d with handover := some { h with attempt := 0, passed := false }, rotUntil := s.now + 2100000 }) :=
    if_neg (by simp [hback])
  have hch : (s.takeOver k h).ch k h.spare = (s.switchTaps k h).ch k h.spare := by
    rw [ht]
    exact State.ch_setDie (by intro; rfl) _
  rw [hch, State.switchTaps_covers hback hhome, ht, State.die_setDie_self]
  exact ⟨rfl, rfl⟩

section
variable {h : Handover} {spareMean chanMean : Int}

/-- A comparison that is due is judged. -/
theorem execHandoverCompare_of_due {u : State} (hu : s.atTime tm = u) (hho : (u.die die.toNat).handover = some h) (hatt : h.attempt ≠ 0)
    (hrec : h.recal = false) (hpass : h.passed = false) (hmove : u.portsMove = true) (hready : h.readyAt ≤ u.now) :
    execHandoverCompare tm die spareMean chanMean s =
      (if (spareMean - chanMean).natAbs ≤ 16 then
        (if u.mode.mode.isCapture then u.setDie die.toNat (fun d => { d with handover := some { h with passed := true } })
         else u.takeOver die.toNat h).out
      else if h.attempt = 1 then
        ((u.setCh die.toNat (if h.back then h.home else h.spare) (fun x => { x with hoFails := x.hoFails + 1 })).setDie
          die.toNat (fun d => { d with handover := some { h with attempt := 2, recal := true }, rotUntil := u.now + 2100000 })).out
      else ((u.setCh die.toNat (if h.back then h.home else h.spare) (fun x => { x with hoFails := x.hoFails + 1 })).takerFails
        die.toNat h).out) := by
  have hgo : ¬ (decide (h.attempt = 0) || h.recal || h.passed || !u.portsMove || decide (u.now < h.readyAt)) = true := by
    simp [hatt, hrec, hpass, hmove, hready]
  unfold execHandoverCompare
  simp only [hu, hho]
  exact if_neg hgo

variable (hho : (s.die die.toNat).handover = some h) (hatt : h.attempt ≠ 0) (hrec : h.recal = false)
    (hpass : h.passed = false) (hmove : s.portsMove = true) (hready : h.readyAt ≤ max s.now tm)
include hho hatt hrec hpass hmove hready

/-- A comparison within one LSB passes: while lines run, the source waits for the die's next line boundary; otherwise it changes. -/
theorem handoverCompare_passes (hnear : (spareMean - chanMean).natAbs ≤ 16) :
    ∃ t, exec (.handoverCompare tm die spareMean chanMean) s = .next t ∧
      (s.mode.mode.isCapture = true → (t.die die.toNat).handover = some { h with passed := true } ∧
        (t.ch die.toNat h.spare).covers = (s.ch die.toNat h.spare).covers) ∧
      (s.mode.mode.isCapture = false → h.back = false → h.home < 96 →
        (t.die die.toNat).handover = some { h with attempt := 0, passed := false } ∧
          (t.ch die.toNat h.spare).covers = some h.home) := by
  refine ⟨_, (execHandoverCompare_of_due rfl hho hatt hrec hpass hmove hready).trans (if_pos hnear), fun hcap => ?_,
    fun hcap hback hhome => ?_⟩
  · rw [if_pos (show (s.atTime tm).mode.mode.isCapture = true from hcap), State.settle_die, State.settle_ch, State.die_setDie_self,
      State.ch_setDie]
    · exact ⟨rfl, rfl⟩
    · exact fun _ => rfl
  · rw [if_neg (by simp [hcap]), State.settle_die, State.settle_ch]
    exact State.takeOver_out hback hhome _

/-- A first comparison that fails has the side that would take the taps over calibrated again. -/
theorem handoverCompare_recalibrates (hfar : 16 < (spareMean - chanMean).natAbs) (hfirst : h.attempt = 1) :
    ∃ t, exec (.handoverCompare tm die spareMean chanMean) s = .next t ∧
      (t.die die.toNat).handover = some { h with attempt := 2, recal := true } ∧
      (t.die die.toNat).rotUntil = max s.now tm + 2100000 := by
  refine ⟨_, (execHandoverCompare_of_due rfl hho hatt hrec hpass hmove hready).trans
    ((if_neg (Nat.not_le.2 hfar)).trans (if_pos hfirst)), ?_⟩
  rw [State.settle_die, State.die_setDie_self]
  exact ⟨rfl, rfl⟩

end

/-! ## Substitution (R144) -/

/-- A spare takes the taps of a failed channel, which then no longer waits for one. -/
def State.spareTakes (k c sp : Nat) (s : State) : State :=
  (s.setCh k sp (fun x => { x with covers := some c, forFault := true })).setDie k (fun d =>
    { d with pendingSub := d.pendingSub.filter (· != c) })

theorem State.spareTakes_covers (k c sp : Nat) (s : State) : ((s.spareTakes k c sp).ch k sp).covers = some c := by
  unfold State.spareTakes
  rw [State.ch_setDie, State.ch_setCh_self]
  exact fun _ => rfl

theorem State.spareTakes_pendingSub (k c sp : Nat) (s : State) :
    ((s.spareTakes k c sp).die k).pendingSub = (s.die k).pendingSub.filter (· != c) := by
  unfold State.spareTakes
  rw [State.die_setDie_self, State.die_setCh]

/-- The one channel that waits gets the lowest free spare. -/
theorem State.substitute_of_one {k c sp : Nat} (hpend : (s.die k).pendingSub = [c]) (hsp : s.pickSpare k = some sp) :
    ((s.substitute k).ch k sp).covers = some c ∧ ((s.substitute k).die k).pendingSub = [] := by
  have hsub : s.substitute k = ((s.spareTakes k c sp).spareNote k).syncDie k := by
    unfold State.substitute
    simp only [hpend, List.foldl_cons, List.foldl_nil, hsp]
    rfl
  obtain ⟨a, b, hnote⟩ := (s.spareTakes k c sp).spareNote_die k
  have hdie : (s.substitute k).die k = { (s.spareTakes k c sp).die k with bgHalt := a, bgSlow := b } := by
    rw [hsub, (State.SegStep.of_syncDie k).die, hnote]
  have hch : (s.substitute k).ch k sp = (s.spareTakes k c sp).ch k sp := by simp only [State.ch, hdie]
  refine ⟨by rw [hch, State.spareTakes_covers], ?_⟩
  rw [hdie]
  dsimp only
  rw [State.spareTakes_pendingSub, hpend]
  simp

theorem spareSubstitution_substitutes {c sp : Nat} (hpend : (s.die die.toNat).pendingSub = [c])
    (hsp : s.pickSpare die.toNat = some sp) (hmove : s.portsMove = true) :
    ∃ t, exec (.spareSubstitution tm die) s = .next t ∧ (t.ch die.toNat sp).covers = some c ∧ (t.die die.toNat).pendingSub = [] := by
  have he : exec (.spareSubstitution tm die) s = .next ((s.atTime tm).substitute die.toNat).settle :=
    congrArg (fun t : State => t.out) (if_pos (show (s.atTime tm).portsMove = true from hmove))
  refine ⟨_, he, ?_⟩
  rw [State.settle_ch, State.settle_die]
  exact State.substitute_of_one (s := s.atTime tm) hpend hsp

/-! ## Measurements (R150, R151) -/

section
variable {c : Nat} {result : CalResult}

/-- The result of a measurement outside a handover is judged once the step has had its time. -/
theorem execBgMeasurementEnd_of_due {u : State} (hu : s.atTime tm = u) (hrot : (u.die die.toNat).rotCh = some c)
    (hho : (u.die die.toNat).handover = none) (hdue : (u.die die.toNat).rotUntil ≤ u.now) (hmove : u.portsMove = true) :
    execBgMeasurementEnd tm die result s =
      (if calAccepted result then
        (u.setCh die.toNat c (Channel.calibrated result (u.dieTemp die.toNat) u.now)).endStep die.toNat c
      else u.notAccepted die.toNat c (fun s => (s.declareFailed die.toNat c).endStep die.toNat c)).out := by
  have hgo : ¬ (!u.portsMove || decide (u.now < (u.die die.toNat).rotUntil)) = true := by simp [hmove, hdue]
  unfold execBgMeasurementEnd
  simp only [hu, hho, hrot]
  exact if_neg hgo

/-- The end of a step leaves the figures of the channels alone, and the die measures none. -/
theorem State.endStep_ch (k c j : Nat) (s : State) : (s.endStep k c).ch k j = s.ch k j := State.ch_setDie (by intro; rfl) j

theorem State.endStep_rotCh (k c : Nat) (s : State) : ((s.endStep k c).die k).rotCh = none :=
  congrArg FeDie.rotCh (State.die_setDie_self ..)

theorem bgMeasurementEnd_accepts (hrot : (s.die die.toNat).rotCh = some c) (hho : (s.die die.toNat).handover = none)
    (hdue : (s.die die.toNat).rotUntil ≤ max s.now tm) (hmove : s.portsMove = true) (hacc : calAccepted result = true) :
    ∃ t, exec (.bgMeasurementEnd tm die result) s = .next t ∧ (t.die die.toNat).rotCh = none ∧
      (t.ch die.toNat c).calAt = some (max s.now tm) ∧ (t.ch die.toNat c).calFails = 0 := by
  refine ⟨_, execBgMeasurementEnd_of_due rfl hrot hho hdue hmove, ?_⟩
  rw [if_pos hacc, State.settle_die, State.settle_ch, State.endStep_rotCh, State.endStep_ch, State.ch_setCh_self]
  exact ⟨rfl, rfl, rfl⟩

/-- A first measurement that is not accepted is taken again at once. -/
theorem bgMeasurementEnd_repeats (hrot : (s.die die.toNat).rotCh = some c) (hho : (s.die die.toNat).handover = none)
    (hdue : (s.die die.toNat).rotUntil ≤ max s.now tm) (hmove : s.portsMove = true) (hacc : calAccepted result = false)
    (hfirst : (s.ch die.toNat c).calFails = 0) :
    ∃ t, exec (.bgMeasurementEnd tm die result) s = .next t ∧ (t.die die.toNat).rotCh = some c ∧
      (t.ch die.toNat c).calFails = 1 ∧ (t.die die.toNat).rotUntil = max s.now tm + 2100000 := by
  have hagain (last : State → State) : (s.atTime tm).notAccepted die.toNat c last =
      ((s.atTime tm).setCh die.toNat c (fun x => { x with calFails := 1 })).setDie die.toNat
        (fun d => { d with rotUntil := max s.now tm + 2100000 }) := if_pos hfirst
  refine ⟨_, execBgMeasurementEnd_of_due rfl hrot hho hdue hmove, ?_⟩
  rw [if_neg (by simp [hacc]), hagain, State.settle_die, State.settle_ch, State.die_setDie_self, State.ch_setDie,
    State.ch_setCh_self, State.die_setCh]
  · exact ⟨hrot, rfl, rfl⟩
  · exact fun _ => rfl

end

/-! ## Trims (R152) -/

/-- A die's temperature is that of its sensors (R98). -/
theorem State.dieTemp_congr {s t : State} (h : t.therm = s.therm) (k : Nat) : t.dieTemp k = s.dieTemp k := by
  unfold State.dieTemp State.sensor
  rw [h]

/-- A powered die whose trims are to follow a temperature: while lines run, from its next line boundary on. -/
def FeDie.followed (capture : Bool) (temp : Int) (d : FeDie) : FeDie :=
  if d.powered then
    if capture then { d with trimTemp := some temp }
    else { d with trimTemp := none, chans := (List.range 104).foldl (fun m c => supd Channel.reset c (Channel.trimmed temp) m) d.chans }
  else d

theorem FeDie.followed_capture {temp : Int} {d : FeDie} (hpow : d.powered = true) (c : Nat) :
    (d.followed true temp).trimTemp = some temp ∧
      (sget Channel.reset c (d.followed true temp).chans).off = (sget Channel.reset c d.chans).off ∧
      (sget Channel.reset c (d.followed true temp).chans).gain = (sget Channel.reset c d.chans).gain ∧
      (sget Channel.reset c (d.followed true temp).chans).elem = (sget Channel.reset c d.chans).elem := by
  simp [FeDie.followed, hpow]

/-- A trim moves by at most one unit at a time; the element selection follows at once. -/
theorem FeDie.followed_idle {temp : Int} {c : Nat} {d : FeDie} (hpow : d.powered = true) (hc : c < 104) :
    ((sget Channel.reset c (d.followed false temp).chans).off - (sget Channel.reset c d.chans).off).natAbs ≤ 1 ∧
      ((sget Channel.reset c (d.followed false temp).chans).gain - (sget Channel.reset c d.chans).gain).natAbs ≤ 1 ∧
      (sget Channel.reset c (d.followed false temp).chans).elem = trimElem (sget Channel.reset c d.chans).sets temp := by
  have hch : sget Channel.reset c (d.followed false temp).chans = Channel.trimmed temp (sget Channel.reset c d.chans) := by
    simp only [FeDie.followed, hpow, if_true, Bool.false_eq_true, if_false]
    exact sget_foldl_supd Channel.reset (fun _ => Channel.trimmed temp) List.nodup_range (List.mem_range.2 hc) d.chans
  rw [hch]
  exact ⟨oneStep_natAbs_le .., oneStep_natAbs_le .., rfl⟩

/-- One die's part of TRIM_UPDATE. -/
def State.trimNext (s : State) (k : Nat) : State :=
  if !(s.die k).powered then s
  else if s.mode.mode.isCapture then s.setDie k (fun d => { d with trimTemp := some (s.dieTemp k) })
  else s.trimDie k (s.dieTemp k)

theorem exec_trimUpdate (tm : Nat) (s : State) :
    exec (.trimUpdate tm) s = .next ((List.range s.board.member.dies).foldl State.trimNext (s.atTime tm)).settle := rfl

theorem State.trimNext_die (k : Nat) (s : State) :
    (s.trimNext k).die k = (s.die k).followed s.mode.mode.isCapture (s.dieTemp k) := by
  unfold State.trimNext FeDie.followed State.trimDie
  cases hp : (s.die k).powered with
  | false => rfl
  | true =>
    cases hc : s.mode.mode.isCapture with
    | true => simp [hp]
    | false => simp [hp]

/-- It changes nothing but that die. -/
theorem State.trimNext_rest (k : Nat) (s : State) : (s.trimNext k).mode = s.mode ∧ (s.trimNext k).therm = s.therm ∧
    ∀ j, j ≠ k → (s.trimNext k).die j = s.die j := by
  unfold State.trimNext State.trimDie
  split
  · exact ⟨rfl, rfl, fun _ _ => rfl⟩
  · split
    · exact ⟨rfl, rfl, fun _ hj => State.die_setDie_ne _ _ hj⟩
    · exact ⟨rfl, rfl, fun _ hj => State.die_setDie_ne _ _ hj⟩

theorem State.die_foldl_trimNext_of_notMem {l : List Nat} {k : Nat} (hk : k ∉ l) (s : State) :
    (l.foldl State.trimNext s).die k = s.die k := by
  induction l generalizing s with
  | nil => rfl
  | cons j l ih =>
    obtain ⟨hj, hl⟩ := not_or.1 (List.mem_cons.not.1 hk)
    obtain ⟨-, -, hother⟩ := s.trimNext_rest j
    rw [List.foldl_cons, ih hl, hother k hj]

theorem State.die_foldl_trimNext {l : List Nat} {k : Nat} (hl : l.Nodup) (hk : k ∈ l) (s : State) :
    (l.foldl State.trimNext s).die k = (s.die k).followed s.mode.mode.isCapture (s.dieTemp k) := by
  induction l generalizing s with
  | nil => cases hk
  | cons j l ih =>
    obtain ⟨hj, hl⟩ := List.nodup_cons.1 hl
    rw [List.foldl_cons]
    by_cases e : k = j
    · subst e
      rw [State.die_foldl_trimNext_of_notMem hj, State.trimNext_die]
    · obtain ⟨hmode, htherm, hother⟩ := s.trimNext_rest j
      rw [ih hl ((List.mem_cons.1 hk).resolve_left e), hother k e, hmode, State.dieTemp_congr htherm]

theorem trimUpdate_follows (tm : Nat) (s : State) :
    ∃ t, exec (.trimUpdate tm) s = .next t ∧ ∀ k c, k < s.board.member.dies → (s.die k).powered = true → c < 104 →
      (s.mode.mode.isCapture = true → (t.die k).trimTemp = some (s.dieTemp k) ∧ (t.ch k c).off = (s.ch k c).off ∧
        (t.ch k c).gain = (s.ch k c).gain ∧ (t.ch k c).elem = (s.ch k c).elem) ∧
      (s.mode.mode.isCapture = false →
        ((t.ch k c).off - (s.ch k c).off).natAbs ≤ 1 ∧ ((t.ch k c).gain - (s.ch k c).gain).natAbs ≤ 1 ∧
          (t.ch k c).elem = trimElem (s.ch k c).sets (s.dieTemp k)) := by
  refine ⟨_, exec_trimUpdate tm s, fun k c hk hpow hc => ?_⟩
  have hdie := State.die_foldl_trimNext (s := s.atTime tm) List.nodup_range (List.mem_range.2 hk)
  rw [State.settle_die, State.settle_ch, State.ch, hdie]
  exact ⟨fun hcap => hcap ▸ FeDie.followed_capture hpow c, fun hcap => hcap ▸ FeDie.followed_idle hpow hc⟩

/-! ## The hourly save (R153) -/

/-- More record writes wait in the security unit (R609). -/
def State.asked (ws : List NvWrite) (s : State) : State := { s with sec := { s.sec with writes := s.sec.writes ++ ws } }

theorem State.nvPut_of_open {id : NvId} {data : List Byte} {why : NvWhy} {ctx : Option Nat} (hb : s.therm.nvBlock = false)
    (hs : s.sec.stopNv = false) : ∃ w, s.nvPut id data why ctx = some (s.asked [w]) := by
  unfold State.nvPut
  rw [hb, hs]
  exact ⟨_, rfl⟩

/-- While the store takes writes, a save asks for two of each die. -/
theorem State.saveTrims_of_open {ctx : Option Nat} (hb : s.therm.nvBlock = false) (hs : s.sec.stopNv = false) :
    ∃ ws, s.saveTrims ctx = some (s.asked ws) ∧ ws.length = 2 * s.board.member.dies := by
  suffices h : ∀ (l : List Nat) (ws : List NvWrite), ∃ vs,
      l.foldl (fun (r : Option State) k => r.bind (fun s => (s.nvPut (.trims k) (s.trimBytes k) .trim ctx).bind (fun s =>
        s.nvPut (.failedCh k) (s.failedBytes k) .trim ctx))) (some (s.asked ws)) = some (s.asked vs) ∧
        vs.length = ws.length + 2 * l.length by
    obtain ⟨vs, hvs, hlen⟩ := h (List.range s.board.member.dies) []
    refine ⟨vs, ?_, by simpa using hlen⟩
    rw [← hvs]
    simp [State.saveTrims, State.asked]
  intro l
  induction l with
  | nil => exact fun ws => ⟨ws, rfl, rfl⟩
  | cons k l ih =>
    intro ws
    obtain ⟨w, hw⟩ := State.nvPut_of_open (s := s.asked ws) (id := .trims k) (data := (s.asked ws).trimBytes k) (why := .trim)
      (ctx := ctx) hb hs
    obtain ⟨x, hx⟩ := State.nvPut_of_open (s := (s.asked ws).asked [w]) (id := .failedCh k)
      (data := ((s.asked ws).asked [w]).failedBytes k) (why := .trim) (ctx := ctx) hb hs
    have hall : ((s.asked ws).asked [w]).asked [x] = s.asked (ws ++ [w, x]) := by simp [State.asked]
    obtain ⟨vs, hvs, hlen⟩ := ih (ws ++ [w, x])
    refine ⟨vs, ?_, by rw [hlen]; simp only [List.length_append, List.length_cons, List.length_nil]; omega⟩
    rw [List.foldl_cons, Option.bind_some, hw, Option.bind_some, hx, hall, hvs]

theorem trimSaveHourly_saves (hm : s.mode.mode ≠ .boot) (hdue : s.sec.trimAt + 3600000000000 ≤ max s.now tm)
    (hb : s.therm.nvBlock = false) (hs : s.sec.stopNv = false) :
    ∃ t ws, exec (.trimSaveHourly tm) s = .next t ∧ t.sec.trimAt = max s.now tm ∧ t.sec.writes = s.sec.writes ++ ws ∧
      ws.length = 2 * s.board.member.dies := by
  let u : State := { s.atTime tm with sec := { s.sec with trimAt := max s.now tm } }
  obtain ⟨ws, hws, hlen⟩ := State.saveTrims_of_open (s := u) (ctx := none) hb hs
  have hgo : ¬ (s.mode.mode == .boot || decide (max s.now tm < s.sec.trimAt + 3600000000000)) = true := by
    simp [hm, Nat.not_lt.2 hdue]
  have he : exec (.trimSaveHourly tm) s = ((u.saveTrims none).getD u).out := if_neg hgo
  rw [hws] at he
  refine ⟨_, ws, he, ?_, ?_, hlen⟩
  · rw [State.settle_sec]; rfl
  · rw [State.settle_sec]; rfl

/-! ## The end of a foreground calibration (R155) -/

/-- The dies after a foreground calibration, before the trims are saved. -/
def State.fgCalibrated (dies : BitVec 4) (rs : List CalResult) (s : State) : State :=
  (setBits 4 dies.toNat).foldl (fun (s : State) k => ((s.spareNote k).substitute k).startBack k) (rs.foldl State.fgResult s)

theorem State.fgCalibrated_frontStep (dies : BitVec 4) (rs : List CalResult) (s : State) : s.FrontStep (s.fgCalibrated dies rs) :=
  (State.FrontStep.foldl (fun _ r => .of_fgResult r) rs s).trans
    (.foldl (fun _ k => ((State.FrontStep.of_spareNote k).trans (.of_substitute k)).trans (.of_startBack k)) _ _)

/-- A save of the trims, or none where the store refuses, is a matter of the security unit. -/
theorem State.trimsSaved_shape (s : State) : ∃ x, (s.saveTrims none).getD s = { s with sec := x } := by
  cases e : s.saveTrims none with
  | none => exact ⟨_, rfl⟩
  | some t => exact State.saveTrims_shape e

theorem afeFgCalDone_ends {n : Nat} {dies : BitVec 4} {c : RunCmd} {results : List CalResult}
    (hfg : s.ports.fgCal = some (n, dies)) (hcur : (s.ctx n).cur = some c) (hcpl : c.noCpl = false)
    (hacc : ∀ r ∈ results, calAccepted r = true) :
    ∃ t e, exec (.afeFgCalDone tm results) s = .next t ∧ t.ports.fgCal = none ∧ (t.ctx n).cur = none ∧
      (t.ctx n).ending = some e ∧ e.state = .done := by
  let rs := results.filter (fun r => dies.getLsbD r.die.toNat && decide (r.chan.toNat < 104))
  let u : State := ({ s.atTime tm with ports := { s.ports with fgCal := none } } : State).fgCalibrated dies rs
  obtain ⟨x, hx⟩ := u.trimsSaved_shape
  have hstep := State.fgCalibrated_frontStep dies rs { s.atTime tm with ports := { s.ports with fgCal := none } }
  have hgood : (rs.filter (fun r => !calAccepted r)).isEmpty = true := by
    rw [List.isEmpty_iff, List.filter_eq_nil_iff]
    intro r hr
    simp [hacc r (List.mem_filter.1 hr).1]
  have hfg' : (s.atTime tm).ports.fgCal = some (n, dies) := hfg
  have he : exec (.afeFgCalDone tm results) s = .next (({ u with sec := x } : State).done n (le 1 0)).settle := by
    have he : exec (.afeFgCalDone tm results) s = execAfeFgCalDone tm results s := rfl
    unfold execAfeFgCalDone at he
    simp only [hfg'] at he
    rw [if_pos hgood] at he
    rw [he, ← hx]
    rfl
  have hrun : (({ u with sec := x } : State).ctx n).cur = some c := (congrArg Ctx.cur (hstep.ctx n)).trans hcur
  refine ⟨_, { opcode := c.opcode, seq := c.seq, state := .done, result := BitVec.ofNat 8 cOk, rlen := 0,
               data := padTo 48 0 (le 1 0), noCpl := false }, he, ?_, ?_, ?_, rfl⟩
  · rw [State.settle_ports, State.done_ports]; exact hstep.fgCal
  · rw [State.settle_ctx, State.done, State.finish_of_entry .done cOk (le 1 0) hrun hcpl, State.ctx_setCtx_self]
  · rw [State.settle_ctx, State.done, State.finish_of_entry .done cOk (le 1 0) hrun hcpl, State.ctx_setCtx_self]

end

/-- Settles O36, one event after the other. -/
theorem calibrationEventsComplete : Obligations.CalibrationEventsComplete := by
  intro tm die s
  refine ⟨fun c hcal hpow hhalt hrot hho hdue hfg hnext hbare => bgCalStepStart_starts hcal hpow hhalt hrot hho hdue hfg hnext hbare,
    fun h spareMean chanMean hho hatt hrec hpass hmove hready => ⟨handoverCompare_passes hho hatt hrec hpass hmove hready,
      handoverCompare_recalibrates hho hatt hrec hpass hmove hready⟩,
    fun c sp hpend hsp hmove => spareSubstitution_substitutes hpend hsp hmove,
    fun c result hrot hho hdue hmove => ⟨bgMeasurementEnd_accepts hrot hho hdue hmove, bgMeasurementEnd_repeats hrot hho hdue hmove⟩,
    trimUpdate_follows tm s, fun hm hdue hb hs => trimSaveHourly_saves hm hdue hb hs,
    fun n dies c results hfg hcur hcpl hacc => afeFgCalDone_ends hfg hcur hcpl hacc⟩

end Sys2Proof.Machine
end

section
/-! PROOFS. The stagings of the line-timing family (R166, R181, R191, R193, R567). -/

namespace Sys2Proof.Machine

/-! ## What the checks of these stagings read -/

section
variable (h : Hdr) (op : Nat) (s : State)

@[simp] theorem State.received_axes : (s.received h op).axes = s.axes := State.fetched_axes ..
@[simp] theorem State.received_ring : (s.received h op).ring = s.ring := State.fetched_ring ..
@[simp] theorem State.received_simmer : (s.received h op).simmer = s.simmer := State.fetched_simmer ..

@[simp] theorem State.received_axis (x : Nat) : (s.received h op).axis x = s.axis x := by
  simp only [State.axis, State.received_axes]

@[simp] theorem State.received_followsA : (s.received h op).followsA = s.followsA := by
  simp only [State.followsA, State.received_axis]

@[simp] theorem State.received_axisClaims : (s.received h op).axisClaims = s.axisClaims := by
  simp only [State.axisClaims, State.received_active, State.received_shadow, State.received_followsA]

@[simp] theorem State.received_ltClaims : (s.received h op).ltClaims = s.ltClaims := by
  simp only [State.ltClaims, State.received_active, State.received_shadow]

@[simp] theorem State.received_hasRing : (s.received h op).hasRing = s.hasRing := by
  simp only [State.hasRing, State.received_ring]

@[simp] theorem State.received_ceiling (t : Tables) : (s.received h op).ceiling t = s.ceiling t := by
  simp only [State.ceiling, State.received_simmer]

end

/-! ## The stagings -/

/-- A staging that judges the size of its payload itself completes where its body writes one shadow copy. -/
theorem staging_completes_of_anySize {i : Instr} {h : Hdr} {op : Nat} {ops : List Nat} {body : State → Res} {data : List Byte}
    {f : Tables → Tables} {s : State} (he : exec i s = (s.take h op [.s] true none true (fun u => u.staging i h ops body)).out)
    (ha : s.accepts h [.s] = true) (hl : s.locked ops = false)
    (hb : body (s.received h op) = .ok data [] ((s.received h op).stage op f)) :
    ∃ t, exec i s = .next t ∧ State.Stages h op op data (f s.shadow) s t := by
  refine ⟨(((s.received h op).stage op f).done h.ctx.toNat data).settle, ?_,
    (s.received_runs h op).stages (by simp) (by simp) (by simp)⟩
  rw [he, State.take_of_accepts ha (fun _ hn => by cases hn), ← State.received, State.staging_of_free (by simpa using hl), hb]
  rfl

section
variable {h : Hdr} {s : State}

/-- A source table completes where the balls of encoder 1 and the timer are free for it (R165, R166, R171, R567). -/
theorem ltSrcStage_completes {src flags followers filtEnc filtSheet : BitVec 8} {chkTol : BitVec 16} {div : BitVec 64}
    {genPeriod flushPeriod : BitVec 32} {x : LtSrc} (ha : s.accepts h [.s] = true) (hp : h.plen = 0) (hl : s.locked [0x0300] = false)
    (hsrc : src.toNat ≤ 4) (hbar : src = 4 → s.rst.uzsId ≠ 0) (hflags : flags.toNat < 8) (hfollow : followers.toNat ≤ 3)
    (henc : filtEnc.toNat ≤ 15) (hsheet : filtSheet.toNat ≤ 100) (hdiv : 2 ^ 32 ≤ div.toNat) (hdiv' : div.toNat < 65536 * 2 ^ 32)
    (hgen : src = 3 → genPeriod ≠ 0) (hfl : 20000 ≤ zeroIs 200000 flushPeriod.toNat)
    (hfl' : zeroIs 200000 flushPeriod.toNat ≤ 10000000)
    (hx : x = { src := src, interp := flags.getLsbD 0, dir0 := flags.getLsbD 1, dir1 := flags.getLsbD 2, followers := followers,
                filtEnc := filtEnc, filtSheet := filtSheet, chkTol := chkTol, div := div, genPeriod := genPeriod,
                flushPeriod := flushPeriod })
    (hballs : (x.claims && s.axisClaims) = false) (htimer : src = 3 → (s.axis 0).queue = []) :
    ∃ t, exec (.ltSrcStage h src flags followers filtEnc filtSheet chkTol div genPeriod flushPeriod) s = .next t ∧
      State.Stages h 0x0300 0x0300 [] { s.shadow with ltSrc := x } s t := by
  have hdv : 1 ≤ div.toNat / 4294967296 ∧ div.toNat / 4294967296 ≤ 65535 := by omega
  have htimer' : ¬ (src = 3 && !((s.received h 0x0300).axis 0).queue.isEmpty) = true := by simpa using htimer
  refine staging_completes (f := fun t => { t with ltSrc := x }) rfl ha (by simp [hp])
    (by simpa [hsrc, hflags, hfollow, henc, hsheet, hdv, hfl, hfl'] using And.intro (imp_iff_not_or.1 hbar) (imp_iff_not_or.1 hgen)) hl ?_
  dsimp only
  rw [← hx, if_neg (by simp [hballs]), if_neg htimer']

/-- A strobe table of 1, 2 or 4 phases whose slots pass the checks of R181 completes. -/
theorem ltStrobeStage_completes {ph : Nat} {xs : List (Slot × Bool)} {x : Strobe} (ha : s.accepts h [.s] = true)
    (hl : s.locked [0x0301] = false) (hph : ph = rd (s.payload h) 0 1) (hphases : ph = 1 ∨ ph = 2 ∨ ph = 4)
    (hlen : (s.payload h).length = 4 + 48 * ph) (hrsv : rd (s.payload h) 1 1 = 0)
    (hxs : xs = (chunks 12 (4 * ph) ((s.payload h).drop 4)).map slotOf) (hok : xs.all (·.2) = true)
    (hx : x = { phases := ph, stbRef := BitVec.ofNat 16 (rd (s.payload h) 2 2), slots := xs.map (·.1) })
    (hc : check181 s.board.member s.banks { s.shadowView with strobe := x } = true) :
    ∃ t, exec (.ltStrobeStage h) s = .next t ∧ State.Stages h 0x0301 0x0301 [] { s.shadow with strobe := x } s t := by
  have hphases' : (ph == 1 || ph == 2 || ph == 4) = true := by simpa [or_assoc] using hphases
  refine staging_completes_of_anySize (f := fun t => { t with strobe := x }) rfl ha hl ?_
  dsimp only
  rw [State.received_payload, State.received_board, State.received_banks, State.received_shadowView, ← hph, ← hxs, ← hx,
    if_pos (by simp [hphases', hlen, hrsv, hok, hc])]

/-- A page table in range that fits the ring completes; its cue may come from encoder 1 where the balls are free (R185 to R191, R567). -/
theorem ltPageStage_completes {x : LtPage × Bool} (ha : s.accepts h [.s] = true) (hp : h.plen = 28) (hl : s.locked [0x0302] = false)
    (hx : x = ltPageOf (s.payload h)) (hok : x.2 = true) (hfits : pageFits s.ring.cap { s.shadowView with ltPage := x.1 } = true)
    (hballs : x.1.cue = 6 → s.axisClaims = false) :
    ∃ t, exec (.ltPageStage h) s = .next t ∧ State.Stages h 0x0302 0x0302 [] { s.shadow with ltPage := x.1 } s t := by
  refine staging_completes (f := fun t => { t with ltPage := x.1 }) rfl ha (by simp [hp]) rfl hl ?_
  dsimp only
  rw [State.received_payload, State.received_ring, State.received_shadowView, State.received_axisClaims, ← hx,
    if_neg (by simp [hok, hfits]), if_neg (by simpa using hballs)]

/-- A pacing table completes where the ring, if there is one, holds the pages and the stop distance above HWM (R191, R193). -/
theorem ltPaceStage_completes {hwm lwm : BitVec 32} {takeup : BitVec 16} {x : LtPace} (ha : s.accepts h [.s] = true) (hp : h.plen = 0)
    (hl : s.locked [0x0303] = false) (hlwm : lwm ≠ 0) (hlt : lwm.toNat < hwm.toNat) (hring : s.hasRing = true → hwm.toNat < s.ring.cap)
    (hx : x = { hwm := hwm.toNat, lwm := lwm.toNat, takeup := takeup.toNat })
    (hfits : pageFits s.ring.cap { s.shadowView with ltPace := x } = true)
    (hstop : s.hasRing = true →
      stopFits s.ring.cap (s.ceiling { s.shadowView with ltPace := x }) { s.shadowView with ltPace := x } = true) :
    ∃ t, exec (.ltPaceStage h hwm lwm takeup) s = .next t ∧ State.Stages h 0x0303 0x0303 [] { s.shadow with ltPace := x } s t := by
  refine staging_completes (f := fun t => { t with ltPace := x }) rfl ha (by simp [hp])
    (by simpa [hlt] using And.intro hlwm (imp_iff_not_or.1 hring)) hl ?_
  dsimp only
  rw [State.received_ring, State.received_shadowView, State.received_hasRing, State.received_ceiling, ← hx,
    if_pos (by simpa [hfits] using imp_iff_not_or.1 hstop)]

/-- An assignment of the shared balls completes where the unit that would lose those of encoder 1 does not claim them (R567). -/
theorem ioAssignStage_completes {enc1 fev15 : BitVec 8} {fevMask : BitVec 16} {rejMin rejDist : BitVec 32} {rejWidth : BitVec 16}
    (ha : s.accepts h [.s] = true) (hp : h.plen = 0) (hl : s.locked [0x0304] = false) (henc : enc1.toNat ≤ 2) (hfev : fev15.toNat ≤ 1)
    (hwidth : fev15 = 1 → rejWidth ≠ 0) (hlt : enc1 = 2 → s.ltClaims = false) (haxis : enc1 = 1 → s.followsA = false) :
    ∃ t, exec (.ioAssignStage h enc1 fev15 fevMask rejMin rejDist rejWidth) s = .next t ∧ State.Stages h 0x0304 0x0304 []
      { s.shadow with io := { enc1 := enc1, fev15 := fev15, fevMask := fevMask, rejMin := rejMin.toNat, rejDist := rejDist.toNat,
                              rejWidth := rejWidth.toNat } } s t := by
  refine staging_completes (f := fun t => { t with
      io := { enc1 := enc1, fev15 := fev15, fevMask := fevMask, rejMin := rejMin.toNat, rejDist := rejDist.toNat,
              rejWidth := rejWidth.toNat } }) rfl ha (by simp [hp]) (by simpa [henc, hfev] using imp_iff_not_or.1 hwidth) hl ?_
  rw [State.received_ltClaims, State.received_followsA, if_neg (by simpa using hlt), if_neg (by simpa using haxis)]

end

/-- Settles O8, staging by staging. -/
theorem lineStagingsComplete : Obligations.LineStagingsComplete := fun _ _ ha =>
  ⟨fun _ _ _ _ _ _ _ _ _ _ hp hl hsrc hbar hflags hfollow henc hsheet hdiv hdiv' hgen hfl hfl' hx hballs htimer =>
      ltSrcStage_completes ha hp hl hsrc hbar hflags hfollow henc hsheet hdiv hdiv' hgen hfl hfl' hx hballs htimer,
    fun _ _ _ hl hph hphases hlen hrsv hxs hok hx hc => ltStrobeStage_completes ha hl hph hphases hlen hrsv hxs hok hx hc,
    fun _ hp hl hx hok hfits hballs => ltPageStage_completes ha hp hl hx hok hfits hballs,
    fun _ _ _ _ hp hl hlwm hlt hring hx hfits hstop => ltPaceStage_completes ha hp hl hlwm hlt hring hx hfits hstop,
    fun _ _ _ _ _ _ hp hl henc hfev hwidth hlt haxis => ioAssignStage_completes ha hp hl henc hfev hwidth hlt haxis⟩

end Sys2Proof.Machine
end

section
/-! PROOFS. The events of the line-timing unit and REJECT_OUT (R168 to R177, R186, R567). -/

namespace Sys2Proof.Machine

/-! ## Cues (R186) -/

theorem Mode.isRun_of_isWeb {m : Mode} (h : m.isWeb = true) : m.isRun = true := by
  cases m with
  | webDense | webFast | patchMeasure => rfl
  | _ => exact nomatch h

/-- The page start that a cue at a position sets. -/
def State.cueStart (e : Int) (s : State) : PageStart :=
  { pos := e + s.active.ltPage.cueDist, lead := e, endPos := none, trail := none, skew := none }

theorem State.cueAt_of_room {e : Int} {s : State} (hrun : s.lt.run = true) (hweb : s.mode.mode.isWeb = true)
    (hroom : s.lt.starts.length < 64) :
    s.cueAt e = s.setLt (fun l => { l with starts := l.starts ++ [s.cueStart e] }) := by
  unfold State.cueAt
  rw [if_neg (by simp [hrun, hweb]), if_neg (Nat.not_le.2 hroom)]
  rfl

/-! ## Triggers at the dies (R175, R177) -/

/-- A die takes a trigger while it is powered. -/
def FeDie.triggered (line : Option (BitVec 32)) (d : FeDie) : FeDie :=
  if d.powered then { d with trigs := d.trigs ++ [line] } else d

/-- A pass over the dies in which each step concerns its own die alone. -/
theorem State.die_foldl {f : State → Nat → State} {g : FeDie → FeDie} {l : List Nat} {k : Nat}
    (hself : ∀ s : State, (f s k).die k = g (s.die k)) (hother : ∀ (s : State) (j : Nat), k ≠ j → (f s j).die k = s.die k)
    (hl : l.Nodup) (hk : k ∈ l) (s : State) : (l.foldl f s).die k = g (s.die k) := by
  have hkeep (l : List Nat) (hn : k ∉ l) (s : State) : (l.foldl f s).die k = s.die k :=
    List.foldlRecOn (motive := fun t : State => t.die k = s.die k) l f rfl
      fun t ht j hj => (hother t j (fun e => hn (e ▸ hj))).trans ht
  obtain ⟨a, b, rfl⟩ := List.append_of_mem hk
  obtain ⟨ha, hb⟩ : k ∉ a ∧ k ∉ b := by
    have := List.nodup_append.1 hl
    grind
  rw [List.foldl_append, List.foldl_cons, hkeep b hb, hself, hkeep a ha]

theorem State.trigDies_die {line : Option (BitVec 32)} {k : Nat} {s : State} (hk : k < s.board.member.dies) :
    (s.trigDies line).die k = (s.die k).triggered line := by
  unfold State.trigDies
  refine State.die_foldl (g := FeDie.triggered line) (fun u => ?_) (fun u j hj => ?_) List.nodup_range (List.mem_range.2 hk) s
  · unfold FeDie.triggered
    split
    · exact State.die_setDie_self ..
    · rfl
  · split
    · exact State.die_setDie_ne _ u hj
    · rfl

theorem State.trigDies_lt (line : Option (BitVec 32)) (s : State) : (s.trigDies line).lt = s.lt := by
  unfold State.trigDies
  refine List.foldlRecOn (motive := fun t : State => t.lt = s.lt) _ _ rfl fun t ht k _ => ?_
  split
  · exact ht
  · exact ht

/-! ## The gating of a line (R185 to R189) -/

/-- `t` agrees with `s` on the line-timing unit but for the pages that the triggers see. -/
def State.Gates (s t : State) : Prop := ∃ a b c d, t.lt = { s.lt with starts := a, boundary := b, gate := c, skewLead := d }

theorem State.Gates.pulseIf {s t : State} (h : s.Gates t) (c : Bool) (i : Nat) : s.Gates (t.pulseIf c i) := by
  obtain ⟨_, _, _, _, e⟩ := h
  exact ⟨_, _, _, _, (State.pulseIf_lt ..).trans e⟩

theorem State.gateLine_gates (s : State) : s.Gates s.gateLine.st := by
  unfold State.gateLine
  dsimp only
  split
  · exact ⟨_, _, _, _, rfl⟩
  · split
    · split
      · exact ⟨_, _, _, _, rfl⟩
      · exact State.Gates.pulseIf ⟨_, _, _, _, rfl⟩ _ _
    · exact (State.Gates.pulseIf ⟨_, _, _, _, rfl⟩ _ _).pulseIf _ _

theorem State.lineBoundary_lt (s : State) : s.lineBoundary.lt = s.lt := by
  obtain ⟨_, _, e⟩ := s.lineBoundary_shape
  rw [e]

/-- A line boundary and the gating of its line, warm-up included, change nothing of the line-timing unit but its pages. -/
theorem State.boundary_gates (s : State) (cap : Nat) : s.Gates (s.lineBoundary.gateLine.warm cap).st := by
  obtain ⟨_, e⟩ := s.lineBoundary.gateLine.warm_st cap
  obtain ⟨a, b, c, d, hg⟩ := s.lineBoundary.gateLine_gates
  exact ⟨a, b, c, d, by rw [e, hg, State.lineBoundary_lt]⟩

/-! ## The issue of a line (R172, R176) -/

/-- The line-timing unit as the issue of a line leaves it, but for the pages that it sees and the pace. -/
def LineUnit.issued (seq : BitVec 32) (now : Nat) (l : LineUnit) : LineUnit :=
  { l with seq := seq, seqValid := true, caps := l.caps + 1, lastTrig := some now, lastAny := some now, pend := none, pendSkips := 0 }

theorem State.startLine_lt (seq : BitVec 32) (s : State) : (s.startLine seq).lt = s.lt := by
  obtain ⟨_, e⟩ := s.startLine_shape seq
  rw [e]

/-- With no apply pending, the issue of a line takes the next number, and the youngest line is the one issued. -/
theorem State.issueLine_issues {s : State} (late : Nat) (happ : s.mode.apply = none) :
    (∃ a b c d p, (s.issueLine late).lt =
      { s.lt.issued s.nextSeq s.now with starts := a, boundary := b, gate := c, skewLead := d, pace := p }) ∧
    ((s.issueLine late).lines.map (fun r => r.tag.seq)).getLast? = some s.nextSeq := by
  obtain ⟨a, b, c, d, hg⟩ := s.boundary_gates s.lineBoundary.lt.caps
  unfold State.issueLine
  simp only [State.applyDue_of_none happ]
  generalize s.lineBoundary.gateLine.warm s.lineBoundary.lt.caps = g at hg ⊢
  generalize (s.lineBoundary.lt.pace == .approach && s.lineBoundary.mode.mode == .sheetScan) = restart
  constructor
  · refine ⟨a, b, c, d, if restart then .run else s.lt.pace, ?_⟩
    rw [apply_ite State.lt, State.startLine_lt, ite_self, State.pulseIf_lt, State.pulseIf_lt]
    simp only [State.setLt, hg]
    rfl
  · rw [apply_ite State.lines, apply_ite (List.map _), State.startLine_seqs, ite_self, State.pulseIf_lines, State.pulseIf_lines]
    simp [State.setLt, State.lineAt]

/-- The state in which a crossing requests its trigger: NEXT and the pitch have advanced (R172). -/
def State.crossed (s : State) : State :=
  s.setLt (fun l => { l with next := l.next + s.divNow, pitchIx := l.pitchIx + 1, interpAt := none })

/-- By `now`, T_MIN has passed since the last trigger, if there was one (R174, R176). -/
def State.ClearOfLast (now : Nat) (s : State) : Prop := ∀ l, s.lt.lastAny = some l → l + s.tMin ≤ now

/-- A trigger now would come within T_MIN of the last one (R176). -/
def State.tooSoon (s : State) : Bool := s.lt.lastAny.any (fun l => decide (s.now < l + s.tMin))

/-- Where no trigger is held, a crossing holds its trigger if it comes too soon, and issues its line at once if not (R176). -/
theorem State.crossing_of_free {s : State} (hpend : s.lt.pend = none) : s.crossing =
    if s.tooSoon = true then s.crossed.setLt (fun l => { l with pend := some s.now }) else s.crossed.issueLine 0 := by
  unfold State.crossing State.requestTrigger
  extract_lets s1 s2 early
  have h2 : s2 = s1 := if_neg (by simp [s1, State.setLt, hpend])
  clear_value s2
  subst h2
  have hsoon : early = s.tooSoon := by
    have hlast : s1.lt.lastAny = s.lt.lastAny := rfl
    unfold early State.tooSoon
    rw [hlast]
    cases s.lt.lastAny with
    | none => rfl
    | some l => rfl
  rw [hsoon]
  rfl

/-- A crossing clear of the last trigger issues its line, with no apply to meet (R172, R176). -/
theorem State.crossing_issues {s : State} (happ : s.mode.apply = none) (hpend : s.lt.pend = none) (hclear : s.ClearOfLast s.now) :
    (∃ a b c d p, s.crossing.lt =
      { s.crossed.lt.issued s.nextSeq s.now with starts := a, boundary := b, gate := c, skewLead := d, pace := p }) ∧
    (s.crossing.lines.map (fun r => r.tag.seq)).getLast? = some s.nextSeq := by
  have hsoon : ¬ s.tooSoon = true := by simpa [State.tooSoon, State.ClearOfLast, Option.any_eq_true] using hclear
  rw [State.crossing_of_free hpend, if_neg hsoon]
  exact s.crossed.issueLine_issues 0 happ

theorem State.crossing_holds {s : State} {l : Nat} (hpend : s.lt.pend = none) (hl : s.lt.lastAny = some l)
    (hearly : s.now < l + s.tMin) : s.crossing = s.crossed.setLt (fun l => { l with pend := some s.now }) := by
  rw [State.crossing_of_free hpend, if_pos (by simpa [State.tooSoon, hl] using hearly)]

/-! ## Counted units (R168 to R173) -/

/-- The state after a count, before a crossing of NEXT is seen: POS has moved, and the speed has been estimated (R169, R172). -/
def State.counted (d : Int) (s : State) : State :=
  s.setLt (fun l => { l with pos := l.pos + d * 2 ^ 32, counts := (s.now :: l.counts).take 16, vEst := s.speedNow d, interpAt := none })

/-- A count moves POS, crosses NEXT where POS has reached it, and may schedule an interpolated trigger (R172, R173). -/
theorem State.lineCount_eq {d : Int} {s : State} (hrun : s.lt.run = true) : ∃ i, s.lineCount d =
    (if s.crossOk = true ∧ s.lt.next ≤ s.lt.pos + d * 2 ^ 32 then (s.counted d).crossing else s.counted d).setLt
      (fun l => { l with interpAt := i }) := by
  have hsched (c : Bool) (u : State) (x : Nat) : ∃ i,
      (if c = true then u.setLt (fun l => { l with interpAt := some x }) else u) = u.setLt (fun l => { l with interpAt := i }) := by
    cases c with
    | true => exact ⟨_, rfl⟩
    | false => exact ⟨u.lt.interpAt, rfl⟩
  have hok : (s.counted d).crossOk = s.crossOk := rfl
  unfold State.lineCount
  rw [if_neg (by simp [hrun])]
  dsimp only
  rw [← State.counted, hok]
  cases s.crossOk with
  | true =>
    simp only [true_and]
    exact hsched _ _ _
  | false => exact ⟨none, rfl⟩

/-- A count that does not reach NEXT moves POS alone (R172). -/
theorem State.lineCount_below {d : Int} {s : State} (hrun : s.lt.run = true) (hbelow : s.lt.pos + d * 2 ^ 32 < s.lt.next) :
    ∃ i, s.lineCount d = (s.counted d).setLt (fun l => { l with interpAt := i }) := by
  obtain ⟨i, e⟩ := State.lineCount_eq (d := d) hrun
  exact ⟨i, by rw [e, if_neg (fun h => absurd h.2 (Int.not_le.2 hbelow))]⟩

/-- A count that reaches NEXT crosses it (R172). -/
theorem State.lineCount_crosses {d : Int} {s : State} (hrun : s.lt.run = true) (hok : s.crossOk = true)
    (hge : s.lt.next ≤ s.lt.pos + d * 2 ^ 32) :
    ∃ i, s.lineCount d = (s.counted d).crossing.setLt (fun l => { l with interpAt := i }) := by
  obtain ⟨i, e⟩ := State.lineCount_eq (d := d) hrun
  exact ⟨i, by rw [e, if_pos ⟨hok, hge⟩]⟩

/-! ## Encoders, cues and the speed estimate (R168, R169, R172, R186) -/

section
variable {tm : Nat} {s : State}

@[simp] theorem State.pulseIf_srcNow (c : Bool) (i : Nat) (s : State) : (s.pulseIf c i).srcNow = s.srcNow := by
  simp only [State.srcNow, State.pulseIf_rst, State.pulseIf_active]

@[simp] theorem State.setLt_srcNow (f : LineUnit → LineUnit) (s : State) : (s.setLt f).srcNow = s.srcNow := rfl

@[simp] theorem State.atTime_srcNow (t : Nat) (s : State) : (s.atTime t).srcNow = s.srcNow := rfl

/-- The state in which encoder 0 has new levels and has added `d` to its sum (R168). -/
def State.edged (a b : Bool) (d : Int) (s : State) : State :=
  s.setLt (fun l => { l with enc0 := { s.lt.enc0 with a := a, b := b, sum := s.lt.enc0.sum + d } })

/-- A valid transition is counted by its direction, where encoder 0 is the source (R168; log entry 50). -/
theorem exec_encEdge_of_valid {a b : Bool} {d : Int} (hab : a ≠ s.lt.enc0.a ↔ b = s.lt.enc0.b) (hrun : s.lt.run = true)
    (hsrc : s.srcNow = 0) (hd : d = if s.active.ltSrc.dir0 = true then -(quadDir s.lt.enc0 a b) else quadDir s.lt.enc0 a b) :
    ∃ c, exec (.encEdge tm 0 a b) s = .next ((((s.atTime tm).edged a b d).pulseIf c 90).lineCount d).settle := by
  have hfirst : ((0 : BitVec 1).toNat = 1) = False := by decide
  have hmoved : (a == s.lt.enc0.a && b == s.lt.enc0.b) = false := by grind
  have hone : (a != s.lt.enc0.a && b != s.lt.enc0.b) = false := by grind
  have hsrc' (c : Bool) : (((s.atTime tm).edged a b d).pulseIf c 90).srcNow = (0 : BitVec 1).toNat := by
    simpa [State.edged] using hsrc
  refine ⟨((s.atTime tm).edged a b d).encCheck && !(s.atTime tm).encCheck, ?_⟩
  show execEncEdge tm 0 a b s = _
  unfold execEncEdge
  simp only [hfirst, if_false, decide_false, Bool.false_and, Bool.false_or, State.atTime_lt, State.atTime_active, ← hd, hmoved, hone,
    Bool.false_eq_true, hrun, if_true]
  exact congrArg (fun t : State => t.out) (if_pos (hsrc' _))

/-- Where NEXT is not reached, a count moves POS and the sum of its encoder (R168, R172). -/
theorem encEdge_counts {a b : Bool} {d : Int} (hab : a ≠ s.lt.enc0.a ↔ b = s.lt.enc0.b) (hrun : s.lt.run = true)
    (hsrc : s.srcNow = 0) (hd : d = if s.active.ltSrc.dir0 = true then -(quadDir s.lt.enc0 a b) else quadDir s.lt.enc0 a b)
    (hbelow : s.lt.pos + d * 2 ^ 32 < s.lt.next) :
    ∃ t, exec (.encEdge tm 0 a b) s = .next t ∧ t.lt.pos = s.lt.pos + d * 2 ^ 32 ∧
      t.lt.enc0 = { s.lt.enc0 with a := a, b := b, sum := s.lt.enc0.sum + d } ∧ t.lt.seq = s.lt.seq ∧ t.lines = s.lines := by
  obtain ⟨c, he⟩ := exec_encEdge_of_valid (tm := tm) hab hrun hsrc hd
  refine ⟨_, he, ?_⟩
  generalize hu : ((s.atTime tm).edged a b d).pulseIf c 90 = u
  have hlt : u.lt = { s.lt with enc0 := { s.lt.enc0 with a := a, b := b, sum := s.lt.enc0.sum + d } } := by
    rw [← hu, State.pulseIf_lt]; rfl
  have hlines : u.lines = s.lines := by rw [← hu, State.pulseIf_lines]; rfl
  obtain ⟨_, ec⟩ := State.lineCount_below (d := d) (s := u) (by rw [hlt]; exact hrun) (by rw [hlt]; exact hbelow)
  rw [State.settle_lt, State.settle_lines, ec]
  simp [State.counted, State.setLt, hlt, hlines]

/-- A transition of both inputs sets ENC_ERR and counts nothing (R168). -/
theorem encEdge_reports {a b : Bool} (ha : a ≠ s.lt.enc0.a) (hb : b ≠ s.lt.enc0.b) :
    ∃ t, exec (.encEdge tm 0 a b) s = .next t ∧ t.lt.encErr = true ∧ t.lt.faults = s.lt.faults + 1 ∧ t.lt.pos = s.lt.pos ∧
      (s.mode.mode ≠ .boot → t.ev.latch.getLsbD 89 = true) := by
  let u : State := (s.atTime tm).setLt (fun l => { l with enc0 := { l.enc0 with a := a, b := b }, encErr := true, faults := l.faults + 1 })
  have he : exec (.encEdge tm 0 a b) s = .next (u.pulse 89).settle := by
    show execEncEdge tm 0 a b s = _
    unfold execEncEdge
    dsimp only
    rw [if_neg (by simp [ha]), if_pos (by simp [ha, hb])]
    rfl
  exact ⟨_, he, by simp [u, State.setLt], by simp [u, State.setLt], by simp [u, State.setLt],
    fun hm => State.settle_latch_mono (State.pulse_latch (by decide) hm)⟩

/-- An index pulse of encoder 0 that is the cue sets a page start (R186). -/
theorem encIndex_starts (hid : s.rst.uzsId = 0) (hcue : s.active.ltPage.cue = 5) (hrun : s.lt.run = true)
    (hweb : s.mode.mode.isWeb = true) (hroom : s.lt.starts.length < 64) :
    ∃ t x, exec (.encIndex tm 0) s = .next t ∧ t.lt.starts = s.lt.starts ++ [x] ∧ x.lead = (s.atTime tm).edgePos ∧
      x.pos = (s.atTime tm).edgePos + s.active.ltPage.cueDist := by
  have he : exec (.encIndex tm 0) s = .next ((s.atTime tm).cueAt (s.atTime tm).edgePos).settle := by
    show execEncIndex tm 0 s = _
    unfold execEncIndex
    dsimp only
    rw [if_pos (by simp [hid, hcue])]
    rfl
  rw [State.cueAt_of_room (s := s.atTime tm) hrun hweb hroom] at he
  exact ⟨_, _, he, by rw [State.settle_lt]; rfl, rfl, rfl⟩

/-- A rising edge of the sheet sensor that is the cue sets a page start (R186; log entry 51). -/
theorem sheetEdge_starts {n : BitVec 2} (hlen : s.lt.sheets.length = 4) (hlow : s.lt.sheets.getD n.toNat false = false)
    (hid : s.rst.uzsId = 0) (hcue : s.active.ltPage.cue = n.toNat + 1) (hrun : s.lt.run = true) (hweb : s.mode.mode.isWeb = true)
    (hroom : s.lt.starts.length < 64) :
    ∃ t x, exec (.sheetEdge tm n true) s = .next t ∧ t.lt.sheets.getD n.toNat false = true ∧ t.lt.starts = s.lt.starts ++ [x] ∧
      x.pos = (s.atTime tm).edgePos + s.active.ltPage.cueDist := by
  let u : State := (s.atTime tm).setLt (fun l => { l with sheets := l.sheets.set n.toNat true })
  have he : exec (.sheetEdge tm n true) s = .next (u.cueAt u.edgePos).settle := by
    show execSheetEdge tm n true s = _
    unfold execSheetEdge
    dsimp only
    rw [if_neg (by simp [State.setLt, hlow, hrun, hid, Mode.isRun_of_isWeb hweb, -List.getD_eq_getElem?_getD]), if_pos (by exact hweb),
      if_pos (by simp [hcue])]
    rfl
  rw [State.cueAt_of_room (s := u) hrun hweb hroom] at he
  refine ⟨_, u.cueStart u.edgePos, he, ?_, ?_, rfl⟩
  · rw [State.settle_lt]
    have hn : n.toNat < 4 := n.isLt
    simp [u, State.setLt, hlen, hn]
  · rw [State.settle_lt]
    rfl

/-- 10 ms after the latest count, V_EST is 0 (R169). -/
theorem vEstTimeout_stops (hsrc : s.srcNow ≤ 1) (hdue : ∀ c, s.lt.counts.head? = some c → c + 10000000 ≤ max s.now tm) :
    ∃ t, exec (.vEstTimeout tm) s = .next t ∧ t.lt.vEst = 0 := by
  have he : exec (.vEstTimeout tm) s = .next ((s.atTime tm).setLt (fun l => { l with vEst := 0 })).settle := by
    show execVEstTimeout tm s = _
    unfold execVEstTimeout
    dsimp only
    rw [if_pos]
    · rfl
    · refine (Bool.and_eq_true ..).mpr ⟨?_, decide_eq_true hsrc⟩
      cases hc : (s.atTime tm).lt.counts.head? with
      | none => rfl
      | some c => exact decide_eq_true (hdue c hc)
  exact ⟨_, he, by rw [State.settle_lt]; rfl⟩

end

/-! ## Triggers and flushes (R171, R173, R176, R177) -/

section
variable {tm : Nat} {s : State}

theorem exec_generatorPeriod {g : Nat} (hg : s.lt.genAt = some g) (hrun : s.lt.run = true) (hsrc : s.srcNow = 3)
    (hdue : g < 256 * max s.now tm + 256) :
    exec (.generatorPeriod tm) s = .next (((s.atTime tm).setLt (fun l =>
      { l with genAt := some (g + s.active.ltSrc.genPeriod.toNat) })).lineCount 1).settle := by
  have hacts : ((s.atTime tm).lt.run && (s.atTime tm).srcNow == 3 && decide (g < 256 * (s.atTime tm).now + 256)) = true := by
    have hdue' : g < 256 * (s.atTime tm).now + 256 := hdue
    simp [hrun, hsrc, hdue']
  show execGeneratorPeriod tm s = _
  unfold execGeneratorPeriod
  simp only [State.atTime_lt, hg]
  exact if_pos hacts

/-- A period of the generator that reaches NEXT issues a line (R165, R171, R172). -/
theorem generatorPeriod_issues {g : Nat} (happ : s.mode.apply = none) (hg : s.lt.genAt = some g) (hrun : s.lt.run = true)
    (hsrc : s.srcNow = 3) (hdue : g < 256 * max s.now tm + 256) (hge : s.lt.next ≤ s.lt.pos + 2 ^ 32) (hok : s.crossOk = true)
    (hpend : s.lt.pend = none) (hclear : s.ClearOfLast (max s.now tm)) :
    ∃ t, exec (.generatorPeriod tm) s = .next t ∧ t.lt.genAt = some (g + s.active.ltSrc.genPeriod.toNat) ∧
      t.lt.pos = s.lt.pos + 2 ^ 32 ∧ t.lt.next = s.lt.next + 2 ^ 32 ∧ t.lt.seq = s.nextSeq := by
  have hge' : s.lt.next ≤ s.lt.pos + 1 * 2 ^ 32 := by rwa [one_mul]
  have hdiv : (s.divNow : Int) = 2 ^ 32 := by rw [State.divNow, if_pos hsrc]; rfl
  let u : State := (s.atTime tm).setLt (fun l => { l with genAt := some (g + s.active.ltSrc.genPeriod.toNat) })
  obtain ⟨i, hcount⟩ := State.lineCount_crosses (s := u) (d := 1) hrun hok hge'
  obtain ⟨⟨_, _, _, _, _, hlt⟩, -⟩ := State.crossing_issues (s := u.counted 1) happ hpend hclear
  refine ⟨_, exec_generatorPeriod hg hrun hsrc hdue, ?_⟩
  rw [State.settle_lt, hcount, State.setLt, hlt]
  exact ⟨rfl, congrArg (s.lt.pos + ·) (one_mul _), congrArg (s.lt.next + ·) hdiv, rfl⟩

theorem exec_interpTrigger {x : Nat} (hx : s.lt.interpAt = some x) (hrun : s.lt.run = true) (hdue : x ≤ max s.now tm)
    (hok : s.crossOk = true) : exec (.interpTrigger tm) s = .next (s.atTime tm).crossing.settle := by
  have hacts : ((s.atTime tm).lt.run && decide (x ≤ (s.atTime tm).now) && (s.atTime tm).crossOk) = true := by
    have hdue' : x ≤ (s.atTime tm).now := hdue
    have hok' : (s.atTime tm).crossOk = true := hok
    simp [hrun, hdue', hok']
  show execInterpTrigger tm s = _
  unfold execInterpTrigger
  simp only [State.atTime_lt, hx]
  exact congrArg (fun t : State => t.out) (if_pos hacts)

/-- An interpolated trigger issues the next line (R173, R176). -/
theorem interpTrigger_issues {x : Nat} (happ : s.mode.apply = none) (hx : s.lt.interpAt = some x) (hrun : s.lt.run = true)
    (hdue : x ≤ max s.now tm) (hok : s.crossOk = true) (hpend : s.lt.pend = none) (hclear : s.ClearOfLast (max s.now tm)) :
    ∃ t, exec (.interpTrigger tm) s = .next t ∧ t.lt.seq = s.nextSeq ∧ t.lt.seqValid = true ∧ t.lt.interpAt = none ∧
      t.lt.next = s.lt.next + s.divNow ∧ t.lt.lastTrig = some (max s.now tm) ∧
      (t.lines.map (fun r => r.tag.seq)).getLast? = some s.nextSeq := by
  obtain ⟨⟨_, _, _, _, _, hlt⟩, hlast⟩ := State.crossing_issues (s := s.atTime tm) happ hpend hclear
  refine ⟨_, exec_interpTrigger hx hrun hdue hok, ?_⟩
  rw [State.settle_lt, State.settle_lines, hlt]
  exact ⟨rfl, rfl, rfl, rfl, rfl, hlast⟩

/-- An interpolated trigger within T_MIN of the last trigger is held (R176). -/
theorem interpTrigger_holds {x l : Nat} (hx : s.lt.interpAt = some x) (hrun : s.lt.run = true) (hdue : x ≤ max s.now tm)
    (hok : s.crossOk = true) (hpend : s.lt.pend = none) (hl : s.lt.lastAny = some l) (hearly : max s.now tm < l + s.tMin) :
    ∃ t, exec (.interpTrigger tm) s = .next t ∧ t.lt.pend = some (max s.now tm) ∧ t.lt.seq = s.lt.seq ∧ t.lines = s.lines := by
  refine ⟨_, exec_interpTrigger hx hrun hdue hok, ?_⟩
  rw [State.settle_lt, State.settle_lines, State.crossing_holds (s := s.atTime tm) hpend hl hearly]
  exact ⟨rfl, rfl, rfl⟩

/-- A held trigger is issued once T_MIN has passed (R176). -/
theorem pendingTriggerIssue_issues {q l : Nat} (happ : s.mode.apply = none) (hq : s.lt.pend = some q) (hl : s.lt.lastAny = some l)
    (hrun : s.lt.run = true) (hdue : l + s.tMin ≤ max s.now tm) :
    ∃ t, exec (.pendingTriggerIssue tm) s = .next t ∧ t.lt.pend = none ∧ t.lt.seq = s.nextSeq ∧
      (t.lines.map (fun r => r.tag.seq)).getLast? = some s.nextSeq := by
  have hacts : ((s.atTime tm).lt.run && decide (l + (s.atTime tm).tMin ≤ (s.atTime tm).now)) = true := by
    have hdue' : l + (s.atTime tm).tMin ≤ (s.atTime tm).now := hdue
    simp [hrun, hdue']
  have he : exec (.pendingTriggerIssue tm) s = .next ((s.atTime tm).issueLine ((s.atTime tm).now - q)).settle := by
    show execPendingTriggerIssue tm s = _
    unfold execPendingTriggerIssue
    simp only [State.atTime_lt, hq, hl]
    exact congrArg (fun t : State => t.out) (if_pos hacts)
  obtain ⟨⟨_, _, _, _, _, hlt⟩, hlast⟩ := (s.atTime tm).issueLine_issues ((s.atTime tm).now - q) happ
  refine ⟨_, he, ?_⟩
  rw [State.settle_lt, State.settle_lines, hlt]
  exact ⟨rfl, rfl, hlast⟩

/-- A flush has every powered die run its program without a line (R177). -/
theorem flushTrigger_flushes (hdue : (s.atTime tm).flushDue = true) :
    ∃ t, exec (.flushTrigger tm) s = .next t ∧ t.lt.lastAny = some (max s.now tm) ∧ t.lt.seq = s.lt.seq ∧
      ∀ k, k < s.board.member.dies → (s.die k).powered = true → (t.die k).trigs = (s.die k).trigs ++ [none] := by
  have he : exec (.flushTrigger tm) s =
      .next (((s.atTime tm).setLt (fun l => { l with lastAny := some (s.atTime tm).now })).trigDies none).settle :=
    congrArg (fun t : State => t.out) (if_pos hdue)
  refine ⟨_, he, ?_, ?_, fun k hk hp => ?_⟩
  · rw [State.settle_lt, State.trigDies_lt]; rfl
  · rw [State.settle_lt, State.trigDies_lt]; rfl
  · rw [State.settle_die, State.trigDies_die (by exact hk)]
    exact congrArg FeDie.trigs (if_pos hp)

/-! ## REJECT_OUT (R567) -/

/-- The pulse whose position is reached is driven for its width, and no longer awaited (R567). -/
theorem rejectOutPulse_drives {x : Int} (hx : x ∈ s.sv.rejects) (hdue : x ≤ (s.atTime tm).edgePos) (hfev : s.active.io.fev15 = 1) :
    ∃ t, exec (.rejectOutPulse tm) s = .next t ∧ x ∉ t.sv.rejects ∧
      t.sv.rejUntil = some (max s.now tm + 1000 * s.active.io.rejWidth) := by
  have hsome : ¬ ((s.atTime tm).sv.rejects.filter (fun x => decide (x ≤ (s.atTime tm).edgePos))).isEmpty = true := by
    simpa using ⟨x, hx, hdue⟩
  have he : exec (.rejectOutPulse tm) s = .next { s.atTime tm with
      sv := { s.sv with rejects := s.sv.rejects.filter (fun x => !decide (x ≤ (s.atTime tm).edgePos)),
                        rejUntil := some ((s.atTime tm).now + 1000 * s.active.io.rejWidth) } }.settle := by
    show execRejectOutPulse tm s = _
    unfold execRejectOutPulse
    simp only [if_neg hsome, State.atTime_active, hfev, if_true]
    rfl
  refine ⟨_, he, ?_, ?_⟩
  · rw [State.settle_sv]
    simpa using fun _ => hdue
  · rw [State.settle_sv]
    rfl

/-- A pulse ends when its width has passed (R567). -/
theorem rejectOutEnd_ends {x : Nat} (hx : s.sv.rejUntil = some x) (hdue : x ≤ max s.now tm) :
    ∃ t, exec (.rejectOutEnd tm) s = .next t ∧ t.sv.rejUntil = none := by
  have hdue' : x ≤ (s.atTime tm).now := hdue
  have he : exec (.rejectOutEnd tm) s = execRejectOutEnd tm s := rfl
  unfold execRejectOutEnd at he
  simp only [State.atTime_sv, hx, if_pos hdue', State.out_eq] at he
  exact ⟨_, he, by rw [State.settle_sv]⟩

end

/-- Settles O37, event by event. -/
theorem lineTimingEventsComplete : Obligations.LineTimingEventsComplete :=
  ⟨fun _ _ => ⟨fun _ _ _ hab hrun hsrc hd hbelow => encEdge_counts hab hrun hsrc hd hbelow, fun _ _ ha hb => encEdge_reports ha hb,
      encIndex_starts, fun _ hlen hlow hid hcue hrun hweb hroom => sheetEdge_starts hlen hlow hid hcue hrun hweb hroom,
      vEstTimeout_stops⟩,
    fun _ _ happ => ⟨fun _ hg hrun hsrc hdue hge hok hpend hclear => generatorPeriod_issues happ hg hrun hsrc hdue hge hok hpend hclear,
      fun _ hx hrun hdue hok hpend hclear => interpTrigger_issues happ hx hrun hdue hok hpend hclear,
      fun _ _ hx hrun hdue hok hpend hl hearly => interpTrigger_holds hx hrun hdue hok hpend hl hearly,
      fun _ _ hq hl hrun hdue => pendingTriggerIssue_issues happ hq hl hrun hdue, flushTrigger_flushes,
      fun _ hx hdue hfev => rejectOutPulse_drives hx hdue hfev, fun _ hx hdue => rejectOutEnd_ends hx hdue⟩⟩

end Sys2Proof.Machine
end

section
/-! PROOFS. The arithmetic of correction, pixel by pixel (R208, R223 to R225, R228 to R231). -/

namespace Sys2Proof.Machine

/-! ## Words of a set and what lies between them (R208, R223) -/

theorem darkOf_range (w : BitVec 32) : -32768 ≤ darkOf w ∧ darkOf w ≤ 32767 := by
  have hw : w.toNat % 65536 < 65536 := Nat.mod_lt _ (by decide)
  simp only [darkOf, signed]
  split <;> omega

theorem gainOf_le (w : BitVec 32) : gainOf w ≤ 65535 := Nat.le_of_lt_succ (Nat.mod_lt _ (by decide))

/-- An interpolation stays within every range that holds both its ends (R223). -/
theorem interpolation_range {lo hi a b : Int} {f : Nat} (hf : f ≤ 255) (ha : lo ≤ a ∧ a ≤ hi) (hb : lo ≤ b ∧ b ≤ hi) :
    lo ≤ a + ((b - a) * f + 128) / 256 ∧ a + ((b - a) * f + 128) / 256 ≤ hi := by
  have hf' : (f : Int) ≤ 255 := by exact_mod_cast hf
  rcases le_total a b with h | h
  · have h1 : 0 ≤ (b - a) * f := mul_nonneg (by omega) (by omega)
    have h2 : (b - a) * f ≤ (b - a) * 255 := mul_le_mul_of_nonneg_left hf' (by omega)
    omega
  · have h1 : 0 ≤ (a - b) * f := mul_nonneg (by omega) (by omega)
    have h2 : (a - b) * f ≤ (a - b) * 255 := mul_le_mul_of_nonneg_left hf' (by omega)
    have h3 : (b - a) * (f : Int) = -((a - b) * f) := by ring
    omega

/-- The product of R224 fits 35 bits. -/
theorem gainProduct_range {x : Nat} {d g : Int} (hx : x ≤ 65535) (hd : -32768 ≤ d ∧ d ≤ 32767) (hg : 0 ≤ g ∧ g ≤ 65535) :
    -(2 ^ 34) ≤ ((x : Int) - d) * g + 8192 ∧ ((x : Int) - d) * g + 8192 < 2 ^ 34 := by
  have hlo : -32767 * g ≤ ((x : Int) - d) * g := mul_le_mul_of_nonneg_right (by omega) hg.1
  have hhi : ((x : Int) - d) * g ≤ 98303 * g := mul_le_mul_of_nonneg_right (by omega) hg.1
  omega

/-! ## The corrected value (R224, R225) -/

/-- D of R223, from the words of the two sets in use. -/
def darkBetween (ch : Choice) (wa wb : BitVec 32) : Int :=
  if ch.a = ch.b then darkOf wa else darkOf wa + ((darkOf wb - darkOf wa) * ch.f + 128) / 256

/-- G of R223, from the words of the two sets in use. -/
def gainBetween (ch : Choice) (wa wb : BitVec 32) : Int :=
  if ch.a = ch.b then (gainOf wa : Int) else gainOf wa + (((gainOf wb : Int) - gainOf wa) * ch.f + 128) / 256

theorem darkBetween_range {ch : Choice} (hf : ch.f ≤ 255) (wa wb : BitVec 32) :
    -32768 ≤ darkBetween ch wa wb ∧ darkBetween ch wa wb ≤ 32767 := by
  unfold darkBetween
  split
  · exact darkOf_range wa
  · exact interpolation_range hf (darkOf_range wa) (darkOf_range wb)

theorem gainBetween_range {ch : Choice} (hf : ch.f ≤ 255) (wa wb : BitVec 32) :
    0 ≤ gainBetween ch wa wb ∧ gainBetween ch wa wb ≤ 65535 := by
  have hg (w : BitVec 32) : 0 ≤ (gainOf w : Int) ∧ (gainOf w : Int) ≤ 65535 := ⟨Int.natCast_nonneg _, by exact_mod_cast gainOf_le w⟩
  unfold gainBetween
  split
  · exact hg wa
  · exact interpolation_range hf (hg wa) (hg wb)

/-- Where a set is valid, a pixel is corrected with the D and G of the sets in use, and is defective by its words, its sensor or the
store (R223, R224). -/
theorem shadeOne_of_sets {sets : SMap ShdSet} {ch : Choice} {idx x : Nat} {sat defpix : Bool} {wa wb : BitVec 32} (hs : sets ≠ [])
    (ha : wa = sget 0 idx (sget ShdSet.reset ch.a sets).words)
    (hb : wb = sget 0 idx (sget ShdSet.reset ch.b sets).words) :
    shadeOne sets ch idx x sat defpix =
      { bad := gainOf wa == 0 || gainOf wb == 0 || defpix ||
          ((sget ShdSet.reset ch.a sets).bad.contains idx || (sget ShdSet.reset ch.b sets).bad.contains idx),
        fault := defpix || ((sget ShdSet.reset ch.a sets).bad.contains idx || (sget ShdSet.reset ch.b sets).bad.contains idx),
        v := if sat then 65535 else (applyGain x (darkBetween ch wa wb) (gainBetween ch wa wb).toNat).1,
        sat := sat || (applyGain x (darkBetween ch wa wb) (gainBetween ch wa wb).toNat).2 } := by
  have he : sets.isEmpty = false := by simpa using hs
  have hg : (if ch.a = ch.b then gainOf wa else (between ch.f (gainOf wa) (gainOf wb)).toNat) = (gainBetween ch wa wb).toNat := by
    unfold gainBetween; split <;> rfl
  unfold shadeOne
  dsimp only
  rw [he, ← ha, ← hb, hg]
  rfl

/-- A corrected value below 0 is 0, one above 16 bits is 0xFFFF with SAT (R224). -/
theorem applyGain_eq {x : Nat} {d g z : Int} (hg : 0 ≤ g) (hz : z = (((x : Int) - d) * g + 8192) / 16384) :
    applyGain x d g.toNat = if z < 0 then (0, false) else if 65535 < z then (65535, true) else (z.toNat, false) := by
  unfold applyGain sar
  rw [Int.toNat_of_nonneg hg, hz]
  rfl

/-! ## Replacement (R228) -/

theorem fixPix_of_good {p : ShPix} (hp : p.bad = false) (l1 l2 r1 r2 : Option ShPix) : fixPix l1 l2 p r1 r2 =
    { data := BitVec.ofNat 16 p.v, sat := p.sat, defpix := false, interp := false, stitch := false } := by
  simp [fixPix, hp]

/-- What replaces a defective pixel is made of its neighbours alone. -/
theorem fixPix_of_bad {p : ShPix} (hp : p.bad = true) (l1 l2 r1 r2 : Option ShPix) (v : Nat) (sat : Bool) :
    fixPix l1 l2 p r1 r2 = fixPix l1 l2 { p with v := v, sat := sat } r1 r2 := by
  simp [fixPix, hp]

/-- Settles O47: ranges, defective pixels, their replacement, and the value of every other pixel. -/
theorem pixelsAreCorrected : Obligations.PixelsAreCorrected := by
  intro sets ch idx x sat defpix wa wb d g z p hs hf hx hwa hwb hd hg hz hp
  have hdr : -32768 ≤ d ∧ d ≤ 32767 := hd ▸ darkBetween_range hf wa wb
  have hgr : 0 ≤ g ∧ g ≤ 65535 := hg ▸ gainBetween_range hf wa wb
  rw [shadeOne_of_sets hs hwa hwb, darkBetween, gainBetween, ← hd, ← hg, applyGain_eq hgr.1 hz] at hp
  refine ⟨⟨hdr.1, hdr.2, hgr.1, hgr.2, gainProduct_range hx hdr hgr⟩, ?_, fun hb _ _ _ _ => fixPix_of_bad hb _ _ _ _,
    fun hb l1 l2 r1 r2 => ?_⟩
  · simp [hp, or_assoc]
  · rw [fixPix_of_good hb, hp]
    cases sat with
    | true => rfl
    | false =>
      by_cases hneg : z < 0
      · simp [hneg]
      by_cases hover : 65535 < z
      · simp [hneg, hover]
      · obtain ⟨n, rfl⟩ := Int.eq_ofNat_of_zero_le (Int.not_lt.1 hneg)
        simp [hneg, hover]

/-! ## Linearisation (R229 to R231) -/

/-- The table of R231. -/
theorem linEntry_nil {i : Nat} (hi : i ≤ 4095) : linEntry [] i = 16 * (i : Int) := by
  have h : ¬ 4096 ≤ i := by omega
  simp [linEntry, h]

theorem linEntry_last (tab : List Nat) : linEntry tab 4096 = 65535 := rfl

section
variable {tab : List Nat} {v : Nat}

/-- Between two entries of the table of R231 the value goes through. -/
theorem linValue_of_identity (htab : ∀ i, i ≤ 4095 → linEntry tab i = 16 * (i : Int)) (hv : v ≤ 65519) : linValue tab v = v := by
  unfold linValue sar
  rw [htab (v / 16) (by omega), htab (v / 16 + 1) (by omega)]
  push_cast
  omega

/-- From the last entry of the table of R231 the step to E[4096] is 15. -/
theorem linValue_of_identity_last (htab : ∀ i, i ≤ 4095 → linEntry tab i = 16 * (i : Int)) (hlo : 65520 ≤ v) (hhi : v ≤ 65535) :
    linValue tab v = 65520 + (15 * ((v % 16 : Nat) : Int) + 8) / 16 := by
  have hv : v / 16 = 4095 := by omega
  unfold linValue sar
  rw [hv, htab 4095 le_rfl, linEntry_last]
  rfl

end

/-- Settles O48: the reset tables, what they do to a value, and the pixels that are not looked up. -/
theorem linearisationFollowsTables : Obligations.LinearisationFollowsTables := by
  refine ⟨fun s t c i ht hi => ?_, fun tab v htab => ⟨linValue_of_identity htab, fun hlo hhi => ?_, fun hv => ?_⟩, fun tab x => ?_⟩
  · obtain ⟨-, -, hact, -⟩ := ht
    rw [hact]
    exact linEntry_nil hi
  · rw [linValue_of_identity_last htab hlo hhi]
    omega
  · rw [linValue_of_identity_last htab (by omega) (by omega), hv]
    rfl
  · unfold linPix
    split
    · rename_i hd; simp [hd]
    · rename_i hd
      split
      · simp [hd]
      · rename_i hs; simp [hd, hs]

end Sys2Proof.Machine
end

section
/-! PROOFS. The stagings of the correction family (R208 to R211, R218, R229). -/

namespace Sys2Proof.Machine

/-! ## The staged copy of a set (R207, R210) -/

/-- A staged copy is read from the shading unit, in the slot that the shadow tables leave. -/
theorem State.stagedSet_congr {s t : State} (hshd : t.shd = s.shd) (hboard : t.board = s.board) (hshadow : t.shadow = s.shadow)
    (k : Nat) : t.stagedSet k = s.stagedSet k := by
  simp only [State.stagedSet, State.spareSlot, hshd, hboard, hshadow]

/-- The view of the sets is that of the shading unit and the shadow tables. -/
theorem State.shdView_congr {s t : State} (hshd : t.shd = s.shd) (hboard : t.board = s.board) (hshadow : t.shadow = s.shadow) :
    t.shdView = s.shdView := by
  simp only [State.shdView, State.stagedSet_congr hshd hboard hshadow, State.activeSet, hshd]

/-- Staging into the spare slot leaves it the spare slot. -/
theorem State.stageSet_spareSlot (k : Nat) (x : ShdSet) (s : State) : (s.stageSet k x).spareSlot = s.spareSlot := by
  have hid (n a : Nat) : (if (if a < n then a else n - 1) < n then (if a < n then a else n - 1) else n - 1) =
      if a < n then a else n - 1 := by split_ifs <;> rfl
  exact hid (shdSlots (pixCount s.board.member s.shadow)) s.shd.spare

/-- A set that is staged is the staged copy (R210). -/
theorem State.stageSet_stagedSet (k : Nat) (x : ShdSet) (s : State) : (s.stageSet k x).stagedSet k = some x := by
  unfold State.stagedSet
  rw [State.stageSet_spareSlot]
  simp [State.stageSet, State.setShd]

/-- A range within a window is in a window that is mapped. -/
theorem State.win_isNone_of_has {w off n : Nat} {s : State} (hw : s.winHas w off n = true) : (s.win w).isNone = false := by
  unfold State.winHas at hw
  cases e : s.win w with
  | none => simp [e] at hw
  | some x => rfl

/-! ## What a command without a payload finds once it is taken -/

section
variable (h : Hdr) (op : Nat) (s : State)

@[simp] theorem State.taken_board : (s.taken h op).board = s.board := rfl
@[simp] theorem State.taken_shd : (s.taken h op).shd = s.shd := rfl
@[simp] theorem State.taken_dram : (s.taken h op).dram = s.dram := rfl
@[simp] theorem State.taken_win (w : Nat) : (s.taken h op).win w = s.win w := rfl
@[simp] theorem State.taken_winHas (w off n : Nat) : (s.taken h op).winHas w off n = s.winHas w off n := rfl
@[simp] theorem State.taken_winAddr (w off : Nat) : (s.taken h op).winAddr w off = s.winAddr w off := rfl
@[simp] theorem State.taken_setBusy (k : Nat) : (s.taken h op).setBusy k = s.setBusy k := rfl
@[simp] theorem State.taken_activeSet (k : Nat) : (s.taken h op).activeSet k = s.activeSet k := rfl
@[simp] theorem State.taken_apartWith (k : Nat) (x : ShdSet) : (s.taken h op).apartWith k x = s.apartWith k x := rfl

end

/-! ## Stagings without a payload -/

/-- A staging of class S without a payload, whose tables are not locked and whose body ends well. -/
theorem exec_of_staging_body {i : Instr} {h : Hdr} {op : Nat} {inRange : Bool} {ops : List Nat} {body : State → Res} {s u : State}
    (he : exec i s = (s.take h op [.s] true (some 0) inRange (fun u => u.staging i h ops body)).out) (ha : s.accepts h [.s] = true)
    (hp : h.plen = 0) (hr : inRange = true) (hl : s.locked ops = false) (hb : body (s.taken h op) = .ok [] [] u) :
    exec i s = .next (u.done h.ctx.toNat []).settle := by
  have hl' : (s.taken h op).locked ops = false := hl
  rw [he, State.take_of_accepts_empty ha hp hr, State.staging_of_free hl', hb]
  rfl

/-- A command that has put a set into the spare slot ends DONE and leaves the tables in force alone (R210). -/
theorem State.Runs.stageSet_done {h : Hdr} {op k : Nat} {x : ShdSet} {s u : State} (hr : u.Runs h op) (hact : u.active = s.active) :
    ((u.stageSet k x).done h.ctx.toNat []).settle.Done h op [] ∧
      ((u.stageSet k x).done h.ctx.toNat []).settle.shd.staged = some k ∧
      ((u.stageSet k x).done h.ctx.toNat []).settle.stagedSet k = some x ∧
      ((u.stageSet k x).done h.ctx.toNat []).settle.active = s.active := by
  have hruns : (u.stageSet k x).Runs h op := hr
  refine ⟨(hruns.finish_ended ..).settle, ?_, ?_, ?_⟩
  · rw [State.settle_shd, State.done_shd]; rfl
  · rw [State.stagedSet_congr (s := u.stageSet k x) (by simp) (by simp) (by simp), State.stageSet_stagedSet]
  · rw [State.settle_active, State.done_active]; exact hact

section
variable {h : Hdr} {s : State}

/-! ## Sets from a window (R208 to R210) -/

section
variable {set window : BitVec 8} {offset : BitVec 32} {n : Nat} {bs : List Byte} {x : ShdSet}

/-- SHD_SET_LOAD stages the image of the window. -/
theorem shdSetLoad_completes (ha : s.accepts h [.s] = true) (hp : h.plen = 0) (hset : set.toNat < setsMax s.board.member s.shadow)
    (hl : s.locked (setKeys set.toNat) = false) (hbusy : s.setBusy set.toNat = none) (hn : n = pixCount s.board.member s.shadow)
    (hw : s.winHas window.toNat offset.toNat (512 + 4 * n) = true)
    (hbs : bs = memRead (s.winAddr window.toNat offset.toNat) (512 + 4 * n) s.dram.mem)
    (hx : x = { tFe := (imageTags bs).1, tLamp := (imageTags bs).2, words := imageWords n (bs.drop 512), bad := [] })
    (hok : imageOk s.board.member n bs = true) (hapart : s.apartWith set.toNat x = true) :
    ∃ t, exec (.shdSetLoad h set window offset) s = .next t ∧ t.Done h 0x0400 [] ∧ t.shd.staged = some set.toNat ∧
      t.stagedSet set.toNat = some x ∧ t.active = s.active := by
  have hmap : (s.win window.toNat).isNone = false := State.win_isNone_of_has hw
  refine ⟨_, exec_of_staging_body rfl ha hp (decide_eq_true hset) hl ?_,
    State.Runs.stageSet_done (u := ((s.taken h 0x0400).dramRead 9 (s.winAddr window.toNat offset.toNat) (512 + 4 * n)).2)
      (s.taken_runs h 0x0400) rfl⟩
  simp only [State.taken_board, State.taken_shadow, ← hn, State.taken_setBusy, hbusy, State.taken_win, hmap, State.taken_winHas, hw,
    State.taken_winAddr, State.dramRead_fst, State.taken_dram, ← hbs, ← hx, hok, State.taken_apartWith, hapart, Bool.not_true,
    Bool.false_eq_true, if_false, Bool.and_self, if_true]

/-- SHD_SET_PATCH stages the active set with the words of the window, and where TAGS says so its tags, written over it. -/
theorem shdSetPatch_completes {tags : BitVec 8} {nwords : BitVec 32} {hd : Nat} {old : ShdSet} {es : List (Nat × BitVec 32)}
    (ha : s.accepts h [.s] = true) (hp : h.plen = 0) (hset : set.toNat < setsMax s.board.member s.shadow)
    (hl : s.locked (setKeys set.toNat) = false) (hbusy : s.setBusy set.toNat = none) (hn : n = pixCount s.board.member s.shadow)
    (htags : tags.toNat ≤ 1) (hhd : hd = if tags = 1 then 512 else 0)
    (hw : s.winHas window.toNat offset.toNat (hd + 8 * nwords.toNat) = true) (hold : s.activeSet set.toNat = some old)
    (hbs : bs = memRead (s.winAddr window.toNat offset.toNat) (hd + 8 * nwords.toNat) s.dram.mem)
    (hok : tags = 1 → imageOk s.board.member n bs = true)
    (hes : es = (chunks 8 nwords.toNat (bs.drop hd)).map (fun b => (rd b 0 4, BitVec.ofNat 32 (rd b 4 4)))) (hin : ∀ e ∈ es, e.1 < n)
    (hx : x = { tFe := if tags = 1 then (imageTags bs).1 else old.tFe, tLamp := if tags = 1 then (imageTags bs).2 else old.tLamp,
                words := es.foldl (fun m e => sset 0 e.1 e.2 m) old.words,
                bad := old.bad.filter (fun i => !es.any (fun e => e.1 == i)) })
    (hapart : s.apartWith set.toNat x = true) :
    ∃ t, exec (.shdSetPatch h set window tags offset nwords) s = .next t ∧ t.Done h 0x0401 [] ∧ t.shd.staged = some set.toNat ∧
      t.stagedSet set.toNat = some x ∧ t.active = s.active := by
  have hmap : (s.win window.toNat).isNone = false := State.win_isNone_of_has hw
  have hin' : es.all (fun e => decide (e.1 < n)) = true := by simpa using hin
  have hok' : (tags != 1 || imageOk s.board.member n bs) = true := by simpa [imp_iff_not_or] using hok
  refine ⟨_, exec_of_staging_body rfl ha hp (by simp [hset, htags]) hl ?_,
    State.Runs.stageSet_done
      (u := ((s.taken h 0x0401).dramRead 9 (s.winAddr window.toNat offset.toNat) (hd + 8 * nwords.toNat)).2)
      (s.taken_runs h 0x0401) rfl⟩
  simp only [State.taken_board, State.taken_shadow, ← hn, State.taken_setBusy, hbusy, State.taken_activeSet, hold, State.taken_win, hmap,
    ← hhd, State.taken_winHas, hw, State.taken_winAddr, State.dramRead_fst, State.taken_dram, ← hbs, ← hes, ← hx, hin', hok',
    State.taken_apartWith, hapart, Bool.not_true, Bool.false_eq_true, if_false, Bool.and_self, if_true]

end

/-! ## Removals (R211), configuration and linearisation (R218, R229) -/

/-- A set is marked for removal by the next apply (R211). -/
def State.markCleared (k : Nat) (s : State) : State :=
  s.setShd (fun u => { u with cleared := if u.cleared.contains k then u.cleared else u.cleared ++ [k] })

theorem State.mem_markCleared (k : Nat) (s : State) : k ∈ (s.markCleared k).shd.cleared := by
  by_cases hk : k ∈ s.shd.cleared <;> simp [State.markCleared, State.setShd, hk]

theorem shdSetClear_completes {set : BitVec 8} (ha : s.accepts h [.s] = true) (hp : h.plen = 0)
    (hset : set.toNat < setsMax s.board.member s.shadow) (hl : s.locked (setKeys set.toNat) = false) (hcal : s.shd.cal = none) :
    ∃ t, exec (.shdSetClear h set) s = .next t ∧ State.Stages h 0x0402 (0x10000 * (set.toNat + 1) + 0x0402) [] s.shadow s t ∧
      set.toNat ∈ t.shd.cleared := by
  have hruns : ((s.taken h 0x0402).markCleared set.toNat).Runs h 0x0402 := s.taken_runs h 0x0402
  refine ⟨_, exec_of_staging_body
      (u := ((s.taken h 0x0402).markCleared set.toNat).stage (0x10000 * (set.toNat + 1) + 0x0402) id) rfl ha hp (decide_eq_true hset) hl ?_,
    hruns.stages rfl rfl rfl, ?_⟩
  · simp only [State.taken_shd, hcal]
    rfl
  · rw [State.settle_shd, State.done_shd, State.stage_shd]
    exact State.mem_markCleared ..

/-- What SHD_SET_DISCARD takes out of the record of what is staged (R210). -/
def State.discardKeys (s : State) : List Nat := match s.shd.staged with | some k => [0x10000 * (k + 1) + 0x0400] | none => []

/-- The staged set is dropped (R210). -/
def State.setDiscarded (s : State) : State :=
  { s.setShd (fun u => { u with staged := none }) with
    staged := { s.staged with keys := s.staged.keys.filter (fun k => !s.discardKeys.contains k) } }

theorem State.locked_discardKeys {s : State} (hl : ∀ k, s.shd.staged = some k → s.locked [0x10000 * (k + 1) + 0x0400] = false) :
    s.locked s.discardKeys = false := by
  cases hs : s.shd.staged with
  | none => simp [State.discardKeys, hs, State.locked]
  | some k => simpa [State.discardKeys, hs] using hl k hs

theorem shdSetDiscard_completes (ha : s.accepts h [.s] = true) (hp : h.plen = 0)
    (hl : ∀ k, s.shd.staged = some k → s.locked [0x10000 * (k + 1) + 0x0400] = false) :
    ∃ t, exec (.shdSetDiscard h) s = .next t ∧ t.Done h 0x0403 [] ∧ t.shd.staged = none ∧ t.shadow = s.shadow ∧
      ∀ k, s.shd.staged = some k → 0x10000 * (k + 1) + 0x0400 ∉ t.staged.keys := by
  have hl' : (s.taken h 0x0403).locked (s.taken h 0x0403).discardKeys = false := State.locked_discardKeys hl
  have hruns : (s.taken h 0x0403).setDiscarded.Runs h 0x0403 := s.taken_runs h 0x0403
  have ht : takeShdSetDiscard h s = (s.taken h 0x0403).setDiscarded.done h.ctx.toNat [] := by
    unfold takeShdSetDiscard
    rw [State.take_of_accepts_empty ha hp rfl]
    exact congrArg (Res.apply h.ctx.toNat) (State.staging_of_free hl')
  refine ⟨_, congrArg State.out ht, (hruns.finish_ended ..).settle, ?_, ?_, fun k hk => ?_⟩
  · rw [State.settle_shd, State.done_shd]; rfl
  · rw [State.settle_shadow, State.done_shadow]; rfl
  · rw [State.settle_staged, State.done_staged]
    simp [State.setDiscarded, State.discardKeys, hk]

theorem shdCfgStage_completes {c : ShdCfg × Bool} (ha : s.accepts h [.s] = true) (hp : h.plen = 204) (hl : s.locked [0x0406] = false)
    (hc : c = shdCfgOf (s.payload h)) (hok : c.2 = true) (hapart : check219 s.board.member c.1 s.shdView = true) :
    ∃ t, exec (.shdCfgStage h) s = .next t ∧ State.Stages h 0x0406 0x0406 [] { s.shadow with shdCfg := c.1 } s t := by
  refine staging_completes (f := fun t => { t with shdCfg := c.1 }) rfl ha (by simp [hp]) rfl hl ?_
  have hview : (s.received h 0x0406).shdView = s.shdView := State.shdView_congr (by simp) (by simp) (by simp)
  dsimp only
  rw [State.received_payload, State.received_board, hview, ← hc, if_pos (by simp [hok, hapart])]

theorem linStage_completes {line : BitVec 8} (ha : s.accepts h [.s] = true) (hp : h.plen = 8192) (hl : s.locked [0x0407] = false)
    (hline : line.toNat ≤ 3) :
    ∃ t, exec (.linStage h line) s = .next t ∧ State.Stages h 0x0407 0x0407 []
      { s.shadow with lin := sset [] line.toNat ((chunks 2 4096 (s.payload h)).map leVal) s.shadow.lin } s t := by
  refine staging_completes (f := fun t => { t with lin := sset [] line.toNat ((chunks 2 4096 (s.payload h)).map leVal) t.lin })
    rfl ha (by simp [hp]) (decide_eq_true hline) hl ?_
  dsimp only
  rw [State.received_payload]

end

/-- Settles O9: the configuration, linearisation and removals, then the sets that a window brings. The sets that R219 compares and the
size of a set are the model's choice (log entries 200 and 201). -/
theorem correctionStagingsComplete : Obligations.CorrectionStagingsComplete := by
  refine ⟨fun h s ha => ⟨fun c hp hl hc hok hapart => shdCfgStage_completes ha hp hl hc hok hapart,
      fun line hp hl hline => linStage_completes ha hp hl hline, fun set hp hset hl hcal => shdSetClear_completes ha hp hset hl hcal,
      fun hp hl => shdSetDiscard_completes ha hp hl⟩,
    fun h set window offset n s ha hp hset hl hbusy hn => ⟨fun bs x hw hbs hx hok hapart =>
        shdSetLoad_completes ha hp hset hl hbusy hn hw hbs hx hok hapart,
      fun nwords old x bs es hw hold hbs hes hin hx hapart => ?_, fun nwords old x bs es hw hold hbs hok hes hin hx hapart => ?_⟩⟩
  · exact shdSetPatch_completes (tags := 0) (hd := 0) ha hp hset hl hbusy hn (by decide) rfl (by simpa using hw) hold (by simpa using hbs)
      (fun h1 => absurd h1 (by decide)) hes hin hx hapart
  · exact shdSetPatch_completes (tags := 1) ha hp hset hl hbusy hn (by decide) rfl hw hold hbs (fun _ => hok) hes hin hx hapart

end Sys2Proof.Machine
end

section
/-! PROOFS. The start of the calibrations and of a lamp test (R232, R234, R267, R368). -/

namespace Sys2Proof.Machine

section
variable (h : Hdr) (op : Nat) (s : State)

@[simp] theorem State.taken_aln : (s.taken h op).aln = s.aln := rfl
@[simp] theorem State.taken_ilm : (s.taken h op).ilm = s.ilm := rfl
@[simp] theorem State.taken_seg (p : Nat) : (s.taken h op).seg p = s.seg p := rfl
@[simp] theorem State.taken_axis (x : Nat) : (s.taken h op).axis x = s.axis x := rfl
@[simp] theorem State.taken_axisIdle (x : Nat) : (s.taken h op).axisIdle x = s.axisIdle x := rfl
@[simp] theorem State.taken_bufSize : (s.taken h op).bufSize h.ctx.toNat = s.bufSize h.ctx.toNat := by
  simp only [State.bufSize, State.taken, State.begun_ctx, State.atTime_ctx]

end

/-- A command without a payload whose body goes on starts with what the body leaves. -/
theorem exec_of_going_body {i : Instr} {h : Hdr} {op : Nat} {cls : List Cls} {inRange : Bool} {body : State → Res} {s u : State}
    (he : exec i s = (s.take h op cls true (some 0) inRange body).out) (ha : s.accepts h cls = true) (hp : h.plen = 0)
    (hr : inRange = true) (hb : body (s.taken h op) = .go u) : exec i s = .next u.settle := by
  rw [he, State.take_of_accepts_empty ha hp hr, hb]
  rfl

section
variable {h : Hdr} {s : State}

/-! ## Shading calibration (R232 to R234) -/

/-- The calibration that SHD_CALIBRATE begins (R232, R568). -/
def ShdCal.begun (ctx : Nat) (set tileAuto : BitVec 8) (settleMs : BitVec 16) (ports : BitVec 64) (targets : List Nat)
    (defLo defHi : BitVec 8) (darkMax : BitVec 16) : ShdCal :=
  { ctx := ctx, set := set.toNat, ports := ports, tile := tileAuto = 1, settle := settleMs.toNat, targets := targets,
    defLo := zeroIs 50 defLo.toNat, defHi := zeroIs 150 defHi.toNat, darkMax := zeroIs 0x2000 darkMax.toNat,
    step := .moveIn, until_ := none, left := 2, retried := false, sums := [], tagSum := [], tagN := 0, result := none, aborted := false }

/-- A calibration has begun: its tile is on the way, or SETTLE_MS runs at once (R234; log entry 78). -/
def State.shdCalBegun (c : ShdCal) (s : State) : State :=
  if c.tile then (s.setShd (fun u => { u with cal := some c })).tileMove 2 (s.active.tiles.tiles.getD 0 TileEntry.reset).cPos
  else (s.setShd (fun u => { u with cal := some c })).shdSettle

theorem State.shdCalBegun_ctx (c : ShdCal) (n : Nat) (s : State) : (s.shdCalBegun c).ctx n = s.ctx n := by
  unfold State.shdCalBegun; split <;> rfl

theorem State.shdCalBegun_cal (c : ShdCal) (s : State) : ∃ c', (s.shdCalBegun c).shd.cal = some c' ∧ c'.ctx = c.ctx ∧ c'.set = c.set ∧
    c'.ports = c.ports ∧ c'.targets = c.targets ∧ (c.tile = false → c'.until_ = some (s.now + 1000000 * c.settle)) := by
  unfold State.shdCalBegun
  split
  · rename_i ht
    exact ⟨c, rfl, rfl, rfl, rfl, rfl, fun hf => absurd (ht.symm.trans hf) (by decide)⟩
  · exact ⟨_, rfl, rfl, rfl, rfl, rfl, fun _ => rfl⟩

theorem shdCalibrate_starts {set tileAuto : BitVec 8} {settleMs : BitVec 16} {ports : BitVec 64} {tRed tGrn tBlu tNir : BitVec 16}
    {defLo defHi : BitVec 8} {darkMax : BitVec 16} (ha : s.accepts h [.k] = true) (hp : h.plen = 0)
    (hset : set.toNat < setsMax s.board.member s.active) (htile : tileAuto.toNat ≤ 1) (hsettle : settleMs.toNat ≤ 1000)
    (hports : ports.toNat < 2 ^ s.board.member.ports) (hred : 0x1000 ≤ tRed.toNat) (hgrn : 0x1000 ≤ tGrn.toNat)
    (hblu : 0x1000 ≤ tBlu.toNat) (hnir : 0x1000 ≤ tNir.toNat) (hbusy : s.setBusy set.toNat = none)
    (hstate : ∀ p ∈ setBits 64 ports.toNat, (s.seg p).state = .active ∨ (s.seg p).state = .covered ∨ (s.seg p).state = .qualify)
    (haxes : tileAuto = 1 → (s.axis 1).homed = true ∧ s.axisIdle 1 = true ∧ (s.axis 2).homed = true ∧ s.axisIdle 2 = true) :
    ∃ t c, exec (.shdCalibrate h set tileAuto settleMs ports tRed tGrn tBlu tNir defLo defHi darkMax) s = .next t ∧
      t.Runs h 0x0405 ∧ t.shd.cal = some c ∧ c.ctx = h.ctx.toNat ∧ c.set = set.toNat ∧ c.ports = ports ∧
      c.targets = [tRed.toNat, tGrn.toNat, tBlu.toNat, tNir.toNat] ∧
      (tileAuto = 0 → c.until_ = some (max s.now h.t + 1000000 * settleMs.toNat)) := by
  have hportOk : (setBits 64 ports.toNat).all (fun p => (s.seg p).state == .active || (s.seg p).state == .covered ||
      (s.seg p).state == .qualify) = true := by
    simpa [or_assoc] using hstate
  have haxOk : ¬ (decide (tileAuto = 1) &&
      !((s.axis 1).homed && s.axisIdle 1 && ((s.axis 2).homed && s.axisIdle 2))) = true := by
    simpa [and_assoc] using haxes
  obtain ⟨c, hc⟩ : ∃ c, c = ShdCal.begun h.ctx.toNat set tileAuto settleMs ports [tRed.toNat, tGrn.toNat, tBlu.toNat, tNir.toNat]
    defLo defHi darkMax := ⟨_, rfl⟩
  have he : exec (.shdCalibrate h set tileAuto settleMs ports tRed tGrn tBlu tNir defLo defHi darkMax) s =
      .next ((s.taken h 0x0405).shdCalBegun c).settle := by
    refine exec_of_going_body rfl ha hp (by simp [hset, htile, hsettle, hports, hred, hgrn, hblu, hnir]) ?_
    simp only [State.taken_setBusy, hbusy, State.taken_seg, hportOk, State.taken_axis, State.taken_axisIdle, haxOk, Bool.not_true,
      Bool.false_eq_true, if_false, State.shdCalBegun, hc, ShdCal.begun, decide_eq_true_eq]
  have hruns : ((s.taken h 0x0405).shdCalBegun c).Runs h 0x0405 :=
    (congrArg Ctx.cur (State.shdCalBegun_ctx ..)).trans (s.taken_runs h 0x0405)
  obtain ⟨c', hcal, hctx, hset', hports', htargets, huntil⟩ := (s.taken h 0x0405).shdCalBegun_cal c
  subst hc
  exact ⟨_, c', he, hruns.settle, by rw [State.settle_shd, hcal], hctx, hset', hports', htargets,
    fun h0 => huntil (by simp [ShdCal.begun, h0])⟩

/-! ## Alignment calibration (R267) -/

/-- The run that ALN_CALIBRATE begins (R267, R569). -/
def AlnCal.begun (ctx now : Nat) (ports : BitVec 64) (nbars : BitVec 16) (refPort window : BitVec 8) (xRef offset timeout : BitVec 32) :
    AlnCal :=
  { ctx := ctx, ports := ports, nbars := zeroIs 64 nbars.toNat, refPort := refPort.toNat, window := window.toNat, xRef := xRef.toNat,
    offset := offset.toNat, deadline := now + zeroIs 60000 timeout.toNat * 1000000, found := 0, retried := false }

/-- An alignment calibration is in progress. -/
def State.alnCalibrating (c : AlnCal) (s : State) : State := { s with aln := { s.aln with cal := some c } }

theorem alnCalibrate_starts {ports : BitVec 64} {nbars : BitVec 16} {refPort window : BitVec 8} {xRef offset timeout : BitVec 32}
    (ha : s.accepts h [.k] = true) (hp : h.plen = 0) (hmin : 16 ≤ zeroIs 64 nbars.toNat) (hmax : zeroIs 64 nbars.toNat ≤ 256)
    (hports : ports.toNat < 2 ^ s.board.member.ports) (href : bit ports.toNat refPort.toNat = true) (hxref : xRef.toNat < 2 ^ 24)
    (hw : s.winHas window.toNat offset.toNat (2 + 16 * s.board.member.ports) = true) (haln : s.aln.cal = none) (hshd : s.shd.cal = none) :
    ∃ t c, exec (.alnCalibrate h ports nbars refPort window xRef offset timeout) s = .next t ∧ t.Runs h 0x0503 ∧
      t.aln.cal = some c ∧ c.ctx = h.ctx.toNat ∧ c.ports = ports ∧ c.nbars = zeroIs 64 nbars.toNat ∧
      c.deadline = max s.now h.t + zeroIs 60000 timeout.toNat * 1000000 := by
  have hmap : (s.win window.toNat).isNone = false := State.win_isNone_of_has hw
  have hruns (c : AlnCal) : ((s.taken h 0x0503).alnCalibrating c).Runs h 0x0503 := s.taken_runs h 0x0503
  have hrange : (decide (16 ≤ zeroIs 64 nbars.toNat) && decide (zeroIs 64 nbars.toNat ≤ 256) &&
      decide (ports.toNat < 2 ^ s.board.member.ports) && bit ports.toNat refPort.toNat && decide (xRef.toNat < 2 ^ 24)) = true := by
    simp only [hmin, hmax, hports, href, hxref, decide_true, Bool.and_self]
  refine ⟨_, AlnCal.begun h.ctx.toNat (max s.now h.t) ports nbars refPort window xRef offset timeout,
    exec_of_going_body rfl ha hp hrange ?_, (hruns _).settle, by rw [State.settle_aln]; rfl, rfl, rfl, rfl, rfl⟩
  simp only [State.taken_win, hmap, State.taken_winHas, State.taken_board, hw, State.taken_aln, haln, State.taken_shd, hshd,
    Option.isSome_none, Bool.or_self, Bool.not_true, Bool.false_eq_true, if_false]
  rfl

/-! ## Lamp test (R368) -/

/-- The test that LAMP_TEST begins (R368). -/
def LampTest.begun (ctx : Nat) (rows testCode : BitVec 8) (testNs lines : BitVec 16) (when_ : BitVec 8) (vLamp vOfs : BitVec 16) :
    LampTest :=
  { ctx := ctx, rows := rows.setWidth 4, code := testCode.toNat, ns := testNs.toNat, lines := lines.toNat, when_ := when_.toNat,
    vLamp := vLamp.toNat, vOfs := vOfs.toNat, plen := 0, iSum := List.replicate 4 0, vSum := List.replicate 4 0,
    n := List.replicate 4 0, ratio := List.replicate 4 0, last := List.replicate 4 none }

/-- A lamp test is in progress. -/
def State.lampTesting (x : LampTest) (s : State) : State := { s with ilm := { s.ilm with test := some x } }

theorem State.lampTesting_bufSize (x : LampTest) (n : Nat) (s : State) : (s.lampTesting x).bufSize n = s.bufSize n := rfl

@[simp] theorem State.lampRecord_length (x : LampTest) (w : Nat) (s : State) : (s.lampRecord x w).length = 16 := by
  unfold State.lampRecord
  dsimp only
  split <;> simp

theorem State.lampRecords_length (x : LampTest) (s : State) : ((List.range 4).flatMap (fun w => s.lampRecord x w)).length = 64 := by
  simp [List.length_flatMap]

/-- A test that ends gives the records of its rows (R368). -/
theorem State.Runs.lampTestEnd_ended {op : Nat} {x : LampTest} (hr : s.Runs h op) (hx : s.ilm.test = some x)
    (hctx : x.ctx = h.ctx.toNat) (hbuf : 64 ≤ s.bufSize h.ctx.toNat) :
    (s.lampTestEnd .done cOk).Ended h op .done cOk [] 64 ∧ (s.lampTestEnd .done cOk).ilm.test = none := by
  have hruns : State.Runs h op { s with ilm := { s.ilm with test := none } } := hr
  have hlen := s.lampRecords_length x
  unfold State.lampTestEnd
  rw [hx]
  dsimp only
  rw [hctx]
  refine ⟨?_, by rw [State.finish_ilm]⟩
  rw [← hlen]
  exact (hruns.finish_stored .done cOk [] (by rw [hlen]; exact hbuf)).1

section
variable {rows testCode : BitVec 8} {testNs lines : BitVec 16} {when_ : BitVec 8} {vLamp vOfs : BitVec 16}

theorem exec_lampTest (ha : s.accepts h [.j, .k] = true) (hp : h.plen = 0) (hrows : rows.toNat < 16) (hlo : 1 ≤ testCode.toNat)
    (hhi : testCode.toNat ≤ 127) (hns : 80 ≤ testNs.toNat) (hns' : testNs.toNat ≤ 400) (hlines : lines ≠ 0) (hwhen : when_.toNat ≤ 1)
    (hidle : s.ilm.test = none) :
    exec (.lampTest h rows testCode testNs lines when_ vLamp vOfs) s =
      .next (if rows = 0 then
          ((s.taken h 0x0804).lampTesting (LampTest.begun h.ctx.toNat rows testCode testNs lines when_ vLamp vOfs)).lampTestEnd .done cOk
        else (s.taken h 0x0804).lampTesting (LampTest.begun h.ctx.toNat rows testCode testNs lines when_ vLamp vOfs)).settle := by
  refine exec_of_going_body rfl ha hp (by simpa [hrows, hlo, hhi, hns, hns', hwhen] using hlines) ?_
  simp only [State.taken_ilm, hidle, Option.isSome_none, Bool.false_eq_true, if_false]
  rfl

end

end

/-- Settles O16: the two calibrations, then a lamp test with and without rows. That SETTLE_MS also runs where no tile moves is the
model's choice (log entry 78). -/
theorem calibrationsAndLampTestStart : Obligations.CalibrationsAndLampTestStart := by
  refine ⟨fun h s ha hp => ⟨fun set tileAuto settleMs ports tRed tGrn tBlu tNir defLo defHi darkMax hset htile hsettle hports hred hgrn
      hblu hnir hbusy hstate haxes =>
        shdCalibrate_starts ha hp hset htile hsettle hports hred hgrn hblu hnir hbusy hstate haxes,
      fun ports nbars refPort window xRef offset timeout hmin hmax hports href hxref hw haln hshd =>
        alnCalibrate_starts ha hp hmin hmax hports href hxref hw haln hshd⟩,
    fun h rows testCode testNs lines when_ vLamp vOfs s ha hp hrows hlo hhi hns hns' hlines hwhen hidle => ?_⟩
  have hruns (x : LampTest) : ((s.taken h 0x0804).lampTesting x).Runs h 0x0804 := s.taken_runs h 0x0804
  have he := exec_lampTest (vLamp := vLamp) (vOfs := vOfs) ha hp hrows hlo hhi hns hns' hlines hwhen hidle
  refine ⟨fun hr => ?_, fun hr hbuf => ?_⟩
  · rw [if_neg hr] at he
    exact ⟨_, LampTest.begun h.ctx.toNat rows testCode testNs lines when_ vLamp vOfs, he, (hruns _).settle, by rw [State.settle_ilm]; rfl,
      rfl, rfl, rfl, rfl, rfl⟩
  · rw [if_pos hr] at he
    obtain ⟨hend, htest⟩ := (hruns (LampTest.begun h.ctx.toNat rows testCode testNs lines when_ vLamp vOfs)).lampTestEnd_ended rfl rfl
      (by rw [State.lampTesting_bufSize, State.taken_bufSize]; exact hbuf)
    exact ⟨_, he, hend.settle, by rw [State.settle_ilm, htest]⟩

end Sys2Proof.Machine
end

section
/-! PROOFS. Calibrations, pages and services leave the lines in flight alone (R234, R255 to R258, R267, R312, R652). -/

namespace Sys2Proof.Machine

/-- `t` agrees with `s` on the lines in flight and on the count of clamped lines. -/
def State.SparesLines (s t : State) : Prop := t.lines = s.lines ∧ t.aln.clampCnt = s.aln.clampCnt

namespace State.SparesLines

variable {s t u : State}

theorem refl (s : State) : s.SparesLines s := ⟨rfl, rfl⟩

theorem trans (h : s.SparesLines t) (k : t.SparesLines u) : s.SparesLines u := ⟨k.1.trans h.1, k.2.trans h.2⟩

theorem ite {c : Prop} [Decidable c] (ht : s.SparesLines t) (hu : s.SparesLines u) : s.SparesLines (if c then t else u) := by
  split
  · exact ht
  · exact hu

/-- A pass of such operations is one. -/
theorem foldl {α : Type} {f : State → α → State} (hf : ∀ (s : State) (x : α), s.SparesLines (f s x)) (l : List α) (s : State) :
    s.SparesLines (l.foldl f s) :=
  List.foldlRecOn l f (refl s) fun t ht x _ => ht.trans (hf t x)

theorem of_pulse (i : Nat) : s.SparesLines (s.pulse i) := ⟨State.pulse_lines .., congrArg AlnUnit.clampCnt (State.pulse_aln ..)⟩

theorem of_pulseIf (b : Bool) (i : Nat) : s.SparesLines (s.pulseIf b i) := ite (of_pulse i) (refl s)

theorem of_finish (n : Nat) (st : OpState) (code : Nat) (data pay : List Byte) : s.SparesLines (s.finish n st code data pay) :=
  ⟨State.finish_lines .., congrArg AlnUnit.clampCnt (State.finish_aln ..)⟩

theorem of_alnPulse {a : AlnUnit} (ha : a.clampCnt = s.aln.clampCnt) (i : Nat) :
    s.SparesLines (({ s with aln := a } : State).pulse i) := by
  have h : s.SparesLines { s with aln := a } := ⟨rfl, ha⟩
  exact h.trans (of_pulse i)

/-- A condition of the alignment unit that is noted with its event, where it is there. -/
theorem ite_alnPulse {c : Prop} [Decidable c] {a : AlnUnit} {i : Nat} (h : s.SparesLines t) (ha : a.clampCnt = t.aln.clampCnt) :
    s.SparesLines (if c then ({ t with aln := a } : State).pulse i else t) := ite (h.trans (of_alnPulse ha i)) h

theorem of_ring (g : Ring) : s.SparesLines { s with ring := g } := ⟨rfl, rfl⟩

theorem of_free (w : Nat) : s.SparesLines (s.free w).2 := ⟨rfl, rfl⟩

theorem of_frees (w n : Nat) : s.SparesLines (s.frees w n).2 := by
  obtain ⟨k, e⟩ := s.frees_shape w n
  rw [e]; exact ⟨rfl, rfl⟩

/-! ### Shading calibration (R234, R237) -/

theorem of_shdCalEnd : s.SparesLines s.shdCalEnd := by
  unfold State.shdCalEnd
  split
  · exact refl s
  · exact trans ⟨rfl, rfl⟩ (of_finish ..)

theorem of_shdCalOut (code : Nat) (data pay : List Byte) : s.SparesLines (s.shdCalOut code data pay) := by
  unfold State.shdCalOut
  split
  · exact refl s
  · exact ite ⟨rfl, rfl⟩ (trans ⟨rfl, rfl⟩ of_shdCalEnd)

theorem of_shdCalCheck : s.SparesLines s.shdCalCheck := by
  unfold State.shdCalCheck
  split
  · exact refl s
  · exact ite (refl s) (ite (ite (of_shdCalOut ..) ⟨rfl, rfl⟩) (ite (of_shdCalOut ..) (trans ⟨rfl, rfl⟩ (of_shdCalOut ..))))

theorem of_shdCalLine (r : LineRec) : s.SparesLines (s.shdCalLine r) := by
  unfold State.shdCalLine
  split
  · exact refl s
  · exact ite (refl s) (ite ⟨rfl, rfl⟩ (ite ⟨rfl, rfl⟩ (trans ⟨rfl, rfl⟩ of_shdCalCheck)))

/-! ### Alignment calibration (R267 to R270) -/

theorem of_alnOut (code : Nat) (ports : List Nat) : s.SparesLines (s.alnOut code ports) := by
  unfold State.alnOut
  split
  · exact refl s
  · exact trans ⟨rfl, rfl⟩ (of_finish ..)

theorem of_seamFigures (l : List (Nat × Nat)) : s.SparesLines (s.seamFigures l).2 := by
  induction l generalizing s with
  | nil => exact refl s
  | cons x l ih => exact (of_frees 12 256).trans (((of_free 16).trans (of_free 16)).trans ih)

theorem of_alnAccept (c : AlnCal) (x : AlnSeen) (stagger : Nat) : s.SparesLines (s.alnAccept c x stagger) := by
  unfold State.alnAccept
  extract_lets m t q bytes s1 s2 view
  have h2 : s.SparesLines s2 := (of_seamFigures _).trans ⟨rfl, rfl⟩
  clear_value s2
  exact ite (h2.trans (of_alnOut ..)) (ite (h2.trans (of_alnOut ..)) (ite (h2.trans (of_alnOut ..))
    (h2.trans (trans ⟨rfl, rfl⟩ (of_alnOut ..)))))

theorem of_alnVerdict (c : AlnCal) : s.SparesLines (s.alnVerdict c) := by
  have hseen : s.SparesLines (s.alnSeen c).2 := (of_frees 24 _).trans (of_frees 24 _)
  have hmeasured (b : Prop) [Decidable b] :
      s.SparesLines (if b then (s.alnSeen c).2.free 11 else (s.active.stagger, (s.alnSeen c).2)).2 := by
    split
    · exact hseen.trans (of_free 11)
    · exact hseen
  exact ite (hseen.trans ⟨rfl, rfl⟩) (ite (hseen.trans (of_alnOut ..))
    (ite ((hmeasured _).trans (of_alnAccept ..)) ((hmeasured _).trans (of_alnOut ..))))

theorem of_alnJudge (c : AlnCal) : s.SparesLines (s.alnJudge c) := ite (refl s) (of_alnVerdict c)

theorem of_alnCalLine (r : LineRec) : s.SparesLines (s.alnCalLine r) := by
  unfold State.alnCalLine
  split
  · exact refl s
  · extract_lets f n c1 s1
    have h1 : s.SparesLines s1 := ⟨rfl, rfl⟩
    exact ite (refl s) (ite (of_free 1) (ite h1 (h1.trans (of_alnJudge c1))))

/-! ### Queues (R489, R491, R494) and the diagnostic tap (R627) -/

theorem of_addCell (n : Nat) (bs : List Byte) : s.SparesLines (s.addCell n bs) := by
  have hpick : s.SparesLines s.pickCell.2 := ⟨rfl, rfl⟩
  unfold State.addCell
  generalize s.pickCell = c at hpick
  obtain ⟨id, s1⟩ := c
  exact trans hpick ⟨rfl, rfl⟩

theorem of_push {n : Nat} {bs : List Byte} (h : s.push n bs = some t) : s.SparesLines t := by
  have hset (f : Queue → Queue) : s.SparesLines (s.setQ n f) := ⟨rfl, rfl⟩
  unfold State.push at h
  dsimp only at h
  split_ifs at h
  · rw [← Option.some.inj h]; exact hset _
  · rw [← Option.some.inj h]; exact (hset _).trans (of_addCell ..)
  · rw [← Option.some.inj h]; exact (hset _).trans (of_addCell ..)

theorem of_pushItems (n : Nat) (l : List (List Byte)) : s.SparesLines (s.pushItems n l) := by
  induction l generalizing s with
  | nil => exact refl s
  | cons b l ih =>
    unfold State.pushItems
    split
    · split
      · rename_i t ht; exact (of_push ht).trans ih
      · exact ⟨rfl, rfl⟩
    · exact ⟨rfl, rfl⟩

theorem of_pushHard (n : Nat) (bs : List Byte) : s.SparesLines (s.pushHard n bs) := of_pushItems ..

theorem of_tapLine (r : LineRec) : s.SparesLines (s.tapLine r) := ite (refl s) (ite (of_pushHard ..) ⟨rfl, rfl⟩)

/-! ### Services on a page (R294 to R306, R312) -/

theorem of_svRecord (k : Nat) (bs : List Byte) : s.SparesLines (s.svRecord k bs) := by
  unfold State.svRecord
  split
  · exact of_pushHard ..
  · exact refl s

theorem of_setPage (k : Nat) (f : SvPage → SvPage) : s.SparesLines (s.setPage k f) := ⟨rfl, rfl⟩

theorem of_svSet (pg k : Nat) (x : SvProg) : s.SparesLines (s.svSet pg k x) := of_setPage ..

theorem of_svPart (pg k : Nat) : s.SparesLines (s.svPart pg k) := by
  unfold State.svPart
  split
  · exact (of_setPage ..).trans (of_pulseIf ..)
  · exact refl s

theorem of_svIo (port : Nat) (write : Bool) (page unit n : Nat) : s.SparesLines (s.svIo port write page unit n) := ⟨rfl, rfl⟩

theorem of_reducedOut (j : Job) (p : SvPage) (ty : Nat) : s.SparesLines (s.reducedOut j p ty) :=
  ite (refl s) (foldl (fun s _ => of_svIo (s := s) ..) _ s)

theorem of_defect (pg : Nat) (b : List OverPix) : s.SparesLines (s.defect pg b) := by
  unfold State.defect
  split
  · exact refl s
  · exact (of_setPage ..).trans (ite (of_svRecord ..) (of_pulseIf ..))

theorem of_emitBlobs (pg row rows : Nat) : s.SparesLines (s.emitBlobs pg row rows) := by
  unfold State.emitBlobs
  split
  · split
    · exact refl s
    · exact foldl (fun _ b => of_defect pg b) _ s
  · exact refl s

theorem of_judge (pg : Nat) : s.SparesLines (s.judge pg) := by
  unfold State.judge
  split
  · exact ite (refl s) (ite ⟨rfl, rfl⟩ ⟨rfl, rfl⟩)
  · exact refl s

theorem of_ladleOut (pg : Nat) (last : Bool) : s.SparesLines (s.ladleOut pg last) := by
  unfold State.ladleOut
  split
  · refine foldl (fun s t => ?_) _ s
    split
    · exact refl s
    · exact trans (foldl (fun s _ => (of_free 48).trans ((of_setPage pg _).trans (of_svRecord ..))) _ s) (of_setPage ..)
  · exact refl s

theorem of_svCut (pg k : Nat) : s.SparesLines (s.svCut pg k) := by
  have hclosed (b : Prop) [Decidable b] : s.SparesLines (((if b then s.ladleOut pg true else s).svSet pg k .closed).svPart pg k) :=
    ((ite (of_ladleOut ..) (refl s)).trans (of_svSet ..)).trans (of_svPart ..)
  unfold State.svCut
  split
  · exact ite (refl s) (ite (((hclosed _).trans (ite (refl _) (of_emitBlobs ..))).trans (of_judge pg)) (hclosed _))
  · exact refl s

theorem of_svCrowd (k : Nat) : s.SparesLines (s.svCrowd k) := by
  unfold State.svCrowd
  split
  · split
    · exact of_svCut ..
    · exact refl s
  · exact refl s

theorem of_sieveRows (pg n : Nat) : s.SparesLines (s.sieveRows pg n) := by
  induction n generalizing s with
  | zero => exact refl s
  | succ n ih =>
    unfold State.sieveRows
    split
    · exact ite (((of_setPage ..).trans (ite (refl _) (of_emitBlobs ..))).trans ih) (refl s)
    · exact refl s

theorem of_sieveGo (pg : Nat) : s.SparesLines (s.sieveGo pg) := by
  unfold State.sieveGo
  split
  · rename_i j p _ _
    have hrows : s.SparesLines (s.sieveRows pg ((j.view s.board p).tilesY + 1)) := of_sieveRows ..
    refine ite (refl s) ?_
    dsimp only
    split
    · exact ite (((hrows.trans (ite (refl _) (of_emitBlobs ..))).trans (of_svSet ..)).trans (of_judge pg)) hrows
    · exact hrows
  · exact refl s

theorem of_tongsGo (pg : Nat) : s.SparesLines (s.tongsGo pg) := by
  unfold State.tongsGo
  split
  · exact ite (refl s) ((foldl (fun s w => ite (refl s) (of_svRecord ..)) _ s).trans (of_svSet ..))
  · exact refl s

theorem of_ladleGo (pg : Nat) : s.SparesLines (s.ladleGo pg) := by
  unfold State.ladleGo
  split
  · exact ite (refl s) ((of_ladleOut ..).trans (ite (of_svSet ..) (refl _)))
  · exact refl s

theorem of_previewGo (pg : Nat) : s.SparesLines (s.previewGo pg) := by
  unfold State.previewGo
  split
  · exact ite ((of_svRecord ..).trans (of_svSet ..)) (refl s)
  · exact refl s

theorem of_cropGo (pg : Nat) : s.SparesLines (s.cropGo pg) := by
  unfold State.cropGo
  split
  · exact ite (of_svSet ..) (refl s)
  · exact refl s

theorem of_svAdvance : s.SparesLines s.svAdvance := by
  unfold State.svAdvance
  split
  · exact foldl (fun s k => ((((of_tongsGo k).trans (of_sieveGo k)).trans (of_ladleGo k)).trans (of_previewGo k)).trans (of_cropGo k)) _ s
  · exact refl s

/-! ### Pages as they open, fill and close (R190, R192, R275, R309, R316, R652) -/

theorem of_svOpen (tr : LineRec) (dropped short : Bool) : s.SparesLines (s.svOpen tr dropped short) := by
  have htrack : s.SparesLines s.aMaxTrack := ⟨rfl, rfl⟩
  unfold State.svOpen
  extract_lets s0 tabs dec unit
  split
  · exact htrack
  · refine ite htrack ?_
    extract_lets pg wanted ref good isBad late runs s1 want adm page s2 s3 s4
    have h1 : s.SparesLines s1 := htrack.trans (foldl (fun s k => ite (of_svCrowd k) (refl s)) _ s0)
    have h2 : s.SparesLines s2 := h1.trans ⟨rfl, rfl⟩
    have h3 : s.SparesLines s3 := by
      unfold s3
      generalize ref = o
      cases o with
      | none => exact h2
      | some r => exact ite (h2.trans (of_finish ..)) h2
    exact (h3.trans ((of_pulseIf ..).trans (of_pulseIf ..))).trans (foldl (fun s k => ite (of_svPart pg k) (refl s)) _ s4)

theorem of_openPage (tr : LineRec) (short : Bool) : s.SparesLines (s.openPage tr short) := by
  unfold State.openPage
  extract_lets ok page ring s1
  have h1 : s.SparesLines s1 := ⟨rfl, rfl⟩
  exact h1.trans ((of_pulseIf ..).trans (of_svOpen ..))

theorem of_svClose (e : PageEnd) : s.SparesLines (s.svClose e) := by
  unfold State.svClose
  split
  · exact ((ite (refl s) (of_reducedOut ..)).trans (of_setPage ..)).trans of_svAdvance
  · exact refl s

theorem of_closePage (e : PageEnd) : s.SparesLines (s.closePage e) := by
  unfold State.closePage
  split
  · exact refl s
  · refine .trans ?_ (of_svClose e)
    split
    · exact trans ⟨rfl, rfl⟩ (of_pushHard ..)
    · exact ⟨rfl, rfl⟩

theorem of_svStrips (pg y : Nat) : s.SparesLines (s.svStrips pg y) := by
  unfold State.svStrips
  split
  · refine ite (refl s) (foldl (fun s t => ?_) _ s)
    extract_lets less s1 out
    have h1 : s.SparesLines s1 := ite (of_setPage ..) (refl s)
    refine ite h1 ?_
    split
    · exact h1.trans (of_setPage ..)
    · exact h1.trans ((of_setPage ..).trans (of_pulse _))
  · exact refl s

theorem of_cropCharge (n : Nat) : s.SparesLines (s.cropCharge n) := ⟨rfl, rfl⟩

theorem of_svCrops (pg y : Nat) (o : OutLine) : s.SparesLines (s.svCrops pg y o).2 := by
  unfold State.svCrops
  split
  · exact refl s
  · refine List.foldlRecOn (motive := fun r : List (List Byte) × State => s.SparesLines r.2) _ _ (refl s) fun r hr c _ => ?_
    split
    · exact hr
    · have h1 (b : Prop) [Decidable b] : s.SparesLines (if b then { r.2 with fresh := r.2.fresh + 1 } else r.2) :=
        hr.trans (ite (of_free 16) (refl r.2))
      dsimp only
      exact (ite (h1 _) ((h1 _).trans ((of_setPage ..).trans (of_svRecord ..)))).trans ((of_svRecord ..).trans (of_cropCharge _))

theorem of_svLine (o : OutLine) : s.SparesLines (s.svLine o).2 := by
  unfold State.svLine
  split
  · exact ((of_setPage ..).trans (ite (of_reducedOut ..) (refl _))).trans ((of_svStrips ..).trans (of_svCrops ..))
  · exact refl s

theorem of_ringPut (bs : List Byte) : s.SparesLines (s.ringPut bs) := by
  unfold State.ringPut
  extract_lets off s1 ps
  have h1 : s.SparesLines s1 := ite (refl s) ⟨rfl, rfl⟩
  exact h1.trans ⟨rfl, rfl⟩

theorem of_writeLine (r : LineRec) (o : OutLine) : s.SparesLines (s.writeLine r o) := by
  unfold State.writeLine
  split
  · exact refl s
  · have h1 (g : Ring) : s.SparesLines { (s.svLine o).2 with ring := g } := (of_svLine o).trans (of_ring g)
    have h2 (g : Ring) (bs : List Byte) (b : Prop) [Decidable b] : s.SparesLines
        (if b then ({ (s.svLine o).2 with ring := g } : State).ringPut bs else { (s.svLine o).2 with ring := g }) :=
      (h1 g).trans (ite (of_ringPut bs) (refl _))
    dsimp only
    exact ite (h1 _) (ite (h2 _ _ _) ((h2 _ _ _).trans (of_pushHard ..)))

/-! ### The stitched line (R252 to R258) -/

theorem of_stagWrite (r : LineRec) (l : PortLines) : s.SparesLines (s.stagWrite r l) := by
  unfold State.stagWrite
  extract_lets h a s1
  have h1 : s.SparesLines s1 := ite (refl s) ⟨rfl, rfl⟩
  exact h1.trans ⟨rfl, rfl⟩

theorem of_stagRead (r : LineRec) (late poison : Bool) : s.SparesLines (s.stagRead r late poison).2.2 := by
  unfold State.stagRead
  extract_lets m ports absent
  split
  · have hread (a n : Nat) : s.SparesLines (s.dramRead 2 a n).2 := ⟨rfl, rfl⟩
    dsimp only
    split
    · exact refl s
    · exact ite_alnPulse (ite_alnPulse (hread _ _) rfl) rfl
  · exact refl s

theorem of_toPages (r tr : LineRec) (o : OutLine) : s.SparesLines (s.toPages r tr o) := by
  unfold State.toPages
  extract_lets aln s0 s1 s2
  have h0 : s.SparesLines s0 := ite (refl s) ⟨rfl, rfl⟩
  have h1 : s.SparesLines s1 := by
    unfold s1
    split
    · exact h0.trans (of_closePage _)
    · exact h0
  have h2 : s.SparesLines s2 := h1.trans ((ite (of_openPage ..) (refl s1)).trans (of_writeLine ..))
  refine ite (h0.trans (of_closePage _)) (ite h1 ?_)
  split
  · exact h2.trans (of_closePage _)
  · exact h2

theorem of_stitch (r : LineRec) (late poison : Bool) : s.SparesLines (s.stitch r late poison) := by
  unfold State.stitch
  extract_lets m second first d s3 g repl
  have h3 : s.SparesLines s3 := (of_stagWrite ..).trans (of_stagRead ..)
  split
  · exact h3
  · exact h3.trans (of_toPages ..)

end State.SparesLines

end Sys2Proof.Machine
end

section
/-! PROOFS. The events of correction and alignment (R214, R216, R217, R221, R234, R255, R269, R569). -/

namespace Sys2Proof.Machine

/-! ## Filters of the zones (R216, R217) -/

/-- The filter of zone `z` for its input `j` follows that input by a rule, or is stale without one (R217). -/
def State.followInput (f : Filter → Int → Filter) (s : State) (z j : Nat) (q : Filter) : Filter :=
  match s.filterIn z j with
  | some v => f q v
  | none => { q with stale := true }

/-- The keys of the filters of `n` zones. -/
def filterKeys (n : Nat) : List Nat := (List.product (List.range n) (List.range 5)).map (fun x => 5 * x.1 + x.2)

theorem filterKey_div {z j : Nat} (hj : j < 5) : (5 * z + j) / 5 = z := by omega

theorem filterKey_mod {z j : Nat} (hj : j < 5) : (5 * z + j) % 5 = j := by omega

theorem filterKeys_nodup (n : Nat) : (filterKeys n).Nodup := by
  refine List.Nodup.map_on ?_ (List.nodup_range.product List.nodup_range)
  rintro ⟨z, j⟩ hx ⟨w, k⟩ hy e
  have hj := List.mem_range.1 (List.mem_product.1 hx).2
  have hk := List.mem_range.1 (List.mem_product.1 hy).2
  change 5 * z + j = 5 * w + k at e
  obtain ⟨rfl, rfl⟩ : z = w ∧ j = k := by omega
  rfl

theorem mem_filterKeys {n z j : Nat} (hz : z < n) (hj : j < 5) : 5 * z + j ∈ filterKeys n :=
  List.mem_map.2 ⟨(z, j), List.mem_product.2 ⟨List.mem_range.2 hz, List.mem_range.2 hj⟩, rfl⟩

/-- A change of every filter, key by key. -/
theorem State.filters_eq (f : Filter → Int → Filter) (s : State) : s.filters f =
    (filterKeys s.board.member.ports).foldl (fun m k => supd Filter.reset k (s.followInput f (k / 5) (k % 5)) m) s.shd.filters := by
  rw [filterKeys, List.foldl_map]
  refine List.foldl_ext _ _ _ ?_
  rintro m ⟨z, j⟩ hx
  have hj := List.mem_range.1 (List.mem_product.1 hx).2
  rw [filterKey_div hj, filterKey_mod hj]
  rfl

theorem State.filters_follow {z j : Nat} (f : Filter → Int → Filter) (s : State) (hz : z < s.board.member.ports) (hj : j < 5) :
    sget Filter.reset (5 * z + j) (s.filters f) = s.followInput f z j (sget Filter.reset (5 * z + j) s.shd.filters) := by
  rw [State.filters_eq, sget_foldl_supd Filter.reset (fun k => s.followInput f (k / 5) (k % 5)) (filterKeys_nodup _)
    (mem_filterKeys hz hj), filterKey_div hj, filterKey_mod hj]

section
variable {tm : Nat} {s : State}

/-- ZONE_TEMP_UPDATE moves each filter by its share of the way to its input (R216), or leaves it stale (R217). -/
theorem zoneTempUpdate_filters : ∃ t, exec (.zoneTempUpdate tm) s = .next t ∧ ∀ z j, z < s.board.member.ports → j < 5 →
    sget Filter.reset (5 * z + j) t.shd.filters = (s.atTime tm).followInput
      (fun q v => { val := q.val + sar (v - q.val) s.active.shdCfg.filtSh, stale := false }) z j
      (sget Filter.reset (5 * z + j) s.shd.filters) := by
  refine ⟨_, rfl, fun z j hz hj => ?_⟩
  rw [State.settle_shd]
  exact (s.atTime tm).filters_follow _ hz hj

/-! ## The patrol of the store (R214) -/

/-- One wrong bit is corrected and counted. -/
theorem State.shdEcc_one (slot word : Nat) (s : State) :
    s.shdEcc slot word 1 = (s.setShd (fun u => { u with corr := satAdd 0xFFFF u.corr 1 })).pulse 80 := rfl

/-- A set with a word marked as uncorrectable. -/
def ShdSet.spoiled (word : Nat) (x : ShdSet) : ShdSet := { x with bad := x.bad ++ [word] }

/-- A word of a slot is found uncorrectable, and counted (R214). -/
def State.wordSpoiled (slot word : Nat) (s : State) : State :=
  s.setShd (fun u => { u with uncorr := satAdd 0xFFFF u.uncorr 1,
                              slots := sset ShdSet.reset slot ((sget ShdSet.reset slot s.shd.slots).spoiled word) u.slots })

theorem State.mem_wordSpoiled (slot word : Nat) (s : State) :
    word ∈ (sget ShdSet.reset slot (s.wordSpoiled slot word).shd.slots).bad := by
  simp [State.wordSpoiled, State.setShd, ShdSet.spoiled]

/-- Two wrong bits in a word that was still good spoil it, in the store and in lines in flight. -/
theorem State.shdEcc_two {slot word : Nat} {s : State} (hnew : word ∉ (sget ShdSet.reset slot s.shd.slots).bad) :
    ∃ ls, s.shdEcc slot word 2 = ({ s.wordSpoiled slot word with lines := ls } : State).pulse 81 := by
  have h : ¬ (sget ShdSet.reset slot s.shd.slots).bad.contains word = true := by simpa using hnew
  unfold State.shdEcc
  rw [if_neg (by decide), if_neg (by decide), if_neg h]
  exact ⟨_, rfl⟩

section
variable {slot : BitVec 3} {word : BitVec 21} {bitsBad : BitVec 2}

theorem exec_shdPatrolRead (hslot : slot.toNat < shdSlots (pixCount s.board.member s.active))
    (hword : word.toNat < pixCount s.board.member s.active) :
    exec (.shdPatrolRead tm slot word bitsBad) s = .next ((s.atTime tm).shdEcc slot.toNat word.toNat bitsBad.toNat).settle := by
  have h : ¬ (decide (shdSlots (pixCount s.board.member s.active) ≤ slot.toNat) ||
      decide (pixCount s.board.member s.active ≤ word.toNat)) = true := by simp [hslot, hword]
  have he : exec (.shdPatrolRead tm slot word bitsBad) s = execShdPatrolRead tm slot word bitsBad s := rfl
  rw [he]
  exact congrArg State.out (if_neg h)

theorem shdPatrolRead_corrects (hslot : slot.toNat < shdSlots (pixCount s.board.member s.active))
    (hword : word.toNat < pixCount s.board.member s.active) :
    ∃ t, exec (.shdPatrolRead tm slot word 1) s = .next t ∧ t.shd.corr = min 0xFFFF (s.shd.corr + 1) ∧ t.shd.slots = s.shd.slots ∧
      (s.mode.mode ≠ .boot → t.ev.latch.getLsbD 80 = true) := by
  have he : exec (.shdPatrolRead tm slot word 1) s = .next ((s.atTime tm).shdEcc slot.toNat word.toNat 1).settle :=
    exec_shdPatrolRead hslot hword
  rw [State.shdEcc_one] at he
  refine ⟨_, he, ?_, ?_, fun hm => State.settle_latch_mono (State.pulse_latch (by decide) hm)⟩
  · rw [State.settle_shd, State.pulse_shd]; rfl
  · rw [State.settle_shd, State.pulse_shd]; rfl

/-- More than one make the word uncorrectable, once. -/
theorem shdPatrolRead_spoils (hslot : slot.toNat < shdSlots (pixCount s.board.member s.active))
    (hword : word.toNat < pixCount s.board.member s.active) (hnew : word.toNat ∉ (sget ShdSet.reset slot.toNat s.shd.slots).bad) :
    ∃ t, exec (.shdPatrolRead tm slot word 2) s = .next t ∧ t.shd.uncorr = min 0xFFFF (s.shd.uncorr + 1) ∧
      word.toNat ∈ (sget ShdSet.reset slot.toNat t.shd.slots).bad ∧ (s.mode.mode ≠ .boot → t.ev.latch.getLsbD 81 = true) := by
  have he : exec (.shdPatrolRead tm slot word 2) s = .next ((s.atTime tm).shdEcc slot.toNat word.toNat 2).settle :=
    exec_shdPatrolRead hslot hword
  obtain ⟨ls, hecc⟩ := (s.atTime tm).shdEcc_two hnew
  rw [hecc] at he
  refine ⟨_, he, ?_, ?_, fun hm => State.settle_latch_mono (State.pulse_latch (by decide) hm)⟩
  · rw [State.settle_shd, State.pulse_shd]; rfl
  · rw [State.settle_shd, State.pulse_shd]
    exact State.mem_wordSpoiled ..

end

/-! ## Calibrations (R234, R569) -/

theorem shdCalSettleEnd_darkens {c : ShdCal} {u : Nat} (hc : s.shd.cal = some c) (hstep : c.step = .settle) (hu : c.until_ = some u)
    (hdue : u ≤ max s.now tm) :
    ∃ t c', exec (.shdCalSettleEnd tm) s = .next t ∧ t.shd.cal = some c' ∧ c'.step = .dark ∧ c'.left = 576 ∧ t.ilm.dark = true := by
  have he : exec (.shdCalSettleEnd tm) s = execShdCalSettleEnd tm s := rfl
  have hdue' : u ≤ (s.atTime tm).now := hdue
  unfold execShdCalSettleEnd at he
  simp only [State.atTime_shd, hc, hstep, hu, hdue', decide_true, BEq.rfl, Bool.and_self, if_true, State.out_eq] at he
  refine ⟨_, { c with step := .dark, until_ := none, left := 576, sums := [], tagSum := [], tagN := 0 }, he, ?_, rfl, rfl, ?_⟩
  · rw [State.settle_shd]
    simp [State.shdDark, State.setCal, State.setShd, hc]
  · rw [State.settle_ilm]; rfl

/-- The run of ALN_CALIBRATE is over. -/
def State.alnCalOver (s : State) : State := { s with aln := { s.aln with cal := none } }

theorem alnCalibrateTimeout_fails {c : AlnCal} {x : RunCmd} (hc : s.aln.cal = some c) (hdue : c.deadline ≤ max s.now tm)
    (hx : (s.ctx c.ctx).cur = some x) (hcpl : x.noCpl = false) :
    ∃ t e, exec (.alnCalibrateTimeout tm) s = .next t ∧ t.aln.cal = none ∧ (t.ctx c.ctx).ending = some e ∧ e.state = .failed ∧
      e.result = BitVec.ofNat 8 cTimeout := by
  have hdue' : c.deadline ≤ (s.atTime tm).now := hdue
  have hcur : ((s.atTime tm).alnCalOver.ctx c.ctx).cur = some x := hx
  have hout : (s.atTime tm).alnOut cTimeout [] = (s.atTime tm).alnCalOver.finish c.ctx .failed cTimeout (le 1 0) [] := by
    unfold State.alnOut
    rw [State.atTime_aln, hc]
    rfl
  have he : exec (.alnCalibrateTimeout tm) s = execAlnCalibrateTimeout tm s := rfl
  unfold execAlnCalibrateTimeout at he
  simp only [State.atTime_aln, hc, hdue', if_true, State.out_eq, hout] at he
  refine ⟨_, { opcode := x.opcode, seq := x.seq, state := .failed, result := BitVec.ofNat 8 cTimeout, rlen := 0,
               data := padTo 48 0 (le 1 0), noCpl := false }, he, ?_, ?_, rfl, rfl⟩
  · rw [State.settle_aln, State.finish_aln]; rfl
  · rw [State.settle_ctx, State.finish_of_entry _ _ _ hcur hcpl, State.ctx_setCtx_self]

/-! ## The completion of a line (R255) -/

/-- The oldest line that has started is marked as complete (R255). -/
def State.lineDone (r : LineRec) (s : State) : State := s.setLine r.tag.seq (fun x => { x with done := true })

/-- A limit of R245 that acts in the line is counted. -/
def State.clampNoted (r : LineRec) (s : State) : State :=
  if r.clamped s.board.member then
    ({ s with aln := { s.aln with clamped := true, clampCnt := satAdd 0xFFFF s.aln.clampCnt 1 } } : State).pulse 84
  else s

theorem exec_stitchedLineComplete {late poison : Bool} {r : LineRec} (hr : s.nextStitch = some r) :
    exec (.stitchedLineComplete tm late poison) s =
      .next ((((((((s.atTime tm).lineDone r).clampNoted r).shdCalLine r).alnCalLine r).tapLine r).stitch r late poison).trimLines
        r).settle := by
  have he : exec (.stitchedLineComplete tm late poison) s = execStitchedLineComplete tm late poison s := rfl
  have hr' : (s.atTime tm).nextStitch = some r := hr
  unfold execStitchedLineComplete at he
  simp only [hr'] at he
  exact he

theorem State.nextStitch_mem {r : LineRec} (hr : s.nextStitch = some r) : r ∈ s.lines := by
  unfold State.nextStitch at hr
  split at hr
  · cases hr
  · rename_i x hx
    split at hr
    · rw [← Option.some.inj hr]; exact List.mem_of_find?_eq_some hx
    · cases hr

theorem State.mem_lineDone {r : LineRec} (hr : r ∈ s.lines) : { r with done := true } ∈ (s.lineDone r).lines :=
  List.mem_map.2 ⟨r, hr, if_pos BEq.rfl⟩

theorem State.clampNoted_lines (r : LineRec) (s : State) : (s.clampNoted r).lines = s.lines := by
  unfold State.clampNoted
  split
  · rw [State.pulse_lines]
  · rfl

theorem State.clampNoted_count {r : LineRec} (hr : r.clamped s.board.member = true) :
    (s.clampNoted r).aln.clampCnt = min 0xFFFF (s.aln.clampCnt + 1) := by
  unfold State.clampNoted
  rw [if_pos hr, State.pulse_aln]
  rfl

/-- The line that has completed stays in the record as long as later lines may need it. -/
theorem State.mem_trimLines {r x : LineRec} (hx : x ∈ s.lines) (hcap : x.cap = r.cap) : x ∈ (s.trimLines r).lines := by
  refine List.mem_filter.2 ⟨hx, ?_⟩
  simp [hcap]

theorem stitchedLineComplete_completes {late poison : Bool} {r : LineRec} (hr : s.nextStitch = some r) :
    ∃ t x, exec (.stitchedLineComplete tm late poison) s = .next t ∧ x ∈ t.lines ∧ x.tag.seq = r.tag.seq ∧ x.done = true ∧
      (r.clamped s.board.member = true → t.aln.clampCnt = min 0xFFFF (s.aln.clampCnt + 1)) := by
  obtain ⟨hlines, hcount⟩ :=
    (((State.SparesLines.of_shdCalLine (s := ((s.atTime tm).lineDone r).clampNoted r) r).trans
      (.of_alnCalLine r)).trans (.of_tapLine r)).trans (.of_stitch r late poison)
  refine ⟨_, { r with done := true }, exec_stitchedLineComplete hr, ?_, rfl, rfl, fun hc => ?_⟩
  · rw [State.settle_lines]
    refine State.mem_trimLines ?_ rfl
    rw [hlines, State.clampNoted_lines]
    exact State.mem_lineDone (State.nextStitch_mem hr)
  · rw [State.settle_aln]
    exact hcount.trans (State.clampNoted_count hc)

end

/-- Settles O39, event by event. -/
theorem correctionEventsComplete : Obligations.CorrectionEventsComplete := by
  intro tm s
  refine ⟨?_, fun slot word hslot hword => ⟨shdPatrolRead_corrects hslot hword, shdPatrolRead_spoils hslot hword⟩,
    fun c u hc hstep hu hdue => shdCalSettleEnd_darkens hc hstep hu hdue,
    fun c x hc hdue hx hcpl => alnCalibrateTimeout_fails hc hdue hx hcpl, fun late poison r hr => stitchedLineComplete_completes hr⟩
  obtain ⟨t, he, hfilters⟩ := zoneTempUpdate_filters (tm := tm) (s := s)
  refine ⟨t, he, fun z j hz hj => ?_⟩
  rw [hfilters z j hz hj, State.followInput]
  exact ⟨fun v hv => by rw [hv]; exact ⟨rfl, rfl⟩, fun hv => by rw [hv]; exact ⟨rfl, rfl⟩⟩

end Sys2Proof.Machine
end

section
/-! PROOFS. The stagings of the Alignment and Services families, of the service bypass and of the diagnostic tap (R247, R263, R265, R293,
R297, R301, R305, R307, R626, R627). -/

namespace Sys2Proof.Machine

/-! ## What the checks of these stagings read -/

section
variable (h : Hdr) (op : Nat) (s : State)

@[simp] theorem State.received_sv : (s.received h op).sv = s.sv := State.fetched_sv ..

@[simp] theorem State.received_alnFault (t : Tables) : (s.received h op).alnFault t = s.alnFault t := by
  simp only [State.alnFault, State.received_board, State.received_mode, State.received_active]

@[simp] theorem State.received_ringNeed (t : Tables) : (s.received h op).ringNeed t = s.ringNeed t := by
  simp only [State.ringNeed, State.received_sv]

@[simp] theorem State.received_fitsRing (t : Tables) : (s.received h op).fitsRing t = s.fitsRing t := by
  simp only [State.fitsRing, State.received_hasRing, State.received_ringNeed, State.received_ring]

end

section
variable {h : Hdr} {s : State}

/-! ## Alignment, colour transform and product (R247, R263, R265) -/

theorem xformStage_completes {xs : List Int} (ha : s.accepts h [.s] = true) (hp : h.plen = 40) (hl : s.locked [0x0501] = false)
    (hxs : xs = (chunks 2 20 (s.payload h)).map (fun b => signed 16 (leVal b))) :
    ∃ t, exec (.xformStage h) s = .next t ∧
      State.Stages h 0x0501 0x0501 [] { s.shadow with xform := { m := xs.take 16, o := xs.drop 16 } } s t := by
  refine staging_completes (f := fun t => { t with xform := { m := xs.take 16, o := xs.drop 16 } }) rfl ha (by simp [hp]) rfl hl ?_
  dsimp only
  rw [State.received_payload, ← hxs]

/-- A part of the alignment table completes where its reserved bits are 0 and the table with it passes R247 to R249. -/
theorem alnTableStage_completes {stagger : BitVec 16} {firstPort count : BitVec 8} {es : List (AlnEntry × Bool)} {f : Tables → Tables}
    (ha : s.accepts h [.s] = true) (hp : h.plen.toNat = 16 * count.toNat) (hl : s.locked [0x0500] = false)
    (hstagger : stagger.toNat ≤ 1024) (hports : firstPort.toNat + count.toNat ≤ s.board.member.ports)
    (hes : es = (chunks 16 count.toNat (s.payload h)).map (fun b => alnEntryOf (leVal b)))
    (hf : f = fun t => { t with
      stagger := stagger.toNat,
      aln := es.zipIdx.foldl (fun m x => sset AlnEntry.reset (firstPort.toNat + x.2) x.1.1 m) t.aln })
    (hok : es.all (·.2) = true) (hc : s.alnFault (f s.shadowView) = none) :
    ∃ t, exec (.alnTableStage h stagger firstPort count) s = .next t ∧ State.Stages h 0x0500 0x0500 [] (f s.shadow) s t := by
  refine staging_completes rfl ha hp (by simp [hstagger, hports]) hl ?_
  subst hf
  dsimp only at hc ⊢
  rw [State.received_payload, ← hes, if_neg (by simp [hok]), State.received_shadowView, State.received_alnFault, hc]

/-- A product completes where its lines fit the ring line in force; one without pixels needs no queue (R264, R265, R652). -/
theorem productStage_completes {pf chMask : BitVec 8} {firstCol count : BitVec 32} {queue : BitVec 16} {x : Product}
    (ha : s.accepts h [.s] = true) (hp : h.plen = 0) (hl : s.locked [0x0502] = false) (hpf : pf.toNat ≤ 3) (hmask : chMask.toNat < 16)
    (hqueue : count ≠ 0 → isProductQueue queue.toNat = true)
    (hx : x = { pf := pf, chMask := chMask, firstCol := firstCol.toNat, count := count.toNat, queue := queue.toNat })
    (hfits : s.fitsRing { s.shadowView with product := x } = true) :
    ∃ t, exec (.productStage h pf chMask firstCol count queue) s = .next t ∧
      State.Stages h 0x0502 0x0502 [] { s.shadow with product := x } s t := by
  refine staging_completes (f := fun t => { t with product := x }) rfl ha (by simp [hp])
    (by simpa [hpf, hmask] using or_iff_not_imp_left.2 hqueue) hl ?_
  dsimp only
  rw [State.received_fitsRing, State.received_shadowView, ← hx, if_pos hfits]

/-! ## The services' tables (R293, R297, R301, R305, R307) -/

theorem svSieveStage_completes {nclass nregion : BitVec 8} {flagMad : BitVec 16} {cs : List (SieveClass × Bool)}
    {rs : List (SieveRegion × Bool)} (ha : s.accepts h [.s] = true) (hp : h.plen.toNat = 8 * nclass.toNat + 20 * nregion.toNat)
    (hl : s.locked [0x0604] = false) (hclass : nclass.toNat ≤ 16) (hmad : flagMad.toNat ≤ 1020)
    (hcs : cs = (chunks 8 nclass.toNat (s.payload h)).map sieveClassOf)
    (hrs : rs = (chunks 20 nregion.toNat ((s.payload h).drop (8 * nclass.toNat))).map sieveRegionOf)
    (hcok : cs.all (·.2) = true) (hrok : rs.all (·.2) = true) :
    ∃ t, exec (.svSieveStage h nclass nregion flagMad) s = .next t ∧ State.Stages h 0x0604 0x0604 []
      { s.shadow with sv := { s.shadow.sv with
          sieve := { classes := cs.map (·.1), regions := rs.map (·.1), flagMad := flagMad.toNat } } } s t := by
  refine staging_completes (f := fun t => { t with sv := { t.sv with
      sieve := { classes := cs.map (·.1), regions := rs.map (·.1), flagMad := flagMad.toNat } } })
    rfl ha hp (by simp [hclass, hmad]) hl ?_
  dsimp only
  rw [State.received_payload, ← hcs, ← hrs, if_pos (by simp [hcok, hrok])]

theorem svTongsStage_completes {nwin ngroup : BitVec 8} {ws : List (TongsWin × Bool)} {gs : List (TongsGroup × Bool)}
    (ha : s.accepts h [.s] = true) (hp : h.plen.toNat = 40 * nwin.toNat + 8 * ngroup.toNat) (hl : s.locked [0x0605] = false)
    (hwin : nwin.toNat ≤ 64) (hgroup : ngroup.toNat ≤ 16)
    (hws : ws = (chunks 40 nwin.toNat (s.payload h)).map (tongsWinOf (ryOf s.board)))
    (hgs : gs = (chunks 8 ngroup.toNat ((s.payload h).drop (40 * nwin.toNat))).map tongsGroupOf)
    (hwok : ws.all (·.2) = true) (hgok : gs.all (·.2) = true) (hok : groupsOk (ws.map (·.1)) (gs.map (·.1)) = true) :
    ∃ t, exec (.svTongsStage h nwin ngroup) s = .next t ∧ State.Stages h 0x0605 0x0605 []
      { s.shadow with sv := { s.shadow.sv with tongs := { wins := ws.map (·.1), groups := gs.map (·.1) } } } s t := by
  refine staging_completes (f := fun t => { t with sv := { t.sv with tongs := { wins := ws.map (·.1), groups := gs.map (·.1) } } })
    rfl ha hp (by simp [hwin, hgroup]) hl ?_
  dsimp only
  rw [State.received_payload, State.received_board, ← hws, ← hgs, if_pos (by simp only [hwok, hgok, hok, Bool.and_self])]

theorem svLadleStage_completes {nstrip : BitVec 8} {xs : List (LadleStrip × Bool)} (ha : s.accepts h [.s] = true)
    (hp : h.plen.toNat = 36 * nstrip.toNat) (hl : s.locked [0x0606] = false) (hstrip : nstrip.toNat ≤ 8)
    (hxs : xs = (chunks 36 nstrip.toNat (s.payload h)).map ladleStripOf) (hok : xs.all (·.2) = true) :
    ∃ t, exec (.svLadleStage h nstrip) s = .next t ∧
      State.Stages h 0x0606 0x0606 [] { s.shadow with sv := { s.shadow.sv with ladle := xs.map (·.1) } } s t := by
  refine staging_completes (f := fun t => { t with sv := { t.sv with ladle := xs.map (·.1) } })
    rfl ha hp (by simp [hstrip]) hl ?_
  dsimp only
  rw [State.received_payload, ← hxs, if_pos hok]

/-- A preview staged without quantisation tables keeps the ones it has (R305). -/
theorem svPreviewStage_completes {colour pvCh qt : BitVec 8} (ha : s.accepts h [.s] = true)
    (hp : h.plen.toNat = (if qt = 1 then 128 else 0)) (hl : s.locked [0x0607] = false) (hcolour : colour.toNat ≤ 1)
    (hch : pvCh.toNat ≤ 3) (hqt : qt.toNat ≤ 1) :
    ∃ t, exec (.svPreviewStage h colour pvCh qt) s = .next t ∧ State.Stages h 0x0607 0x0607 []
      { s.shadow with sv := { s.shadow.sv with preview :=
          { colour := colour == 1, pvCh := pvCh.toNat, qt := if qt = 1 then some (s.payload h) else s.shadow.sv.preview.qt } } } s t := by
  refine staging_completes (f := fun t => { t with sv := { t.sv with preview :=
      { colour := colour == 1, pvCh := pvCh.toNat, qt := if qt = 1 then some (s.payload h) else t.sv.preview.qt } } })
    rfl ha hp (by simp [hcolour, hch, hqt]) hl ?_
  dsimp only
  rw [State.received_payload]

/-- Crops in range complete where their lines fit the ring line in force (R307, R652). -/
theorem svCropStage_completes {ncrop : BitVec 8} {xs : List (CropReq × Bool)} {f : Tables → Tables} (ha : s.accepts h [.s] = true)
    (hp : h.plen.toNat = 20 * ncrop.toNat) (hl : s.locked [0x0608] = false) (hcrop : ncrop.toNat ≤ 16)
    (hxs : xs = (chunks 20 ncrop.toNat (s.payload h)).map cropOf) (hok : xs.all (·.2) = true)
    (hf : f = fun t => { t with sv := { t.sv with crops := xs.map (·.1) } }) (hfits : s.fitsRing (f s.shadowView) = true) :
    ∃ t, exec (.svCropStage h ncrop) s = .next t ∧ State.Stages h 0x0608 0x0608 [] (f s.shadow) s t := by
  refine staging_completes rfl ha hp (by simp [hcrop]) hl ?_
  subst hf
  dsimp only at hfits ⊢
  rw [State.received_payload, ← hxs, if_neg (by simp [hok]), State.received_fitsRing, State.received_shadowView, if_pos hfits]

/-! ## The service bypass and the diagnostic tap (R626, R627) -/

theorem diagSvBypass_completes {mask : BitVec 8} (ha : s.accepts h [.s] = true) (hp : h.plen = 0) (hl : s.locked [0x0F01] = false)
    (hmask : mask.toNat < 32) :
    ∃ t, exec (.diagSvBypass h mask) s = .next t ∧ State.Stages h 0x0F01 0x0F01 []
      { s.shadow with sv := { s.shadow.sv with bypass := mask.extractLsb' 0 5 } } s t :=
  staging_completes (f := fun t => { t with sv := { t.sv with bypass := mask.extractLsb' 0 5 } })
    rfl ha (by simp [hp]) (by simp [hmask]) hl rfl

/-- Taking the tap off always completes; putting it on a port does where no job enables Preview or Crop (R581, R627). -/
theorem diagTapStage_completes {port : BitVec 8} {queue : BitVec 16} (ha : s.accepts h [.s] = true) (hp : h.plen = 0)
    (hl : s.locked [0x0F00] = false)
    (hrange : port = 0xFF ∨ (port.toNat < s.board.member.ports ∧ isProductQueue queue.toNat = true))
    (hfree : ∀ j, s.sv.job = some j → port ≠ 0xFF → j.en.getLsbD 3 = false ∧ j.en.getLsbD 4 = false) :
    ∃ t, exec (.diagTapStage h port queue) s = .next t ∧
      State.Stages h 0x0F00 0x0F00 [] { s.shadow with diagPort := port.toNat, diagQ := queue.toNat } s t := by
  refine staging_completes (f := fun t => { t with diagPort := port.toNat, diagQ := queue.toNat })
    rfl ha (by simp [hp]) (by simpa using hrange) hl ?_
  dsimp only
  rw [State.received_sv]
  by_cases hoff : port = 0xFF
  · split
    · exact if_neg (by simp [hoff])
    · rfl
  · cases hj : s.sv.job with
    | none => rfl
    | some j =>
      obtain ⟨hpreview, hcrop⟩ := hfree j hj hoff
      simp only [hpreview, hcrop, Bool.false_eq_true, if_false]

end

/-- Settles O10, staging by staging. -/
theorem productAndServiceStagingsComplete : Obligations.ProductAndServiceStagingsComplete := fun _ _ ha =>
  ⟨fun _ hp hl hxs => xformStage_completes ha hp hl hxs,
    fun _ _ _ _ _ hp hl hstagger hports hes hf hok hc => alnTableStage_completes ha hp hl hstagger hports hes hf hok hc,
    fun _ _ _ _ _ _ hp hl hpf hmask hqueue hx hfits => productStage_completes ha hp hl hpf hmask hqueue hx hfits,
    fun _ _ _ _ _ hp hl hclass hmad hcs hrs hcok hrok => svSieveStage_completes ha hp hl hclass hmad hcs hrs hcok hrok,
    fun _ _ _ _ hp hl hwin hgroup hws hgs hwok hgok hok => svTongsStage_completes ha hp hl hwin hgroup hws hgs hwok hgok hok,
    fun _ _ hp hl hstrip hxs hok => svLadleStage_completes ha hp hl hstrip hxs hok,
    fun _ _ _ hp hl hcolour hch hqt => svPreviewStage_completes ha hp hl hcolour hch hqt,
    fun _ _ _ hp hl hcrop hxs hok hf hfits => svCropStage_completes ha hp hl hcrop hxs hok hf hfits,
    fun _ hp hl hmask => diagSvBypass_completes ha hp hl hmask,
    fun _ _ hp hl hrange hfree => diagTapStage_completes ha hp hl hrange hfree⟩

end Sys2Proof.Machine
end

section
/-! PROOFS. The events of the inspection services (R273, R279, R284, R285, R312, R317, R318, R443, R472). -/

namespace Sys2Proof.Machine

/-! ## Records in the result queues (R312, R494) -/

/-- A push changes nothing but Pantry and the count of free values taken. -/
theorem State.push_shape {n : Nat} {bs : List Byte} {s t : State} (h : s.push n bs = some t) :
    ∃ p f, t = { s with pantry := p, fresh := f } := by
  unfold State.push at h
  dsimp only at h
  split_ifs at h
  · exact ⟨_, _, (Option.some.inj h).symm⟩
  · exact ⟨_, _, (Option.some.inj h).symm⟩
  · exact ⟨_, _, (Option.some.inj h).symm⟩

theorem State.pushItems_shape (n : Nat) (l : List (List Byte)) (s : State) :
    ∃ p f, s.pushItems n l = { s with pantry := p, fresh := f } := by
  induction l generalizing s with
  | nil => exact ⟨_, _, rfl⟩
  | cons b l ih =>
    unfold State.pushItems
    split
    · split
      · rename_i t ht
        obtain ⟨p, f, rfl⟩ := State.push_shape ht
        obtain ⟨_, _, e⟩ := ih { s with pantry := p, fresh := f }
        exact ⟨_, _, e⟩
      · exact ⟨_, _, rfl⟩
    · exact ⟨_, _, rfl⟩

theorem State.svRecord_shape (k : Nat) (bs : List Byte) (s : State) :
    ∃ p f, s.svRecord k bs = { s with pantry := p, fresh := f } := by
  unfold State.svRecord
  split
  · exact State.pushItems_shape ..
  · exact ⟨_, _, rfl⟩

@[simp] theorem State.svRecord_sv (k : Nat) (bs : List Byte) (s : State) : (s.svRecord k bs).sv = s.sv := by
  obtain ⟨_, _, e⟩ := s.svRecord_shape k bs; rw [e]

/-! ## The job and its pages -/

@[simp] theorem State.setJob_job (f : Job → Job) (s : State) : (s.setJob f).sv.job = s.sv.job.map f := rfl

theorem State.setJob_ctx (f : Job → Job) (n : Nat) (s : State) : (s.setJob f).ctx n = s.ctx n := rfl

theorem State.svPage_seq {k : Nat} {p : SvPage} {s : State} (h : s.svPage k = some p) : p.seq = k := by
  obtain ⟨j, -, hp⟩ := Option.bind_eq_some_iff.1 h
  simpa using List.find?_some hp

theorem State.svPage_mem {k : Nat} {p : SvPage} {s : State} (h : s.svPage k = some p) : ∃ j, s.sv.job = some j ∧ p ∈ j.pages := by
  obtain ⟨j, hj, hp⟩ := Option.bind_eq_some_iff.1 h
  exact ⟨j, hj, List.mem_of_find?_eq_some hp⟩

theorem State.svPage_congr {s t : State} (h : t.sv.job = s.sv.job) (k : Nat) : t.svPage k = s.svPage k := by
  unfold State.svPage; rw [h]

/-- A change that leaves a page its number is seen under that number alone. -/
theorem State.svPage_setPage {k : Nat} {f : SvPage → SvPage} (hf : ∀ p, p.seq = k → (f p).seq = k) (m : Nat) (s : State) :
    (s.setPage k f).svPage m = (s.svPage m).map (fun p => if m = k then f p else p) := by
  have hseq (p : SvPage) : (if p.seq == k then f p else p).seq = p.seq := by
    split
    · rename_i e; rw [hf p (beq_iff_eq.1 e), beq_iff_eq.1 e]
    · rfl
  unfold State.svPage State.setPage
  rw [State.setJob_job]
  cases s.sv.job with
  | none => rfl
  | some j =>
    simp only [Option.map_some, Option.bind_some, List.find?_map, Function.comp_def, hseq]
    cases e : j.pages.find? (fun p => p.seq == m) with
    | none => rfl
    | some p =>
      have hp : p.seq = m := by simpa using List.find?_some e
      simp only [Option.map_some, beq_iff_eq, hp]

/-- The page found under a number, changed. -/
theorem State.svPage_setPage_self {k : Nat} {f : SvPage → SvPage} {p : SvPage} {s : State} (hf : ∀ p, (f p).seq = p.seq)
    (hp : s.svPage k = some p) : (s.setPage p.seq f).svPage k = some (f p) := by
  rw [State.svPage_seq hp, State.svPage_setPage (fun p hk => (hf p).trans hk), hp, Option.map_some, if_pos rfl]

/-- A unit that is dispatched changes neither the number of its page nor the units that are over. -/
theorem SvPage.begin_units (g : PageView) (ref : Option RefView) (stage : Nat) (unit : SvUnit) (p : SvPage) :
    (p.begin_ g ref stage unit).seq = p.seq ∧ (p.begin_ g ref stage unit).finished = p.finished ∧
      (p.begin_ g ref stage unit).lost = p.lost := by
  cases unit with
  | tile pg tx ty => exact ⟨rfl, rfl, rfl⟩
  | window pg i => exact ⟨rfl, rfl, rfl⟩
  | patch pg k i => exact ⟨rfl, rfl, rfl⟩
  | mcuRow pg r => exact ⟨rfl, rfl, rfl⟩

/-- Every page of the job stays there under its number, with the same units finished and the same units lost. -/
structure State.SparesUnits (s t : State) : Prop where
  page : ∀ {k p}, s.svPage k = some p → ∃ q, t.svPage k = some q ∧ q.finished = p.finished ∧ q.lost = p.lost

namespace State.SparesUnits

variable {s t u : State}

theorem refl (s : State) : s.SparesUnits s := ⟨fun h => ⟨_, h, rfl, rfl⟩⟩

theorem trans (h : s.SparesUnits t) (g : t.SparesUnits u) : s.SparesUnits u := ⟨fun hp => by
  obtain ⟨q, hq, hf, hl⟩ := h.page hp
  obtain ⟨r, hr, hf', hl'⟩ := g.page hq
  exact ⟨r, hr, hf'.trans hf, hl'.trans hl⟩⟩

theorem ite {c : Prop} [Decidable c] (ht : s.SparesUnits t) (hu : s.SparesUnits u) : s.SparesUnits (if c then t else u) := by
  split
  · exact ht
  · exact hu

/-- A pass of such operations is one. -/
theorem foldl {α : Type} {f : State → α → State} (hf : ∀ (s : State) (x : α), s.SparesUnits (f s x)) (l : List α) (s : State) :
    s.SparesUnits (l.foldl f s) :=
  List.foldlRecOn l f (refl s) fun _ ht x _ => ht.trans (hf _ x)

/-- Whatever leaves the job alone. -/
theorem of_job (h : t.sv.job = s.sv.job) : s.SparesUnits t :=
  ⟨fun {k p} hp => ⟨p, (State.svPage_congr h k).trans hp, rfl, rfl⟩⟩

theorem of_svRecord (k : Nat) (bs : List Byte) : s.SparesUnits (s.svRecord k bs) := of_job (by rw [State.svRecord_sv])

theorem of_pulseIf (b : Bool) (i : Nat) : s.SparesUnits (s.pulseIf b i) := of_job (by rw [State.pulseIf_sv])

/-- Another page in the place of the one found under its number. -/
theorem of_replacePage {k : Nat} {f : SvPage → SvPage} (hseq : ∀ p, p.seq = k → (f p).seq = k)
    (hunits : ∀ p, s.svPage k = some p → (f p).finished = p.finished ∧ (f p).lost = p.lost) : s.SparesUnits (s.setPage k f) := by
  refine ⟨fun {m p} hp => ⟨_, by rw [State.svPage_setPage hseq, hp]; rfl, ?_⟩⟩
  split
  · rename_i e; exact hunits p (e ▸ hp)
  · exact ⟨rfl, rfl⟩

theorem of_setPage {k : Nat} {f : SvPage → SvPage}
    (hf : ∀ p, (f p).seq = p.seq ∧ (f p).finished = p.finished ∧ (f p).lost = p.lost := by exact fun _ => ⟨rfl, rfl, rfl⟩) :
    s.SparesUnits (s.setPage k f) :=
  of_replacePage (fun p hp => (hf p).1.trans hp) fun p _ => (hf p).2

/-! ### The progress of the services on a page (R294 to R306, R312) -/

theorem of_svSet (pg k : Nat) (x : SvProg) : s.SparesUnits (s.svSet pg k x) := of_setPage

theorem of_svPart (pg k : Nat) : s.SparesUnits (s.svPart pg k) := by
  unfold State.svPart
  split
  · exact (of_setPage).trans (of_pulseIf ..)
  · exact refl s

theorem of_defect (pg : Nat) (b : List OverPix) : s.SparesUnits (s.defect pg b) := by
  unfold State.defect
  split
  · exact refl s
  · exact (of_setPage).trans (ite (of_svRecord ..) (of_pulseIf ..))

theorem of_emitBlobs (pg row rows : Nat) : s.SparesUnits (s.emitBlobs pg row rows) := by
  unfold State.emitBlobs
  split
  · split
    · exact refl s
    · exact foldl (fun _ b => of_defect pg b) _ s
  · exact refl s

theorem of_judge (pg : Nat) : s.SparesUnits (s.judge pg) := by
  have hjudged : s.SparesUnits (s.setPage pg (fun p => { p with judged := true })) := of_setPage
  unfold State.judge
  split
  · exact ite (refl s) (ite (hjudged.trans (of_job rfl)) hjudged)
  · exact refl s

theorem of_ladleOut (pg : Nat) (last : Bool) : s.SparesUnits (s.ladleOut pg last) := by
  have hfree (s : State) : s.SparesUnits (s.free 48).2 := of_job rfl
  unfold State.ladleOut
  split
  · refine foldl (fun s t => ?_) _ s
    split
    · exact refl s
    · exact trans (foldl (fun s _ => (hfree s).trans ((of_setPage).trans (of_svRecord ..))) _ s)
        of_setPage
  · exact refl s

theorem of_sieveRows (pg n : Nat) : s.SparesUnits (s.sieveRows pg n) := by
  induction n generalizing s with
  | zero => exact refl s
  | succ n ih =>
    unfold State.sieveRows
    split
    · exact ite (((of_setPage).trans (ite (refl _) (of_emitBlobs ..))).trans ih) (refl s)
    · exact refl s

theorem of_sieveGo (pg : Nat) : s.SparesUnits (s.sieveGo pg) := by
  unfold State.sieveGo
  split
  · rename_i j p _ _
    have hrows : s.SparesUnits (s.sieveRows pg ((j.view s.board p).tilesY + 1)) := of_sieveRows ..
    refine ite (refl s) ?_
    dsimp only
    split
    · exact ite (((hrows.trans (ite (refl _) (of_emitBlobs ..))).trans (of_svSet ..)).trans (of_judge pg)) hrows
    · exact hrows
  · exact refl s

theorem of_tongsGo (pg : Nat) : s.SparesUnits (s.tongsGo pg) := by
  unfold State.tongsGo
  split
  · exact ite (refl s) ((foldl (fun s w => ite (refl s) (of_svRecord ..)) _ s).trans (of_svSet ..))
  · exact refl s

theorem of_ladleGo (pg : Nat) : s.SparesUnits (s.ladleGo pg) := by
  unfold State.ladleGo
  split
  · exact ite (refl s) ((of_ladleOut ..).trans (ite (of_svSet ..) (refl _)))
  · exact refl s

theorem of_previewGo (pg : Nat) : s.SparesUnits (s.previewGo pg) := by
  unfold State.previewGo
  split
  · exact ite ((of_svRecord ..).trans (of_svSet ..)) (refl s)
  · exact refl s

theorem of_cropGo (pg : Nat) : s.SparesUnits (s.cropGo pg) := by
  unfold State.cropGo
  split
  · exact ite (of_svSet ..) (refl s)
  · exact refl s

theorem of_svAdvance : s.SparesUnits s.svAdvance := by
  unfold State.svAdvance
  split
  · exact foldl (fun s k => ((((of_tongsGo k).trans (of_sieveGo k)).trans (of_ladleGo k)).trans (of_previewGo k)).trans (of_cropGo k)) _ s
  · exact refl s

/-! ### Dispatch (R310, R311, R443) -/

theorem of_unitIo (g : PageView) (p : SvPage) (v : SvUnit) : s.SparesUnits (s.unitIo g p v) := by
  have hband (r : RefSub) (ty : Nat) (m : Int) : s.SparesUnits (s.bandFetch r ty m) := by
    unfold State.bandFetch
    split
    · exact refl s
    · exact of_job rfl
  unfold State.unitIo
  cases v with
  | tile pg tx ty =>
    dsimp only
    split
    · exact refl s
    · exact (ite (hband ..) (refl s)).trans (of_job rfl)
  | window pg i => exact of_job rfl
  | patch pg k i => exact of_job rfl
  | mcuRow pg r => exact of_job rfl

theorem of_svStart {v : SvUnit} (h : s.svStart v = some t) : s.SparesUnits t := by
  unfold State.svStart at h
  split at h
  · rename_i j p hj hp
    dsimp only at h
    split at h
    · have hpage (q : SvPage) (m : Simmer) (hq : q.seq = p.seq ∧ q.finished = p.finished ∧ q.lost = p.lost) :
          s.SparesUnits { s.setPage (unitPage v) (fun _ => q) with simmer := m } := by
        refine .trans (of_replacePage (fun _ _ => hq.1.trans (State.svPage_seq hp)) fun r hr => ?_) (of_job rfl)
        rw [← Option.some.inj (hp.symm.trans hr)]
        exact hq.2
      rw [← Option.some.inj h]
      refine .trans (hpage _ _ ?_) (of_unitIo ..)
      exact p.begin_units (j.view s.board p) (p.ref.map (fun r => s.refView r)) s.simmer.stage v
    · cases h
  · rw [← Option.some.inj h]; exact refl s

theorem of_svDispatch : s.SparesUnits s.svDispatch := by
  refine ite (refl s) (List.foldlRecOn (motive := fun r : State × Bool => s.SparesUnits r.1) _ _ (refl s) fun r hr v _ => ?_)
  split
  · exact hr
  · split
    · rename_i t ht; exact hr.trans (of_svStart ht)
    · exact hr

end State.SparesUnits

/-! ## The end of a unit (R443, R472) -/

section
variable {unit : SvUnit} {p : SvPage} {tm : Nat} {s : State}

/-- A page on which one more unit is finished. -/
def SvPage.withFinished (unit : SvUnit) (p : SvPage) : SvPage := { p with finished := p.finished ++ [unit] }

/-- A page on which one more unit is lost. -/
def SvPage.withLost (unit : SvUnit) (p : SvPage) : SvPage := { p with lost := p.lost ++ [unit] }

/-- Beside the note of the unit, its completion leaves only the mark of a window and its record. -/
theorem State.svDone_spares (hp : s.svPage (unitPage unit) = some p) :
    (s.setPage p.seq (SvPage.withFinished unit)).SparesUnits (s.svDone unit) := by
  obtain ⟨j, hj, -⟩ := State.svPage_mem hp
  unfold State.svDone
  rw [hj, hp]
  cases unit with
  | window pg i =>
    dsimp only
    split
    · exact .trans (.trans .of_setPage (.of_svRecord ..)) (.of_pulseIf ..)
    · exact .refl _
  | tile pg tx ty => exact .refl _
  | patch pg k i => exact .refl _
  | mcuRow pg r => exact .refl _

/-- The unit as its completion leaves it: lost where its data were poisoned, else done (R472). -/
def State.unitOver (unit : SvUnit) (poison : Bool) (p : SvPage) (s : State) : State :=
  if poison = true then (s.setPage p.seq (SvPage.withLost unit)).svPart p.seq (unitService unit) else s.svDone unit

theorem State.unitOver_page (poison : Bool) (hp : s.svPage (unitPage unit) = some p) :
    ∃ q, (s.unitOver unit poison p).svPage (unitPage unit) = some q ∧
      if poison = true then unit ∈ q.lost else unit ∈ q.finished := by
  cases poison with
  | true =>
    obtain ⟨q, hq, -, hlost⟩ := (State.SparesUnits.of_svPart p.seq (unitService unit)).page
      (State.svPage_setPage_self (f := SvPage.withLost unit) (fun _ => rfl) hp)
    exact ⟨q, hq, hlost ▸ List.mem_append_right _ (List.mem_singleton_self unit)⟩
  | false =>
    obtain ⟨q, hq, hfinished, -⟩ := (State.svDone_spares hp).page
      (State.svPage_setPage_self (f := SvPage.withFinished unit) (fun _ => rfl) hp)
    exact ⟨q, hq, hfinished ▸ List.mem_append_right _ (List.mem_singleton_self unit)⟩

theorem exec_serviceUnitComplete (poison : Bool) (hp : s.svPage (unitPage unit) = some p) (hissued : unit ∈ p.issued)
    (hover : p.over unit = false) (hgoing : p.going (unitService unit) = true) :
    exec (.serviceUnitComplete tm unit poison) s =
      .next ((s.atTime tm).unitOver unit poison p).svAdvance.svDispatch.settle := by
  have he : exec (.serviceUnitComplete tm unit poison) s = execServiceUnitComplete tm unit poison s := rfl
  have hp' : (s.atTime tm).svPage (unitPage unit) = some p := hp
  rw [he]
  unfold execServiceUnitComplete
  simp only [hp', List.contains_iff_mem.2 hissued, hover, hgoing, Bool.not_true, Bool.or_self, Bool.false_eq_true, if_false]
  rfl

theorem serviceUnitComplete_ends (poison : Bool) (hp : s.svPage (unitPage unit) = some p) (hissued : unit ∈ p.issued)
    (hover : p.over unit = false) (hgoing : p.going (unitService unit) = true) :
    ∃ t j q, exec (.serviceUnitComplete tm unit poison) s = .next t ∧ t.sv.job = some j ∧ q ∈ j.pages ∧ q.seq = p.seq ∧
      (if poison = true then unit ∈ q.lost else unit ∈ q.finished) := by
  obtain ⟨q, hq, hunit⟩ := State.unitOver_page (s := s.atTime tm) poison hp
  obtain ⟨r, hr, hfinished, hlost⟩ := (State.SparesUnits.of_svAdvance.trans .of_svDispatch).page hq
  obtain ⟨j, hj, hmem⟩ := State.svPage_mem hr
  refine ⟨_, j, r, exec_serviceUnitComplete poison hp hissued hover hgoing, by rw [State.settle_sv, hj], hmem, ?_, ?_⟩
  · rw [State.svPage_seq hr, State.svPage_seq hp]
  · rwa [hlost, hfinished]

end

/-! ## Summaries and the chain (R279, R317) -/

/-- The job once the summary of its oldest page is in the queue whole (R317, R318). -/
def Job.summed (p : SvPage) (rest : List SvPage) (bs : List Byte) (j : Job) : Job :=
  { j with pages := rest, past := (j.past ++ [(p.seq, p.marks)]).drop (j.past.length - 15), chain := sha256 bs, pushed := some p.seq,
           count := j.count + 1, summing := none }

theorem State.svFinish_of_open {j : Job} {s : State} (hj : s.sv.job = some j) (hc : j.closing = false) : s.svFinish = s := by
  unfold State.svFinish
  rw [hj]
  exact if_pos (by simp [hc])

theorem State.svFinish_of_pages {j : Job} {s : State} (hj : s.sv.job = some j) (hpages : j.pages ≠ []) : s.svFinish = s := by
  unfold State.svFinish
  rw [hj]
  exact if_pos (by simp [hpages])

section
variable {s : State} {j : Job} {p : SvPage} {rest : List SvPage} {bs : List Byte}

theorem State.summaryDone_of_held (hj : s.sv.job = some j) (hs : j.summing = some bs) (hp : j.pages = p :: rest)
    (hheld : s.svHeld 5 = true) : s.summaryDone = s := by
  unfold State.summaryDone
  simp only [hj, hs, hp, hheld, if_true]

theorem State.summaryDone_job (hj : s.sv.job = some j) (hs : j.summing = some bs) (hp : j.pages = p :: rest)
    (hheld : s.svHeld 5 = false) (hc : j.closing = false) : s.summaryDone.sv.job = some (j.summed p rest bs) := by
  unfold State.summaryDone
  simp only [hj, hs, hp, hheld, Bool.false_eq_true, if_false]
  rw [State.svFinish_of_open (j := j.summed p rest bs) _ hc]
  all_goals
    change (s.setJob (Job.summed p rest bs)).sv.job = _
    rw [State.setJob_job, hj]
    rfl

/-- A summary goes into its queue (R317). -/
def State.summarise (bs : List Byte) (s : State) : State := (s.svRecord 5 bs).setJob (fun j => { j with summing := some bs })

theorem State.summarise_job (hj : s.sv.job = some j) : (s.summarise bs).sv.job = some { j with summing := some bs } := by
  unfold State.summarise
  rw [State.setJob_job, State.svRecord_sv, hj]
  rfl

theorem State.summarise_held (hj : s.sv.job = some j) : (s.summarise bs).svHeld 5 = (s.svRecord 5 bs).svHeld 5 := by
  have hj' : (s.svRecord 5 bs).sv.job = some j := by rw [State.svRecord_sv, hj]
  unfold State.svHeld
  rw [State.summarise_job hj, hj']
  rfl

end

/-- The oldest page is summarised once its services are over, its records are in their queues and the summary has room. -/
theorem exec_pageSummaryPush {tm : Nat} {s s1 : State} {j : Job} {p : SvPage} {rest : List SvPage} (hs1 : s1 = (s.atTime tm).svAdvance)
    (hj : s1.sv.job = some j) (hsum : j.summing = none) (hpages : j.pages = p :: rest) (hopen : p.isOpen = false)
    (hprog : ∀ x ∈ p.prog, x ≠ .going) (hheld : ∀ k ∈ [0, 1, 2, 5], s1.svHeld k = false)
    (hroom : s1.hasRoom (j.queues.getD 5 0) = true) :
    exec (.pageSummaryPush tm) s = .next (s1.summarise (summaryOf j (j.view s1.board p) p)).summaryDone.settle := by
  have he : exec (.pageSummaryPush tm) s = execPageSummaryPush tm s := rfl
  have hprog' : p.prog.any (· == SvProg.going) = false := by simpa using hprog
  have hheld' : [0, 1, 2, 5].any (fun k => s1.svHeld k) = false := by simpa using hheld
  rw [he]
  unfold execPageSummaryPush
  simp only [← hs1, hj, hsum, hpages, hopen, hprog', hheld', hroom, Bool.not_true, Bool.or_self, Bool.false_eq_true, if_false]
  rfl

/-! ## References (R284, R285) -/

/-- The reference of a page is replaced. -/
def Job.withRef (page : Nat) (f : RefSub → RefSub) (j : Job) : Job :=
  { j with refs := j.refs.map (fun x => if x.page == page then f x else x) }

theorem Job.mem_withRef {r : RefSub} {j : Job} (f : RefSub → RefSub) (h : r ∈ j.refs) : f r ∈ (j.withRef r.page f).refs :=
  List.mem_map.2 ⟨r, h, if_pos BEq.rfl⟩

/-- A reference decoded into a slot (R285). -/
def RefSub.decoded (w h id k : Nat) (x : RefSub) : RefSub :=
  { x with state := .decoded, pageId := id, width := w, height := h, slot := k }

/-- A reference found bad (R285). -/
def RefSub.spoiled (x : RefSub) : RefSub := { x with state := .bad }

/-- The submission of a reference ends with the reference replaced. -/
def State.refOver (r : RefSub) (f : RefSub → RefSub) (data : List Byte) (s : State) : State :=
  (s.setJob (Job.withRef r.page f)).done r.ctx data

section
variable {tm : Nat} {s : State} {j : Job} {r : RefSub} {k : Nat}

theorem State.refOver_job (f : RefSub → RefSub) (data : List Byte) (hj : s.sv.job = some j) :
    (s.refOver r f data).sv.job = some (j.withRef r.page f) := by
  unfold State.refOver
  rw [State.done_sv, State.setJob_job, hj]
  rfl

theorem State.refOver_cur (f : RefSub → RefSub) (data : List Byte) : ((s.refOver r f data).ctx r.ctx).cur = none := State.done_cur ..

theorem State.refOver_mode (f : RefSub → RefSub) (data : List Byte) : (s.refOver r f data).mode = s.mode := by
  rw [State.refOver, State.done_mode, State.setJob_mode]

/-- The reference that waits is read on the SIEVE port (R285, R456). -/
def State.refRead (r : RefSub) (s : State) : List Byte × State := s.dramRead 6 (s.winAddr r.window r.offset) r.length

variable (hj : s.sv.job = some j) (hr : j.refs.find? (fun r => r.state == .waiting) = some r) (hk : j.freeSlot = some k)
include hj hr hk

theorem exec_refDecodeDone_of_ok {w h id : Nat} {rows : List (List (List Nat))}
    (hgot : decodeRrf ((s.atTime tm).refRead r).1 = .ok (w, h, id, rows)) (hw : w ≤ j.width) (hh : h ≤ j.height) :
    exec (.refDecodeDone tm) s = .next ((((s.atTime tm).refRead r).2.slotWrite j k w h rows).refOver r (RefSub.decoded w h id k)
      (le 4 r.page ++ le 1 0 ++ le 3 0 ++ le 4 0)).settle := by
  have he : exec (.refDecodeDone tm) s = execRefDecodeDone tm s := rfl
  unfold State.refRead at hgot
  rw [he]
  unfold execRefDecodeDone
  simp only [State.atTime_sv, hj, hr, hk, hgot, Nat.not_lt.2 hw, Nat.not_lt.2 hh, if_false]
  rfl

theorem exec_refDecodeDone_of_error {e : Nat} (hgot : decodeRrf ((s.atTime tm).refRead r).1 = .error e) :
    exec (.refDecodeDone tm) s = .next ((((s.atTime tm).refRead r).2.refOver r RefSub.spoiled
      (le 4 r.page ++ le 1 2 ++ le 3 0 ++ le 4 e)).pulse 98).settle := by
  have he : exec (.refDecodeDone tm) s = execRefDecodeDone tm s := rfl
  unfold State.refRead at hgot
  rw [he]
  unfold execRefDecodeDone
  simp only [State.atTime_sv, hj, hr, hk, hgot]
  rfl

theorem refDecodeDone_decodes {w h id : Nat} {rows : List (List (List Nat))}
    (hgot : decodeRrf ((s.atTime tm).refRead r).1 = .ok (w, h, id, rows)) (hw : w ≤ j.width) (hh : h ≤ j.height) :
    ∃ t j' x, exec (.refDecodeDone tm) s = .next t ∧ t.sv.job = some j' ∧ x ∈ j'.refs ∧ x.page = r.page ∧ x.state = .decoded ∧
      x.width = w ∧ x.height = h ∧ x.pageId = id ∧ x.slot = k ∧ (t.ctx r.ctx).cur = none := by
  refine ⟨_, _, r.decoded w h id k, exec_refDecodeDone_of_ok hj hr hk hgot hw hh, ?_,
    Job.mem_withRef _ (List.mem_of_find?_eq_some hr), rfl, rfl, rfl, rfl, rfl, rfl, by rw [State.settle_ctx, State.refOver_cur]⟩
  rw [State.settle_sv]
  exact State.refOver_job _ _ hj

theorem refDecodeDone_rejects {e : Nat} (hgot : decodeRrf ((s.atTime tm).refRead r).1 = .error e) :
    ∃ t j' x, exec (.refDecodeDone tm) s = .next t ∧ t.sv.job = some j' ∧ x ∈ j'.refs ∧ x.page = r.page ∧ x.state = .bad ∧
      (t.ctx r.ctx).cur = none ∧ (s.mode.mode ≠ .boot → t.ev.latch.getLsbD 98 = true) := by
  refine ⟨_, _, r.spoiled, exec_refDecodeDone_of_error hj hr hk hgot, ?_, Job.mem_withRef _ (List.mem_of_find?_eq_some hr), rfl, rfl,
    by rw [State.settle_ctx, State.pulse_ctx, State.refOver_cur],
    fun hm => State.settle_latch_mono (State.pulse_latch (by decide) (by rw [State.refOver_mode]; exact hm))⟩
  rw [State.settle_sv, State.pulse_sv]
  exact State.refOver_job _ _ hj

end

/-- Settles O41: a unit that ends, the summary of the oldest page, and a reference that is decoded or found bad. -/
theorem serviceEventsComplete : Obligations.ServiceEventsComplete := by
  refine fun tm s => ⟨fun unit poison p hp hissued hover hgoing => serviceUnitComplete_ends poison hp hissued hover hgoing,
    fun s1 j p rest bs hs1 hj hsum hpages hopen hprog hheld hroom hc hbs => ?_, fun j r k got hj hr hk hgot => ?_⟩
  · have he := exec_pageSummaryPush hs1 hj hsum hpages hopen hprog hheld hroom
    rw [← hbs] at he
    have hj' := State.summarise_job (bs := bs) hj
    have hheld' := State.summarise_held (bs := bs) hj
    refine ⟨fun h5 => ⟨_, j.summed p rest bs, he, ?_, rfl, rfl, rfl, rfl⟩,
      fun h5 => ⟨_, { j with summing := some bs }, he, ?_, hpages, rfl, rfl⟩⟩
    · rw [State.settle_sv]
      exact State.summaryDone_job (j := { j with summing := some bs }) hj' rfl hpages (hheld'.trans h5) hc
    · rw [State.settle_sv, State.summaryDone_of_held hj' rfl hpages (hheld'.trans h5)]
      exact hj'
  · subst hgot
    exact ⟨fun w h id rows hok hw hh => refDecodeDone_decodes hj hr hk hok hw hh, fun e herr => refDecodeDone_rejects hj hr hk herr⟩

end Sys2Proof.Machine
end

section
/-! PROOFS. The commands of a service job (R273, R274, R284, R315, R318, R571, R615). -/

namespace Sys2Proof.Machine

/-! ## What the checks of these commands read -/

section
variable (h : Hdr) (op : Nat) (s : State)

@[simp] theorem State.taken_sv : (s.taken h op).sv = s.sv := rfl
@[simp] theorem State.taken_sec : (s.taken h op).sec = s.sec := rfl

@[simp] theorem State.received_win (w : Nat) : (s.received h op).win w = s.win w := by
  simp only [State.win, State.received, State.fetched_windows]
  rfl

@[simp] theorem State.received_winHas (w off n : Nat) : (s.received h op).winHas w off n = s.winHas w off n := by
  simp only [State.winHas, State.received_win]

end

section
variable {i : Instr} {h : Hdr} {op : Nat} {cls : List Cls} {inRange : Bool} {body : State → Res} {s u : State}

/-- A command without a payload whose body ends with inline data alone. -/
theorem exec_of_ending_body {data : List Byte} (he : exec i s = (s.take h op cls true (some 0) inRange body).out)
    (ha : s.accepts h cls = true) (hp : h.plen = 0) (hr : inRange = true) (hb : body (s.taken h op) = .ok data [] u) :
    exec i s = .next (u.done h.ctx.toNat data).settle := by
  rw [he, State.take_of_accepts_empty ha hp hr, hb]
  rfl

/-- A command with a payload whose body goes on starts with what the body leaves. -/
theorem exec_of_received_body {n : Nat} (he : exec i s = (s.take h op cls true (some n) inRange body).out)
    (ha : s.accepts h cls = true) (hp : h.plen.toNat = n) (hr : inRange = true) (hb : body (s.received h op) = .go u) :
    exec i s = .next u.settle := by
  have hb' : body ((s.taken h op).fetched h) = .go u := hb
  rw [he, hr, State.take_of_accepts ha (fun m hm => hp.trans (Option.some.inj hm)), hb']
  rfl

end

section
variable {h : Hdr} {s : State}

/-! ## SV_JOB_START (R273, R308, R315) -/

/-- Queues that are all different clash nowhere (R581). -/
theorem find?_repeated_eq_none {l : List Nat} (hl : l.Nodup) : l.find? (fun q => decide (1 < (l.filter (· == q)).length)) = none := by
  refine List.find?_eq_none.2 fun q _ => ?_
  have hcount := List.nodup_iff_count_le_one.1 hl q
  rw [List.count_eq_length_filter] at hcount
  simpa using hcount

/-- The header of a job (R315). -/
def State.jobHeader (jobId : BitVec 32) (s : State) : List Byte :=
  le 4 jobId.toNat ++ le 4 s.lt.seq.toNat ++ sha256 s.active.sv.image ++ List.replicate 24 0

/-- The job that SV_JOB_START begins (R273, R315). -/
def Job.begun (jobId : BitVec 32) (en slots refWindow : BitVec 8) (width height x0 : BitVec 32) (qs : List Nat) (hdr : List Byte) : Job :=
  { id := jobId, en := en.extractLsb' 0 5, slots := slots.toNat, refWin := refWindow.toNat, width := width.toNat,
    height := height.toNat, queues := (List.range 6).map (fun k => if k = 5 || en.getLsbD k then qs.getD k 0 else 0),
    x0 := x0.toNat, nextPage := 0, refs := [], pages := [], past := [], hash := sha256 hdr, chain := sha256 hdr, pushed := none,
    count := 0, gapPages := 0, closing := false, endCtx := none, wrapped := false, aMax := 0, aKey := [], summing := none }

/-- A job is the active one, and no summary of it has been pushed (R273, R320). -/
def State.withNewJob (j : Job) (s : State) : State := { s with sv := { s.sv with job := some j, lastSum := 0xFFFFFFFF } }

/-- A new job with A_max for it (R308). -/
def State.jobStarted (j : Job) (s : State) : State := (s.withNewJob j).aMaxTrack

theorem State.jobStarted_job (j : Job) (s : State) : ∃ a k, (s.jobStarted j).sv.job = some { j with aMax := a, aKey := k } := by
  unfold State.jobStarted State.aMaxTrack
  rw [State.setJob_job, State.withNewJob, Option.map_some]
  split
  · exact ⟨_, _, rfl⟩
  · exact ⟨_, _, rfl⟩

theorem svJobStart_starts {jobId : BitVec 32} {en slots refWindow : BitVec 8} {width height : BitVec 32}
    {qSieve qTongs qLadle qPreview qCrop qSummary : BitVec 16} {x0 : BitVec 32} {named : List Nat} (ha : s.accepts h [.j] = true)
    (hp : h.plen = 0) (hen : en.toNat < 32) (hmin : 2 ≤ slots.toNat) (hmax : slots.toNat ≤ 8)
    (hnamed : named = (List.range 6).filterMap (fun k => if k = 5 || en.getLsbD k then
      ([qSieve, qTongs, qLadle, qPreview, qCrop, qSummary].map (·.toNat))[k]? else none))
    (hqueues : named.all isResultQueue = true) (hnodup : named.Nodup) (hidle : s.sv.job = none)
    (hsieve : en.getLsbD 0 = true → 1 ≤ width.toNat ∧ width.toNat ≤ 131072 ∧ 1 ≤ height.toNat ∧ height.toNat ≤ 16777216 ∧
      s.winHas refWindow.toNat 0 (slots.toNat * slotBytes width.toNat height.toNat) = true)
    (htap : (en.getLsbD 3 || en.getLsbD 4) = true → s.active.diagPort = 0xFF) :
    ∃ t j, exec (.svJobStart h jobId en slots refWindow width height qSieve qTongs qLadle qPreview qCrop qSummary x0) s = .next t ∧
      (t.ctx h.ctx.toNat).cur = none ∧ t.sv.job = some j ∧ j.id = jobId ∧ j.en = en.extractLsb' 0 5 ∧ j.slots = slots.toNat ∧
      j.nextPage = 0 ∧ j.closing = false ∧ j.chain = j.hash ∧
      j.hash = sha256 (le 4 jobId.toNat ++ le 4 s.lt.seq.toNat ++ sha256 s.active.sv.image ++ List.replicate 24 0) := by
  have hclash := find?_repeated_eq_none hnodup
  obtain ⟨j, hbegun⟩ : ∃ j, j = Job.begun jobId en slots refWindow width height x0
    ([qSieve, qTongs, qLadle, qPreview, qCrop, qSummary].map (·.toNat)) (s.jobHeader jobId) := ⟨_, rfl⟩
  obtain ⟨hsize, hmapped, hroom⟩ : (!en.getLsbD 0 || (decide (1 ≤ width.toNat) && decide (width.toNat ≤ 131072) &&
        decide (1 ≤ height.toNat) && decide (height.toNat ≤ 16777216))) = true ∧
      (en.getLsbD 0 && (s.win refWindow.toNat).isNone) = false ∧
      (en.getLsbD 0 && !s.winHas refWindow.toNat 0 (slots.toNat * slotBytes width.toNat height.toNat)) = false := by
    cases e : en.getLsbD 0 with
    | false => exact ⟨rfl, rfl, rfl⟩
    | true =>
      obtain ⟨hw, hw', hh, hh', hwin⟩ := hsieve e
      simp [hw, hw', hh, hh', hwin, State.win_isNone_of_has hwin]
  have hfree : ((en.getLsbD 3 || en.getLsbD 4) && s.active.diagPort != 0xFF) = false := by
    cases e : (en.getLsbD 3 || en.getLsbD 4) with
    | false => rfl
    | true => rw [htap e]; rfl
  have he : exec (.svJobStart h jobId en slots refWindow width height qSieve qTongs qLadle qPreview qCrop qSummary x0) s =
      .next ((((s.taken h 0x0600).jobStarted j).svRecord 5 (s.jobHeader jobId)).done h.ctx.toNat
        (le 1 ((s.taken h 0x0600).jobStarted j).aMax)).settle := by
    subst hnamed hbegun
    refine exec_of_ending_body rfl ha hp (by simp only [hen, hmin, hmax, hqueues, hsize, decide_true, Bool.and_self]) ?_
    simp only [State.taken_sv, hidle, State.taken_win, hmapped, State.taken_active, hfree, hclash, State.taken_winHas, hroom,
      Option.isSome_none, Bool.false_eq_true, if_false]
    rfl
  obtain ⟨a, k, hjob⟩ := (s.taken h 0x0600).jobStarted_job j
  refine ⟨_, _, he, by rw [State.settle_ctx, State.done_cur], by rw [State.settle_sv, State.done_sv, State.svRecord_sv, hjob], ?_⟩
  subst hbegun
  exact ⟨rfl, rfl, rfl, rfl, rfl, rfl, rfl⟩

/-! ## SV_JOB_END (R274) -/

/-- A job that takes no more pages, for the context of its SV_JOB_END (R274). -/
def Job.ended (n : Nat) (j : Job) : Job := { j with closing := true, endCtx := some n, refs := [] }

/-- The submissions of references are aborted. -/
def State.refsAborted (l : List RefSub) (s : State) : State := l.foldl (fun (s : State) r => s.failWith r.ctx cAborted) s

theorem State.refsAborted_sv (l : List RefSub) (s : State) : (s.refsAborted l).sv = s.sv :=
  List.foldlRecOn (motive := fun t : State => t.sv = s.sv) l _ rfl fun _ ht _ _ => by rw [State.failWith_sv, ht]

theorem State.refsAborted_ctx {l : List RefSub} {n : Nat} (hl : ∀ r ∈ l, r.ctx ≠ n) (s : State) : (s.refsAborted l).ctx n = s.ctx n :=
  List.foldlRecOn (motive := fun t : State => t.ctx n = s.ctx n) l _ rfl fun t ht r hr => by
    rw [State.failWith, State.finish_ctx_ne _ _ _ t (hl r hr).symm, ht]

/-- A job with pages that are not over is closed by its end, and waits for them (R274). -/
theorem State.svEnd_of_pages {j : Job} (n : Nat) (hj : s.sv.job = some j) (hpages : j.pages ≠ []) :
    s.svEnd (some n) = (s.setJob (Job.ended n)).refsAborted (j.refs.filter (fun r => r.state == .waiting)) := by
  have hended : ((s.setJob (Job.ended n)).refsAborted (j.refs.filter (fun r => r.state == .waiting))).sv.job = some (j.ended n) := by
    rw [State.refsAborted_sv, State.setJob_job, hj, Option.map_some]
  unfold State.svEnd
  rw [hj]
  exact State.svFinish_of_pages hended hpages

theorem svJobEnd_closes {j : Job} (ha : s.accepts h [.j] = true) (hp : h.plen = 0) (hj : s.sv.job = some j) (hc : j.closing = false)
    (hrefs : ∀ r ∈ j.refs, r.ctx ≠ h.ctx.toNat) (hpages : j.pages ≠ []) :
    ∃ t j', exec (.svJobEnd h) s = .next t ∧ t.Runs h 0x0601 ∧ t.sv.job = some j' ∧ j'.closing = true ∧
      j'.endCtx = some h.ctx.toNat ∧ j'.refs = [] := by
  have he : exec (.svJobEnd h) s = .next ((s.taken h 0x0601).svEnd (some h.ctx.toNat)).settle := by
    refine exec_of_going_body rfl ha hp rfl ?_
    simp only [State.taken_sv, hj, hc, Bool.false_eq_true, if_false]
  rw [State.svEnd_of_pages (s := s.taken h 0x0601) h.ctx.toNat hj hpages] at he
  refine ⟨_, j.ended h.ctx.toNat, he, State.Runs.settle ?_, ?_, rfl, rfl, rfl⟩
  · unfold State.Runs
    rw [State.refsAborted_ctx (fun r hr => hrefs r (List.mem_filter.1 hr).1), State.setJob_ctx]
    exact s.taken_runs h 0x0601
  · rw [State.settle_sv, State.refsAborted_sv, State.setJob_job, State.taken_sv, hj, Option.map_some]

/-! ## SV_REF_SUBMIT (R284) -/

theorem mem_insertBy {α : Type} (lt : α → α → Bool) (x : α) (l : List α) : x ∈ insertBy lt x l := by
  induction l with
  | nil => exact List.mem_singleton_self x
  | cons y l ih =>
    unfold insertBy
    split
    · exact List.mem_cons_self
    · exact List.mem_cons_of_mem _ ih

/-- A reference as it is submitted (R284). -/
def RefSub.submitted (ctx page : Nat) (window : BitVec 8) (offset length : BitVec 32) (crops : List CropReq) : RefSub :=
  { ctx := ctx, page := page, window := window.toNat, offset := offset.toNat, length := length.toNat, crops := crops,
    state := .waiting, pageId := 0, width := 0, height := 0, slot := 0 }

/-- A job with one more reference, in the order of their pages (R284). -/
def Job.submit (r : RefSub) (j : Job) : Job :=
  { j with refs := insertBy (fun (a b : RefSub) => decide (j.ahead a.page < j.ahead b.page)) r j.refs }

theorem svRefSubmit_starts {window ncrops : BitVec 8} {offset length pageSeq : BitVec 32} {cs : List (CropReq × Bool)} {j : Job}
    (ha : s.accepts h [.j] = true) (hp : h.plen.toNat = 20 * ncrops.toNat) (hn : ncrops.toNat ≤ 16)
    (hcs : cs = (chunks 20 ncrops.toNat (s.payload h)).map cropOf) (hok : cs.all (·.2) = true) (hj : s.sv.job = some j)
    (hc : j.closing = false) (hwin : s.winHas window.toNat offset.toNat length.toNat = true) (hseq : pageSeq ≠ 0xFFFFFFFF)
    (hopened : j.opened pageSeq.toNat = false) (hfresh : ∀ r ∈ j.refs, r.page ≠ pageSeq.toNat)
    (hring : s.hasRing = true → ringLine s.active (cs.map (·.1)) ≤ s.ring.rl)
    (hlen : (j.refs.filter (fun r => r.state == .waiting)).length < 64) :
    ∃ t j' r, exec (.svRefSubmit h window ncrops offset length pageSeq) s = .next t ∧ t.Runs h 0x0602 ∧ t.sv.job = some j' ∧
      r ∈ j'.refs ∧ r.ctx = h.ctx.toNat ∧ r.page = pageSeq.toNat ∧ r.state = .waiting ∧ r.crops = cs.map (·.1) := by
  have hmapped : (s.win window.toNat).isNone = false := State.win_isNone_of_has hwin
  have hline : (s.hasRing && decide (s.ring.rl < ringLine s.active (cs.map (·.1)))) = false := by
    cases e : s.hasRing with
    | false => rfl
    | true => simpa using hring e
  have hnone : j.refs.find? (fun r => r.page == pageSeq.toNat) = none := List.find?_eq_none.2 (by simpa using hfresh)
  have he : exec (.svRefSubmit h window ncrops offset length pageSeq) s = .next ((s.received h 0x0602).setJob
      (Job.submit (RefSub.submitted h.ctx.toNat pageSeq.toNat window offset length (cs.map (·.1))))).settle := by
    subst hcs
    refine exec_of_received_body rfl ha hp (by simp only [hn, hok, decide_true, Bool.and_self]) ?_
    simp only [State.received_sv, hj, hseq, if_false, hc, State.received_win, hmapped, hopened, Bool.or_self, State.received_winHas,
      hwin, State.received_hasRing, State.received_ring, State.received_active, hline, hnone, Nat.not_le.2 hlen, Bool.not_true,
      Bool.false_eq_true]
    rfl
  refine ⟨_, j.submit _, RefSub.submitted h.ctx.toNat pageSeq.toNat window offset length (cs.map (·.1)), he,
    State.Runs.settle (s.received_runs h 0x0602), ?_, mem_insertBy _ _ _, rfl, rfl, rfl, rfl⟩
  rw [State.settle_sv, State.setJob_job, State.received_sv, hj, Option.map_some]

/-! ## SV_CHAIN_SIGN (R318, R615) -/

theorem svChainSign_asks {j : Job} (ha : s.accepts h [.j] = true) (hp : h.plen = 0) (hj : s.sv.job = some j)
    (hdebug : s.sec.debugOpen = false) (hdik : s.sec.dik = true) :
    ∃ t, exec (.svChainSign h) s = .next t ∧ t.Runs h 0x0603 ∧ t.sec.reqs = s.sec.reqs ++
      [{ opcode := 0x0603, ctx := h.ctx.toNat, body := (s.taken h 0x0603).inspection j false, target := 0, window := 0, offset := 0 }] := by
  have he : exec (.svChainSign h) s = .next ((s.taken h 0x0603).askTrivet
      { opcode := 0x0603, ctx := h.ctx.toNat, body := (s.taken h 0x0603).inspection j false, target := 0, window := 0,
        offset := 0 }).settle := by
    refine exec_of_going_body rfl ha hp rfl ?_
    simp only [State.taken_sv, hj, State.taken_sec, hdebug, hdik, Bool.not_true, Bool.false_eq_true, if_false]
  refine ⟨_, he, State.Runs.settle (s.taken_runs h 0x0603), ?_⟩
  rw [State.settle_sec]
  rfl

end

/-- Settles O17, one command after the other. That the end of a job discards the references that wait is the model's choice (log
entry 46). -/
theorem serviceCommandsComplete : Obligations.ServiceCommandsComplete := fun _ _ ha =>
  ⟨fun _ _ _ _ _ _ _ _ _ _ _ _ _ _ hp hen hmin hmax hnamed hqueues hnodup hidle hsieve htap =>
      svJobStart_starts ha hp hen hmin hmax hnamed hqueues hnodup hidle hsieve htap,
    fun _ hp hj hc hrefs hpages => svJobEnd_closes ha hp hj hc hrefs hpages,
    fun _ _ _ _ _ _ _ hp hn hcs hok hj hc hwin hseq hopened hfresh hring hlen =>
      svRefSubmit_starts ha hp hn hcs hok hj hc hwin hseq hopened hfresh hring hlen,
    fun _ hp hj hdebug hdik => svChainSign_asks ha hp hj hdebug hdik⟩

end Sys2Proof.Machine
end

section
/-! PROOFS. The stagings of the Skillet family (R323, R324, R325, R326, R338, R343). -/

namespace Sys2Proof.Machine

section
variable {h : Hdr} {s : State}

/-- A configuration with 1, 2 or 4 lanes completes where its frame fits the shortest line (R326, R342, R343). -/
theorem sklCfgStage_completes {en line latLimit slkEn lanes : BitVec 8} {x : SklCfg} (ha : s.accepts h [.s] = true) (hp : h.plen = 0)
    (hl : s.locked [0x0700] = false) (hen : en.toNat ≤ 1) (hline : line.toNat ≤ 3) (hslk : slkEn.toNat ≤ 1)
    (hlanes : lanes = 1 ∨ lanes = 2 ∨ lanes = 4)
    (hx : x = { en := en == 1, line := line.toNat, latLimit := latLimit.toNat, slkEn := slkEn == 1, lanes := lanes.toNat })
    (hc : check343 s.board.member s.banks { s.shadowView with sklCfg := x } = true) :
    ∃ t, exec (.sklCfgStage h en line latLimit slkEn lanes) s = .next t ∧
      State.Stages h 0x0700 0x0700 [] { s.shadow with sklCfg := x } s t := by
  refine staging_completes (f := fun t => { t with sklCfg := x }) rfl ha (by simp [hp])
    (by simpa [hen, hline, hslk, or_assoc] using hlanes) hl ?_
  dsimp only
  rw [State.received_board, State.received_banks, State.received_shadowView, ← hx, if_pos hc]

/-- A part of the group map completes where its reserved bits are 0 and the map with it passes R324 and R343. -/
theorem sklMapStage_completes {first count : BitVec 16} {es : List (SklGroup × Bool)} {f : Tables → Tables}
    (ha : s.accepts h [.s] = true) (hp : h.plen.toNat = 8 * count.toNat) (hl : s.locked [0x0701] = false) (hcount : 1 ≤ count.toNat)
    (hlast : first.toNat + count.toNat ≤ 16384)
    (hes : es = (chunks 8 count.toNat (s.payload h)).map (fun b => sklGroupOf (leVal b)))
    (hf : f = fun t => { t with sklMap := es.zipIdx.foldl (fun m x => sset SklGroup.reset (first.toNat + x.2) x.1.1 m) t.sklMap })
    (hok : es.all (·.2) = true) (hgroups : check324 s.board.member (f s.shadowView) = true)
    (hc : check343 s.board.member s.banks (f s.shadowView) = true) :
    ∃ t, exec (.sklMapStage h first count) s = .next t ∧ State.Stages h 0x0701 0x0701 [] (f s.shadow) s t := by
  refine staging_completes rfl ha hp (by simp [hcount, hlast]) hl ?_
  subst hf
  dsimp only at hgroups hc ⊢
  rw [State.received_payload, State.received_board, State.received_banks, State.received_shadowView, ← hes,
    if_pos (by simp only [hok, hgroups, hc, Bool.and_self])]

/-- A profile writes EXPECT into the group map; its staging is recorded under the key of SKL_MAP_STAGE (R323). -/
theorem sklProfileStage_completes {first count : BitVec 16} {es : List Nat} (ha : s.accepts h [.s] = true)
    (hp : h.plen.toNat = 2 * count.toNat) (hl : s.locked [0x0701] = false) (hcount : 1 ≤ count.toNat)
    (hlast : first.toNat + count.toNat ≤ 16384) (hes : es = (chunks 2 count.toNat (s.payload h)).map leVal) :
    ∃ t, exec (.sklProfileStage h first count) s = .next t ∧ State.Stages h 0x0702 0x0701 []
      { s.shadow with sklMap := es.zipIdx.foldl (fun m x =>
          supd SklGroup.reset (first.toNat + x.2) (fun g => { g with expect := x.1 }) m) s.shadow.sklMap } s t := by
  let f : Tables → Tables := fun t => { t with sklMap := es.zipIdx.foldl (fun m x =>
      supd SklGroup.reset (first.toNat + x.2) (fun g => { g with expect := x.1 }) m) t.sklMap }
  have ht : takeSklProfileStage h first count s = ((s.received h 0x0702).stage 0x0701 f).done h.ctx.toNat [] := by
    refine (State.take_staging_of_free ha hp (by simp [hcount, hlast]) hl).trans ?_
    dsimp only
    rw [State.received_payload, ← hes]
    rfl
  exact ⟨_, congrArg State.out ht, (s.received_runs h 0x0702).stages (f := f) (by simp) (by simp) (by simp)⟩

theorem sklClassStage_completes {first count : BitVec 8} {es : List (SklClass × Bool)} (ha : s.accepts h [.s] = true)
    (hp : h.plen.toNat = 16 * count.toNat) (hl : s.locked [0x0703] = false) (hcount : 1 ≤ count.toNat)
    (hlast : first.toNat + count.toNat ≤ 16) (hes : es = (chunks 16 count.toNat (s.payload h)).map sklClassOf)
    (hok : es.all (·.2) = true) :
    ∃ t, exec (.sklClassStage h first count) s = .next t ∧ State.Stages h 0x0703 0x0703 []
      { s.shadow with
        sklClass := es.zipIdx.foldl (fun m x => sset SklClass.reset (first.toNat + x.2) x.1.1 m) s.shadow.sklClass } s t := by
  refine staging_completes (f := fun t => { t with
      sklClass := es.zipIdx.foldl (fun m x => sset SklClass.reset (first.toNat + x.2) x.1.1 m) t.sklClass })
    rfl ha hp (by simp [hcount, hlast]) hl ?_
  dsimp only
  rw [State.received_payload, ← hes, if_pos hok]

/-- FASTEV settings replace those of all 16 pins where every MODE and ACT_LOW is 0 or 1 (R338). -/
theorem sklFevStage_completes {es : List (List Byte)} (ha : s.accepts h [.s] = true) (hp : h.plen = 64)
    (hl : s.locked [0x0704] = false) (hes : es = chunks 4 16 (s.payload h)) (hok : ∀ b ∈ es, rd b 0 1 ≤ 1 ∧ rd b 1 1 ≤ 1) :
    ∃ t, exec (.sklFevStage h) s = .next t ∧ State.Stages h 0x0704 0x0704 []
      { s.shadow with sklFev := es.zipIdx.foldl (fun m x =>
          sset SklFev.reset x.2 { mode := rd x.1 0 1, actLow := rd x.1 1 1 == 1, minHi := rd x.1 2 2 } m) [] } s t := by
  refine staging_completes (f := fun t => { t with sklFev := es.zipIdx.foldl (fun m x =>
      sset SklFev.reset x.2 { mode := rd x.1 0 1, actLow := rd x.1 1 1 == 1, minHi := rd x.1 2 2 } m) [] })
    rfl ha (by simp [hp]) rfl hl ?_
  dsimp only
  rw [State.received_payload, ← hes, if_pos (by simpa using hok)]

end

/-- Settles O11, staging by staging. -/
theorem skilletStagingsComplete : Obligations.SkilletStagingsComplete := fun _ _ ha =>
  ⟨fun _ _ _ _ _ _ hp hl hen hline hslk hlanes hx hc => sklCfgStage_completes ha hp hl hen hline hslk hlanes hx hc,
    fun _ _ _ _ hp hl hcount hlast hes hf hok hgroups hc => sklMapStage_completes ha hp hl hcount hlast hes hf hok hgroups hc,
    fun _ _ _ hp hl hcount hlast hes => sklProfileStage_completes ha hp hl hcount hlast hes,
    fun _ _ _ hp hl hcount hlast hes hok => sklClassStage_completes ha hp hl hcount hlast hes hok,
    fun _ hp hl hes hok => sklFevStage_completes ha hp hl hes hok⟩

end Sys2Proof.Machine
end

section
/-! PROOFS. The stagings of the Illumination family (R349, R352, R353, R358, R363, R366, R369, R574). -/

namespace Sys2Proof.Machine

/-! ## What the checks of these commands read -/

section
variable (h : Hdr) (op : Nat) (s : State)

@[simp] theorem State.received_ilm : (s.received h op).ilm = s.ilm := State.fetched_ilm ..

@[simp] theorem State.received_failedOf (w : Nat) : (s.received h op).failedOf w = s.failedOf w := by
  simp only [State.failedOf, State.received_ilm]

@[simp] theorem State.received_chain (c : Nat) : (s.received h op).chain c = s.chain c := by
  simp only [State.chain, State.received_ilm]

@[simp] theorem State.taken_row (w : Nat) : (s.taken h op).row w = s.row w := rfl

@[simp] theorem State.setChain_ctx (c n : Nat) (f : ChainUnit → ChainUnit) : (s.setChain c f).ctx n = s.ctx n := by
  unfold State.setChain
  split <;> rfl

end

section
variable {h : Hdr} {s : State}

/-! ## Tables of rows and levels (R349, R352, R353) -/

/-- A row's configuration completes where its fields are in range and its LPZ stays as it is or no lamp of it has failed (R349). -/
theorem ilmRowStage_completes {row : BitVec 8} {x : IlmRow × Bool} (ha : s.accepts h [.s] = true) (hp : h.plen = 20)
    (hl : s.locked [0x0800] = false) (hrow : row.toNat ≤ 3) (hx : x = ilmRowOf (s.payload h)) (hok : x.2 = true)
    (hlpz : x.1.lpz = (rowCfg s.active row.toNat).lpz ∨ s.failedOf row.toNat = []) :
    ∃ t, exec (.ilmRowStage h row) s = .next t ∧ State.Stages h 0x0800 0x0800 []
      { s.shadow with ilmRow := sset IlmRow.reset row.toNat x.1 s.shadow.ilmRow } s t := by
  refine staging_completes (f := fun t => { t with ilmRow := sset IlmRow.reset row.toNat x.1 t.ilmRow })
    rfl ha (by simp [hp]) (decide_eq_true hrow) hl ?_
  dsimp only
  rw [State.received_payload, State.received_active, State.received_failedOf, ← hx, if_neg (by simpa [hok, imp_iff_not_or] using hlpz)]

/-- The 16 levels complete where each is 1 to 4,096 (R352). -/
theorem ilmLevelStage_completes {ds : List Nat} (ha : s.accepts h [.s] = true) (hp : h.plen = 32) (hl : s.locked [0x0801] = false)
    (hds : ds = (chunks 2 16 (s.payload h)).map leVal) (hok : ∀ d ∈ ds, 1 ≤ d ∧ d ≤ 4096) :
    ∃ t, exec (.ilmLevelStage h) s = .next t ∧ State.Stages h 0x0801 0x0801 [] { s.shadow with dim := ds } s t := by
  refine staging_completes (f := fun t => { t with dim := ds }) rfl ha (by simp [hp]) rfl hl ?_
  dsimp only
  rw [State.received_payload, ← hds, if_pos (by simpa using hok)]

/-- A row's compensation table completes where its temperatures rise by at least one degree (R353). -/
theorem ilmTcompStage_completes {row : BitVec 8} {c : IlmTcomp} (ha : s.accepts h [.s] = true) (hp : h.plen = 32)
    (hl : s.locked [0x0802] = false) (hrow : row.toNat ≤ 3)
    (hc : c = { temps := (chunks 4 8 (s.payload h)).map (fun b => rdS b 0 2), ks := (chunks 4 8 (s.payload h)).map (fun b => rd b 2 2) })
    (hrise : tempsRise c.temps = true) :
    ∃ t, exec (.ilmTcompStage h row) s = .next t ∧ State.Stages h 0x0802 0x0802 []
      { s.shadow with tcomp := sset IlmTcomp.reset row.toNat c s.shadow.tcomp } s t := by
  refine staging_completes (f := fun t => { t with tcomp := sset IlmTcomp.reset row.toNat c t.tcomp })
    rfl ha (by simp [hp]) (decide_eq_true hrow) hl ?_
  subst hc
  dsimp only
  rw [State.received_payload, if_pos hrise]

/-! ## Clears, which the next apply carries out (R366, R369, R574) -/

/-- A staging without a payload whose body only records something for the next apply completes with its record. -/
theorem recording_completes {i : Instr} {op : Nat} {inRange : Bool} {ops : List Nat} {body : State → Res} {g : Staged → Staged}
    (hg : ∀ x, (g x).keys = x.keys) (he : exec i s = (s.take h op [.s] true (some 0) inRange (fun u => u.staging i h ops body)).out)
    (ha : s.accepts h [.s] = true) (hp : h.plen = 0) (hr : inRange = true) (hl : s.locked ops = false)
    (hb : body (s.taken h op) = .ok [] [] ({ s.taken h op with staged := g s.staged }.stage op id)) :
    ∃ t, exec i s = .next t ∧ State.Stages h op op [] s.shadow s t ∧
      t.staged = { g s.staged with keys := (g s.staged).keys ++ [op] } := by
  have hruns : ({ s.taken h op with staged := g s.staged } : State).Runs h op := s.taken_runs h op
  refine ⟨_, exec_of_staging_body he ha hp hr hl hb, hruns.stages rfl rfl (hg s.staged), ?_⟩
  rw [State.settle_staged, State.done_staged]
  rfl

/-- The lamps of a zone that the parameter LAMP of ILM_LAMP_CLEAR names (R574). -/
def lampsNamed (lamp : BitVec 8) : List Nat := if lamp = 0xFF then List.range 16 else [lamp.toNat]

theorem mem_lampsNamed {lamp : BitVec 8} {n : Nat} (hn : n < 16) (hm : lamp = 0xFF ∨ n = lamp.toNat) : n ∈ lampsNamed lamp := by
  unfold lampsNamed
  split
  case isTrue => exact List.mem_range.2 hn
  case isFalse hone => exact List.mem_singleton.2 (hm.resolve_left hone)

/-- Every lamp that the command names is recorded for the next apply to clear (R366, R574). -/
theorem ilmLampClear_completes {row zone lamp : BitVec 8} (ha : s.accepts h [.s] = true) (hp : h.plen = 0)
    (hl : s.locked [0x0805] = false) (hrow : row.toNat ≤ 3) (hzone : zone.toNat < s.board.member.ports)
    (hlamp : lamp.toNat < 16 ∨ lamp = 0xFF) :
    ∃ t, exec (.ilmLampClear h row zone lamp) s = .next t ∧ State.Stages h 0x0805 0x0805 [] s.shadow s t ∧
      ∀ n, n < 16 → (lamp = 0xFF ∨ n = lamp.toNat) → lampKey (row.toNat, zone.toNat, n) ∈ t.staged.lamps := by
  obtain ⟨t, he, hst, hrec⟩ := recording_completes (i := .ilmLampClear h row zone lamp)
    (g := fun x => { x with lamps := x.lamps ++ (lampsNamed lamp).map (fun n => lampKey (row.toNat, zone.toNat, n)) })
    (fun _ => rfl) rfl ha hp (by simpa [hrow, hzone] using hlamp) hl rfl
  refine ⟨t, he, hst, fun n hn hm => ?_⟩
  rw [hrec]
  exact List.mem_append_right _ (List.mem_map_of_mem (mem_lampsNamed hn hm))

/-- A row's fault is cleared by the next apply where its condition is over (R369, R574). -/
theorem ilmRowClear_completes {row : BitVec 8} (ha : s.accepts h [.s] = true) (hp : h.plen = 0) (hl : s.locked [0x0806] = false)
    (hrow : row.toNat ≤ 3) (hover : (s.row row.toNat).ovNow = false) :
    ∃ t, exec (.ilmRowClear h row) s = .next t ∧ State.Stages h 0x0806 0x0806 [] s.shadow s t ∧ row.toNat ∈ t.staged.rows := by
  obtain ⟨t, he, hst, hrec⟩ := recording_completes (i := .ilmRowClear h row) (g := fun x => { x with rows := x.rows ++ [row.toNat] })
    (fun _ => rfl) rfl ha hp (decide_eq_true hrow) hl (by simp only [State.taken_row, hover, Bool.false_eq_true, if_false]; rfl)
  exact ⟨t, he, hst, by rw [hrec]; exact List.mem_append_right _ (List.mem_singleton_self _)⟩

/-! ## LSW_STAGE begins (R358, R363) -/

/-- A chain has bits to shift for a context, which are a pattern or the removal of one. -/
def State.shifting (c ctx : Nat) (discard : Bool) (pat : List Bool) (s : State) : State :=
  s.setChain c (fun x => { x with staging := some (ctx, discard), shifted := false, bits := pat })

/-- An LSW_STAGE of its size that finds its chain free begins to shift, if a pattern that it brings has no bit beyond the chain and leaves
no zone dark (R358). -/
theorem lswStage_shifts {chain discard : BitVec 8} {nbits : BitVec 16} {n : Nat} {pat : List Bool} (ha : s.accepts h [.s] = true)
    (hl : s.locked [0x0803] = false) (hchain : chain.toNat ≤ 1) (hdiscard : discard.toNat ≤ 1)
    (hn : n = if discard = 1 then 0 else chainLen s.board.member.ports s.shadow chain.toNat) (hbits : nbits.toNat = n)
    (hp : h.plen.toNat = divUp n 8) (hfree : (s.chain chain.toNat).staging = none)
    (hpat : pat = (List.range n).map (fun i => bit (leVal (s.payload h)) i))
    (hin : discard = 0 → ∀ i ∈ setBits (8 * divUp n 8) (leVal (s.payload h)), i < n)
    (hlit : discard = 0 → closesZone s.board.member.ports s.shadow chain.toNat pat = false) :
    ∃ t, exec (.lswStage h chain discard nbits) s = .next t ∧ t.Runs h 0x0803 ∧
      (t.chain chain.toNat).staging = some (h.ctx.toNat, decide (discard = 1)) ∧ (t.chain chain.toNat).bits = pat := by
  have he : exec (.lswStage h chain discard nbits) s =
      .next ((s.received h 0x0803).shifting chain.toNat h.ctx.toNat (discard = 1) pat).settle := by
    subst hn
    refine exec_of_received_body rfl ha hp (by simp [hchain, hdiscard, hbits]) ?_
    refine (State.staging_of_free (by simpa using hl)).trans ?_
    dsimp only
    rw [State.received_payload, State.received_chain, State.received_board, State.received_shadow, ← hpat, if_neg (by simpa using hin),
      hfree, if_neg (by simp), if_neg (by simpa using hlit)]
    rfl
  refine ⟨_, he, State.Runs.settle ?_, ?_, ?_⟩
  · unfold State.Runs State.shifting
    rw [State.setChain_ctx]
    exact s.received_runs h 0x0803
  · rw [State.settle_chain, State.shifting, State.chain_setChain_self]
  · rw [State.settle_chain, State.shifting, State.chain_setChain_self]

end

/-- Settles O12, staging by staging; LSW_STAGE takes a staged pattern back or brings one. -/
theorem lampStagingsComplete : Obligations.LampStagingsComplete := by
  refine fun h s ha => ⟨fun row x hp hl hrow hx hok hlpz => ilmRowStage_completes ha hp hl hrow hx hok hlpz,
    fun ds hp hl hds hok => ilmLevelStage_completes ha hp hl hds hok,
    fun row c hp hl hrow hc hrise => ilmTcompStage_completes ha hp hl hrow hc hrise,
    fun row zone lamp hp hl hrow hzone hlamp => ilmLampClear_completes ha hp hl hrow hzone hlamp,
    fun row hp hl hrow hover => ilmRowClear_completes ha hp hl hrow hover,
    fun chain hp hl hchain hfree => ?_, fun chain nbits n pat hl hchain hn hbits hp hfree hpat hin hlit => ?_⟩
  · obtain ⟨t, he, hruns, hst, -⟩ := lswStage_shifts (discard := 1) (nbits := 0) ha hl hchain (by decide) rfl rfl
      (by simp [hp, divUp]) hfree rfl (fun hd => absurd hd (by decide)) (fun hd => absurd hd (by decide))
    exact ⟨t, he, hruns, hst⟩
  · exact lswStage_shifts (discard := 0) ha hl hchain (by decide) hn hbits hp hfree hpat (fun _ => hin) (fun _ => hlit)

end Sys2Proof.Machine
end

section
/-! PROOFS. Two frames that one event breaks: a foreground calibration that ends with failed channels lists them in the payload buffer of
its context (R155, R546), and neither `changesOf` nor `storesOf` counts DRAM among what AFE_FG_CAL_DONE writes. -/

namespace Sys2Proof.Machine

/-- An AFE_FG_CAL runs on die 0 for context 0, whose payload buffer lies at address 0. -/
def calibratingDie : State :=
  { State.reset with
    ports := { PortsUnit.reset with fgCal := some (0, 1) },
    dram := { Dram.reset with windows := [(0, { base := 0, size := 0x10000, prot := false, bar2 := none })] },
    host := { HostUnit.reset with ctxs := [(0, { Ctx.reset with
      cur := some { opcode := 0x020A, seq := 0, noCpl := false }, buf := some { window := 0, offset := 0, size := 64 } })] } }

/-- Channel 5 of die 0 was not accepted. -/
def failedChannel : CalResult :=
  { die := 0, chan := 5, offRes := 100, gainRes := 0, inl := 0, runDiff := 0, fired := false, off := 0, gain := 0, elem := 0 }

/-- The state in which AFE_FG_CAL_DONE leaves memory changed: byte 1 of the payload buffer is the number of the failed channel. -/
theorem afeFgCalDone_stores : ∃ t, exec (.afeFgCalDone 0 [failedChannel]) calibratingDie = .next t ∧
    sget 0 1 t.dram.mem = 5 ∧ sget 0 1 calibratingDie.dram.mem = 0 := by
  refine ⟨_, rfl, ?_, rfl⟩
  rw [State.settle_dram]
  decide +kernel

/-- Refutes O54: `changesOf` leaves DRAM out of what AFE_FG_CAL_DONE changes. -/
theorem not_eventsKeepTheRest : ¬ Obligations.EventsKeepTheRest := by
  intro h
  obtain ⟨t, ht, h5, h0⟩ := afeFgCalDone_stores
  have hmem : t.dram.mem = calibratingDie.dram.mem := h _ _ _ rfl ht .mem (by simp [changesOf])
  rw [hmem, h0] at h5
  exact absurd h5 (by decide)

/-- Refutes O55: `storesOf` says that AFE_FG_CAL_DONE stores nowhere. -/
theorem not_memoryChangesOnlyWhereStored : ¬ Obligations.MemoryChangesOnlyWhereStored := by
  intro h
  obtain ⟨t, ht, h5, h0⟩ := afeFgCalDone_stores
  have hsame := h _ _ _ [] (by simp [storesOf, changesOf]) ht 1 (by simp)
  rw [h5, h0] at hsame
  exact absurd hsame (by decide)

end Sys2Proof.Machine
end

section
/-! PROOFS. A step, memory that is written and read, and the latches of level sources (R637, R638). -/

namespace Sys2Proof.Machine

/-- Settles O1: both halves are the two cases of `step`. -/
theorem stepRunsFrontCommand : Obligations.StepRunsFrontCommand := by
  refine ⟨fun c rest s => rfl, fun s hs => ?_⟩
  unfold step
  rw [hs]

/-! ## Memory -/

/-- A byte outside of the range written reads as before. -/
theorem sget_memWrite_of_outside {a x : Nat} {bs : List Byte} (m : List Host.Cell) (h : x < a ∨ a + bs.length ≤ x) :
    sget 0 x (memWrite a bs m) = sget 0 x m := by
  induction bs generalizing a m with
  | nil => rfl
  | cons b bs ih =>
    rw [List.length_cons] at h
    rw [memWrite, ih _ (by omega), sget_sset_ne 0 b m (by omega)]

/-- Bytes written read back. -/
theorem memRead_memWrite (a : Nat) (bs : List Byte) (m : List Host.Cell) : memRead a bs.length (memWrite a bs m) = bs := by
  induction bs generalizing a m with
  | nil => rfl
  | cons b bs ih =>
    have hfirst : sget 0 a (memWrite a (b :: bs) m) = b := by
      rw [memWrite, sget_memWrite_of_outside _ (by omega), sget_sset_self]
    rw [List.length_cons, memRead, hfirst]
    exact congrArg (b :: ·) (ih (a + 1) (sset 0 a b m))

/-- Settles O56. -/
theorem memoryReadsBack : Obligations.MemoryReadsBack :=
  fun a bs m => ⟨memRead_memWrite a bs m, fun _ hx => sget_memWrite_of_outside m hx, memWrite_wf a bs m⟩

/-! ## Latches of level sources -/

/-- The latch of a level source is set where its level is 1 in level mode. -/
def EvUnit.Latched (src : Nat) (e : EvUnit) : Prop := e.raw.getLsbD src = true → e.edge.getLsbD src = false → e.latch.getLsbD src = true

theorem State.level_edge (i : Nat) (on : Bool) (s : State) : (s.level i on).ev.edge = s.ev.edge := (s.level_signals i on).enables.2.1

theorem State.latchSet_raw (i : Nat) (s : State) : (s.latchSet i).ev.raw = s.ev.raw := by
  unfold State.latchSet
  dsimp only
  split
  · rfl
  · split
    · split
      · rw [State.wake_ev]
      · rfl
    · split
      · rfl
      · rw [State.msix_ev]

theorem State.level_raw (i j : Nat) (on : Bool) (s : State) :
    (s.level i on).ev.raw.getLsbD j = if j = i ∧ i < 256 then on else s.ev.raw.getLsbD j := by
  unfold State.level
  dsimp only
  have hraw : (if on = true then s.ev.raw ||| BitVec.twoPow 256 i else s.ev.raw &&& ~~~BitVec.twoPow 256 i).getLsbD j =
      if j = i ∧ i < 256 then on else s.ev.raw.getLsbD j := by
    cases on <;> simp <;> grind
  split
  · rw [State.latchSet_raw]; exact hraw
  · exact hraw

/-- A level source that has been brought up to date is latched where its level is 1. -/
theorem State.level_latched_self (i : Nat) (on : Bool) (s : State) (hi : i < 256) : (s.level i on).ev.Latched i := by
  intro hraw hedge
  rw [State.level_raw, if_pos ⟨rfl, hi⟩] at hraw
  subst hraw
  rw [State.level_edge] at hedge
  exact s.level_latch_of_on i hi hedge

/-- Another source brought up to date keeps a source latched. -/
theorem State.level_latched_ne {i j : Nat} (hj : j ≠ i) (on : Bool) {s : State} (h : s.ev.Latched j) : (s.level i on).ev.Latched j := by
  intro hraw hedge
  rw [State.level_raw, if_neg (fun e => hj e.1)] at hraw
  rw [State.level_edge] at hedge
  exact State.level_latch_mono _ _ _ _ (h hraw hedge)

/-- Every source that is brought up to date is latched at the end. -/
theorem State.settleOnes_latched (boot : Bool) {l : List (Nat × Bool)} {src : Nat} (hl : ∀ x ∈ l, x.1 < 256) (s : State)
    (h : src ∈ l.map Prod.fst ∨ s.ev.Latched src) : (l.foldl (State.settleOne boot) s).ev.Latched src := by
  induction l generalizing s with
  | nil => exact h.resolve_left (by simp)
  | cons x l ih =>
    refine ih (fun y hy => hl y (List.mem_cons_of_mem x hy)) _ ?_
    by_cases hx : src = x.1
    · subst hx
      exact .inr (s.level_latched_self _ _ (hl x List.mem_cons_self))
    · exact h.imp (fun h => (List.mem_cons.1 h).resolve_left hx) (State.level_latched_ne hx _)

/-- After the level sources have settled each is latched where its level is 1 (R638). -/
theorem State.settle_latched {src : Nat} (hsrc : src ∈ levelSources) (s : State) : s.settle.ev.Latched src := by
  have hlevels : s.levels.map Prod.fst = levelSources := rfl
  refine State.settleOnes_latched _ (fun x hx => ?_) s (.inl (hlevels ▸ hsrc))
  have hall : ∀ i ∈ levelSources, i < 256 := by decide
  exact hall _ (hlevels ▸ List.mem_map_of_mem hx)

theorem settles_ite {c : Prop} [Decidable c] {a b : Host.Outcome State Fault Refusal} (ha : ∃ u : State, a = .next u.settle)
    (hb : ∃ u : State, b = .next u.settle) : ∃ u : State, (if c then a else b) = .next u.settle := by
  split
  · exact ha
  · exact hb

/-- Every command answers a state whose level sources have settled. The commands named branch on what they meet, and every branch
ends so. -/
theorem exec_settles (i : Instr) (s : State) : ∃ u : State, exec i s = .next u.settle := by
  cases i
  case
    afeFgCalDone | bar2Read | bar2Write | bgCalStepStart | bgMeasurementEnd | bootExit | bootImageVerified | completionPush |
    dmaBurstDone | dmaDescFetched | dmaLinkRereadDone | dramAccessTimeout | dramCommandSlot | dramReadReturn | dramRebuildStep |
    dramScrubStep | dramTrainingDone | dramWipeDone | encEdge | feDieReset | feDieResetEnd | feProgramStart | generatorPeriod |
    handoverCompare | ilmOvOcDetect | ilmRegStart | interpTrigger | lampTestPulse | linkLoss | linkUp | lstbFall | lstbRise |
    lswFrameLatch | madcCalPeriodic | madcCalibrationEnd | madcConvTimeout | madcConversionEnd | mbSweep | motPwmPeriod |
    nvLineProgramDone | nvMount | oscCompUpdate | pairRestartDone | pendingTriggerIssue | perstNAssert | presFilterChange |
    prsntNChange | qPop | qualificationDone | qualifySettleEnd | quiesceTimeout | scrubComplete | selftestTestDone |
    shdCalSettleEnd | sheetEdge | simmerCapRaise | simmerCeilingStep | simmerRefill | sklGroupEval | sramWipeDone | stepInEdge |
    stitchedLineComplete | swapOutputRelease | swapPowerOff | trimSaveHourly | uzsFrameRx | uzsLineStart |
    uzsSlotRx =>
    dsimp only [exec, execAfeFgCalDone, execBar2Read, execBar2Write, execBgCalStepStart, execBgMeasurementEnd, execBootExit,
      execBootImageVerified,
      execCompletionPush, execDmaBurstDone, execDmaDescFetched, execDmaLinkRereadDone, execDramAccessTimeout, execDramCommandSlot,
      execDramReadReturn, execDramRebuildStep, execDramScrubStep, execDramTrainingDone, execDramWipeDone, execEncEdge,
      execFeDieReset, execFeDieResetEnd, execFeProgramStart, execGeneratorPeriod, execHandoverCompare, execIlmOvOcDetect,
      execIlmRegStart, execInterpTrigger, execLampTestPulse, execLinkLoss, execLinkUp, execLstbFall, execLstbRise,
      execLswFrameLatch, execMadcCalPeriodic, execMadcCalibrationEnd, execMadcConvTimeout, execMadcConversionEnd, execMbSweep,
      execMotPwmPeriod, execNvLineProgramDone, execNvMount, execOscCompUpdate, execPairRestartDone, execPendingTriggerIssue,
      execPerstNAssert, execPresFilterChange, execPrsntNChange, execQPop, execQualificationDone, execQualifySettleEnd,
      execQuiesceTimeout, execScrubComplete, execSelftestTestDone, execShdCalSettleEnd, execSheetEdge, execSimmerCapRaise,
      execSimmerCeilingStep, execSimmerRefill, execSklGroupEval, execSramWipeDone, execStepInEdge, execStitchedLineComplete,
      execSwapOutputRelease, execSwapPowerOff, execTrimSaveHourly, execUzsFrameRx, execUzsLineStart, execUzsSlotRx]
    repeat' split
    all_goals exact ⟨_, rfl⟩
  case thermSample => exact settles_ite ⟨_, rfl⟩ ⟨_, rfl⟩
  all_goals exact ⟨_, rfl⟩

/-- Settles O59. -/
theorem levelSourcesAreLatched : Obligations.LevelSourcesAreLatched := by
  intro i s t ht src hsrc hraw hedge
  obtain ⟨u, hu⟩ := exec_settles i s
  obtain rfl : t = u.settle := Host.Outcome.next.inj (ht.symm.trans hu)
  exact State.settle_latched hsrc u hraw hedge

end Sys2Proof.Machine
end

section
/-! PROOFS. What a state is outside of some of its parts, and what leaves that alone. -/

namespace Sys2Proof.Machine

/-! ## States that agree outside of some parts -/

namespace Part

variable {p : Part} {s t u : State}

theorem same_refl (p : Part) (s : State) : p.same s s := by
  cases p with
  | mode => exact .inl rfl
  | host => exact ⟨rfl, rfl, rfl, rfl, rfl⟩
  | ev => exact ⟨rfl, rfl, rfl⟩
  | _ => rfl

theorem same_symm (h : p.same s t) : p.same t s := by
  cases p with
  | mode => exact h.imp Eq.symm And.symm
  | host =>
    obtain ⟨h0, h1, h2, h3, h4⟩ := h
    exact ⟨h0.symm, h1.symm, h2.symm, h3.symm, h4.symm⟩
  | ev =>
    obtain ⟨h0, h1, h2⟩ := h
    exact ⟨h0.symm, h1.symm, h2.symm⟩
  | _ => exact Eq.symm h

theorem same_trans (h : p.same s t) (k : p.same t u) : p.same s u := by
  cases p with
  | mode =>
    rcases h with h | ⟨hs, ht⟩
    · rcases k with k | ⟨kt, ku⟩
      · exact .inl (k.trans h)
      · exact .inr ⟨h ▸ kt, ku⟩
    · rcases k with k | ⟨-, ku⟩
      · exact .inr ⟨hs, k ▸ ht⟩
      · exact .inr ⟨hs, ku⟩
  | host =>
    obtain ⟨h0, h1, h2, h3, h4⟩ := h
    obtain ⟨k0, k1, k2, k3, k4⟩ := k
    exact ⟨k0.trans h0, k1.trans h1, k2.trans h2, k3.trans h3, k4.trans h4⟩
  | ev =>
    obtain ⟨h0, h1, h2⟩ := h
    obtain ⟨k0, k1, k2⟩ := k
    exact ⟨k0.trans h0, k1.trans h1, k2.trans h2⟩
  | _ => exact Eq.trans k h

end Part

/-- States that differ inside `P` alone are taken for one. -/
def frameSetoid (P : List Part) : Setoid State where
  r := State.Frame P
  iseqv := ⟨fun s p _ => p.same_refl s, fun h p hp => Part.same_symm (h p hp), fun h k p hp => Part.same_trans (h p hp) (k p hp)⟩

/-- What a state is outside of the parts `P`. A command that leaves it alone changes `P` at most. -/
def State.outside (P : List Part) (s : State) : Quotient (frameSetoid P) := Quotient.mk (frameSetoid P) s

theorem State.frame_iff {P : List Part} {s t : State} : State.Frame P s t ↔ t.outside P = s.outside P :=
  ⟨fun h => (Quotient.sound h).symm, fun h => Quotient.exact h.symm⟩

section
variable {P : List Part}

/-- A record update leaves what is outside of `P` alone where each field is in `P` or has the value it had. -/
@[simp] theorem State.outside_mk (s : State)
    {board mode rst clk ports lt uzs ring banks active shadow staged lines shd aln sv skl ilm axes madc
    therm simmer dram pantry dma host ev sec cpu diag fresh pending}
    (hboard : .board ∈ P ∨ board = s.board) (hmode : .mode ∈ P ∨ mode = s.mode) (hrst : .rst ∈ P ∨ rst = s.rst)
    (hclk : .clk ∈ P ∨ clk = s.clk) (hports : .ports ∈ P ∨ ports = s.ports) (hlt : .lt ∈ P ∨ lt = s.lt) (huzs : .uzs ∈ P ∨ uzs = s.uzs)
    (hring : .ring ∈ P ∨ ring = s.ring) (hbanks : .banks ∈ P ∨ banks = s.banks) (hactive : .active ∈ P ∨ active = s.active)
    (hshadow : .shadow ∈ P ∨ shadow = s.shadow) (hstaged : .staged ∈ P ∨ staged = s.staged) (hlines : .lines ∈ P ∨ lines = s.lines)
    (hshd : .shd ∈ P ∨ shd = s.shd) (haln : .aln ∈ P ∨ aln = s.aln) (hsv : .sv ∈ P ∨ sv = s.sv) (hskl : .skl ∈ P ∨ skl = s.skl)
    (hilm : .ilm ∈ P ∨ ilm = s.ilm) (haxes : .axes ∈ P ∨ axes = s.axes) (hmadc : .madc ∈ P ∨ madc = s.madc)
    (htherm : .therm ∈ P ∨ therm = s.therm) (hsimmer : .simmer ∈ P ∨ simmer = s.simmer)
    (hdram : .dram ∈ P ∨ { dram with mem := [] } = { s.dram with mem := [] }) (hmem : .mem ∈ P ∨ dram.mem = s.dram.mem)
    (hpantry : .pantry ∈ P ∨ pantry = s.pantry) (hdma : .dma ∈ P ∨ dma = s.dma) (hctxs : .ctxs ∈ P ∨ host.ctxs = s.host.ctxs)
    (hhost : .host ∈ P ∨ host.port0.link_ = s.host.port0.link_ ∧ host.port1.link_ = s.host.port1.link_ ∧ host.split = s.host.split ∧
      host.beat = s.host.beat ∧ host.beatBy = s.host.beatBy)
    (hev : .ev ∈ P ∨ ev.enable = s.ev.enable ∧ ev.edge = s.ev.edge ∧ ev.route = s.ev.route) (hsec : .sec ∈ P ∨ sec = s.sec)
    (hcpu : .cpu ∈ P ∨ cpu = s.cpu) (hdiag : .diag ∈ P ∨ diag = s.diag) :
    State.outside P ⟨s.now, board, mode, rst, clk, ports, lt, uzs, ring, banks, active, shadow, staged, lines, shd, aln, sv, skl, ilm, axes,
      madc, therm, simmer, dram, pantry, dma, host, ev, sec, cpu, diag, fresh, pending⟩ = s.outside P := by
  refine State.frame_iff.1 fun p hp => ?_
  cases p with
  | board => exact hboard.resolve_left hp
  | mode => exact .inl (hmode.resolve_left hp)
  | rst => exact hrst.resolve_left hp
  | clk => exact hclk.resolve_left hp
  | ports => exact hports.resolve_left hp
  | lt => exact hlt.resolve_left hp
  | uzs => exact huzs.resolve_left hp
  | ring => exact hring.resolve_left hp
  | banks => exact hbanks.resolve_left hp
  | active => exact hactive.resolve_left hp
  | shadow => exact hshadow.resolve_left hp
  | staged => exact hstaged.resolve_left hp
  | lines => exact hlines.resolve_left hp
  | shd => exact hshd.resolve_left hp
  | aln => exact haln.resolve_left hp
  | sv => exact hsv.resolve_left hp
  | skl => exact hskl.resolve_left hp
  | ilm => exact hilm.resolve_left hp
  | axes => exact haxes.resolve_left hp
  | madc => exact hmadc.resolve_left hp
  | therm => exact htherm.resolve_left hp
  | simmer => exact hsimmer.resolve_left hp
  | dram => exact hdram.resolve_left hp
  | mem => exact hmem.resolve_left hp
  | pantry => exact hpantry.resolve_left hp
  | dma => exact hdma.resolve_left hp
  | ctxs => exact hctxs.resolve_left hp
  | host => exact hhost.resolve_left hp
  | ev => exact hev.resolve_left hp
  | sec => exact hsec.resolve_left hp
  | cpu => exact hcpu.resolve_left hp
  | diag => exact hdiag.resolve_left hp

@[simp] theorem State.outside_atTime (t : Nat) (s : State) : (s.atTime t).outside P = s.outside P :=
  State.frame_iff.1 fun p _ => p.same_refl s

/-- Levels, latches, messages and a wake from STANDBY are outside of no part. -/
theorem State.Signals.outside {s t : State} (h : s.Signals t) (hm : Part.mode.same s t) : t.outside P = s.outside P := by
  refine State.frame_iff.1 fun p _ => ?_
  obtain ⟨_, _, _, _, _, _, _, _, rfl⟩ := h
  cases p with
  | mode => exact hm
  | host => exact ⟨rfl, rfl, rfl, rfl, rfl⟩
  | ev => exact ⟨rfl, rfl, rfl⟩
  | _ => rfl

@[simp] theorem State.outside_settle (s : State) : s.settle.outside P = s.outside P := s.settle_signals.outside s.settle_same_mode

@[simp] theorem State.outside_latchSet (i : Nat) (s : State) : (s.latchSet i).outside P = s.outside P :=
  (s.latchSet_signals i).outside (s.latchSet_same_mode i)

@[simp] theorem State.outside_pulse (i : Nat) (s : State) : (s.pulse i).outside P = s.outside P := by
  unfold State.pulse
  split
  · rfl
  · exact s.outside_latchSet i

@[simp] theorem State.outside_pulseIf (c : Bool) (i : Nat) (s : State) : (s.pulseIf c i).outside P = s.outside P := by
  unfold State.pulseIf
  split
  · exact s.outside_pulse i
  · rfl

@[simp] theorem State.outside_msix (p v : Nat) (s : State) : (s.msix p v).outside P = s.outside P :=
  (s.msix_signals p v).outside (.inl (State.msix_mode ..))

@[simp] theorem State.outside_level (i : Nat) (on : Bool) (s : State) : (s.level i on).outside P = s.outside P :=
  (s.level_signals i on).outside (s.level_same_mode i on)

@[simp] theorem State.outside_ite {c : Prop} [Decidable c] (s t : State) :
    State.outside P (if c then s else t) = if c then s.outside P else t.outside P := apply_ite ..

@[simp] theorem State.outside_foldl {α : Type} {f : State → α → State} (hf : ∀ s x, (f s x).outside P = s.outside P) (l : List α)
    (s : State) :
    (l.foldl f s).outside P = s.outside P := by
  induction l generalizing s with
  | nil => rfl
  | cons x l ih => rw [List.foldl_cons, ih, hf]

@[simp] theorem State.outside_finish_inline (h : .ctxs ∈ P) (n : Nat) (st : OpState) (code : Nat) (data : List Byte) (s : State) :
    (s.finish n st code data []).outside P = s.outside P := by
  obtain ⟨-, e⟩ | ⟨f, e, -⟩ := s.finish_cases n st code data
  · rw [e]
  · rw [e]; simp [State.setCtx, h]

@[simp] theorem State.outside_emit (o : Output) (s : State) : (s.emit o).outside P = s.outside P := by
  simp [State.emit]

@[simp] theorem State.outside_free (w : Nat) (s : State) : (s.free w).2.outside P = s.outside P := by
  simp [State.free]

@[simp] theorem State.outside_frees (w n : Nat) (s : State) : (s.frees w n).2.outside P = s.outside P := by
  obtain ⟨_, e⟩ := s.frees_shape w n
  simp [e]

@[simp] theorem State.outside_pickCell (s : State) : s.pickCell.2.outside P = s.outside P := s.outside_free 16

end

end Sys2Proof.Machine
end

section
/-! PROOFS. Frames: what each operation of the model leaves alone. Every lemma names the parts that its operation may change. -/

namespace Sys2Proof.Machine
variable {P : List Part}

@[simp] theorem State.outside_finish (hctxs : .ctxs ∈ P) (hdram : .dram ∈ P) (hmem : .mem ∈ P) (n : Nat) (st : OpState) (code : Nat)
    (data pay : List Byte) (s : State) : (s.finish n st code data pay).outside P = s.outside P := by
  unfold State.finish
  split
  · rfl
  · simp [State.setCtx, State.dramWrite, State.dramReq, *]

@[simp] theorem Res.outside_apply_ite {c : Prop} [Decidable c] (n : Nat) (a b : Res) :
    ((if c then a else b).apply n).outside P = if c then (a.apply n).outside P else (b.apply n).outside P := by
  split <;> rfl

@[simp] theorem Res.outside_apply_ok (hctxs : .ctxs ∈ P) (n : Nat) (data : List Byte) (s : State) :
    ((Res.ok data [] s).apply n).outside P = s.outside P := State.outside_finish_inline hctxs ..

@[simp] theorem Res.outside_apply_ok_payload (hctxs : .ctxs ∈ P) (hdram : .dram ∈ P) (hmem : .mem ∈ P) (n : Nat) (data pay : List Byte)
    (s : State) : ((Res.ok data pay s).apply n).outside P = s.outside P := State.outside_finish hctxs hdram hmem ..

@[simp] theorem Res.outside_apply_fail (hctxs : .ctxs ∈ P) (n code : Nat) (data : List Byte) (s : State) :
    ((Res.fail code data s).apply n).outside P = s.outside P := State.outside_finish_inline hctxs ..

@[simp] theorem Res.outside_apply_go (n : Nat) (s : State) : ((Res.go s).apply n).outside P = s.outside P := rfl

@[simp] theorem Res.outside_apply_wait (hctxs : .ctxs ∈ P) (n : Nat) (s : State) : ((Res.wait s).apply n).outside P = s.outside P := by
  simp [Res.apply, State.setCtx, *]

theorem State.outside_foldl_fst {α β : Type} {f : State × β → α → State × β} (hf : ∀ r x, (f r x).1.outside P = r.1.outside P)
    (l : List α)
    (r : State × β) : (l.foldl f r).1.outside P = r.1.outside P := by
  induction l generalizing r with
  | nil => rfl
  | cons x l ih => rw [List.foldl_cons, ih, hf]

theorem State.outside_foldl_snd {α β : Type} {f : β × State → α → β × State} (hf : ∀ r x, (f r x).2.outside P = r.2.outside P)
    (l : List α)
    (r : β × State) : (l.foldl f r).2.outside P = r.2.outside P := by
  induction l generalizing r with
  | nil => rfl
  | cons x l ih => rw [List.foldl_cons, ih, hf]

theorem State.outside_foldl_snd_snd {α β γ : Type} {f : β × γ × State → α → β × γ × State}
    (hf : ∀ r x, (f r x).2.2.outside P = r.2.2.outside P) (l : List α) (r : β × γ × State) :
    (l.foldl f r).2.2.outside P = r.2.2.outside P := by
  induction l generalizing r with
  | nil => rfl
  | cons x l ih => rw [List.foldl_cons, ih, hf]

@[simp] theorem State.outside_ite_snd {α : Type} {c : Prop} [Decidable c] (a b : α × State) :
    State.outside P (if c then a else b).2 = if c then a.2.outside P else b.2.outside P := by
  split <;> rfl

@[simp] theorem State.outside_poolNote (hpantry : .pantry ∈ P) (s : State) :
    (State.poolNote s).outside P = s.outside P := by
  simp [State.poolNote, *]

@[simp] theorem State.outside_setQ (hpantry : .pantry ∈ P) (n : Nat) (f : Queue → Queue) (s : State) :
    (State.setQ n f s).outside P = s.outside P := by
  simp [State.setQ, *]

@[simp] theorem State.outside_addCell (hpantry : .pantry ∈ P) (n : Nat) (bs : List Byte) (s : State) :
    (State.addCell n bs s).outside P = s.outside P := by
  simp [State.addCell, *]

theorem State.outside_of_push (hpantry : .pantry ∈ P) {n : Nat} {bs : List Byte} {s : State} {w : State}
    (h : State.push n bs s = some w) : w.outside P = s.outside P := by
  unfold State.push at h
  dsimp only at h
  split at h
  · cases h
  · split at h
    · cases h; simp [*]
    · split at h
      · cases h; simp [*]
      · cases h

@[simp] theorem State.outside_pushSoft (hpantry : .pantry ∈ P) (n : Nat) (bs : List Byte) (s : State) :
    (State.pushSoft n bs s).outside P = s.outside P := by
  unfold State.pushSoft
  split
  · rfl
  · split
    case h_1 u hu => exact State.outside_of_push hpantry hu
    case h_2 => simp [*]

@[simp] theorem State.outside_freeCell (hpantry : .pantry ∈ P) (k : Nat) (s : State) :
    (State.freeCell k s).outside P = s.outside P := by
  simp [State.freeCell, *]

@[simp] theorem State.outside_retire (hpantry : .pantry ∈ P) (id : Nat) (s : State) :
    (State.retire id s).outside P = s.outside P := by
  simp [State.retire, *]

@[simp] theorem State.outside_pop (hpantry : .pantry ∈ P) (n : Nat) (perr soft : Bool) (s : State) :
    (State.pop n perr soft s).2.outside P = s.outside P := by
  unfold State.pop
  dsimp only
  split
  · simp [*]
  · repeat' split
    all_goals simp only [State.outside_mk, State.outside_addCell, State.outside_setQ, State.outside_pulse, State.outside_retire,
      State.outside_freeCell, hpantry, true_or, or_true, and_self]

@[simp] theorem State.outside_pushItems (hpantry : .pantry ∈ P) (n : Nat) (x0 : List (List Byte)) (s : State) :
    (State.pushItems n x0 s).outside P = s.outside P := by
  induction x0 generalizing s with
  | nil => rfl
  | cons b bs ih =>
    unfold State.pushItems
    split
    · split
      case h_1 u hu => rw [ih, State.outside_of_push hpantry hu]
      case h_2 => simp [*]
    · simp [*]

@[simp] theorem State.outside_flushQ (hpantry : .pantry ∈ P) (n : Nat) (s : State) :
    (State.flushQ n s).outside P = s.outside P := by
  simp [State.flushQ, *]

@[simp] theorem State.outside_setChan (hdma : .dma ∈ P) (c : Nat) (f : DmaChan → DmaChan) (s : State) :
    (State.setChan c f s).outside P = s.outside P := by
  simp [State.setChan, *]

@[simp] theorem State.outside_dmaFetch (hdma : .dma ∈ P) (c a : Nat) (s : State) :
    (State.dmaFetch c a s).outside P = s.outside P := by
  simp [State.dmaFetch, *]

@[simp] theorem State.outside_dmaInt (hdma : .dma ∈ P) (c : Nat) (s : State) :
    (State.dmaInt c s).outside P = s.outside P := by
  simp [State.dmaInt, *]

@[simp] theorem State.outside_dmaReread (hdma : .dma ∈ P) (c : Nat) (s : State) :
    (State.dmaReread c s).outside P = s.outside P := by
  simp [State.dmaReread, *]

@[simp] theorem State.outside_dmaStop (hdma : .dma ∈ P) (c code : Nat) (s : State) :
    (State.dmaStop c code s).outside P = s.outside P := by
  simp [State.dmaStop, *]

@[simp] theorem State.outside_dmaComplete (hdma : .dma ∈ P) (c code : Nat) (s : State) :
    (State.dmaComplete c code s).outside P = s.outside P := by
  simp [State.dmaComplete, *]

@[simp] theorem State.outside_dramReq (hdram : .dram ∈ P) (port : Nat) (write : Bool) (a n : Nat) (s : State) :
    (State.dramReq port write a n s).outside P = s.outside P := by
  simp [State.dramReq, *]

@[simp] theorem State.outside_dmaDrain (hdram : .dram ∈ P) (hdma : .dma ∈ P) (c : Nat) (s : State) :
    (State.dmaDrain c s).outside P = s.outside P := by
  simp [State.dmaDrain, *]

@[simp] theorem State.outside_dmaNext (hdram : .dram ∈ P) (hdma : .dma ∈ P) (c : Nat) (s : State) :
    (State.dmaNext c s).outside P = s.outside P := by
  simp [State.dmaNext, *]

@[simp] theorem State.outside_done (hctxs : .ctxs ∈ P) (n : Nat) (data : List Byte) (s : State) :
    (State.done n data s).outside P = s.outside P := by
  simp [State.done, *]

@[simp] theorem State.outside_setPort (hhost : .host ∈ P) (p : Nat) (f : HostPort → HostPort) (s : State) :
    (State.setPort p f s).outside P = s.outside P := by
  simp [State.setPort, *]

@[simp] theorem State.outside_quiesceCheck (hctxs : .ctxs ∈ P) (hhost : .host ∈ P) (s : State) (p : Nat) :
    (State.quiesceCheck s p).outside P = s.outside P := by
  unfold State.quiesceCheck
  split <;> simp [*]

@[simp] theorem State.outside_dramWrite (hdram : .dram ∈ P) (hmem : .mem ∈ P) (port a : Nat) (bs : List Byte) (s : State) :
    (State.dramWrite port a bs s).outside P = s.outside P := by
  simp [State.dramWrite, *]

@[simp] theorem State.outside_dmaPut (hdram : .dram ∈ P) (hmem : .mem ∈ P) (hdma : .dma ∈ P) (c off : Nat) (bs : List Byte)
    (poisoned : List (Nat × Nat)) (s : State) :
    (State.dmaPut c off bs poisoned s).outside P = s.outside P := by
  simp [State.dmaPut, *]

@[simp] theorem State.outside_dmaPops (hpantry : .pantry ∈ P) (q n : Nat) (perr : Bool) (x0 : Nat) (x1 : List Byte) (s : State) :
    (State.dmaPops q n perr x0 x1 s).2.2.outside P = s.outside P := by
  induction x0 generalizing perr x1 s with
  | zero => rfl
  | succ k ih =>
    unfold State.dmaPops
    split
    · rfl
    · simp [*]

@[simp] theorem State.outside_dmaQueueBurst (hdram : .dram ∈ P) (hmem : .mem ∈ P) (hpantry : .pantry ∈ P) (hdma : .dma ∈ P)
    (c : Nat) (perr : Bool) (s : State) :
    (State.dmaQueueBurst c perr s).outside P = s.outside P := by
  simp [State.dmaQueueBurst, *]

@[simp] theorem State.outside_dmaAbort (hdram : .dram ∈ P) (hdma : .dma ∈ P) (c : Nat) (s : State) :
    (State.dmaAbort c s).outside P = s.outside P := by
  unfold State.dmaAbort
  dsimp only
  (repeat' split) <;> simp [*]

@[simp] theorem State.outside_dmaStart (hdram : .dram ∈ P) (hdma : .dma ∈ P) (c : Nat) (abortToo : Bool) (s : State) :
    (State.dmaStart c abortToo s).outside P = s.outside P := by
  simp [State.dmaStart, *]

@[simp] theorem State.outside_dmaKick (hdma : .dma ∈ P) (c : Nat) (s : State) :
    (State.dmaKick c s).outside P = s.outside P := by
  unfold State.dmaKick
  dsimp only
  (repeat' split) <;> simp [*]

@[simp] theorem State.outside_dmaErrClear (hdma : .dma ∈ P) (s : State) :
    (State.dmaErrClear s).outside P = s.outside P := by
  simp [State.dmaErrClear, *]

@[simp] theorem State.outside_dmaKill (hdma : .dma ∈ P) (st : DmaState) (s : State) (c : Nat) :
    (State.dmaKill st s c).outside P = s.outside P := by
  simp [State.dmaKill, *]

@[simp] theorem State.outside_busError (hdma : .dma ∈ P) (kind port addr : Nat) (s : State) :
    (State.busError kind port addr s).outside P = s.outside P := by
  simp [State.busError, *]

@[simp] theorem State.outside_setDch (hdram : .dram ∈ P) (c : Nat) (f : DramChan → DramChan) (s : State) :
    (State.setDch c f s).outside P = s.outside P := by
  simp [State.setDch, *]

@[simp] theorem State.outside_classTo (hdram : .dram ∈ P) (ch cls : Nat) (s : State) :
    (State.classTo ch cls s).outside P = s.outside P := by
  simp [State.classTo, *]

@[simp] theorem State.outside_classStep (hdram : .dram ∈ P) (ch : Nat) (s : State) :
    (State.classStep ch s).outside P = s.outside P := by
  simp [State.classStep, *]

@[simp] theorem State.outside_panNote (hdram : .dram ∈ P) (hpantry : .pantry ∈ P) (p c : Nat) (s : State) :
    (State.panNote p c s).outside P = s.outside P := by
  simp [State.panNote, *]

@[simp] theorem State.outside_panNotes (hdram : .dram ∈ P) (hpantry : .pantry ∈ P) (c : Nat) (s : State) :
    (State.panNotes c s).outside P = s.outside P := by
  simp [State.panNotes, *]

@[simp] theorem State.outside_panMove (hpantry : .pantry ∈ P) (p c : Nat) (s : State) :
    (State.panMove p c s).outside P = s.outside P := by
  simp [State.panMove, *]

@[simp] theorem State.outside_serve (hdram : .dram ∈ P) (hpantry : .pantry ∈ P) (ch : Nat) (r : DramReq) (s : State) :
    (State.serve ch r s).outside P = s.outside P := by
  simp [State.serve, State.setDch, *]

@[simp] theorem State.outside_logErr (hdram : .dram ∈ P) (addr ch port type : Nat) (words : BitVec 8) (s : State) :
    (State.logErr addr ch port type words s).outside P = s.outside P := by
  unfold State.logErr
  dsimp only
  split
  · simp [*]
  · split
    · simp [State.free, *]
    · split
      · simp [*]
      · split <;> simp [State.free, *]

@[simp] theorem State.outside_failWith (hctxs : .ctxs ∈ P) (n code : Nat) (s : State) :
    (State.failWith n code s).outside P = s.outside P := by
  simp [State.failWith, *]

@[simp] theorem State.outside_chFail (hdram : .dram ∈ P) (hctxs : .ctxs ∈ P) (ch : Nat) (s : State) :
    (State.chFail ch s).outside P = s.outside P := by
  unfold State.chFail
  dsimp only
  (repeat' split) <;>
    simp only [State.outside_mk, State.outside_failWith, State.outside_pulse, hdram, hctxs, true_or, or_true, and_self]

@[simp] theorem State.outside_noteBlock (hdram : .dram ∈ P) (hctxs : .ctxs ∈ P) (ch b : Nat) (s : State) :
    (State.noteBlock ch b s).outside P = s.outside P := by
  simp [State.noteBlock, *]

@[simp] theorem State.outside_poisonBlock (hdram : .dram ∈ P) (hmem : .mem ∈ P) (b : Nat) (s : State) :
    (State.poisonBlock b s).outside P = s.outside P := by
  simp [State.poisonBlock, *]

@[simp] theorem State.outside_eccErr (hdram : .dram ∈ P) (hmem : .mem ∈ P) (hctxs : .ctxs ∈ P) (addr ch port : Nat) (data : Bool)
    (err : EccResult) (s : State) :
    (State.eccErr addr ch port data err s).outside P = s.outside P := by
  unfold State.eccErr
  split <;> simp [*]

@[simp] theorem State.outside_found (r : DramReq) (err : EccResult) (s : State) :
    (State.found r err s).2.outside P = s.outside P := by
  unfold State.found
  split <;> simp [*]

@[simp] theorem State.outside_moved (hdram : .dram ∈ P) (port n : Nat) (s : State) :
    (State.moved port n s).outside P = s.outside P := by
  simp [State.moved, *]

@[simp] theorem State.outside_setCtx (hctxs : .ctxs ∈ P) (n : Nat) (f : Ctx → Ctx) (s : State) :
    (State.setCtx n f s).outside P = s.outside P := by
  simp [State.setCtx, *]

@[simp] theorem State.outside_wakeZero (hmode : .mode ∈ P) (hdram : .dram ∈ P) (hmem : .mem ∈ P) (hctxs : .ctxs ∈ P) (s : State) :
    (State.wakeZero s).outside P = s.outside P := by
  unfold State.wakeZero
  (repeat' split) <;> simp [*]

@[simp] theorem State.outside_partialRec (hdram : .dram ∈ P) (hmem : .mem ∈ P) (hctxs : .ctxs ∈ P) (n skip : Nat) (rec : List Byte)
    (s : State) :
    (State.partialRec n skip rec s).outside P = s.outside P := by
  simp [State.partialRec, *]

@[simp] theorem State.outside_testPasses (hdram : .dram ∈ P) (hmem : .mem ∈ P) (hctxs : .ctxs ∈ P) (n : Nat) (x0 : Nat) (x1 : Nat)
    (s : State) :
    (State.testPasses n x0 x1 s).2.outside P = s.outside P := by
  induction x0 generalizing x1 s with
  | zero => rfl
  | succ k ih => simp [State.testPasses, *]

theorem State.outside_of_nvPut (hsec : .sec ∈ P) {id : NvId} {data : List Byte} {why : NvWhy} {ctx : Option Nat} {s : State} {w : State}
    (h : State.nvPut id data why ctx s = some w) : w.outside P = s.outside P := by
  unfold State.nvPut at h
  split at h
  · cases h
  · cases h; simp [*]

@[simp] theorem State.outside_winResult_apply (hctxs : .ctxs ∈ P) (hdram : .dram ∈ P) (hmem : .mem ∈ P) (w off : Nat)
    (bs data : List Byte) (s : State) (n0 : Nat) :
    ((State.winResult w off bs data s).apply n0).outside P = s.outside P := by
  simp [State.winResult, *]

@[simp] theorem State.outside_setWin (hdram : .dram ∈ P) (w : Nat) (x : Option Window) (s : State) :
    (State.setWin w x s).outside P = s.outside P := by
  simp [State.setWin, *]

@[simp] theorem State.outside_bar2Reqs (hdram : .dram ∈ P) (port : Nat) (write : Bool) (as : List Nat) (s : State) :
    (State.bar2Reqs port write as s).outside P = s.outside P := by
  simp [State.bar2Reqs, *]

@[simp] theorem State.outside_bar2Put (hmem : .mem ∈ P) (x0 : Nat) (x1 : List Byte) (s : State) :
    (State.bar2Put x0 x1 s).outside P = s.outside P := by
  induction x1 generalizing x0 s with
  | nil => rfl
  | cons b bs ih =>
    unfold State.bar2Put
    split <;> simp [*]

@[simp] theorem State.outside_setSeg (hports : .ports ∈ P) (p : Nat) (f : PortUnit → PortUnit) (s : State) :
    (State.setSeg p f s).outside P = s.outside P := by
  simp [State.setSeg, *]

@[simp] theorem State.outside_portEvent (hports : .ports ∈ P) (p : Nat) (causes : BitVec 6) (s : State) :
    (State.portEvent p causes s).outside P = s.outside P := by
  simp [State.portEvent, *]

@[simp] theorem State.outside_portTo (hports : .ports ∈ P) (p : Nat) (st : PortSt) (s : State) :
    (State.portTo p st s).outside P = s.outside P := by
  simp [State.portTo, *]

@[simp] theorem State.outside_syncCover (hports : .ports ∈ P) (p : Nat) (s : State) :
    (State.syncCover p s).outside P = s.outside P := by
  simp [State.syncCover, *]

@[simp] theorem State.outside_syncDie (hports : .ports ∈ P) (k : Nat) (s : State) :
    (State.syncDie k s).outside P = s.outside P := by
  simp [State.syncDie, *]

@[simp] theorem State.outside_stage (hshadow : .shadow ∈ P) (hstaged : .staged ∈ P) (op : Nat) (f : Tables → Tables) (s : State) :
    (State.stage op f s).outside P = s.outside P := by
  simp [State.stage, *]

@[simp] theorem State.outside_staging_apply (hctxs : .ctxs ∈ P) (i : Instr) (h : Hdr) (ops : List Nat) (body : State → Res) (s : State)
    (k : Nat) (hbody : ∀ u, ((body u).apply k).outside P = u.outside P) :
    ((s.staging i h ops body).apply k).outside P = s.outside P := by
  unfold State.staging
  split
  · simp [State.setCtx, *]
  · exact hbody s

@[simp] theorem State.outside_stagePort_apply (hctxs : .ctxs ∈ P) (hshadow : .shadow ∈ P) (hstaged : .staged ∈ P) (i : Instr)
    (h : Hdr) (port : Nat) (c : PortCmd) (more : State → Bool) (s : State) (n0 : Nat) :
    ((stagePort i h port c more s).apply n0).outside P = s.outside P := by
  simp [stagePort, *]

@[simp] theorem State.outside_setDie (hports : .ports ∈ P) (k : Nat) (f : FeDie → FeDie) (s : State) :
    (State.setDie k f s).outside P = s.outside P := by
  simp [State.setDie, *]

@[simp] theorem State.outside_setCh (hports : .ports ∈ P) (k c : Nat) (f : Channel → Channel) (s : State) :
    (State.setCh k c f s).outside P = s.outside P := by
  simp [State.setCh, *]

@[simp] theorem State.outside_spareNote (hports : .ports ∈ P) (k : Nat) (s : State) :
    (State.spareNote k s).outside P = s.outside P := by
  simp [State.spareNote, *]

@[simp] theorem State.outside_declareFailed (hports : .ports ∈ P) (k c : Nat) (s : State) :
    (State.declareFailed k c s).outside P = s.outside P := by
  unfold State.declareFailed
  (repeat' split) <;> simp [*]

@[simp] theorem State.outside_fgResult (hports : .ports ∈ P) (s : State) (r : CalResult) :
    (State.fgResult s r).outside P = s.outside P := by
  unfold State.fgResult
  dsimp only
  (repeat' split) <;> simp [*]

theorem State.outside_of_foldl_option {α : Type} {f : State → α → Option State}
    (hf : ∀ s x u, f s x = some u → u.outside P = s.outside P)
    (l : List α) {s u : State} (h : l.foldl (fun (r : Option State) x => r.bind (fun s => f s x)) (some s) = some u) :
    u.outside P = s.outside P := by
  induction l generalizing s with
  | nil => cases h; rfl
  | cons x l ih =>
    rw [List.foldl_cons, Option.bind_some] at h
    cases hx : f s x with
    | none =>
      have hnone : l.foldl (fun (r : Option State) x => r.bind (fun s => f s x)) none = none := by
        clear h ih; induction l <;> simp [*]
      rw [hx, hnone] at h
      cases h
    | some v =>
      rw [hx] at h
      exact (ih h).trans (hf s x v hx)

theorem State.outside_of_saveTrims (hsec : .sec ∈ P) {ctx : Option Nat} {s : State} {u : State} (h : s.saveTrims ctx = some u) :
    u.outside P = s.outside P := by
  refine State.outside_of_foldl_option (fun s k u hu => ?_) _ h
  obtain ⟨v, hv, hu⟩ := Option.bind_eq_some_iff.1 hu
  exact (State.outside_of_nvPut hsec hu).trans (State.outside_of_nvPut hsec hv)

@[simp] theorem State.outside_saveTrims_getD (hsec : .sec ∈ P) (ctx : Option Nat) (s : State) :
    State.outside P ((s.saveTrims ctx).getD s) = s.outside P := by
  cases h : s.saveTrims ctx with
  | none => rfl
  | some u => exact State.outside_of_saveTrims hsec h

@[simp] theorem State.outside_startBack (hports : .ports ∈ P) (k : Nat) (s : State) :
    (State.startBack k s).outside P = s.outside P := by
  unfold State.startBack
  (repeat' split) <;> simp [*]

@[simp] theorem State.outside_substitute (hports : .ports ∈ P) (k : Nat) (s : State) :
    (State.substitute k s).outside P = s.outside P := by
  unfold State.substitute
  dsimp only
  rw [State.outside_syncDie hports, State.outside_spareNote hports, State.outside_foldl]
  intro s c
  split <;> simp [*]

@[simp] theorem State.outside_endStep (hports : .ports ∈ P) (k c : Nat) (s : State) :
    (State.endStep k c s).outside P = s.outside P := by
  simp [State.endStep, *]

@[simp] theorem State.outside_handed (hports : .ports ∈ P) (k : Nat) (h : Handover) (s : State) :
    (State.handed k h s).outside P = s.outside P := by
  simp [State.handed, *]

@[simp] theorem State.outside_switchTaps (hports : .ports ∈ P) (k : Nat) (h : Handover) (s : State) :
    (State.switchTaps k h s).outside P = s.outside P := by
  simp [State.switchTaps, *]

@[simp] theorem State.outside_takeOver (hports : .ports ∈ P) (k : Nat) (h : Handover) (s : State) :
    (State.takeOver k h s).outside P = s.outside P := by
  simp [State.takeOver, *]

@[simp] theorem State.outside_takerFails (hports : .ports ∈ P) (k : Nat) (h : Handover) (s : State) :
    (State.takerFails k h s).outside P = s.outside P := by
  simp [State.takerFails, *]

@[simp] theorem State.outside_notAccepted (hports : .ports ∈ P) (k c : Nat) (last : State → State) (s : State)
    (hlast : (last s).outside P = s.outside P) : (State.notAccepted k c last s).outside P = s.outside P := by
  unfold State.notAccepted
  split <;> simp [*]

@[simp] theorem State.outside_trimDie (hports : .ports ∈ P) (k : Nat) (temp : Int) (s : State) :
    (State.trimDie k temp s).outside P = s.outside P := by
  simp [State.trimDie, *]

@[simp] theorem State.outside_powerDown (hports : .ports ∈ P) (p : Nat) (s : State) :
    (State.powerDown p s).outside P = s.outside P := by
  simp [State.powerDown, *]

@[simp] theorem State.outside_removePort (hports : .ports ∈ P) (p : Nat) (s : State) :
    (State.removePort p s).outside P = s.outside P := by
  simp [State.removePort, *]

@[simp] theorem State.outside_dieOff (hclk : .clk ∈ P) (hports : .ports ∈ P) (k : Nat) (s : State) :
    (State.dieOff k s).outside P = s.outside P := by
  simp [State.dieOff, *]

@[simp] theorem State.outside_restoreTrims (hports : .ports ∈ P) (k : Nat) (s : State) :
    (State.restoreTrims k s).outside P = s.outside P := by
  simp [State.restoreTrims, *]

@[simp] theorem State.outside_dieBoundary (hports : .ports ∈ P) (k : Nat) (s : State) :
    (State.dieBoundary k s).outside P = s.outside P := by
  unfold State.dieBoundary
  dsimp only
  (repeat' split) <;> simp [*]

@[simp] theorem State.outside_setLine (hlines : .lines ∈ P) (seq : BitVec 32) (f : LineRec → LineRec) (s : State) :
    (State.setLine seq f s).outside P = s.outside P := by
  simp [State.setLine, *]

@[simp] theorem State.outside_setMadc (hmadc : .madc ∈ P) (f : Madc → Madc) (s : State) :
    (State.setMadc f s).outside P = s.outside P := by
  simp [State.setMadc, *]

@[simp] theorem State.outside_accumulate (hmadc : .madc ∈ P) (n code : Nat) (oor sarKind close : Bool) (s : State) :
    (State.accumulate n code oor sarKind close s).outside P = s.outside P := by
  simp [State.accumulate, *]

@[simp] theorem State.outside_supplySkew (hclk : .clk ∈ P) (s : State) :
    (State.supplySkew s).outside P = s.outside P := by
  simp [State.supplySkew, *]

@[simp] theorem State.outside_loopBoundary (hclk : .clk ∈ P) (hmadc : .madc ∈ P) (s : State) :
    (State.loopBoundary s).outside P = s.outside P := by
  simp [State.loopBoundary, *]

@[simp] theorem State.outside_setConv (hmadc : .madc ∈ P) (c : Nat) (f : Conv → Conv) (s : State) :
    (State.setConv c f s).outside P = s.outside P := by
  simp [State.setConv, *]

@[simp] theorem State.outside_startCal (hmadc : .madc ∈ P) (c : Nat) (cont : ConvWork) (s : State) :
    (State.startCal c cont s).outside P = s.outside P := by
  simp [State.startCal, *]

@[simp] theorem State.outside_startConv (hmadc : .madc ∈ P) (c : Nat) (w : ConvWork) (settle : Nat) (s : State) :
    (State.startConv c w settle s).outside P = s.outside P := by
  simp [State.startConv, *]

@[simp] theorem State.outside_takeEntry (hmadc : .madc ∈ P) (c : Nat) (s : State) :
    (State.takeEntry c s).outside P = s.outside P := by
  unfold State.takeEntry
  (repeat' split) <;> simp [*]

@[simp] theorem State.outside_tryShared (hmadc : .madc ∈ P) (s : State) :
    (State.tryShared s).outside P = s.outside P := by
  simp [State.tryShared, *]

@[simp] theorem State.outside_convNext (hclk : .clk ∈ P) (hmadc : .madc ∈ P) (c : Nat) (cont : ConvWork) (resumed : Bool) (s : State) :
    (State.convNext c cont resumed s).outside P = s.outside P := by
  simp [State.convNext, *]

@[simp] theorem State.outside_calRequest (hmadc : .madc ∈ P) (s : State) :
    (State.calRequest s).outside P = s.outside P := by
  simp [State.calRequest, *]

@[simp] theorem State.outside_calDone (hmadc : .madc ∈ P) (hctxs : .ctxs ∈ P) (s : State) :
    (State.calDone s).outside P = s.outside P := by
  unfold State.calDone
  split <;> simp [*]

@[simp] theorem State.outside_injectLost (hmadc : .madc ∈ P) (hctxs : .ctxs ∈ P) (s : State) :
    (State.injectLost s).outside P = s.outside P := by
  unfold State.injectLost
  split <;> simp [*]

@[simp] theorem State.outside_convOut (hmadc : .madc ∈ P) (hctxs : .ctxs ∈ P) (c : Nat) (st : ConvState) (s : State) :
    (State.convOut c st s).outside P = s.outside P := by
  simp [State.convOut, *]

@[simp] theorem State.outside_kickConvs (hclk : .clk ∈ P) (hmadc : .madc ∈ P) (s : State) :
    (State.kickConvs s).outside P = s.outside P := by
  simp [State.kickConvs, *]

@[simp] theorem State.outside_convFail (hclk : .clk ∈ P) (hmadc : .madc ∈ P) (hctxs : .ctxs ∈ P) (c : Nat) (s : State) :
    (State.convFail c s).outside P = s.outside P := by
  simp [State.convFail, *]

@[simp] theorem State.outside_crossCheck (hclk : .clk ∈ P) (hmadc : .madc ∈ P) (hctxs : .ctxs ∈ P) (s : State) :
    (State.crossCheck s).outside P = s.outside P := by
  unfold State.crossCheck
  (repeat' split) <;> simp [*]

@[simp] theorem State.outside_testStep (hclk : .clk ∈ P) (hmadc : .madc ∈ P) (hctxs : .ctxs ∈ P) (c n code : Nat) (oor : Bool)
    (s : State) :
    (State.testStep c n code oor s).outside P = s.outside P := by
  unfold State.testStep
  (repeat' split) <;> simp [*]

@[simp] theorem State.outside_convEnd (hclk : .clk ∈ P) (hmadc : .madc ∈ P) (hctxs : .ctxs ∈ P) (c raw : Nat) (oor : Bool) (s : State) :
    (State.convEnd c raw oor s).outside P = s.outside P := by
  unfold State.convEnd
  dsimp only
  (repeat' split) <;> simp [*]

@[simp] theorem State.outside_setRow (hilm : .ilm ∈ P) (w : Nat) (f : RowUnit → RowUnit) (s : State) :
    (State.setRow w f s).outside P = s.outside P := by
  simp [State.setRow, *]

@[simp] theorem State.outside_regulate (hilm : .ilm ∈ P) (w : Nat) (seq : BitVec 32) (i : Nat) (d : Nat × Nat) (s : State) :
    (State.regulate w seq i d s).outside P = s.outside P := by
  simp [State.regulate, *]

@[simp] theorem State.outside_setChain (hilm : .ilm ∈ P) (c : Nat) (f : ChainUnit → ChainUnit) (s : State) :
    (State.setChain c f s).outside P = s.outside P := by
  simp [State.setChain, *]

@[simp] theorem State.outside_lswDone (hshadow : .shadow ∈ P) (hstaged : .staged ∈ P) (hilm : .ilm ∈ P) (hctxs : .ctxs ∈ P)
    (c : Nat) (s : State) :
    (State.lswDone c s).outside P = s.outside P := by
  unfold State.lswDone
  split <;> simp [*]

@[simp] theorem State.outside_lswResume (hshadow : .shadow ∈ P) (hstaged : .staged ∈ P) (hilm : .ilm ∈ P) (hctxs : .ctxs ∈ P)
    (s : State) :
    (State.lswResume s).outside P = s.outside P := by
  simp [State.lswResume, *]

@[simp] theorem State.outside_lampFailed (hilm : .ilm ∈ P) (c : Nat) (x : Nat × Nat × Nat) (seq : BitVec 32) (s : State) :
    (State.lampFailed c x seq s).outside P = s.outside P := by
  simp [State.lampFailed, *]

@[simp] theorem State.outside_lampTestEnd (hilm : .ilm ∈ P) (hdram : .dram ∈ P) (hmem : .mem ∈ P) (hctxs : .ctxs ∈ P) (st : OpState)
    (code : Nat) (s : State) :
    (State.lampTestEnd st code s).outside P = s.outside P := by
  unfold State.lampTestEnd
  split <;> simp [*]

@[simp] theorem State.outside_dramRead (hdram : .dram ∈ P) (port a n : Nat) (s : State) :
    (State.dramRead port a n s).2.outside P = s.outside P := by
  simp [State.dramRead, *]

@[simp] theorem State.outside_setShd (hshd : .shd ∈ P) (f : ShdUnit → ShdUnit) (s : State) :
    (State.setShd f s).outside P = s.outside P := by
  simp [State.setShd, *]

@[simp] theorem State.outside_stageSet (hstaged : .staged ∈ P) (hshd : .shd ∈ P) (k : Nat) (x : ShdSet) (s : State) :
    (State.stageSet k x s).outside P = s.outside P := by
  simp [State.stageSet, *]

@[simp] theorem State.outside_putFilters (hshd : .shd ∈ P) (fs : SMap Filter) (s : State) :
    (State.putFilters fs s).outside P = s.outside P := by
  simp [State.putFilters, *]

@[simp] theorem State.outside_shdEcc (hlines : .lines ∈ P) (hshd : .shd ∈ P) (slot word bitsBad : Nat) (s : State) :
    (State.shdEcc slot word bitsBad s).outside P = s.outside P := by
  simp [State.shdEcc, *]

@[simp] theorem State.outside_setCal (hshd : .shd ∈ P) (f : ShdCal → ShdCal) (s : State) :
    (State.setCal f s).outside P = s.outside P := by
  simp [State.setCal, *]

@[simp] theorem State.outside_shdSettle (hshd : .shd ∈ P) (s : State) :
    (State.shdSettle s).outside P = s.outside P := by
  simp [State.shdSettle, *]

@[simp] theorem State.outside_setAx (haxes : .axes ∈ P) (x : Nat) (f : Axis → Axis) (s : State) :
    (State.setAx x f s).outside P = s.outside P := by
  simp [State.setAx, *]

@[simp] theorem State.outside_queueMove (haxes : .axes ∈ P) (x : Nat) (m : Move) (s : State) :
    (State.queueMove x m s).outside P = s.outside P := by
  simp [State.queueMove, *]

@[simp] theorem State.outside_tileMove (haxes : .axes ∈ P) (x : Nat) (target : Int) (s : State) :
    (State.tileMove x target s).outside P = s.outside P := by
  simp [State.tileMove, *]

@[simp] theorem State.outside_shdDark (hshd : .shd ∈ P) (hilm : .ilm ∈ P) (s : State) :
    (State.shdDark s).outside P = s.outside P := by
  simp [State.shdDark, *]

@[simp] theorem State.outside_fevUpdate (hskl : .skl ∈ P) (s : State) :
    (State.fevUpdate s).outside P = s.outside P := by
  simp [State.fevUpdate, *]

@[simp] theorem State.outside_sklTables (hskl : .skl ∈ P) (t : Tables) (s : State) :
    (State.sklTables t s).outside P = s.outside P := by
  simp [State.sklTables, *]

@[simp] theorem State.outside_slkQueue (hskl : .skl ∈ P) (r : LineRec) (due : Nat) (s : State) :
    (State.slkQueue r due s).outside P = s.outside P := by
  simp [State.slkQueue, *]

@[simp] theorem State.outside_sklBegin (hskl : .skl ∈ P) (r : LineRec) (s : State) :
    (State.sklBegin r s).outside P = s.outside P := by
  unfold State.sklBegin
  split <;> simp [*]

theorem State.outside_of_sklLine (hskl : .skl ∈ P) {g : Nat} {s : State} {r : LineRec × State} (h : s.sklLine g = some r) :
    r.2.outside P = s.outside P := by
  unfold State.sklLine at h
  dsimp only at h
  repeat' split at h
  all_goals cases h
  all_goals simp [*]

@[simp] theorem State.outside_sklOver (hskl : .skl ∈ P) (s : State) :
    (State.sklOver s).2.outside P = s.outside P := by
  unfold State.sklOver
  (repeat' split) <;> simp [*]

@[simp] theorem State.outside_sklGo (hskl : .skl ∈ P) (x0 : Nat) (s : State) :
    (State.sklGo x0 s).outside P = s.outside P := by
  induction x0 generalizing s with
  | zero => rfl
  | succ k ih =>
    unfold State.sklGo
    dsimp only
    (repeat' split) <;> simp [*]

@[simp] theorem State.outside_sklTick (hskl : .skl ∈ P) (s : State) :
    (State.sklTick s).outside P = s.outside P := by
  simp [State.sklTick, *]

@[simp] theorem State.outside_sampleSlot (hports : .ports ∈ P) (hlines : .lines ∈ P) (port : BitVec 6) (input : BitVec 4)
    (slot : BitVec 10) (sv sr : Int) (overRange residue : Bool) (s1 : State) :
    (State.sampleSlot port input slot sv sr overRange residue s1).outside P = s1.outside P := by
  unfold State.sampleSlot
  dsimp only
  (repeat' split) <;> simp [*]

@[simp] theorem State.outside_shdRead (hlines : .lines ∈ P) (hshd : .shd ∈ P) (i slot : Nat) (ecc : List (BitVec 3 × BitVec 2))
    (s : State) :
    (State.shdRead i slot ecc s).outside P = s.outside P := by
  unfold State.shdRead
  dsimp only
  (repeat' split) <;> simp [*]

@[simp] theorem State.outside_qualLine (hports : .ports ∈ P) (r : LineRec) (p : Nat) (s : State) :
    (State.qualLine r p s).outside P = s.outside P := by
  unfold State.qualLine
  (repeat' split) <;> simp [*]

@[simp] theorem State.outside_programEnd (hports : .ports ∈ P) (k : Nat) (s1 : State) :
    (State.programEnd k s1).outside P = s1.outside P := by
  unfold State.programEnd
  dsimp only
  (repeat' split) <;> simp [*]

@[simp] theorem State.outside_setJob (hsv : .sv ∈ P) (f : Job → Job) (s : State) :
    (State.setJob f s).outside P = s.outside P := by
  simp [State.setJob, *]

@[simp] theorem State.outside_setPage (hsv : .sv ∈ P) (k : Nat) (f : SvPage → SvPage) (s : State) :
    (State.setPage k f s).outside P = s.outside P := by
  simp [State.setPage, *]

@[simp] theorem State.outside_svSet (hsv : .sv ∈ P) (pg k : Nat) (x : SvProg) (s : State) :
    (State.svSet pg k x s).outside P = s.outside P := by
  simp [State.svSet, *]

@[simp] theorem State.outside_cropGo (hsv : .sv ∈ P) (pg : Nat) (s : State) :
    (State.cropGo pg s).outside P = s.outside P := by
  unfold State.cropGo
  split <;> simp [*]

@[simp] theorem State.outside_pushHard (hpantry : .pantry ∈ P) (n : Nat) (bs : List Byte) (s : State) :
    (State.pushHard n bs s).outside P = s.outside P := by
  simp [State.pushHard, *]

@[simp] theorem State.outside_svRecord (hpantry : .pantry ∈ P) (k : Nat) (bs : List Byte) (s : State) :
    (State.svRecord k bs s).outside P = s.outside P := by
  unfold State.svRecord
  split <;> simp [*]

@[simp] theorem State.outside_ladleOut (hsv : .sv ∈ P) (hpantry : .pantry ∈ P) (pg : Nat) (last : Bool) (s : State) :
    (State.ladleOut pg last s).outside P = s.outside P := by
  unfold State.ladleOut
  dsimp only
  split
  · refine State.outside_foldl (fun s t => ?_) _ _
    split
    · rfl
    · simp [*]
  · rfl

@[simp] theorem State.outside_ladleGo (hsv : .sv ∈ P) (hpantry : .pantry ∈ P) (pg : Nat) (s : State) :
    (State.ladleGo pg s).outside P = s.outside P := by
  unfold State.ladleGo
  split <;> simp [*]

@[simp] theorem State.outside_previewGo (hsv : .sv ∈ P) (hpantry : .pantry ∈ P) (pg : Nat) (s : State) :
    (State.previewGo pg s).outside P = s.outside P := by
  unfold State.previewGo
  split <;> simp [*]

@[simp] theorem State.outside_defect (hsv : .sv ∈ P) (hpantry : .pantry ∈ P) (pg : Nat) (b : List OverPix) (s : State) :
    (State.defect pg b s).outside P = s.outside P := by
  unfold State.defect
  split <;> simp [*]

@[simp] theorem State.outside_emitBlobs (hsv : .sv ∈ P) (hpantry : .pantry ∈ P) (pg row rows : Nat) (s : State) :
    (State.emitBlobs pg row rows s).outside P = s.outside P := by
  unfold State.emitBlobs
  (repeat' split) <;> simp [*]

@[simp] theorem State.outside_judge (hsv : .sv ∈ P) (pg : Nat) (s : State) :
    (State.judge pg s).outside P = s.outside P := by
  unfold State.judge
  split <;> simp [*]

@[simp] theorem State.outside_sieveRows (hsv : .sv ∈ P) (hpantry : .pantry ∈ P) (pg : Nat) (x0 : Nat) (s : State) :
    (State.sieveRows pg x0 s).outside P = s.outside P := by
  induction x0 generalizing s with
  | zero => rfl
  | succ k ih =>
    unfold State.sieveRows
    dsimp only
    (repeat' split) <;> simp [*]

@[simp] theorem State.outside_sieveGo (hsv : .sv ∈ P) (hpantry : .pantry ∈ P) (pg : Nat) (s : State) :
    (State.sieveGo pg s).outside P = s.outside P := by
  unfold State.sieveGo
  dsimp only
  (repeat' split) <;> simp [*]

@[simp] theorem State.outside_tongsGo (hsv : .sv ∈ P) (hpantry : .pantry ∈ P) (pg : Nat) (s : State) :
    (State.tongsGo pg s).outside P = s.outside P := by
  unfold State.tongsGo
  split <;> simp [*]

@[simp] theorem State.outside_svAdvance (hsv : .sv ∈ P) (hpantry : .pantry ∈ P) (s : State) :
    (State.svAdvance s).outside P = s.outside P := by
  unfold State.svAdvance
  split <;> simp [*]

@[simp] theorem State.outside_bandFetch (hdram : .dram ∈ P) (r : RefSub) (ty : Nat) (m : Int) (s : State) :
    (State.bandFetch r ty m s).outside P = s.outside P := by
  unfold State.bandFetch
  split <;> simp [*]

@[simp] theorem State.outside_svIo (hdram : .dram ∈ P) (port : Nat) (write : Bool) (page unit n : Nat) (s : State) :
    (State.svIo port write page unit n s).outside P = s.outside P := by
  simp [State.svIo, *]

@[simp] theorem State.outside_unitIo (hdram : .dram ∈ P) (g : PageView) (p : SvPage) (u : SvUnit) (s : State) :
    (State.unitIo g p u s).outside P = s.outside P := by
  unfold State.unitIo
  (repeat' split) <;> simp [*]

theorem State.outside_of_svStart (hsv : .sv ∈ P) (hsimmer : .simmer ∈ P) (hdram : .dram ∈ P) {u : SvUnit} {s : State} {w : State}
    (h : State.svStart u s = some w) : w.outside P = s.outside P := by
  unfold State.svStart at h
  dsimp only at h
  repeat' split at h
  all_goals cases h
  all_goals simp [*]

@[simp] theorem State.outside_svDispatch (hsv : .sv ∈ P) (hsimmer : .simmer ∈ P) (hdram : .dram ∈ P) (s : State) :
    (State.svDispatch s).outside P = s.outside P := by
  unfold State.svDispatch
  split
  · rfl
  · refine State.outside_foldl_fst (fun r u => ?_) _ _
    split
    · rfl
    · split
      case h_1 v hv => exact State.outside_of_svStart hsv hsimmer hdram hv
      case h_2 => rfl

@[simp] theorem State.outside_svDone (hsv : .sv ∈ P) (hpantry : .pantry ∈ P) (u : SvUnit) (s : State) :
    (State.svDone u s).outside P = s.outside P := by
  unfold State.svDone
  (repeat' split) <;> simp [*]

@[simp] theorem State.outside_svPart (hsv : .sv ∈ P) (pg k : Nat) (s : State) :
    (State.svPart pg k s).outside P = s.outside P := by
  unfold State.svPart
  split <;> simp [*]

@[simp] theorem State.outside_askTrivet (hsec : .sec ∈ P) (r : TrivetReq) (s : State) :
    (State.askTrivet r s).outside P = s.outside P := by
  simp [State.askTrivet, *]

@[simp] theorem State.outside_svFinish (hsv : .sv ∈ P) (hctxs : .ctxs ∈ P) (hsec : .sec ∈ P) (s : State) :
    (State.svFinish s).outside P = s.outside P := by
  unfold State.svFinish
  (repeat' split) <;> simp [*]

@[simp] theorem State.outside_summaryDone (hsv : .sv ∈ P) (hctxs : .ctxs ∈ P) (hsec : .sec ∈ P) (s : State) :
    (State.summaryDone s).outside P = s.outside P := by
  unfold State.summaryDone
  (repeat' split) <;> simp [*]

@[simp] theorem State.outside_aMaxTrack (hsv : .sv ∈ P) (s : State) :
    (State.aMaxTrack s).outside P = s.outside P := by
  simp [State.aMaxTrack, *]

@[simp] theorem State.outside_svEnd (hsv : .sv ∈ P) (hctxs : .ctxs ∈ P) (hsec : .sec ∈ P) (ctx : Option Nat) (s : State) :
    (State.svEnd ctx s).outside P = s.outside P := by
  unfold State.svEnd
  split <;> simp [*]

@[simp] theorem State.outside_slotWrite (hdram : .dram ∈ P) (hmem : .mem ∈ P) (j : Job) (k w h : Nat) (rows : List (List
    (List Nat))) (s : State) :
    (State.slotWrite j k w h rows s).outside P = s.outside P := by
  simp [State.slotWrite, *]

@[simp] theorem State.outside_alnOut (haln : .aln ∈ P) (hctxs : .ctxs ∈ P) (code : Nat) (ports : List Nat) (s : State) :
    (State.alnOut code ports s).outside P = s.outside P := by
  unfold State.alnOut
  split <;> simp [*]

@[simp] theorem State.outside_seamFigures (x0 : List (Nat × Nat)) (s : State) :
    (State.seamFigures x0 s).2.outside P = s.outside P := by
  induction x0 generalizing s with
  | nil => rfl
  | cons x l ih => simp [State.seamFigures, *]

@[simp] theorem State.outside_alnAccept (hshadow : .shadow ∈ P) (hstaged : .staged ∈ P) (haln : .aln ∈ P) (hdram : .dram ∈ P)
    (hmem : .mem ∈ P) (hctxs : .ctxs ∈ P) (c : AlnCal) (x : AlnSeen) (stagger : Nat) (s : State) :
    (State.alnAccept c x stagger s).outside P = s.outside P := by
  unfold State.alnAccept
  dsimp only
  (repeat' split) <;>
    simp only [State.outside_mk, State.outside_alnOut, State.outside_dramWrite, State.outside_seamFigures, State.outside_stage,
      hshadow, hstaged, haln, hdram, hmem, hctxs, true_or, or_true, and_self]

@[simp] theorem State.outside_alnSeen (c : AlnCal) (s : State) :
    (State.alnSeen c s).2.outside P = s.outside P := by
  simp [State.alnSeen, *]

@[simp] theorem State.outside_alnVerdict (hshadow : .shadow ∈ P) (hstaged : .staged ∈ P) (haln : .aln ∈ P) (hdram : .dram ∈ P)
    (hmem : .mem ∈ P) (hctxs : .ctxs ∈ P) (c : AlnCal) (s : State) :
    (State.alnVerdict c s).outside P = s.outside P := by
  unfold State.alnVerdict
  dsimp only
  (repeat' split) <;> simp [*]

@[simp] theorem State.outside_alnJudge (hshadow : .shadow ∈ P) (hstaged : .staged ∈ P) (haln : .aln ∈ P) (hdram : .dram ∈ P)
    (hmem : .mem ∈ P) (hctxs : .ctxs ∈ P) (c : AlnCal) (s : State) :
    (State.alnJudge c s).outside P = s.outside P := by
  simp [State.alnJudge, *]

@[simp] theorem State.outside_alnCalLine (hshadow : .shadow ∈ P) (hstaged : .staged ∈ P) (haln : .aln ∈ P) (hdram : .dram ∈ P)
    (hmem : .mem ∈ P) (hctxs : .ctxs ∈ P) (r : LineRec) (s : State) :
    (State.alnCalLine r s).outside P = s.outside P := by
  unfold State.alnCalLine
  split <;> simp [*]

@[simp] theorem State.outside_shdCalEnd (hshd : .shd ∈ P) (hilm : .ilm ∈ P) (hdram : .dram ∈ P) (hmem : .mem ∈ P)
    (hctxs : .ctxs ∈ P) (s : State) :
    (State.shdCalEnd s).outside P = s.outside P := by
  unfold State.shdCalEnd
  split <;> simp [*]

@[simp] theorem State.outside_shdCalOut (hshd : .shd ∈ P) (hilm : .ilm ∈ P) (hdram : .dram ∈ P) (hmem : .mem ∈ P)
    (hctxs : .ctxs ∈ P) (code : Nat) (data pay : List Byte) (s : State) :
    (State.shdCalOut code data pay s).outside P = s.outside P := by
  unfold State.shdCalOut
  split <;> simp [*]

@[simp] theorem State.outside_shdCalCheck (hstaged : .staged ∈ P) (hshd : .shd ∈ P) (hilm : .ilm ∈ P) (hdram : .dram ∈ P)
    (hmem : .mem ∈ P) (hctxs : .ctxs ∈ P) (s : State) :
    (State.shdCalCheck s).outside P = s.outside P := by
  unfold State.shdCalCheck
  split <;> simp [*]

@[simp] theorem State.outside_shdCalLine (hstaged : .staged ∈ P) (hshd : .shd ∈ P) (hilm : .ilm ∈ P) (hdram : .dram ∈ P)
    (hmem : .mem ∈ P) (hctxs : .ctxs ∈ P) (r : LineRec) (s : State) :
    (State.shdCalLine r s).outside P = s.outside P := by
  unfold State.shdCalLine
  split <;> simp [*]

@[simp] theorem State.outside_stagRead (haln : .aln ∈ P) (hdram : .dram ∈ P) (r : LineRec) (late poison : Bool) (s : State) :
    (State.stagRead r late poison s).2.2.outside P = s.outside P := by
  unfold State.stagRead
  dsimp only
  (repeat' split) <;>
    simp only [State.outside_mk, State.outside_dramRead, State.outside_pulse, haln, hdram, true_or, or_true, and_self]

@[simp] theorem State.outside_stagWrite (haln : .aln ∈ P) (hdram : .dram ∈ P) (hmem : .mem ∈ P) (r : LineRec) (l : PortLines)
    (s : State) :
    (State.stagWrite r l s).outside P = s.outside P := by
  simp [State.stagWrite, *]

@[simp] theorem State.outside_reducedOut (hdram : .dram ∈ P) (j : Job) (p : SvPage) (ty : Nat) (s : State) :
    (State.reducedOut j p ty s).outside P = s.outside P := by
  simp [State.reducedOut, *]

@[simp] theorem State.outside_svClose (hsv : .sv ∈ P) (hdram : .dram ∈ P) (hpantry : .pantry ∈ P) (e : PageEnd) (s : State) :
    (State.svClose e s).outside P = s.outside P := by
  unfold State.svClose
  split <;> simp [*]

@[simp] theorem State.outside_closePage (hring : .ring ∈ P) (hsv : .sv ∈ P) (hdram : .dram ∈ P) (hpantry : .pantry ∈ P)
    (e : PageEnd) (s : State) :
    (State.closePage e s).outside P = s.outside P := by
  unfold State.closePage
  (repeat' split) <;> simp [*]

@[simp] theorem State.outside_svCut (hsv : .sv ∈ P) (hpantry : .pantry ∈ P) (pg k : Nat) (s : State) :
    (State.svCut pg k s).outside P = s.outside P := by
  unfold State.svCut
  split <;> simp [*]

@[simp] theorem State.outside_svCrowd (hsv : .sv ∈ P) (hpantry : .pantry ∈ P) (k : Nat) (s : State) :
    (State.svCrowd k s).outside P = s.outside P := by
  unfold State.svCrowd
  (repeat' split) <;> simp [*]

@[simp] theorem State.outside_svOpen (hsv : .sv ∈ P) (hpantry : .pantry ∈ P) (hctxs : .ctxs ∈ P) (tr : LineRec)
    (dropped short : Bool) (s0 : State) :
    (State.svOpen tr dropped short s0).outside P = s0.outside P := by
  unfold State.svOpen
  dsimp only
  split
  · simp [*]
  · split
    · simp [*]
    · have hpart (wanted : Nat → Bool) (tabs : SvTabs) (pg : Nat) (s : State) (k : Nat) :
          State.outside P (if wanted k && tabs.bypass.getLsbD k then s.svPart pg k else s) = s.outside P := by
        split <;> simp [*]
      have hcrowd (runs : Nat → Bool) (s : State) (k : Nat) : State.outside P (if runs k then s.svCrowd k else s) = s.outside P := by
        split <;> simp [*]
      rw [State.outside_foldl (hpart _ _ _), State.outside_pulseIf, State.outside_pulseIf]
      (repeat' split) <;> simp only [State.outside_done hctxs, State.outside_setJob hsv, State.outside_foldl (hcrowd _),
        State.outside_aMaxTrack hsv]

@[simp] theorem State.outside_openPage (hring : .ring ∈ P) (hsv : .sv ∈ P) (hpantry : .pantry ∈ P) (hctxs : .ctxs ∈ P)
    (tr : LineRec) (short : Bool) (s : State) :
    (State.openPage tr short s).outside P = s.outside P := by
  simp [State.openPage, *]

@[simp] theorem State.outside_ringPut (hring : .ring ∈ P) (hdram : .dram ∈ P) (hmem : .mem ∈ P) (bs : List Byte) (s : State) :
    (State.ringPut bs s).outside P = s.outside P := by
  simp [State.ringPut, *]

@[simp] theorem State.outside_cropCharge (hsv : .sv ∈ P) (hsimmer : .simmer ∈ P) (n : Nat) (s : State) :
    (State.cropCharge n s).outside P = s.outside P := by
  simp [State.cropCharge, *]

@[simp] theorem State.outside_svCrops (hsv : .sv ∈ P) (hsimmer : .simmer ∈ P) (hpantry : .pantry ∈ P) (pg y : Nat) (o : OutLine)
    (s : State) :
    (State.svCrops pg y o s).2.outside P = s.outside P := by
  unfold State.svCrops
  split
  · rfl
  · refine State.outside_foldl_snd (fun r c => ?_) _ _
    split
    · rfl
    · dsimp only
      (repeat' split) <;> simp [*]

@[simp] theorem State.outside_svStrips (hsv : .sv ∈ P) (pg y : Nat) (s : State) :
    (State.svStrips pg y s).outside P = s.outside P := by
  unfold State.svStrips
  dsimp only
  repeat' split
  · rfl
  · refine State.outside_foldl (fun s t => ?_) _ _
    (repeat' split) <;> simp [*]
  · rfl

@[simp] theorem State.outside_svLine (hsv : .sv ∈ P) (hsimmer : .simmer ∈ P) (hdram : .dram ∈ P) (hpantry : .pantry ∈ P)
    (o : OutLine) (s : State) :
    (State.svLine o s).2.outside P = s.outside P := by
  unfold State.svLine
  split <;> simp [*]

@[simp] theorem State.outside_writeLine (hring : .ring ∈ P) (hsv : .sv ∈ P) (hsimmer : .simmer ∈ P) (hdram : .dram ∈ P)
    (hmem : .mem ∈ P) (hpantry : .pantry ∈ P) (r : LineRec) (o : OutLine) (s : State) :
    (State.writeLine r o s).outside P = s.outside P := by
  unfold State.writeLine
  split <;> simp [*]

@[simp] theorem State.outside_toPages (hring : .ring ∈ P) (haln : .aln ∈ P) (hsv : .sv ∈ P) (hsimmer : .simmer ∈ P)
    (hdram : .dram ∈ P) (hmem : .mem ∈ P) (hpantry : .pantry ∈ P) (hctxs : .ctxs ∈ P) (r tr : LineRec) (o : OutLine) (s : State) :
    (State.toPages r tr o s).outside P = s.outside P := by
  unfold State.toPages
  (repeat' split) <;> simp [*]

@[simp] theorem State.outside_stitch (hring : .ring ∈ P) (haln : .aln ∈ P) (hsv : .sv ∈ P) (hsimmer : .simmer ∈ P)
    (hdram : .dram ∈ P) (hmem : .mem ∈ P) (hpantry : .pantry ∈ P) (hctxs : .ctxs ∈ P) (r : LineRec) (late poison : Bool) (s : State) :
    (State.stitch r late poison s).outside P = s.outside P := by
  unfold State.stitch
  dsimp only
  split <;> simp [*]

@[simp] theorem State.outside_tapLine (hpantry : .pantry ∈ P) (hdiag : .diag ∈ P) (r : LineRec) (s : State) :
    (State.tapLine r s).outside P = s.outside P := by
  simp [State.tapLine, *]

@[simp] theorem State.outside_trimLines (hlines : .lines ∈ P) (haln : .aln ∈ P) (r : LineRec) (s : State) :
    (State.trimLines r s).outside P = s.outside P := by
  simp [State.trimLines, *]

@[simp] theorem State.outside_startApply (hmode : .mode ∈ P) (hshd : .shd ∈ P) (ctx : Nat) (target : Option (BitVec 32))
    (m : Option Mode) (s : State) :
    (State.startApply ctx target m s).outside P = s.outside P := by
  simp [State.startApply, *]

@[simp] theorem State.outside_applyIllum (hstaged : .staged ∈ P) (hilm : .ilm ∈ P) (keys : List Nat) (s : State) :
    (State.applyIllum keys s).outside P = s.outside P := by
  simp [State.applyIllum, *]

@[simp] theorem State.outside_portAct (hports : .ports ∈ P) (hactive : .active ∈ P) (hshadow : .shadow ∈ P) (p : Nat) (c : PortCmd)
    (s : State) :
    (State.portAct p c s).outside P = s.outside P := by
  unfold State.portAct
  split <;> simp [*]

@[simp] theorem State.outside_applyPorts (hports : .ports ∈ P) (hactive : .active ∈ P) (hshadow : .shadow ∈ P)
    (hstaged : .staged ∈ P) (s : State) :
    (State.applyPorts s).2.2.outside P = s.outside P := by
  unfold State.applyPorts
  simp only [State.outside_mk, hstaged, true_or, or_true, and_self]
  refine State.outside_foldl_snd_snd (fun r x => ?_) _ _
  (repeat' split) <;> simp [*]

@[simp] theorem State.outside_applySets (hshd : .shd ∈ P) (keys : List Nat) (s : State) :
    (State.applySets keys s).outside P = s.outside P := by
  unfold State.applySets
  split <;> simp [*]

@[simp] theorem State.outside_comeToRest (haxes : .axes ∈ P) (hctxs : .ctxs ∈ P) (x : Nat) (s : State) :
    (State.comeToRest x s).outside P = s.outside P := by
  simp [State.comeToRest, *]

@[simp] theorem State.outside_moveOver (haxes : .axes ∈ P) (hctxs : .ctxs ∈ P) (x : Nat) (m : Move) (st : OpState) (code : Nat)
    (s : State) :
    (State.moveOver x m st code s).outside P = s.outside P := by
  unfold State.moveOver
  dsimp only
  split <;> simp [*]

@[simp] theorem State.outside_endMove (haxes : .axes ∈ P) (hctxs : .ctxs ∈ P) (x : Nat) (st : OpState) (code : Nat) (s : State) :
    (State.endMove x st code s).outside P = s.outside P := by
  unfold State.endMove
  split <;> simp [*]

@[simp] theorem State.outside_flushMoves (haxes : .axes ∈ P) (hctxs : .ctxs ∈ P) (x : Nat) (s : State) :
    (State.flushMoves x s).outside P = s.outside P := by
  simp [State.flushMoves, *]

@[simp] theorem State.outside_haltAxis (haxes : .axes ∈ P) (hctxs : .ctxs ∈ P) (x : Nat) (st : MotState) (cause : Nat) (s : State) :
    (State.haltAxis x st cause s).outside P = s.outside P := by
  unfold State.haltAxis
  dsimp only
  split <;> simp [*]

@[simp] theorem State.outside_gatesOn (haxes : .axes ∈ P) (hctxs : .ctxs ∈ P) (s : State) :
    (State.gatesOn s).outside P = s.outside P := by
  simp [State.gatesOn, *]

@[simp] theorem State.outside_axesConfigured (haxes : .axes ∈ P) (hctxs : .ctxs ∈ P) (s : State) :
    (State.axesConfigured s).outside P = s.outside P := by
  simp [State.axesConfigured, *]

@[simp] theorem State.outside_coverMove (hports : .ports ∈ P) (old : State) (k : Nat) (s : State) :
    (State.coverMove old k s).outside P = s.outside P := by
  unfold State.coverMove
  rw [State.outside_setDie hports]
  refine State.outside_foldl (fun s c => ?_) _ _
  (repeat' split) <;> simp [*]

@[simp] theorem State.outside_hashCross (hsec : .sec ∈ P) (s : State) :
    (State.hashCross s).outside P = s.outside P := by
  unfold State.hashCross
  split <;> simp [*]

@[simp] theorem State.outside_swap (hports : .ports ∈ P) (hlt : .lt ∈ P) (hactive : .active ∈ P) (hshadow : .shadow ∈ P)
    (hstaged : .staged ∈ P) (hshd : .shd ∈ P) (hsv : .sv ∈ P) (hskl : .skl ∈ P) (hilm : .ilm ∈ P) (haxes : .axes ∈ P)
    (hctxs : .ctxs ∈ P) (hsec : .sec ∈ P) (keys : List Nat) (withMode : Bool) (s0 : State) :
    (State.swap keys withMode s0).2.outside P = s0.outside P := by
  unfold State.swap
  split <;> simp [*]

@[simp] theorem State.outside_transTo (hmode : .mode ∈ P) (m : Mode) (ctx : Option Nat) (discarded : Nat) (s : State) :
    (State.transTo m ctx discarded s).outside P = s.outside P := by
  simp [State.transTo, *]

@[simp] theorem State.outside_acceptCapture_apply (hctxs : .ctxs ∈ P) (hmode : .mode ∈ P) (haln : .aln ∈ P) (n : Nat) (m : Mode)
    (t : Tables) (s : State) (n0 : Nat) :
    ((State.acceptCapture n m t s).apply n0).outside P = s.outside P := by
  unfold State.acceptCapture
  dsimp only
  split <;> simp [*]

@[simp] theorem State.outside_changeMode_apply (hctxs : .ctxs ∈ P) (hmode : .mode ∈ P) (hshd : .shd ∈ P) (n : Nat) (m : Mode)
    (when_ : Nat) (target : BitVec 32) (s : State) (n0 : Nat) :
    ((State.changeMode n m when_ target s).apply n0).outside P = s.outside P := by
  simp [State.changeMode, *]

@[simp] theorem State.outside_unlocked (hshadow : .shadow ∈ P) (hstaged : .staged ∈ P) (hshd : .shd ∈ P) (haln : .aln ∈ P)
    (hilm : .ilm ∈ P) (hdram : .dram ∈ P) (hmem : .mem ∈ P) (hctxs : .ctxs ∈ P) (s : State) :
    (State.unlocked s).outside P = s.outside P := by
  unfold State.unlocked
  dsimp only
  (repeat' split) <;> simp [*]

@[simp] theorem State.outside_dropApply (hmode : .mode ∈ P) (hshadow : .shadow ∈ P) (hstaged : .staged ∈ P) (hshd : .shd ∈ P)
    (haln : .aln ∈ P) (hilm : .ilm ∈ P) (hdram : .dram ∈ P) (hmem : .mem ∈ P) (hctxs : .ctxs ∈ P) (code : Nat) (s : State) :
    (State.dropApply code s).outside P = s.outside P := by
  unfold State.dropApply
  (repeat' split) <;> simp [*]

@[simp] theorem State.outside_setLt (hlt : .lt ∈ P) (f : LineUnit → LineUnit) (s : State) :
    (State.setLt f s).outside P = s.outside P := by
  simp [State.setLt, *]

@[simp] theorem State.outside_stopTriggers (hlt : .lt ∈ P) (s : State) :
    (State.stopTriggers s).outside P = s.outside P := by
  simp [State.stopTriggers, *]

@[simp] theorem State.outside_setModeBody_apply (hctxs : .ctxs ∈ P) (hmode : .mode ∈ P) (hlt : .lt ∈ P) (hshadow : .shadow ∈ P)
    (hstaged : .staged ∈ P) (hshd : .shd ∈ P) (haln : .aln ∈ P) (hilm : .ilm ∈ P) (hdram : .dram ∈ P) (hmem : .mem ∈ P) (n : Nat)
    (m : Mode) (when_ : Nat) (target : BitVec 32) (s : State) (n0 : Nat) :
    ((State.setModeBody n m when_ target s).apply n0).outside P = s.outside P := by
  unfold State.setModeBody
  dsimp only
  (repeat' split) <;> simp [*]

@[simp] theorem State.outside_illumEntry (hilm : .ilm ∈ P) (s : State) :
    (State.illumEntry s).outside P = s.outside P := by
  simp [State.illumEntry, *]

@[simp] theorem State.outside_loadFilters (hshd : .shd ∈ P) (s : State) :
    (State.loadFilters s).outside P = s.outside P := by
  simp [State.loadFilters, *]

@[simp] theorem State.outside_panClear (hdram : .dram ∈ P) (hpantry : .pantry ∈ P) (s : State) :
    (State.panClear s).outside P = s.outside P := by
  simp [State.panClear, *]

@[simp] theorem State.outside_sklEntry (hskl : .skl ∈ P) (s : State) :
    (State.sklEntry s).outside P = s.outside P := by
  simp [State.sklEntry, *]

@[simp] theorem State.outside_captureEntry (hports : .ports ∈ P) (hlt : .lt ∈ P) (huzs : .uzs ∈ P) (hring : .ring ∈ P)
    (hactive : .active ∈ P) (hshadow : .shadow ∈ P) (hstaged : .staged ∈ P) (hlines : .lines ∈ P) (hshd : .shd ∈ P)
    (haln : .aln ∈ P) (hsv : .sv ∈ P) (hskl : .skl ∈ P) (hilm : .ilm ∈ P) (haxes : .axes ∈ P) (hdram : .dram ∈ P)
    (hpantry : .pantry ∈ P) (hctxs : .ctxs ∈ P) (hsec : .sec ∈ P) (s : State) :
    (State.captureEntry s).2.outside P = s.outside P := by
  simp [State.captureEntry, *]

@[simp] theorem State.outside_abortCtx (hctxs : .ctxs ∈ P) (n : Option Nat) (s : State) :
    (State.abortCtx n s).outside P = s.outside P := by
  unfold State.abortCtx
  split <;> simp [*]

@[simp] theorem State.outside_alnAbort (haln : .aln ∈ P) (hctxs : .ctxs ∈ P) (s : State) :
    (State.alnAbort s).outside P = s.outside P := by
  simp [State.alnAbort, *]

@[simp] theorem State.outside_cutRest (hports : .ports ∈ P) (haln : .aln ∈ P) (hilm : .ilm ∈ P) (hdram : .dram ∈ P)
    (hmem : .mem ∈ P) (hctxs : .ctxs ∈ P) (hdiag : .diag ∈ P) (s : State) :
    (State.cutRest s).outside P = s.outside P := by
  simp [State.cutRest, *]

@[simp] theorem State.outside_stopMove (haxes : .axes ∈ P) (x code : Nat) (s : State) :
    (State.stopMove x code s).outside P = s.outside P := by
  simp [State.stopMove, *]

@[simp] theorem State.outside_stopAll (haxes : .axes ∈ P) (hctxs : .ctxs ∈ P) (x : Nat) (s : State) :
    (State.stopAll x s).outside P = s.outside P := by
  simp [State.stopAll, *]

@[simp] theorem State.outside_tileStep (hshd : .shd ∈ P) (hilm : .ilm ∈ P) (haxes : .axes ∈ P) (hdram : .dram ∈ P) (hmem : .mem ∈ P)
    (hctxs : .ctxs ∈ P) (s : State) :
    (State.tileStep s).outside P = s.outside P := by
  unfold State.tileStep
  (repeat' split) <;> simp [*]

@[simp] theorem State.outside_shdAbort (hshd : .shd ∈ P) (hilm : .ilm ∈ P) (haxes : .axes ∈ P) (hdram : .dram ∈ P) (hmem : .mem ∈ P)
    (hctxs : .ctxs ∈ P) (s : State) :
    (State.shdAbort s).outside P = s.outside P := by
  unfold State.shdAbort
  split <;> simp [*]

@[simp] theorem State.outside_cutShort (hports : .ports ∈ P) (hshd : .shd ∈ P) (haln : .aln ∈ P) (hilm : .ilm ∈ P)
    (haxes : .axes ∈ P) (hdram : .dram ∈ P) (hmem : .mem ∈ P) (hctxs : .ctxs ∈ P) (hdiag : .diag ∈ P) (s : State) :
    (State.cutShort s).outside P = s.outside P := by
  simp [State.cutShort, *]

@[simp] theorem State.outside_endQualify (hports : .ports ∈ P) (s : State) :
    (State.endQualify s).outside P = s.outside P := by
  simp [State.endQualify, *]

@[simp] theorem State.outside_diesOff (hclk : .clk ∈ P) (hports : .ports ∈ P) (s : State) :
    (State.diesOff s).outside P = s.outside P := by
  simp [State.diesOff, *]

@[simp] theorem State.outside_endCapture (hlt : .lt ∈ P) (hring : .ring ∈ P) (hlines : .lines ∈ P) (hsv : .sv ∈ P)
    (hdram : .dram ∈ P) (hpantry : .pantry ∈ P) (hctxs : .ctxs ∈ P) (hsec : .sec ∈ P) (code : Nat) (s : State) :
    (State.endCapture code s).outside P = s.outside P := by
  simp [State.endCapture, *]

@[simp] theorem State.outside_shdAbandon (hshd : .shd ∈ P) (hilm : .ilm ∈ P) (hdram : .dram ∈ P) (hmem : .mem ∈ P)
    (hctxs : .ctxs ∈ P) (s : State) :
    (State.shdAbandon s).outside P = s.outside P := by
  simp [State.shdAbandon, *]

@[simp] theorem State.outside_zeroRest (hdram : .dram ∈ P) (hmem : .mem ∈ P) (s : State) :
    (State.zeroRest s).outside P = s.outside P := by
  simp [State.zeroRest, *]

@[simp] theorem State.outside_holdEntry (hclk : .clk ∈ P) (hports : .ports ∈ P) (hlt : .lt ∈ P) (hring : .ring ∈ P)
    (hlines : .lines ∈ P) (hshd : .shd ∈ P) (haln : .aln ∈ P) (hsv : .sv ∈ P) (hilm : .ilm ∈ P) (htherm : .therm ∈ P)
    (hdram : .dram ∈ P) (hmem : .mem ∈ P) (hpantry : .pantry ∈ P) (hctxs : .ctxs ∈ P) (hsec : .sec ∈ P) (hdiag : .diag ∈ P)
    (s : State) :
    (State.holdEntry s).outside P = s.outside P := by
  simp [State.holdEntry, *]

@[simp] theorem State.outside_diesOn (hclk : .clk ∈ P) (hports : .ports ∈ P) (s : State) :
    (State.diesOn s).outside P = s.outside P := by
  simp [State.diesOn, *]

@[simp] theorem State.outside_portsOn (hports : .ports ∈ P) (s : State) :
    (State.portsOn s).outside P = s.outside P := by
  simp [State.portsOn, *]

@[simp] theorem State.outside_powerUp (hclk : .clk ∈ P) (hports : .ports ∈ P) (haxes : .axes ∈ P) (hctxs : .ctxs ∈ P) (s : State) :
    (State.powerUp s).outside P = s.outside P := by
  simp [State.powerUp, *]

@[simp] theorem State.outside_removals (hports : .ports ∈ P) (s : State) :
    (State.removals s).outside P = s.outside P := by
  simp [State.removals, *]

@[simp] theorem State.outside_stagFree (haln : .aln ∈ P) (s : State) :
    (State.stagFree s).outside P = s.outside P := by
  simp [State.stagFree, *]

@[simp] theorem State.outside_idleEntry (hclk : .clk ∈ P) (hports : .ports ∈ P) (hlt : .lt ∈ P) (hring : .ring ∈ P)
    (hlines : .lines ∈ P) (hshd : .shd ∈ P) (haln : .aln ∈ P) (hsv : .sv ∈ P) (hilm : .ilm ∈ P) (haxes : .axes ∈ P)
    (htherm : .therm ∈ P) (hdram : .dram ∈ P) (hmem : .mem ∈ P) (hpantry : .pantry ∈ P) (hctxs : .ctxs ∈ P) (hsec : .sec ∈ P)
    (hdiag : .diag ∈ P) (s : State) :
    (State.idleEntry s).outside P = s.outside P := by
  unfold State.idleEntry
  split <;> simp [*]

@[simp] theorem State.outside_modeTo (hmode : .mode ∈ P) (hlt : .lt ∈ P) (hskl : .skl ∈ P) (haxes : .axes ∈ P) (m : Mode) (s : State) :
    (State.modeTo m s).outside P = s.outside P := by
  simp [State.modeTo, *]

@[simp] theorem State.outside_gatesOff (haxes : .axes ∈ P) (s : State) :
    (State.gatesOff s).outside P = s.outside P := by
  simp [State.gatesOff, *]

@[simp] theorem State.outside_portsOff (hports : .ports ∈ P) (s : State) :
    (State.portsOff s).outside P = s.outside P := by
  simp [State.portsOff, *]

@[simp] theorem State.outside_standbyEntry (hclk : .clk ∈ P) (hports : .ports ∈ P) (hring : .ring ∈ P) (hshd : .shd ∈ P)
    (haln : .aln ∈ P) (hilm : .ilm ∈ P) (haxes : .axes ∈ P) (hdram : .dram ∈ P) (hmem : .mem ∈ P) (hctxs : .ctxs ∈ P)
    (hsec : .sec ∈ P) (hdiag : .diag ∈ P) (s : State) :
    (State.standbyEntry s).outside P = s.outside P := by
  simp [State.standbyEntry, *]

@[simp] theorem State.outside_transDone (hctxs : .ctxs ∈ P) (x : Transition) (tables : Nat) (s : State) :
    (State.transDone x tables s).outside P = s.outside P := by
  unfold State.transDone
  split <;> simp [*]

@[simp] theorem State.outside_arrive (hmode : .mode ∈ P) (hclk : .clk ∈ P) (hports : .ports ∈ P) (hlt : .lt ∈ P) (huzs : .uzs ∈ P)
    (hring : .ring ∈ P) (hactive : .active ∈ P) (hshadow : .shadow ∈ P) (hstaged : .staged ∈ P) (hlines : .lines ∈ P)
    (hshd : .shd ∈ P) (haln : .aln ∈ P) (hsv : .sv ∈ P) (hskl : .skl ∈ P) (hilm : .ilm ∈ P) (haxes : .axes ∈ P)
    (htherm : .therm ∈ P) (hdram : .dram ∈ P) (hmem : .mem ∈ P) (hpantry : .pantry ∈ P) (hctxs : .ctxs ∈ P) (hsec : .sec ∈ P)
    (hdiag : .diag ∈ P) (s : State) :
    (State.arrive s).outside P = s.outside P := by
  unfold State.arrive
  dsimp only
  (repeat' split) <;> simp [*]

@[simp] theorem State.outside_halt (hcpu : .cpu ∈ P) (k : Nat) (s : State) :
    (State.halt k s).outside P = s.outside P := by
  simp [State.halt, *]

@[simp] theorem State.outside_linkTo (hhost : .host ∈ P) (p : Nat) (l : PortLink) (s : State) :
    (State.linkTo p l s).outside P = s.outside P := by
  simp [State.linkTo, *]

@[simp] theorem State.outside_entryDone (hrst : .rst ∈ P) (hctxs : .ctxs ∈ P) (hhost : .host ∈ P) (n : Nat) (e : Ending) (s : State) :
    (State.entryDone n e s).outside P = s.outside P := by
  unfold State.entryDone
  (repeat' split) <;> simp [*]

@[simp] theorem State.outside_discardEntry (hrst : .rst ∈ P) (hctxs : .ctxs ∈ P) (hhost : .host ∈ P) (n : Nat) (s : State) :
    (State.discardEntry n s).outside P = s.outside P := by
  unfold State.discardEntry
  dsimp only
  split <;> simp [*]

@[simp] theorem State.outside_funcReset (hhost : .host ∈ P) (p : Nat) (s : State) :
    (State.funcReset p s).outside P = s.outside P := by
  simp [State.funcReset, *]

@[simp] theorem State.outside_portReset (hrst : .rst ∈ P) (hpantry : .pantry ∈ P) (hdma : .dma ∈ P) (hctxs : .ctxs ∈ P)
    (hhost : .host ∈ P) (p : Nat) (s : State) :
    (State.portReset p s).outside P = s.outside P := by
  simp [State.portReset, *]

@[simp] theorem State.outside_lossOf (hdma : .dma ∈ P) (hhost : .host ∈ P) (p : Nat) (l : PortLink) (s : State) :
    (State.lossOf p l s).outside P = s.outside P := by
  simp [State.lossOf, *]

@[simp] theorem State.outside_quiesceAbort (hdram : .dram ∈ P) (hdma : .dma ∈ P) (p : Nat) (s : State) :
    (State.quiesceAbort p s).2.outside P = s.outside P := by
  simp [State.quiesceAbort, *]

@[simp] theorem State.outside_rerouted (hev : .ev ∈ P) (f : EvUnit → EvUnit) (s : State) :
    (State.rerouted f s).outside P = s.outside P := by
  simp [State.rerouted, *]

@[simp] theorem State.outside_latchWrite (j : Nat) (data : BitVec 32) (resets : BitVec 256) (s : State) :
    (State.latchWrite j data resets s).outside P = s.outside P := by
  simp [State.latchWrite, *]

@[simp] theorem State.outside_unmask (hhost : .host ∈ P) (p v : Nat) (s : State) :
    (State.unmask p v s).outside P = s.outside P := by
  simp [State.unmask, *]

@[simp] theorem State.outside_hwTrip (hrst : .rst ∈ P) (hports : .ports ∈ P) (hilm : .ilm ∈ P) (haxes : .axes ∈ P)
    (hctxs : .ctxs ∈ P) (s : State) :
    (State.hwTrip s).outside P = s.outside P := by
  simp [State.hwTrip, *]

@[simp] theorem State.outside_setSensor (htherm : .therm ∈ P) (i : Nat) (f : Sensor → Sensor) (s : State) :
    (State.setSensor i f s).outside P = s.outside P := by
  simp [State.setSensor, *]

@[simp] theorem State.outside_judgeSensor (htherm : .therm ∈ P) (old : State) (ts : List Int) (s : State) (i : Nat) :
    (State.judgeSensor old ts s i).outside P = s.outside P := by
  simp [State.judgeSensor, *]

@[simp] theorem State.outside_learn (htherm : .therm ∈ P) (s : State) :
    (State.learn s).outside P = s.outside P := by
  simp [State.learn, *]

@[simp] theorem State.outside_loadModel (htherm : .therm ∈ P) (s : State) :
    (State.loadModel s).outside P = s.outside P := by
  simp [State.loadModel, *]

@[simp] theorem State.outside_regionsTake (htherm : .therm ∈ P) (s : State) :
    (State.regionsTake s).outside P = s.outside P := by
  unfold State.regionsTake
  split <;> simp [*]

@[simp] theorem State.outside_stopAxes (haxes : .axes ∈ P) (hctxs : .ctxs ∈ P) (s : State) :
    (State.stopAxes s).outside P = s.outside P := by
  simp [State.stopAxes, *]

@[simp] theorem State.outside_holdEnter (hmode : .mode ∈ P) (hlt : .lt ∈ P) (hshadow : .shadow ∈ P) (hstaged : .staged ∈ P)
    (hshd : .shd ∈ P) (haln : .aln ∈ P) (hilm : .ilm ∈ P) (haxes : .axes ∈ P) (hdram : .dram ∈ P) (hmem : .mem ∈ P)
    (hctxs : .ctxs ∈ P) (s : State) :
    (State.holdEnter s).outside P = s.outside P := by
  simp [State.holdEnter, *]

@[simp] theorem State.outside_shutdownNow (hmode : .mode ∈ P) (hclk : .clk ∈ P) (hports : .ports ∈ P) (hlt : .lt ∈ P)
    (hshadow : .shadow ∈ P) (hstaged : .staged ∈ P) (hshd : .shd ∈ P) (haln : .aln ∈ P) (hilm : .ilm ∈ P) (haxes : .axes ∈ P)
    (htherm : .therm ∈ P) (hdram : .dram ∈ P) (hmem : .mem ∈ P) (hctxs : .ctxs ∈ P) (hsec : .sec ∈ P) (s : State) :
    (State.shutdownNow s).outside P = s.outside P := by
  simp [State.shutdownNow, *]

@[simp] theorem State.outside_svnRaise (hsec : .sec ∈ P) (s : State) :
    (State.svnRaise s).outside P = s.outside P := by
  have hput {id data u} (hu : s.nvPut id data .svn none = some u) :
      State.outside P { u with sec := { u.sec with svnDue := false } } = s.outside P := by
    rw [← State.outside_of_nvPut hsec hu]
    simp [*]
  unfold State.svnRaise
  dsimp only
  repeat' split
  · rfl
  · simp [*]
  · next hu => exact hput hu
  · rfl
  · simp [*]
  · next hu => exact hput hu
  · rfl

@[simp] theorem State.outside_endReset (hrst : .rst ∈ P) (s : State) :
    (State.endReset s).outside P = s.outside P := by
  simp [State.endReset, *]

@[simp] theorem State.outside_setNv (hsec : .sec ∈ P) (id : NvId) (f : NvRec → NvRec) (s : State) :
    (State.setNv id f s).outside P = s.outside P := by
  simp [State.setNv, *]

@[simp] theorem State.outside_nvCommit (hsec : .sec ∈ P) (w : NvWrite) (s : State) :
    (State.nvCommit w s).outside P = s.outside P := by
  simp [State.nvCommit, *]

@[simp] theorem State.outside_nvSet (hsec : .sec ∈ P) (id : NvId) (data : List Byte) (s : State) :
    (State.nvSet id data s).outside P = s.outside P := by
  simp [State.nvSet, *]

@[simp] theorem State.outside_nvWipe (hsec : .sec ∈ P) (regions : List Nat) (s : State) :
    (State.nvWipe regions s).outside P = s.outside P := by
  simp [State.nvWipe, *]

@[simp] theorem State.outside_resumeTransition (hsec : .sec ∈ P) (s : State) :
    (State.resumeTransition s).outside P = s.outside P := by
  unfold State.resumeTransition
  (repeat' split) <;> simp [*]

@[simp] theorem State.outside_trained (hdram : .dram ∈ P) (chOk : BitVec 8) (s : State) :
    (State.trained chOk s).outside P = s.outside P := by
  unfold State.trained
  dsimp only
  split <;> simp [*]

@[simp] theorem State.outside_bindFixed (hpantry : .pantry ∈ P) (s : State) :
    (State.bindFixed s).outside P = s.outside P := by
  simp [State.bindFixed, *]

@[simp] theorem State.outside_contextsBoot (hctxs : .ctxs ∈ P) (s : State) :
    (State.contextsBoot s).outside P = s.outside P := by
  simp [State.contextsBoot, *]

@[simp] theorem State.outside_madcStart (hclk : .clk ∈ P) (hmadc : .madc ∈ P) (s : State) :
    (State.madcStart s).outside P = s.outside P := by
  simp [State.madcStart, *]

@[simp] theorem State.outside_portsBoot (hports : .ports ∈ P) (powerOk : BitVec 64) (s : State) :
    (State.portsBoot powerOk s).outside P = s.outside P := by
  simp [State.portsBoot, *]

@[simp] theorem Gated.outside_warm (hring : .ring ∈ P) (cap : Nat) (g : Gated) :
    ((Gated.warm cap g).st).outside P = g.st.outside P := by
  unfold Gated.warm
  dsimp only
  (repeat' split) <;> simp [*]

@[simp] theorem State.outside_pagesAnew (hlt : .lt ∈ P) (s : State) :
    (State.pagesAnew s).outside P = s.outside P := by
  simp [State.pagesAnew, *]

@[simp] theorem State.outside_srcChanged (hlt : .lt ∈ P) (old : LtSrc) (s : State) :
    (State.srcChanged old s).outside P = s.outside P := by
  simp [State.srcChanged, *]

@[simp] theorem State.outside_startsKept (hlt : .lt ∈ P) (old new : Mode) (s : State) :
    (State.startsKept old new s).outside P = s.outside P := by
  simp [State.startsKept, *]

@[simp] theorem State.outside_modeWith (hmode : .mode ∈ P) (hlt : .lt ∈ P) (hskl : .skl ∈ P) (haxes : .axes ∈ P) (s : State)
    (old : State) (m : Mode) :
    (State.modeWith s old m).outside P = s.outside P := by
  simp [State.modeWith, *]

@[simp] theorem State.outside_stagMove (haln : .aln ∈ P) (room : Option (Nat × Nat × Nat)) (s : State) :
    (State.stagMove room s).outside P = s.outside P := by
  unfold State.stagMove
  split <;> simp [*]

@[simp] theorem State.outside_applyAt (hmode : .mode ∈ P) (hports : .ports ∈ P) (hlt : .lt ∈ P) (hactive : .active ∈ P)
    (hshadow : .shadow ∈ P) (hstaged : .staged ∈ P) (hshd : .shd ∈ P) (haln : .aln ∈ P) (hsv : .sv ∈ P) (hskl : .skl ∈ P)
    (hilm : .ilm ∈ P) (haxes : .axes ∈ P) (hdram : .dram ∈ P) (hmem : .mem ∈ P) (hctxs : .ctxs ∈ P) (hsec : .sec ∈ P)
    (seq : BitVec 32) (s : State) :
    (State.applyAt seq s).outside P = s.outside P := by
  unfold State.applyAt
  (repeat' split) <;> simp [*]

@[simp] theorem State.outside_applyDue (hmode : .mode ∈ P) (hports : .ports ∈ P) (hlt : .lt ∈ P) (hactive : .active ∈ P)
    (hshadow : .shadow ∈ P) (hstaged : .staged ∈ P) (hshd : .shd ∈ P) (haln : .aln ∈ P) (hsv : .sv ∈ P) (hskl : .skl ∈ P)
    (hilm : .ilm ∈ P) (haxes : .axes ∈ P) (hdram : .dram ∈ P) (hmem : .mem ∈ P) (hctxs : .ctxs ∈ P) (hsec : .sec ∈ P)
    (seq : BitVec 32) (s : State) :
    (State.applyDue seq s).outside P = s.outside P := by
  unfold State.applyDue
  (repeat' split) <;> simp [*]

@[simp] theorem State.outside_gateCue (hlt : .lt ∈ P) (p : Int) (s : State) :
    (State.gateCue p s).st.outside P = s.outside P := by
  simp [State.gateCue, *]

@[simp] theorem State.outside_gateGrid (hlt : .lt ∈ P) (p : Int) (s : State) :
    (State.gateGrid p s).st.outside P = s.outside P := by
  simp [State.gateGrid, *]

@[simp] theorem State.outside_gateNone (hlt : .lt ∈ P) (p : Int) (s : State) :
    (State.gateNone p s).st.outside P = s.outside P := by
  simp [State.gateNone, *]

@[simp] theorem State.outside_gateSheet (hlt : .lt ∈ P) (p : Int) (s : State) :
    (State.gateSheet p s).st.outside P = s.outside P := by
  simp [State.gateSheet, *]

@[simp] theorem State.outside_gateLine (hlt : .lt ∈ P) (s : State) :
    (State.gateLine s).st.outside P = s.outside P := by
  unfold State.gateLine
  (repeat' split) <;> simp [*]

@[simp] theorem State.outside_rowBoundary (hilm : .ilm ∈ P) (s : State) :
    (State.rowBoundary s).outside P = s.outside P := by
  simp [State.rowBoundary, *]

@[simp] theorem State.outside_lineBoundary (hshd : .shd ∈ P) (hilm : .ilm ∈ P) (s : State) :
    (State.lineBoundary s).outside P = s.outside P := by
  simp [State.lineBoundary, *]

@[simp] theorem State.outside_trigDies (hports : .ports ∈ P) (line : Option (BitVec 32)) (s : State) :
    (State.trigDies line s).outside P = s.outside P := by
  simp [State.trigDies, *]

@[simp] theorem State.outside_startLine (hports : .ports ∈ P) (hlines : .lines ∈ P) (seq : BitVec 32) (s : State) :
    (State.startLine seq s).outside P = s.outside P := by
  simp [State.startLine, *]

@[simp] theorem State.outside_issueLine (hmode : .mode ∈ P) (hports : .ports ∈ P) (hlt : .lt ∈ P) (hring : .ring ∈ P)
    (hactive : .active ∈ P) (hshadow : .shadow ∈ P) (hstaged : .staged ∈ P) (hlines : .lines ∈ P) (hshd : .shd ∈ P)
    (haln : .aln ∈ P) (hsv : .sv ∈ P) (hskl : .skl ∈ P) (hilm : .ilm ∈ P) (haxes : .axes ∈ P) (hdram : .dram ∈ P) (hmem : .mem ∈ P)
    (hctxs : .ctxs ∈ P) (hsec : .sec ∈ P) (late : Nat) (s : State) :
    (State.issueLine late s).outside P = s.outside P := by
  simp [State.issueLine, *]

@[simp] theorem State.outside_requestTrigger (hmode : .mode ∈ P) (hports : .ports ∈ P) (hlt : .lt ∈ P) (hring : .ring ∈ P)
    (hactive : .active ∈ P) (hshadow : .shadow ∈ P) (hstaged : .staged ∈ P) (hlines : .lines ∈ P) (hshd : .shd ∈ P)
    (haln : .aln ∈ P) (hsv : .sv ∈ P) (hskl : .skl ∈ P) (hilm : .ilm ∈ P) (haxes : .axes ∈ P) (hdram : .dram ∈ P) (hmem : .mem ∈ P)
    (hctxs : .ctxs ∈ P) (hsec : .sec ∈ P) (s : State) :
    (State.requestTrigger s).outside P = s.outside P := by
  simp [State.requestTrigger, *]

@[simp] theorem State.outside_crossing (hmode : .mode ∈ P) (hports : .ports ∈ P) (hlt : .lt ∈ P) (hring : .ring ∈ P)
    (hactive : .active ∈ P) (hshadow : .shadow ∈ P) (hstaged : .staged ∈ P) (hlines : .lines ∈ P) (hshd : .shd ∈ P)
    (haln : .aln ∈ P) (hsv : .sv ∈ P) (hskl : .skl ∈ P) (hilm : .ilm ∈ P) (haxes : .axes ∈ P) (hdram : .dram ∈ P) (hmem : .mem ∈ P)
    (hctxs : .ctxs ∈ P) (hsec : .sec ∈ P) (s : State) :
    (State.crossing s).outside P = s.outside P := by
  simp [State.crossing, *]

@[simp] theorem State.outside_lineCount (hmode : .mode ∈ P) (hports : .ports ∈ P) (hlt : .lt ∈ P) (hring : .ring ∈ P)
    (hactive : .active ∈ P) (hshadow : .shadow ∈ P) (hstaged : .staged ∈ P) (hlines : .lines ∈ P) (hshd : .shd ∈ P)
    (haln : .aln ∈ P) (hsv : .sv ∈ P) (hskl : .skl ∈ P) (hilm : .ilm ∈ P) (haxes : .axes ∈ P) (hdram : .dram ∈ P) (hmem : .mem ∈ P)
    (hctxs : .ctxs ∈ P) (hsec : .sec ∈ P) (d : Int) (s : State) :
    (State.lineCount d s).outside P = s.outside P := by
  unfold State.lineCount
  dsimp only
  (repeat' split) <;> simp [*]

@[simp] theorem State.outside_cueAt (hlt : .lt ∈ P) (e : Int) (s : State) :
    (State.cueAt e s).outside P = s.outside P := by
  simp [State.cueAt, *]

@[simp] theorem State.outside_sheetLead (hlt : .lt ∈ P) (e : Int) (s : State) :
    (State.sheetLead e s).outside P = s.outside P := by
  simp [State.sheetLead, *]

@[simp] theorem State.outside_sheetTrail (hlt : .lt ∈ P) (e : Int) (s : State) :
    (State.sheetTrail e s).outside P = s.outside P := by
  unfold State.sheetTrail
  split <;> simp [*]

@[simp] theorem State.outside_skewEdge (hlt : .lt ∈ P) (e : Int) (s : State) :
    (State.skewEdge e s).outside P = s.outside P := by
  unfold State.skewEdge
  (repeat' split) <;> simp [*]

@[simp] theorem State.outside_followApply (hports : .ports ∈ P) (hlt : .lt ∈ P) (huzs : .uzs ∈ P) (hactive : .active ∈ P)
    (hshadow : .shadow ∈ P) (hstaged : .staged ∈ P) (hshd : .shd ∈ P) (haln : .aln ∈ P) (hsv : .sv ∈ P) (hskl : .skl ∈ P)
    (hilm : .ilm ∈ P) (haxes : .axes ∈ P) (hdram : .dram ∈ P) (hmem : .mem ∈ P) (hctxs : .ctxs ∈ P) (hsec : .sec ∈ P)
    (keys : List Nat) (s : State) :
    (State.followApply keys s).outside P = s.outside P := by
  unfold State.followApply
  dsimp only
  split <;> simp [*]

@[simp] theorem State.outside_followLine (hmode : .mode ∈ P) (hports : .ports ∈ P) (hlt : .lt ∈ P) (huzs : .uzs ∈ P)
    (hactive : .active ∈ P) (hshadow : .shadow ∈ P) (hstaged : .staged ∈ P) (hlines : .lines ∈ P) (hshd : .shd ∈ P)
    (haln : .aln ∈ P) (hsv : .sv ∈ P) (hskl : .skl ∈ P) (hilm : .ilm ∈ P) (haxes : .axes ∈ P) (hdram : .dram ∈ P) (hmem : .mem ∈ P)
    (hctxs : .ctxs ∈ P) (hsec : .sec ∈ P) (s : State) :
    (State.followLine s).outside P = s.outside P := by
  unfold State.followLine
  split <;> simp [*]

@[simp] theorem State.outside_gateFollow (hlt : .lt ∈ P) (gate : Nat) (s : State) :
    (State.gateFollow gate s).st.outside P = s.outside P := by
  simp [State.gateFollow, *]

@[simp] theorem State.outside_followFrame (hlt : .lt ∈ P) (hring : .ring ∈ P) (hlines : .lines ∈ P) (gate phase : Nat) (s : State) :
    (State.followFrame gate phase s).outside P = s.outside P := by
  simp [State.followFrame, *]

@[simp] theorem State.outside_followMode (hmode : .mode ∈ P) (hports : .ports ∈ P) (hlt : .lt ∈ P) (huzs : .uzs ∈ P)
    (hactive : .active ∈ P) (hshadow : .shadow ∈ P) (hstaged : .staged ∈ P) (hshd : .shd ∈ P) (hsv : .sv ∈ P) (hskl : .skl ∈ P)
    (hilm : .ilm ∈ P) (haxes : .axes ∈ P) (hctxs : .ctxs ∈ P) (hsec : .sec ∈ P) (m : Mode) (s : State) :
    (State.followMode m s).outside P = s.outside P := by
  unfold State.followMode
  dsimp only
  (repeat' split) <;> simp [*]

@[simp] theorem State.outside_renumber (hports : .ports ∈ P) (hlt : .lt ∈ P) (hlines : .lines ∈ P) (hskl : .skl ∈ P)
    (old new : BitVec 32) (s : State) :
    (State.renumber old new s).outside P = s.outside P := by
  simp [State.renumber, *]

@[simp] theorem State.outside_followRx (hmode : .mode ∈ P) (hports : .ports ∈ P) (hlt : .lt ∈ P) (huzs : .uzs ∈ P)
    (hring : .ring ∈ P) (hactive : .active ∈ P) (hshadow : .shadow ∈ P) (hstaged : .staged ∈ P) (hlines : .lines ∈ P)
    (hshd : .shd ∈ P) (haln : .aln ∈ P) (hsv : .sv ∈ P) (hskl : .skl ∈ P) (hilm : .ilm ∈ P) (haxes : .axes ∈ P) (hdram : .dram ∈ P)
    (hmem : .mem ∈ P) (hctxs : .ctxs ∈ P) (hsec : .sec ∈ P) (frame : BitVec 51) (s : State) :
    (State.followRx frame s).outside P = s.outside P := by
  unfold State.followRx
  extract_lets m m2 uzs2 s0
  have h0 : s0.outside P = s.outside P := by
    simp only [s0, m2, m, State.outside_ite, State.outside_ite_snd, State.outside_mk, State.outside_free, huzs, true_or, or_true, and_self,
      ite_self]
  clear_value s0
  rw [← h0]
  clear h0
  dsimp only
  split
  · simp +zetaDelta [*]
  · generalize h6 : State.unlocked _ = s6
    have houtside : s6.outside P = s0.outside P := by
      rw [← h6]
      (repeat' split) <;>
        simp only [State.outside_mk, State.outside_followFrame, State.outside_followMode, State.outside_pulse, State.outside_renumber,
          State.outside_unlocked, hmode, hports, hlt, huzs, hring, hactive, hshadow, hstaged, hlines, hshd, haln, hsv, hskl, hilm,
          haxes, hdram, hmem, hctxs, hsec, true_or, or_true, and_self]
    rw [← houtside]
    split <;> simp only [State.outside_mk, huzs, true_or, or_true, and_self]

@[simp] theorem State.outside_setSim (hsimmer : .simmer ∈ P) (f : Simmer → Simmer) (s : State) :
    (State.setSim f s).outside P = s.outside P := by
  simp [State.setSim, *]

@[simp] theorem State.outside_capsDown (hilm : .ilm ∈ P) (s : State) :
    (State.capsDown s).outside P = s.outside P := by
  simp [State.capsDown, *]

@[simp] theorem State.outside_ceiling3 (hsimmer : .simmer ∈ P) (s : State) :
    (State.ceiling3 s).outside P = s.outside P := by
  simp [State.ceiling3, *]

@[simp] theorem State.outside_refill (hsimmer : .simmer ∈ P) (pDev pMand : Nat) (s : State) :
    (State.refill pDev pMand s).outside P = s.outside P := by
  simp [State.refill, *]

@[simp] theorem State.outside_stageTo (hsv : .sv ∈ P) (hsimmer : .simmer ∈ P) (k : Nat) (s : State) :
    (State.stageTo k s).outside P = s.outside P := by
  simp [State.stageTo, *]

@[simp] theorem State.outside_release (hsv : .sv ∈ P) (htherm : .therm ∈ P) (hsimmer : .simmer ∈ P) (hsec : .sec ∈ P) (s : State) :
    (State.release s).outside P = s.outside P := by
  simp [State.release, *]

@[simp] theorem State.outside_simmerConfigured (hsimmer : .simmer ∈ P) (s : State) :
    (State.simmerConfigured s).outside P = s.outside P := by
  simp [State.simmerConfigured, *]

@[simp] theorem State.outside_simmerTimers (hsimmer : .simmer ∈ P) (s : State) :
    (State.simmerTimers s).outside P = s.outside P := by
  simp [State.simmerTimers, *]

@[simp] theorem State.outside_stages (hmode : .mode ∈ P) (hlt : .lt ∈ P) (hshadow : .shadow ∈ P) (hstaged : .staged ∈ P)
    (hshd : .shd ∈ P) (haln : .aln ∈ P) (hsv : .sv ∈ P) (hilm : .ilm ∈ P) (haxes : .axes ∈ P) (htherm : .therm ∈ P)
    (hsimmer : .simmer ∈ P) (hdram : .dram ∈ P) (hmem : .mem ∈ P) (hctxs : .ctxs ∈ P) (s : State) :
    (State.stages s).outside P = s.outside P := by
  simp [State.stages, *]

@[simp] theorem State.outside_stageAxis_apply (hctxs : .ctxs ∈ P) (hshadow : .shadow ∈ P) (hstaged : .staged ∈ P)
    (haxes : .axes ∈ P) (x op : Nat) (f : Tables → Tables) (s : State) (n0 : Nat) :
    ((State.stageAxis x op f s).apply n0).outside P = s.outside P := by
  simp [State.stageAxis, *]

@[simp] theorem State.outside_acceptMove_apply (hctxs : .ctxs ∈ P) (haxes : .axes ∈ P) (x n : Nat) (k : MoveKind) (s : State)
    (n0 : Nat) :
    ((State.acceptMove x n k s).apply n0).outside P = s.outside P := by
  simp [State.acceptMove, *]

@[simp] theorem State.outside_secAsk (hsec : .sec ∈ P) (r : TrivetReq) (s : State) :
    (State.secAsk r s).outside P = s.outside P := by
  simp [State.secAsk, *]

@[simp] theorem State.outside_newChallenge (hsec : .sec ∈ P) (s : State) :
    (State.newChallenge s).outside P = s.outside P := by
  simp [State.newChallenge, *]

@[simp] theorem State.outside_authorise_apply (hctxs : .ctxs ∈ P) (hsec : .sec ∈ P) (h : Hdr) (op action target : Nat)
    (owner : Bool) (s : State) (n0 : Nat) :
    ((State.authorise h op action target owner s).apply n0).outside P = s.outside P := by
  simp [State.authorise, *]

@[simp] theorem State.outside_attestDone (hdram : .dram ∈ P) (hmem : .mem ∈ P) (hctxs : .ctxs ∈ P) (r : TrivetReq) (crossed : Nat)
    (sig : List Byte) (s : State) :
    (State.attestDone r crossed sig s).outside P = s.outside P := by
  unfold State.attestDone
  dsimp only
  split <;> simp [*]

@[simp] theorem State.outside_secEnd (hdram : .dram ∈ P) (hmem : .mem ∈ P) (hctxs : .ctxs ∈ P) (hsec : .sec ∈ P) (n : Nat)
    (st : OpState) (code : Nat) (pay : List Byte) (s : State) :
    (State.secEnd n st code pay s).outside P = s.outside P := by
  unfold State.secEnd
  dsimp only
  simp only [State.outside_mk, State.outside_finish, hdram, hmem, hctxs, hsec, true_or, or_true, and_self]

@[simp] theorem State.outside_secFail (hdram : .dram ∈ P) (hmem : .mem ∈ P) (hctxs : .ctxs ∈ P) (hsec : .sec ∈ P) (n code : Nat)
    (s : State) :
    (State.secFail n code s).outside P = s.outside P := by
  simp [State.secFail, *]

@[simp] theorem State.outside_authFail (hdram : .dram ∈ P) (hmem : .mem ∈ P) (hctxs : .ctxs ∈ P) (hsec : .sec ∈ P) (n : Nat)
    (s : State) :
    (State.authFail n s).outside P = s.outside P := by
  simp [State.authFail, *]

@[simp] theorem State.outside_secPut (hdram : .dram ∈ P) (hmem : .mem ∈ P) (hctxs : .ctxs ∈ P) (hsec : .sec ∈ P) (id : NvId)
    (data : List Byte) (why : NvWhy) (n : Nat) (s : State) :
    (State.secPut id data why n s).outside P = s.outside P := by
  unfold State.secPut
  split
  case h_1 u hu => exact State.outside_of_nvPut hsec hu
  case h_2 => simp [*]

@[simp] theorem State.outside_trivetDone (hsv : .sv ∈ P) (hdram : .dram ∈ P) (hmem : .mem ∈ P) (hctxs : .ctxs ∈ P) (hsec : .sec ∈ P)
    (r : TrivetReq) (crossed : Nat) (ok : Bool) (out : List Byte) (s : State) :
    (State.trivetDone r crossed ok out s).outside P = s.outside P := by
  unfold State.trivetDone
  (repeat' split) <;> simp [*]

@[simp] theorem State.outside_nvForget (hsec : .sec ∈ P) (id : NvId) (s : State) :
    (State.nvForget id s).outside P = s.outside P := by
  simp [State.nvForget, *]

@[simp] theorem State.outside_nvDone (hrst : .rst ∈ P) (hdram : .dram ∈ P) (hmem : .mem ∈ P) (hctxs : .ctxs ∈ P) (hsec : .sec ∈ P)
    (w : NvWrite) (rest : List NvWrite) (s : State) :
    (State.nvDone w rest s).outside P = s.outside P := by
  unfold State.nvDone
  (repeat' split) <;> simp [*]

@[simp] theorem State.outside_nvDrop (hdram : .dram ∈ P) (hmem : .mem ∈ P) (hctxs : .ctxs ∈ P) (hsec : .sec ∈ P) (w : NvWrite)
    (s : State) :
    (State.nvDrop w s).outside P = s.outside P := by
  unfold State.nvDrop
  split <;> simp [*]

@[simp] theorem State.outside_nvSafe (htherm : .therm ∈ P) (s : State) :
    (State.nvSafe s).outside P = s.outside P := by
  simp [State.nvSafe, *]

@[simp] theorem State.outside_nvSpoil (hsec : .sec ∈ P) (id : NvId) (s : State) :
    (State.nvSpoil id s).outside P = s.outside P := by
  simp [State.nvSpoil, *]

@[simp] theorem State.outside_nvStart (hsec : .sec ∈ P) (w : NvWrite) (s : State) :
    (State.nvStart w s).outside P = s.outside P := by
  unfold State.nvStart
  split <;> simp [*]

theorem State.outside_of_abortMove (haxes : .axes ∈ P) (hctxs : .ctxs ∈ P) {k : Nat} {s : State} {w : State}
    (h : State.abortMove k s = some w) : w.outside P = s.outside P := by
  unfold State.abortMove at h
  split at h
  · cases h
  · dsimp only at h
    split at h
    all_goals
      rw [← Option.some.inj h]
      simp [*]

theorem State.outside_of_refAbort (hsv : .sv ∈ P) (hctxs : .ctxs ∈ P) {n : Nat} {s : State} {w : State}
    (h : State.refAbort n s = some w) : w.outside P = s.outside P := by
  unfold State.refAbort at h
  repeat' split at h
  all_goals cases h
  all_goals simp [*]

theorem State.outside_of_abortRun (hmode : .mode ∈ P) (hshadow : .shadow ∈ P) (hstaged : .staged ∈ P) (hshd : .shd ∈ P)
    (haln : .aln ∈ P) (hsv : .sv ∈ P) (hilm : .ilm ∈ P) (haxes : .axes ∈ P) (hdram : .dram ∈ P) (hmem : .mem ∈ P)
    (hctxs : .ctxs ∈ P) (hdiag : .diag ∈ P) {k op : Nat} {s : State} {w : State}
    (h : State.abortRun k op s = some w) : w.outside P = s.outside P := by
  unfold State.abortRun at h
  split at h
  case h_5 => exact State.outside_of_refAbort hsv hctxs h
  case h_7 | h_8 | h_9 | h_10 | h_11 | h_12 => exact State.outside_of_abortMove haxes hctxs h
  all_goals
    repeat' split at h
    all_goals cases h
    all_goals simp [*]

@[simp] theorem State.outside_after (f : State → State) (s : State) : (s.after f).outside P = (f s).outside P := by
  simp [State.after]

@[simp] theorem State.outside_begun (hctxs : .ctxs ∈ P) (h : Hdr) (op : Nat) (s : State) :
    (State.begun h op s).outside P = s.outside P := by
  simp [State.begun, *]

@[simp] theorem State.outside_takeUnknown (hctxs : .ctxs ∈ P) (n : Nat) (bs : List Byte) (s : State) :
    (State.takeUnknown n bs s).outside P = s.outside P := by
  simp [State.takeUnknown, *]

@[simp] theorem State.outside_lineCounts (hmode : .mode ∈ P) (hports : .ports ∈ P) (hlt : .lt ∈ P) (hring : .ring ∈ P)
    (hactive : .active ∈ P) (hshadow : .shadow ∈ P) (hstaged : .staged ∈ P) (hlines : .lines ∈ P) (hshd : .shd ∈ P)
    (haln : .aln ∈ P) (hsv : .sv ∈ P) (hskl : .skl ∈ P) (hilm : .ilm ∈ P) (haxes : .axes ∈ P) (hdram : .dram ∈ P) (hmem : .mem ∈ P)
    (hctxs : .ctxs ∈ P) (hsec : .sec ∈ P) (d : Int) (x0 : Nat) (s : State) :
    (State.lineCounts d x0 s).outside P = s.outside P := by
  induction x0 generalizing s with
  | zero => rfl
  | succ k ih =>
    unfold State.lineCounts
    simp [*]

@[simp] theorem State.outside_moveTo (hmode : .mode ∈ P) (hports : .ports ∈ P) (hlt : .lt ∈ P) (hring : .ring ∈ P)
    (hactive : .active ∈ P) (hshadow : .shadow ∈ P) (hstaged : .staged ∈ P) (hlines : .lines ∈ P) (hshd : .shd ∈ P)
    (haln : .aln ∈ P) (hsv : .sv ∈ P) (hskl : .skl ∈ P) (hilm : .ilm ∈ P) (haxes : .axes ∈ P) (hdram : .dram ∈ P) (hmem : .mem ∈ P)
    (hctxs : .ctxs ∈ P) (hsec : .sec ∈ P) (x : Nat) (p v : Int) (s : State) :
    (State.moveTo x p v s).outside P = s.outside P := by
  simp [State.moveTo, *]

@[simp] theorem State.outside_paceMove (hmode : .mode ∈ P) (hports : .ports ∈ P) (hlt : .lt ∈ P) (hring : .ring ∈ P)
    (hactive : .active ∈ P) (hshadow : .shadow ∈ P) (hstaged : .staged ∈ P) (hlines : .lines ∈ P) (hshd : .shd ∈ P)
    (haln : .aln ∈ P) (hsv : .sv ∈ P) (hskl : .skl ∈ P) (hilm : .ilm ∈ P) (haxes : .axes ∈ P) (hdram : .dram ∈ P) (hmem : .mem ∈ P)
    (hctxs : .ctxs ∈ P) (hsec : .sec ∈ P) (v : Int) (s : State) :
    (State.paceMove v s).outside P = s.outside P := by
  simp [State.paceMove, *]

@[simp] theorem State.outside_paceLeave (hmode : .mode ∈ P) (hports : .ports ∈ P) (hlt : .lt ∈ P) (hring : .ring ∈ P)
    (hactive : .active ∈ P) (hshadow : .shadow ∈ P) (hstaged : .staged ∈ P) (hlines : .lines ∈ P) (hshd : .shd ∈ P)
    (haln : .aln ∈ P) (hsv : .sv ∈ P) (hskl : .skl ∈ P) (hilm : .ilm ∈ P) (haxes : .axes ∈ P) (hdram : .dram ∈ P) (hmem : .mem ∈ P)
    (hctxs : .ctxs ∈ P) (hsec : .sec ∈ P) (s : State) :
    (State.paceLeave s).outside P = s.outside P := by
  simp [State.paceLeave, *]

@[simp] theorem State.outside_paceStop (hlt : .lt ∈ P) (s : State) :
    (State.paceStop s).outside P = s.outside P := by
  simp [State.paceStop, *]

@[simp] theorem State.outside_pacedRest (haxes : .axes ∈ P) (hctxs : .ctxs ∈ P) (s : State) :
    (State.pacedRest s).outside P = s.outside P := by
  simp [State.pacedRest, *]

@[simp] theorem State.outside_paceStep (hmode : .mode ∈ P) (hports : .ports ∈ P) (hlt : .lt ∈ P) (hring : .ring ∈ P)
    (hactive : .active ∈ P) (hshadow : .shadow ∈ P) (hstaged : .staged ∈ P) (hlines : .lines ∈ P) (hshd : .shd ∈ P)
    (haln : .aln ∈ P) (hsv : .sv ∈ P) (hskl : .skl ∈ P) (hilm : .ilm ∈ P) (haxes : .axes ∈ P) (hdram : .dram ∈ P) (hmem : .mem ∈ P)
    (hctxs : .ctxs ∈ P) (hsec : .sec ∈ P) (s : State) :
    (State.paceStep s).outside P = s.outside P := by
  unfold State.paceStep
  split <;> simp [*]

@[simp] theorem State.outside_noteLimit (haxes : .axes ∈ P) (x : Nat) (s : State) :
    (State.noteLimit x s).outside P = s.outside P := by
  simp [State.noteLimit, *]

@[simp] theorem State.outside_limitedStep (hmode : .mode ∈ P) (hports : .ports ∈ P) (hlt : .lt ∈ P) (hring : .ring ∈ P)
    (hactive : .active ∈ P) (hshadow : .shadow ∈ P) (hstaged : .staged ∈ P) (hlines : .lines ∈ P) (hshd : .shd ∈ P)
    (haln : .aln ∈ P) (hsv : .sv ∈ P) (hskl : .skl ∈ P) (hilm : .ilm ∈ P) (haxes : .axes ∈ P) (hdram : .dram ∈ P) (hmem : .mem ∈ P)
    (hctxs : .ctxs ∈ P) (hsec : .sec ∈ P) (x : Nat) (v : Int) (s : State) :
    (State.limitedStep x v s).outside P = s.outside P := by
  unfold State.limitedStep
  dsimp only
  split <;> simp [*]

@[simp] theorem State.outside_moveProgress (hctxs : .ctxs ∈ P) (x : Nat) (m : Move) (far : Int) (s : State) :
    (State.moveProgress x m far s).outside P = s.outside P := by
  unfold State.moveProgress
  split <;> simp [*]

@[simp] theorem State.outside_onLine (haxes : .axes ∈ P) (l : Nat) (s : State) :
    (State.onLine l s).outside P = s.outside P := by
  simp [State.onLine, *]

@[simp] theorem State.outside_softFault (haxes : .axes ∈ P) (hctxs : .ctxs ∈ P) (x cause code : Nat) (s : State) :
    (State.softFault x cause code s).outside P = s.outside P := by
  simp [State.softFault, *]

@[simp] theorem State.outside_runStep (hmode : .mode ∈ P) (hports : .ports ∈ P) (hlt : .lt ∈ P) (hring : .ring ∈ P)
    (hactive : .active ∈ P) (hshadow : .shadow ∈ P) (hstaged : .staged ∈ P) (hlines : .lines ∈ P) (hshd : .shd ∈ P)
    (haln : .aln ∈ P) (hsv : .sv ∈ P) (hskl : .skl ∈ P) (hilm : .ilm ∈ P) (haxes : .axes ∈ P) (hdram : .dram ∈ P) (hmem : .mem ∈ P)
    (hctxs : .ctxs ∈ P) (hsec : .sec ∈ P) (x : Nat) (m : Move) (s : State) :
    (State.runStep x m s).outside P = s.outside P := by
  unfold State.runStep
  dsimp only
  (repeat' split) <;> simp [*]

@[simp] theorem State.outside_startMove (haxes : .axes ∈ P) (hctxs : .ctxs ∈ P) (x : Nat) (m : Move) (s : State) :
    (State.startMove x m s).outside P = s.outside P := by
  unfold State.startMove
  dsimp only
  split <;> simp [*]

@[simp] theorem State.outside_startNext (haxes : .axes ∈ P) (hctxs : .ctxs ∈ P) (x : Nat) (s : State) :
    (State.startNext x s).outside P = s.outside P := by
  unfold State.startNext
  dsimp only
  split <;> simp [*]

@[simp] theorem State.outside_stopStep (hmode : .mode ∈ P) (hports : .ports ∈ P) (hlt : .lt ∈ P) (hring : .ring ∈ P)
    (hactive : .active ∈ P) (hshadow : .shadow ∈ P) (hstaged : .staged ∈ P) (hlines : .lines ∈ P) (hshd : .shd ∈ P)
    (haln : .aln ∈ P) (hsv : .sv ∈ P) (hskl : .skl ∈ P) (hilm : .ilm ∈ P) (haxes : .axes ∈ P) (hdram : .dram ∈ P) (hmem : .mem ∈ P)
    (hctxs : .ctxs ∈ P) (hsec : .sec ∈ P) (x : Nat) (coord : Bool) (dec : Nat) (s : State) :
    (State.stopStep x coord dec s).outside P = s.outside P := by
  unfold State.stopStep
  dsimp only
  (repeat' split) <;> simp [*]

@[simp] theorem State.outside_axisTick (hmode : .mode ∈ P) (hports : .ports ∈ P) (hlt : .lt ∈ P) (hring : .ring ∈ P)
    (hactive : .active ∈ P) (hshadow : .shadow ∈ P) (hstaged : .staged ∈ P) (hlines : .lines ∈ P) (hshd : .shd ∈ P)
    (haln : .aln ∈ P) (hsv : .sv ∈ P) (hskl : .skl ∈ P) (hilm : .ilm ∈ P) (haxes : .axes ∈ P) (hdram : .dram ∈ P) (hmem : .mem ∈ P)
    (hctxs : .ctxs ∈ P) (hsec : .sec ∈ P) (s : State) (x : Nat) :
    (State.axisTick s x).outside P = s.outside P := by
  unfold State.axisTick
  dsimp only
  (repeat' split) <;> simp [*]

@[simp] theorem State.outside_stallFound (haxes : .axes ∈ P) (hctxs : .ctxs ∈ P) (x : Nat) (s : State) :
    (State.stallFound x s).outside P = s.outside P := by
  unfold State.stallFound
  dsimp only
  (repeat' split) <;> simp [*]

@[simp] theorem State.outside_loadAngle (haxes : .axes ∈ P) (hctxs : .ctxs ∈ P) (x : Nat) (lam : Int) (s : State) :
    (State.loadAngle x lam s).outside P = s.outside P := by
  simp [State.loadAngle, *]

@[simp] theorem State.outside_estimate (haxes : .axes ∈ P) (hctxs : .ctxs ∈ P) (x ang : Nat) (ea eb : Int) (s : State) :
    (State.estimate x ang ea eb s).outside P = s.outside P := by
  simp [State.estimate, *]

@[simp] theorem State.outside_queueRead (hpantry : .pantry ∈ P) (n o len : Nat) (s : State) :
    (State.queueRead n o len s).2.outside P = s.outside P := by
  simp [State.queueRead, *]

@[simp] theorem State.outside_mirrorClear (hshd : .shd ∈ P) (haln : .aln ∈ P) (hskl : .skl ∈ P) (haxes : .axes ∈ P)
    (hmadc : .madc ∈ P) (hdram : .dram ∈ P) (hpantry : .pantry ∈ P) (hsec : .sec ∈ P) (hcpu : .cpu ∈ P) (hdiag : .diag ∈ P)
    (o : Nat) (s : State) :
    (State.mirrorClear o s).outside P = s.outside P := by
  unfold State.mirrorClear
  (repeat' split) <;> simp [*]

@[simp] theorem State.outside_readClears (hshd : .shd ∈ P) (haln : .aln ∈ P) (hskl : .skl ∈ P) (haxes : .axes ∈ P)
    (hmadc : .madc ∈ P) (hdram : .dram ∈ P) (hpantry : .pantry ∈ P) (hsec : .sec ∈ P) (hcpu : .cpu ∈ P) (hdiag : .diag ∈ P)
    (a : Nat) (s : State) :
    (State.readClears a s).outside P = s.outside P := by
  simp [State.readClears, *]

@[simp] theorem State.outside_barRead (hshd : .shd ∈ P) (haln : .aln ∈ P) (hskl : .skl ∈ P) (haxes : .axes ∈ P) (hmadc : .madc ∈ P)
    (hdram : .dram ∈ P) (hpantry : .pantry ∈ P) (hsec : .sec ∈ P) (hcpu : .cpu ∈ P) (hdiag : .diag ∈ P) (p a len : Nat) (s : State) :
    (State.barRead p a len s).2.outside P = s.outside P := by
  unfold State.barRead
  (repeat' split) <;> simp [*]

@[simp] theorem State.outside_queueWrite (hpantry : .pantry ∈ P) (n o : Nat) (bs : List Byte) (s : State) :
    (State.queueWrite n o bs s).outside P = s.outside P := by
  simp [State.queueWrite, *]

@[simp] theorem State.outside_chanWrite (hdram : .dram ∈ P) (hdma : .dma ∈ P) (c i v : Nat) (s : State) :
    (State.chanWrite c i v s).outside P = s.outside P := by
  unfold State.chanWrite
  split <;> simp [*]

@[simp] theorem State.outside_edgeWrite (hev : .ev ∈ P) (j v : Nat) (s : State) :
    (State.edgeWrite j v s).outside P = s.outside P := by
  simp [State.edgeWrite, *]

@[simp] theorem State.outside_routeWrite (hev : .ev ∈ P) (src v : Nat) (s : State) :
    (State.routeWrite src v s).outside P = s.outside P := by
  simp [State.routeWrite, *]

@[simp] theorem State.outside_eventWrite (hev : .ev ∈ P) (i v : Nat) (s : State) :
    (State.eventWrite i v s).outside P = s.outside P := by
  simp [State.eventWrite, *]

@[simp] theorem State.outside_msixWrite (hhost : .host ∈ P) (p i v : Nat) (s : State) :
    (State.msixWrite p i v s).outside P = s.outside P := by
  unfold State.msixWrite
  (repeat' split) <;> simp [*]

end Sys2Proof.Machine
end

section
/-! PROOFS. Frames: what the body of each mailbox command leaves alone. -/

namespace Sys2Proof.Machine
variable {P : List Part}

@[simp] theorem State.outside_take (hctxs : .ctxs ∈ P) {size : Option Nat} (hfetch : .dram ∈ P ∨ size = some 0) (h : Hdr) (op : Nat)
    (cls : List Cls) (modeOk inRange : Bool) {body : State → Res}
    (hbody : ∀ u, ((body u).apply h.ctx.toNat).outside P = u.outside P) (s : State) :
    (s.take h op cls modeOk size inRange body).outside P = s.outside P := by
  unfold State.take
  dsimp only
  split
  · split
    · split <;> simp [*]
    · next hv =>
      rw [hbody]
      have hplen : .dram ∈ P ∨ h.plen = 0 := hfetch.imp_right fun hsize => by
        subst hsize
        by_contra hne
        have hlen : (h.plen.toNat == 0) = false := by
          rw [beq_eq_false_iff_ne]
          exact fun e => hne (BitVec.eq_of_toNat_eq e)
        simp only [State.verdict, hlen, Bool.and_false, Bool.not_false, if_true] at hv
        repeat' split at hv
        all_goals cases hv
      rcases hplen with hdram | hplen
      · unfold State.fetched
        split <;> simp [*]
      · simp [State.fetched, *]
  · simp

theorem State.winResult_cases (w off : Nat) (bs data : List Byte) (s : State) :
    (∃ code, s.winResult w off bs data = .fail code [] s) ∨ s.winResult w off bs data = .ok data [] (s.dramWrite 9
    (s.winAddr w off) bs) := by
  unfold State.winResult
  split
  · exact .inl ⟨_, rfl⟩
  · split
    · exact .inl ⟨_, rfl⟩
    · exact .inr rfl

@[simp] theorem outside_takeQBind (hpantry : .pantry ∈ P) (hctxs : .ctxs ∈ P) (h : Hdr) (queue : BitVec 16) (en flags : BitVec 8)
    (limit wm : BitVec 16) (s : State) :
    (takeQBind h queue en flags limit wm s).outside P = s.outside P := by
  simp [takeQBind, *]

@[simp] theorem outside_takeQFlush (hpantry : .pantry ∈ P) (hctxs : .ctxs ∈ P) (h : Hdr) (queue : BitVec 16) (s : State) :
    (takeQFlush h queue s).outside P = s.outside P := by
  simp [takeQFlush, *]

@[simp] theorem outside_takeDmaBind (hpantry : .pantry ∈ P) (hdma : .dma ∈ P) (hctxs : .ctxs ∈ P) (h : Hdr)
    (channel window : BitVec 8) (queue : BitVec 16) (port : BitVec 8) (s : State) :
    (takeDmaBind h channel window queue port s).outside P = s.outside P := by
  refine State.outside_take hctxs (.inr rfl) _ _ _ _ _ (fun u => ?_) _
  dsimp only
  (repeat' split) <;> simp [*]

@[simp] theorem outside_takeDramChRetire (hdram : .dram ∈ P) (hctxs : .ctxs ∈ P) (h : Hdr) (ch : BitVec 8) (s : State) :
    (takeDramChRetire h ch s).outside P = s.outside P := by
  simp [takeDramChRetire, *]

@[simp] theorem outside_takeDramChTest (hdram : .dram ∈ P) (hmem : .mem ∈ P) (hctxs : .ctxs ∈ P) (h : Hdr) (ch passes : BitVec 8)
    (s : State) :
    (takeDramChTest h ch passes s).outside P = s.outside P := by
  simp [takeDramChTest, *]

@[simp] theorem outside_takeDramChRestore (hdram : .dram ∈ P) (hctxs : .ctxs ∈ P) (h : Hdr) (ch : BitVec 8) (s : State) :
    (takeDramChRestore h ch s).outside P = s.outside P := by
  simp [takeDramChRestore, *]

@[simp] theorem outside_takeDramCfgStage (hdram : .dram ∈ P) (hctxs : .ctxs ∈ P) (hsec : .sec ∈ P) (h : Hdr)
    (fields layout prot scrub : BitVec 8) (age : BitVec 16) (s : State) :
    (takeDramCfgStage h fields layout prot scrub age s).outside P = s.outside P := by
  unfold takeDramCfgStage
  dsimp only
  refine State.outside_take hctxs (.inr rfl) _ _ _ _ _ (fun u => ?_) _
  split
  · simp [*]
  · split
    · simp [*]
    · split
      case h_1 v hv => exact (State.outside_of_nvPut hsec hv).trans (by simp [*])
      case h_2 => simp [*]

@[simp] theorem outside_takeDramTrain (hdram : .dram ∈ P) (hctxs : .ctxs ∈ P) (h : Hdr) (s : State) :
    (takeDramTrain h s).outside P = s.outside P := by
  simp [takeDramTrain, *]

@[simp] theorem outside_takeDramLogRead (hdram : .dram ∈ P) (hmem : .mem ∈ P) (hctxs : .ctxs ∈ P) (h : Hdr)
    (window clear : BitVec 8) (offset : BitVec 32) (s : State) :
    (takeDramLogRead h window clear offset s).outside P = s.outside P := by
  refine State.outside_take hctxs (.inr rfl) _ _ _ _ _ (fun u => ?_) _
  dsimp only
  rcases u.winResult_cases window.toNat offset.toNat _ _ with ⟨code, e⟩ | e
  · rw [e]; simp [*]
  · rw [e]
    split
    · next hok =>
      obtain ⟨rfl, rfl, rfl⟩ := Res.ok.inj hok
      split <;> simp [*]
    · simp [*]

@[simp] theorem outside_takeWinCreate (hdram : .dram ∈ P) (hctxs : .ctxs ∈ P) (h : Hdr) (window part : BitVec 8) (size : BitVec 32)
    (s : State) :
    (takeWinCreate h window part size s).outside P = s.outside P := by
  refine State.outside_take hctxs (.inr rfl) _ _ _ _ _ (fun u => ?_) _
  dsimp only
  (repeat' split) <;> simp [*]

@[simp] theorem outside_takeWinMap (hdram : .dram ∈ P) (hctxs : .ctxs ∈ P) (h : Hdr) (window : BitVec 8) (bar2Off : BitVec 32)
    (s : State) :
    (takeWinMap h window bar2Off s).outside P = s.outside P := by
  refine State.outside_take hctxs (.inr rfl) _ _ _ _ _ (fun u => ?_) _
  (repeat' split) <;> simp [*]

@[simp] theorem outside_takeWinUnmap (hdram : .dram ∈ P) (hctxs : .ctxs ∈ P) (h : Hdr) (window : BitVec 8) (s : State) :
    (takeWinUnmap h window s).outside P = s.outside P := by
  refine State.outside_take hctxs (.inr rfl) _ _ _ _ _ (fun u => ?_) _
  (repeat' split) <;> simp [*]

@[simp] theorem outside_takeWinFree (hdram : .dram ∈ P) (hctxs : .ctxs ∈ P) (h : Hdr) (window : BitVec 8) (s : State) :
    (takeWinFree h window s).outside P = s.outside P := by
  refine State.outside_take hctxs (.inr rfl) _ _ _ _ _ (fun u => ?_) _
  (repeat' split) <;> simp [*]

@[simp] theorem outside_takeCfgProfile (hmode : .mode ∈ P) (hports : .ports ∈ P) (hctxs : .ctxs ∈ P) (h : Hdr) (profile : BitVec 8)
    (s : State) :
    (takeCfgProfile h profile s).outside P = s.outside P := by
  refine State.outside_take hctxs (.inr rfl) _ _ _ _ _ (fun u => ?_) _
  (repeat' split) <;> simp [*]

@[simp] theorem outside_takePatBankStage (hbanks : .banks ∈ P) (hdram : .dram ∈ P) (hctxs : .ctxs ∈ P) (h : Hdr)
    (bank mode lsLen repLen : BitVec 8) (nrep blLen : BitVec 16) (ports : BitVec 64) (s : State) :
    (takePatBankStage h bank mode lsLen repLen nrep blLen ports s).outside P = s.outside P := by
  simp [takePatBankStage, *]

@[simp] theorem outside_takePatSelectStage (hshadow : .shadow ∈ P) (hstaged : .staged ∈ P) (hctxs : .ctxs ∈ P) (h : Hdr)
    (ports : BitVec 64) (bank drive : BitVec 8) (s : State) :
    (takePatSelectStage h ports bank drive s).outside P = s.outside P := by
  refine State.outside_take hctxs (.inr rfl) _ _ _ _ _ (fun u => ?_) _
  simp [*]

@[simp] theorem outside_takeAfeStage (hshadow : .shadow ∈ P) (hstaged : .staged ∈ P) (hdram : .dram ∈ P) (hctxs : .ctxs ∈ P)
    (h : Hdr) (port range : BitVec 8) (s : State) :
    (takeAfeStage h port range s).outside P = s.outside P := by
  refine State.outside_take hctxs (.inl hdram) _ _ _ _ _ (fun u => ?_) _
  simp [*]

@[simp] theorem outside_takeTapMapStage (hshadow : .shadow ∈ P) (hstaged : .staged ∈ P) (hdram : .dram ∈ P) (hctxs : .ctxs ∈ P)
    (h : Hdr) (firstPort count : BitVec 8) (s : State) :
    (takeTapMapStage h firstPort count s).outside P = s.outside P := by
  refine State.outside_take hctxs (.inl hdram) _ _ _ _ _ (fun u => ?_) _
  simp [*]

@[simp] theorem outside_takeTapClockStage (hshadow : .shadow ∈ P) (hstaged : .staged ∈ P) (hctxs : .ctxs ∈ P) (h : Hdr)
    (die : BitVec 8) (freq : BitVec 32) (s : State) :
    (takeTapClockStage h die freq s).outside P = s.outside P := by
  refine State.outside_take hctxs (.inr rfl) _ _ _ _ _ (fun u => ?_) _
  simp [*]

@[simp] theorem outside_takePortIsolate (hshadow : .shadow ∈ P) (hstaged : .staged ∈ P) (hctxs : .ctxs ∈ P) (h : Hdr)
    (port : BitVec 8) (s : State) :
    (takePortIsolate h port s).outside P = s.outside P := by
  simp [takePortIsolate, *]

@[simp] theorem outside_takePortSwap (hshadow : .shadow ∈ P) (hstaged : .staged ∈ P) (hctxs : .ctxs ∈ P) (h : Hdr) (port : BitVec 8)
    (s : State) :
    (takePortSwap h port s).outside P = s.outside P := by
  simp [takePortSwap, *]

@[simp] theorem outside_takePortQualify (hshadow : .shadow ∈ P) (hstaged : .staged ∈ P) (hctxs : .ctxs ∈ P) (h : Hdr)
    (port bank pwrSettle : BitVec 8) (qualLines : BitVec 16) (s : State) :
    (takePortQualify h port bank pwrSettle qualLines s).outside P = s.outside P := by
  simp [takePortQualify, *]

@[simp] theorem outside_takePortRelease (hshadow : .shadow ∈ P) (hstaged : .staged ∈ P) (hctxs : .ctxs ∈ P) (h : Hdr)
    (port : BitVec 8) (s : State) :
    (takePortRelease h port s).outside P = s.outside P := by
  simp [takePortRelease, *]

@[simp] theorem outside_takeAfeFgCal (hports : .ports ∈ P) (hctxs : .ctxs ∈ P) (h : Hdr) (dies : BitVec 8) (s : State) :
    (takeAfeFgCal h dies s).outside P = s.outside P := by
  refine State.outside_take hctxs (.inr rfl) _ _ _ _ _ (fun u => ?_) _
  (repeat' split) <;> simp [*]

@[simp] theorem outside_takeAfeTrimSave (hctxs : .ctxs ∈ P) (hsec : .sec ∈ P) (h : Hdr) (s : State) :
    (takeAfeTrimSave h s).outside P = s.outside P := by
  refine State.outside_take hctxs (.inr rfl) _ _ _ _ _ (fun u => ?_) _
  split
  case h_1 v hv => exact State.outside_of_saveTrims hsec hv
  case h_2 => simp [*]

@[simp] theorem outside_takeAfeResidRead (hdram : .dram ∈ P) (hmem : .mem ∈ P) (hctxs : .ctxs ∈ P) (h : Hdr) (die window : BitVec 8)
    (offset : BitVec 32) (s : State) :
    (takeAfeResidRead h die window offset s).outside P = s.outside P := by
  simp [takeAfeResidRead, *]

@[simp] theorem outside_takePortStatusRead (hports : .ports ∈ P) (hctxs : .ctxs ∈ P) (h : Hdr) (port : BitVec 8) (s : State) :
    (takePortStatusRead h port s).outside P = s.outside P := by
  simp [takePortStatusRead, *]

@[simp] theorem outside_takeMadcCfgStage (hmadc : .madc ∈ P) (hctxs : .ctxs ∈ P) (h : Hdr) (mainsSrc mult calPeriod : BitVec 8)
    (s : State) :
    (takeMadcCfgStage h mainsSrc mult calPeriod s).outside P = s.outside P := by
  simp [takeMadcCfgStage, *]

@[simp] theorem outside_takeMadcSeqStage (hmadc : .madc ∈ P) (hdram : .dram ∈ P) (hctxs : .ctxs ∈ P) (h : Hdr) (len : BitVec 8)
    (s : State) :
    (takeMadcSeqStage h len s).outside P = s.outside P := by
  simp [takeMadcSeqStage, *]

@[simp] theorem outside_takeMadcSetStage (hmadc : .madc ∈ P) (hdram : .dram ∈ P) (hctxs : .ctxs ∈ P) (h : Hdr)
    (first count curves : BitVec 8) (s : State) :
    (takeMadcSetStage h first count curves s).outside P = s.outside P := by
  simp [takeMadcSetStage, *]

@[simp] theorem outside_takeMadcCal (hclk : .clk ∈ P) (hmadc : .madc ∈ P) (hctxs : .ctxs ∈ P) (h : Hdr) (s : State) :
    (takeMadcCal h s).outside P = s.outside P := by
  simp [takeMadcCal, *]

@[simp] theorem outside_takeMadcInject (hclk : .clk ∈ P) (hmadc : .madc ∈ P) (hctxs : .ctxs ∈ P) (h : Hdr)
    (ch kind settle set : BitVec 8) (s : State) :
    (takeMadcInject h ch kind settle set s).outside P = s.outside P := by
  simp [takeMadcInject, *]

@[simp] theorem outside_takeMadcTest (hclk : .clk ∈ P) (hmadc : .madc ∈ P) (hctxs : .ctxs ∈ P) (h : Hdr) (conv : BitVec 8) (s : State) :
    (takeMadcTest h conv s).outside P = s.outside P := by
  simp [takeMadcTest, *]

@[simp] theorem outside_takeMadcAccRead (hmadc : .madc ∈ P) (hdram : .dram ∈ P) (hmem : .mem ∈ P) (hctxs : .ctxs ∈ P) (h : Hdr)
    (window clear : BitVec 8) (offset : BitVec 32) (mask : BitVec 64) (maskHi : BitVec 8) (s : State) :
    (takeMadcAccRead h window clear offset mask maskHi s).outside P = s.outside P := by
  refine State.outside_take hctxs (.inr rfl) _ _ _ _ _ (fun u => ?_) _
  dsimp only
  rcases u.winResult_cases window.toNat offset.toNat _ _ with ⟨code, e⟩ | e
  · rw [e]; simp [*]
  · rw [e]
    split
    · next hok =>
      obtain ⟨rfl, rfl, rfl⟩ := Res.ok.inj hok
      split <;> simp [*]
    · simp [*]

@[simp] theorem outside_takeIlmRowStage (hshadow : .shadow ∈ P) (hstaged : .staged ∈ P) (hdram : .dram ∈ P) (hctxs : .ctxs ∈ P)
    (h : Hdr) (row : BitVec 8) (s : State) :
    (takeIlmRowStage h row s).outside P = s.outside P := by
  refine State.outside_take hctxs (.inl hdram) _ _ _ _ _ (fun u => ?_) _
  simp [*]

@[simp] theorem outside_takeIlmLevelStage (hshadow : .shadow ∈ P) (hstaged : .staged ∈ P) (hdram : .dram ∈ P) (hctxs : .ctxs ∈ P)
    (h : Hdr) (s : State) :
    (takeIlmLevelStage h s).outside P = s.outside P := by
  refine State.outside_take hctxs (.inl hdram) _ _ _ _ _ (fun u => ?_) _
  simp [*]

@[simp] theorem outside_takeIlmTcompStage (hshadow : .shadow ∈ P) (hstaged : .staged ∈ P) (hdram : .dram ∈ P) (hctxs : .ctxs ∈ P)
    (h : Hdr) (row : BitVec 8) (s : State) :
    (takeIlmTcompStage h row s).outside P = s.outside P := by
  refine State.outside_take hctxs (.inl hdram) _ _ _ _ _ (fun u => ?_) _
  simp [*]

@[simp] theorem outside_takeIlmLampClear (hshadow : .shadow ∈ P) (hstaged : .staged ∈ P) (hctxs : .ctxs ∈ P) (h : Hdr)
    (row zone lamp : BitVec 8) (s : State) :
    (takeIlmLampClear h row zone lamp s).outside P = s.outside P := by
  refine State.outside_take hctxs (.inr rfl) _ _ _ _ _ (fun u => ?_) _
  (repeat' split) <;> simp [*]

@[simp] theorem outside_takeIlmRowClear (hshadow : .shadow ∈ P) (hstaged : .staged ∈ P) (hctxs : .ctxs ∈ P) (h : Hdr)
    (row : BitVec 8) (s : State) :
    (takeIlmRowClear h row s).outside P = s.outside P := by
  refine State.outside_take hctxs (.inr rfl) _ _ _ _ _ (fun u => ?_) _
  simp [*]

@[simp] theorem outside_takeLswStage (hilm : .ilm ∈ P) (hdram : .dram ∈ P) (hctxs : .ctxs ∈ P) (h : Hdr) (chain discard : BitVec 8)
    (nbits : BitVec 16) (s : State) :
    (takeLswStage h chain discard nbits s).outside P = s.outside P := by
  refine State.outside_take hctxs (.inl hdram) _ _ _ _ _ (fun u => ?_) _
  (repeat' split) <;> simp [*]

@[simp] theorem outside_takeLampTest (hilm : .ilm ∈ P) (hdram : .dram ∈ P) (hmem : .mem ∈ P) (hctxs : .ctxs ∈ P) (h : Hdr)
    (rows testCode : BitVec 8) (testNs lines : BitVec 16) (whenB : BitVec 8) (vLamp vOfs : BitVec 16) (s : State) :
    (takeLampTest h rows testCode testNs lines whenB vLamp vOfs s).outside P = s.outside P := by
  simp [takeLampTest, *]

@[simp] theorem outside_takeShdSetLoad (hstaged : .staged ∈ P) (hshd : .shd ∈ P) (hdram : .dram ∈ P) (hctxs : .ctxs ∈ P) (h : Hdr)
    (set window : BitVec 8) (offset : BitVec 32) (s : State) :
    (takeShdSetLoad h set window offset s).outside P = s.outside P := by
  unfold takeShdSetLoad
  dsimp only
  refine State.outside_take hctxs (.inr rfl) _ _ _ _ _ (fun u => State.outside_staging_apply hctxs _ _ _ _ _ _ (fun v => ?_)) _
  (repeat' split) <;> simp [*]

@[simp] theorem outside_takeShdSetPatch (hstaged : .staged ∈ P) (hshd : .shd ∈ P) (hdram : .dram ∈ P) (hctxs : .ctxs ∈ P) (h : Hdr)
    (set window tags : BitVec 8) (offset nwords : BitVec 32) (s : State) :
    (takeShdSetPatch h set window tags offset nwords s).outside P = s.outside P := by
  unfold takeShdSetPatch
  dsimp only
  refine State.outside_take hctxs (.inr rfl) _ _ _ _ _ (fun u => State.outside_staging_apply hctxs _ _ _ _ _ _ (fun v => ?_)) _
  (repeat' split) <;> simp [*]

@[simp] theorem outside_takeShdSetClear (hstaged : .staged ∈ P) (hshd : .shd ∈ P) (hctxs : .ctxs ∈ P) (h : Hdr) (set : BitVec 8)
    (s : State) :
    (takeShdSetClear h set s).outside P = s.outside P := by
  refine State.outside_take hctxs (.inr rfl) _ _ _ _ _ (fun u => ?_) _
  simp [*]

@[simp] theorem outside_takeShdSetDiscard (hstaged : .staged ∈ P) (hshd : .shd ∈ P) (hctxs : .ctxs ∈ P) (h : Hdr) (s : State) :
    (takeShdSetDiscard h s).outside P = s.outside P := by
  refine State.outside_take hctxs (.inr rfl) _ _ _ _ _ (fun u => ?_) _
  (repeat' split) <;> simp [*]

@[simp] theorem outside_takeShdSetRead (hdram : .dram ∈ P) (hmem : .mem ∈ P) (hctxs : .ctxs ∈ P) (h : Hdr)
    (set window copy : BitVec 8) (offset : BitVec 32) (s : State) :
    (takeShdSetRead h set window copy offset s).outside P = s.outside P := by
  refine State.outside_take hctxs (.inr rfl) _ _ _ _ _ (fun u => ?_) _
  dsimp only
  (repeat' split) <;> simp [*]

@[simp] theorem outside_takeShdCfgStage (hshadow : .shadow ∈ P) (hstaged : .staged ∈ P) (hdram : .dram ∈ P) (hctxs : .ctxs ∈ P)
    (h : Hdr) (s : State) :
    (takeShdCfgStage h s).outside P = s.outside P := by
  refine State.outside_take hctxs (.inl hdram) _ _ _ _ _ (fun u => ?_) _
  simp [*]

@[simp] theorem outside_takeLinStage (hshadow : .shadow ∈ P) (hstaged : .staged ∈ P) (hdram : .dram ∈ P) (hctxs : .ctxs ∈ P)
    (h : Hdr) (line : BitVec 8) (s : State) :
    (takeLinStage h line s).outside P = s.outside P := by
  refine State.outside_take hctxs (.inl hdram) _ _ _ _ _ (fun u => ?_) _
  simp [*]

@[simp] theorem outside_takeShdCalibrate (hshd : .shd ∈ P) (haxes : .axes ∈ P) (hctxs : .ctxs ∈ P) (h : Hdr)
    (set tileAuto : BitVec 8) (settleMs : BitVec 16) (ports : BitVec 64) (targetRed targetGrn targetBlu targetNir : BitVec 16)
    (defLo defHi : BitVec 8) (darkMax : BitVec 16) (s : State) :
    (takeShdCalibrate h set tileAuto settleMs ports targetRed targetGrn targetBlu targetNir defLo defHi darkMax s).outside P = s.outside P := by
  unfold takeShdCalibrate
  dsimp only
  refine State.outside_take hctxs (.inr rfl) _ _ _ _ _ (fun u => ?_) _
  split
  · simp [*]
  · split
    · simp [*]
    · split
      · simp [*]
      · split <;> simp [*]

@[simp] theorem outside_takeShdQualityRead (hdram : .dram ∈ P) (hmem : .mem ∈ P) (hctxs : .ctxs ∈ P) (h : Hdr) (window : BitVec 8)
    (offset : BitVec 32) (s : State) :
    (takeShdQualityRead h window offset s).outside P = s.outside P := by
  simp [takeShdQualityRead, *]

@[simp] theorem outside_takeLtSrcStage (hshadow : .shadow ∈ P) (hstaged : .staged ∈ P) (hctxs : .ctxs ∈ P) (h : Hdr)
    (src flags followers filtEnc filtSheet : BitVec 8) (chkTol : BitVec 16) (div : BitVec 64) (genPeriod flushPeriod : BitVec 32)
    (s : State) :
    (takeLtSrcStage h src flags followers filtEnc filtSheet chkTol div genPeriod flushPeriod s).outside P = s.outside P := by
  refine State.outside_take hctxs (.inr rfl) _ _ _ _ _ (fun u => ?_) _
  simp [*]

@[simp] theorem outside_takeLtStrobeStage (hshadow : .shadow ∈ P) (hstaged : .staged ∈ P) (hdram : .dram ∈ P) (hctxs : .ctxs ∈ P)
    (h : Hdr) (s : State) :
    (takeLtStrobeStage h s).outside P = s.outside P := by
  refine State.outside_take hctxs (.inl hdram) _ _ _ _ _ (fun u => ?_) _
  simp [*]

@[simp] theorem outside_takeLtPageStage (hshadow : .shadow ∈ P) (hstaged : .staged ∈ P) (hdram : .dram ∈ P) (hctxs : .ctxs ∈ P)
    (h : Hdr) (s : State) :
    (takeLtPageStage h s).outside P = s.outside P := by
  refine State.outside_take hctxs (.inl hdram) _ _ _ _ _ (fun u => ?_) _
  simp [*]

@[simp] theorem outside_takeLtPaceStage (hshadow : .shadow ∈ P) (hstaged : .staged ∈ P) (hctxs : .ctxs ∈ P) (h : Hdr)
    (hwm lwm : BitVec 32) (takeup : BitVec 16) (s : State) :
    (takeLtPaceStage h hwm lwm takeup s).outside P = s.outside P := by
  refine State.outside_take hctxs (.inr rfl) _ _ _ _ _ (fun u => ?_) _
  simp [*]

@[simp] theorem outside_takeIoAssignStage (hshadow : .shadow ∈ P) (hstaged : .staged ∈ P) (hctxs : .ctxs ∈ P) (h : Hdr)
    (enc1 fev15 : BitVec 8) (fevMask : BitVec 16) (rejMin rejDist : BitVec 32) (rejWidth : BitVec 16) (s : State) :
    (takeIoAssignStage h enc1 fev15 fevMask rejMin rejDist rejWidth s).outside P = s.outside P := by
  refine State.outside_take hctxs (.inr rfl) _ _ _ _ _ (fun u => ?_) _
  simp [*]

@[simp] theorem outside_takeRingSet (hring : .ring ∈ P) (hctxs : .ctxs ∈ P) (h : Hdr) (window : BitVec 8) (offset size : BitVec 32)
    (qDesc : BitVec 16) (s : State) :
    (takeRingSet h window offset size qDesc s).outside P = s.outside P := by
  simp [takeRingSet, *]

@[simp] theorem outside_takePageRelease (hring : .ring ∈ P) (hctxs : .ctxs ∈ P) (h : Hdr) (firstSeq : BitVec 32) (s : State) :
    (takePageRelease h firstSeq s).outside P = s.outside P := by
  refine State.outside_take hctxs (.inr rfl) _ _ _ _ _ (fun u => ?_) _
  (repeat' split) <;> simp [*]

@[simp] theorem outside_takeAlnTableStage (hshadow : .shadow ∈ P) (hstaged : .staged ∈ P) (hdram : .dram ∈ P) (hctxs : .ctxs ∈ P)
    (h : Hdr) (stagger : BitVec 16) (firstPort count : BitVec 8) (s : State) :
    (takeAlnTableStage h stagger firstPort count s).outside P = s.outside P := by
  unfold takeAlnTableStage
  dsimp only
  refine State.outside_take hctxs (.inl hdram) _ _ _ _ _ (fun u => State.outside_staging_apply hctxs _ _ _ _ _ _ (fun v => ?_)) _
  (repeat' split) <;> simp [*]

@[simp] theorem outside_takeXformStage (hshadow : .shadow ∈ P) (hstaged : .staged ∈ P) (hdram : .dram ∈ P) (hctxs : .ctxs ∈ P)
    (h : Hdr) (s : State) :
    (takeXformStage h s).outside P = s.outside P := by
  refine State.outside_take hctxs (.inl hdram) _ _ _ _ _ (fun u => ?_) _
  simp [*]

@[simp] theorem outside_takeProductStage (hshadow : .shadow ∈ P) (hstaged : .staged ∈ P) (hctxs : .ctxs ∈ P) (h : Hdr)
    (pf chMask : BitVec 8) (firstCol count : BitVec 32) (queue : BitVec 16) (s : State) :
    (takeProductStage h pf chMask firstCol count queue s).outside P = s.outside P := by
  refine State.outside_take hctxs (.inr rfl) _ _ _ _ _ (fun u => ?_) _
  simp [*]

@[simp] theorem outside_takeSklCfgStage (hshadow : .shadow ∈ P) (hstaged : .staged ∈ P) (hctxs : .ctxs ∈ P) (h : Hdr)
    (en line latLimit slkEn lanes : BitVec 8) (s : State) :
    (takeSklCfgStage h en line latLimit slkEn lanes s).outside P = s.outside P := by
  refine State.outside_take hctxs (.inr rfl) _ _ _ _ _ (fun u => ?_) _
  simp [*]

@[simp] theorem outside_takeSklMapStage (hshadow : .shadow ∈ P) (hstaged : .staged ∈ P) (hdram : .dram ∈ P) (hctxs : .ctxs ∈ P)
    (h : Hdr) (first count : BitVec 16) (s : State) :
    (takeSklMapStage h first count s).outside P = s.outside P := by
  refine State.outside_take hctxs (.inl hdram) _ _ _ _ _ (fun u => ?_) _
  simp [*]

@[simp] theorem outside_takeSklProfileStage (hshadow : .shadow ∈ P) (hstaged : .staged ∈ P) (hdram : .dram ∈ P) (hctxs : .ctxs ∈ P)
    (h : Hdr) (first count : BitVec 16) (s : State) :
    (takeSklProfileStage h first count s).outside P = s.outside P := by
  refine State.outside_take hctxs (.inl hdram) _ _ _ _ _ (fun u => ?_) _
  simp [*]

@[simp] theorem outside_takeSklClassStage (hshadow : .shadow ∈ P) (hstaged : .staged ∈ P) (hdram : .dram ∈ P) (hctxs : .ctxs ∈ P)
    (h : Hdr) (first count : BitVec 8) (s : State) :
    (takeSklClassStage h first count s).outside P = s.outside P := by
  refine State.outside_take hctxs (.inl hdram) _ _ _ _ _ (fun u => ?_) _
  simp [*]

@[simp] theorem outside_takeSklFevStage (hshadow : .shadow ∈ P) (hstaged : .staged ∈ P) (hdram : .dram ∈ P) (hctxs : .ctxs ∈ P)
    (h : Hdr) (s : State) :
    (takeSklFevStage h s).outside P = s.outside P := by
  refine State.outside_take hctxs (.inl hdram) _ _ _ _ _ (fun u => ?_) _
  simp [*]

@[simp] theorem outside_takeSklFlagsRead (hdram : .dram ∈ P) (hmem : .mem ∈ P) (hctxs : .ctxs ∈ P) (h : Hdr) (window : BitVec 8)
    (offset : BitVec 32) (s : State) :
    (takeSklFlagsRead h window offset s).outside P = s.outside P := by
  simp [takeSklFlagsRead, *]

@[simp] theorem outside_takeSvSieveStage (hshadow : .shadow ∈ P) (hstaged : .staged ∈ P) (hdram : .dram ∈ P) (hctxs : .ctxs ∈ P)
    (h : Hdr) (nclass nregion : BitVec 8) (flagMad : BitVec 16) (s : State) :
    (takeSvSieveStage h nclass nregion flagMad s).outside P = s.outside P := by
  refine State.outside_take hctxs (.inl hdram) _ _ _ _ _ (fun u => ?_) _
  simp [*]

@[simp] theorem outside_takeSvTongsStage (hshadow : .shadow ∈ P) (hstaged : .staged ∈ P) (hdram : .dram ∈ P) (hctxs : .ctxs ∈ P)
    (h : Hdr) (nwin ngroup : BitVec 8) (s : State) :
    (takeSvTongsStage h nwin ngroup s).outside P = s.outside P := by
  refine State.outside_take hctxs (.inl hdram) _ _ _ _ _ (fun u => ?_) _
  simp [*]

@[simp] theorem outside_takeSvLadleStage (hshadow : .shadow ∈ P) (hstaged : .staged ∈ P) (hdram : .dram ∈ P) (hctxs : .ctxs ∈ P)
    (h : Hdr) (nstrip : BitVec 8) (s : State) :
    (takeSvLadleStage h nstrip s).outside P = s.outside P := by
  refine State.outside_take hctxs (.inl hdram) _ _ _ _ _ (fun u => ?_) _
  simp [*]

@[simp] theorem outside_takeSvPreviewStage (hshadow : .shadow ∈ P) (hstaged : .staged ∈ P) (hdram : .dram ∈ P) (hctxs : .ctxs ∈ P)
    (h : Hdr) (colour pvCh qt : BitVec 8) (s : State) :
    (takeSvPreviewStage h colour pvCh qt s).outside P = s.outside P := by
  refine State.outside_take hctxs (.inl hdram) _ _ _ _ _ (fun u => ?_) _
  (repeat' split) <;> simp [*]

@[simp] theorem outside_takeSvCropStage (hshadow : .shadow ∈ P) (hstaged : .staged ∈ P) (hdram : .dram ∈ P) (hctxs : .ctxs ∈ P)
    (h : Hdr) (ncrop : BitVec 8) (s : State) :
    (takeSvCropStage h ncrop s).outside P = s.outside P := by
  refine State.outside_take hctxs (.inl hdram) _ _ _ _ _ (fun u => ?_) _
  simp [*]

@[simp] theorem outside_takeDiagSvBypass (hshadow : .shadow ∈ P) (hstaged : .staged ∈ P) (hctxs : .ctxs ∈ P) (h : Hdr)
    (mask : BitVec 8) (s : State) :
    (takeDiagSvBypass h mask s).outside P = s.outside P := by
  refine State.outside_take hctxs (.inr rfl) _ _ _ _ _ (fun u => ?_) _
  simp [*]

@[simp] theorem outside_takeSvJobStart (hsv : .sv ∈ P) (hpantry : .pantry ∈ P) (hctxs : .ctxs ∈ P) (h : Hdr) (jobId : BitVec 32)
    (en slots refWindow : BitVec 8) (width height : BitVec 32) (qSieve qTongs qLadle qPreview qCrop qSummary : BitVec 16)
    (x0 : BitVec 32) (s : State) :
    (takeSvJobStart h jobId en slots refWindow width height qSieve qTongs qLadle qPreview qCrop qSummary x0 s).outside P = s.outside P := by
  simp [takeSvJobStart, *]

@[simp] theorem outside_takeSvJobEnd (hsv : .sv ∈ P) (hctxs : .ctxs ∈ P) (hsec : .sec ∈ P) (h : Hdr) (s : State) :
    (takeSvJobEnd h s).outside P = s.outside P := by
  refine State.outside_take hctxs (.inr rfl) _ _ _ _ _ (fun u => ?_) _
  (repeat' split) <;> simp [*]

@[simp] theorem outside_takeSvRefSubmit (hsv : .sv ∈ P) (hdram : .dram ∈ P) (hctxs : .ctxs ∈ P) (h : Hdr) (window ncrops : BitVec 8)
    (offset length pageSeq : BitVec 32) (s : State) :
    (takeSvRefSubmit h window ncrops offset length pageSeq s).outside P = s.outside P := by
  unfold takeSvRefSubmit
  dsimp only
  refine State.outside_take hctxs (.inl hdram) _ _ _ _ _ (fun u => ?_) _
  (repeat' split) <;> simp [*]

@[simp] theorem outside_takeSvChainSign (hctxs : .ctxs ∈ P) (hsec : .sec ∈ P) (h : Hdr) (s : State) :
    (takeSvChainSign h s).outside P = s.outside P := by
  refine State.outside_take hctxs (.inr rfl) _ _ _ _ _ (fun u => ?_) _
  (repeat' split) <;> simp [*]

@[simp] theorem outside_takeDiagTapStage (hshadow : .shadow ∈ P) (hstaged : .staged ∈ P) (hctxs : .ctxs ∈ P) (h : Hdr)
    (port : BitVec 8) (queue : BitVec 16) (s : State) :
    (takeDiagTapStage h port queue s).outside P = s.outside P := by
  refine State.outside_take hctxs (.inr rfl) _ _ _ _ _ (fun u => State.outside_staging_apply hctxs _ _ _ _ _ _ (fun v => ?_)) _
  dsimp only
  (repeat' split) <;> simp [*]

@[simp] theorem outside_takeAlnCalibrate (haln : .aln ∈ P) (hctxs : .ctxs ∈ P) (h : Hdr) (ports : BitVec 64) (nbars : BitVec 16)
    (refPort window : BitVec 8) (xRef offset timeout : BitVec 32) (s : State) :
    (takeAlnCalibrate h ports nbars refPort window xRef offset timeout s).outside P = s.outside P := by
  simp [takeAlnCalibrate, *]

@[simp] theorem outside_takeSeamQualityRead (hdram : .dram ∈ P) (hmem : .mem ∈ P) (hctxs : .ctxs ∈ P) (h : Hdr) (window : BitVec 8)
    (offset : BitVec 32) (s : State) :
    (takeSeamQualityRead h window offset s).outside P = s.outside P := by
  simp [takeSeamQualityRead, *]

@[simp] theorem outside_takeSyncApply (hmode : .mode ∈ P) (hports : .ports ∈ P) (hlt : .lt ∈ P) (hactive : .active ∈ P)
    (hshadow : .shadow ∈ P) (hstaged : .staged ∈ P) (hshd : .shd ∈ P) (hsv : .sv ∈ P) (hskl : .skl ∈ P) (hilm : .ilm ∈ P)
    (haxes : .axes ∈ P) (hctxs : .ctxs ∈ P) (hsec : .sec ∈ P) (h : Hdr) (when_ : BitVec 8) (target : BitVec 32) (s : State) :
    (takeSyncApply h when_ target s).outside P = s.outside P := by
  refine State.outside_take hctxs (.inr rfl) _ _ _ _ _ (fun u => ?_) _
  dsimp only
  (repeat' split) <;> simp [*]

@[simp] theorem outside_takeSetMode (hmode : .mode ∈ P) (hlt : .lt ∈ P) (hshadow : .shadow ∈ P) (hstaged : .staged ∈ P)
    (hshd : .shd ∈ P) (haln : .aln ∈ P) (hilm : .ilm ∈ P) (hdram : .dram ∈ P) (hmem : .mem ∈ P) (hctxs : .ctxs ∈ P) (h : Hdr)
    (mode when_ : BitVec 8) (target : BitVec 32) (s : State) :
    (takeSetMode h mode when_ target s).outside P = s.outside P := by
  simp [takeSetMode, *]

@[simp] theorem outside_takeDiagPattern (hctxs : .ctxs ∈ P) (h : Hdr) (pattern : BitVec 8) (lines : BitVec 32) (s : State) :
    (takeDiagPattern h pattern lines s).outside P = s.outside P := by
  simp [takeDiagPattern, *]

@[simp] theorem outside_takeDiagSelftest (hctxs : .ctxs ∈ P) (hdiag : .diag ∈ P) (h : Hdr) (tests : BitVec 32) (s : State) :
    (takeDiagSelftest h tests s).outside P = s.outside P := by
  refine State.outside_take hctxs (.inr rfl) _ _ _ _ _ (fun u => ?_) _
  (repeat' split) <;> simp [*]

@[simp] theorem outside_takeQuiesce (hdram : .dram ∈ P) (hdma : .dma ∈ P) (hctxs : .ctxs ∈ P) (hhost : .host ∈ P) (h : Hdr)
    (dmaMode : BitVec 8) (timeout : BitVec 32) (s : State) :
    (takeQuiesce h dmaMode timeout s).outside P = s.outside P := by
  refine State.outside_take hctxs (.inr rfl) _ _ _ _ _ (fun u => ?_) _
  (repeat' split) <;> simp [*]

@[simp] theorem outside_takeMbTakeover (hdma : .dma ∈ P) (hctxs : .ctxs ∈ P) (hev : .ev ∈ P) (h : Hdr) (s : State) :
    (takeMbTakeover h s).outside P = s.outside P := by
  refine State.outside_take hctxs (.inr rfl) _ _ _ _ _ (fun u => ?_) _
  simp [*]

@[simp] theorem outside_takeMbGiveback (hctxs : .ctxs ∈ P) (hev : .ev ∈ P) (h : Hdr) (port : BitVec 8) (s : State) :
    (takeMbGiveback h port s).outside P = s.outside P := by
  refine State.outside_take hctxs (.inr rfl) _ _ _ _ _ (fun u => ?_) _
  simp [*]

@[simp] theorem outside_takeMbBufSet (hctxs : .ctxs ∈ P) (h : Hdr) (window : BitVec 8) (offset size : BitVec 32) (s : State) :
    (takeMbBufSet h window offset size s).outside P = s.outside P := by
  simp [takeMbBufSet, *]

@[simp] theorem outside_takeThermRead (hdram : .dram ∈ P) (hmem : .mem ∈ P) (hctxs : .ctxs ∈ P) (h : Hdr) (window : BitVec 8)
    (offset : BitVec 32) (s : State) :
    (takeThermRead h window offset s).outside P = s.outside P := by
  simp [takeThermRead, *]

@[simp] theorem outside_takeDevReset (hrst : .rst ∈ P) (hctxs : .ctxs ∈ P) (h : Hdr) (kind : BitVec 8) (s : State) :
    (takeDevReset h kind s).outside P = s.outside P := by
  simp [takeDevReset, *]

@[simp] theorem outside_takeSimmerCfgStage (hsimmer : .simmer ∈ P) (hctxs : .ctxs ∈ P) (h : Hdr)
    (tTarget theta tRelease tHold dwell ceilMin : BitVec 16) (bucket : BitVec 8) (s : State) :
    (takeSimmerCfgStage h tTarget theta tRelease tHold dwell ceilMin bucket s).outside P = s.outside P := by
  simp [takeSimmerCfgStage, *]

@[simp] theorem outside_takeSimmerPowerLimit (hsimmer : .simmer ∈ P) (hctxs : .ctxs ∈ P) (h : Hdr) (pBoard : BitVec 16) (s : State) :
    (takeSimmerPowerLimit h pBoard s).outside P = s.outside P := by
  simp [takeSimmerPowerLimit, *]

@[simp] theorem outside_takeDevIdentify (hctxs : .ctxs ∈ P) (h : Hdr) (s : State) :
    (takeDevIdentify h s).outside P = s.outside P := by
  simp [takeDevIdentify, *]

@[simp] theorem outside_takeCfgRead (hdram : .dram ∈ P) (hmem : .mem ∈ P) (hctxs : .ctxs ∈ P) (h : Hdr) (table : BitVec 16)
    (copy : BitVec 8) (index : BitVec 32) (s : State) :
    (takeCfgRead h table copy index s).outside P = s.outside P := by
  simp [takeCfgRead, *]

@[simp] theorem outside_takeResRead (hdram : .dram ∈ P) (hmem : .mem ∈ P) (hctxs : .ctxs ∈ P) (h : Hdr) (s : State) :
    (takeResRead h s).outside P = s.outside P := by
  simp [takeResRead, *]

@[simp] theorem outside_takeMotAxisStage (hshadow : .shadow ∈ P) (hstaged : .staged ∈ P) (haxes : .axes ∈ P) (hdram : .dram ∈ P)
    (hctxs : .ctxs ∈ P) (h : Hdr) (axis : BitVec 8) (s : State) :
    (takeMotAxisStage h axis s).outside P = s.outside P := by
  refine State.outside_take hctxs (.inl hdram) _ _ _ _ _ (fun u => ?_) _
  simp [*]

@[simp] theorem outside_takeMotRampStage (hshadow : .shadow ∈ P) (hstaged : .staged ∈ P) (haxes : .axes ∈ P) (hdram : .dram ∈ P)
    (hctxs : .ctxs ∈ P) (h : Hdr) (axis first count : BitVec 8) (s : State) :
    (takeMotRampStage h axis first count s).outside P = s.outside P := by
  refine State.outside_take hctxs (.inl hdram) _ _ _ _ _ (fun u => ?_) _
  simp [*]

@[simp] theorem outside_takeMotTileStage (hshadow : .shadow ∈ P) (hstaged : .staged ∈ P) (hdram : .dram ∈ P) (hctxs : .ctxs ∈ P)
    (h : Hdr) (s : State) :
    (takeMotTileStage h s).outside P = s.outside P := by
  refine State.outside_take hctxs (.inl hdram) _ _ _ _ _ (fun u => ?_) _
  simp [*]

@[simp] theorem outside_takeMotMove (haxes : .axes ∈ P) (hctxs : .ctxs ∈ P) (h : Hdr) (axis rel : BitVec 8) (target : BitVec 64)
    (vMax acc dec : BitVec 32) (s : State) :
    (takeMotMove h axis rel target vMax acc dec s).outside P = s.outside P := by
  unfold takeMotMove
  refine State.outside_take hctxs (.inr rfl) _ _ _ _ _ (fun u => ?_) _
  (repeat' split) <;> simp [*]

@[simp] theorem outside_takeMotTable (haxes : .axes ∈ P) (hctxs : .ctxs ∈ P) (h : Hdr) (axis first last : BitVec 8) (s : State) :
    (takeMotTable h axis first last s).outside P = s.outside P := by
  unfold takeMotTable
  refine State.outside_take hctxs (.inr rfl) _ _ _ _ _ (fun u => ?_) _
  (repeat' split) <;> simp [*]

@[simp] theorem outside_takeMotJog (haxes : .axes ∈ P) (hctxs : .ctxs ∈ P) (h : Hdr) (axis : BitVec 8) (vMax acc : BitVec 32)
    (s : State) :
    (takeMotJog h axis vMax acc s).outside P = s.outside P := by
  unfold takeMotJog
  refine State.outside_take hctxs (.inr rfl) _ _ _ _ _ (fun u => ?_) _
  (repeat' split) <;> simp [*]

@[simp] theorem outside_takeMotCoord (haxes : .axes ∈ P) (hctxs : .ctxs ∈ P) (h : Hdr) (targetB targetC : BitVec 64)
    (vMax acc dec : BitVec 32) (s : State) :
    (takeMotCoord h targetB targetC vMax acc dec s).outside P = s.outside P := by
  unfold takeMotCoord
  refine State.outside_take hctxs (.inr rfl) _ _ _ _ _ (fun u => ?_) _
  (repeat' split) <;> simp [*]

@[simp] theorem outside_takeMotFollow (haxes : .axes ∈ P) (hctxs : .ctxs ∈ P) (h : Hdr) (axis : BitVec 8) (s : State) :
    (takeMotFollow h axis s).outside P = s.outside P := by
  unfold takeMotFollow
  refine State.outside_take hctxs (.inr rfl) _ _ _ _ _ (fun u => ?_) _
  (repeat' split) <;> simp [*]

@[simp] theorem outside_takeMotHome (haxes : .axes ∈ P) (hctxs : .ctxs ∈ P) (h : Hdr) (axis dir : BitVec 8) (vHome : BitVec 32)
    (homePos : BitVec 64) (backoff homeMax : BitVec 32) (s : State) :
    (takeMotHome h axis dir vHome homePos backoff homeMax s).outside P = s.outside P := by
  unfold takeMotHome
  refine State.outside_take hctxs (.inr rfl) _ _ _ _ _ (fun u => ?_) _
  (repeat' split) <;> simp [*]

@[simp] theorem outside_takeMotAdjust (haxes : .axes ∈ P) (hctxs : .ctxs ∈ P) (h : Hdr) (axis : BitVec 8) (vMax acc dec : BitVec 32)
    (s : State) :
    (takeMotAdjust h axis vMax acc dec s).outside P = s.outside P := by
  unfold takeMotAdjust
  dsimp only
  refine State.outside_take hctxs (.inr rfl) _ _ _ _ _ (fun u => ?_) _
  (repeat' split) <;> simp [*]

@[simp] theorem outside_takeMotStop (hlt : .lt ∈ P) (haxes : .axes ∈ P) (hctxs : .ctxs ∈ P) (h : Hdr) (axis flush : BitVec 8)
    (s : State) :
    (takeMotStop h axis flush s).outside P = s.outside P := by
  unfold takeMotStop
  refine State.outside_take hctxs (.inr rfl) _ _ _ _ _ (fun u => ?_) _
  (repeat' split) <;> simp [*]

@[simp] theorem outside_takeMotFaultClear (haxes : .axes ∈ P) (hctxs : .ctxs ∈ P) (h : Hdr) (axis : BitVec 8) (s : State) :
    (takeMotFaultClear h axis s).outside P = s.outside P := by
  unfold takeMotFaultClear
  refine State.outside_take hctxs (.inr rfl) _ _ _ _ _ (fun u => ?_) _
  (repeat' split) <;> simp [*]

@[simp] theorem outside_takeSecAttest (hdram : .dram ∈ P) (hmem : .mem ∈ P) (hctxs : .ctxs ∈ P) (hsec : .sec ∈ P) (h : Hdr)
    (nonce : BitVec 256) (window : BitVec 8) (offset : BitVec 32) (s : State) :
    (takeSecAttest h nonce window offset s).outside P = s.outside P := by
  refine State.outside_take hctxs (.inr rfl) _ _ _ _ _ (fun u => ?_) _
  dsimp only
  repeat' split
  · exact Res.outside_apply_fail hctxs ..
  · exact Res.outside_apply_fail hctxs ..
  · exact State.outside_winResult_apply hctxs hdram hmem ..
  · exact Res.outside_apply_fail hctxs ..
  · exact State.outside_askTrivet hsec ..

@[simp] theorem outside_takeSecOwnerEnrol (hdram : .dram ∈ P) (hctxs : .ctxs ∈ P) (hsec : .sec ∈ P) (h : Hdr) (s : State) :
    (takeSecOwnerEnrol h s).outside P = s.outside P := by
  refine State.outside_take hctxs (.inl hdram) _ _ _ _ _ (fun u => ?_) _
  dsimp only
  (repeat' split) <;> simp [*]

@[simp] theorem outside_takeSecImageWrite (hdram : .dram ∈ P) (hctxs : .ctxs ∈ P) (hsec : .sec ∈ P) (h : Hdr)
    (slot window : BitVec 8) (offset length : BitVec 32) (s : State) :
    (takeSecImageWrite h slot window offset length s).outside P = s.outside P := by
  refine State.outside_take hctxs (.inr rfl) _ _ _ _ _ (fun u => ?_) _
  dsimp only
  (repeat' split) <;> simp [*]

@[simp] theorem outside_takeSecIdentityGen (hctxs : .ctxs ∈ P) (hsec : .sec ∈ P) (h : Hdr) (s : State) :
    (takeSecIdentityGen h s).outside P = s.outside P := by
  refine State.outside_take hctxs (.inr rfl) _ _ _ _ _ (fun u => ?_) _
  dsimp only
  (repeat' split) <;> simp [*]

@[simp] theorem outside_takeSecLifecycle (hdram : .dram ∈ P) (hctxs : .ctxs ∈ P) (hsec : .sec ∈ P) (h : Hdr) (target : BitVec 8)
    (s : State) :
    (takeSecLifecycle h target s).outside P = s.outside P := by
  refine State.outside_take hctxs (.inl hdram) _ _ _ _ _ (fun u => ?_) _
  (repeat' split) <;> simp [*]

@[simp] theorem outside_takeSecDebugUnlock (hdram : .dram ∈ P) (hctxs : .ctxs ∈ P) (hsec : .sec ∈ P) (h : Hdr) (s : State) :
    (takeSecDebugUnlock h s).outside P = s.outside P := by
  refine State.outside_take hctxs (.inl hdram) _ _ _ _ _ (fun u => ?_) _
  (repeat' split) <;> simp [*]

@[simp] theorem outside_takeMbAbort (hmode : .mode ∈ P) (hshadow : .shadow ∈ P) (hstaged : .staged ∈ P) (hshd : .shd ∈ P)
    (haln : .aln ∈ P) (hsv : .sv ∈ P) (hilm : .ilm ∈ P) (haxes : .axes ∈ P) (hdram : .dram ∈ P) (hmem : .mem ∈ P)
    (hctxs : .ctxs ∈ P) (hdiag : .diag ∈ P) (h : Hdr) (context seq : BitVec 8) (s : State) :
    (takeMbAbort h context seq s).outside P = s.outside P := by
  refine State.outside_take hctxs (.inr rfl) _ _ _ _ _ (fun u => ?_) _
  dsimp only
  repeat' split
  case h_1 v hv =>
    rw [Res.outside_apply_ok hctxs]
    exact State.outside_of_abortRun hmode hshadow hstaged hshd haln hsv hilm haxes hdram hmem hctxs hdiag hv
  all_goals simp [*]

end Sys2Proof.Machine
end

section
/-! PROOFS. Frames: events that leave the memory and the Stockpot pairs alone. -/

namespace Sys2Proof.Machine

/-- A command answers a state that agrees with the one it met outside of `P`. -/
def State.Leaves (P : List Part) (s : State) (r : Host.Outcome State Fault Refusal) : Prop :=
  ∃ u : State, r = .next u ∧ u.outside P = s.outside P

section
variable {P : List Part}

@[simp] theorem State.leaves_next (s u : State) : s.Leaves P (.next u) ↔ u.outside P = s.outside P := by
  constructor
  · rintro ⟨v, hv, hout⟩
    rwa [Host.Outcome.next.inj hv]
  · exact fun h => ⟨u, rfl, h⟩

@[simp] theorem State.leaves_out (s u : State) : s.Leaves P u.out ↔ u.outside P = s.outside P := by
  simp [State.out]

theorem State.leaves_atTime (t : Nat) (s : State) (r : Host.Outcome State Fault Refusal) : (s.atTime t).Leaves P r ↔ s.Leaves P r := by
  simp [State.Leaves]

theorem State.leaves_congr {s s' : State} (h : s.outside P = s'.outside P) (r : Host.Outcome State Fault Refusal) :
    s.Leaves P r ↔ s'.Leaves P r := by
  simp [State.Leaves, h]

@[simp] theorem State.leaves_ite {c : Prop} [Decidable c] (s : State) (a b : Host.Outcome State Fault Refusal) :
    s.Leaves P (if c then a else b) ↔ if c then s.Leaves P a else s.Leaves P b := by
  split <;> rfl

@[simp] theorem State.leaves_dmaOut (hctxs : .ctxs ∈ P) (hhost : .host ∈ P)
    (s u : State) : s.Leaves P u.dmaOut ↔ u.outside P = s.outside P := by
  simp [State.dmaOut, State.out, *]

end

/-- Every part but those of a list. -/
def Part.otherThan (qs : List Part) : List Part :=
  [.board, .mode, .rst, .clk, .ports, .lt, .uzs, .ring, .banks, .active, .shadow, .staged, .lines, .shd, .aln, .sv, .skl, .ilm, .axes,
   .madc, .therm, .simmer, .dram, .mem, .pantry, .dma, .ctxs, .host, .ev, .sec, .cpu, .diag].filter (fun p => decide (p ∉ qs))

@[simp] theorem Part.mem_otherThan (qs : List Part) (p : Part) : p ∈ Part.otherThan qs ↔ p ∉ qs := by
  rw [Part.otherThan, List.mem_filter, decide_eq_true_iff, and_iff_right_iff_imp]
  intro _
  cases p <;> decide

/-! Commands that leave the memory and the Stockpot pairs alone. -/

@[simp] theorem leaves_execQPush (t : Nat) (q : BitVec 13) (data : BitVec 64) (be : BitVec 8) (s : State) :
    s.Leaves (Part.otherThan [.mem, .cpu]) (execQPush t q data be s) := by
  simp [execQPush]

@[simp] theorem leaves_execQPop (t : Nat) (q : BitVec 13) (len : Nat) (perr : Bool) (s : State) :
    s.Leaves (Part.otherThan [.mem, .cpu]) (execQPop t q len perr s) := by
  simp [execQPop]

@[simp] theorem leaves_execHwPushRetry (t : Nat) (q : BitVec 13) (s : State) :
    s.Leaves (Part.otherThan [.mem, .cpu]) (execHwPushRetry t q s) := by
  rw [← State.leaves_atTime t]
  unfold execHwPushRetry
  dsimp only
  generalize s.atTime t = s
  simp

@[simp] theorem leaves_execCellPatrol (t : Nat) (cell : BitVec 16) (ok : Bool) (s : State) :
    s.Leaves (Part.otherThan [.mem, .cpu]) (execCellPatrol t cell ok s) := by
  unfold execCellPatrol
  dsimp only
  split <;> simp

@[simp] theorem leaves_execDmaDescFetched (t : Nat) (c : BitVec 6) (desc : BitVec 256) (s : State) :
    s.Leaves (Part.otherThan [.mem, .cpu]) (execDmaDescFetched t c desc s) := by
  simp [execDmaDescFetched]

@[simp] theorem leaves_execDmaReadbackDone (t : Nat) (c : BitVec 6) (s : State) :
    s.Leaves (Part.otherThan [.mem, .cpu]) (execDmaReadbackDone t c s) := by
  simp [execDmaReadbackDone]

@[simp] theorem leaves_execDmaLinkRereadDone (t : Nat) (c : BitVec 6) (link : BitVec 64) (s : State) :
    s.Leaves (Part.otherThan [.mem, .cpu]) (execDmaLinkRereadDone t c link s) := by
  simp [execDmaLinkRereadDone]

@[simp] theorem leaves_execDmaStart (t : Nat) (c : BitVec 6) (abortToo : Bool) (s : State) :
    s.Leaves (Part.otherThan [.mem, .cpu]) (execDmaStart t c abortToo s) := by
  simp [execDmaStart]

@[simp] theorem leaves_execDmaAbort (t : Nat) (c : BitVec 6) (s : State) :
    s.Leaves (Part.otherThan [.mem, .cpu]) (execDmaAbort t c s) := by
  simp [execDmaAbort]

@[simp] theorem leaves_execChainKick (t : Nat) (c : BitVec 6) (s : State) :
    s.Leaves (Part.otherThan [.mem, .cpu]) (execChainKick t c s) := by
  simp [execChainKick]

@[simp] theorem leaves_execDmaErrClear (t : Nat) (s : State) :
    s.Leaves (Part.otherThan [.mem, .cpu]) (execDmaErrClear t s) := by
  simp [execDmaErrClear]

@[simp] theorem leaves_execBusError (t : Nat) (kind : BitVec 3) (port : BitVec 1) (addr : BitVec 64) (s : State) :
    s.Leaves (Part.otherThan [.mem, .cpu]) (execBusError t kind port addr s) := by
  simp [execBusError]

@[simp] theorem leaves_execRefreshUnitDue (t : Nat) (ch : BitVec 3) (s : State) :
    s.Leaves (Part.otherThan [.mem, .cpu]) (execRefreshUnitDue t ch s) := by
  simp [execRefreshUnitDue]

@[simp] theorem leaves_execMr4Read (t : Nat) (ch : BitVec 3) (cls : BitVec 2) (s : State) :
    s.Leaves (Part.otherThan [.mem, .cpu]) (execMr4Read t ch cls s) := by
  simp [execMr4Read]

@[simp] theorem leaves_execRefreshClassStep (t : Nat) (ch : BitVec 3) (s : State) :
    s.Leaves (Part.otherThan [.mem, .cpu]) (execRefreshClassStep t ch s) := by
  unfold execRefreshClassStep
  dsimp only
  split <;> simp

@[simp] theorem leaves_execDqsOscRun (t : Nat) (s : State) :
    s.Leaves (Part.otherThan [.mem, .cpu]) (execDqsOscRun t s) := by
  simp [execDqsOscRun]

@[simp] theorem leaves_execDramCommandSlot (t : Nat) (ch : BitVec 3) (s : State) :
    s.Leaves (Part.otherThan [.mem, .cpu]) (execDramCommandSlot t ch s) := by
  unfold execDramCommandSlot
  dsimp only
  (repeat' split) <;> simp

@[simp] theorem leaves_execRequestPromote (t : Nat) (s : State) :
    s.Leaves (Part.otherThan [.mem, .cpu]) (execRequestPromote t s) := by
  simp [execRequestPromote]

@[simp] theorem leaves_execDramPortWindow (t : Nat) (s : State) :
    s.Leaves (Part.otherThan [.mem, .cpu]) (execDramPortWindow t s) := by
  simp [execDramPortWindow]

@[simp] theorem leaves_execDramAccessTimeout (t : Nat) (ch : BitVec 3) (s : State) :
    s.Leaves (Part.otherThan [.mem, .cpu]) (execDramAccessTimeout t ch s) := by
  unfold execDramAccessTimeout
  dsimp only
  split <;> simp

@[simp] theorem leaves_execDramRebuildStep (t : Nat) (s : State) :
    s.Leaves (Part.otherThan [.mem, .cpu]) (execDramRebuildStep t s) := by
  unfold execDramRebuildStep
  dsimp only
  (repeat' split) <;> simp

@[simp] theorem leaves_execBar2Read (t : Nat) (port : BitVec 1) (addr : BitVec 32) (len : Nat) (s : State) :
    s.Leaves (Part.otherThan [.mem, .cpu]) (execBar2Read t port addr len s) := by
  simp [execBar2Read]

@[simp] theorem leaves_execBgCalStepStart (t : Nat) (die : BitVec 2) (s : State) :
    s.Leaves (Part.otherThan [.mem, .cpu]) (execBgCalStepStart t die s) := by
  unfold execBgCalStepStart
  dsimp only
  (repeat' split) <;> simp

@[simp] theorem leaves_execHandoverCompare (t : Nat) (die : BitVec 2) (spareMean chanMean : Int) (s : State) :
    s.Leaves (Part.otherThan [.mem, .cpu]) (execHandoverCompare t die spareMean chanMean s) := by
  unfold execHandoverCompare
  dsimp only
  (repeat' split) <;> simp

@[simp] theorem leaves_execSpareSubstitution (t : Nat) (die : BitVec 2) (s : State) :
    s.Leaves (Part.otherThan [.mem, .cpu]) (execSpareSubstitution t die s) := by
  simp [execSpareSubstitution]

@[simp] theorem leaves_execBgMeasurementEnd (t : Nat) (die : BitVec 2) (result : CalResult) (s : State) :
    s.Leaves (Part.otherThan [.mem, .cpu]) (execBgMeasurementEnd t die result s) := by
  unfold execBgMeasurementEnd
  dsimp only
  (repeat' split) <;> simp

@[simp] theorem leaves_execTrimUpdate (t : Nat) (s : State) :
    s.Leaves (Part.otherThan [.mem, .cpu]) (execTrimUpdate t s) := by
  simp [execTrimUpdate]

@[simp] theorem leaves_execTrimSaveHourly (t : Nat) (s : State) :
    s.Leaves (Part.otherThan [.mem, .cpu]) (execTrimSaveHourly t s) := by
  rw [← State.leaves_atTime t]
  unfold execTrimSaveHourly
  dsimp only
  generalize s.atTime t = s
  split
  · simp
  · rw [State.leaves_out, State.outside_saveTrims_getD (by simp)]
    simp

@[simp] theorem leaves_execPresFilterChange (t : Nat) (port : BitVec 6) (present : Bool) (s : State) :
    s.Leaves (Part.otherThan [.mem, .cpu]) (execPresFilterChange t port present s) := by
  simp [execPresFilterChange]

@[simp] theorem leaves_execSwapPowerOff (t : Nat) (port : BitVec 6) (s : State) :
    s.Leaves (Part.otherThan [.mem, .cpu]) (execSwapPowerOff t port s) := by
  unfold execSwapPowerOff
  dsimp only
  split <;> simp

@[simp] theorem leaves_execSwapOutputRelease (t : Nat) (port : BitVec 6) (s : State) :
    s.Leaves (Part.otherThan [.mem, .cpu]) (execSwapOutputRelease t port s) := by
  unfold execSwapOutputRelease
  dsimp only
  split <;> simp

@[simp] theorem leaves_execQualifySettleEnd (t : Nat) (port : BitVec 6) (s : State) :
    s.Leaves (Part.otherThan [.mem, .cpu]) (execQualifySettleEnd t port s) := by
  unfold execQualifySettleEnd
  dsimp only
  split <;> simp

@[simp] theorem leaves_execQualificationDone (t : Nat) (port : BitVec 6) (s : State) :
    s.Leaves (Part.otherThan [.mem, .cpu]) (execQualificationDone t port s) := by
  unfold execQualificationDone
  dsimp only
  split <;> simp

@[simp] theorem leaves_execFeDieReset (t : Nat) (die : BitVec 2) (s : State) :
    s.Leaves (Part.otherThan [.mem, .cpu]) (execFeDieReset t die s) := by
  simp [execFeDieReset]

@[simp] theorem leaves_execFeDieResetEnd (t : Nat) (die : BitVec 2) (s : State) :
    s.Leaves (Part.otherThan [.mem, .cpu]) (execFeDieResetEnd t die s) := by
  simp [execFeDieResetEnd]

@[simp] theorem leaves_execFeProgramStart (t : Nat) (die : BitVec 2) (s : State) :
    s.Leaves (Part.otherThan [.mem, .cpu]) (execFeProgramStart t die s) := by
  rw [← State.leaves_atTime t]
  unfold execFeProgramStart
  dsimp only
  generalize s.atTime t = s
  (repeat' split) <;> simp

@[simp] theorem leaves_execMadcConversionEnd (t : Nat) (conv : BitVec 1) (raw : Nat) (outOfRange : Bool) (s : State) :
    s.Leaves (Part.otherThan [.mem, .cpu]) (execMadcConversionEnd t conv raw outOfRange s) := by
  simp [execMadcConversionEnd]

@[simp] theorem leaves_execMadcCalibrationEnd (t : Nat) (conv : BitVec 1) (lo hi sarLo sarHi : Nat) (s : State) :
    s.Leaves (Part.otherThan [.mem, .cpu]) (execMadcCalibrationEnd t conv lo hi sarLo sarHi s) := by
  simp [execMadcCalibrationEnd]

@[simp] theorem leaves_execMadcCalPeriodic (t : Nat) (s : State) :
    s.Leaves (Part.otherThan [.mem, .cpu]) (execMadcCalPeriodic t s) := by
  simp [execMadcCalPeriodic]

@[simp] theorem leaves_execMadcConvTimeout (t : Nat) (conv : BitVec 1) (s : State) :
    s.Leaves (Part.otherThan [.mem, .cpu]) (execMadcConvTimeout t conv s) := by
  unfold execMadcConvTimeout
  dsimp only
  (repeat' split) <;> simp

@[simp] theorem leaves_execMainsRefCrossing (t : Nat) (ticks : Nat) (s : State) :
    s.Leaves (Part.otherThan [.mem, .cpu]) (execMainsRefCrossing t ticks s) := by
  simp [execMainsRefCrossing]

@[simp] theorem leaves_execIlmTcompUpdate (t : Nat) (s : State) :
    s.Leaves (Part.otherThan [.mem, .cpu]) (execIlmTcompUpdate t s) := by
  simp [execIlmTcompUpdate]

@[simp] theorem leaves_execIlmPowerUpdate (t : Nat) (s : State) :
    s.Leaves (Part.otherThan [.mem, .cpu]) (execIlmPowerUpdate t s) := by
  simp [execIlmPowerUpdate]

@[simp] theorem leaves_execIlmRegStart (t : Nat) (row : BitVec 2) (s : State) :
    s.Leaves (Part.otherThan [.mem, .cpu]) (execIlmRegStart t row s) := by
  unfold execIlmRegStart
  dsimp only
  (repeat' split) <;> simp

@[simp] theorem leaves_execLstbRise (t : Nat) (row : BitVec 2) (s : State) :
    s.Leaves (Part.otherThan [.mem, .cpu]) (execLstbRise t row s) := by
  unfold execLstbRise
  dsimp only
  split <;> simp

@[simp] theorem leaves_execLstbFall (t : Nat) (row : BitVec 2) (mean : Nat) (s : State) :
    s.Leaves (Part.otherThan [.mem, .cpu]) (execLstbFall t row mean s) := by
  unfold execLstbFall
  dsimp only
  split <;> simp

@[simp] theorem leaves_execIlmOvOcDetect (t : Nat) (row : BitVec 2) (vfb current : Nat) (s : State) :
    s.Leaves (Part.otherThan [.mem, .cpu]) (execIlmOvOcDetect t row vfb current s) := by
  simp [execIlmOvOcDetect]

@[simp] theorem leaves_execLswShiftDone (t : Nat) (chain : BitVec 1) (s : State) :
    s.Leaves (Part.otherThan [.mem, .cpu]) (execLswShiftDone t chain s) := by
  unfold execLswShiftDone
  dsimp only
  split <;> simp

@[simp] theorem leaves_execLswFrameLatch (t : Nat) (chain : BitVec 1) (ret : List Bool) (s : State) :
    s.Leaves (Part.otherThan [.mem, .cpu]) (execLswFrameLatch t chain ret s) := by
  rw [← State.leaves_atTime t]
  unfold execLswFrameLatch
  dsimp only
  generalize s.atTime t = s
  simp

@[simp] theorem leaves_execZoneTempUpdate (t : Nat) (s : State) :
    s.Leaves (Part.otherThan [.mem, .cpu]) (execZoneTempUpdate t s) := by
  simp [execZoneTempUpdate]

@[simp] theorem leaves_execShdPatrolRead (t : Nat) (slot : BitVec 3) (word : BitVec 21) (bitsBad : BitVec 2) (s : State) :
    s.Leaves (Part.otherThan [.mem, .cpu]) (execShdPatrolRead t slot word bitsBad s) := by
  simp [execShdPatrolRead]

@[simp] theorem leaves_execShdCalSettleEnd (t : Nat) (s : State) :
    s.Leaves (Part.otherThan [.mem, .cpu]) (execShdCalSettleEnd t s) := by
  unfold execShdCalSettleEnd
  dsimp only
  split <;> simp

@[simp] theorem leaves_execSklGroupEval (t : Nat) (group : BitVec 14) (entryNs : Nat) (s : State) :
    s.Leaves (Part.otherThan [.mem, .cpu]) (execSklGroupEval t group entryNs s) := by
  unfold execSklGroupEval
  dsimp only
  split
  · simp
  · next hline =>
    have hs2 := State.outside_of_sklLine (P := Part.otherThan [.mem, .cpu]) (by simp) hline
    have htick : (s.atTime t).sklTick.outside (Part.otherThan [.mem, .cpu]) = s.outside (Part.otherThan [.mem, .cpu]) := by simp
    rw [← State.leaves_congr (hs2.trans htick)]
    (repeat' split) <;> simp

@[simp] theorem leaves_execFastevStretchEnd (t : Nat) (pin : BitVec 4) (s : State) :
    s.Leaves (Part.otherThan [.mem, .cpu]) (execFastevStretchEnd t pin s) := by
  unfold execFastevStretchEnd
  dsimp only
  split <;> simp

@[simp] theorem leaves_execSlkFrameStart (t : Nat) (s : State) :
    s.Leaves (Part.otherThan [.mem, .cpu]) (execSlkFrameStart t s) := by
  unfold execSlkFrameStart
  dsimp only
  split <;> simp

@[simp] theorem leaves_execAfeSlotSample (t : Nat) (port : BitVec 6) (input : BitVec 4) (slot : BitVec 10) (sv sr : Int)
    (overRange : Bool) (checks : SampleChecks) (s : State) :
    s.Leaves (Part.otherThan [.mem, .cpu]) (execAfeSlotSample t port input slot sv sr overRange checks s) := by
  simp [execAfeSlotSample]

@[simp] theorem leaves_execFeProgramEnd (t : Nat) (die : BitVec 2) (s : State) :
    s.Leaves (Part.otherThan [.mem, .cpu]) (execFeProgramEnd t die s) := by
  simp [execFeProgramEnd]

@[simp] theorem leaves_execServiceUnitComplete (t : Nat) (unit : SvUnit) (poison : Bool) (s : State) :
    s.Leaves (Part.otherThan [.mem, .cpu]) (execServiceUnitComplete t unit poison s) := by
  unfold execServiceUnitComplete
  dsimp only
  split <;> simp

@[simp] theorem leaves_execPageSummaryPush (t : Nat) (s : State) :
    s.Leaves (Part.otherThan [.mem, .cpu]) (execPageSummaryPush t s) := by
  unfold execPageSummaryPush
  dsimp only
  (repeat' split) <;> simp

@[simp] theorem leaves_execAlnCalibrateTimeout (t : Nat) (s : State) :
    s.Leaves (Part.otherThan [.mem, .cpu]) (execAlnCalibrateTimeout t s) := by
  unfold execAlnCalibrateTimeout
  dsimp only
  split <;> simp

@[simp] theorem leaves_execHeartbeatTick (t : Nat) (s : State) :
    s.Leaves (Part.otherThan [.mem, .cpu]) (execHeartbeatTick t s) := by
  simp [execHeartbeatTick]

@[simp] theorem leaves_execJtagInstruction (t : Nat) (scan : JtagScan) (s : State) :
    s.Leaves (Part.otherThan [.mem, .cpu]) (execJtagInstruction t scan s) := by
  rw [← State.leaves_atTime t]
  unfold execJtagInstruction
  dsimp only
  generalize s.atTime t = s
  simp

@[simp] theorem leaves_execPerstNAssert (t : Nat) (port : BitVec 1) (s : State) :
    s.Leaves (Part.otherThan [.mem, .cpu]) (execPerstNAssert t port s) := by
  simp [execPerstNAssert]

@[simp] theorem leaves_execPerstNRelease (t : Nat) (port : BitVec 1) (s : State) :
    s.Leaves (Part.otherThan [.mem, .cpu]) (execPerstNRelease t port s) := by
  simp [execPerstNRelease]

@[simp] theorem leaves_execLinkUp (t : Nat) (port : BitVec 1) (width : BitVec 5) (speed : BitVec 3) (s : State) :
    s.Leaves (Part.otherThan [.mem, .cpu]) (execLinkUp t port width speed s) := by
  simp [execLinkUp]

@[simp] theorem leaves_execLinkLoss (t : Nat) (port : BitVec 1) (s : State) :
    s.Leaves (Part.otherThan [.mem, .cpu]) (execLinkLoss t port s) := by
  unfold execLinkLoss
  dsimp only
  split <;> simp

@[simp] theorem leaves_execFunctionLevelReset (t : Nat) (port : BitVec 1) (s : State) :
    s.Leaves (Part.otherThan [.mem, .cpu]) (execFunctionLevelReset t port s) := by
  simp [execFunctionLevelReset]

@[simp] theorem leaves_execHotReset (t : Nat) (port : BitVec 1) (s : State) :
    s.Leaves (Part.otherThan [.mem, .cpu]) (execHotReset t port s) := by
  simp [execHotReset]

@[simp] theorem leaves_execD3hotEntry (t : Nat) (port : BitVec 1) (s : State) :
    s.Leaves (Part.otherThan [.mem, .cpu]) (execD3hotEntry t port s) := by
  simp [execD3hotEntry]

@[simp] theorem leaves_execPrsntNChange (t : Nat) (port : BitVec 1) (high : Bool) (s : State) :
    s.Leaves (Part.otherThan [.mem, .cpu]) (execPrsntNChange t port high s) := by
  unfold execPrsntNChange
  dsimp only
  (repeat' split) <;> simp

@[simp] theorem leaves_execQuiesceTimeout (t : Nat) (port : BitVec 1) (s : State) :
    s.Leaves (Part.otherThan [.mem, .cpu]) (execQuiesceTimeout t port s) := by
  unfold execQuiesceTimeout
  dsimp only
  split <;> simp

@[simp] theorem leaves_execEvLatchWrite (t : Nat) (j : BitVec 3) (data : BitVec 32) (resets : BitVec 256) (s : State) :
    s.Leaves (Part.otherThan [.mem, .cpu]) (execEvLatchWrite t j data resets s) := by
  simp [execEvLatchWrite]

@[simp] theorem leaves_execMsixUnmask (t : Nat) (port : BitVec 1) (vec : BitVec 6) (s : State) :
    s.Leaves (Part.otherThan [.mem, .cpu]) (execMsixUnmask t port vec s) := by
  simp [execMsixUnmask]

@[simp] theorem leaves_execPorstNRelease (t : Nat) (split : Bool) (uzsId : BitVec 2) (s : State) :
    s.Leaves (Part.otherThan [.mem, .cpu]) (execPorstNRelease t split uzsId s) := by
  rw [← State.leaves_atTime t]
  unfold execPorstNRelease
  dsimp only
  generalize s.atTime t = s
  simp

@[simp] theorem leaves_execSysrstNRelease (t : Nat) (s : State) :
    s.Leaves (Part.otherThan [.mem, .cpu]) (execSysrstNRelease t s) := by
  rw [← State.leaves_atTime t]
  unfold execSysrstNRelease
  dsimp only
  generalize s.atTime t = s
  simp

@[simp] theorem leaves_execResetEnd (t : Nat) (s : State) :
    s.Leaves (Part.otherThan [.mem, .cpu]) (execResetEnd t s) := by
  rw [← State.leaves_atTime t]
  unfold execResetEnd
  dsimp only
  generalize s.atTime t = s
  simp

@[simp] theorem leaves_execSramWipeDone (t : Nat) (ok : Bool) (s : State) :
    s.Leaves (Part.otherThan [.mem, .cpu]) (execSramWipeDone t ok s) := by
  rw [← State.leaves_atTime t]
  unfold execSramWipeDone
  dsimp only
  generalize s.atTime t = s
  simp

@[simp] theorem leaves_execNvMount (t : Nat) (s : State) :
    s.Leaves (Part.otherThan [.mem, .cpu]) (execNvMount t s) := by
  rw [← State.leaves_atTime t]
  unfold execNvMount
  dsimp only
  generalize s.atTime t = s
  simp

@[simp] theorem leaves_execDramTrainingDone (t : Nat) (chOk : BitVec 8) (s : State) :
    s.Leaves (Part.otherThan [.mem, .cpu]) (execDramTrainingDone t chOk s) := by
  unfold execDramTrainingDone
  dsimp only
  (repeat' split) <;> simp

@[simp] theorem leaves_execBootExit (t : Nat) (powerOk : BitVec 64) (s : State) :
    s.Leaves (Part.otherThan [.mem, .cpu]) (execBootExit t powerOk s) := by
  simp [execBootExit]

@[simp] theorem leaves_execAonXtalSwitch (t : Nat) (s : State) :
    s.Leaves (Part.otherThan [.mem, .cpu]) (execAonXtalSwitch t s) := by
  rw [← State.leaves_atTime t]
  unfold execAonXtalSwitch
  dsimp only
  generalize s.atTime t = s
  simp

@[simp] theorem leaves_execAonXtalLoss (t : Nat) (s : State) :
    s.Leaves (Part.otherThan [.mem, .cpu]) (execAonXtalLoss t s) := by
  rw [← State.leaves_atTime t]
  unfold execAonXtalLoss
  dsimp only
  generalize s.atTime t = s
  simp

@[simp] theorem leaves_execOscCompUpdate (t : Nat) (s : State) :
    s.Leaves (Part.otherThan [.mem, .cpu]) (execOscCompUpdate t s) := by
  rw [← State.leaves_atTime t]
  unfold execOscCompUpdate
  dsimp only
  generalize s.atTime t = s
  simp

@[simp] theorem leaves_execRegionCompare (t : Nat) (s : State) :
    s.Leaves (Part.otherThan [.mem, .cpu]) (execRegionCompare t s) := by
  rw [← State.leaves_atTime t]
  unfold execRegionCompare
  dsimp only
  generalize s.atTime t = s
  simp

@[simp] theorem leaves_execEncIndex (t : Nat) (enc : BitVec 1) (s : State) :
    s.Leaves (Part.otherThan [.mem, .cpu]) (execEncIndex t enc s) := by
  simp [execEncIndex]

@[simp] theorem leaves_execSheetEdge (t : Nat) (n : BitVec 2) (high : Bool) (s : State) :
    s.Leaves (Part.otherThan [.mem, .cpu]) (execSheetEdge t n high s) := by
  simp [execSheetEdge]

@[simp] theorem leaves_execFlushTrigger (t : Nat) (s : State) :
    s.Leaves (Part.otherThan [.mem, .cpu]) (execFlushTrigger t s) := by
  simp [execFlushTrigger]

@[simp] theorem leaves_execVEstTimeout (t : Nat) (s : State) :
    s.Leaves (Part.otherThan [.mem, .cpu]) (execVEstTimeout t s) := by
  simp [execVEstTimeout]

@[simp] theorem leaves_execRejectOutPulse (t : Nat) (s : State) :
    s.Leaves (Part.otherThan [.mem, .cpu]) (execRejectOutPulse t s) := by
  rw [← State.leaves_atTime t]
  unfold execRejectOutPulse
  dsimp only
  generalize s.atTime t = s
  simp

@[simp] theorem leaves_execRejectOutEnd (t : Nat) (s : State) :
    s.Leaves (Part.otherThan [.mem, .cpu]) (execRejectOutEnd t s) := by
  rw [← State.leaves_atTime t]
  unfold execRejectOutEnd
  dsimp only
  generalize s.atTime t = s
  (repeat' split) <;> simp

@[simp] theorem leaves_execUzsLineSampled (t : Nat) (s : State) :
    s.Leaves (Part.otherThan [.mem, .cpu]) (execUzsLineSampled t s) := by
  rw [← State.leaves_atTime t]
  unfold execUzsLineSampled
  dsimp only
  generalize s.atTime t = s
  simp

@[simp] theorem leaves_execUzsSlotRx (t : Nat) (j : BitVec 2) (slot : BitVec 9) (s : State) :
    s.Leaves (Part.otherThan [.mem, .cpu]) (execUzsSlotRx t j slot s) := by
  rw [← State.leaves_atTime t]
  unfold execUzsSlotRx
  dsimp only
  generalize s.atTime t = s
  simp

@[simp] theorem leaves_execUzsClkTimeout (t : Nat) (s : State) :
    s.Leaves (Part.otherThan [.mem, .cpu]) (execUzsClkTimeout t s) := by
  rw [← State.leaves_atTime t]
  unfold execUzsClkTimeout
  dsimp only
  generalize s.atTime t = s
  simp

@[simp] theorem leaves_execSimmerCeilingStep (t : Nat) (s : State) :
    s.Leaves (Part.otherThan [.mem, .cpu]) (execSimmerCeilingStep t s) := by
  unfold execSimmerCeilingStep
  dsimp only
  split <;> simp

@[simp] theorem leaves_execSimmerCapRaise (t : Nat) (s : State) :
    s.Leaves (Part.otherThan [.mem, .cpu]) (execSimmerCapRaise t s) := by
  simp [execSimmerCapRaise]

@[simp] theorem leaves_execVddNvLow (t : Nat) (s : State) :
    s.Leaves (Part.otherThan [.mem, .cpu]) (execVddNvLow t s) := by
  rw [← State.leaves_atTime t]
  unfold execVddNvLow
  dsimp only
  generalize s.atTime t = s
  simp

@[simp] theorem leaves_execVddNvRecover (t : Nat) (s : State) :
    s.Leaves (Part.otherThan [.mem, .cpu]) (execVddNvRecover t s) := by
  rw [← State.leaves_atTime t]
  unfold execVddNvRecover
  dsimp only
  generalize s.atTime t = s
  simp

@[simp] theorem leaves_execEntropyHealthFail (t : Nat) (s : State) :
    s.Leaves (Part.otherThan [.mem, .cpu]) (execEntropyHealthFail t s) := by
  rw [← State.leaves_atTime t]
  unfold execEntropyHealthFail
  dsimp only
  generalize s.atTime t = s
  simp

@[simp] theorem leaves_execSecurityAccessViolation (t : Nat) (s : State) :
    s.Leaves (Part.otherThan [.mem, .cpu]) (execSecurityAccessViolation t s) := by
  rw [← State.leaves_atTime t]
  unfold execSecurityAccessViolation
  dsimp only
  generalize s.atTime t = s
  simp

@[simp] theorem leaves_execStepInEdge (t : Nat) (axis : BitVec 2) (rising dirHigh : Bool) (s : State) :
    s.Leaves (Part.otherThan [.mem, .cpu]) (execStepInEdge t axis rising dirHigh s) := by
  simp [execStepInEdge]

@[simp] theorem leaves_execHoldDelayEnd (t : Nat) (axis : BitVec 2) (s : State) :
    s.Leaves (Part.otherThan [.mem, .cpu]) (execHoldDelayEnd t axis s) := by
  unfold execHoldDelayEnd
  dsimp only
  split <;> simp

@[simp] theorem leaves_execMotFltInput (t : Nat) (axis : BitVec 2) (low : Bool) (s : State) :
    s.Leaves (Part.otherThan [.mem, .cpu]) (execMotFltInput t axis low s) := by
  simp [execMotFltInput]

@[simp] theorem leaves_execVbusLowTimeout (t : Nat) (axis : BitVec 2) (s : State) :
    s.Leaves (Part.otherThan [.mem, .cpu]) (execVbusLowTimeout t axis s) := by
  unfold execVbusLowTimeout
  dsimp only
  split <;> simp

@[simp] theorem leaves_execMotPwmPeriod (t : Nat) (axis : BitVec 2) (sense : MotSense) (s : State) :
    s.Leaves (Part.otherThan [.mem, .cpu]) (execMotPwmPeriod t axis sense s) := by
  simp [execMotPwmPeriod]

end Sys2Proof.Machine
end

section
/-! PROOFS. The memory stays in canonical form: what each operation that writes it keeps. -/

namespace Sys2Proof.Machine

/-- Memory in canonical form, as what is outside of no other part says it. -/
def MemCanonical (q : Quotient (frameSetoid (Part.otherThan [.mem]))) : Prop :=
  q.lift (fun s => s.memOk = true) fun s t h => by
    have hmem : t.dram.mem = s.dram.mem := h .mem (by simp)
    simp only [State.memOk, hmem]

theorem State.memCanonical_iff (s : State) : MemCanonical (s.outside _) ↔ s.memOk = true := Iff.rfl

@[simp] theorem MemCanonical.ite {c : Prop} [Decidable c] (a b : Quotient (frameSetoid (Part.otherThan [.mem]))) :
    MemCanonical (if c then a else b) ↔ if c then MemCanonical a else MemCanonical b := by
  split <;> rfl

@[simp] theorem State.canon_foldl {α : Type} {f : State → α → State} (hf : ∀ s x, MemCanonical (s.outside _) → MemCanonical
    ((f s x).outside _))
    (l : List α) {s : State} (hs : MemCanonical (s.outside _)) : MemCanonical ((l.foldl f s).outside _) := by
  induction l generalizing s with
  | nil => exact hs
  | cons x l ih => exact ih (hf s x hs)

@[simp] theorem Res.canon_apply_ite {c : Prop} [Decidable c] (n : Nat) (a b : Res) :
    MemCanonical (((if c then a else b).apply n).outside _) ↔
      if c then MemCanonical ((a.apply n).outside _) else MemCanonical ((b.apply n).outside _) := by
  split <;> rfl

@[simp] theorem State.canon_dramWrite (port a : Nat) (bs : List Byte) (s : State) (hs : MemCanonical (s.outside _)) :
    MemCanonical ((s.dramWrite port a bs).outside _) := memWrite_wf a bs s.dram.mem hs

@[simp] theorem State.canon_finish (n : Nat) (st : OpState) (code : Nat) (data pay : List Byte) (s : State)
    (hs : MemCanonical (s.outside _)) : MemCanonical ((s.finish n st code data pay).outside _) := by
  unfold State.finish
  split
  · exact hs
  · simp [*]

@[simp] theorem Res.canon_apply_ok (n : Nat) (data pay : List Byte) (s : State) (hs : MemCanonical (s.outside _)) :
    MemCanonical (((Res.ok data pay s).apply n).outside _) := State.canon_finish n _ _ data pay s hs

@[simp] theorem State.canon_dmaPut (c off : Nat) (bs : List Byte) (poisoned : List (Nat × Nat)) (s : State) (hs : MemCanonical
    (s.outside _)) :
    MemCanonical ((State.dmaPut c off bs poisoned s).outside _) := by
  unfold State.dmaPut
  dsimp only
  (repeat' split) <;>
    simp only [State.outside_mk, State.canon_dramWrite, State.outside_emit, State.outside_setChan, Part.mem_otherThan,
      List.mem_singleton, reduceCtorEq, not_false_eq_true, true_or, or_true, and_self, hs]

@[simp] theorem State.canon_dmaQueueBurst (c : Nat) (perr : Bool) (s : State) (hs : MemCanonical (s.outside _)) :
    MemCanonical ((State.dmaQueueBurst c perr s).outside _) := by
  simp [State.dmaQueueBurst, *]

@[simp] theorem State.canon_poisonBlock (b : Nat) (s : State) (hs : MemCanonical (s.outside _)) :
    MemCanonical ((State.poisonBlock b s).outside _) := by
  unfold State.poisonBlock
  split
  · exact hs
  · have hfree : MemCanonical ((s.frees 8 64).2.outside _) := by simp [*]
    exact memWrite_wf _ _ _ hfree

@[simp] theorem State.canon_eccErr (addr ch port : Nat) (data : Bool) (err : EccResult) (s : State) (hs : MemCanonical (s.outside _)) :
    MemCanonical ((State.eccErr addr ch port data err s).outside _) := by
  unfold State.eccErr
  split <;> simp [*]

@[simp] theorem State.canon_wakeZero (s : State) (hs : MemCanonical (s.outside _)) :
    MemCanonical ((State.wakeZero s).outside _) := by
  unfold State.wakeZero
  split
  · dsimp only
    split
    · exact hs
    · split
      · rw [State.outside_setCtx (by simp), State.outside_moved (by simp)]
        exact memZero_wf _ _ _ hs
      · rw [State.outside_moved (by simp)]
        exact memZero_wf _ _ _ hs
  · exact hs

@[simp] theorem State.canon_partialRec (n skip : Nat) (rec : List Byte) (s : State) (hs : MemCanonical (s.outside _)) :
    MemCanonical ((State.partialRec n skip rec s).outside _) := by
  simp [State.partialRec, *]

@[simp] theorem State.canon_testPasses (n : Nat) (x0 : Nat) (x1 : Nat) (s : State) (hs : MemCanonical (s.outside _)) :
    MemCanonical ((State.testPasses n x0 x1 s).2.outside _) := by
  induction x0 generalizing x1 s with
  | zero => exact hs
  | succ k ih => exact ih _ _ (by simp [*])

@[simp] theorem State.canon_winResult_apply (w off : Nat) (bs data : List Byte) (s : State) (n0 : Nat) (hs : MemCanonical
    (s.outside _)) :
    MemCanonical (((State.winResult w off bs data s).apply n0).outside _) := by
  simp [State.winResult, *]

@[simp] theorem State.canon_bar2Put (x0 : Nat) (x1 : List Byte) (s : State) (hs : MemCanonical (s.outside _)) :
    MemCanonical ((State.bar2Put x0 x1 s).outside _) := by
  induction x1 generalizing x0 s with
  | nil => exact hs
  | cons b bs ih =>
    unfold State.bar2Put
    split
    · exact ih _ _ (swf_sset _ _ _ _ hs)
    · exact ih _ _ hs

@[simp] theorem State.canon_lampTestEnd (st : OpState) (code : Nat) (s : State) (hs : MemCanonical (s.outside _)) :
    MemCanonical ((State.lampTestEnd st code s).outside _) := by
  unfold State.lampTestEnd
  split <;> simp [*]

@[simp] theorem State.canon_slotWrite (j : Job) (k w h : Nat) (rows : List (List (List Nat))) (s : State) (hs : MemCanonical
    (s.outside _)) :
    MemCanonical ((State.slotWrite j k w h rows s).outside _) := by
  simp [State.slotWrite, *]

@[simp] theorem State.canon_alnAccept (c : AlnCal) (x : AlnSeen) (stagger : Nat) (s : State) (hs : MemCanonical (s.outside _)) :
    MemCanonical ((State.alnAccept c x stagger s).outside _) := by
  unfold State.alnAccept
  dsimp only
  (repeat' split) <;>
    simp only [State.outside_mk, State.outside_alnOut, State.canon_dramWrite, State.outside_seamFigures, State.outside_stage,
      Part.mem_otherThan, List.mem_singleton, reduceCtorEq, not_false_eq_true, true_or, or_true, and_self, hs]

@[simp] theorem State.canon_alnVerdict (c : AlnCal) (s : State) (hs : MemCanonical (s.outside _)) :
    MemCanonical ((State.alnVerdict c s).outside _) := by
  simp [State.alnVerdict, *]

@[simp] theorem State.canon_alnJudge (c : AlnCal) (s : State) (hs : MemCanonical (s.outside _)) :
    MemCanonical ((State.alnJudge c s).outside _) := by
  simp [State.alnJudge, *]

@[simp] theorem State.canon_alnCalLine (r : LineRec) (s : State) (hs : MemCanonical (s.outside _)) :
    MemCanonical ((State.alnCalLine r s).outside _) := by
  unfold State.alnCalLine
  split <;> simp [*]

@[simp] theorem State.canon_shdCalEnd (s : State) (hs : MemCanonical (s.outside _)) :
    MemCanonical ((State.shdCalEnd s).outside _) := by
  unfold State.shdCalEnd
  split <;> simp [*]

@[simp] theorem State.canon_shdCalOut (code : Nat) (data pay : List Byte) (s : State) (hs : MemCanonical (s.outside _)) :
    MemCanonical ((State.shdCalOut code data pay s).outside _) := by
  unfold State.shdCalOut
  split <;> simp [*]

@[simp] theorem State.canon_shdCalCheck (s : State) (hs : MemCanonical (s.outside _)) :
    MemCanonical ((State.shdCalCheck s).outside _) := by
  unfold State.shdCalCheck
  split <;> simp [*]

@[simp] theorem State.canon_shdCalLine (r : LineRec) (s : State) (hs : MemCanonical (s.outside _)) :
    MemCanonical ((State.shdCalLine r s).outside _) := by
  unfold State.shdCalLine
  split <;> simp [*]

@[simp] theorem State.canon_stagWrite (r : LineRec) (l : PortLines) (s : State) (hs : MemCanonical (s.outside _)) :
    MemCanonical ((State.stagWrite r l s).outside _) := by
  simp [State.stagWrite, *]

@[simp] theorem State.canon_ringPut (bs : List Byte) (s : State) (hs : MemCanonical (s.outside _)) :
    MemCanonical ((State.ringPut bs s).outside _) := by
  simp [State.ringPut, *]

@[simp] theorem State.canon_writeLine (r : LineRec) (o : OutLine) (s : State) (hs : MemCanonical (s.outside _)) :
    MemCanonical ((State.writeLine r o s).outside _) := by
  unfold State.writeLine
  split <;> simp [*]

@[simp] theorem State.canon_toPages (r tr : LineRec) (o : OutLine) (s : State) (hs : MemCanonical (s.outside _)) :
    MemCanonical ((State.toPages r tr o s).outside _) := by
  unfold State.toPages
  (repeat' split) <;> simp [*]

@[simp] theorem State.canon_stitch (r : LineRec) (late poison : Bool) (s : State) (hs : MemCanonical (s.outside _)) :
    MemCanonical ((State.stitch r late poison s).outside _) := by
  unfold State.stitch
  dsimp only
  split <;> simp [*]

@[simp] theorem State.canon_unlocked (s : State) (hs : MemCanonical (s.outside _)) :
    MemCanonical ((State.unlocked s).outside _) := by
  unfold State.unlocked
  dsimp only
  (repeat' split) <;> simp [*]

@[simp] theorem State.canon_dropApply (code : Nat) (s : State) (hs : MemCanonical (s.outside _)) :
    MemCanonical ((State.dropApply code s).outside _) := by
  unfold State.dropApply
  (repeat' split) <;> simp [*]

@[simp] theorem State.canon_setModeBody_apply (n : Nat) (m : Mode) (when_ : Nat) (target : BitVec 32) (s : State) (n0 : Nat)
    (hs : MemCanonical (s.outside _)) :
    MemCanonical (((State.setModeBody n m when_ target s).apply n0).outside _) := by
  unfold State.setModeBody
  dsimp only
  (repeat' split) <;> simp [*]

@[simp] theorem State.canon_cutRest (s : State) (hs : MemCanonical (s.outside _)) :
    MemCanonical ((State.cutRest s).outside _) := by
  simp [State.cutRest, *]

@[simp] theorem State.canon_tileStep (s : State) (hs : MemCanonical (s.outside _)) :
    MemCanonical ((State.tileStep s).outside _) := by
  unfold State.tileStep
  (repeat' split) <;> simp [*]

@[simp] theorem State.canon_shdAbort (s : State) (hs : MemCanonical (s.outside _)) :
    MemCanonical ((State.shdAbort s).outside _) := by
  unfold State.shdAbort
  split
  · exact hs
  · refine State.canon_tileStep _ (State.canon_shdCalOut _ _ _ _ ?_)
    split <;> simp [*]

@[simp] theorem State.canon_cutShort (s : State) (hs : MemCanonical (s.outside _)) :
    MemCanonical ((State.cutShort s).outside _) := by
  simp [State.cutShort, *]

@[simp] theorem State.canon_shdAbandon (s : State) (hs : MemCanonical (s.outside _)) :
    MemCanonical ((State.shdAbandon s).outside _) := by
  simp [State.shdAbandon, *]

@[simp] theorem State.canon_zeroRest (s : State) (hs : MemCanonical (s.outside _)) :
    MemCanonical ((State.zeroRest s).outside _) := by
  exact swf_filter _ _ _ hs

@[simp] theorem State.canon_holdEntry (s : State) (hs : MemCanonical (s.outside _)) :
    MemCanonical ((State.holdEntry s).outside _) := by
  unfold State.holdEntry
  have h0 : MemCanonical (State.outside _ (if s.mode.mode == .standby then s.zeroRest else s)) := by
    split <;> simp [*]
  dsimp only
  generalize (if s.mode.mode == .standby then s.zeroRest else s) = s0 at h0 ⊢
  have h1 := State.canon_cutRest _ (State.canon_shdAbandon (s0.endCapture 6) (by simpa using h0))
  split <;> simpa using h1

@[simp] theorem State.canon_idleEntry (s : State) (hs : MemCanonical (s.outside _)) :
    MemCanonical ((State.idleEntry s).outside _) := by
  unfold State.idleEntry
  split <;> simp [*]

@[simp] theorem State.canon_standbyEntry (s : State) (hs : MemCanonical (s.outside _)) :
    MemCanonical ((State.standbyEntry s).outside _) := by
  simp [State.standbyEntry, *]

@[simp] theorem State.canon_arrive (s : State) (hs : MemCanonical (s.outside _)) :
    MemCanonical ((State.arrive s).outside _) := by
  unfold State.arrive
  dsimp only
  (repeat' split) <;> simp [*]

@[simp] theorem State.canon_holdEnter (s : State) (hs : MemCanonical (s.outside _)) :
    MemCanonical ((State.holdEnter s).outside _) := by
  simp [State.holdEnter, *]

@[simp] theorem State.canon_shutdownNow (s : State) (hs : MemCanonical (s.outside _)) :
    MemCanonical ((State.shutdownNow s).outside _) := by
  unfold State.shutdownNow
  extract_lets now_ gone ctxs left therm sec s1 s2 therm2 s3
  have h1 : MemCanonical (s1.outside _) := hs
  clear_value s1
  have h2 : MemCanonical (s2.outside _) := State.canon_holdEnter _ (by simpa using h1)
  clear_value s2
  have h3 : MemCanonical (s3.outside _) := h2
  clear_value s3
  split
  · rw [State.outside_diesOff (by simp) (by simp)]
    exact h3
  · exact h3

@[simp] theorem State.canon_applyAt (seq : BitVec 32) (s : State) (hs : MemCanonical (s.outside _)) :
    MemCanonical ((State.applyAt seq s).outside _) := by
  unfold State.applyAt
  (repeat' split) <;> simp [*]

@[simp] theorem State.canon_applyDue (seq : BitVec 32) (s : State) (hs : MemCanonical (s.outside _)) :
    MemCanonical ((State.applyDue seq s).outside _) := by
  unfold State.applyDue
  (repeat' split) <;> simp [*]

@[simp] theorem State.canon_issueLine (late : Nat) (s : State) (hs : MemCanonical (s.outside _)) :
    MemCanonical ((State.issueLine late s).outside _) := by
  simp [State.issueLine, *]

@[simp] theorem State.canon_requestTrigger (s : State) (hs : MemCanonical (s.outside _)) :
    MemCanonical ((State.requestTrigger s).outside _) := by
  simp [State.requestTrigger, *]

@[simp] theorem State.canon_crossing (s : State) (hs : MemCanonical (s.outside _)) :
    MemCanonical ((State.crossing s).outside _) := by
  simp [State.crossing, *]

@[simp] theorem State.canon_lineCount (d : Int) (s : State) (hs : MemCanonical (s.outside _)) :
    MemCanonical ((State.lineCount d s).outside _) := by
  unfold State.lineCount
  dsimp only
  (repeat' split) <;> simp [*]

@[simp] theorem State.canon_followApply (keys : List Nat) (s : State) (hs : MemCanonical (s.outside _)) :
    MemCanonical ((State.followApply keys s).outside _) := by
  unfold State.followApply
  dsimp only
  split <;> simp [*]

@[simp] theorem State.canon_followLine (s : State) (hs : MemCanonical (s.outside _)) :
    MemCanonical ((State.followLine s).outside _) := by
  unfold State.followLine
  split <;> simp [*]

@[simp] theorem State.canon_followRx (frame : BitVec 51) (s : State) (hs : MemCanonical (s.outside _)) :
    MemCanonical ((State.followRx frame s).outside _) := by
  unfold State.followRx
  extract_lets m m2 uzs2 s0
  have h0 : s0.outside (Part.otherThan [.mem]) = s.outside _ := by
    simp only [s0, m2, m, State.outside_ite, State.outside_ite_snd, State.outside_mk, State.outside_free, Part.mem_otherThan,
      List.mem_singleton, reduceCtorEq, not_false_eq_true, true_or, or_true, and_self, ite_self]
  clear_value s0
  rw [← h0] at hs
  clear h0
  dsimp only
  split
  · simpa +zetaDelta using hs
  · generalize h6 : State.unlocked _ = s6
    have houtside : MemCanonical (s6.outside _) := by
      rw [← h6]
      refine State.canon_unlocked _ ?_
      rw [State.outside_followFrame (by simp) (by simp) (by simp)]
      (repeat' split) <;>
        simp only [State.outside_mk, State.outside_followMode, State.outside_pulse, State.outside_renumber, Part.mem_otherThan,
          List.mem_singleton, reduceCtorEq, not_false_eq_true, true_or, or_true, and_self, hs]
    split <;> simpa using houtside

@[simp] theorem State.canon_stages (s : State) (hs : MemCanonical (s.outside _)) :
    MemCanonical ((State.stages s).outside _) := by
  simp [State.stages, *]

@[simp] theorem State.canon_attestDone (r : TrivetReq) (crossed : Nat) (sig : List Byte) (s : State) (hs : MemCanonical (s.outside _)) :
    MemCanonical ((State.attestDone r crossed sig s).outside _) := by
  simp [State.attestDone, *]

@[simp] theorem State.canon_secEnd (n : Nat) (st : OpState) (code : Nat) (pay : List Byte) (s : State) (hs : MemCanonical
    (s.outside _)) :
    MemCanonical ((State.secEnd n st code pay s).outside _) := by
  exact State.canon_finish n st code [] pay s hs

@[simp] theorem State.canon_secFail (n code : Nat) (s : State) (hs : MemCanonical (s.outside _)) :
    MemCanonical ((State.secFail n code s).outside _) := by
  simp [State.secFail, *]

@[simp] theorem State.canon_authFail (n : Nat) (s : State) (hs : MemCanonical (s.outside _)) :
    MemCanonical ((State.authFail n s).outside _) := by
  simp [State.authFail, *]

@[simp] theorem State.canon_secPut (id : NvId) (data : List Byte) (why : NvWhy) (n : Nat) (s : State) (hs : MemCanonical
    (s.outside _)) :
    MemCanonical ((State.secPut id data why n s).outside _) := by
  unfold State.secPut
  split
  case h_1 u hu =>
    rw [State.outside_of_nvPut (by simp) hu]
    exact hs
  case h_2 => simp [*]

@[simp] theorem State.canon_trivetDone (r : TrivetReq) (crossed : Nat) (ok : Bool) (out : List Byte) (s : State) (hs : MemCanonical
    (s.outside _)) :
    MemCanonical ((State.trivetDone r crossed ok out s).outside _) := by
  unfold State.trivetDone
  (repeat' split) <;> simp [*]

@[simp] theorem State.canon_nvDone (w : NvWrite) (rest : List NvWrite) (s : State) (hs : MemCanonical (s.outside _)) :
    MemCanonical ((State.nvDone w rest s).outside _) := by
  unfold State.nvDone
  (repeat' split) <;> simp [*]

@[simp] theorem State.canon_nvDrop (w : NvWrite) (s : State) (hs : MemCanonical (s.outside _)) :
    MemCanonical ((State.nvDrop w s).outside _) := by
  unfold State.nvDrop
  split <;> simp [*]

theorem State.canon_of_abortRun {k op : Nat} {s : State} {w : State}
    (h : State.abortRun k op s = some w) (hs : MemCanonical (s.outside _)) : MemCanonical (w.outside _) := by
  unfold State.abortRun at h
  split at h
  case h_5 =>
    rw [State.outside_of_refAbort (by simp) (by simp) h]
    exact hs
  case h_7 | h_8 | h_9 | h_10 | h_11 | h_12 =>
    rw [State.outside_of_abortMove (by simp) (by simp) h]
    exact hs
  all_goals
    repeat' split at h
    all_goals cases h
    all_goals simp [*]

@[simp] theorem State.canon_lineCounts (d : Int) (x0 : Nat) (s : State) (hs : MemCanonical (s.outside _)) :
    MemCanonical ((State.lineCounts d x0 s).outside _) := by
  induction x0 generalizing s with
  | zero => exact hs
  | succ k ih => exact ih _ (by simp [*])

@[simp] theorem State.canon_moveTo (x : Nat) (p v : Int) (s : State) (hs : MemCanonical (s.outside _)) :
    MemCanonical ((State.moveTo x p v s).outside _) := by
  simp [State.moveTo, *]

@[simp] theorem State.canon_paceMove (v : Int) (s : State) (hs : MemCanonical (s.outside _)) :
    MemCanonical ((State.paceMove v s).outside _) := by
  simp [State.paceMove, *]

@[simp] theorem State.canon_paceLeave (s : State) (hs : MemCanonical (s.outside _)) :
    MemCanonical ((State.paceLeave s).outside _) := by
  simp [State.paceLeave, *]

@[simp] theorem State.canon_paceStep (s : State) (hs : MemCanonical (s.outside _)) :
    MemCanonical ((State.paceStep s).outside _) := by
  unfold State.paceStep
  split <;> simp [*]

@[simp] theorem State.canon_limitedStep (x : Nat) (v : Int) (s : State) (hs : MemCanonical (s.outside _)) :
    MemCanonical ((State.limitedStep x v s).outside _) := by
  unfold State.limitedStep
  dsimp only
  split <;> simp [*]

@[simp] theorem State.canon_runStep (x : Nat) (m : Move) (s : State) (hs : MemCanonical (s.outside _)) :
    MemCanonical ((State.runStep x m s).outside _) := by
  unfold State.runStep
  dsimp only
  (repeat' split) <;> simp [*]

@[simp] theorem State.canon_stopStep (x : Nat) (coord : Bool) (dec : Nat) (s : State) (hs : MemCanonical (s.outside _)) :
    MemCanonical ((State.stopStep x coord dec s).outside _) := by
  unfold State.stopStep
  dsimp only
  (repeat' split) <;> simp [*]

@[simp] theorem State.canon_axisTick (s : State) (x : Nat) (hs : MemCanonical (s.outside _)) :
    MemCanonical ((State.axisTick s x).outside _) := by
  unfold State.axisTick
  dsimp only
  (repeat' split) <;> simp [*]

theorem State.canon_take {h : Hdr} {op : Nat} {cls : List Cls} {modeOk : Bool} {size : Option Nat} {inRange : Bool} {body : State → Res}
    (hbody : ∀ u, MemCanonical (u.outside _) → MemCanonical (((body u).apply h.ctx.toNat).outside _)) {s : State}
    (hs : MemCanonical (s.outside _)) : MemCanonical ((s.take h op cls modeOk size inRange body).outside _) := by
  unfold State.take
  dsimp only
  split
  · split
    · split <;> simp [*]
    · refine hbody _ ?_
      unfold State.fetched
      split <;> simp [*]
  · simp [*]

@[simp] theorem canon_takeDramChTest (h : Hdr) (ch passes : BitVec 8) (s : State) (hs : MemCanonical (s.outside _)) :
    MemCanonical ((takeDramChTest h ch passes s).outside _) := by
  refine State.canon_take (fun u hu => ?_) hs
  (repeat' split) <;> simp [*]

@[simp] theorem canon_takeDramLogRead (h : Hdr) (window clear : BitVec 8) (offset : BitVec 32) (s : State) (hs : MemCanonical
    (s.outside _)) :
    MemCanonical ((takeDramLogRead h window clear offset s).outside _) := by
  refine State.canon_take (fun u hu => ?_) hs
  dsimp only
  rcases u.winResult_cases window.toNat offset.toNat _ _ with ⟨code, e⟩ | e
  · rw [e]; simp [*]
  · rw [e]
    split
    · next hok =>
      obtain ⟨rfl, rfl, hw⟩ := Res.ok.inj hok
      have hw := hw ▸ State.canon_dramWrite _ _ _ _ hu
      refine Res.canon_apply_ok _ _ _ _ ?_
      split
      · exact hw
      · exact hw
    · next hne => exact absurd rfl (hne _ _ _)

@[simp] theorem canon_takeAfeResidRead (h : Hdr) (die window : BitVec 8) (offset : BitVec 32) (s : State) (hs : MemCanonical
    (s.outside _)) :
    MemCanonical ((takeAfeResidRead h die window offset s).outside _) := by
  refine State.canon_take (fun u hu => ?_) hs
  simp [*]

@[simp] theorem canon_takeMadcAccRead (h : Hdr) (window clear : BitVec 8) (offset : BitVec 32) (mask : BitVec 64)
    (maskHi : BitVec 8) (s : State) (hs : MemCanonical (s.outside _)) :
    MemCanonical ((takeMadcAccRead h window clear offset mask maskHi s).outside _) := by
  refine State.canon_take (fun u hu => ?_) hs
  dsimp only
  rcases u.winResult_cases window.toNat offset.toNat _ _ with ⟨code, e⟩ | e
  · rw [e]; simp [*]
  · rw [e]
    split
    · next hok =>
      obtain ⟨rfl, rfl, hw⟩ := Res.ok.inj hok
      have hw := hw ▸ State.canon_dramWrite _ _ _ _ hu
      refine Res.canon_apply_ok _ _ _ _ ?_
      split
      · exact hw
      · exact hw
    · next hne => exact absurd rfl (hne _ _ _)

@[simp] theorem canon_takeLampTest (h : Hdr) (rows testCode : BitVec 8) (testNs lines : BitVec 16) (whenB : BitVec 8)
    (vLamp vOfs : BitVec 16) (s : State) (hs : MemCanonical (s.outside _)) :
    MemCanonical ((takeLampTest h rows testCode testNs lines whenB vLamp vOfs s).outside _) := by
  refine State.canon_take (fun u hu => ?_) hs
  (repeat' split) <;> simp [*]

@[simp] theorem canon_takeShdSetRead (h : Hdr) (set window copy : BitVec 8) (offset : BitVec 32) (s : State) (hs : MemCanonical
    (s.outside _)) :
    MemCanonical ((takeShdSetRead h set window copy offset s).outside _) := by
  refine State.canon_take (fun u hu => ?_) hs
  dsimp only
  (repeat' split) <;> simp [*]

@[simp] theorem canon_takeShdQualityRead (h : Hdr) (window : BitVec 8) (offset : BitVec 32) (s : State) (hs : MemCanonical
    (s.outside _)) :
    MemCanonical ((takeShdQualityRead h window offset s).outside _) := by
  refine State.canon_take (fun u hu => ?_) hs
  (repeat' split) <;> simp [*]

@[simp] theorem canon_takeSklFlagsRead (h : Hdr) (window : BitVec 8) (offset : BitVec 32) (s : State) (hs : MemCanonical
    (s.outside _)) :
    MemCanonical ((takeSklFlagsRead h window offset s).outside _) := by
  refine State.canon_take (fun u hu => ?_) hs
  simp [*]

@[simp] theorem canon_takeSeamQualityRead (h : Hdr) (window : BitVec 8) (offset : BitVec 32) (s : State) (hs : MemCanonical
    (s.outside _)) :
    MemCanonical ((takeSeamQualityRead h window offset s).outside _) := by
  refine State.canon_take (fun u hu => ?_) hs
  simp [*]

@[simp] theorem canon_takeSetMode (h : Hdr) (mode when_ : BitVec 8) (target : BitVec 32) (s : State) (hs : MemCanonical (s.outside _)) :
    MemCanonical ((takeSetMode h mode when_ target s).outside _) := by
  refine State.canon_take (fun u hu => ?_) hs
  simp [*]

@[simp] theorem canon_takeThermRead (h : Hdr) (window : BitVec 8) (offset : BitVec 32) (s : State) (hs : MemCanonical (s.outside _)) :
    MemCanonical ((takeThermRead h window offset s).outside _) := by
  refine State.canon_take (fun u hu => ?_) hs
  simp [*]

@[simp] theorem canon_takeCfgRead (h : Hdr) (table : BitVec 16) (copy : BitVec 8) (index : BitVec 32) (s : State) (hs : MemCanonical
    (s.outside _)) :
    MemCanonical ((takeCfgRead h table copy index s).outside _) := by
  refine State.canon_take (fun u hu => ?_) hs
  simp [*]

@[simp] theorem canon_takeResRead (h : Hdr) (s : State) (hs : MemCanonical (s.outside _)) :
    MemCanonical ((takeResRead h s).outside _) := by
  refine State.canon_take (fun u hu => ?_) hs
  simp [*]

@[simp] theorem canon_takeSecAttest (h : Hdr) (nonce : BitVec 256) (window : BitVec 8) (offset : BitVec 32) (s : State)
    (hs : MemCanonical (s.outside _)) :
    MemCanonical ((takeSecAttest h nonce window offset s).outside _) := by
  refine State.canon_take (fun u hu => ?_) hs
  dsimp only
  repeat' split
  · exact State.canon_finish _ _ _ _ _ _ hu
  · exact State.canon_finish _ _ _ _ _ _ hu
  · exact State.canon_winResult_apply _ _ _ _ _ _ hu
  · exact State.canon_finish _ _ _ _ _ _ hu
  · rw [Res.outside_apply_go, State.outside_askTrivet (by simp)]
    exact hu

@[simp] theorem canon_takeMbAbort (h : Hdr) (context seq : BitVec 8) (s : State) (hs : MemCanonical (s.outside _)) :
    MemCanonical ((takeMbAbort h context seq s).outside _) := by
  refine State.canon_take (fun u hu => ?_) hs
  dsimp only
  repeat' split
  case h_1 v hv => exact Res.canon_apply_ok _ _ _ _ (State.canon_of_abortRun hv hu)
  all_goals simp [*]

end Sys2Proof.Machine
end

section
/-! PROOFS. Mailbox commands that a doorbell, the sweep or a register write takes from their queues. -/

namespace Sys2Proof.Machine

@[simp] theorem State.outside_runMail (i : Instr) (s : State) : (State.runMail i s).outside (Part.otherThan [.cpu]) = s.outside _ := by
  cases i <;> simp [State.runMail]

@[simp] theorem State.outside_takeHead (n : Nat) (s : State) : (s.takeHead n).outside (Part.otherThan [.cpu]) = s.outside _ := by
  unfold State.takeHead
  split
  · rfl
  · dsimp only
    split <;> simp

@[simp] theorem State.outside_drain (n k : Nat) (s : State) : (State.drain n k s).outside (Part.otherThan [.cpu]) = s.outside _ := by
  induction k generalizing s with
  | zero => rfl
  | succ k ih =>
    unfold State.drain
    (repeat' split) <;> simp [ih]

@[simp] theorem State.outside_doorbell (p n : Nat) (s : State) : (s.doorbell p n).outside (Part.otherThan [.cpu]) = s.outside _ := by
  simp [State.doorbell]

@[simp] theorem State.outside_resumeStaging (n : Nat) (s : State) : (s.resumeStaging n).outside
    (Part.otherThan [.cpu]) = s.outside _ := by
  unfold State.resumeStaging
  split <;> simp

@[simp] theorem State.outside_writeWord (p a v : Nat) (s : State) : (s.writeWord p a v).outside
    (Part.otherThan [.cpu]) = s.outside _ := by
  unfold State.writeWord
  (repeat' split) <;> simp

@[simp] theorem State.outside_barWrite (p a len : Nat) (data : BitVec 64) (s : State) :
    (s.barWrite p a len data).outside (Part.otherThan [.cpu]) = s.outside _ := by
  unfold State.barWrite
  (repeat' split) <;> simp

@[simp] theorem State.canon_runMail (i : Instr) (s : State) (hs : MemCanonical (s.outside _)) :
    MemCanonical ((State.runMail i s).outside _) := by
  cases i <;> simp [State.runMail, hs]

@[simp] theorem State.canon_takeHead (n : Nat) (s : State) (hs : MemCanonical (s.outside _)) : MemCanonical
    ((s.takeHead n).outside _) := by
  unfold State.takeHead
  split
  · exact hs
  · dsimp only
    split <;> simp [hs]

@[simp] theorem State.canon_drain (n k : Nat) (s : State) (hs : MemCanonical (s.outside _)) :
    MemCanonical ((State.drain n k s).outside _) := by
  induction k generalizing s with
  | zero => exact hs
  | succ k ih =>
    unfold State.drain
    (repeat' split) <;> simp [ih, hs]

@[simp] theorem State.canon_doorbell (p n : Nat) (s : State) (hs : MemCanonical (s.outside _)) :
    MemCanonical ((s.doorbell p n).outside _) := by
  simp [State.doorbell, hs]

@[simp] theorem State.canon_resumeStaging (n : Nat) (s : State) (hs : MemCanonical (s.outside _)) :
    MemCanonical ((s.resumeStaging n).outside _) := by
  unfold State.resumeStaging
  split <;> simp [hs]

@[simp] theorem State.canon_writeWord (p a v : Nat) (s : State) (hs : MemCanonical (s.outside _)) :
    MemCanonical ((s.writeWord p a v).outside _) := by
  unfold State.writeWord
  (repeat' split) <;> simp [hs]

@[simp] theorem State.canon_barWrite (p a len : Nat) (data : BitVec 64) (s : State) (hs : MemCanonical (s.outside _)) :
    MemCanonical ((s.barWrite p a len data).outside _) := by
  unfold State.barWrite
  (repeat' split) <;> simp [hs]

end Sys2Proof.Machine
end

section
/-! PROOFS. Events that write memory, or that change the pairs. -/

namespace Sys2Proof.Machine

/-- A command answers a state whose memory is in canonical form. -/
def Canonical (r : Host.Outcome State Fault Refusal) : Prop := ∃ u : State, r = .next u ∧ MemCanonical (u.outside _)

@[simp] theorem canonical_next (u : State) : Canonical (.next u) ↔ MemCanonical (u.outside _) := by
  constructor
  · rintro ⟨v, hv, h⟩
    rwa [Host.Outcome.next.inj hv]
  · exact fun h => ⟨u, rfl, h⟩

@[simp] theorem canonical_out (u : State) : Canonical u.out ↔ MemCanonical (u.outside _) := by
  simp [State.out]

@[simp] theorem canonical_dmaOut (u : State) : Canonical u.dmaOut ↔ MemCanonical (u.outside _) := by
  simp [State.dmaOut, State.out]

@[simp] theorem canonical_ite {c : Prop} [Decidable c] (a b : Host.Outcome State Fault Refusal) :
    Canonical (if c then a else b) ↔ if c then Canonical a else Canonical b := by
  split <;> rfl

theorem State.Leaves.canonical {s : State} {r : Host.Outcome State Fault Refusal} (h : s.Leaves (Part.otherThan [.mem, .cpu]) r)
    (hs : MemCanonical (s.outside _)) : Canonical r := by
  obtain ⟨u, hu, hout⟩ := h
  have hmem : u.dram.mem = s.dram.mem := State.frame_iff.2 hout .mem (by simp)
  refine ⟨u, hu, ?_⟩
  rw [State.memCanonical_iff, State.memOk, hmem]
  exact hs

@[simp] theorem State.canon_cleared (s : State) (hs : MemCanonical (s.outside _)) : MemCanonical (s.cleared.outside _) := hs

@[simp] theorem State.canon_deviceReset (src : ResetSource) (ends : Option Nat) (s : State) (hs : MemCanonical (s.outside _)) :
    MemCanonical ((s.deviceReset src ends).outside _) := hs

@[simp] theorem leaves_execDmaBurstDone (t : Nat) (c : BitVec 6) (data : List Byte) (perr : Bool) (s : State) :
    s.Leaves (Part.otherThan [.cpu]) (execDmaBurstDone t c data perr s) := by
  simp [execDmaBurstDone]

@[simp] theorem leaves_execDmaQueueData (t : Nat) (c : BitVec 6) (perr : Bool) (s : State) :
    s.Leaves (Part.otherThan [.cpu]) (execDmaQueueData t c perr s) := by
  simp [execDmaQueueData]

@[simp] theorem leaves_execDramReadReturn (t : Nat) (ch : BitVec 3) (err : EccResult) (s : State) :
    s.Leaves (Part.otherThan [.cpu]) (execDramReadReturn t ch err s) := by
  unfold execDramReadReturn
  dsimp only
  split <;> simp

@[simp] theorem leaves_execDramScrubStep (t : Nat) (err : EccResult) (s : State) :
    s.Leaves (Part.otherThan [.cpu]) (execDramScrubStep t err s) := by
  unfold execDramScrubStep
  dsimp only
  (repeat' split) <;> simp

@[simp] theorem leaves_execBar2Write (t : Nat) (port : BitVec 1) (addr : BitVec 32) (data : List Byte) (s : State) :
    s.Leaves (Part.otherThan [.cpu]) (execBar2Write t port addr data s) := by
  simp [execBar2Write]

@[simp] theorem leaves_execLampTestPulse (t : Nat) (row : BitVec 2) (current voltage : Nat) (s : State) :
    s.Leaves (Part.otherThan [.cpu]) (execLampTestPulse t row current voltage s) := by
  rw [← State.leaves_atTime t]
  unfold execLampTestPulse
  dsimp only
  generalize s.atTime t = s
  (repeat' split) <;> simp

@[simp] theorem leaves_execRefDecodeDone (t : Nat) (s : State) :
    s.Leaves (Part.otherThan [.cpu]) (execRefDecodeDone t s) := by
  unfold execRefDecodeDone
  dsimp only
  (repeat' split) <;> simp

@[simp] theorem leaves_execStitchedLineComplete (t : Nat) (late poison : Bool) (s : State) :
    s.Leaves (Part.otherThan [.cpu]) (execStitchedLineComplete t late poison s) := by
  rw [← State.leaves_atTime t]
  unfold execStitchedLineComplete
  dsimp only
  generalize s.atTime t = s
  (repeat' split) <;> simp

@[simp] theorem leaves_execModeTransitionDone (t : Nat) (s : State) :
    s.Leaves (Part.otherThan [.cpu]) (execModeTransitionDone t s) := by
  simp [execModeTransitionDone]

@[simp] theorem leaves_execScrubComplete (t : Nat) (s : State) :
    s.Leaves (Part.otherThan [.cpu]) (execScrubComplete t s) := by
  rw [← State.leaves_atTime t]
  unfold execScrubComplete
  dsimp only
  generalize s.atTime t = s
  simp

@[simp] theorem leaves_execSelftestTestDone (t : Nat) (result : BitVec 8) (durMs : BitVec 16) (detail : BitVec 32) (s : State) :
    s.Leaves (Part.otherThan [.cpu]) (execSelftestTestDone t result durMs detail s) := by
  unfold execSelftestTestDone
  dsimp only
  (repeat' split) <;> simp

@[simp] theorem leaves_execThermSample (t : Nat) (readings : List Int) (s : State) :
    s.Leaves (Part.otherThan [.cpu]) (execThermSample t readings s) := by
  simp [execThermSample]

@[simp] theorem leaves_execDramWipeDone (t : Nat) (s : State) :
    s.Leaves (Part.otherThan [.cpu]) (execDramWipeDone t s) := by
  rw [← State.leaves_atTime t]
  unfold execDramWipeDone
  dsimp only
  generalize s.atTime t = s
  simp

@[simp] theorem leaves_execEncEdge (t : Nat) (enc : BitVec 1) (a b : Bool) (s : State) :
    s.Leaves (Part.otherThan [.cpu]) (execEncEdge t enc a b s) := by
  simp [execEncEdge]

@[simp] theorem leaves_execGeneratorPeriod (t : Nat) (s : State) :
    s.Leaves (Part.otherThan [.cpu]) (execGeneratorPeriod t s) := by
  unfold execGeneratorPeriod
  dsimp only
  split <;> simp

@[simp] theorem leaves_execInterpTrigger (t : Nat) (s : State) :
    s.Leaves (Part.otherThan [.cpu]) (execInterpTrigger t s) := by
  unfold execInterpTrigger
  dsimp only
  split <;> simp

@[simp] theorem leaves_execPendingTriggerIssue (t : Nat) (s : State) :
    s.Leaves (Part.otherThan [.cpu]) (execPendingTriggerIssue t s) := by
  unfold execPendingTriggerIssue
  dsimp only
  split <;> simp

@[simp] theorem leaves_execUzsLineStart (t : Nat) (s : State) :
    s.Leaves (Part.otherThan [.cpu]) (execUzsLineStart t s) := by
  rw [← State.leaves_atTime t]
  unfold execUzsLineStart
  dsimp only
  generalize s.atTime t = s
  (repeat' split) <;> simp

@[simp] theorem leaves_execUzsFrameRx (t : Nat) (frame : BitVec 51) (s : State) :
    s.Leaves (Part.otherThan [.cpu]) (execUzsFrameRx t frame s) := by
  simp [execUzsFrameRx]

@[simp] theorem leaves_execSimmerRefill (t pDev pMand : Nat) (s : State) :
    s.Leaves (Part.otherThan [.cpu]) (execSimmerRefill t pDev pMand s) := by
  simp [execSimmerRefill]

@[simp] theorem leaves_execTrivetRequestDone (t : Nat) (ok : Bool) (out : List Byte) (s : State) :
    s.Leaves (Part.otherThan [.cpu]) (execTrivetRequestDone t ok out s) := by
  rw [← State.leaves_atTime t]
  unfold execTrivetRequestDone
  dsimp only
  generalize s.atTime t = s
  (repeat' split) <;> simp

@[simp] theorem leaves_execNorWriteDone (t : Nat) (readBackOk : Bool) (s : State) :
    s.Leaves (Part.otherThan [.cpu]) (execNorWriteDone t readBackOk s) := by
  unfold execNorWriteDone
  dsimp only
  split <;> simp

@[simp] theorem leaves_execNvLineProgramDone (t : Nat) (s : State) :
    s.Leaves (Part.otherThan [.cpu]) (execNvLineProgramDone t s) := by
  unfold execNvLineProgramDone
  dsimp only
  split <;> simp

@[simp] theorem leaves_execNvWriteWaitTimeout (t : Nat) (s : State) :
    s.Leaves (Part.otherThan [.cpu]) (execNvWriteWaitTimeout t s) := by
  rw [← State.leaves_atTime t]
  unfold execNvWriteWaitTimeout
  dsimp only
  generalize s.atTime t = s
  rw [State.leaves_out, State.outside_nvSafe (by simp), State.outside_foldl]
  · simp
  · intro u n
    split <;> simp

@[simp] theorem leaves_execMbDoorbell (t : Nat) (port : BitVec 1) (n : BitVec 8) (s : State) :
    s.Leaves (Part.otherThan [.cpu]) (execMbDoorbell t port n s) := by
  simp [execMbDoorbell]

@[simp] theorem leaves_execMbSweep (t : Nat) (s : State) :
    s.Leaves (Part.otherThan [.cpu]) (execMbSweep t s) := by
  simp [execMbSweep]

@[simp] theorem leaves_execCompletionPush (t : Nat) (n : BitVec 8) (s : State) :
    s.Leaves (Part.otherThan [.cpu]) (execCompletionPush t n s) := by
  unfold execCompletionPush
  dsimp only
  (repeat' split) <;> simp

@[simp] theorem leaves_execMotRampTick (t : Nat) (s : State) :
    s.Leaves (Part.otherThan [.cpu]) (execMotRampTick t s) := by
  simp [execMotRampTick]

@[simp] theorem leaves_execRegisterWrite (t : Nat) (port : BitVec 1) (addr : BitVec 24) (len : Nat) (data : BitVec 64) (s : State) :
    s.Leaves (Part.otherThan [.cpu]) (execRegisterWrite t port addr len data s) := by
  simp [execRegisterWrite]

@[simp] theorem leaves_execAfeFgCalDone (t : Nat) (results : List CalResult) (s : State) :
    s.Leaves (Part.otherThan [.cpu]) (execAfeFgCalDone t results s) := by
  rw [← State.leaves_atTime t]
  unfold execAfeFgCalDone
  dsimp only
  generalize s.atTime t = s
  (repeat' split) <;> simp

@[simp] theorem canonical_execDmaBurstDone (t : Nat) (c : BitVec 6) (data : List Byte) (perr : Bool) (s : State) (hs : MemCanonical
    (s.outside _)) :
    Canonical (execDmaBurstDone t c data perr s) := by
  simp [execDmaBurstDone, *]

@[simp] theorem canonical_execDmaQueueData (t : Nat) (c : BitVec 6) (perr : Bool) (s : State) (hs : MemCanonical (s.outside _)) :
    Canonical (execDmaQueueData t c perr s) := by
  simp [execDmaQueueData, *]

@[simp] theorem canonical_execDramReadReturn (t : Nat) (ch : BitVec 3) (err : EccResult) (s : State) (hs : MemCanonical (s.outside _)) :
    Canonical (execDramReadReturn t ch err s) := by
  unfold execDramReadReturn
  dsimp only
  (repeat' split) <;> simp [*]

@[simp] theorem canonical_execDramScrubStep (t : Nat) (err : EccResult) (s : State) (hs : MemCanonical (s.outside _)) :
    Canonical (execDramScrubStep t err s) := by
  replace hs : MemCanonical ((s.atTime t).outside _) := by simpa using hs
  unfold execDramScrubStep
  dsimp only
  generalize s.atTime t = s at hs ⊢
  split
  · simp [*]
  · split
    · simp [*]
    · generalize s.physBlock s.dram.pos = b
      have h2 : MemCanonical (((s.moved 10 64).eccErr b.1 b.2.1 10 b.2.2 err).outside _) :=
        State.canon_eccErr _ _ _ _ _ _ (by simpa using hs)
      generalize State.eccErr _ _ _ _ _ _ = s2 at h2 ⊢
      split
      · have h3 : MemCanonical (State.outside _ (if b.2.2 then { s2 with dram := { s2.dram with
            mem := memZero b.1 64 s2.dram.mem, poison := s2.dram.poison.filter (fun x => x != b.1 / 64) } } else s2)) := by
          split
          · exact memZero_wf _ _ _ h2
          · exact h2
        generalize (if b.2.2 then _ else s2 : State) = s3 at h3 ⊢
        simpa using h3
      · simpa using h2

@[simp] theorem canonical_execBar2Write (t : Nat) (port : BitVec 1) (addr : BitVec 32) (data : List Byte) (s : State)
    (hs : MemCanonical (s.outside _)) :
    Canonical (execBar2Write t port addr data s) := by
  simp [execBar2Write, *]

@[simp] theorem canonical_execAfeFgCalDone (t : Nat) (results : List CalResult) (s : State) (hs : MemCanonical (s.outside _)) :
    Canonical (execAfeFgCalDone t results s) := by
  replace hs : MemCanonical ((s.atTime t).outside _) := by simpa using hs
  unfold execAfeFgCalDone
  dsimp only
  generalize s.atTime t = s at hs ⊢
  split
  · simp [*]
  · rw [canonical_out]
    split <;> refine State.canon_finish _ _ _ _ _ _ ?_
    all_goals
      rw [State.outside_saveTrims_getD (by simp), State.outside_foldl (by simp), State.outside_foldl (by simp)]
      exact hs

@[simp] theorem canonical_execLampTestPulse (t : Nat) (row : BitVec 2) (current voltage : Nat) (s : State) (hs : MemCanonical
    (s.outside _)) :
    Canonical (execLampTestPulse t row current voltage s) := by
  replace hs : MemCanonical ((s.atTime t).outside _) := by simpa using hs
  unfold execLampTestPulse
  dsimp only
  generalize s.atTime t = s at hs ⊢
  (repeat' split) <;> simp [*]

@[simp] theorem canonical_execRefDecodeDone (t : Nat) (s : State) (hs : MemCanonical (s.outside _)) :
    Canonical (execRefDecodeDone t s) := by
  unfold execRefDecodeDone
  dsimp only
  (repeat' split) <;> simp [*]

@[simp] theorem canonical_execStitchedLineComplete (t : Nat) (late poison : Bool) (s : State) (hs : MemCanonical (s.outside _)) :
    Canonical (execStitchedLineComplete t late poison s) := by
  replace hs : MemCanonical ((s.atTime t).outside _) := by simpa using hs
  unfold execStitchedLineComplete
  dsimp only
  generalize s.atTime t = s at hs ⊢
  split
  · simp [*]
  · rw [canonical_out, State.outside_trimLines (by simp) (by simp)]
    refine State.canon_stitch _ _ _ _ ?_
    rw [State.outside_tapLine (by simp) (by simp)]
    refine State.canon_alnCalLine _ _ (State.canon_shdCalLine _ _ ?_)
    split <;> simpa using hs

@[simp] theorem canonical_execModeTransitionDone (t : Nat) (s : State) (hs : MemCanonical (s.outside _)) :
    Canonical (execModeTransitionDone t s) := by
  simp [execModeTransitionDone, *]

@[simp] theorem canonical_execScrubComplete (t : Nat) (s : State) (hs : MemCanonical (s.outside _)) :
    Canonical (execScrubComplete t s) := by
  replace hs : MemCanonical ((s.atTime t).outside _) := by simpa using hs
  unfold execScrubComplete
  dsimp only
  generalize s.atTime t = s at hs ⊢
  split
  · rw [canonical_out, State.outside_modeTo (by simp) (by simp) (by simp) (by simp)]
    exact State.canon_idleEntry _ rfl
  · exact (canonical_out _).2 hs

@[simp] theorem canonical_execLockstepMismatch (t : Nat) (pair : BitVec 1) (s : State) (hs : MemCanonical (s.outside _)) :
    Canonical (execLockstepMismatch t pair s) := by
  simp [execLockstepMismatch, *]

@[simp] theorem canonical_execPairRestartDone (t : Nat) (pair : BitVec 1) (ok : Bool) (s : State) (hs : MemCanonical (s.outside _)) :
    Canonical (execPairRestartDone t pair ok s) := by
  replace hs : MemCanonical ((s.atTime t).outside _) := by simpa using hs
  unfold execPairRestartDone
  dsimp only
  generalize s.atTime t = s at hs ⊢
  simp [*]

@[simp] theorem canonical_execStandbySelftest (t : Nat) (ok : Bool) (s : State) (hs : MemCanonical (s.outside _)) :
    Canonical (execStandbySelftest t ok s) := by
  simp [execStandbySelftest, *]

@[simp] theorem canonical_execSelftestTestDone (t : Nat) (result : BitVec 8) (durMs : BitVec 16) (detail : BitVec 32) (s : State)
    (hs : MemCanonical (s.outside _)) :
    Canonical (execSelftestTestDone t result durMs detail s) := by
  unfold execSelftestTestDone
  dsimp only
  (repeat' split) <;> simp [*]

@[simp] theorem canonical_execThermSample (t : Nat) (readings : List Int) (s : State) (hs : MemCanonical (s.outside _)) :
    Canonical (execThermSample t readings s) := by
  simp [execThermSample, *]

@[simp] theorem canonical_execPowerOnReset (t : Nat) (s : State) (hs : MemCanonical (s.outside _)) :
    Canonical (execPowerOnReset t s) := by
  simp [execPowerOnReset, *]

@[simp] theorem canonical_execPorstNAssert (t : Nat) (s : State) (hs : MemCanonical (s.outside _)) :
    Canonical (execPorstNAssert t s) := by
  simp [execPorstNAssert, *]

@[simp] theorem canonical_execSysrstNAssert (t : Nat) (s : State) (hs : MemCanonical (s.outside _)) :
    Canonical (execSysrstNAssert t s) := by
  simp [execSysrstNAssert, *]

@[simp] theorem canonical_execCoreBrownout (t : Nat) (s : State) (hs : MemCanonical (s.outside _)) :
    Canonical (execCoreBrownout t s) := by
  simp [execCoreBrownout, *]

@[simp] theorem canonical_execSysclkLoss (t : Nat) (s : State) (hs : MemCanonical (s.outside _)) :
    Canonical (execSysclkLoss t s) := by
  simp [execSysclkLoss, *]

@[simp] theorem canonical_execDevResetExpiry (t : Nat) (s : State) (hs : MemCanonical (s.outside _)) :
    Canonical (execDevResetExpiry t s) := by
  unfold execDevResetExpiry
  dsimp only
  (repeat' split) <;> simp [*]

@[simp] theorem canonical_execTrivetSecurityReset (t : Nat) (s : State) (hs : MemCanonical (s.outside _)) :
    Canonical (execTrivetSecurityReset t s) := by
  unfold execTrivetSecurityReset
  dsimp only
  (repeat' split) <;> simp [*]

@[simp] theorem canonical_execBootImageVerified (t : Nat) (hdr : List Byte) (sigOk : Bool) (bodyHash : BitVec 256) (s : State)
    (hs : MemCanonical (s.outside _)) :
    Canonical (execBootImageVerified t hdr sigOk bodyHash s) := by
  replace hs : MemCanonical ((s.atTime t).outside _) := by simpa using hs
  unfold execBootImageVerified
  dsimp only
  generalize s.atTime t = s at hs ⊢
  simp [*]

@[simp] theorem canonical_execDramWipeDone (t : Nat) (s : State) (hs : MemCanonical (s.outside _)) :
    Canonical (execDramWipeDone t s) := by
  replace hs : MemCanonical ((s.atTime t).outside _) := by simpa using hs
  unfold execDramWipeDone
  dsimp only
  generalize s.atTime t = s at hs ⊢
  split
  · exact (canonical_out _).2 rfl
  · exact (canonical_out _).2 hs

@[simp] theorem canonical_execEncEdge (t : Nat) (enc : BitVec 1) (a b : Bool) (s : State) (hs : MemCanonical (s.outside _)) :
    Canonical (execEncEdge t enc a b s) := by
  simp [execEncEdge, *]

@[simp] theorem canonical_execGeneratorPeriod (t : Nat) (s : State) (hs : MemCanonical (s.outside _)) :
    Canonical (execGeneratorPeriod t s) := by
  unfold execGeneratorPeriod
  dsimp only
  (repeat' split) <;> simp [*]

@[simp] theorem canonical_execInterpTrigger (t : Nat) (s : State) (hs : MemCanonical (s.outside _)) :
    Canonical (execInterpTrigger t s) := by
  unfold execInterpTrigger
  dsimp only
  (repeat' split) <;> simp [*]

@[simp] theorem canonical_execPendingTriggerIssue (t : Nat) (s : State) (hs : MemCanonical (s.outside _)) :
    Canonical (execPendingTriggerIssue t s) := by
  unfold execPendingTriggerIssue
  dsimp only
  (repeat' split) <;> simp [*]

@[simp] theorem canonical_execUzsLineStart (t : Nat) (s : State) (hs : MemCanonical (s.outside _)) :
    Canonical (execUzsLineStart t s) := by
  replace hs : MemCanonical ((s.atTime t).outside _) := by simpa using hs
  unfold execUzsLineStart
  dsimp only
  generalize s.atTime t = s at hs ⊢
  (repeat' split) <;> simp [*]

@[simp] theorem canonical_execUzsFrameRx (t : Nat) (frame : BitVec 51) (s : State) (hs : MemCanonical (s.outside _)) :
    Canonical (execUzsFrameRx t frame s) := by
  simp [execUzsFrameRx, *]

@[simp] theorem canonical_execSimmerRefill (t pDev pMand : Nat) (s : State) (hs : MemCanonical (s.outside _)) :
    Canonical (execSimmerRefill t pDev pMand s) := by
  simp [execSimmerRefill, *]

@[simp] theorem canonical_execTrivetRequestDone (t : Nat) (ok : Bool) (out : List Byte) (s : State) (hs : MemCanonical (s.outside _)) :
    Canonical (execTrivetRequestDone t ok out s) := by
  replace hs : MemCanonical ((s.atTime t).outside _) := by simpa using hs
  unfold execTrivetRequestDone
  dsimp only
  generalize s.atTime t = s at hs ⊢
  rw [canonical_out]
  split
  · exact hs
  · exact State.canon_trivetDone _ _ _ _ _ hs

@[simp] theorem canonical_execNorWriteDone (t : Nat) (readBackOk : Bool) (s : State) (hs : MemCanonical (s.outside _)) :
    Canonical (execNorWriteDone t readBackOk s) := by
  unfold execNorWriteDone
  dsimp only
  (repeat' split) <;> simp [*]

@[simp] theorem canonical_execNvLineProgramDone (t : Nat) (s : State) (hs : MemCanonical (s.outside _)) :
    Canonical (execNvLineProgramDone t s) := by
  replace hs : MemCanonical ((s.atTime t).outside _) := by simpa using hs
  unfold execNvLineProgramDone
  dsimp only
  generalize s.atTime t = s at hs ⊢
  (repeat' split) <;> simp [*]

@[simp] theorem canonical_execNvWriteWaitTimeout (t : Nat) (s : State) (hs : MemCanonical (s.outside _)) :
    Canonical (execNvWriteWaitTimeout t s) := by
  replace hs : MemCanonical ((s.atTime t).outside _) := by simpa using hs
  unfold execNvWriteWaitTimeout
  dsimp only
  generalize s.atTime t = s at hs ⊢
  rw [canonical_out, State.outside_nvSafe (by simp)]
  refine State.canon_foldl (fun u n hu => ?_) _ hs
  split <;> simp [*]

@[simp] theorem canonical_execMbDoorbell (t : Nat) (port : BitVec 1) (n : BitVec 8) (s : State) (hs : MemCanonical (s.outside _)) :
    Canonical (execMbDoorbell t port n s) := by
  simp [execMbDoorbell, *]

@[simp] theorem canonical_execMbSweep (t : Nat) (s : State) (hs : MemCanonical (s.outside _)) :
    Canonical (execMbSweep t s) := by
  replace hs : MemCanonical ((s.atTime t).outside _) := by simpa using hs
  unfold execMbSweep
  dsimp only
  generalize s.atTime t = s at hs ⊢
  split
  · simp [*]
  · rw [canonical_dmaOut]
    refine State.canon_foldl (fun u n hu => ?_) _ (State.canon_foldl (fun u n hu => State.canon_resumeStaging n u hu) _ hs)
    split <;> simp [*]

@[simp] theorem canonical_execCompletionPush (t : Nat) (n : BitVec 8) (s : State) (hs : MemCanonical (s.outside _)) :
    Canonical (execCompletionPush t n s) := by
  unfold execCompletionPush
  dsimp only
  (repeat' split) <;> simp [*]

@[simp] theorem canonical_execMotRampTick (t : Nat) (s : State) (hs : MemCanonical (s.outside _)) :
    Canonical (execMotRampTick t s) := by
  unfold execMotRampTick
  rw [canonical_out]
  refine State.canon_tileStep _ (State.canon_foldl (fun u n hu => State.canon_axisTick _ _ hu) _ ?_)
  simpa using hs

@[simp] theorem canonical_execRcFieldRead (t : Nat) (port : BitVec 1) (addr : BitVec 24) (len : Nat) (s : State) (hs : MemCanonical
    (s.outside _)) :
    Canonical (execRcFieldRead t port addr len s) := by
  simp [execRcFieldRead, *]

@[simp] theorem canonical_execRegisterWrite (t : Nat) (port : BitVec 1) (addr : BitVec 24) (len : Nat) (data : BitVec 64)
    (s : State) (hs : MemCanonical (s.outside _)) :
    Canonical (execRegisterWrite t port addr len data s) := by
  simp [execRegisterWrite, *]

end Sys2Proof.Machine
end

section
/-! PROOFS. Every step keeps the memory in canonical form. -/

namespace Sys2Proof.Machine

/-- Every command keeps the memory in canonical form: mailbox commands by what their bodies do, the events named by what they write,
and the others because they leave the memory alone. -/
theorem exec_canonical (i : Instr) {s : State} (hs : MemCanonical (s.outside _)) : Canonical (exec i s) := by
  cases hmail : hdrOf i with
  | some h =>
    cases i
    all_goals cases hmail
    all_goals exact (canonical_out _).2 (by simp [hs])
  | none =>
    cases i
    case
      dmaBurstDone | dmaQueueData | dramReadReturn | dramScrubStep | bar2Write | afeFgCalDone | lampTestPulse | refDecodeDone
      | stitchedLineComplete | modeTransitionDone | scrubComplete | lockstepMismatch | pairRestartDone | standbySelftest |
      selftestTestDone | thermSample | powerOnReset | porstNAssert | sysrstNAssert | coreBrownout | sysclkLoss |
      devResetExpiry | trivetSecurityReset | bootImageVerified | dramWipeDone | encEdge | generatorPeriod | interpTrigger |
      pendingTriggerIssue | uzsLineStart | uzsFrameRx | simmerRefill | trivetRequestDone | norWriteDone | nvLineProgramDone |
      nvWriteWaitTimeout | mbDoorbell | mbSweep | completionPush | motRampTick | rcFieldRead | registerWrite =>
      simp [exec, hs]
    all_goals cases hmail
    all_goals exact State.Leaves.canonical (by simp [exec]) hs

/-- Settles O57. -/
theorem stepKeepsMemoryCanonical : Obligations.StepKeepsMemoryCanonical := by
  intro s t hs ht
  unfold step at ht
  split at ht
  · rwa [← Host.Outcome.next.inj ht]
  · next c rest _ =>
    obtain ⟨u, hu, hcanon⟩ := exec_canonical c (s := { s with pending := rest }) hs
    rwa [Host.Outcome.next.inj (ht.symm.trans hu)]

end Sys2Proof.Machine
end

section
/-! PROOFS. Mailbox commands keep the rest (frame), and every step keeps at most one pair serving. -/

namespace Sys2Proof.Machine

/-- Every mailbox command leaves alone what is outside of the parts that `changesOf` lists for it. -/
theorem exec_outside {i : Instr} {h : Hdr} (hh : hdrOf i = some h) (s : State) :
    ∃ u : State, exec i s = .next u ∧ u.outside (changesOf i) = s.outside (changesOf i) := by
  cases i
  all_goals cases hh
  all_goals exact ⟨_, rfl, by simp [changesOf]⟩

/-- Settles O53. -/
theorem mailboxCommandsKeepTheRest : Obligations.MailboxCommandsKeepTheRest := by
  intro i h s t hh _ ht
  obtain ⟨u, hu, hout⟩ := exec_outside hh s
  obtain rfl : t = u := Host.Outcome.next.inj (ht.symm.trans hu)
  exact State.frame_iff.2 hout

theorem cpu_notMem_changesOf {i : Instr} {h : Hdr} (hh : hdrOf i = some h) : .cpu ∉ changesOf i := by
  cases i
  all_goals cases hh
  all_goals simp [changesOf]

/-- A command answers a state in which at most one pair serves, the one PAIR_ID names. -/
def PairsKept (r : Host.Outcome State Fault Refusal) : Prop := ∃ u : State, r = .next u ∧ u.pairsOk = true

theorem pairsKept_out {u : State} (h : u.pairsOk = true) : PairsKept u.out := by
  refine ⟨_, rfl, ?_⟩
  rwa [State.pairsOk, State.settle_cpu]

theorem State.pairsOk_congr {s t : State} (h : t.cpu = s.cpu) : t.pairsOk = s.pairsOk := by
  rw [State.pairsOk, h, State.pairsOk]

theorem State.cpu_of_outside {P : List Part} (hP : .cpu ∉ P) {s t : State} (h : t.outside P = s.outside P) : t.cpu = s.cpu :=
  State.frame_iff.2 h .cpu hP

/-- A command that leaves the pairs alone keeps that at most one serves. -/
theorem State.Leaves.pairsKept {P : List Part} {s : State} {r : Host.Outcome State Fault Refusal} (hP : .cpu ∉ P) (h : s.Leaves P r)
    (hs : s.pairsOk = true) : PairsKept r := by
  obtain ⟨u, hu, hout⟩ := h
  exact ⟨u, hu, (State.pairsOk_congr (State.cpu_of_outside hP hout)).trans hs⟩

/-- A pair that halts does not serve after it, and one that takes its place is the only one that does. -/
theorem State.halt_pairsOk (k : Nat) {s : State} (hs : s.pairsOk = true) : (s.halt k).pairsOk = true := by
  unfold State.halt
  split
  · dsimp only
    generalize hx : (if 4 ≤ s.cpu.halts k + 1 then PairState.out else .restarting) = x
    have hout : x ≠ .serving := by
      rw [← hx]
      split <;> simp
    by_cases hk : k = 0
    · cases h0 : s.cpu.pair0 <;> cases h1 : s.cpu.pair1 <;> simp_all [State.pairsOk, Cpu.pair, Cpu.setPair, Cpu.countHalt]
    · have hk1 : 1 - k = 0 := by omega
      cases h0 : s.cpu.pair0 <;> cases h1 : s.cpu.pair1 <;> simp_all [State.pairsOk, Cpu.pair, Cpu.setPair, Cpu.countHalt]
  · exact hs

theorem State.mirrorClear_pairsOk (o : Nat) (s : State) : (s.mirrorClear o).pairsOk = s.pairsOk := by
  unfold State.mirrorClear
  (repeat' split) <;> rfl

theorem State.readClears_pairsOk (a : Nat) (s : State) : (s.readClears a).pairsOk = s.pairsOk := by
  unfold State.readClears
  repeat' split
  case isFalse.isFalse.isTrue => exact s.mirrorClear_pairsOk _
  all_goals rfl

theorem State.barRead_pairsOk (p a len : Nat) (s : State) : (s.barRead p a len).2.pairsOk = s.pairsOk := by
  unfold State.barRead
  split
  · split
    · rfl
    · exact State.pairsOk_congr (State.cpu_of_outside (P := [.pantry]) (by simp) (by simp))
  · split
    · rfl
    · split
      · exact (State.readClears_pairsOk _ _).trans (State.readClears_pairsOk _ _)
      · exact State.readClears_pairsOk _ _

theorem pairsKept_lockstepMismatch (t : Nat) (pair : BitVec 1) {s : State} (hs : s.pairsOk = true) :
    PairsKept (execLockstepMismatch t pair s) := pairsKept_out (State.halt_pairsOk _ hs)

theorem pairsKept_standbySelftest (t : Nat) (ok : Bool) {s : State} (hs : s.pairsOk = true) : PairsKept
    (execStandbySelftest t ok s) := by
  refine pairsKept_out ?_
  repeat' split
  · exact hs
  · exact State.halt_pairsOk 0 hs
  · exact State.halt_pairsOk 1 hs
  · exact hs

theorem State.setPair_pairsOk (k : Nat) (x : PairState) (hx : x ≠ .serving) {s : State} (hs : s.pairsOk = true) :
    ({ s with cpu := s.cpu.setPair k x } : State).pairsOk = true := by
  unfold State.pairsOk Cpu.setPair at *
  split <;> simp_all

/-- A pair that a restart brings back serves only where no pair does. -/
theorem pairsKept_pairRestartDone (t : Nat) (pair : BitVec 1) (ok : Bool) {s : State} (hs : s.pairsOk = true) :
    PairsKept (execPairRestartDone t pair ok s) := by
  unfold execPairRestartDone
  dsimp only
  split
  · refine pairsKept_out ?_
    repeat' split
    · exact State.setPair_pairsOk _ _ (by decide) hs
    · exact State.setPair_pairsOk _ _ (by decide) hs
    · next hserved =>
      simp only [State.served, Bool.not_eq_true, Bool.or_eq_false_iff, State.atTime_cpu] at hserved
      obtain ⟨h0, h1⟩ := hserved
      have hk := pair.isLt
      simp only [State.pairsOk, Cpu.setPair, State.atTime_cpu]
      split
      · next hk0 => simp [hk0, beq_eq_false_iff_ne.1 h1]
      · have hk1 : pair.toNat = 1 := by omega
        simpa [hk1] using h0
  · exact pairsKept_out hs

theorem pairsKept_bootImageVerified (t : Nat) (hdr : List Byte) (sigOk : Bool) (bodyHash : BitVec 256) {s : State}
    (hs : s.pairsOk = true) :
    PairsKept (execBootImageVerified t hdr sigOk bodyHash s) := by
  unfold execBootImageVerified
  dsimp only
  repeat' split
  · exact pairsKept_out hs
  · exact pairsKept_out rfl
  · exact pairsKept_out hs
  · exact pairsKept_out hs

theorem exec_pairsKept (i : Instr) {s : State} (hs : s.pairsOk = true) : PairsKept (exec i s) := by
  cases hmail : hdrOf i with
  | some h =>
    obtain ⟨u, hu, hout⟩ := exec_outside hmail s
    exact ⟨u, hu, (State.pairsOk_congr (State.cpu_of_outside (cpu_notMem_changesOf hmail) hout)).trans hs⟩
  | none =>
    cases i
    case lockstepMismatch => exact pairsKept_lockstepMismatch _ _ hs
    case standbySelftest => exact pairsKept_standbySelftest _ _ hs
    case pairRestartDone => exact pairsKept_pairRestartDone _ _ _ hs
    case bootImageVerified => exact pairsKept_bootImageVerified _ _ _ _ hs
    case rcFieldRead => exact pairsKept_out ((State.barRead_pairsOk _ _ _ _).trans hs)
    case powerOnReset | porstNAssert | sysrstNAssert | coreBrownout | sysclkLoss => exact pairsKept_out rfl
    case devResetExpiry | trivetSecurityReset =>
      refine pairsKept_out ?_
      split
      · rfl
      · exact hs
    case
      dmaBurstDone | dmaQueueData | dramReadReturn | dramScrubStep | bar2Write | lampTestPulse | refDecodeDone |
      stitchedLineComplete | modeTransitionDone | scrubComplete | selftestTestDone | thermSample | dramWipeDone | encEdge |
      generatorPeriod | interpTrigger | pendingTriggerIssue | uzsLineStart | uzsFrameRx | simmerRefill | trivetRequestDone |
      norWriteDone | nvLineProgramDone | nvWriteWaitTimeout | mbDoorbell | mbSweep | completionPush | motRampTick |
      registerWrite | afeFgCalDone =>
      exact State.Leaves.pairsKept (P := Part.otherThan [.cpu]) (by simp) (by simp [exec]) hs
    all_goals cases hmail
    all_goals exact State.Leaves.pairsKept (P := Part.otherThan [.mem, .cpu]) (by simp) (by simp [exec]) hs

/-- Settles O58. -/
theorem stepKeepsOnePairServing : Obligations.StepKeepsOnePairServing := by
  intro s t hs ht
  unfold step at ht
  split at ht
  · rwa [← Host.Outcome.next.inj ht]
  · next c rest _ =>
    obtain ⟨u, hu, hkept⟩ := exec_pairsKept c (s := { s with pending := rest }) hs
    rwa [Host.Outcome.next.inj (ht.symm.trans hu)]

end Sys2Proof.Machine
end

section
/-! PROOFS. The two Stockpot pairs: halts, restarts, the self-test of the standby and the heartbeat (R551, R623 to R625). -/

namespace Sys2Proof.Machine

namespace Cpu

variable (k : Nat) (p : PairState) (c : Cpu)

@[simp] theorem pair_setPair_self : (c.setPair k p).pair k = p := by
  unfold setPair pair
  split <;> rfl

/-- The pair opposite to `k` is pair `1 - k`. -/
@[simp] theorem pair_setPair_opposite : (c.setPair (1 - k) p).pair k = c.pair k := by
  obtain rfl | hk := Nat.eq_zero_or_pos k
  · rfl
  · have hopposite : 1 - k = 0 := by omega
    simp [setPair, pair, hopposite, Nat.ne_of_gt hk]

@[simp] theorem halts_setPair (j : Nat) : (c.setPair j p).halts k = c.halts k := by
  unfold setPair halts
  (repeat' split) <;> rfl

@[simp] theorem failovers_setPair : (c.setPair k p).failovers = c.failovers := by
  unfold setPair
  split <;> rfl

@[simp] theorem failovers_countHalt : (c.countHalt k).failovers = c.failovers := by
  unfold countHalt
  split <;> rfl

@[simp] theorem halts_countHalt : (c.countHalt k).halts k = c.halts k + 1 := by
  unfold countHalt halts
  split <;> rfl

@[simp] theorem pair_countHalt (j : Nat) : (c.countHalt k).pair j = c.pair j := by
  unfold countHalt pair
  (repeat' split) <;> rfl

end Cpu

section
variable {k : Nat} {s : State}

/-- A halt does nothing to a pair that is not in service (R624). -/
theorem State.halt_of_outOfService (h : (s.cpu.pair k).inService = false) : s.halt k = s := by
  simp [State.halt, h]

/-- What a pair that halts becomes: the fourth halt leaves it out of service (R624). -/
def Cpu.afterHalt (k : Nat) (c : Cpu) : PairState := if 4 ≤ c.halts k + 1 then .out else .restarting

theorem Cpu.afterHalt_eq (k : Nat) (c : Cpu) : c.afterHalt k = if c.halts k < 3 then .restarting else .out := by
  simp only [Cpu.afterHalt]
  split <;> split <;> simp_all
  omega

/-- A halt where the other pair does not take over. -/
theorem State.halt_alone (h : (s.cpu.pair k).inService = true) (hn : ¬ (s.cpu.pair k = .serving ∧ s.cpu.pair (1 - k) = .standby)) :
    (s.halt k).cpu = (s.cpu.countHalt k).setPair k (s.cpu.afterHalt k) := by
  simp [State.halt, h, hn, Cpu.afterHalt]

/-- A halt of the serving pair where the other is the standby, which then serves (R623). -/
theorem State.halt_failover (hk : s.cpu.pair k = .serving) (ho : s.cpu.pair (1 - k) = .standby) :
    s.halt k = State.pulse 5 { s with cpu := { ((s.cpu.countHalt k).setPair k (s.cpu.afterHalt k)).setPair (1 - k) .serving with
      serving := 1 - k, failovers := satAdd 0xFFFF s.cpu.failovers 1 } } := by
  simp [State.halt, hk, ho, Cpu.afterHalt, PairState.inService]

/-- The pair that halts, and its count. -/
theorem State.halt_pair (h : (s.cpu.pair k).inService = true) :
    (s.halt k).cpu.pair k = s.cpu.afterHalt k ∧ (s.halt k).cpu.halts k = s.cpu.halts k + 1 := by
  by_cases hn : s.cpu.pair k = .serving ∧ s.cpu.pair (1 - k) = .standby
  · rw [State.halt_failover hn.1 hn.2, State.pulse_cpu]
    constructor
    · exact (Cpu.pair_setPair_opposite ..).trans (Cpu.pair_setPair_self ..)
    · exact (Cpu.halts_setPair ..).trans ((Cpu.halts_setPair ..).trans (Cpu.halts_countHalt ..))
  · rw [State.halt_alone h hn]
    simp

end

theorem lockstepMismatch_next (tm : Nat) (pair : BitVec 1) (s : State) :
    exec (.lockstepMismatch tm pair) s = .next ((s.atTime tm).halt pair.toNat).settle := rfl

theorem pairRestartDone_next {pair : BitVec 1} {s : State} (tm : Nat) (ok : Bool) (h : s.cpu.pair pair.toNat = .restarting) :
    exec (.pairRestartDone tm pair ok) s = .next (State.settle (if !ok then { s.atTime tm with cpu := s.cpu.setPair pair.toNat .out }
      else if s.served then { s.atTime tm with cpu := s.cpu.setPair pair.toNat .standby }
      else { s.atTime tm with cpu := { s.cpu.setPair pair.toNat .serving with serving := pair.toNat } })) := by
  show execPairRestartDone tm pair ok s = _
  unfold execPairRestartDone
  rw [if_pos (by simp [h])]
  rfl

theorem standbySelftest_next {s : State} (tm : Nat) (hm : s.mode.mode ≠ .boot) :
    exec (.standbySelftest tm false) s = .next (State.settle (if s.cpu.pair0 == .standby then (s.atTime tm).halt 0
      else if s.cpu.pair1 == .standby then (s.atTime tm).halt 1 else s.atTime tm)) := by
  show execStandbySelftest tm false s = _
  simp [execStandbySelftest, State.out, hm]

theorem State.settle_beats (s : State) : s.settle.host.beat = s.host.beat ∧ s.settle.host.beatBy = s.host.beatBy := by
  obtain ⟨-, -, -, hbeat, hby⟩ := (State.frame_iff (P := [])).2 s.outside_settle .host (by simp)
  exact ⟨hbeat, hby⟩

theorem heartbeatTick_next (tm : Nat) (s : State) :
    exec (.heartbeatTick tm) s = .next (State.settle (if s.served && !(s.mode.mode == .boot) then
      { s.atTime tm with host := { (s.atTime tm).host with beat := s.host.beat + 1, beatBy := s.cpu.serving } } else s.atTime tm)) := rfl

/-- Settles O32: a halt of a pair is counted, a standby takes over, and a restart brings a pair back. -/
theorem pairEventsComplete : Obligations.PairEventsComplete := by
  intro tm s
  refine ⟨fun h0 h1 hall => ?_, fun h1 h0 hall => ?_, fun pair hin => ?_, fun pair hout => ?_, fun pair hre => ⟨?_, ?_⟩,
    fun pair ok hre => ?_, fun hm h0 h1 hall => ?_, fun hm h0 hall => ?_, ⟨_, rfl, by simp⟩, fun hs hm => ?_, fun hs => ?_⟩
  · have hhalt := State.halt_failover (k := 0) (s := s.atTime tm) h0 h1
    refine ⟨_, lockstepMismatch_next tm 0 s, ?_⟩
    rw [show (0 : BitVec 1).toNat = 0 from rfl, hhalt]
    have hrest : s.cpu.afterHalt 0 = .restarting := (Cpu.afterHalt_eq ..).trans (if_pos hall)
    rw [State.settle_cpu, State.pulse_cpu, State.atTime_cpu, hrest]
    exact ⟨rfl, rfl, rfl, rfl, fun hm => State.settle_latch_mono (State.pulse_latch (by decide) hm)⟩
  · have hhalt := State.halt_failover (k := 1) (s := s.atTime tm) h1 h0
    refine ⟨_, lockstepMismatch_next tm 1 s, ?_⟩
    rw [show (1 : BitVec 1).toNat = 1 from rfl, hhalt]
    have hrest : s.cpu.afterHalt 1 = .restarting := (Cpu.afterHalt_eq ..).trans (if_pos hall)
    rw [State.settle_cpu, State.pulse_cpu, State.atTime_cpu, hrest]
    exact ⟨rfl, rfl, rfl⟩
  · obtain ⟨hpair, hcount⟩ := State.halt_pair (k := pair.toNat) (s := s.atTime tm) hin
    refine ⟨_, lockstepMismatch_next tm pair s, ?_⟩
    rw [State.settle_cpu, hpair, hcount, Cpu.afterHalt_eq]
    exact ⟨rfl, rfl⟩
  · refine ⟨_, lockstepMismatch_next tm pair s, ?_⟩
    rw [State.halt_of_outOfService (by simpa using hout)]
    simp
  · refine ⟨_, pairRestartDone_next tm false hre, ?_⟩
    simp
  · refine ⟨_, pairRestartDone_next tm true hre, ?_, ?_⟩
    · cases hs : s.served
      · rw [State.settle_cpu]
        exact Cpu.pair_setPair_self pair.toNat .serving s.cpu
      · simp
    · intro hs
      simp [hs]
  · refine ⟨(s.atTime tm).settle, ?_, by simp⟩
    show execPairRestartDone tm pair ok s = _
    unfold execPairRestartDone
    rw [if_neg (by simpa using hre)]
    rfl
  · have hhalt := State.halt_alone (k := 1) (s := s.atTime tm) (by simp [Cpu.pair, h1, PairState.inService]) (by simp [Cpu.pair, h1])
    refine ⟨_, standbySelftest_next tm hm, ?_⟩
    rw [if_neg (by simp [h0]), if_pos (by simp [h1]), State.settle_cpu, hhalt]
    have hrest : s.cpu.afterHalt 1 = .restarting := (Cpu.afterHalt_eq ..).trans (if_pos hall)
    simp only [State.atTime_cpu, hrest]
    exact ⟨rfl, rfl, rfl⟩
  · have hhalt := State.halt_alone (k := 0) (s := s.atTime tm) (by simp [Cpu.pair, h0, PairState.inService]) (by simp [Cpu.pair, h0])
    refine ⟨_, standbySelftest_next tm hm, ?_⟩
    rw [if_pos (by simp [h0]), State.settle_cpu, hhalt]
    have hrest : s.cpu.afterHalt 0 = .restarting := (Cpu.afterHalt_eq ..).trans (if_pos hall)
    simp only [State.atTime_cpu, hrest]
    exact ⟨rfl, rfl, rfl⟩
  · refine ⟨_, heartbeatTick_next tm s, ?_⟩
    rw [if_pos (by simp [hs, hm])]
    exact State.settle_beats _
  · refine ⟨_, heartbeatTick_next tm s, ?_⟩
    rw [if_neg (by simp [hs])]
    exact State.settle_beats _

end Sys2Proof.Machine
end

section
/-! PROOFS. The two diagnostic commands (R632, R633). -/

namespace Sys2Proof.Machine

section
variable {h : Hdr} {s : State}

/-! ## DIAG_PATTERN (R632) -/


theorem diagPattern_counts {pattern : BitVec 8} {lines : BitVec 32} (ha : s.accepts h [.d] = true) (hp : h.plen = 0)
    (hpat : pattern.toNat ≤ 3) (hfit : lines.toNat * s.tMin ≤ 10000000000) :
    ∃ t d, exec (.diagPattern h pattern lines) s = .next t ∧ t.Done h 0x0F02 (le 4 d) ∧ (lines = 0 → d = 0) ∧ t.lines = s.lines ∧
      t.ring = s.ring := by
  have hruns : (s.taken h 0x0F02).Runs h 0x0F02 := s.taken_runs ..
  have hfit' : ¬ 10000000000 < lines.toNat * (s.taken h 0x0F02).tMin := Nat.not_lt.2 hfit
  by_cases hn : lines = 0
  · refine ⟨_, 0, exec_of_ending_body (u := s.taken h 0x0F02) rfl ha hp (decide_eq_true hpat) (if_pos hn),
      (hruns.finish_ended ..).settle, fun _ => rfl, ?_, ?_⟩
    · simp only [State.settle_lines, State.done_lines]; rfl
    · simp only [State.settle_ring, State.done_ring]; rfl
  · refine ⟨_, ((s.taken h 0x0F02).free 32).1, exec_of_ending_body (u := ((s.taken h 0x0F02).free 32).2) rfl ha hp
      (decide_eq_true hpat) ((if_neg hn).trans (if_neg hfit')), ?_, fun h0 => absurd h0 hn, ?_, ?_⟩
    · exact (State.Runs.finish_ended (s := ((s.taken h 0x0F02).free 32).2) hruns ..).settle
    · simp only [State.settle_lines, State.done_lines]; rfl
    · simp only [State.settle_ring, State.done_ring]; rfl

/-! ## DIAG_SELFTEST (R633) -/

theorem diagSelftest_ends {tests : BitVec 32} (ha : s.accepts h [.d] = true) (hp : h.plen = 0) (ht : tests.toNat < 2 ^ 15)
    (hnone : setBits 15 tests.toNat = []) :
    ∃ t, exec (.diagSelftest h tests) s = .next t ∧ t.Done h 0x0F03 (le 4 0) := by
  refine ⟨_, exec_of_ending_body (u := s.taken h 0x0F03) (data := le 4 0) rfl ha hp (decide_eq_true ht) ?_,
    ((s.taken_runs ..).finish_ended ..).settle⟩
  simp only [hnone]

theorem diagSelftest_starts {tests : BitVec 32} {k : Nat} {ks : List Nat} (ha : s.accepts h [.d] = true) (hp : h.plen = 0)
    (ht : tests.toNat < 2 ^ 15) (hidle : s.diag.selfTest = none) (hk : setBits 15 tests.toNat = k :: ks) :
    ∃ t, exec (.diagSelftest h tests) s = .next t ∧ t.Runs h 0x0F03 ∧
      t.diag.selfTest = some { ctx := h.ctx.toNat, cur := k, left := ks, failed := [], aborted := false } := by
  have hidle' : (s.taken h 0x0F03).diag.selfTest = none := hidle
  refine ⟨_, exec_of_going_body rfl ha hp (decide_eq_true ht) (u := { s.taken h 0x0F03 with diag :=
    { (s.taken h 0x0F03).diag with selfTest := some { ctx := h.ctx.toNat, cur := k, left := ks, failed := [], aborted := false } } }) ?_,
    State.Runs.settle (s.taken_runs h 0x0F03), ?_⟩
  · simp only [hk, hidle', Option.isSome_none, Bool.false_eq_true, if_false]
  · rw [State.settle_diag]

end

/-- Settles O23, one command after the other. DIAG_PATTERN tests its number of lines in the order of log entry 145. -/
theorem diagnosticsComplete : Obligations.DiagnosticsComplete := fun _ _ ha hp =>
  ⟨fun _ _ hpat hfit => diagPattern_counts ha hp hpat hfit,
    fun _ ht hidle => ⟨fun hnone => diagSelftest_ends ha hp ht hnone, fun _ _ hk => diagSelftest_starts ha hp ht hidle hk⟩⟩

end Sys2Proof.Machine
end

section
/-! PROOFS. A monitor state that no rule reaches breaks one clause on the mains reference (R411). -/

namespace Sys2Proof.Machine

/-- Both converters run and idle between the shared conversion and the loop boundary. The nominal mains period is chosen and yet not
valid. -/
def unsettledMains : State :=
  { State.reset with madc := { State.reset.madc with
      convA := { State.reset.madc.convA with state := .sar, work := .none },
      convB := { State.reset.madc.convB with state := .sar, work := .none },
      mainsSrc := 0, mainsOk := false, phase := 1, nextCfg := none } }

theorem mainsRefCrossing_next (tm ticks : Nat) (s : State) (hsrc : s.madc.mainsSrc ≠ 2) :
    exec (.mainsRefCrossing tm ticks) s = .next ((s.atTime tm).kickConvs).settle := by
  show execMainsRefCrossing tm ticks s = _
  unfold execMainsRefCrossing
  simp only [State.setMadc, State.atTime_madc, bne_iff_ne, ne_eq, hsrc, not_false_eq_true, if_true]
  rfl

/-- Refutes O44: the crossing wakes the idle converters, they pass the loop boundary, and there the nominal period becomes valid. -/
theorem not_monitorEventsComplete : ¬ Obligations.MonitorEventsComplete := by
  intro h
  obtain ⟨-, -, -, -, hmains⟩ := h 0 0 (unsettledMains.conv 0) unsettledMains rfl
  obtain ⟨t, ht, -, hok⟩ := (hmains 0 _ rfl).2 (by decide) rfl
  rw [mainsRefCrossing_next _ _ _ (by decide)] at ht
  have hvalid : t.madc.mainsOk = true := by
    rw [← Host.Outcome.next.inj ht, State.settle_madc]
    decide +kernel
  rw [hvalid] at hok
  exact absurd hok (by decide)

end Sys2Proof.Machine
end

section
/-! PROOFS. The commands of the monitor converters (R422, R425, R426). -/

namespace Sys2Proof.Machine

/-! ## Idle converters look for work -/

theorem State.conv_setConv (c d : Nat) (f : Conv → Conv) (s : State) :
    (s.setConv c f).conv d = if (c = 0 ↔ d = 0) then f (s.conv d) else s.conv d := by
  unfold State.setConv State.conv
  split <;> split <;> simp_all

/-- An injected conversion without the converter that it runs on. -/
def Inject.unplaced (i : Inject) : Inject := { i with onConv := none }

/-- The commands that the converters work for, and which converters are in TEST. -/
def Madc.requests (m : Madc) : Option Nat × Option (Nat × Nat) × Option Inject × Bool × Bool :=
  (m.calCtx, m.testCtx, m.inj.map Inject.unplaced, m.convA.state == .test, m.convB.state == .test)

/-- `t` works for the same commands as `s`. -/
def State.KeepsRequests (s t : State) : Prop := t.madc.requests = s.madc.requests

namespace State.KeepsRequests

variable {s t u : State}

theorem refl (s : State) : s.KeepsRequests s := rfl

theorem trans (h : s.KeepsRequests t) (k : t.KeepsRequests u) : s.KeepsRequests u := Eq.trans k h

theorem foldl {f : State → Nat → State} (hf : ∀ (s : State) (k : Nat), s.KeepsRequests (f s k)) (l : List Nat) (s : State) :
    s.KeepsRequests (l.foldl f s) :=
  List.foldlRecOn l f (refl s) fun t ht k _ => ht.trans (hf t k)

theorem ite {c : Prop} [Decidable c] (ht : s.KeepsRequests t) (hu : s.KeepsRequests u) : s.KeepsRequests (if c then t else u) := by
  split
  · exact ht
  · exact hu

theorem of_setMadc {f : Madc → Madc} (hf : (f s.madc).requests = s.madc.requests) : s.KeepsRequests (s.setMadc f) := hf

/-- A change of a converter that neither enters nor leaves TEST. -/
theorem of_setConv {c : Nat} {f : Conv → Conv} (hf : ((f (s.conv c)).state == .test) = ((s.conv c).state == .test)) :
    s.KeepsRequests (s.setConv c f) := by
  unfold State.conv at hf
  unfold State.setConv State.KeepsRequests Madc.requests
  split
  · rw [if_pos (by assumption)] at hf
    rw [hf]
  · rw [if_neg (by assumption)] at hf
    rw [hf]

theorem of_startConv (c : Nat) (w : ConvWork) (d : Nat) : s.KeepsRequests (s.startConv c w d) := of_setConv rfl

theorem of_takeEntry (c : Nat) : s.KeepsRequests (s.takeEntry c) := by
  unfold State.takeEntry
  split
  · split
    · exact .trans (t := s.setMadc _) (of_setMadc rfl) (of_startConv ..)
    · exact refl s
  · exact refl s

/-- A converter that comes to NORMAL at a loop boundary comes from SAR (R412). -/
theorem of_loopBoundary : s.KeepsRequests s.loopBoundary := by
  have hup : ∀ k : Conv, ((if k.toNormal && k.state == .sar then { k with state := .normal, toNormal := false } else k).state == .test) =
      (k.state == .test) := by
    intro k
    split
    · next hk =>
      rw [Bool.and_eq_true, beq_iff_eq] at hk
      rw [hk.2]
      rfl
    · rfl
  unfold State.KeepsRequests Madc.requests
  exact congrArg₂ (fun a b => (s.madc.calCtx, s.madc.testCtx, s.madc.inj.map Inject.unplaced, a, b)) (hup _) (hup _)

theorem of_tryShared : s.KeepsRequests s.tryShared := by
  unfold State.tryShared
  refine .ite (.trans (t := s.setMadc fun m => { m with phase := 1 }) (of_setMadc rfl) ?_) (refl s)
  exact foldl (fun t c => .trans (t := t.setConv c fun k => { k with sharedIs := none }) (of_setConv rfl) (of_startConv ..)) _ _

/-- A calibration takes a converter that is not in TEST. -/
theorem of_startCal {c : Nat} {w : ConvWork} (hc : (s.conv c).state ≠ .test) : s.KeepsRequests (s.startCal c w) := by
  unfold State.startCal
  refine .trans (t := s.setMadc _) (of_setMadc rfl) (of_setConv ?_)
  exact (beq_eq_false_iff_ne.2 hc).symm

/-- The next work of a converter that is not in TEST. -/
theorem of_convNext {c : Nat} {cont : ConvWork} {b : Bool} (hc : (s.conv c).state ≠ .test) :
    s.KeepsRequests (s.convNext c cont b) := by
  have hc' : ((s.setConv c fun k => { k with work := .none }).conv c).state ≠ .test := by
    rw [State.conv_setConv, if_pos Iff.rfl]; exact hc
  unfold State.convNext
  refine .trans (t := s.setConv c fun k => { k with work := .none }) (of_setConv rfl) (.ite ?_ (.ite ?_ (.ite ?_ ?_)))
  · refine .trans (of_setMadc ?_) (.trans (t := State.setConv c (fun k => { k with resume := cont }) _) (of_setConv rfl) (of_startConv ..))
    unfold Madc.requests
    rw [Option.map_map]
    rfl
  · exact of_startCal hc'
  · exact of_startConv ..
  · refine (of_takeEntry c).trans (.trans ?_ of_tryShared)
    exact .ite (of_loopBoundary.trans (foldl (fun _ d => of_takeEntry d) _ _)) (refl _)

theorem of_kickConvs : s.KeepsRequests s.kickConvs := by
  refine foldl (fun t c => ?_) _ _
  split
  · next hruns =>
    refine of_convNext fun ht => ?_
    simp [Conv.runs, ht] at hruns
  · exact refl t

theorem calCtx (h : s.KeepsRequests t) : t.madc.calCtx = s.madc.calCtx := congrArg (·.1) h

theorem testCtx (h : s.KeepsRequests t) : t.madc.testCtx = s.madc.testCtx := congrArg (·.2.1) h

theorem inj (h : s.KeepsRequests t) : t.madc.inj.map Inject.unplaced = s.madc.inj.map Inject.unplaced := congrArg (·.2.2.1) h

theorem test (h : s.KeepsRequests t) {c : Nat} (hc : (s.conv c).state = .test) : (t.conv c).state = .test := by
  have ha : (t.madc.convA.state == .test) = (s.madc.convA.state == .test) := congrArg (·.2.2.2.1) h
  have hb : (t.madc.convB.state == .test) = (s.madc.convB.state == .test) := congrArg (·.2.2.2.2) h
  unfold State.conv at hc ⊢
  split at hc
  · next hc0 =>
    rw [hc] at ha
    rw [if_pos hc0]
    exact beq_iff_eq.1 ha
  · next hc0 =>
    rw [hc] at hb
    rw [if_neg hc0]
    exact beq_iff_eq.1 hb

end State.KeepsRequests

/-- The work of the converters leaves what a context shows. -/
theorem State.ConvStep.runs {h : Hdr} {op : Nat} {s t : State} (hs : s.ConvStep t) (hr : s.Runs h op) : t.Runs h op := by
  obtain ⟨_, _, rfl⟩ := hs
  exact hr

section
variable {h : Hdr} {s : State}

/-! ## MADC_CAL (R422) -/

theorem madcCal_starts (ha : s.accepts h [.s] = true) (hp : h.plen = 0) (hcal : s.madc.calCtx = none) (hconvs : s.convs ≠ []) :
    ∃ t, exec (.madcCal h) s = .next t ∧ t.Runs h 0x0A03 ∧ t.madc.calCtx = some h.ctx.toNat := by
  have hcal' : (s.taken h 0x0A03).madc.calCtx = none := hcal
  have hconvs' : (s.taken h 0x0A03).convs.isEmpty = false := List.isEmpty_eq_false_iff.2 hconvs
  let u := ((s.taken h 0x0A03).setMadc fun m => { m with calCtx := some h.ctx.toNat, calFailed := 0 }).calRequest
  have he : exec (.madcCal h) s = .next u.kickConvs.settle := by
    refine exec_of_going_body rfl ha hp rfl ?_
    simp only [hcal', hconvs', Option.isSome_none, Bool.false_eq_true, if_false]
    rfl
  have hruns : u.Runs h 0x0A03 := s.taken_runs h 0x0A03
  have hctx : u.kickConvs.madc.calCtx = some h.ctx.toNat := State.KeepsRequests.of_kickConvs.calCtx
  exact ⟨_, he, (State.ConvStep.of_kickConvs.runs hruns).settle, by rw [State.settle_madc, hctx]⟩

/-! ## MADC_INJECT (R426) -/

/-- The conversion that MADC_INJECT asks for. -/
def Inject.asked (ctx : Nat) (ch kind settle set : BitVec 8) : Inject :=
  { ctx := ctx, ch := ch.toNat, sar := kind = 1, settle := settle.toNat, set := set.toNat, onConv := none }

/-- A converter in service has not failed. -/
theorem State.bothFailed_of_convs (hconvs : s.convs ≠ []) : s.bothFailed = false := by
  by_contra hb
  simp only [State.bothFailed, Bool.not_eq_false, Bool.and_eq_true, beq_iff_eq] at hb
  exact hconvs (by simp [State.convs, Conv.inService, Conv.runs, hb.1, hb.2])

theorem madcInject_starts {ch kind settle set : BitVec 8} (ha : s.accepts h [.c] = true) (hp : h.plen = 0) (hkind : kind.toNat ≤ 1)
    (hset : set.toNat ≤ 63) (hch : s.madcChan ch.toNat = cOk) (hinj : s.madc.inj = none) (hconvs : s.convs ≠ []) :
    ∃ t i, exec (.madcInject h ch kind settle set) s = .next t ∧ t.Runs h 0x0A04 ∧ t.madc.inj = some i ∧ i.ctx = h.ctx.toNat ∧
      i.ch = ch.toNat ∧ i.sar = (kind == 1) ∧ i.set = set.toNat := by
  let u := (s.taken h 0x0A04).setMadc fun m => { m with inj := some (.asked h.ctx.toNat ch kind settle set) }
  have hinj' : (s.taken h 0x0A04).madc.inj = none := hinj
  have hfailed : (s.taken h 0x0A04).bothFailed = false := State.bothFailed_of_convs hconvs
  have hch' : (s.taken h 0x0A04).madcChan ch.toNat = cOk := hch
  have he : exec (.madcInject h ch kind settle set) s = .next u.kickConvs.settle := by
    refine exec_of_going_body rfl ha hp (by simp [hkind, hset, hch, cOk, cRange]) ?_
    simp only [hinj', hfailed, hch', Option.isSome_none, Bool.false_eq_true, if_false]
    exact if_neg (by decide)
  have hkeeps : u.kickConvs.madc.inj.map Inject.unplaced = some (.asked h.ctx.toNat ch kind settle set) :=
    State.KeepsRequests.of_kickConvs.inj
  obtain ⟨i, hi, hask⟩ := Option.map_eq_some_iff.1 hkeeps
  have hruns : u.Runs h 0x0A04 := s.taken_runs h 0x0A04
  exact ⟨_, i, he, (State.ConvStep.of_kickConvs.runs hruns).settle, by rw [State.settle_madc, hi], congrArg Inject.ctx hask,
    congrArg Inject.ch hask, congrArg Inject.sar hask, congrArg Inject.set hask⟩

end

/-! ## MADC_TEST (R425) -/

/-- A converter at the start of its test. -/
def Conv.tested (k : Conv) : Conv :=
  { k with state := .test, failed := k.failed || (ConvState.test == .failed), work := .none, resume := .none, discard := 0,
           toNormal := false }

/-- What leaving service does to the calibrations and the injected conversion on a converter. -/
def Madc.without (c : Nat) (m : Madc) : Madc :=
  { m with calLeft := m.calLeft.filter (· != c), calRun := if m.calRun = some c then none else m.calRun,
           inj := m.inj.map fun i => if i.onConv = some c then { i with onConv := none } else i }

section
variable (c : Nat) (s : State)

/-- A converter in TEST has not failed, so no injected conversion is lost. -/
theorem State.convOut_test : s.convOut c .test = (s.setConv c Conv.tested).setMadc (Madc.without c) := by
  have hstate : (((s.setConv c Conv.tested).setMadc (Madc.without c)).conv c).state = .test :=
    congrArg Conv.state ((State.conv_setConv c c _ s).trans (if_pos Iff.rfl))
  have hnot : ((s.setConv c Conv.tested).setMadc (Madc.without c)).bothFailed = false := by
    by_cases hc : c = 0
    · rw [hc] at hstate ⊢
      rw [State.bothFailed, hstate]
      rfl
    · have hone : ∀ t : State, t.conv c = t.conv 1 := fun t => if_neg hc
      rw [hone] at hstate
      rw [State.bothFailed, hstate, Bool.and_comm]
      rfl
  have hlost : ((s.setConv c Conv.tested).setMadc (Madc.without c)).injectLost = (s.setConv c Conv.tested).setMadc (Madc.without c) := by
    unfold State.injectLost
    split
    · rw [hnot, if_neg (by decide)]
    · rfl
  exact hlost

theorem State.setConv_calCtx (f : Conv → Conv) : (s.setConv c f).madc.calCtx = s.madc.calCtx := by
  unfold State.setConv
  split <;> rfl

/-- A converter `c` begins its test for a context. -/
def State.testBegun (ctx : Nat) : State :=
  ((((s.convOut c .test).setConv c fun k => { k with testBad := false }).setMadc
    fun m => { m with testCtx := some (ctx, c) }).startConv c (.test 0) 0)

variable (ctx : Nat)

theorem State.testBegun_convStep : s.ConvStep (s.testBegun c ctx) := by
  unfold State.testBegun
  rw [State.convOut_test]
  exact ((((State.ConvStep.of_setConv ..).trans (.of_setMadc _)).trans (.of_setConv ..)).trans (.of_setMadc _)).trans (.of_startConv ..)

theorem State.testBegun_calCtx : (s.testBegun c ctx).madc.calCtx = s.madc.calCtx := by
  have hout : (s.convOut c .test).madc.calCtx = s.madc.calCtx := by
    rw [State.convOut_test]
    exact State.setConv_calCtx ..
  exact (State.setConv_calCtx ..).trans ((State.setConv_calCtx ..).trans hout)

theorem State.testBegun_testCtx : (s.testBegun c ctx).madc.testCtx = some (ctx, c) := by
  unfold State.testBegun State.startConv State.setConv
  split <;> rfl

theorem State.testBegun_state : ((s.testBegun c ctx).conv c).state = .test := by
  have hself : ∀ (f : Conv → Conv) (t : State), (t.setConv c f).conv c = f (t.conv c) := fun f t =>
    (State.conv_setConv c c f t).trans (if_pos Iff.rfl)
  unfold State.testBegun State.startConv
  rw [hself, State.convOut_test]
  show (State.conv c (State.setConv c _ _)).state = .test
  rw [hself]
  show (State.conv c (State.setConv c _ _)).state = .test
  rw [hself]
  rfl

end

section
variable {h : Hdr} {s : State}

/-- The end of MADC_CAL ends no other command. -/
theorem State.calDone_runs {op : Nat} (hr : s.Runs h op) (hn : s.madc.calCtx ≠ some h.ctx.toNat) :
    s.calDone.Runs h op := by
  unfold State.calDone
  split
  · next n hctx =>
    have hne : h.ctx.toNat ≠ n := fun e => hn (e ▸ hctx)
    split
    · dsimp only
      split
      · unfold State.Runs; rw [State.done, State.finish_ctx_ne _ _ _ _ hne]; exact hr
      · unfold State.Runs; rw [State.finish_ctx_ne _ _ _ _ hne]; exact hr
    · exact hr
  · exact hr

theorem State.calDone_keeps (s : State) : s.calDone.madc.testCtx = s.madc.testCtx ∧ ∀ c, s.calDone.conv c = s.conv c := by
  unfold State.calDone
  split
  · split
    · dsimp only
      split
      · exact ⟨by rw [State.done_madc]; rfl, fun c => by unfold State.conv; rw [State.done_madc]; rfl⟩
      · exact ⟨by rw [State.finish_madc]; rfl, fun c => by unfold State.conv; rw [State.finish_madc]; rfl⟩
    · exact ⟨rfl, fun _ => rfl⟩
  · exact ⟨rfl, fun _ => rfl⟩

theorem madcTest_starts {conv : BitVec 8} (ha : s.accepts h [.s] = true) (hp : h.plen = 0) (hconv : conv.toNat ≤ 1)
    (hfree : s.madc.testCtx = none) (hcal : s.madc.calCtx ≠ some h.ctx.toNat) :
    ∃ t, exec (.madcTest h conv) s = .next t ∧ t.Runs h 0x0A05 ∧ t.madc.testCtx = some (h.ctx.toNat, conv.toNat) ∧
      (t.conv conv.toNat).state = .test := by
  let u := (s.taken h 0x0A05).testBegun conv.toNat h.ctx.toNat
  have hfree' : (s.taken h 0x0A05).madc.testCtx = none := hfree
  have he : exec (.madcTest h conv) s = .next u.calDone.kickConvs.settle := by
    refine exec_of_going_body rfl ha hp (decide_eq_true hconv) ?_
    simp only [hfree', Option.isSome_none, Bool.false_eq_true, if_false]
    rfl
  have hu : u.Runs h 0x0A05 := (State.testBegun_convStep ..).runs (s.taken_runs ..)
  have hctx : u.madc.calCtx ≠ some h.ctx.toNat := by
    rw [show u.madc.calCtx = s.madc.calCtx from State.testBegun_calCtx ..]
    exact hcal
  obtain ⟨htest, hconvs⟩ := u.calDone_keeps
  have hstate : (u.calDone.conv conv.toNat).state = .test := (congrArg Conv.state (hconvs _)).trans (State.testBegun_state ..)
  refine ⟨_, he, (State.ConvStep.of_kickConvs.runs (State.calDone_runs hu hctx)).settle, ?_, ?_⟩
  · rw [State.settle_madc, State.KeepsRequests.of_kickConvs.testCtx, htest]
    exact State.testBegun_testCtx ..
  · unfold State.conv
    rw [State.settle_madc]
    exact State.KeepsRequests.of_kickConvs.test hstate

end

/-- Settles O19, one command after the other. -/
theorem monitorCommandsStart : Obligations.MonitorCommandsStart := fun _ _ hp =>
  ⟨fun ha hcal hconvs => madcCal_starts ha hp hcal hconvs,
    fun _ _ _ _ ha hkind hset hch hinj hconvs => madcInject_starts ha hp hkind hset hch hinj hconvs,
    fun _ ha hconv hfree hcal _ => madcTest_starts ha hp hconv hfree hcal⟩

end Sys2Proof.Machine
end

section
/-! PROOFS. The bindings of queues and DMA channels (R488, R509). -/

namespace Sys2Proof.Machine

section
variable {h : Hdr} {queue : BitVec 16} {s : State}

theorem qBind_sets {en flags : BitVec 8} {limit wm : BitVec 16} (ha : s.accepts h [.b] = true) (hp : h.plen = 0)
    (hq : isBindable queue.toNat = true) (hen : en.toNat ≤ 1) (hflags : flags.toNat < 8) (hbusy : s.queueBusy queue.toNat = false)
    (hempty : en = 0 → (s.q queue.toNat).cells = []) :
    ∃ t, exec (.qBind h queue en flags limit wm) s = .next t ∧ t.Done h 0x0D00 [] ∧
      t.q queue.toNat = { s.q queue.toNat with en := (en = 1), whole := flags.getLsbD 0, ngrp := flags.extractLsb' 1 2,
                                               limit := limit.toNat, wm := wm.toNat } := by
  let u := (s.taken h 0x0D00).setQ queue.toNat fun q => { q with
    en := en = 1, whole := flags.getLsbD 0, ngrp := flags.extractLsb' 1 2, limit := limit.toNat, wm := wm.toNat }
  have hbusy' : (s.taken h 0x0D00).queueBusy queue.toNat = false := hbusy
  have hcells : ¬ (en = 0 ∧ ((s.taken h 0x0D00).q queue.toNat).cells ≠ []) := fun ⟨h0, hne⟩ => hne (hempty h0)
  have he : exec (.qBind h queue en flags limit wm) s = .next (u.done h.ctx.toNat []).settle := by
    refine exec_of_ending_body rfl ha hp (by simp [hq, hen, hflags]) ?_
    dsimp only
    rw [hbusy', if_neg (by decide), if_neg (by simpa using hcells)]
  have hruns : u.Runs h 0x0D00 := s.taken_runs h 0x0D00
  refine ⟨_, he, (hruns.finish_ended ..).settle, ?_⟩
  unfold State.q
  rw [State.settle_pantry, State.done_pantry]
  exact State.q_setQ_self ..

/-- Q_FLUSH empties a queue and clears its latches and counts (R488). -/
def Queue.flushed (q : Queue) : Queue :=
  { q with cells := [], underrun := false, overflow := false, perr := false, lastCount := 0, drops := 0, lastWord := [], cycle := none,
           startCells := [], startUse := 0 }

/-- The count of free cells leaves the queues alone. -/
theorem State.q_flushQ_self (n : Nat) (s : State) : (s.flushQ n).q n = (s.q n).flushed := by
  have hfree : ∀ (k : Nat) (t : State), (t.freeCell k).q n = t.q n := fun _ _ => rfl
  unfold State.flushQ
  dsimp only
  rw [hfree]
  exact State.q_setQ_self ..

theorem qFlush_empties (ha : s.accepts h [.b] = true) (hp : h.plen = 0) (hq : isBindable queue.toNat = true ∨ qAccess queue.toNat = 1)
    (hbusy : s.queueBusy queue.toNat = false) :
    ∃ t, exec (.qFlush h queue) s = .next t ∧ t.Done h 0x0D01 (le 4 (s.q queue.toNat).cells.length) ∧
      (t.q queue.toNat).cells = [] ∧ (t.q queue.toNat).underrun = false ∧ (t.q queue.toNat).overflow = false ∧
      (t.q queue.toNat).perr = false ∧ (t.q queue.toNat).drops = 0 := by
  let u := (s.taken h 0x0D01).flushQ queue.toNat
  have hbusy' : (s.taken h 0x0D01).queueBusy queue.toNat = false := hbusy
  have he : exec (.qFlush h queue) s = .next (u.done h.ctx.toNat (le 4 (s.q queue.toNat).cells.length)).settle := by
    refine exec_of_ending_body rfl ha hp (by simpa using hq) ?_
    dsimp only
    rw [hbusy', if_neg (by decide)]
    rfl
  have hruns : u.Runs h 0x0D01 := s.taken_runs h 0x0D01
  have hflushed : (u.done h.ctx.toNat (le 4 (s.q queue.toNat).cells.length)).settle.q queue.toNat =
      (s.q queue.toNat).flushed := by
    refine Eq.trans ?_ (State.q_flushQ_self queue.toNat (s.taken h 0x0D01))
    unfold State.q
    rw [State.settle_pantry, State.done_pantry]
  refine ⟨_, he, (hruns.finish_ended ..).settle, ?_⟩
  rw [hflushed]
  exact ⟨rfl, rfl, rfl, rfl, rfl⟩

/-- The binding of a channel to a queue: the queue that it leaves loses its consumer, and the one that it takes has it (R509). -/
def State.rebound (c : Nat) (win q : Option Nat) (port : Nat) (s : State) : State :=
  let changed := (s.chan c).window != win || (s.chan c).queue != q || (s.chan c).port != port
  let s1 := match (s.chan c).queue with
    | some old => s.setQ old (fun x => { x with consumer := none })
    | none => s
  let s2 := match q with
    | some new => s1.setQ new (fun x => { x with consumer := some c })
    | none => s1
  s2.setChan c (fun x => { x with window := win, queue := q, port := port, carry := if changed then [] else x.carry })

/-- The carry bytes that a changed binding discards (R509). -/
def State.reboundLoss (c : Nat) (win q : Option Nat) (port : Nat) (s : State) : Nat :=
  let changed := (s.chan c).window != win || (s.chan c).queue != q || (s.chan c).port != port
  if changed then (s.chan c).carry.length else 0

variable {c port : Nat} {win q : Option Nat}

theorem State.rebound_runs {op : Nat} (hr : s.Runs h op) : (s.rebound c win q port).Runs h op := by
  have hhost : (s.rebound c win q port).host = s.host := by
    unfold State.rebound
    dsimp only
    cases (s.chan c).queue with
    | none => cases q <;> rfl
    | some old => cases q <;> rfl
  unfold State.Runs State.ctx
  rw [hhost]
  exact hr

theorem State.rebound_chan : ((s.rebound c win q port).chan c).window = win ∧ ((s.rebound c win q port).chan c).queue = q ∧
    ((s.rebound c win q port).chan c).port = port := by
  unfold State.rebound
  dsimp only
  rw [State.chan_setChan_self]
  exact ⟨rfl, rfl, rfl⟩

theorem State.rebound_consumer {n : Nat} : ((s.rebound c win (some n) port).q n).consumer = some c :=
  congrArg Queue.consumer (State.q_setQ_self ..)

/-- No other channel is bound to the queue. -/
theorem State.find?_bound_eq_none (hfree : ∀ n, q = some n → ∀ i, i < 64 → i ≠ c → (s.chan i).queue ≠ some n) :
    (List.range 64).find? (fun i => i != c && q.isSome && (s.chan i).queue == q) = none := by
  refine List.find?_eq_none.2 fun i hi => ?_
  cases q with
  | none => simp
  | some n =>
    have hne := hfree n rfl i (List.mem_range.1 hi)
    simpa [imp_iff_not_or] using hne

theorem dmaBind_binds {channel window port : BitVec 8} (ha : s.accepts h [.b] = true) (hp : h.plen = 0) (hchan : channel.toNat < 64)
    (hq : queue = 0xFFFF ∨ isBindable queue.toNat = true) (hport : port.toNat < 2) (hidle : (s.chan channel.toNat).state = .idle)
    (hwin : window = 0xFF ∨ (s.win window.toNat).isSome = true) (hsplit : port = 1 → s.host.split = true)
    (hfree : queue ≠ 0xFFFF → ∀ i, i < 64 → i ≠ channel.toNat → (s.chan i).queue ≠ some queue.toNat) :
    ∃ t d, exec (.dmaBind h channel window queue port) s = .next t ∧ t.Done h 0x0D02 d ∧
      (t.chan channel.toNat).window = (if window = 0xFF then none else some window.toNat) ∧
      (t.chan channel.toNat).queue = (if queue = 0xFFFF then none else some queue.toNat) ∧
      (t.chan channel.toNat).port = port.toNat ∧ (queue ≠ 0xFFFF → (t.q queue.toNat).consumer = some channel.toNat) := by
  let win := if window = 0xFF then none else some window.toNat
  let q := if queue = 0xFFFF then none else some queue.toNat
  let u := (s.taken h 0x0D02).rebound channel.toNat win q port.toNat
  have hport' : port = 0 ∨ port = 1 ∧ s.host.split = true := by
    obtain e | e : port = 0 ∨ port = 1 := by bv_omega
    · exact .inl e
    · exact .inr ⟨e, hsplit e⟩
  have hidle' : ((s.taken h 0x0D02).chan channel.toNat).state = .idle := hidle
  have hwin' : ¬ (win.isSome = true ∧ ((s.taken h 0x0D02).win window.toNat).isNone = true) := by
    rintro ⟨hw, hnone⟩
    obtain e | e := hwin
    · simp [win, e] at hw
    · rw [State.taken_win] at hnone
      simp [Option.isNone_iff_eq_none.1 hnone] at e
  have hnone : (List.range 64).find? (fun i => i != channel.toNat && q.isSome && ((s.taken h 0x0D02).chan i).queue == q) = none := by
    refine State.find?_bound_eq_none fun n hn => ?_
    by_cases e : queue = 0xFFFF
    · simp [q, e] at hn
    · rw [show n = queue.toNat from (Option.some.inj ((if_neg e).symm.trans hn)).symm]
      exact hfree e
  let d := le 1 ((s.taken h 0x0D02).reboundLoss channel.toNat win q port.toNat)
  have he : exec (.dmaBind h channel window queue port) s = .next (u.done h.ctx.toNat d).settle := by
    refine exec_of_ending_body rfl ha hp (by simpa [hchan] using ⟨hq, hport'⟩) ?_
    dsimp only
    rw [if_neg (by simp [hidle']), if_neg (by simpa [win] using hwin'), hnone]
    rfl
  have hchans : (u.done h.ctx.toNat d).settle.chan channel.toNat = u.chan channel.toNat := by
    unfold State.chan
    rw [State.settle_dma, State.done_dma]
  obtain ⟨hw, hqueue, hto⟩ : (u.chan channel.toNat).window = win ∧ (u.chan channel.toNat).queue = q ∧
    (u.chan channel.toNat).port = port.toNat := State.rebound_chan
  refine ⟨_, d, he, ((State.rebound_runs (s.taken_runs ..)).finish_ended ..).settle, hchans ▸ hw, hchans ▸ hqueue, hchans ▸ hto,
    fun hne => ?_⟩
  unfold State.q
  rw [State.settle_pantry, State.done_pantry]
  show (u.q queue.toNat).consumer = _
  have hsome : q = some queue.toNat := if_neg hne
  dsimp only [u]
  rw [hsome]
  exact State.rebound_consumer

end

/-- Settles O21, one command after the other. Q_FLUSH takes a submission or completion queue as well (log entry 13). -/
theorem bindingCommandsComplete : Obligations.BindingCommandsComplete := fun _ _ _ ha hp =>
  ⟨fun _ _ _ _ hq hen hflags hbusy hempty => qBind_sets ha hp hq hen hflags hbusy hempty,
    fun hq hbusy => qFlush_empties ha hp hq hbusy,
    fun _ _ _ hchan hq hport hidle hwin hsplit hfree => dmaBind_binds ha hp hchan hq hport hidle hwin hsplit hfree⟩

end Sys2Proof.Machine
end

section
/-! PROOFS. The security and lifecycle commands (R585, R593, R594, R599, R602, R606, R612). -/

namespace Sys2Proof.Machine

section
variable (h : Hdr) (op : Nat) (s : State)

@[simp] theorem State.received_sec : (s.received h op).sec = s.sec := State.fetched_sec ..

/-- Taking a command leaves the payload buffers of all contexts as they are. -/
theorem State.taken_buf (n : Nat) : ((s.taken h op).ctx n).buf = (s.ctx n).buf := by
  unfold State.taken State.begun
  by_cases e : n = h.ctx.toNat
  · rw [e, State.ctx_setCtx_self]; rfl
  · rw [State.ctx_setCtx_ne _ _ e]; rfl

theorem State.received_buf (n : Nat) : ((s.received h op).ctx n).buf = (s.ctx n).buf :=
  (congrArg Ctx.buf (State.fetched_ctx ..)).trans (s.taken_buf ..)

@[simp] theorem State.taken_secGate (n : Nat) (w : Option Nat) : (s.taken h op).secGate n w = s.secGate n w := by
  simp only [State.secGate, State.taken_buf, State.isProt, State.taken_win, State.taken_sec]
  rfl

@[simp] theorem State.received_secGate (n : Nat) (w : Option Nat) : (s.received h op).secGate n w = s.secGate n w := by
  simp only [State.secGate, State.received_buf, State.isProt, State.received_win, State.received_sec, State.received_mode]
  rfl

@[simp] theorem State.received_blockOk (bs : List Byte) (a t : Nat) (o : Bool) :
    (s.received h op).blockOk bs a t o = s.blockOk bs a t o := by
  simp only [State.blockOk, State.serialIs, State.received_sec, State.received_board]

@[simp] theorem State.received_ownerRecOk (bs : List Byte) : (s.received h op).ownerRecOk bs = s.ownerRecOk bs := by
  simp only [State.ownerRecOk, State.serialIs, State.received_sec, State.received_board]

@[simp] theorem State.received_transReady (l : Lifecycle) : (s.received h op).transReady l = s.transReady l := by
  simp only [State.transReady, State.received_sec]

end

section
variable {h : Hdr} {op : Nat} {r : TrivetReq} {s t : State}

/-- A new challenge is asked for before the request. -/
theorem State.newChallenge_reqs (s : State) : s.newChallenge.sec.reqs = s.sec.reqs := by
  obtain ⟨k, hk⟩ := s.frees_shape 8 32
  show (s.frees 8 32).2.sec.reqs = _
  rw [hk]

theorem State.newChallenge_host (s : State) : s.newChallenge.host = s.host := by
  obtain ⟨k, hk⟩ := s.frees_shape 8 32
  show (s.frees 8 32).2.host = _
  rw [hk]

/-- A command that waits for Trivet: its request is the last one asked. -/
def State.AsksTrivet (h : Hdr) (op : Nat) (r : TrivetReq) (s t : State) : Prop :=
  t.Runs h op ∧ t.sec.secCtx = some h.ctx.toNat ∧ t.sec.reqs = s.sec.reqs ++ [r]

theorem State.secAsk_asks {u : State} (hr : u.Runs h op) (hreqs : u.sec.reqs = s.sec.reqs) (hctx : r.ctx = h.ctx.toNat) :
    State.AsksTrivet h op r s (u.secAsk r).settle := by
  have hruns : (u.secAsk r).Runs h op := hr
  have hask : (u.secAsk r).sec.secCtx = some r.ctx ∧ (u.secAsk r).sec.reqs = u.sec.reqs ++ [r] := ⟨rfl, rfl⟩
  rw [hctx, hreqs] at hask
  exact ⟨hruns.settle, by rw [State.settle_sec, hask.1], by rw [State.settle_sec, hask.2]⟩

end

section
variable {h : Hdr} {s : State}

/-! ## SEC_ATTEST (R612, R613) -/

section
variable {nonce : BitVec 256} {window : BitVec 8} {offset : BitVec 32}

theorem secAttest_asks (ha : s.accepts h [.c] = true) (hp : h.plen = 0) (hwin : s.winHas window.toNat offset.toNat 912 = true)
    (hdik : s.sec.dik = true) (hent : s.sec.entropyOk = true) :
    ∃ t, exec (.secAttest h nonce window offset) s = .next t ∧ t.Runs h 0x0E00 ∧ t.sec.reqs = s.sec.reqs ++
      [{ opcode := 0x0E00, ctx := h.ctx.toNat, body := le 32 nonce.toNat, target := s.lt.seq.toNat, window := window.toNat,
         offset := offset.toNat }] := by
  let r : TrivetReq := { opcode := 0x0E00, ctx := h.ctx.toNat, body := le 32 nonce.toNat, target := s.lt.seq.toNat,
                         window := window.toNat, offset := offset.toNat }
  have he : exec (.secAttest h nonce window offset) s = .next ((s.taken h 0x0E00).askTrivet r).settle := by
    refine exec_of_going_body rfl ha hp rfl ?_
    simp only [State.taken_win, State.taken_winHas, State.taken_sec, State.win_isNone_of_has hwin, hwin, hdik, hent, Bool.not_true,
      Bool.false_eq_true, if_false]
    rfl
  refine ⟨_, he, State.Runs.settle (s.taken_runs h 0x0E00), ?_⟩
  rw [State.settle_sec]
  rfl

theorem secAttest_writes {bs : List Byte} (ha : s.accepts h [.c] = true) (hp : h.plen = 0)
    (hwin : s.winHas window.toNat offset.toNat 912 = true) (hdik : s.sec.dik = false)
    (hbs : bs = (s.taken h 0x0E00).report (le 32 nonce.toNat) s.tableHashes false s.lt.seq.toNat ++ List.replicate 384 0) :
    ∃ t, exec (.secAttest h nonce window offset) s = .next t ∧
      State.Writes h 0x0E00 (s.winAddr window.toNat offset.toNat) bs [] s t := by
  have hlen : bs.length = 912 := by
    rw [hbs, List.length_append, State.report_length _ _ _ _ _ s.tableHashes_flatten_length, List.length_replicate]
  refine windowRead_completes (u := s.taken h 0x0E00) rfl ha hp rfl ?_ (s.taken_runs ..) rfl (by rw [hlen]; exact hwin)
  rw [hbs]
  simp only [State.taken_win, State.taken_winHas, State.taken_sec, State.win_isNone_of_has hwin, hwin, hdik, Bool.not_true,
    Bool.false_eq_true, if_false, Bool.not_false, if_true]
  rfl

end

/-! ## Commands of class L (R585, R593, R594, R599, R602, R606) -/

theorem secOwnerEnrol_asks (ha : s.accepts h [.l] = true) (hp : h.plen.toNat = 1184) (hzero : rd (s.payload h) 24 8 = 0)
    (hgate : s.secGate h.ctx.toNat none = none) (hlife : s.sec.lifecycle = .vendor ∨ s.sec.lifecycle = .provisioned)
    (hrec : s.ownerRecOk (s.payload h) = true) :
    ∃ t, exec (.secOwnerEnrol h) s = .next t ∧ State.AsksTrivet h 0x0E01
      { opcode := 0x0E01, ctx := h.ctx.toNat, body := s.payload h, target := 0, window := 0, offset := 0 } s t := by
  have hlife' : ((s.sec.lifecycle == .vendor) || (s.sec.lifecycle == .provisioned)) = true := by simpa using hlife
  refine ⟨_, exec_of_received_body rfl ha hp (beq_iff_eq.2 hzero) ?_,
    State.secAsk_asks (s.received_runs h 0x0E01) (by rw [State.received_sec]) rfl⟩
  simp only [State.received_secGate, hgate, State.received_sec, State.received_payload, State.received_ownerRecOk, hrec, hlife',
    Bool.not_true, Bool.false_eq_true, if_false]

theorem secImageWrite_asks {slot window : BitVec 8} {offset length : BitVec 32} {a : Nat} (ha : s.accepts h [.l] = true)
    (hp : h.plen = 0) (hslot : slot.toNat ≤ 1) (hgate : s.secGate h.ctx.toNat (some window.toNat) = none)
    (hwin : s.winHas window.toNat offset.toNat length.toNat = true) (haddr : a = s.winAddr window.toNat offset.toNat)
    (hmin : 512 ≤ length.toNat) (hlen : length.toNat = 512 + rd (memRead a 512 s.dram.mem) 12 4)
    (hgood : s.poisoned a length.toNat = false) (hhead : s.headerOk (memRead a 512 s.dram.mem) = true) :
    ∃ t, exec (.secImageWrite h slot window offset length) s = .next t ∧ State.AsksTrivet h 0x0E02
      { opcode := 0x0E02, ctx := h.ctx.toNat, body := memRead a length.toNat s.dram.mem, target := slot.toNat,
        window := window.toNat, offset := offset.toNat } s t := by
  subst haddr
  have hgood' : (s.taken h 0x0E02).poisoned (s.winAddr window.toNat offset.toNat) length.toNat = false := hgood
  have hhead' : (s.taken h 0x0E02).headerOk (memRead (s.winAddr window.toNat offset.toNat) 512 s.dram.mem) = true := hhead
  refine ⟨_, exec_of_going_body rfl ha hp (decide_eq_true hslot) ?_, State.secAsk_asks (u := (s.taken h 0x0E02).dramReq 9 false
    (s.winAddr window.toNat offset.toNat) length.toNat) (s.taken_runs h 0x0E02) rfl rfl⟩
  have hfits : (!s.winHas window.toNat offset.toNat length.toNat || decide (length.toNat < 512) ||
      length.toNat != 512 + rd (memRead (s.winAddr window.toNat offset.toNat) 512 s.dram.mem) 12 4) = false := by
    rw [hwin, ← hlen, decide_eq_false (Nat.not_lt.2 hmin), bne_self_eq_false]
    rfl
  simp only [State.taken_secGate, hgate, State.taken_win, State.win_isNone_of_has hwin, State.taken_winHas, State.taken_winAddr,
    State.taken_dram, hfits, hgood', hhead', Bool.not_true, Bool.false_eq_true, if_false]

theorem secIdentityGen_asks (ha : s.accepts h [.l] = true) (hp : h.plen = 0) (hgate : s.secGate h.ctx.toNat none = none)
    (hlife : s.sec.lifecycle = .provisioned) (hent : s.sec.entropyOk = true) :
    ∃ t, exec (.secIdentityGen h) s = .next t ∧ State.AsksTrivet h 0x0E04
      { opcode := 0x0E04, ctx := h.ctx.toNat, body := [], target := 0, window := 0, offset := 0 } s t := by
  refine ⟨_, exec_of_going_body rfl ha hp rfl ?_, State.secAsk_asks (s.taken_runs h 0x0E04) rfl rfl⟩
  simp only [State.taken_secGate, hgate, State.taken_sec, hlife, hent, beq_self_eq_true, Bool.not_true, Bool.false_eq_true, if_false]

/-- An authorisation that passes is sent to Trivet after a new challenge has been drawn (R594). -/
theorem State.authorise_goes {op action target : Nat} {owner : Bool} (hent : s.sec.entropyOk = true)
    (hblock : s.blockOk (s.payload h) action target owner = true) :
    (s.received h op).authorise h op action target owner = .go ((s.received h op).newChallenge.secAsk
      { opcode := op, ctx := h.ctx.toNat, body := s.payload h, target := target, window := 0, offset := 0 }) := by
  unfold State.authorise
  simp only [State.received_sec, State.received_payload, State.received_blockOk, hent, hblock, Bool.not_true, Bool.false_eq_true,
    if_false]

theorem State.newChallenge_asks {op : Nat} {r : TrivetReq} (hctx : r.ctx = h.ctx.toNat) :
    State.AsksTrivet h op r s ((s.received h op).newChallenge.secAsk r).settle := by
  refine State.secAsk_asks ?_ ?_ hctx
  · unfold State.Runs State.ctx
    rw [State.newChallenge_host]
    exact s.received_runs h op
  · rw [State.newChallenge_reqs, State.received_sec]

theorem secLifecycle_asks {target : BitVec 8} {new : Lifecycle} (ha : s.accepts h [.l] = true) (hp : h.plen.toNat = 432)
    (hzero : rd (s.payload h) 7 1 = 0) (hgate : s.secGate h.ctx.toNat none = none) (hnew : Lifecycle.ofCode target.toNat = some new)
    (hwipes : (transWipes s.sec.lifecycle new).isSome = true) (hready : s.transReady new = true) (hent : s.sec.entropyOk = true)
    (hblock : s.blockOk (s.payload h) 1 target.toNat (ownerSigns s.sec.lifecycle (some new)) = true) :
    ∃ t, exec (.secLifecycle h target) s = .next t ∧ State.AsksTrivet h 0x0E03
      { opcode := 0x0E03, ctx := h.ctx.toNat, body := s.payload h, target := target.toNat, window := 0, offset := 0 } s t := by
  have hsome : (transWipes s.sec.lifecycle new).isNone = false := by
    rw [Option.isNone_eq_false_iff]; exact hwipes
  refine ⟨_, exec_of_received_body rfl ha hp (beq_iff_eq.2 hzero) ?_, State.newChallenge_asks rfl⟩
  simp only [State.received_secGate, hgate, hnew, State.received_sec, State.received_transReady, hsome, hready, Bool.not_true,
    Bool.false_eq_true, if_false]
  exact State.authorise_goes hent hblock

theorem secDebugUnlock_asks (ha : s.accepts h [.l] = true) (hp : h.plen.toNat = 432) (hzero : rd (s.payload h) 7 1 = 0)
    (hgate : s.secGate h.ctx.toNat none = none) (hfield : s.sec.lifecycle ≠ .field) (hscrap : s.sec.lifecycle ≠ .scrap)
    (hent : s.sec.entropyOk = true) (hblock : s.blockOk (s.payload h) 2 0 (ownerSigns s.sec.lifecycle none) = true) :
    ∃ t, exec (.secDebugUnlock h) s = .next t ∧ State.AsksTrivet h 0x0E05
      { opcode := 0x0E05, ctx := h.ctx.toNat, body := s.payload h, target := 0, window := 0, offset := 0 } s t := by
  have hlife : (s.sec.lifecycle == .field || s.sec.lifecycle == .scrap) = false := by simp [hfield, hscrap]
  refine ⟨_, exec_of_received_body rfl ha hp (beq_iff_eq.2 hzero) ?_, State.newChallenge_asks rfl⟩
  simp only [State.received_secGate, hgate, State.received_sec, hlife, Bool.false_eq_true, if_false]
  exact State.authorise_goes hent hblock

end

/-- Settles O22, one command after the other. -/
theorem securityCommandsStart : Obligations.SecurityCommandsStart := fun _ _ =>
  ⟨fun _ _ _ ha hp hwin => ⟨fun hdik hent => secAttest_asks ha hp hwin hdik hent,
      fun _ hdik hbs => secAttest_writes ha hp hwin hdik hbs⟩,
    fun ha => ⟨fun hp hzero hgate hlife hrec => secOwnerEnrol_asks ha hp hzero hgate hlife hrec,
      fun _ _ _ _ _ hp hslot hgate hwin haddr hmin hlen hgood hhead =>
        secImageWrite_asks ha hp hslot hgate hwin haddr hmin hlen hgood hhead,
      fun hp hgate hlife hent => secIdentityGen_asks ha hp hgate hlife hent,
      fun _ _ hp hzero hgate hnew hwipes hready hent hblock =>
        secLifecycle_asks ha hp hzero hgate hnew hwipes hready hent hblock,
      fun hp hzero hgate hfield hscrap hent hblock => secDebugUnlock_asks ha hp hzero hgate hfield hscrap hent hblock⟩⟩

end Sys2Proof.Machine
end

section
/-! PROOFS. The DMA channels: START, ABORT and the writes that find nothing to do (R513, R524, R525, R528, R538). -/

namespace Sys2Proof.Machine

/-! ## What leaves the block with the end of a DMA event -/

/-- At most messages leave the block. -/
def State.OnlyMessages (s : State) : Prop := ∀ o ∈ s.host.out, ∃ p v, o = .msix p v

namespace State.OnlyMessages

variable {s : State}

theorem of_out_eq {t : State} (hs : s.OnlyMessages) (h : t.host.out = s.host.out) : t.OnlyMessages := by
  unfold State.OnlyMessages
  rw [h]
  exact hs

theorem atTime (tm : Nat) (s : State) : (s.atTime tm).OnlyMessages := fun _ ho => absurd ho List.not_mem_nil

theorem msix (hs : s.OnlyMessages) (p v : Nat) : (s.msix p v).OnlyMessages := by
  unfold State.msix
  dsimp only
  split
  · refine hs.of_out_eq ?_
    unfold State.setPort
    split <;> rfl
  · split
    · intro o ho
      obtain ho | ho := List.mem_append.1 (show o ∈ s.host.out ++ [_] from ho)
      · exact hs o ho
      · exact ⟨p, v, List.mem_singleton.1 ho⟩
    · exact hs

theorem latchSet (hs : s.OnlyMessages) (i : Nat) : (s.latchSet i).OnlyMessages := by
  unfold State.latchSet
  dsimp only
  split
  · exact hs
  · split
    · split
      · exact hs.of_out_eq (by rw [State.wake_host])
      · exact hs
    · split
      · exact hs
      · refine msix (of_out_eq hs ?_) _ _
        rfl

theorem level (hs : s.OnlyMessages) (i : Nat) (on : Bool) : (s.level i on).OnlyMessages := by
  unfold State.level
  dsimp only
  split
  · refine latchSet (of_out_eq hs ?_) i
    rfl
  · exact hs

theorem settle (hs : s.OnlyMessages) : s.settle.OnlyMessages := by
  unfold State.settle
  exact List.foldlRecOn (motive := State.OnlyMessages) _ _ hs fun _ ht _ _ => ht.level _ _

theorem dmaStop (hs : s.OnlyMessages) (c code : Nat) : (s.dmaStop c code).OnlyMessages := by
  have hint : ∀ u : State, u.OnlyMessages → (u.dmaInt c).OnlyMessages := by
    intro u hu
    have hset : (u.setChan c fun x => { x with int := true }).OnlyMessages := hu.of_out_eq rfl
    unfold State.dmaInt
    dsimp only
    split
    · exact hset.msix _ _
    · exact hset
  exact hint _ (hs.of_out_eq rfl)

end State.OnlyMessages

/-- The end of a QUIESCE changes no channel and sends nothing (R538). -/
theorem State.quiesceCheck_keeps (p : Nat) (s : State) :
    (s.quiesceCheck p).dma = s.dma ∧ (s.quiesceCheck p).host.out = s.host.out := by
  have hdone : ∀ (n : Nat) (data : List Byte) (u : State), (u.done n data).host.out = u.host.out := by
    intro n data u
    obtain ⟨-, e⟩ | ⟨f, e, -⟩ := u.finish_cases n .done cOk data
    · rw [State.done, e]
    · rw [State.done, e]; rfl
  have hport : ∀ (f : HostPort → HostPort) (u : State), (u.setPort p f).dma = u.dma ∧ (u.setPort p f).host.out = u.host.out := by
    intro f u
    unfold State.setPort
    split <;> exact ⟨rfl, rfl⟩
  unfold State.quiesceCheck
  split
  · exact ⟨rfl, rfl⟩
  · split
    · exact ⟨rfl, rfl⟩
    · dsimp only
      rw [State.done_dma, hdone]
      exact hport _ _

/-- A DMA event ends with the QUIESCE of both ports looked at. -/
theorem State.dmaOut_next (s : State) : ∃ t, s.dmaOut = .next t ∧ t.dma = s.dma ∧ (∀ o ∈ s.host.out, o ∈ t.host.out) ∧
    (s.OnlyMessages → t.OnlyMessages) := by
  obtain ⟨hdma0, hout0⟩ := s.quiesceCheck_keeps 0
  obtain ⟨hdma1, hout1⟩ := (s.quiesceCheck 0).quiesceCheck_keeps 1
  refine ⟨((s.quiesceCheck 0).quiesceCheck 1).settle, rfl, by rw [State.settle_dma, hdma1, hdma0],
    fun o ho => State.settle_out_mono (by rw [hout1, hout0]; exact ho), fun hs => ?_⟩
  exact (hs.of_out_eq (hout1.trans hout0)).settle

/-- A DMA event that changes nothing itself. -/
theorem State.dmaOut_idle {tm : Nat} {s u : State} (hu : u = s.atTime tm) : ∃ t, u.dmaOut = .next t ∧ t.dma = s.dma := by
  obtain ⟨t, ht, hdma, -⟩ := u.dmaOut_next
  exact ⟨t, ht, by rw [hdma, hu, State.atTime_dma]⟩

theorem State.chan_eq {c : Nat} {s t : State} (h : t.dma = s.dma) : t.chan c = s.chan c := by
  unfold State.chan
  rw [h]

/-! ## START (R513) -/

section
variable {tm c : Nat} {s : State}

/-- The modes in which no DMA channel starts (R513). -/
theorem Mode.noDma_iff (m : Mode) : m.noDma = true ↔ m = .boot ∨ m = .standby ∨ m = .scrub := by
  cases m <;> decide

/-- START finds a latched error, a mode without DMA, or a port that is quiesced (R513, R538). -/
def State.startBlocked (c : Nat) (s : State) : Bool := s.mode.mode.noDma || s.dma.latched || s.portQuiet (s.chan c).port

theorem State.startBlocked_iff : s.startBlocked c = true ↔ s.dma.latched = true ∨ s.mode.mode = .boot ∨ s.mode.mode = .standby ∨
    s.mode.mode = .scrub ∨ s.portQuiet (s.chan c).port = true := by
  simp only [State.startBlocked, Bool.or_eq_true, Mode.noDma_iff]
  tauto

theorem State.dmaStart_of_idle {abortToo : Bool} (hidle : (s.chan c).state = .idle) :
    s.dmaStart c abortToo = if s.startBlocked c then s else s.dmaFetch c (s.chan c).desc := by
  unfold State.dmaStart
  dsimp only
  rw [if_pos (beq_iff_eq.2 hidle)]
  rfl

theorem State.dmaStart_of_busy {abortToo : Bool} (hbusy : (s.chan c).state ≠ .idle) :
    s.dmaStart c abortToo = if abortToo then s.dmaAbort c else s := by
  unfold State.dmaStart
  dsimp only
  rw [if_neg (by simpa using hbusy)]

theorem State.startBlocked_atTime : (s.atTime tm).startBlocked c = s.startBlocked c := rfl

end

section
variable {tm : Nat} {c : BitVec 6} {s : State}

theorem dmaStart_fetches {abortToo : Bool} (hidle : (s.chan c.toNat).state = .idle) (hfree : s.startBlocked c.toNat = false) :
    ∃ t, exec (.dmaStart tm c abortToo) s = .next t ∧ (t.chan c.toNat).state = .running ∧ (t.chan c.toNat).phase = .fetch ∧
      (t.chan c.toNat).next = (s.chan c.toNat).desc ∧
      .descRead (s.chan c.toNat).port c.toNat (s.chan c.toNat).desc ∈ t.host.out := by
  have hfetch : (s.atTime tm).dmaStart c.toNat abortToo = (s.atTime tm).dmaFetch c.toNat (s.chan c.toNat).desc := by
    rw [State.dmaStart_of_idle (s := s.atTime tm) hidle, State.startBlocked_atTime, hfree]
    rfl
  obtain ⟨t, ht, hdma, hout, -⟩ := ((s.atTime tm).dmaFetch c.toNat (s.chan c.toNat).desc).dmaOut_next
  have hchan : ((s.atTime tm).dmaFetch c.toNat (s.chan c.toNat).desc).chan c.toNat =
      { s.chan c.toNat with state := .running, phase := .fetch, next := (s.chan c.toNat).desc, last := (s.chan c.toNat).desc,
                            qWait := false } := State.chan_setChan_self ..
  refine ⟨t, (congrArg State.dmaOut hfetch).trans ht, ?_⟩
  rw [State.chan_eq hdma, hchan]
  exact ⟨rfl, rfl, rfl, hout _ (List.mem_append_right _ (List.mem_singleton.2 rfl))⟩

theorem dmaStart_ignored {abortToo : Bool} (hnone : (s.chan c.toNat).state = .idle → s.startBlocked c.toNat = true)
    (habort : (s.chan c.toNat).state ≠ .idle → abortToo = false) :
    ∃ t, exec (.dmaStart tm c abortToo) s = .next t ∧ t.dma = s.dma := by
  refine State.dmaOut_idle (tm := tm) (u := (s.atTime tm).dmaStart c.toNat abortToo) ?_
  by_cases hidle : (s.chan c.toNat).state = .idle
  · rw [State.dmaStart_of_idle (s := s.atTime tm) hidle, State.startBlocked_atTime, hnone hidle]
    rfl
  · rw [State.dmaStart_of_busy (s := s.atTime tm) hidle, habort hidle]
    rfl

theorem dmaStart_aborts (hbusy : (s.chan c.toNat).state ≠ .idle) : exec (.dmaStart tm c true) s = exec (.dmaAbort tm c) s :=
  congrArg State.dmaOut (State.dmaStart_of_busy (s := s.atTime tm) hbusy)

theorem chainKick_ignored_of_noDma (hmode : s.mode.mode.noDma = true) : ∃ t, exec (.chainKick tm c) s = .next t ∧ t.dma = s.dma :=
  State.dmaOut_idle (tm := tm) (if_pos hmode)

end

/-! ## SET_MODE into SCRUB (R36) -/

/-- An entry that is not the default one is listed. -/
theorem mem_of_sget_ne {α : Type} {d : α} {k : Nat} : ∀ {m : SMap α}, sget d k m ≠ d → (k, sget d k m) ∈ m
  | [], h => absurd rfl h
  | (j, v) :: m, h => by
    unfold sget at h ⊢
    split
    · next e =>
      rw [e]
      exact List.mem_cons_self
    · next e =>
      rw [if_neg e] at h
      exact List.mem_cons_of_mem _ (mem_of_sget_ne h)

theorem State.dmaBusy_of_chan {k : Nat} {s : State} (hk : (s.chan k).state = .running ∨ (s.chan k).state = .aborting) :
    s.dmaBusy = true := by
  have hne : s.chan k ≠ DmaChan.reset := by
    intro e
    rw [e] at hk
    exact absurd hk (by decide)
  refine List.any_eq_true.2 ⟨_, mem_of_sget_ne hne, ?_⟩
  simpa [State.chan] using hk

/-- SET_MODE into SCRUB fails with ERR_STATE while a DMA channel is at work (R36). -/
theorem State.setModeBody_scrub {n w : Nat} {target : BitVec 32} {s : State} (htransit : s.mode.transit = false)
    (hmode : s.mode.mode ≠ .scrub) (hbusy : s.dmaBusy = true) : s.setModeBody n .scrub w target = .fail cState [] s := by
  have hne : (Mode.scrub == s.mode.mode) = false := beq_eq_false_iff_ne.2 hmode.symm
  have hfault : ∀ t a, s.modeFault .scrub t a = some cState := by
    intro t a
    unfold State.modeFault
    rw [hbusy]
    split
    · rfl
    · split
      · rfl
      · rfl
  unfold State.setModeBody
  dsimp only
  rw [htransit, hne, hfault]
  simp only [Bool.false_eq_true, if_false]
  split
  · rfl
  · exact if_neg (by rw [show Mode.scrub.isCapture = false from rfl]; simp)

theorem setMode_scrub_fails {h : Hdr} {when_ : BitVec 8} {target : BitVec 32} {k : Nat} {s : State} (ha : s.accepts h [.c] = true)
    (hp : h.plen = 0) (hwhen : when_.toNat ≤ 1) (htransit : s.mode.transit = false) (hmode : s.mode.mode ≠ .scrub)
    (hk : (s.chan k).state = .running ∨ (s.chan k).state = .aborting) :
    ∃ t, exec (.setMode h 11 when_ target) s = .next t ∧ t.Ended h 0x0101 .failed cState [] 0 ∧ t.mode.mode = s.mode.mode := by
  have hbusy : (s.taken h 0x0101).dmaBusy = true := State.dmaBusy_of_chan hk
  have ht : takeSetMode h 11 when_ target s = (s.taken h 0x0101).finish h.ctx.toNat .failed cState [] [] := by
    have hbody : (s.taken h 0x0101).setModeBody h.ctx.toNat .scrub when_.toNat target = .fail cState [] (s.taken h 0x0101) :=
      State.setModeBody_scrub htransit hmode hbusy
    refine (State.take_of_accepts_empty ha hp (by simp [Mode.ofCode, hwhen])).trans ?_
    exact congrArg (Res.apply h.ctx.toNat) hbody
  refine ⟨_, congrArg State.out ht, ((s.taken_runs ..).finish_ended ..).settle, ?_⟩
  rw [State.settle_mode_mode, State.finish_mode]
  rfl

/-- Settles O49, clause by clause. START and CHAIN_KICK in BOOT, STANDBY and SCRUB, and START on a quiesced port, are ignored by the
model's choice (log entry 193). -/
theorem startIsJudgedOnState : Obligations.StartIsJudgedOnState := by
  refine fun tm c s => ⟨fun abortToo hidle hlatched hboot hstandby hscrub hport => ?_, fun hblocked => ?_, fun hidle hblocked => ?_,
    fun hbusy => dmaStart_aborts hbusy, fun hmode => chainKick_ignored_of_noDma ((Mode.noDma_iff _).2 hmode),
    fun h when_ target k ha hp hwhen htransit hmode hk => setMode_scrub_fails ha hp hwhen htransit hmode hk⟩
  · refine dmaStart_fetches hidle (Bool.eq_false_iff.2 fun hb => ?_)
    have hcause := State.startBlocked_iff.1 hb
    rw [hlatched, hport] at hcause
    simp [hboot, hstandby, hscrub] at hcause
  · refine dmaStart_ignored (fun hidle => State.startBlocked_iff.2 ?_) (fun _ => rfl)
    exact hblocked.resolve_left (not_not_intro hidle)
  · exact dmaStart_ignored (fun _ => State.startBlocked_iff.2 hblocked) (fun hbusy => absurd hidle hbusy)

/-! ## ABORT (R524, R525) -/

/-- A channel that has stopped with a code. -/
def DmaChan.stoppedWith (code : Nat) (x : DmaChan) : DmaChan :=
  { x with state := .idle, phase := .none, code := BitVec.ofNat 4 code, qWait := false, kick := x.kick && code != 2, int := true }

theorem State.dmaStop_chan (c code : Nat) (s : State) : (s.dmaStop c code).chan c = (s.chan c).stoppedWith code := by
  have hint : ∀ u : State, (u.dmaInt c).chan c = { u.chan c with int := true } := by
    intro u
    unfold State.dmaInt
    dsimp only
    split
    · exact (State.chan_eq (State.msix_dma ..)).trans (State.chan_setChan_self ..)
    · exact State.chan_setChan_self ..
  rw [State.dmaStop, hint, State.chan_setChan_self]
  rfl

section
variable {tm : Nat} {c : BitVec 6} {s : State}

/-- A channel that moves the data of a descriptor becomes ABORTING and starts no burst (R524). -/
theorem dmaAbort_moving (hstate : (s.chan c.toNat).state = .running) (hphase : (s.chan c.toNat).phase = .moving)
    (hqueue : (s.chan c.toNat).isQueue = false) (hwait : (s.chan c.toNat).qWait = false) :
    ∃ t, exec (.dmaAbort tm c) s = .next t ∧ (t.chan c.toNat).state = .aborting ∧ (t.chan c.toNat).phase = .moving ∧
      (t.chan c.toNat).kick = false ∧ ∀ a b, .burst c.toNat a b ∉ t.host.out := by
  let u := (s.atTime tm).setChan c.toNat fun x => { x with state := .aborting, kick := false }
  have hu : (s.atTime tm).dmaAbort c.toNat = u := by
    unfold State.dmaAbort
    rw [show (s.atTime tm).chan c.toNat = s.chan c.toNat from rfl]
    dsimp only
    rw [hstate, hphase, hwait, hqueue]
    rfl
  obtain ⟨t, ht, hdma, -, hmsg⟩ := u.dmaOut_next
  have hchan : u.chan c.toNat = { s.chan c.toNat with state := .aborting, kick := false } := State.chan_setChan_self ..
  refine ⟨t, (congrArg State.dmaOut hu).trans ht, ?_⟩
  rw [State.chan_eq hdma, hchan]
  refine ⟨rfl, hphase, rfl, fun a b hb => ?_⟩
  obtain ⟨p, v, e⟩ := hmsg ((State.OnlyMessages.atTime tm s).of_out_eq rfl) _ hb
  cases e

/-- A channel with nothing in flight stops at once with the code of an abort; it writes no status (R524, R525). -/
theorem dmaAbort_stops {f : DmaChan → DmaChan}
    (hu : (s.atTime tm).dmaAbort c.toNat = ((s.atTime tm).setChan c.toNat f).dmaStop c.toNat 2) :
    ∃ t, exec (.dmaAbort tm c) s = .next t ∧ t.chan c.toNat = (f (s.chan c.toNat)).stoppedWith 2 ∧
      ∀ p a bs e, .hostWrite p a bs e ∉ t.host.out := by
  obtain ⟨t, ht, hdma, -, hmsg⟩ := (((s.atTime tm).setChan c.toNat f).dmaStop c.toNat 2).dmaOut_next
  have hquiet : ((s.atTime tm).setChan c.toNat f).OnlyMessages := (State.OnlyMessages.atTime tm s).of_out_eq rfl
  refine ⟨t, (congrArg State.dmaOut hu).trans ht, ?_, fun p a bs e hw => ?_⟩
  · rw [State.chan_eq hdma, State.dmaStop_chan, State.chan_setChan_self]
    rfl
  · obtain ⟨p', v, heq⟩ := hmsg (hquiet.dmaStop _ _) _ hw
    cases heq

/-- A descriptor that waits for its queue before the first burst: the channel stands between descriptors (R524). -/
theorem dmaAbort_waiting (hstate : (s.chan c.toNat).state = .running) (hphase : (s.chan c.toNat).phase = .moving)
    (hwait : (s.chan c.toNat).qWait = true) (hmoved : (s.chan c.toNat).moved = 0) :
    (s.atTime tm).dmaAbort c.toNat =
      ((s.atTime tm).setChan c.toNat fun x => { x with residue := 0, desc := x.last }).dmaStop c.toNat 2 := by
  unfold State.dmaAbort
  rw [show (s.atTime tm).chan c.toNat = s.chan c.toNat from rfl]
  dsimp only
  rw [hstate, hphase, hwait, hmoved]
  rfl

/-- At the end of a chain, and between descriptors. -/
theorem dmaAbort_between (h : (s.chan c.toNat).state = .idleAtEnd ∨
      ((s.chan c.toNat).state = .running ∧ (s.chan c.toNat).phase ≠ .moving ∧ (s.chan c.toNat).phase ≠ .readBack)) :
    (s.atTime tm).dmaAbort c.toNat = ((s.atTime tm).setChan c.toNat fun x => { x with residue := 0 }).dmaStop c.toNat 2 := by
  unfold State.dmaAbort
  rw [show (s.atTime tm).chan c.toNat = s.chan c.toNat from rfl]
  dsimp only
  obtain hstate | ⟨hstate, hmoving, hback⟩ := h
  · rw [hstate]
  · rw [hstate]
    cases hphase : (s.chan c.toNat).phase with
    | moving => exact absurd hphase hmoving
    | readBack => exact absurd hphase hback
    | none => rfl
    | fetch => rfl
    | reread => rfl

theorem dmaAbort_ignored (h : (s.chan c.toNat).state = .idle ∨ (s.chan c.toNat).state = .aborting ∨ (s.chan c.toNat).state = .stopped) :
    ∃ t, exec (.dmaAbort tm c) s = .next t ∧ t.dma = s.dma := by
  refine State.dmaOut_idle (tm := tm) (u := (s.atTime tm).dmaAbort c.toNat) ?_
  unfold State.dmaAbort
  rw [show (s.atTime tm).chan c.toNat = s.chan c.toNat from rfl]
  dsimp only
  obtain hstate | hstate | hstate := h
  · rw [hstate]
  · rw [hstate]
  · rw [hstate]

/-- CRC of the bytes that the descriptor in hand has written (R516). -/
def DmaChan.descCrc (x : DmaChan) : BitVec 32 := crc32c (if x.ctl.getLsbD 5 then x.prevCrc else 0) x.written

/-- The status of a descriptor that ends with `code` is written where its CTL asks for it (R518). -/
def State.statusWritten (c code : Nat) (s : State) : State :=
  let ch := s.chan c
  if ch.ctl.getLsbD 4 then s.emit (.hostWrite ch.port (ch.desc + 16) (statusBytes ch.descCrc (ch.len - ch.moved) code) false) else s

/-- An aborted descriptor completes: its status is written, and the channel stops (R524). -/
theorem State.dmaComplete_abort (c : Nat) (s : State) : s.dmaComplete c 2 = ((s.statusWritten c 2).setChan c fun x =>
    { x with code := 2, residue := (s.chan c).len - (s.chan c).moved, crc := (s.chan c).descCrc }).dmaStop c 2 := rfl

theorem State.statusWritten_dma (c code : Nat) (s : State) : (s.statusWritten c code).dma = s.dma := by
  unfold State.statusWritten
  dsimp only
  split <;> rfl

/-- Stopping a channel takes back nothing that has left the block. -/
theorem State.dmaStop_out_mono {o : Output} {c code : Nat} {s : State} (ho : o ∈ s.host.out) : o ∈ (s.dmaStop c code).host.out := by
  have hint : ∀ u : State, o ∈ u.host.out → o ∈ (u.dmaInt c).host.out := by
    intro u hu
    have hset : o ∈ (u.setChan c fun x => { x with int := true }).host.out := hu
    unfold State.dmaInt
    dsimp only
    split
    · exact State.msix_out_mono _ _ hset
    · exact hset
  exact hint _ ho

/-- The read-back of an aborted channel returns: the status is written, and the channel stops (R524). -/
theorem dmaReadbackDone_aborts (hstate : (s.chan c.toNat).state = .aborting) (hphase : (s.chan c.toNat).phase = .readBack) :
    ∃ t, exec (.dmaReadbackDone tm c) s = .next t ∧ (t.chan c.toNat).state = .idle ∧ (t.chan c.toNat).code = 2 ∧
      (t.chan c.toNat).int = true ∧ (t.chan c.toNat).kick = false ∧ (t.chan c.toNat).desc = (s.chan c.toNat).desc ∧
      (t.chan c.toNat).carry = (s.chan c.toNat).carry ∧ (t.chan c.toNat).residue = (s.chan c.toNat).len - (s.chan c.toNat).moved ∧
      ((s.chan c.toNat).ctl.getLsbD 4 = true →
        .hostWrite (s.chan c.toNat).port ((s.chan c.toNat).desc + 16)
          (statusBytes (t.chan c.toNat).crc (t.chan c.toNat).residue 2) false ∈ t.host.out) := by
  let ch := s.chan c.toNat
  let u := ((s.atTime tm).statusWritten c.toNat 2).setChan c.toNat fun x =>
    { x with code := 2, residue := ch.len - ch.moved, crc := ch.descCrc }
  have hend : ch.endCode = 2 := if_pos (beq_iff_eq.2 hstate)
  have he : exec (.dmaReadbackDone tm c) s = (u.dmaStop c.toNat 2).dmaOut := by
    show (if ch.phase == .readBack then (s.atTime tm).dmaComplete c.toNat ch.endCode else s.atTime tm).dmaOut = _
    rw [if_pos (beq_iff_eq.2 hphase), hend, State.dmaComplete_abort]
    rfl
  have hchan : (u.dmaStop c.toNat 2).chan c.toNat =
      ({ ch with code := 2, residue := ch.len - ch.moved, crc := ch.descCrc } : DmaChan).stoppedWith 2 := by
    rw [State.dmaStop_chan, State.chan_setChan_self, State.chan_eq (State.statusWritten_dma ..)]
    rfl
  obtain ⟨t, ht, hdma, hout, -⟩ := (u.dmaStop c.toNat 2).dmaOut_next
  refine ⟨t, he.trans ht, ?_⟩
  rw [State.chan_eq hdma, hchan]
  refine ⟨rfl, rfl, rfl, Bool.and_false _, rfl, rfl, rfl, fun hctl => hout _ (State.dmaStop_out_mono ?_)⟩
  have hwritten : (s.atTime tm).statusWritten c.toNat 2 = (s.atTime tm).emit
      (.hostWrite ch.port (ch.desc + 16) (statusBytes ch.descCrc (ch.len - ch.moved) 2) false) := if_pos hctl
  show _ ∈ ((s.atTime tm).statusWritten c.toNat 2).host.out
  rw [hwritten]
  exact List.mem_append_right _ (List.mem_singleton.2 rfl)

theorem dmaEvents_ignored_of_idle {desc : BitVec 256} {link : BitVec 64} (hstate : (s.chan c.toNat).state = .idle)
    (hphase : (s.chan c.toNat).phase = .none) :
    (∃ t, exec (.chainKick tm c) s = .next t ∧ t.dma = s.dma) ∧ (∃ t, exec (.dmaDescFetched tm c desc) s = .next t ∧ t.dma = s.dma) ∧
    (∃ t, exec (.dmaLinkRereadDone tm c link) s = .next t ∧ t.dma = s.dma) := by
  have hkick : (s.atTime tm).dmaKick c.toNat = s.atTime tm := by
    unfold State.dmaKick
    rw [show (s.atTime tm).chan c.toNat = s.chan c.toNat from rfl]
    dsimp only
    rw [hstate]
    exact ite_self _
  have hfetched : exec (.dmaDescFetched tm c desc) s = (s.atTime tm).dmaOut := if_neg (by
    rw [show (s.atTime tm).chan c.toNat = s.chan c.toNat from rfl, hphase]; simp)
  have hreread : exec (.dmaLinkRereadDone tm c link) s = (s.atTime tm).dmaOut := if_neg (by
    rw [show (s.atTime tm).chan c.toNat = s.chan c.toNat from rfl, hphase]; simp)
  have hidle := State.dmaOut_idle (tm := tm) (s := s) rfl
  exact ⟨State.dmaOut_idle hkick, hfetched ▸ hidle, hreread ▸ hidle⟩

end

/-- Settles O50, clause by clause. An ABORT while the first descriptor after START or a kick is fetched is one between descriptors by the
model's choice (log entry 162). -/
theorem abortStopsChannel : Obligations.AbortStopsChannel := by
  refine fun tm c s => ⟨fun hstate hphase hqueue hwait => dmaAbort_moving hstate hphase hqueue hwait, fun hstate hphase hwait hmoved => ?_,
    fun hstate hphase => dmaReadbackDone_aborts hstate hphase, fun h => ?_, fun h => dmaAbort_ignored h,
    fun hstate desc link hphase => dmaEvents_ignored_of_idle hstate hphase⟩
  · obtain ⟨t, ht, hchan, -⟩ := dmaAbort_stops (dmaAbort_waiting (tm := tm) hstate hphase hwait hmoved)
    refine ⟨t, ht, ?_⟩
    rw [hchan]
    exact ⟨rfl, rfl, rfl, rfl, rfl, Bool.and_false _, rfl⟩
  · obtain ⟨t, ht, hchan, hquiet⟩ := dmaAbort_stops (dmaAbort_between (tm := tm) h)
    refine ⟨t, ht, ?_⟩
    rw [hchan]
    exact ⟨rfl, rfl, rfl, rfl, rfl, Bool.and_false _, rfl, rfl, hquiet⟩

end Sys2Proof.Machine
end

section
/-! PROOFS. Pushes, pops and the patrol of Pantry's queues (R487, R490, R492, R494, R502). -/

namespace Sys2Proof.Machine

/-! ## The order in which outputs leave the block -/

section
variable {s : State}

theorem State.msix_out_prefix (p v : Nat) (s : State) : s.host.out <+: (s.msix p v).host.out := by
  unfold State.msix
  dsimp only
  split
  · unfold State.setPort
    split
    · exact List.prefix_rfl
    · exact List.prefix_rfl
  · split
    · exact List.prefix_append _ _
    · exact List.prefix_rfl

theorem State.latchSet_out_prefix (i : Nat) (s : State) : s.host.out <+: (s.latchSet i).host.out := by
  unfold State.latchSet
  dsimp only
  split
  · exact List.prefix_rfl
  · split
    · split
      · rw [State.wake_host]
      · exact List.prefix_rfl
    · split
      · exact List.prefix_rfl
      · exact State.msix_out_prefix _ _ { s with ev := { s.ev with latch := s.ev.latch ||| BitVec.twoPow 256 i } }

theorem State.level_out_prefix (i : Nat) (on : Bool) (s : State) : s.host.out <+: (s.level i on).host.out := by
  unfold State.level
  dsimp only
  split
  · exact State.latchSet_out_prefix i { s with ev := { s.ev with
      raw := if on then s.ev.raw ||| BitVec.twoPow 256 i else s.ev.raw &&& ~~~BitVec.twoPow 256 i } }
  · exact List.prefix_rfl

/-- The messages of level sources leave after what the event itself sends. -/
theorem State.settle_out_prefix (s : State) : s.host.out <+: s.settle.host.out := by
  unfold State.settle
  exact List.foldlRecOn (motive := fun t : State => s.host.out <+: t.host.out) _ _ List.prefix_rfl
    fun _ ht _ _ => ht.trans (State.level_out_prefix _ _ _)

/-- What an event sends as its only output leaves first. -/
theorem State.settle_out_first {o : Output} (ho : s.host.out = [o]) : ∃ rest, s.settle.host.out = o :: rest := by
  obtain ⟨rest, hrest⟩ := s.settle_out_prefix
  exact ⟨rest, by rw [← hrest, ho]; rfl⟩

theorem State.q_eq {n : Nat} {t : State} (h : t.pantry = s.pantry) : t.q n = s.q n := by
  unfold State.q
  rw [h]

@[simp] theorem State.settle_q (n : Nat) (s : State) : s.settle.q n = s.q n := State.q_eq s.settle_pantry

/-- The count of free cells is apart from the queues. -/
theorem State.q_freeCell (n k : Nat) (s : State) : (s.freeCell k).q n = s.q n := rfl

/-! ## Software pushes (R487, R494) -/

/-- A new cell with its bytes is the last of its queue. -/
theorem State.addCell_q (n : Nat) (bs : List Byte) (s : State) : ∃ id, (s.addCell n bs).q n =
    { s.q n with cells := (s.q n).cells ++ [{ id := id, bytes := bs, isOpen := decide (bs.length < 64) }] } := by
  have hpick : s.pickCell.2.q n = s.q n := rfl
  have hpool : ∀ t : State, t.poolNote.q n = t.q n := fun _ => rfl
  have hused : ∀ (t : State) (k : Nat), ({ t with pantry := { t.pantry with used := k } } : State).q n = t.q n := fun _ _ => rfl
  unfold State.addCell
  generalize s.pickCell = p at hpick
  obtain ⟨id, s1⟩ := p
  dsimp only at hpick ⊢
  rw [hpool, hused, State.q_setQ_self, hpick]
  exact ⟨id, rfl⟩

theorem State.addCell_bytes (n : Nat) (bs : List Byte) (s : State) :
    ((s.addCell n bs).q n).cells.map Cell.bytes = (s.q n).cells.map Cell.bytes ++ [bs] := by
  obtain ⟨id, hid⟩ := s.addCell_q n bs
  rw [hid]
  simp

theorem Queue.noteCycle_cells (now : Nat) (x : Queue) : (x.noteCycle now).cells = x.cells := by
  unfold Queue.noteCycle
  split <;> rfl

/-- A push that finds no open tail cell needs a new one (R491, R494). -/
theorem State.push_of_noTail {n : Nat} {bs : List Byte} (hroom : (s.q n).tailRoom = 0) (hbs : bs ≠ []) :
    s.push n bs = if s.canNew n then some ((s.setQ n fun x => { x.noteCycle s.now with cells := x.cells }).addCell n bs) else none := by
  have hlen : ¬ bs.length ≤ 0 := by simpa using hbs
  unfold State.push
  dsimp only
  simp only [hroom, if_neg hlen, List.drop_zero, if_true]
  by_cases hen : (s.q n).en = true
  · rw [hen]
    rfl
  · simp [State.canNew, hen]

theorem State.push_bytes {n : Nat} {bs : List Byte} {u : State} (hroom : (s.q n).tailRoom = 0) (hbs : bs ≠ [])
    (hu : s.push n bs = some u) : (u.q n).cells.map Cell.bytes = (s.q n).cells.map Cell.bytes ++ [bs] := by
  rw [State.push_of_noTail hroom hbs] at hu
  split at hu
  · rw [← Option.some.inj hu, State.addCell_bytes, State.q_setQ_self]
  · cases hu

/-- Refused, a software push is dropped with OVERFLOW (R494). -/
def State.softDropped (n : Nat) (s : State) : State :=
  (s.setQ n fun x => { x with overflow := true, drops := satAdd 0xFFFF x.drops 1 }).pulse 228

theorem State.pushSoft_eq {n : Nat} {bs : List Byte} (hbs : bs ≠ []) : s.pushSoft n bs = (s.push n bs).getD (s.softDropped n) := by
  unfold State.pushSoft
  rw [if_neg (by simpa using hbs)]
  split
  · next h => rw [h]; rfl
  · next h => rw [h]; rfl

theorem le_ne_nil (n v : Nat) : le (n + 1) v ≠ [] := List.cons_ne_nil _ _

end

section
variable {tm : Nat} {q : BitVec 13} {s : State}

/-- The 8 bytes of a write with every byte enabled. -/
theorem enabledBytes_all (data : BitVec 64) :
    ((List.range 8).filter (fun i => (0xFF : BitVec 8).getLsbD i)).map (fun i => data.extractLsb' (8 * i) 8) = le 8 data.toNat := by
  have hall : (List.range 8).filter (fun i => (0xFF : BitVec 8).getLsbD i) = List.range 8 := by decide
  rw [hall]
  simp [List.range, List.range.loop, le, BitVec.extractLsb', Nat.shiftRight_eq_div_pow, Nat.div_div_eq_div_mul]

theorem exec_qPush_of_access {data : BitVec 64} (haccess : qAccess q.toNat = 1) (hmode : s.mode.mode ≠ .boot) :
    exec (.qPush tm q data 0xFF) s = .next ((s.atTime tm).pushSoft q.toNat (le 8 data.toNat)).settle := by
  have hopen : (qAccess q.toNat = 1 && !((s.atTime tm).mode.mode == .boot)) = true := by simpa [haccess] using hmode
  show execQPush tm q data 0xFF s = _
  unfold execQPush
  dsimp only
  rw [hopen, enabledBytes_all, if_pos rfl, State.out_eq]

theorem qPush_joins {data : BitVec 64} (haccess : qAccess q.toNat = 1) (hmode : s.mode.mode ≠ .boot)
    (hroom : (s.q q.toNat).tailRoom = 0) (hnew : (s.atTime tm).canNew q.toNat = true) :
    ∃ t, exec (.qPush tm q data 0xFF) s = .next t ∧
      (t.q q.toNat).cells.map Cell.bytes = (s.q q.toNat).cells.map Cell.bytes ++ [le 8 data.toNat] := by
  have hbs : le 8 data.toNat ≠ [] := le_ne_nil 7 _
  have hpush := State.push_of_noTail (s := s.atTime tm) hroom hbs
  rw [hnew, if_pos rfl] at hpush
  refine ⟨_, exec_qPush_of_access haccess hmode, ?_⟩
  rw [State.settle_q, State.pushSoft_eq hbs, hpush]
  exact State.push_bytes (s := s.atTime tm) hroom hbs hpush

theorem qPush_overflows {data : BitVec 64} (haccess : qAccess q.toNat = 1) (hmode : s.mode.mode ≠ .boot)
    (hroom : (s.q q.toNat).tailRoom = 0) (hfull : (s.atTime tm).canNew q.toNat = false) :
    ∃ t, exec (.qPush tm q data 0xFF) s = .next t ∧ (t.q q.toNat).overflow = true ∧
      (t.q q.toNat).drops = min 0xFFFF ((s.q q.toNat).drops + 1) ∧ (t.q q.toNat).cells = (s.q q.toNat).cells ∧
      t.ev.latch.getLsbD 228 = true := by
  have hpush := State.push_of_noTail (s := s.atTime tm) hroom (le_ne_nil 7 data.toNat)
  rw [hfull, if_neg (by decide)] at hpush
  have hsoft : (s.atTime tm).pushSoft q.toNat (le 8 data.toNat) = (s.atTime tm).softDropped q.toNat := by
    rw [State.pushSoft_eq (le_ne_nil 7 _), hpush]
    rfl
  refine ⟨_, exec_qPush_of_access haccess hmode, ?_⟩
  have hq : ((s.atTime tm).softDropped q.toNat).settle.q q.toNat =
      { s.q q.toNat with overflow := true, drops := satAdd 0xFFFF (s.q q.toNat).drops 1 } := by
    rw [State.settle_q, State.softDropped, State.q_eq (State.pulse_pantry ..)]
    exact State.q_setQ_self ..
  rw [hsoft, hq]
  exact ⟨rfl, rfl, rfl, State.settle_latch_mono (State.pulse_latch (by decide) hmode)⟩

theorem qPush_ignored {data : BitVec 64} {be : BitVec 8} (h : qAccess q.toNat ≠ 1 ∨ s.mode.mode = .boot) :
    ∃ t, exec (.qPush tm q data be) s = .next t ∧ t.pantry = s.pantry := by
  have hshut : (qAccess q.toNat = 1 && !((s.atTime tm).mode.mode == .boot)) = false := by
    obtain h | h := h
    · simp [h]
    · simp [h]
  refine ⟨(s.atTime tm).settle, ?_, by rw [State.settle_pantry]; rfl⟩
  show execQPush tm q data be s = _
  unfold execQPush
  dsimp only
  rw [hshut, if_neg (by decide), State.out_eq]

/-! ## Pops (R490, R492) -/

theorem exec_qPop_of_access {len : Nat} {perr : Bool} (haccess : qAccess q.toNat = 2) (hmode : s.mode.mode ≠ .boot)
    (hfree : (s.q q.toNat).consumer = none) :
    exec (.qPop tm q len perr) s = .next (((s.atTime tm).pop q.toNat perr true).2.emit
      (.hostRead (padTo len 0 (padTo 64 0 (((s.atTime tm).pop q.toNat perr true).2.q q.toNat).lastWord)) false)).settle := by
  have hfree' : ((s.atTime tm).q q.toNat).consumer = none := hfree
  refine if_pos ?_
  simpa [haccess, hfree'] using hmode

/-- In a new cycle the cells are those that the queue starts with. -/
theorem Queue.atStart_of_newCycle {now : Nat} {x : Queue} (h : x.cycle ≠ some now) : x.atStart now = x.cells := if_neg h

theorem qPop_takes {len : Nat} {c : Cell} {cs : List Cell} (haccess : qAccess q.toNat = 2) (hmode : s.mode.mode ≠ .boot)
    (hfree : (s.q q.toNat).consumer = none) (hcycle : (s.q q.toNat).cycle ≠ some (max s.now tm))
    (hcells : (s.q q.toNat).cells = c :: cs) (hwhole : (c.isOpen && (s.q q.toNat).whole) = false) :
    ∃ t rest, exec (.qPop tm q len false) s = .next t ∧ (t.q q.toNat).cells = cs ∧ (t.q q.toNat).lastCount = c.bytes.length ∧
      t.host.out = .hostRead (padTo len 0 (padTo 64 0 c.bytes)) false :: rest := by
  have hstart : ((s.atTime tm).q q.toNat).atStart (s.atTime tm).now = c :: cs := (Queue.atStart_of_newCycle hcycle).trans hcells
  let u := ((s.atTime tm).setQ q.toNat fun x => { x.noteCycle (s.atTime tm).now with
    cells := x.cells.drop 1, startCells := cs, lastCount := c.bytes.length, lastWord := c.bytes, perr := x.perr || (false && true) })
  have hpop : ((s.atTime tm).pop q.toNat false true).2 = u.freeCell 1 := by
    unfold State.pop
    dsimp only
    rw [hstart]
    dsimp only
    rw [show ((s.atTime tm).q q.toNat).whole = (s.q q.toNat).whole from rfl, hwhole, if_neg (by decide),
      show ((s.atTime tm).q q.toNat).cells = c :: cs from hcells, List.drop_length]
    simp only [List.isEmpty_nil, Bool.not_true, Bool.and_false, Bool.false_eq_true, if_false]
    rfl
  have hq : (u.freeCell 1).q q.toNat = { ((s.q q.toNat).noteCycle (s.atTime tm).now) with
      cells := (s.q q.toNat).cells.drop 1, startCells := cs, lastCount := c.bytes.length, lastWord := c.bytes,
      perr := (s.q q.toNat).perr || (false && true) } := (State.q_freeCell ..).trans (State.q_setQ_self ..)
  have hpopq : ∀ o, ((u.freeCell 1).emit o).settle.q q.toNat = (u.freeCell 1).q q.toNat := fun o => State.settle_q ..
  obtain ⟨rest, hrest⟩ := State.settle_out_first (s := (u.freeCell 1).emit (.hostRead (padTo len 0 (padTo 64 0 c.bytes)) false)) rfl
  refine ⟨_, rest, exec_qPop_of_access haccess hmode hfree, ?_⟩
  rw [hpop, hq]
  refine ⟨?_, ?_, hrest⟩
  · rw [hpopq, hq, hcells]
    rfl
  · rw [hpopq, hq]

theorem qPop_underruns {len : Nat} {perr : Bool} (haccess : qAccess q.toNat = 2) (hmode : s.mode.mode ≠ .boot)
    (hfree : (s.q q.toNat).consumer = none) (hcycle : (s.q q.toNat).cycle ≠ some (max s.now tm)) (hcells : (s.q q.toNat).cells = []) :
    ∃ t, exec (.qPop tm q len perr) s = .next t ∧ (t.q q.toNat).underrun = true ∧ (t.q q.toNat).lastCount = 0 := by
  have hstart : ((s.atTime tm).q q.toNat).atStart (s.atTime tm).now = [] := (Queue.atStart_of_newCycle hcycle).trans hcells
  have hpop : ((s.atTime tm).pop q.toNat perr true).2 = (s.atTime tm).setQ q.toNat fun x =>
      { x.noteCycle (s.atTime tm).now with underrun := true, lastCount := 0 } := by
    unfold State.pop
    dsimp only
    rw [hstart]
  have hq : ∀ o, (((s.atTime tm).pop q.toNat perr true).2.emit o).settle.q q.toNat =
      { ((s.q q.toNat).noteCycle (s.atTime tm).now) with underrun := true, lastCount := 0 } := by
    intro o
    rw [State.settle_q, hpop]
    exact State.q_setQ_self ..
  refine ⟨_, exec_qPop_of_access haccess hmode hfree, ?_⟩
  rw [hq]
  exact ⟨rfl, rfl⟩

/-! ## Held pushes and the patrol (R494, R502) -/

theorem hwPushRetry_goesOn {b : List Byte} {s1 s2 : State} (hheld : sget [] q.toNat s.pantry.held = [b])
    (hs1 : s1 = { s.atTime tm with pantry := { s.pantry with held := sset [] q.toNat [] s.pantry.held } })
    (hpush : s1.push q.toNat b = some s2) : ∃ t, exec (.hwPushRetry tm q) s = .next t ∧ t.pantry = s2.pantry := by
  have hempty : (sget [] q.toNat s1.pantry.held).isEmpty = true := by
    rw [hs1]
    show (sget [] q.toNat (sset [] q.toNat [] s.pantry.held)).isEmpty = true
    rw [sget_sset_self]
    rfl
  have hitems : s1.pushItems q.toNat [b] = s2 := by
    unfold State.pushItems
    rw [if_pos hempty, hpush]
    rfl
  refine ⟨s2.settle, ?_, s2.settle_pantry⟩
  show State.out (State.pushItems q.toNat (sget [] q.toNat s.pantry.held) _) = _
  rw [hheld, ← hitems, hs1]
  rfl

theorem cellPatrol_retires {cell : BitVec 16}
    (hfree : s.pantry.queues.any (fun p => p.2.cells.any (fun c => decide (c.id = cell.toNat))) = false)
    (hnew : cell.toNat ∉ s.pantry.retired) :
    ∃ t, exec (.cellPatrol tm cell false) s = .next t ∧ t.pantry.retired = s.pantry.retired ++ [cell.toNat] ∧
      (s.mode.mode ≠ .boot → t.ev.latch.getLsbD 230 = true) := by
  have hretire : (s.atTime tm).retire cell.toNat =
      ({ s.atTime tm with pantry := { s.pantry with retired := s.pantry.retired ++ [cell.toNat] } }.poolNote).pulse 230 :=
    if_neg (by simpa using hnew)
  have he : exec (.cellPatrol tm cell false) s = .next ((s.atTime tm).retire cell.toNat).settle := by
    show State.out (if (false || s.pantry.queues.any _) then _ else _) = _
    rw [hfree]
    rfl
  refine ⟨_, he, ?_, fun hm => State.settle_latch_mono ?_⟩
  · rw [State.settle_pantry, hretire, State.pulse_pantry]
    rfl
  · rw [hretire]
    exact State.pulse_latch (by decide) hm

end

/-- Settles O26, one kind of event after the other. -/
theorem pantryEventsComplete : Obligations.PantryEventsComplete := fun tm _ s =>
  ⟨fun _ haccess hmode hroom => ⟨fun hnew => qPush_joins haccess hmode hroom hnew, fun hfull => qPush_overflows haccess hmode hroom hfull⟩,
    fun _ _ h => qPush_ignored h,
    fun _ _ _ haccess hmode hfree hcycle hcells hwhole => qPop_takes haccess hmode hfree hcycle hcells hwhole,
    fun _ _ haccess hmode hfree hcycle hcells => qPop_underruns haccess hmode hfree hcycle hcells,
    fun _ _ _ hheld hs1 hpush => hwPushRetry_goesOn hheld hs1 hpush,
    fun _ hfree hnew => ⟨cellPatrol_retires hfree hnew, (s.atTime tm).settle, rfl, by rw [State.settle_pantry]; rfl⟩⟩

end Sys2Proof.Machine
end

section
/-! PROOFS. Windows, the page ring and the channels of the DRAM controller: the commands of the memory family (R455, R478, R552, R579,
R652, R654). -/

namespace Sys2Proof.Machine

/-! ## Windows -/

/-- The entry that a table has been given is the first of its key. -/
theorem find?_sput {α : Type} (k : Nat) (v : α) : ∀ m : SMap α, (sput k v m).find? (fun p => p.1 == k) = some (k, v)
  | [] => by simp [sput]
  | (j, w) :: m => by
    unfold sput
    split
    · simp
    · split
      · simp
      · next hne => rw [List.find?_cons_of_neg (by simpa using hne), find?_sput k v m]

theorem find?_sdrop {α : Type} (k : Nat) (m : SMap α) : (sdrop k m).find? (fun p => p.1 == k) = none :=
  List.find?_eq_none.2 fun _ hx => by simpa using (mem_sdrop hx).2

theorem mem_supd {α : Type} [DecidableEq α] {d : α} {k : Nat} {f : α → α} {m : SMap α} {x : Nat × α} (h : x ∈ supd d k f m) :
    x = (k, f (sget d k m)) ∨ x ∈ m := by
  unfold supd sset at h
  split at h
  · exact .inr (mem_sdrop h).1
  · exact mem_sput h

section
variable (w : Nat) (s : State)

theorem State.win_setWin_some (x : Window) : (s.setWin w (some x)).win w = some x := by
  show ((sput w x s.dram.windows).find? (fun p => p.1 == w)).map (·.2) = _
  rw [find?_sput]
  rfl

theorem State.win_setWin_none : (s.setWin w none).win w = none := by
  show ((sdrop w s.dram.windows).find? (fun p => p.1 == w)).map (·.2) = _
  rw [find?_sdrop]
  rfl

theorem State.win_eq {t : State} (h : t.dram = s.dram) : t.win w = s.win w := by
  unfold State.win
  rw [h]

/-- What taking a command makes of its context. -/
def Ctx.begun (h : Hdr) (op : Nat) (x : Ctx) : Ctx :=
  { x with
    cur := some { opcode := op, seq := h.seq, noCpl := h.flags.getLsbD 0 }, opState := .running, result := 0, progress := 0,
    seq := h.seq, partials := 0 }

/-- A command that is taken puts no window to a new use. -/
theorem State.taken_winInUse {h : Hdr} {op : Nat} (hfree : s.winInUse w = false) : (s.taken h op).winInUse w = false := by
  simp only [State.winInUse, Bool.or_eq_false_iff] at hfree ⊢
  obtain ⟨⟨⟨hdma, hctxs⟩, hring⟩, hjob⟩ := hfree
  refine ⟨⟨⟨hdma, ?_⟩, hring⟩, hjob⟩
  rw [List.any_eq_false] at hctxs ⊢
  have htaken : (s.taken h op).host.ctxs = supd Ctx.reset h.ctx.toNat (Ctx.begun h op) s.host.ctxs := rfl
  intro x hx
  rw [htaken] at hx
  obtain rfl | hx := mem_supd hx
  · by_cases hdefault : sget Ctx.reset h.ctx.toNat s.host.ctxs = Ctx.reset
    · rw [hdefault]
      exact Bool.false_ne_true
    · exact hctxs (h.ctx.toNat, sget Ctx.reset h.ctx.toNat s.host.ctxs) (mem_of_sget_ne hdefault)
  · exact hctxs x hx

end

section
variable {h : Hdr} {s : State}

/-- A command that leaves a window with a value ends DONE (R552, R654). -/
theorem exec_setWin {i : Instr} {op : Nat} {cls : List Cls} {inRange : Bool} {body : State → Res} {w : Nat} {x : Option Window}
    (he : exec i s = (s.take h op cls true (some 0) inRange body).out) (ha : s.accepts h cls = true) (hp : h.plen = 0)
    (hr : inRange = true) (hb : body (s.taken h op) = .ok [] [] ((s.taken h op).setWin w x)) :
    ∃ t, exec i s = .next t ∧ t.Done h op [] ∧ t.win w = x := by
  have hruns : ((s.taken h op).setWin w x).Runs h op := s.taken_runs h op
  refine ⟨_, exec_of_ending_body he ha hp hr hb, (hruns.finish_ended ..).settle, ?_⟩
  rw [State.win_eq w _ (State.settle_dram _), State.win_eq w _ (State.done_dram ..)]
  cases x with
  | none => exact State.win_setWin_none ..
  | some y => exact State.win_setWin_some ..

theorem winCreate_creates {window part : BitVec 8} {size : BitVec 32} {a : Nat} (ha : s.accepts h [.w] = true) (hp : h.plen = 0)
    (hpart : part.toNat ≤ 1) (hsize : size ≠ 0) (hnew : s.win window.toNat = none) (hw : s.dramHw = false)
    (hroom : (if part = 1 then s.findRoom 0 s.protSize (size.toNat * 65536)
      else s.findRoom s.protSize s.dramSize (size.toNat * 65536)) = some a) :
    ∃ t, exec (.winCreate h window part size) s = .next t ∧ t.Done h 0x0C01 [] ∧
      t.win window.toNat = some { base := a, size := size.toNat * 65536, prot := part == 1, bar2 := none } := by
  have hw' : (s.taken h 0x0C01).dramHw = false := hw
  have hroom' : (if part = 1 then (s.taken h 0x0C01).findRoom 0 (s.taken h 0x0C01).protSize (size.toNat * 65536)
      else (s.taken h 0x0C01).findRoom (s.taken h 0x0C01).protSize (s.taken h 0x0C01).dramSize (size.toNat * 65536)) = some a := hroom
  refine exec_setWin rfl ha hp (by simpa [hpart] using hsize) ?_
  dsimp only
  rw [State.taken_win, hnew, hw', hroom']
  rfl

theorem winMap_maps {window : BitVec 8} {off : BitVec 32} {w : Window} (ha : s.accepts h [.w] = true) (hp : h.plen = 0)
    (hwin : s.win window.toNat = some w) (hbar : w.bar2 = none) (hfits : off.toNat * 65536 + w.size ≤ 2 ^ 32)
    (hapart : s.dram.windows.any (fun p => match p.2.bar2 with
      | some b => overlaps (off.toNat * 65536) w.size b p.2.size | none => false) = false) :
    ∃ t, exec (.winMap h window off) s = .next t ∧ t.Done h 0x0C02 [] ∧
      t.win window.toNat = some { w with bar2 := some (off.toNat * 65536) } := by
  have hrange : (decide (2 ^ 32 < off.toNat * 65536 + w.size) || s.dram.windows.any (fun p => match p.2.bar2 with
      | some b => overlaps (off.toNat * 65536) w.size b p.2.size | none => false)) = false := by
    rw [hapart, decide_eq_false (Nat.not_lt.2 hfits)]
    rfl
  refine exec_setWin rfl ha hp rfl ?_
  dsimp only
  rw [State.taken_win, hwin]
  dsimp only
  rw [hbar, if_neg (by decide)]
  exact if_neg (Bool.eq_false_iff.1 hrange)

theorem winUnmap_unmaps {window : BitVec 8} {w : Window} (ha : s.accepts h [.w] = true) (hp : h.plen = 0)
    (hwin : s.win window.toNat = some w) (hbar : w.bar2.isSome = true)
    (hidle : s.dma.chans.any (fun c => c.2.window == some window.toNat && c.2.state == .running) = false) :
    ∃ t, exec (.winUnmap h window) s = .next t ∧ t.Done h 0x0C03 [] ∧ t.win window.toNat = some { w with bar2 := none } := by
  have hbusy : (w.bar2.isNone || (s.taken h 0x0C03).dma.chans.any
      (fun c => c.2.window == some window.toNat && c.2.state == .running)) = false := by
    rw [Option.isNone_eq_false_iff.2 hbar]
    exact hidle
  refine exec_setWin rfl ha hp rfl ?_
  rw [State.taken_win, hwin]
  exact if_neg (Bool.eq_false_iff.1 hbusy)

theorem winFree_frees {window : BitVec 8} {w : Window} (ha : s.accepts h [.w] = true) (hp : h.plen = 0)
    (hwin : s.win window.toNat = some w) (hbar : w.bar2 = none) (hfree : s.winInUse window.toNat = false) :
    ∃ t, exec (.winFree h window) s = .next t ∧ t.Done h 0x0C04 [] ∧ t.win window.toNat = none := by
  refine exec_setWin rfl ha hp rfl ?_
  have hkept : (w.bar2.isSome || (s.taken h 0x0C04).winInUse window.toNat) = false := by
    rw [hbar, State.taken_winInUse _ _ hfree]
    rfl
  rw [State.taken_win, hwin]
  exact if_neg (Bool.eq_false_iff.1 hkept)

/-! ## The page ring (R579) -/

/-- The ring that RING_SET sets, without a page. -/
def Ring.emptied (window : BitVec 8) (offset size : BitVec 32) (qDesc : BitVec 16) (c rl : Nat) (r : Ring) : Ring :=
  { window := window.toNat, offset := offset.toNat, size := size.toNat, qDesc := qDesc.toNat, cap := c, rl := rl, wp := 0,
    pages := [], cur := none, warmStart := none, full := r.full, drops := r.drops }

theorem ringSet_sets {window : BitVec 8} {offset size : BitVec 32} {qDesc : BitVec 16} {rl c : Nat} (ha : s.accepts h [.w] = true)
    (hp : h.plen = 0) (hq : isProductQueue qDesc.toNat = true) (hrl : rl = max 64 (s.ringNeed s.active)) (hc : c = size.toNat / rl)
    (hpos : c ≠ 0) (hpages : s.ring.pages = []) (hwin : s.winHas window.toNat offset.toNat size.toNat = true)
    (hfits : pageFits c s.shadowView = true) :
    ∃ t, exec (.ringSet h window offset size qDesc) s = .next t ∧ t.Done h 0x0C05 (le 4 c ++ le 4 rl) ∧ t.ring.cap = c ∧
      t.ring.rl = rl ∧ t.ring.window = window.toNat ∧ t.ring.offset = offset.toNat ∧ t.ring.pages = [] := by
  subst hc hrl
  let rl := max 64 (s.ringNeed s.active)
  let u : State := { s.taken h 0x0C05 with ring := s.ring.emptied window offset size qDesc (size.toNat / rl) rl }
  have hview : (s.taken h 0x0C05).shadowView = s.shadowView := rfl
  have hneed : (s.taken h 0x0C05).ringNeed s.active = s.ringNeed s.active := rfl
  have he : exec (.ringSet h window offset size qDesc) s =
      .next (u.done h.ctx.toNat (le 4 (size.toNat / rl) ++ le 4 rl)).settle := by
    refine exec_of_ending_body rfl ha hp hq ?_
    dsimp only
    rw [State.taken_active, hneed, hview, State.taken_win, State.taken_winHas, State.win_isNone_of_has hwin, hwin, hfits,
      show (s.taken h 0x0C05).ring.pages = [] from hpages, decide_eq_false hpos]
    rfl
  have hruns : u.Runs h 0x0C05 := s.taken_runs h 0x0C05
  refine ⟨_, he, (hruns.finish_ended ..).settle, ?_⟩
  rw [State.settle_ring, State.done_ring]
  exact ⟨rfl, rfl, rfl, rfl, rfl⟩

theorem State.fill_eq {t : State} (h : t.ring = s.ring) : t.fill = s.fill := by
  unfold State.fill
  rw [h]

theorem pageRelease_releases {firstSeq : BitVec 32} {ps : List RingPage} (ha : s.accepts h [.b] = true) (hp : h.plen = 0)
    (hmark : markReleased firstSeq s.ring.pages = some ps) :
    ∃ t, exec (.pageRelease h firstSeq) s = .next t ∧ t.ring = { s.ring with pages := dropReleased ps } ∧
      t.Done h 0x0D03 (le 4 t.fill) := by
  let u : State := { s.taken h 0x0D03 with ring := { s.ring with pages := dropReleased ps } }
  have hmark' : markReleased firstSeq (s.taken h 0x0D03).ring.pages = some ps := hmark
  have he : exec (.pageRelease h firstSeq) s = .next (u.done h.ctx.toNat (le 4 u.fill)).settle := by
    refine exec_of_ending_body rfl ha hp rfl ?_
    dsimp only
    rw [hmark']
    rfl
  have hring : (u.done h.ctx.toNat (le 4 u.fill)).settle.ring = u.ring := by rw [State.settle_ring, State.done_ring]
  have hfill : (u.done h.ctx.toNat (le 4 u.fill)).settle.fill = u.fill := State.fill_eq hring
  have hruns : u.Runs h 0x0D03 := s.taken_runs h 0x0D03
  exact ⟨_, he, hring, by rw [hfill]; exact (hruns.finish_ended ..).settle⟩

/-! ## Channels (R455, R478) -/

/-- A command that works on the DRAM controller alone has started. -/
theorem exec_startsDram {i : Instr} {op : Nat} {cls : List Cls} {inRange : Bool} {body : State → Res} {d : Dram}
    (he : exec i s = (s.take h op cls true (some 0) inRange body).out) (ha : s.accepts h cls = true) (hp : h.plen = 0)
    (hr : inRange = true) (hb : body (s.taken h op) = .go { s.taken h op with dram := d }) :
    ∃ t, exec i s = .next t ∧ t.Runs h op ∧ t.dram = d :=
  ⟨_, exec_of_going_body he ha hp hr hb, State.Runs.settle (s.taken_runs h op), State.settle_dram _⟩

theorem dramTrain_starts (ha : s.accepts h [.d] = true) (hp : h.plen = 0) :
    ∃ t, exec (.dramTrain h) s = .next t ∧ t.Runs h 0x0C07 ∧ t.dram.trainCtx = some h.ctx.toNat := by
  obtain ⟨t, he, hruns, hdram⟩ := exec_startsDram (i := .dramTrain h) (d := { s.dram with trainCtx := some h.ctx.toNat }) rfl ha hp rfl rfl
  exact ⟨t, he, hruns, by rw [hdram]⟩

section
variable {ch : BitVec 8}

theorem dramChRetire_starts (ha : s.accepts h [.j, .w] = true) (hp : h.plen = 0) (hres : s.dram.resilient = true) (hch : ch.toNat < 7)
    (hspare : s.dram.spare = 0) :
    ∃ t, exec (.dramChRetire h ch) s = .next t ∧ t.Runs h 0x0C08 ∧ t.dram.spare = 1 ∧ t.dram.spared = some ch.toNat ∧
      t.dram.rebuild = some { ch := ch.toNat, retire := true, restore := false, pos := 0, ctx := some h.ctx.toNat } := by
  obtain ⟨t, he, hruns, hdram⟩ := exec_startsDram (i := .dramChRetire h ch) (d := { s.dram with
    spare := 1, spared := some ch.toNat,
    rebuild := some { ch := ch.toNat, retire := true, restore := false, pos := 0, ctx := some h.ctx.toNat } }) rfl ha hp
    (decide_eq_true hch) (if_neg (by simp [hres, hspare]))
  exact ⟨t, he, hruns, by rw [hdram], by rw [hdram], by rw [hdram]⟩

theorem dramChRestore_starts (ha : s.accepts h [.j, .w] = true) (hp : h.plen = 0) (hres : s.dram.resilient = true) (hch : ch.toNat < 8)
    (hspare : s.dram.spare = 2) (hspared : s.dram.spared = some ch.toNat) (hidle : s.dram.rebuild = none) :
    ∃ t, exec (.dramChRestore h ch) s = .next t ∧ t.Runs h 0x0C0A ∧
      t.dram.rebuild = some { ch := ch.toNat, retire := false, restore := true, pos := 0, ctx := some h.ctx.toNat } := by
  obtain ⟨t, he, hruns, hdram⟩ := exec_startsDram (i := .dramChRestore h ch) (d := { s.dram with
    rebuild := some { ch := ch.toNat, retire := false, restore := true, pos := 0, ctx := some h.ctx.toNat } }) rfl ha hp
    (decide_eq_true hch) (if_neg (by simp [hres, hspare, hspared, hidle]))
  exact ⟨t, he, hruns, by rw [hdram]⟩

/-- A partial result leaves the command running. -/
theorem State.Runs.partialRec {op skip : Nat} {bs : List Byte} {u : State} (hr : u.Runs h op) :
    (u.partialRec h.ctx.toNat skip bs).Runs h op := by
  unfold State.partialRec
  dsimp only
  split
  · unfold State.Runs
    rw [State.ctx_setCtx_self]
    exact hr
  · exact hr

theorem State.partialRec_fresh (n skip : Nat) (bs : List Byte) (u : State) : (u.partialRec n skip bs).fresh = u.fresh := by
  unfold State.partialRec
  dsimp only
  split <;> rfl

/-- Each pass of a test draws the number of errors that it finds, and leaves the command running. -/
theorem State.testPasses_runs {op : Nat} (k sum : Nat) {u : State} (hr : u.Runs h op) :
    (State.testPasses h.ctx.toNat k sum u).2.Runs h op ∧ (State.testPasses h.ctx.toNat k sum u).2.fresh = u.fresh + k := by
  induction k generalizing sum u with
  | zero => exact ⟨hr, rfl⟩
  | succ k ih =>
    have hfree : (u.free 32).2.Runs h op := hr
    obtain ⟨hruns, hfresh⟩ := ih (satAdd 0xFFFFFFFF sum (u.free 32).1) (hfree.partialRec (skip := 0) (bs := le 4 (u.free 32).1))
    refine ⟨hruns, hfresh.trans ?_⟩
    rw [State.partialRec_fresh]
    exact Nat.succ_add_eq_add_succ ..

theorem dramChTest_ends {passes : BitVec 8} (ha : s.accepts h [.j, .w] = true) (hp : h.plen = 0) (hres : s.dram.resilient = true)
    (hch : ch.toNat < 8) (hspare : s.dram.spare = 2) (hspared : s.dram.spared = some ch.toNat) (hpasses : passes ≠ 0) :
    ∃ t d, exec (.dramChTest h ch passes) s = .next t ∧ t.Done h 0x0C09 d ∧ t.fresh = s.fresh + passes.toNat := by
  obtain ⟨hruns, hfresh⟩ := State.testPasses_runs passes.toNat 0 (s.taken_runs h 0x0C09)
  have hone : 1 ≤ passes.toNat := Nat.one_le_iff_ne_zero.2 fun e => hpasses (BitVec.eq_of_toNat_eq e)
  have he : exec (.dramChTest h ch passes) s = .next ((State.testPasses h.ctx.toNat passes.toNat 0 (s.taken h 0x0C09)).2.done h.ctx.toNat
      (le 4 (State.testPasses h.ctx.toNat passes.toNat 0 (s.taken h 0x0C09)).1)).settle :=
    exec_of_ending_body rfl ha hp (by simp [hch, hone]) (if_neg (by simp [hres, hspare, hspared]))
  refine ⟨_, _, he, (hruns.finish_ended ..).settle, ?_⟩
  rw [State.settle_fresh, State.done_fresh, hfresh]
  rfl

end

end

/-- Settles O20, one command after the other. That a release ends with the lines the ring still holds, that a window in use by an
unfinished reference is not freed, and what RING_SET keeps of the old ring are the model's choices (log entries 17, 173 and 16). -/
theorem memoryCommandsComplete : Obligations.MemoryCommandsComplete :=
  ⟨fun _ _ hp => ⟨fun ha =>
      ⟨fun _ _ _ _ hpart hsize hnew hw hroom => winCreate_creates ha hp hpart hsize hnew hw hroom,
        fun _ _ _ hwin hbar hfits hapart => winMap_maps ha hp hwin hbar hfits hapart,
        fun _ _ hwin hbar hidle => winUnmap_unmaps ha hp hwin hbar hidle,
        fun _ _ hwin hbar hfree => winFree_frees ha hp hwin hbar hfree,
        fun _ _ _ _ _ _ hq hrl hc hpos hpages hwin hfits => ringSet_sets ha hp hq hrl hc hpos hpages hwin hfits⟩,
      fun _ _ ha hmark => pageRelease_releases ha hp hmark⟩,
    fun _ _ _ hp => ⟨fun ha => dramTrain_starts ha hp, fun ha hres =>
      ⟨fun hch hspare => dramChRetire_starts ha hp hres hch hspare, fun hch hspare hspared =>
        ⟨fun _ hpasses => dramChTest_ends ha hp hres hch hspare hspared hpasses,
          fun hidle => dramChRestore_starts ha hp hres hch hspare hspared hidle⟩⟩⟩⟩

end Sys2Proof.Machine
end

section
/-! PROOFS. Doorbells, commands that a doorbell has executed, and completion entries (R535, R538, R539, R543, R545, R546). -/

namespace Sys2Proof.Machine

/-! ## The end of an event -/

section
variable {n : Nat} {s t : State}

/-- `t` shows the contexts of `s`, but that a command may have ended. -/
def State.KeepsContexts (s t : State) : Prop := t.pantry = s.pantry ∧ ∀ n, (t.ctx n).paused = (s.ctx n).paused ∧
  (t.ctx n).rung = (s.ctx n).rung ∧ ((s.ctx n).cur = none → t.ctx n = s.ctx n)

theorem State.KeepsContexts.trans {u : State} (h : s.KeepsContexts t) (k : t.KeepsContexts u) : s.KeepsContexts u := by
  refine ⟨k.1.trans h.1, fun n => ?_⟩
  obtain ⟨hp, hr, hc⟩ := h.2 n
  obtain ⟨kp, kr, kc⟩ := k.2 n
  exact ⟨kp.trans hp, kr.trans hr, fun hcur => (kc ((congrArg Ctx.cur (hc hcur)).trans hcur)).trans (hc hcur)⟩

theorem State.done_keepsContexts (k : Nat) (data : List Byte) (s : State) : s.KeepsContexts (s.done k data) := by
  refine ⟨State.done_pantry .., fun n => ?_⟩
  by_cases e : n = k
  · subst e
    unfold State.done
    cases hcur : (s.ctx n).cur with
    | none => rw [State.finish_of_none _ _ _ _ hcur]; exact ⟨rfl, rfl, fun _ => rfl⟩
    | some c =>
      cases hcpl : c.noCpl with
      | false =>
        rw [State.finish_of_entry _ _ _ hcur hcpl, State.ctx_setCtx_self]
        exact ⟨rfl, rfl, fun h => by cases h⟩
      | true =>
        rw [State.finish_of_noCpl _ _ _ hcur hcpl, State.ctx_setCtx_self]
        exact ⟨rfl, rfl, fun h => by cases h⟩
  · rw [State.done, State.finish_ctx_ne _ _ _ _ e]
    exact ⟨rfl, rfl, fun _ => rfl⟩

theorem State.setPort_ctx (p : Nat) (f : HostPort → HostPort) (s : State) (n : Nat) : (s.setPort p f).ctx n = s.ctx n := by
  unfold State.setPort
  split <;> rfl

theorem State.quiesceCheck_keepsContexts (p : Nat) (s : State) : s.KeepsContexts (s.quiesceCheck p) := by
  have hrefl : s.KeepsContexts s := ⟨rfl, fun _ => ⟨rfl, rfl, fun _ => rfl⟩⟩
  unfold State.quiesceCheck
  split
  · exact hrefl
  · split
    · exact hrefl
    · refine State.KeepsContexts.trans ⟨State.setPort_pantry .., fun n => ?_⟩ (State.done_keepsContexts ..)
      rw [State.setPort_ctx]
      exact ⟨rfl, rfl, fun _ => rfl⟩

theorem State.settle_keepsContexts (s : State) : s.KeepsContexts s.settle :=
  ⟨State.settle_pantry _, fun n => by rw [State.settle_ctx]; exact ⟨rfl, rfl, fun _ => rfl⟩⟩

/-- An event that ends with the QUIESCE of both ports looked at shows the contexts as it left them. -/
theorem State.dmaOut_keepsContexts (s : State) : ∃ t, s.dmaOut = .next t ∧ s.KeepsContexts t :=
  ⟨_, rfl, ((s.quiesceCheck_keepsContexts 0).trans (State.quiesceCheck_keepsContexts 1 _)).trans (State.settle_keepsContexts _)⟩

end

/-! ## Doorbells (R535, R538, R539, R543) -/

section
variable {tm : Nat} {port : BitVec 1} {n : BitVec 8} {s : State}

theorem State.settle_ctxs (s : State) : s.settle.host.ctxs = s.host.ctxs := by
  obtain ⟨_, _, _, _, _, _, _, _, e⟩ := s.settle_signals
  rw [e]

theorem mbDoorbell_ignored (h : s.mode.mode = .boot ∨ (s.ctx n.toNat).owner ≠ port.toNat ∨ (s.ctx n.toNat).shut = true)
    (hq0 : s.host.port0.quiesce = none) (hq1 : s.host.port1.quiesce = none) :
    ∃ t, exec (.mbDoorbell tm port n) s = .next t ∧ t.host.ctxs = s.host.ctxs ∧ t.pantry = s.pantry := by
  have hbell : (s.atTime tm).doorbell port.toNat n.toNat = s.atTime tm := by
    refine if_pos ?_
    rw [show (s.atTime tm).ctx n.toNat = s.ctx n.toNat from rfl, show (s.atTime tm).mode = s.mode from rfl]
    obtain h | h | h := h <;> simp [h]
  have he : exec (.mbDoorbell tm port n) s = .next (s.atTime tm).settle :=
    (congrArg State.dmaOut hbell).trans (State.dmaOut_of_none hq0 hq1)
  exact ⟨_, he, by rw [State.settle_ctxs]; rfl, by rw [State.settle_pantry]; rfl⟩

/-- A context that the host has rung (R543). -/
def State.ringing (n : Nat) (s : State) : State := s.setCtx n fun x => { x with paused := false, rung := true }

theorem exec_mbDoorbell_of_owner (hmode : s.mode.mode ≠ .boot) (howner : (s.ctx n.toNat).owner = port.toNat)
    (hopen : (s.ctx n.toNat).shut = false) :
    exec (.mbDoorbell tm port n) s = (State.drain n.toNat mailFuel ((s.atTime tm).ringing n.toNat)).dmaOut := by
  refine congrArg State.dmaOut (if_neg ?_)
  rw [show (s.atTime tm).ctx n.toNat = s.ctx n.toNat from rfl, show (s.atTime tm).mode = s.mode from rfl]
  simp [hmode, howner, hopen]

theorem State.drain_mailFuel (n : Nat) (s : State) : State.drain n mailFuel s =
    if !s.hasCmd n then s.setCtx n (fun x => { x with rung := false })
    else if s.canTake n then State.drain n 64 (s.takeHead n) else s := rfl

theorem State.drain_of_noCmd {k i : Nat} (h : s.hasCmd k = false) :
    State.drain k (i + 1) s = s.setCtx k fun x => { x with rung := false } := by
  rw [State.drain, h, Bool.not_false, if_pos rfl]

theorem State.hasCmd_congr {k : Nat} {t : State} (h : t.pantry = s.pantry) : t.hasCmd k = s.hasCmd k := by
  unfold State.hasCmd
  rw [State.q_eq h]

theorem mbDoorbell_of_empty (hmode : s.mode.mode ≠ .boot) (howner : (s.ctx n.toNat).owner = port.toNat)
    (hopen : (s.ctx n.toNat).shut = false) (hcmd : s.hasCmd n.toNat = false) :
    ∃ t, exec (.mbDoorbell tm port n) s = .next t ∧ (t.ctx n.toNat).paused = false ∧ (t.ctx n.toNat).rung = false := by
  have hcmd' : ((s.atTime tm).ringing n.toNat).hasCmd n.toNat = false := (State.hasCmd_congr rfl).trans hcmd
  obtain ⟨t, ht, -, hctx⟩ := (State.drain n.toNat mailFuel ((s.atTime tm).ringing n.toNat)).dmaOut_keepsContexts
  obtain ⟨hpaused, hrung, -⟩ := hctx n.toNat
  rw [State.drain_mailFuel, hcmd', Bool.not_false, if_pos rfl, State.ctx_setCtx_self] at hpaused hrung
  refine ⟨t, (exec_mbDoorbell_of_owner hmode howner hopen).trans ht, hpaused.trans ?_, hrung⟩
  exact congrArg Ctx.paused (State.ctx_setCtx_self ..)

theorem mbDoorbell_of_running (hmode : s.mode.mode ≠ .boot) (howner : (s.ctx n.toNat).owner = port.toNat)
    (hopen : (s.ctx n.toNat).shut = false) (hcmd : s.hasCmd n.toNat = true) (hcur : (s.ctx n.toNat).cur.isSome = true)
    (hq0 : s.host.port0.quiesce = none) (hq1 : s.host.port1.quiesce = none) :
    ∃ t, exec (.mbDoorbell tm port n) s = .next t ∧ (t.ctx n.toNat).paused = false ∧ (t.ctx n.toNat).rung = true ∧
      t.pantry = s.pantry := by
  have hcmd' : ((s.atTime tm).ringing n.toNat).hasCmd n.toNat = true := (State.hasCmd_congr rfl).trans hcmd
  have hctx : ((s.atTime tm).ringing n.toNat).ctx n.toNat = { s.ctx n.toNat with paused := false, rung := true } :=
    State.ctx_setCtx_self ..
  have hbusy : ((s.atTime tm).ringing n.toNat).canTake n.toNat = false := by
    have hsome : (s.ctx n.toNat).cur.isNone = false := by rw [Option.isNone_eq_false_iff]; exact hcur
    unfold State.canTake
    rw [hctx]
    simp [hsome]
  have hdrain : State.drain n.toNat mailFuel ((s.atTime tm).ringing n.toNat) = (s.atTime tm).ringing n.toNat := by
    rw [State.drain_mailFuel, hcmd', hbusy]
    rfl
  have he : exec (.mbDoorbell tm port n) s = .next ((s.atTime tm).ringing n.toNat).settle := by
    rw [exec_mbDoorbell_of_owner hmode howner hopen, hdrain]
    exact State.dmaOut_of_none hq0 hq1
  refine ⟨_, he, ?_, ?_, by rw [State.settle_pantry]; rfl⟩
  · rw [State.settle_ctx, hctx]
  · rw [State.settle_ctx, hctx]

/-! ## DEV_IDENTIFY through the mailbox (R543, R545, R562) -/

/-- Only opcode 0x0100 is DEV_IDENTIFY; its header comes from the command's bytes. -/
theorem parseCmd_devIdentify {t n : Nat} {bs : List Byte} {h : Hdr} (hp : parseCmd t n bs = some (.devIdentify h)) :
    h = headOf t n bs [] := by
  unfold parseCmd at hp
  dsimp only at hp
  split at hp <;> cases hp
  rfl

/-- The context has its command taken out of the submission queue (R543). -/
def State.unqueued (n : Nat) (s : State) : State :=
  (s.setQ (256 + n) fun q => { q.noteCycle s.now with cells := q.cells.drop 1 }).freeCell 1

theorem State.takeHead_of_parse {k : Nat} {c : Cell} {cs : List Cell} {i : Instr} (hcells : (s.q (256 + k)).cells = c :: cs)
    (hparse : parseCmd s.now k c.bytes = some i) : s.takeHead k = (s.unqueued k).after (State.runMail i) := by
  have hnow : (s.unqueued k).now = s.now := rfl
  rw [← hnow] at hparse
  unfold State.takeHead
  rw [hcells]
  dsimp only
  rw [← State.unqueued, hparse]

theorem State.unqueued_cells (k : Nat) (s : State) : ((s.unqueued k).q (256 + k)).cells = ((s.q (256 + k)).cells).drop 1 :=
  congrArg Queue.cells ((State.q_freeCell ..).trans (State.q_setQ_self ..))

/-- A command of class C that the host has queued is accepted where its context is free and its port is up (R543, R545). -/
theorem State.accepts_of_free {h : Hdr} (hmode : s.mode.mode ≠ .boot) (hserved : s.served = true)
    (hopen : (s.ctx h.ctx.toNat).shut = false) (hpaused : (s.ctx h.ctx.toNat).paused = false)
    (hlink : (s.port (s.ctx h.ctx.toNat).owner).link = .up) (hcur : (s.ctx h.ctx.toNat).cur = none)
    (hend : (s.ctx h.ctx.toNat).ending = none) (hdef : (s.ctx h.ctx.toNat).deferred = none) (hrsv : h.rsvBad = false)
    (hflags : h.flags = 0) (hp : h.plen = 0) : s.canTake h.ctx.toNat = true ∧ s.accepts h [.c] = true := by
  have htake : s.canTake h.ctx.toNat = true := by
    simp [State.canTake, State.paused, hmode, hserved, hopen, hpaused, hlink, hcur, hend, hdef]
  exact ⟨htake, by simp [State.accepts, htake, hrsv, hflags, hp, Cls.ok, hmode]⟩

/-- The end of a command leaves the QUIESCE of the host ports. -/
theorem State.done_hostPorts (k : Nat) (data : List Byte) (s : State) :
    (s.done k data).host.port0 = s.host.port0 ∧ (s.done k data).host.port1 = s.host.port1 := by
  obtain ⟨-, e⟩ | ⟨f, e, -⟩ := s.finish_cases k .done cOk data
  · rw [State.done, e]; exact ⟨rfl, rfl⟩
  · rw [State.done, e]; exact ⟨rfl, rfl⟩

theorem takeDevIdentify_of_accepts {h : Hdr} (ha : s.accepts h [.c] = true) (hp : h.plen = 0) :
    takeDevIdentify h s = (s.taken h 0x0100).done h.ctx.toNat s.identity := by
  unfold takeDevIdentify
  rw [State.take_of_accepts_empty ha hp rfl]
  rfl

/-- A DEV_IDENTIFY alone in its queue has been done, and the doorbell is answered (R543, R562). -/
def State.identified (h : Hdr) (u : State) : State :=
  (u.after fun u => (u.taken h 0x0100).done h.ctx.toNat u.identity).setCtx h.ctx.toNat fun x => { x with rung := false }

section
variable (h : Hdr) (u : State)

theorem State.identified_pantry : (u.identified h).pantry = u.pantry := by
  have hafter : ∀ f : State → State, (u.after f).pantry = (f u).pantry := fun _ => rfl
  have htaken : (u.taken h 0x0100).pantry = u.pantry := rfl
  rw [State.identified, State.setCtx_pantry, hafter, State.done_pantry, htaken]

theorem State.identified_done : (u.identified h).Done h 0x0100 u.identity := by
  have hended : ((u.taken h 0x0100).done h.ctx.toNat u.identity).Ended h 0x0100 .done cOk u.identity 0 :=
    (u.taken_runs h 0x0100).finish_ended ..
  have hshown : (u.identified h).ctx h.ctx.toNat =
      { ((u.taken h 0x0100).done h.ctx.toNat u.identity).ctx h.ctx.toNat with rung := false } := by
    rw [State.identified, State.ctx_setCtx_self, State.after_ctx]
  refine hended.congr ?_ ?_ ?_ ?_
  all_goals rw [hshown]

theorem State.identified_quiesce : (u.identified h).host.port0.quiesce = u.host.port0.quiesce ∧
    (u.identified h).host.port1.quiesce = u.host.port1.quiesce := by
  have hafter : ∀ f : State → State, (u.after f).host.port0 = (f u).host.port0 ∧ (u.after f).host.port1 = (f u).host.port1 :=
    fun _ => ⟨rfl, rfl⟩
  have hset : ∀ (g : Ctx → Ctx) (v : State), (v.setCtx h.ctx.toNat g).host.port0 = v.host.port0 ∧
      (v.setCtx h.ctx.toNat g).host.port1 = v.host.port1 := fun _ _ => ⟨rfl, rfl⟩
  have htaken : (u.taken h 0x0100).host.port0 = u.host.port0 ∧ (u.taken h 0x0100).host.port1 = u.host.port1 := ⟨rfl, rfl⟩
  obtain ⟨h0, h1⟩ := (u.taken h 0x0100).done_hostPorts h.ctx.toNat u.identity
  rw [State.identified, (hset _ _).1, (hset _ _).2, (hafter _).1, (hafter _).2, h0, h1, htaken.1, htaken.2]
  exact ⟨rfl, rfl⟩

end

/-- The last command of a queue, a DEV_IDENTIFY, is taken and done (R543, R562). -/
theorem State.drain_devIdentify {k : Nat} {c : Cell} {h : Hdr} (hk : h.ctx.toNat = k) (hcells : (s.q (256 + k)).cells = [c])
    (hwhole : c.isOpen = false) (hparse : parseCmd s.now k c.bytes = some (.devIdentify h)) (htake : s.canTake k = true)
    (ha : (s.unqueued k).accepts h [.c] = true) (hp : h.plen = 0) :
    State.drain k mailFuel s = (s.unqueued k).identified h := by
  subst hk
  have hcmd : s.hasCmd h.ctx.toNat = true := by
    unfold State.hasCmd
    rw [hcells]
    simp [hwhole]
  have hhead : s.takeHead h.ctx.toNat = (s.unqueued h.ctx.toNat).after fun u => (u.taken h 0x0100).done h.ctx.toNat u.identity := by
    have hrun : (s.unqueued h.ctx.toNat).after (State.runMail (.devIdentify h)) =
        (s.unqueued h.ctx.toNat).after fun u => (u.taken h 0x0100).done h.ctx.toNat u.identity := by
      have he : State.runMail (.devIdentify h) (s.unqueued h.ctx.toNat) = _ := takeDevIdentify_of_accepts ha hp
      unfold State.after
      dsimp only
      rw [he]
    exact (State.takeHead_of_parse hcells hparse).trans hrun
  have hempty : ((s.unqueued h.ctx.toNat).q (256 + h.ctx.toNat)).cells = [] := by
    rw [State.unqueued_cells, hcells]
    rfl
  have hnone : (s.takeHead h.ctx.toNat).hasCmd h.ctx.toNat = false := by
    have hpantry : (s.takeHead h.ctx.toNat).pantry = (s.unqueued h.ctx.toNat).pantry := by
      rw [hhead]
      exact State.done_pantry ..
    rw [State.hasCmd_congr hpantry]
    unfold State.hasCmd
    rw [hempty]
  have hid : (s.unqueued h.ctx.toNat).identified h = (s.takeHead h.ctx.toNat).setCtx h.ctx.toNat fun x => { x with rung := false } := by
    rw [hhead]
    rfl
  rw [State.drain_mailFuel, hcmd, htake, hid]
  exact State.drain_of_noCmd (i := 63) hnone

theorem mbDoorbell_identifies {c : Cell} {h : Hdr} (hmode : s.mode.mode ≠ .boot) (howner : (s.ctx n.toNat).owner = port.toNat)
    (hopen : (s.ctx n.toNat).shut = false) (hcells : (s.q (256 + n.toNat)).cells = [c]) (hwhole : c.isOpen = false)
    (hparse : parseCmd (max s.now tm) n.toNat c.bytes = some (.devIdentify h)) (hrsv : h.rsvBad = false) (hflags : h.flags = 0)
    (hp : h.plen = 0) (hserved : s.served = true) (hlink : (s.port port.toNat).link = .up) (hcur : (s.ctx n.toNat).cur = none)
    (hend : (s.ctx n.toNat).ending = none) (hdef : (s.ctx n.toNat).deferred = none) (hq0 : s.host.port0.quiesce = none)
    (hq1 : s.host.port1.quiesce = none) :
    ∃ t, exec (.mbDoorbell tm port n) s = .next t ∧ (t.q (256 + n.toNat)).cells = [] ∧ t.Done h 0x0100 s.identity := by
  let r := (s.atTime tm).ringing n.toNat
  let u := r.unqueued n.toNat
  have hhead := parseCmd_devIdentify hparse
  have hk : h.ctx.toNat = n.toNat := by
    rw [hhead]
    exact Nat.mod_eq_of_lt n.isLt
  have hctx : r.ctx n.toNat = { s.ctx n.toNat with paused := false, rung := true } := State.ctx_setCtx_self ..
  have hport : r.port (r.ctx h.ctx.toNat).owner = s.port port.toNat := by
    rw [hk, hctx, ← howner]
    rfl
  obtain ⟨htake, -⟩ := State.accepts_of_free (s := r) (h := h) hmode hserved (by rw [hk, hctx]; exact hopen) (by rw [hk, hctx])
    (by rw [hport]; exact hlink) (by rw [hk, hctx]; exact hcur) (by rw [hk, hctx]; exact hend) (by rw [hk, hctx]; exact hdef)
    hrsv hflags hp
  have ha : u.accepts h [.c] = true := (State.accepts_of_free (s := u) (h := h) hmode hserved
    (by rw [hk]; exact (congrArg Ctx.shut hctx).trans hopen) (by rw [hk]; exact congrArg Ctx.paused hctx) ((congrArg HostPort.link hport).trans hlink)
    (by rw [hk]; exact (congrArg Ctx.cur hctx).trans hcur) (by rw [hk]; exact (congrArg Ctx.ending hctx).trans hend)
    (by rw [hk]; exact (congrArg Ctx.deferred hctx).trans hdef) hrsv hflags hp).2
  rw [hk] at htake
  have hrcells : (r.q (256 + n.toNat)).cells = [c] := hcells
  obtain ⟨hquiesce0, hquiesce1⟩ := u.identified_quiesce h
  have he : exec (.mbDoorbell tm port n) s = .next (u.identified h).settle := by
    rw [exec_mbDoorbell_of_owner hmode howner hopen, State.drain_devIdentify hk hrcells hwhole hparse htake ha hp]
    exact State.dmaOut_of_none (hquiesce0.trans hq0) (hquiesce1.trans hq1)
  refine ⟨_, he, ?_, (u.identified_done h).settle⟩
  rw [State.settle_q, State.q_eq (u.identified_pantry h), State.unqueued_cells, hrcells]
  rfl

end

/-! ## Completion entries (R546) -/

section
variable {k : Nat} {s : State}

/-- Bytes that fit the open tail cell join it (R491). -/
theorem State.push_joins {bs : List Byte} {c : Cell} {cs : List Cell} (hen : (s.q k).en = true) (hcells : (s.q k).cells = cs ++ [c])
    (hopen : c.isOpen = true) (hfits : bs.length ≤ 64 - c.bytes.length) :
    ∃ t, s.push k bs = some t ∧ (t.q k).en = true ∧ t.pantry.held = s.pantry.held ∧ (t.q k).cells =
      cs ++ [{ c with bytes := c.bytes ++ bs, isOpen := decide ((c.bytes ++ bs).length < 64) }] := by
  have hlast : (s.q k).cells.getLast? = some c := by rw [hcells]; simp
  have hroom : (s.q k).tailRoom = 64 - c.bytes.length := by
    unfold Queue.tailRoom
    rw [hlast]
    simp [hopen]
  have hpush : s.push k bs = some (s.setQ k fun q => { q.noteCycle s.now with cells := joinTail bs q.cells }) := by
    unfold State.push
    dsimp only
    rw [hen, hroom, if_neg (by decide), if_pos hfits]
  have hnote : ∀ x : Queue, (x.noteCycle s.now).en = x.en := by
    intro x
    unfold Queue.noteCycle
    split <;> rfl
  refine ⟨_, hpush, ?_, rfl, ?_⟩
  · rw [State.q_setQ_self]
    exact (hnote _).trans hen
  · rw [State.q_setQ_self]
    show joinTail bs (s.q k).cells = _
    unfold joinTail
    rw [hlast, hcells]
    simp

/-- A record of 8 bytes a push that fits the open tail cell fills it. -/
theorem State.pushItems_fill {cs : List Cell} : ∀ {l : List (List Byte)} {s : State} {c : Cell}, (s.q k).en = true →
    (s.q k).cells = cs ++ [c] → (c.isOpen = decide (c.bytes.length < 64)) → sget [] k s.pantry.held = [] →
    (∀ b ∈ l, b.length = 8) → c.bytes.length + 8 * l.length = 64 →
    ((s.pushItems k l).q k).cells.map Cell.bytes = cs.map Cell.bytes ++ [c.bytes ++ l.flatten] ∧
      (s.pushItems k l).host = s.host
  | [], s, c, _, hcells, _, _, _, _ => by
    simp [State.pushItems, hcells]
  | b :: l, s, c, hen, hcells, hopen, hheld, hlen, htotal => by
    have hb : b.length = 8 := hlen b List.mem_cons_self
    rw [List.length_cons] at htotal
    obtain ⟨t, ht, hten, htheld, htcells⟩ := State.push_joins (bs := b) hen hcells
      (hopen.trans (decide_eq_true (by omega))) (by omega)
    obtain ⟨p, f, hshape⟩ := State.push_shape ht
    have hheld' : sget [] k t.pantry.held = [] := by rw [htheld, hheld]
    have hgrown : (c.bytes ++ b).length + 8 * l.length = 64 := by rw [List.length_append, hb]; omega
    obtain ⟨hbytes, hhost⟩ := State.pushItems_fill (s := t) hten htcells rfl hheld' (fun x hx => hlen x (List.mem_cons_of_mem _ hx)) hgrown
    have hitems : s.pushItems k (b :: l) = t.pushItems k l := by
      rw [State.pushItems, if_pos (by rw [hheld]; rfl), ht]
    rw [hitems, hbytes, hhost, hshape]
    simp

theorem chunks_length_of_mem {α : Type} {n m : Nat} {l : List α} (hl : l.length = n * m) : ∀ x ∈ chunks n m l, x.length = n := by
  induction m generalizing l with
  | zero => intro x hx; cases hx
  | succ m ih =>
    rw [Nat.mul_succ] at hl
    intro x hx
    rw [chunks, List.mem_cons] at hx
    obtain rfl | hx := hx
    · rw [List.length_take]; omega
    · exact ih (by rw [List.length_drop]; omega) x hx

theorem chunks_flatten {α : Type} {n m : Nat} {l : List α} (hl : l.length = n * m) : (chunks n m l).flatten = l := by
  induction m generalizing l with
  | zero => exact (List.length_eq_zero_iff.1 hl).symm
  | succ m ih =>
    rw [Nat.mul_succ] at hl
    rw [chunks, List.flatten_cons, ih (by rw [List.length_drop]; omega), List.take_append_drop]

/-- A word of 64 bytes takes a new cell of its queue (R494, R546). -/
theorem State.pushHard_word {bs : List Byte} (hnew : s.canNew k = true) (hroom : (s.q k).tailRoom = 0)
    (hheld : sget [] k s.pantry.held = []) (hlen : bs.length = 64) :
    ((s.pushHard k bs).q k).cells.map Cell.bytes = (s.q k).cells.map Cell.bytes ++ [bs] ∧ (s.pushHard k bs).host = s.host := by
  have hchunks : chunks 8 (divUp bs.length 8) bs = bs.take 8 :: chunks 8 7 (bs.drop 8) := by
    rw [hlen]
    rfl
  have hrest : (bs.drop 8).length = 8 * 7 := by rw [List.length_drop, hlen]
  have hfirst : (bs.take 8).length = 8 := by rw [List.length_take, hlen]; rfl
  have hne : bs.take 8 ≠ [] := List.ne_nil_of_length_pos (by rw [hfirst]; decide)
  obtain ⟨u, hu⟩ : ∃ u, u = (s.setQ k fun x => { x.noteCycle s.now with cells := x.cells }).addCell k (bs.take 8) := ⟨_, rfl⟩
  have hpush : s.push k (bs.take 8) = some u := by rw [State.push_of_noTail hroom hne, if_pos hnew, hu]
  obtain ⟨id, hid⟩ := (s.setQ k fun x => { x.noteCycle s.now with cells := x.cells }).addCell_q k (bs.take 8)
  rw [← hu, State.q_setQ_self] at hid
  have hnote : ((s.q k).noteCycle s.now).en = true := by
    rw [show ((s.q k).noteCycle s.now).en = (s.q k).en by unfold Queue.noteCycle; split <;> rfl]
    exact (Bool.and_eq_true_iff.1 hnew).1
  have huheld : u.pantry.held = s.pantry.held := by rw [hu]; rfl
  obtain ⟨p, f, hshape⟩ := State.push_shape hpush
  have hrest : (bs.drop 8).length = 8 * 7 := by rw [List.length_drop, hlen]
  have hcount : ∀ m (l : List Byte), (chunks 8 m l).length = m := fun m => by
    induction m with
    | zero => exact fun _ => rfl
    | succ m ih => exact fun l => congrArg Nat.succ (ih _)
  obtain ⟨hbytes, hhost⟩ := State.pushItems_fill (k := k) (cs := (s.q k).cells) (l := chunks 8 7 (bs.drop 8)) (s := u)
    (c := { id := id, bytes := bs.take 8, isOpen := decide ((bs.take 8).length < 64) }) (by rw [hid]; exact hnote) (by rw [hid]) rfl
    (by rw [huheld, hheld]) (chunks_length_of_mem hrest) (by rw [hcount, hfirst])
  have hitems : s.pushHard k bs = u.pushItems k (chunks 8 7 (bs.drop 8)) := by
    rw [State.pushHard, hchunks, State.pushItems, if_pos (by rw [hheld]; rfl), hpush]
  rw [hitems, hbytes, hhost, chunks_flatten hrest, List.take_append_drop, hshape]
  exact ⟨rfl, rfl⟩

/-- A completion entry has 64 bytes (R546). -/
theorem Ending.bytes_length (e : Ending) (partials : Nat) : (e.bytes partials).length = 64 := by
  simp [Ending.bytes]

end

/-! ## COMPLETION_PUSH (R546) -/

section
variable {tm : Nat} {n : BitVec 8} {e : Ending} {s : State}

/-- Once its entry is pushed, a context shows the final state (R546). -/
def Ctx.entered (e : Ending) (x : Ctx) : Ctx := { x with ending := none, opState := e.state, result := e.result, discard := false }

theorem State.entryDone_shows (k : Nat) (e : Ending) (s : State) :
    (s.entryDone k e).ctx k = (s.ctx k).entered e ∧ (s.entryDone k e).pantry = s.pantry := by
  have hset : (s.setCtx k fun x => { x with ending := none, opState := e.state, result := e.result, discard := false }).ctx k =
      (s.ctx k).entered e := State.ctx_setCtx_self ..
  unfold State.entryDone
  dsimp only
  split
  · split
    · exact ⟨hset, rfl⟩
    · split
      · exact ⟨(State.setPort_ctx ..).trans hset, State.setPort_pantry ..⟩
      · exact ⟨hset, rfl⟩
    · exact ⟨hset, rfl⟩
    · exact ⟨hset, rfl⟩
  · exact ⟨hset, rfl⟩

theorem completionPush_pushes (hend : (s.ctx n.toNat).ending = some e) (hcur : (s.ctx n.toNat).cur = none)
    (hdiscard : (s.ctx n.toNat).discard = false) (hmode : s.mode.mode ≠ .boot) (hserved : s.served = true)
    (hroom : (s.atTime tm).hasRoom (512 + n.toNat) = true) (hrung : (s.ctx n.toNat).rung = false)
    (htail : (s.q (512 + n.toNat)).tailRoom = 0) (hheld : sget [] (512 + n.toNat) s.pantry.held = []) :
    ∃ t, exec (.completionPush tm n) s = .next t ∧ (t.ctx n.toNat).ending = none ∧ (t.ctx n.toNat).opState = e.state ∧
      (t.ctx n.toNat).result = e.result ∧ (t.q (512 + n.toNat)).cells.map Cell.bytes =
        (s.q (512 + n.toNat)).cells.map Cell.bytes ++ [e.bytes (s.ctx n.toNat).partials] := by
  obtain ⟨u, hu⟩ : ∃ u, u = (s.atTime tm).pushHard (512 + n.toNat) (e.bytes (s.ctx n.toNat).partials) := ⟨_, rfl⟩
  obtain ⟨hbytes, hhost⟩ : (u.q (512 + n.toNat)).cells.map Cell.bytes = (s.q (512 + n.toNat)).cells.map Cell.bytes ++
      [e.bytes (s.ctx n.toNat).partials] ∧ u.host = (s.atTime tm).host := by
    rw [hu]
    exact State.pushHard_word (s := s.atTime tm) hroom htail hheld (e.bytes_length _)
  have huctx : u.ctx n.toNat = s.ctx n.toNat := by
    unfold State.ctx
    rw [hhost]
    rfl
  obtain ⟨hctx, hpantry⟩ := u.entryDone_shows n.toNat e
  rw [huctx] at hctx
  have he : exec (.completionPush tm n) s = (u.entryDone n.toNat e).dmaOut := by
    have hgo : ((s.atTime tm).mode.mode == .boot || !(s.atTime tm).served ||
        !(((s.atTime tm).ctx n.toNat).discard || (s.atTime tm).hasRoom (512 + n.toNat))) = false := by
      have hserved' : (s.atTime tm).served = true := hserved
      simp [hroom, hmode, hserved']
    have hquiet : ¬ ((u.entryDone n.toNat e).ctx n.toNat).rung = true := by
      rw [hctx]
      simp [Ctx.entered, hrung]
    show execCompletionPush tm n s = _
    unfold execCompletionPush
    dsimp only
    rw [show (s.atTime tm).ctx n.toNat = s.ctx n.toNat from rfl] at hgo ⊢
    rw [hend]
    dsimp only
    rw [hgo, hdiscard]
    simp only [Bool.false_eq_true, if_false]
    rw [← hu, if_neg hquiet]
  obtain ⟨t, ht, htpantry, htctx⟩ := (u.entryDone n.toNat e).dmaOut_keepsContexts
  have hkept := (htctx n.toNat).2.2 (by rw [hctx]; exact hcur)
  refine ⟨t, he.trans ht, ?_⟩
  rw [hkept, hctx, State.q_eq (htpantry.trans hpantry)]
  exact ⟨rfl, rfl, rfl, hbytes⟩

theorem completionPush_waits (hend : (s.ctx n.toNat).ending = some e) (hdiscard : (s.ctx n.toNat).discard = false)
    (hroom : (s.atTime tm).hasRoom (512 + n.toNat) = false) :
    ∃ t, exec (.completionPush tm n) s = .next t ∧ (t.ctx n.toNat).ending = some e ∧ t.pantry = s.pantry := by
  have he : exec (.completionPush tm n) s = .next (s.atTime tm).settle := by
    show execCompletionPush tm n s = _
    unfold execCompletionPush
    dsimp only
    rw [show (s.atTime tm).ctx n.toNat = s.ctx n.toNat from rfl, hend]
    dsimp only
    rw [hdiscard, hroom, if_pos (by simp), State.out_eq]
  exact ⟨_, he, by rw [State.settle_ctx]; exact hend, by rw [State.settle_pantry]; rfl⟩

end

/-- Settles O24, doorbells first. -/
theorem mailboxEventsComplete : Obligations.MailboxEventsComplete :=
  ⟨fun _ _ _ _ => ⟨fun h hq0 hq1 => mbDoorbell_ignored h hq0 hq1, fun hmode howner hopen =>
      ⟨fun hcmd => mbDoorbell_of_empty hmode howner hopen hcmd,
        fun hcmd hcur hq0 hq1 => mbDoorbell_of_running hmode howner hopen hcmd hcur hq0 hq1,
        fun _ _ hcells hwhole hparse hrsv hflags hp hserved hlink hcur hend hdef hq0 hq1 =>
          mbDoorbell_identifies hmode howner hopen hcells hwhole hparse hrsv hflags hp hserved hlink hcur hend hdef hq0 hq1⟩⟩,
    fun _ _ _ _ hend hcur hdiscard hmode hserved =>
      ⟨fun hroom hrung htail hheld => completionPush_pushes hend hcur hdiscard hmode hserved hroom hrung htail hheld,
        fun hroom => completionPush_waits hend hdiscard hroom⟩⟩

end Sys2Proof.Machine
end

section
/-! PROOFS. The host ports: PERST_N, links and their loss, port resets, removal, the deadline of QUIESCE, and BAR2 (R534 to R538, R552,
R553). -/

namespace Sys2Proof.Machine

/-! ## Host ports -/

/-- What a port shows besides its link and its vectors. -/
def HostPort.settings (h : HostPort) : Bool × Bool × BitVec 5 × BitVec 3 × Bool := (h.perst, h.prsnt, h.width, h.speed, h.d3)

section
variable (p q : Nat) (f : HostPort → HostPort) (s : State)

theorem State.port_setPort : (s.setPort p f).port q = if (p = 0 ↔ q = 0) then f (s.port q) else s.port q := by
  unfold State.setPort State.port
  split <;> split <;> simp_all

theorem State.port_setPort_self : (s.setPort p f).port p = f (s.port p) := by
  rw [State.port_setPort, if_pos Iff.rfl]

theorem State.settle_port : ∃ m, s.settle.port q = { s.port q with msix := m } := by
  obtain ⟨_, _, _, a, b, _, _, _, e⟩ := s.settle_signals
  rw [e]
  unfold State.port
  split
  · exact ⟨a, rfl⟩
  · exact ⟨b, rfl⟩

theorem State.pulse_port (i : Nat) : ∃ m, (s.pulse i).port q = { s.port q with msix := m } := by
  obtain ⟨_, _, _, a, b, _, _, _, e⟩ := s.pulse_signals i
  rw [e]
  unfold State.port
  split
  · exact ⟨a, rfl⟩
  · exact ⟨b, rfl⟩

theorem State.done_port (k : Nat) (data : List Byte) : (s.done k data).port q = s.port q := by
  obtain ⟨h0, h1⟩ := s.done_hostPorts k data
  unfold State.port
  rw [h0, h1]

theorem State.linkTo_port (l : PortLink) : ∃ a, (s.linkTo p l).port p = { s.port p with link := l, since := a } :=
  ⟨_, State.port_setPort_self ..⟩

theorem State.funcReset_port : (s.funcReset p).port p = { s.port p with msix := [], d3 := false } := State.port_setPort_self ..

end

/-- `t` differs from `s` at most by messages, and by a QUIESCE that has ended on a port that was up. -/
structure State.QuietEnd (s t : State) : Prop where
  dma : t.dma = s.dma
  pantry : t.pantry = s.pantry
  rung : ∀ n, (t.ctx n).rung = (s.ctx n).rung
  settings : ∀ p, (t.port p).settings = (s.port p).settings
  link : ∀ p, (s.port p).link ≠ .up → (t.port p).link = (s.port p).link
  latch : ∀ i, s.ev.latch.getLsbD i = true → t.ev.latch.getLsbD i = true

namespace State.QuietEnd

variable {s t u : State}

theorem trans (h : s.QuietEnd t) (k : t.QuietEnd u) : s.QuietEnd u where
  dma := k.dma.trans h.dma
  pantry := k.pantry.trans h.pantry
  rung n := (k.rung n).trans (h.rung n)
  settings p := (k.settings p).trans (h.settings p)
  link p hp := (k.link p (by rw [h.link p hp]; exact hp)).trans (h.link p hp)
  latch i hi := k.latch i (h.latch i hi)

theorem of_settle (s : State) : s.QuietEnd s.settle where
  dma := State.settle_dma _
  pantry := State.settle_pantry _
  rung n := by rw [State.settle_ctx]
  settings p := by obtain ⟨_, e⟩ := s.settle_port p; rw [e]; rfl
  link p _ := by obtain ⟨_, e⟩ := s.settle_port p; rw [e]
  latch _ hi := State.settle_latch_mono hi

theorem refl (s : State) : s.QuietEnd s := ⟨rfl, rfl, fun _ => rfl, fun _ => rfl, fun _ _ => rfl, fun _ h => h⟩

theorem of_done (k : Nat) (data : List Byte) (s : State) : s.QuietEnd (s.done k data) where
  dma := State.done_dma ..
  pantry := State.done_pantry ..
  rung n := ((s.done_keepsContexts k data).2 n).2.1
  settings p := by rw [State.done_port]
  link p _ := by rw [State.done_port]
  latch i hi := by rw [State.done_ev]; exact hi

theorem of_setPort {p : Nat} {f : HostPort → HostPort} (hset : ∀ h, (f h).settings = h.settings)
    (hlink : ∀ h, h.link ≠ .up → (f h).link = h.link) (s : State) : s.QuietEnd (s.setPort p f) where
  dma := State.setPort_dma ..
  pantry := State.setPort_pantry ..
  rung n := by rw [State.setPort_ctx]
  settings q := by
    rw [State.port_setPort]
    split
    · exact hset _
    · rfl
  link q hq := by
    rw [State.port_setPort]
    split
    · exact hlink _ hq
    · rfl
  latch i hi := by rw [State.setPort_ev]; exact hi

theorem of_quiesceCheck (p : Nat) (s : State) : s.QuietEnd (s.quiesceCheck p) := by
  unfold State.quiesceCheck
  split
  · exact refl s
  · split
    · exact refl s
    · dsimp only
      refine trans ?_ (of_done ..)
      refine of_setPort ?_ ?_ s
      · exact fun _ => rfl
      · exact fun h hup => if_neg (by simp [hup])

theorem of_dmaOut (s : State) : ∃ t, s.dmaOut = .next t ∧ s.QuietEnd t :=
  ⟨_, rfl, ((of_quiesceCheck 0 s).trans (of_quiesceCheck 1 _)).trans (of_settle _)⟩

theorem of_out (s : State) : ∃ t, s.out = .next t ∧ s.QuietEnd t := ⟨_, rfl, of_settle s⟩

theorem chan (h : s.QuietEnd t) (k : Nat) : t.chan k = s.chan k := State.chan_eq h.dma

theorem perst (h : s.QuietEnd t) (p : Nat) : (t.port p).perst = (s.port p).perst := congrArg (·.1) (h.settings p)

theorem prsnt (h : s.QuietEnd t) (p : Nat) : (t.port p).prsnt = (s.port p).prsnt := congrArg (·.2.1) (h.settings p)

theorem width (h : s.QuietEnd t) (p : Nat) : (t.port p).width = (s.port p).width := congrArg (·.2.2.1) (h.settings p)

theorem speed (h : s.QuietEnd t) (p : Nat) : (t.port p).speed = (s.port p).speed := congrArg (·.2.2.2.1) (h.settings p)

theorem d3 (h : s.QuietEnd t) (p : Nat) : (t.port p).d3 = (s.port p).d3 := congrArg (·.2.2.2.2) (h.settings p)

end State.QuietEnd

/-! ## Passes that do their work on each element once -/

/-- A pass over a list establishes for each element what its step establishes there and every step keeps. -/
theorem foldl_establishes {α β : Type} {f : β → α → β} {I P : α → β → Prop} (hI : ∀ b a x, I x b → I x (f b a))
    (hP : ∀ b a x, P x b → P x (f b a)) (hE : ∀ b a, I a b → P a (f b a)) {x : α} :
    ∀ {l : List α} {b : β}, x ∈ l → I x b → P x (l.foldl f b)
  | a :: l, b, hx, hi => by
    have hkept : ∀ (l : List α) (c : β), P x c → P x (l.foldl f c) := fun l c hc =>
      List.foldlRecOn (motive := P x) l f hc fun d hd y _ => hP d y x hd
    obtain rfl | hx := List.mem_cons.1 hx
    · exact hkept l _ (hE b x hi)
    · show P x (l.foldl f (f b a))
      exact foldl_establishes hI hP hE hx (hI b a x hi)

/-! ## Port resets (R537) -/

section
variable {p : Nat} {s : State}

/-- A channel that is killed stands still; no other channel starts. -/
theorem State.dmaKill_isActive (st : DmaState) (hst : st.isActive = false) (c : Nat) (s : State) :
    ((s.dmaKill st c).chan c).state.isActive = false ∧
    ∀ k, (s.chan k).state.isActive = false → ((s.dmaKill st c).chan k).state.isActive = false := by
  have hint : ∀ (u : State) (k : Nat), ((u.dmaInt c).chan k).state = (u.chan k).state := by
    intro u k
    have hset : ((u.setChan c fun x => { x with int := true }).chan k).state = (u.chan k).state := by
      by_cases e : k = c
      · rw [e, State.chan_setChan_self]
      · rw [State.chan_setChan_ne _ _ e]
    unfold State.dmaInt
    dsimp only
    split
    · rw [State.chan_eq (State.msix_dma ..)]; exact hset
    · exact hset
  unfold State.dmaKill
  split
  · refine ⟨by rw [hint, State.chan_setChan_self]; exact hst, fun k hk => ?_⟩
    rw [hint]
    by_cases e : k = c
    · rw [e, State.chan_setChan_self]; exact hst
    · rw [State.chan_setChan_ne _ _ e]; exact hk
  · next hidle => exact ⟨Bool.eq_false_iff.2 hidle, fun _ hk => hk⟩

/-- What a port reset leaves of a context and its queues. -/
def State.CtxCleared (n : Nat) (s : State) : Prop :=
  (s.q (256 + n)).cells = [] ∧ (s.q (512 + n)).cells = [] ∧ (s.ctx n).rung = false

/-- The context of a reset port, its queues flushed and its entry discarded (R537). -/
def State.ctxReset (s : State) (n : Nat) : State := ((s.flushQ (256 + n)).flushQ (512 + n)).discardEntry n

theorem State.flushQ_cells (j k : Nat) (s : State) :
    ((s.flushQ k).q j).cells = if j = k then [] else (s.q j).cells := by
  split
  · next e => rw [e, State.q_flushQ_self]; rfl
  · next e => exact congrArg Queue.cells ((State.q_freeCell ..).trans (State.q_setQ_ne _ _ e))

theorem State.flushQ_ctx (j k : Nat) (s : State) : (s.flushQ j).ctx k = s.ctx k := by
  have hhost : (s.flushQ j).host = s.host := by
    unfold State.flushQ State.freeCell State.poolNote
    rfl
  unfold State.ctx
  rw [hhost]

theorem State.entryDone_rung (n k : Nat) (e : Ending) (s : State) : ((s.entryDone n e).ctx k).rung = (s.ctx k).rung := by
  have hset : ((s.setCtx n fun x => { x with ending := none, opState := e.state, result := e.result, discard := false }).ctx k).rung =
      (s.ctx k).rung := by
    by_cases h : k = n
    · rw [h, State.ctx_setCtx_self]
    · rw [State.ctx_setCtx_ne _ _ h]
  unfold State.entryDone
  dsimp only
  split
  · split
    · exact hset
    · split
      · exact (congrArg Ctx.rung (State.setPort_ctx ..)).trans hset
      · exact hset
    · exact hset
    · exact hset
  · exact hset

theorem State.discardEntry_rung (n k : Nat) (s : State) :
    ((s.discardEntry n).ctx k).rung = if k = n then false else (s.ctx k).rung := by
  have hset : ((s.setCtx n fun x => { x with rung := false }).ctx k).rung = if k = n then false else (s.ctx k).rung := by
    split
    · next h => rw [h, State.ctx_setCtx_self]
    · next h => rw [State.ctx_setCtx_ne _ _ h]
  unfold State.discardEntry
  dsimp only
  split
  · rw [State.entryDone_rung, hset]
  · rw [← hset]
    by_cases h : k = n
    · rw [h, State.ctx_setCtx_self]
    · rw [State.ctx_setCtx_ne _ _ h]

theorem State.discardEntry_pantry (n : Nat) (s : State) : (s.discardEntry n).pantry = s.pantry :=
  (State.frame_iff (P := [.rst, .ctxs, .host])).2 (by simp) .pantry (by simp)

theorem State.ctxReset_clears (n : Nat) (s : State) : (s.ctxReset n).CtxCleared n := by
  refine ⟨?_, ?_, ?_⟩
  · rw [State.ctxReset, State.q_eq (State.discardEntry_pantry ..), State.flushQ_cells, if_neg (by omega), State.flushQ_cells,
      if_pos rfl]
  · rw [State.ctxReset, State.q_eq (State.discardEntry_pantry ..), State.flushQ_cells, if_pos rfl]
  · rw [State.ctxReset, State.discardEntry_rung, if_pos rfl]

theorem State.ctxReset_keeps (n k : Nat) (s : State) (hs : s.CtxCleared k) : (s.ctxReset n).CtxCleared k := by
  obtain ⟨hsq, hcq, hrung⟩ := hs
  have hcells : ∀ j, (s.q j).cells = [] → ((s.ctxReset n).q j).cells = [] := by
    intro j hj
    rw [State.ctxReset, State.q_eq (State.discardEntry_pantry ..), State.flushQ_cells, State.flushQ_cells, hj]
    simp
  refine ⟨hcells _ hsq, hcells _ hcq, ?_⟩
  rw [State.ctxReset, State.discardEntry_rung, State.flushQ_ctx, State.flushQ_ctx, hrung, ite_self]

theorem State.ctxReset_dma (n : Nat) (s : State) : (s.ctxReset n).dma = s.dma :=
  (State.frame_iff (P := [.rst, .ctxs, .host, .pantry])).2 (by simp [State.ctxReset]) .dma (by simp)

/-- A port reset stops the port's channels and clears its contexts; its function is as after a reset (R537). -/
theorem State.portReset_resets (p : Nat) (s : State) :
    (∀ k, k < 64 → (s.chan k).port = p → ((s.portReset p).chan k).state.isActive = false) ∧
    (∀ n, n < 256 → (s.ctx n).owner = p → (s.portReset p).CtxCleared n) ∧ ((s.portReset p).port p).d3 = false := by
  let u := ((List.range 64).filter (fun c => (s.chan c).port == p)).foldl (State.dmaKill .idle) (s.funcReset p)
  let v := (s.ctxsOf p).foldl State.ctxReset u
  have hreset : s.portReset p = v.funcReset p := rfl
  have hdma : v.dma = u.dma := List.foldlRecOn (motive := fun t : State => t.dma = u.dma) _ _ rfl
    fun t ht n _ => (State.ctxReset_dma n t).trans ht
  refine ⟨fun k hk hport => ?_, fun n hn howner => ?_, ?_⟩
  · have hmem : k ∈ (List.range 64).filter (fun c => (s.chan c).port == p) :=
      List.mem_filter.2 ⟨List.mem_range.2 hk, beq_iff_eq.2 hport⟩
    have hstill : (u.chan k).state.isActive = false :=
      foldl_establishes (I := fun _ _ => True) (P := fun k (t : State) => (t.chan k).state.isActive = false) (fun _ _ _ h => h)
        (fun t c k hk => (t.dmaKill_isActive .idle rfl c).2 k hk) (fun t c _ => (t.dmaKill_isActive .idle rfl c).1) hmem trivial
    have hfunc : (v.funcReset p).dma = v.dma := State.setPort_dma ..
    rw [hreset, State.chan_eq hfunc, State.chan_eq hdma]
    exact hstill
  · have hmem : n ∈ s.ctxsOf p := List.mem_filter.2 ⟨List.mem_range.2 hn, beq_iff_eq.2 howner⟩
    have hclear : v.CtxCleared n :=
      foldl_establishes (I := fun _ _ => True) (P := fun n (t : State) => t.CtxCleared n) (fun _ _ _ h => h)
        (fun t m n h => t.ctxReset_keeps m n h) (fun t m _ => t.ctxReset_clears m) hmem trivial
    obtain ⟨hsq, hcq, hrung⟩ := hclear
    have hpantry : (v.funcReset p).pantry = v.pantry := State.setPort_pantry ..
    rw [hreset]
    refine ⟨by rw [State.q_eq hpantry, hsq], by rw [State.q_eq hpantry, hcq], ?_⟩
    rw [State.funcReset, State.setPort_ctx, hrung]
  · rw [hreset, State.funcReset_port]

/-! ## The clauses of a port -/

theorem State.hasPort_atTime {tm : Nat} (h : s.hasPort p = true) : (s.atTime tm).hasPort p = true := h

theorem perstNAssert_resets {tm : Nat} {port : BitVec 1} (hport : s.hasPort port.toNat = true) :
    ∃ t, exec (.perstNAssert tm port) s = .next t ∧ (t.port port.toNat).link = .down ∧ (t.port port.toNat).perst = false ∧
      (t.port port.toNat).width = 0 ∧ (t.port port.toNat).speed = 0 ∧ (t.port port.toNat).d3 = false ∧
      (∀ k, k < 64 → (s.chan k).port = port.toNat → (t.chan k).state.isActive = false) := by
  let u := (s.atTime tm).portReset port.toNat
  let v := (u.linkTo port.toNat .down).setPort port.toNat fun h => { h with perst := false, width := 0, speed := 0 }
  obtain ⟨hstill, -, hd3⟩ := (s.atTime tm).portReset_resets port.toNat
  obtain ⟨a, ha⟩ := u.linkTo_port port.toNat .down
  have hv : v.port port.toNat = { u.port port.toNat with link := .down, since := a, perst := false, width := 0, speed := 0 } := by
    rw [State.port_setPort_self, ha]
  have hdma : v.dma = u.dma := (State.setPort_dma ..).trans (State.setPort_dma ..)
  obtain ⟨t, ht, hend⟩ := State.QuietEnd.of_dmaOut v
  refine ⟨t, (if_pos (State.hasPort_atTime hport)).trans ht, ?_, ?_, ?_, ?_, ?_, fun k hk hp => ?_⟩
  · rw [hend.link _ (by rw [hv]; simp), hv]
  · rw [hend.perst, hv]
  · rw [hend.width, hv]
  · rw [hend.speed, hv]
  · rw [hend.d3, hv]; exact hd3
  · rw [hend.chan, State.chan_eq hdma]; exact hstill k hk hp

theorem perstNRelease_trains {tm : Nat} {port : BitVec 1} (hport : s.hasPort port.toNat = true) :
    ∃ t, exec (.perstNRelease tm port) s = .next t ∧ (t.port port.toNat).perst = true ∧
      (t.port port.toNat).link = (s.port port.toNat).link := by
  let v := (s.atTime tm).setPort port.toNat fun h => { h with perst := true }
  have hv : v.port port.toNat = { s.port port.toNat with perst := true } := State.port_setPort_self ..
  obtain ⟨m, hm⟩ := v.settle_port port.toNat
  refine ⟨v.settle, congrArg State.out (if_pos (State.hasPort_atTime hport)), ?_, ?_⟩
  · rw [hm, hv]
  · rw [hm, hv]

/-- The contexts of a port that comes up are open again (R538). -/
def State.opened (s : State) (n : Nat) : State := if (s.ctx n).shut then s.setCtx n (fun x => { x with shut := false }) else s

theorem State.opened_shut (n : Nat) (s : State) : ((s.opened n).ctx n).shut = false ∧
    ∀ k, (s.ctx k).shut = false → ((s.opened n).ctx k).shut = false := by
  unfold State.opened
  split
  · refine ⟨by rw [State.ctx_setCtx_self], fun k hk => ?_⟩
    by_cases e : k = n
    · rw [e, State.ctx_setCtx_self]
    · rw [State.ctx_setCtx_ne _ _ e]; exact hk
  · next h => exact ⟨Bool.eq_false_iff.2 h, fun _ hk => hk⟩

theorem State.opened_port (n q : Nat) (s : State) : (s.opened n).port q = s.port q := by
  unfold State.opened
  split <;> rfl

theorem linkUp_opens {tm : Nat} {port : BitVec 1} {width : BitVec 5} {speed : BitVec 3} (hport : s.hasPort port.toNat = true)
    (hdown : (s.port port.toNat).link.isDown = true) (hperst : (s.port port.toNat).perst = true)
    (hprsnt : (s.port port.toNat).prsnt = true) (hphase : s.rst.phase.linksAllowed = true) (htrains : s.trains width speed = true) :
    ∃ t, exec (.linkUp tm port width speed) s = .next t ∧ (t.port port.toNat).link = .up ∧ (t.port port.toNat).width = width ∧
      (t.port port.toNat).speed = speed ∧ ∀ n, n < 256 → (s.ctx n).owner = port.toNat → (t.ctx n).shut = false := by
  let u := (s.atTime tm).setPort port.toNat fun h => { h with link := .up, width := width, speed := speed }
  let v := (u.ctxsOf port.toNat).foldl State.opened u
  have hu : u.port port.toNat = { s.port port.toNat with link := .up, width := width, speed := speed } := State.port_setPort_self ..
  have huctx : ∀ n, u.ctx n = s.ctx n := fun n => State.setPort_ctx ..
  have hv : v.port port.toNat = u.port port.toNat :=
    List.foldlRecOn (motive := fun t : State => t.port port.toNat = u.port port.toNat) _ _ rfl
      fun t ht n _ => (State.opened_port ..).trans ht
  have hgo : ((s.atTime tm).hasPort port.toNat && ((s.atTime tm).port port.toNat).link.isDown && ((s.atTime tm).port port.toNat).perst &&
      ((s.atTime tm).port port.toNat).prsnt && (s.atTime tm).rst.phase.linksAllowed && (s.atTime tm).trains width speed) = true := by
    show (s.hasPort port.toNat && (s.port port.toNat).link.isDown && (s.port port.toNat).perst && (s.port port.toNat).prsnt &&
      s.rst.phase.linksAllowed && s.trains width speed) = true
    rw [hport, hdown, hperst, hprsnt, hphase, htrains]
    rfl
  obtain ⟨m, hm⟩ := v.settle_port port.toNat
  refine ⟨v.settle, if_pos hgo, by rw [hm, hv, hu], by rw [hm, hv, hu], by rw [hm, hv, hu], fun n hn howner => ?_⟩
  have hmem : n ∈ u.ctxsOf port.toNat := List.mem_filter.2 ⟨List.mem_range.2 hn, beq_iff_eq.2 (by rw [huctx, howner])⟩
  rw [State.settle_ctx]
  exact foldl_establishes (I := fun _ _ => True) (P := fun n (t : State) => (t.ctx n).shut = false) (fun _ _ _ h => h)
    (fun t m n hn => (t.opened_shut m).2 n hn) (fun t m _ => (t.opened_shut m).1) hmem trivial

/-! ## The loss of a link (R526, R536, R537) -/

/-- A bus error is latched, and changes no port but for its messages (R526). -/
theorem State.dmaKill_shape (st : DmaState) (c : Nat) (s : State) : (s.dmaKill st c).dma.latched = s.dma.latched ∧
    ∀ p, ∃ m, (s.dmaKill st c).port p = { s.port p with msix := m } := by
  have hmsix : ∀ (u : State) (a b q : Nat), ∃ m, (u.msix a b).port q = { u.port q with msix := m } := by
    intro u a b q
    unfold State.msix
    dsimp only
    split
    · rw [State.port_setPort]
      split
      · exact ⟨_, rfl⟩
      · exact ⟨_, rfl⟩
    · split
      · exact ⟨_, rfl⟩
      · exact ⟨_, rfl⟩
  unfold State.dmaKill
  split
  · unfold State.dmaInt
    dsimp only
    split
    · exact ⟨by rw [State.msix_dma]; rfl, fun p => hmsix _ _ _ p⟩
    · exact ⟨rfl, fun _ => ⟨_, rfl⟩⟩
  · exact ⟨rfl, fun _ => ⟨_, rfl⟩⟩

/-- The DMA engine with a bus error latched (R526). -/
def State.errorLatched (kind port addr : Nat) (s : State) : State :=
  { s with dma := { s.dma with latched := true, kind := BitVec.ofNat 3 kind, errPort := port, errAddr := addr,
                               count := satAdd 0xFFFF s.dma.count 1 } }

theorem State.busError_of_free {kind port addr : Nat} (h : s.dma.latched ≠ true) : s.busError kind port addr =
    ((List.range 64).foldl (State.dmaKill .stopped) (s.errorLatched kind port addr)).pulse 232 := if_neg h

theorem State.busError_latches (kind port addr : Nat) (s : State) : (s.busError kind port addr).dma.latched = true ∧
    ∀ p, ∃ m, (s.busError kind port addr).port p = { s.port p with msix := m } := by
  by_cases h : s.dma.latched = true
  · rw [State.busError, if_pos h]
    exact ⟨h, fun _ => ⟨_, rfl⟩⟩
  · have hfold : ((List.range 64).foldl (State.dmaKill .stopped) (s.errorLatched kind port addr)).dma.latched = true ∧
        ∀ p, ∃ m, ((List.range 64).foldl (State.dmaKill .stopped) (s.errorLatched kind port addr)).port p =
          { s.port p with msix := m } :=
      List.foldlRecOn (motive := fun t : State => t.dma.latched = true ∧ ∀ p, ∃ m, t.port p = { s.port p with msix := m }) _ _
        ⟨rfl, fun _ => ⟨_, rfl⟩⟩ fun t ht c _ => by
          obtain ⟨hlatched, hports⟩ := t.dmaKill_shape .stopped c
          refine ⟨hlatched.trans ht.1, fun p => ?_⟩
          obtain ⟨m, hm⟩ := hports p
          obtain ⟨m', hm'⟩ := ht.2 p
          exact ⟨m, by rw [hm, hm']⟩
    rw [State.busError_of_free h]
    refine ⟨by rw [State.pulse_dma]; exact hfold.1, fun p => ?_⟩
    obtain ⟨m, hm⟩ := State.pulse_port p ((List.range 64).foldl (State.dmaKill .stopped) (s.errorLatched kind port addr)) 232
    obtain ⟨m', hm'⟩ := hfold.2 p
    exact ⟨m, by rw [hm, hm']⟩

theorem State.busError_mode (kind port addr : Nat) (s : State) : (s.busError kind port addr).mode.mode = s.mode.mode := by
  have hframe : State.Frame [.dma, .host] s (s.busError kind port addr) := State.frame_iff.2 (by simp)
  obtain e | ⟨e, e'⟩ : (s.busError kind port addr).mode = s.mode ∨
      (s.mode.mode = .standby ∧ (s.busError kind port addr).mode.mode = .standby) := hframe .mode (by simp)
  · rw [e]
  · rw [e, e']

theorem State.lossOf_loses (p : Nat) (l : PortLink) (s : State) : ((s.lossOf p l).port p).link = l ∧
    ((s.lossOf p l).port p).prsnt = (s.port p).prsnt ∧ (s.lossOf p l).dma.latched = true ∧
    (s.mode.mode ≠ .boot → (s.lossOf p l).ev.latch.getLsbD 240 = true) := by
  let u := ((s.free 64).2.linkTo p l).funcReset p
  obtain ⟨a, ha⟩ := (s.free 64).2.linkTo_port p l
  have hu : u.port p = { s.port p with link := l, since := a, msix := [], d3 := false } := by
    rw [State.funcReset_port, ha]
    rfl
  have hmode : u.mode.mode = s.mode.mode := by
    show (((s.free 64).2.linkTo p l).funcReset p).mode.mode = _
    rw [State.funcReset, State.setPort_mode, State.linkTo, State.setPort_mode]
    rfl
  obtain ⟨hlatched, hports⟩ := u.busError_latches 4 p (s.free 64).1
  obtain ⟨m, hm⟩ := hports p
  obtain ⟨m', hm'⟩ := (u.busError 4 p (s.free 64).1).pulse_port p 240
  have hshape : (s.lossOf p l).port p = { s.port p with link := l, since := a, msix := m', d3 := false } := by
    show ((u.busError 4 p (s.free 64).1).pulse 240).port p = _
    rw [hm', hm, hu]
  refine ⟨by rw [hshape], by rw [hshape], ?_, fun hboot => State.pulse_latch (by decide) (by rw [State.busError_mode, hmode]; exact hboot)⟩
  show ((u.busError 4 p (s.free 64).1).pulse 240).dma.latched = true
  rw [State.pulse_dma]
  exact hlatched

section
variable {tm : Nat} {port : BitVec 1}

theorem linkLoss_of_up (hup : (s.port port.toNat).link = .up) :
    ∃ t, exec (.linkLoss tm port) s = .next t ∧ (t.port port.toNat).link = .lost ∧ t.dma.latched = true ∧
      (s.mode.mode ≠ .boot → t.ev.latch.getLsbD 240 = true) := by
  obtain ⟨hlink, -, hlatched, hlatch⟩ := (s.atTime tm).lossOf_loses port.toNat .lost
  have he : exec (.linkLoss tm port) s = ((s.atTime tm).lossOf port.toNat .lost).dmaOut := by
    show execLinkLoss tm port s = _
    unfold execLinkLoss
    dsimp only
    rw [show (s.atTime tm).port port.toNat = s.port port.toNat from rfl, hup]
  obtain ⟨t, ht, hend⟩ := State.QuietEnd.of_dmaOut ((s.atTime tm).lossOf port.toNat .lost)
  exact ⟨t, he.trans ht, by rw [hend.link _ (by rw [hlink]; decide), hlink], by rw [hend.dma, hlatched],
    fun hm => hend.latch _ (hlatch hm)⟩

theorem linkLoss_of_quiesced (hquiet : (s.port port.toNat).link = .quiesced) :
    ∃ t, exec (.linkLoss tm port) s = .next t ∧ (t.port port.toNat).link = .down ∧ t.dma = s.dma ∧
      (s.mode.mode ≠ .boot → t.ev.latch.getLsbD 240 = true) := by
  let u := ((s.atTime tm).linkTo port.toNat .down).funcReset port.toNat
  have he : exec (.linkLoss tm port) s = (u.pulse 240).out := by
    show execLinkLoss tm port s = _
    unfold execLinkLoss
    dsimp only
    rw [show (s.atTime tm).port port.toNat = s.port port.toNat from rfl, hquiet]
  obtain ⟨a, ha⟩ := (s.atTime tm).linkTo_port port.toNat .down
  have hu : u.port port.toNat = { s.port port.toNat with link := .down, since := a, msix := [], d3 := false } := by
    rw [State.funcReset_port, ha]
    rfl
  have hdma : u.dma = s.dma := (State.setPort_dma ..).trans (State.setPort_dma ..)
  have hmode : u.mode = s.mode := (State.setPort_mode ..).trans (State.setPort_mode ..)
  obtain ⟨m, hm⟩ := u.pulse_port port.toNat 240
  obtain ⟨t, ht, hend⟩ := State.QuietEnd.of_out (u.pulse 240)
  refine ⟨t, he.trans ht, ?_, by rw [hend.dma, State.pulse_dma, hdma],
    fun hboot => hend.latch _ (State.pulse_latch (by decide) (by rw [hmode]; exact hboot))⟩
  have hlink : ((u.pulse 240).port port.toNat).link = .down := by rw [hm, hu]
  rw [hend.link _ (by rw [hlink]; decide), hlink]

/-- A reset of the function, with the power state that follows it (R534, R537). -/
theorem functionReset_resets {i : Instr} {d3 : Bool} {u : State}
    (hu : u.dma = ((s.atTime tm).portReset port.toNat).dma ∧ u.pantry = ((s.atTime tm).portReset port.toNat).pantry ∧
      (∀ n, u.ctx n = ((s.atTime tm).portReset port.toNat).ctx n) ∧ (u.port port.toNat).d3 = d3)
    (he : exec i s = u.dmaOut) : ∃ t, exec i s = .next t ∧ (t.port port.toNat).d3 = d3 ∧
      (∀ k, k < 64 → (s.chan k).port = port.toNat → (t.chan k).state.isActive = false) ∧
      (∀ n, n < 256 → (s.ctx n).owner = port.toNat →
        (t.q (256 + n)).cells = [] ∧ (t.q (512 + n)).cells = [] ∧ (t.ctx n).rung = false) := by
  obtain ⟨hstill, hclear, -⟩ := (s.atTime tm).portReset_resets port.toNat
  obtain ⟨hdma, hpantry, hctx, hd3⟩ := hu
  obtain ⟨t, ht, hend⟩ := State.QuietEnd.of_dmaOut u
  refine ⟨t, he.trans ht, by rw [hend.d3, hd3], fun k hk hp => ?_, fun n hn howner => ?_⟩
  · rw [State.chan_eq (hend.dma.trans hdma)]
    exact hstill k hk hp
  · obtain ⟨hsq, hcq, hrung⟩ := hclear n hn howner
    rw [State.q_eq (hend.pantry.trans hpantry), State.q_eq (hend.pantry.trans hpantry), hend.rung, hctx]
    exact ⟨hsq, hcq, hrung⟩

theorem functionEvents_reset {i : Instr} (hport : s.hasPort port.toNat = true)
    (hi : i = .functionLevelReset tm port ∨ i = .hotReset tm port ∨ i = .d3hotEntry tm port) :
    ∃ t, exec i s = .next t ∧ ((t.port port.toNat).d3 = true ↔ i = .d3hotEntry tm port) ∧
      (∀ k, k < 64 → (s.chan k).port = port.toNat → (t.chan k).state.isActive = false) ∧
      (∀ n, n < 256 → (s.ctx n).owner = port.toNat →
        (t.q (256 + n)).cells = [] ∧ (t.q (512 + n)).cells = [] ∧ (t.ctx n).rung = false) := by
  obtain ⟨-, -, hd3⟩ := (s.atTime tm).portReset_resets port.toNat
  have hgo := State.hasPort_atTime (tm := tm) hport
  obtain rfl | rfl | rfl := hi
  · obtain ⟨t, ht, hd, hrest⟩ := functionReset_resets (i := .functionLevelReset tm port) (tm := tm) ⟨rfl, rfl, fun _ => rfl, hd3⟩
      (congrArg State.dmaOut (if_pos hgo))
    exact ⟨t, ht, by simp [hd], hrest⟩
  · obtain ⟨t, ht, hd, hrest⟩ := functionReset_resets (i := .hotReset tm port) (tm := tm) ⟨rfl, rfl, fun _ => rfl, hd3⟩
      (congrArg State.dmaOut (if_pos hgo))
    exact ⟨t, ht, by simp [hd], hrest⟩
  · obtain ⟨t, ht, hd, hrest⟩ := functionReset_resets (i := .d3hotEntry tm port) (tm := tm) (d3 := true)
      ⟨State.setPort_dma .., State.setPort_pantry .., fun n => State.setPort_ctx .., congrArg HostPort.d3 (State.port_setPort_self ..)⟩
      (congrArg State.dmaOut (if_pos hgo))
    exact ⟨t, ht, by simp [hd], hrest⟩

/-! ## Cards (R536, R537) -/

theorem prsntNChange_pulls (hport : s.hasPort port.toNat = true) (hup : (s.port port.toNat).link = .up) :
    ∃ t, exec (.prsntNChange tm port true) s = .next t ∧ (t.port port.toNat).prsnt = false ∧ (t.port port.toNat).link = .down ∧
      t.dma.latched = true := by
  let u := (s.atTime tm).setPort port.toNat fun h => { h with prsnt := !true }
  have he : exec (.prsntNChange tm port true) s = (u.lossOf port.toNat .down).dmaOut := by
    refine (if_pos (State.hasPort_atTime hport)).trans ?_
    rw [show (s.atTime tm).port port.toNat = s.port port.toNat from rfl, hup, if_pos rfl]
  have hu : (u.port port.toNat).prsnt = false := congrArg HostPort.prsnt (State.port_setPort_self ..)
  obtain ⟨hlink, hprsnt, hlatched, -⟩ := u.lossOf_loses port.toNat .down
  obtain ⟨t, ht, hend⟩ := State.QuietEnd.of_dmaOut (u.lossOf port.toNat .down)
  exact ⟨t, he.trans ht, by rw [hend.prsnt, hprsnt, hu], by rw [hend.link _ (by rw [hlink]; decide), hlink],
    by rw [hend.dma, hlatched]⟩

theorem prsntNChange_plugs (hport : s.hasPort port.toNat = true) :
    ∃ t, exec (.prsntNChange tm port false) s = .next t ∧ (t.port port.toNat).prsnt = true := by
  let u := (s.atTime tm).setPort port.toNat fun h => { h with prsnt := !false }
  have hu : (u.port port.toNat).prsnt = true := congrArg HostPort.prsnt (State.port_setPort_self ..)
  obtain ⟨t, ht, hend⟩ := State.QuietEnd.of_dmaOut u
  exact ⟨t, (if_pos (State.hasPort_atTime hport)).trans ht, by rw [hend.prsnt, hu]⟩

end

/-! ## The deadline of QUIESCE (R524, R538) -/

/-- A channel that runs, is being aborted, or has stopped. -/
def DmaState.abortable : DmaState → Prop
  | .running | .aborting | .idle => True
  | _ => False

/-- No channel but `c` differs in `t`. -/
def State.KeepsOtherChans (c : Nat) (s t : State) : Prop := ∀ k, k ≠ c → t.chan k = s.chan k

theorem State.dmaStop_keepsOthers (c code : Nat) (s : State) : s.KeepsOtherChans c (s.dmaStop c code) := by
  intro k hk
  have hint : ∀ u : State, (u.dmaInt c).chan k = u.chan k := by
    intro u
    unfold State.dmaInt
    dsimp only
    split
    · rw [State.chan_eq (State.msix_dma ..), State.chan_setChan_ne _ _ hk]
    · rw [State.chan_setChan_ne _ _ hk]
  rw [State.dmaStop, hint, State.chan_setChan_ne _ _ hk]

/-- An abort with the channel's queue as source: the channel drains, or has nothing to drain (R524). -/
theorem State.dmaDrain_aborting {c : Nat} {s : State} (hstate : (s.chan c).state = .aborting) :
    s.KeepsOtherChans c (s.dmaDrain c) ∧
      (((s.dmaDrain c).chan c).state = .aborting ∨ ((s.dmaDrain c).chan c).state = .idle) := by
  have hend : (s.chan c).endCode = 2 := if_pos (beq_iff_eq.2 hstate)
  unfold State.dmaDrain
  dsimp only
  split
  · rw [hend, State.dmaComplete_abort]
    refine ⟨fun k hk => ?_, .inr ?_⟩
    · rw [State.dmaStop_keepsOthers _ _ _ k hk, State.chan_setChan_ne _ _ hk, State.chan_eq (State.statusWritten_dma ..)]
    · rw [State.dmaStop_chan]
      rfl
  · have hdram : ∀ (b : Bool) (x n : Nat), (if b then s.dramReq 4 false x n else s).dma = s.dma := by
      intro b x n
      split <;> rfl
    refine ⟨fun k hk => ?_, .inl ?_⟩
    · exact (State.chan_setChan_ne _ _ hk).trans (State.chan_eq (hdram ..))
    · refine (congrArg DmaChan.state (State.chan_setChan_self ..)).trans ?_
      exact (congrArg DmaChan.state (State.chan_eq (hdram ..))).trans hstate

/-- ABORT touches no other channel, and leaves a channel that can be aborted ABORTING or idle (R524). -/
theorem State.dmaAbort_aborts (c : Nat) (s : State) : s.KeepsOtherChans c (s.dmaAbort c) ∧
    ((s.chan c).state.abortable → ((s.dmaAbort c).chan c).state = .aborting ∨ ((s.dmaAbort c).chan c).state = .idle) := by
  have hstop : ∀ f : DmaChan → DmaChan, s.KeepsOtherChans c ((s.setChan c f).dmaStop c 2) ∧
      (((s.setChan c f).dmaStop c 2).chan c).state = .idle := by
    intro f
    refine ⟨fun k hk => ?_, by rw [State.dmaStop_chan]; rfl⟩
    rw [State.dmaStop_keepsOthers _ _ _ k hk, State.chan_setChan_ne _ _ hk]
  have hset : (s.KeepsOtherChans c (s.setChan c fun x => { x with state := .aborting, kick := false })) ∧
      ((s.setChan c fun x => { x with state := .aborting, kick := false }).chan c).state = .aborting :=
    ⟨fun k hk => State.chan_setChan_ne _ _ hk, by rw [State.chan_setChan_self]⟩
  unfold State.dmaAbort
  dsimp only
  split
  · split
    · split
      · exact ⟨(hstop _).1, fun _ => .inr (hstop _).2⟩
      · split
        · obtain ⟨hothers, hself⟩ := State.dmaDrain_aborting hset.2
          exact ⟨fun k hk => (hothers k hk).trans (hset.1 k hk), fun _ => hself⟩
        · exact ⟨hset.1, fun _ => .inl hset.2⟩
    · exact ⟨hset.1, fun _ => .inl hset.2⟩
    · exact ⟨(hstop _).1, fun _ => .inr (hstop _).2⟩
  · exact ⟨(hstop _).1, fun _ => .inr (hstop _).2⟩
  · next hrun hend =>
    refine ⟨fun _ _ => rfl, fun h => ?_⟩
    cases e : (s.chan c).state with
    | running => exact absurd e hrun
    | aborting => exact .inl rfl
    | idle => exact .inr rfl
    | idleAtEnd => exact absurd e hend
    | stopped => rw [e] at h; exact h.elim

theorem State.dmaAbort_keeps {P : DmaState → Prop} (hP : ∀ x, P x → x.abortable) (ha : P .aborting) (hi : P .idle) (c k : Nat) (s : State)
    (hk : P (s.chan k).state) : P ((s.dmaAbort c).chan k).state := by
  obtain ⟨hothers, hself⟩ := s.dmaAbort_aborts c
  by_cases e : k = c
  · subst e
    obtain h | h := hself (hP _ hk)
    · rw [h]; exact ha
    · rw [h]; exact hi
  · rw [hothers k e]
    exact hk

theorem quiesceTimeout_aborts {tm : Nat} {port : BitVec 1} {n d a : Nat} {m : Bool}
    (hq : (s.port port.toNat).quiesce = some (n, m, d, a)) (hd : d ≤ max s.now tm) :
    ∃ t, exec (.quiesceTimeout tm port) s = .next t ∧ ∀ x, x < 64 → (s.chan x).port = port.toNat → (s.chan x).state = .running →
      (t.chan x).state = .aborting ∨ (t.chan x).state = .idle := by
  let cs := (List.range 64).filter (fun c => (s.chan c).port == port.toNat && (s.chan c).state == .running)
  let u := cs.foldl (fun (s : State) c => s.dmaAbort c) (s.atTime tm)
  have he : ∃ f, exec (.quiesceTimeout tm port) s = (u.setPort port.toNat f).dmaOut := by
    show ∃ f, execQuiesceTimeout tm port s = _
    unfold execQuiesceTimeout
    dsimp only
    rw [show (s.atTime tm).port port.toNat = s.port port.toNat from rfl, hq]
    exact ⟨_, if_pos hd⟩
  obtain ⟨f, he⟩ := he
  obtain ⟨t, ht, hend⟩ := State.QuietEnd.of_dmaOut (u.setPort port.toNat f)
  refine ⟨t, he.trans ht, fun x hx hport hrun => ?_⟩
  have hmem : x ∈ cs := List.mem_filter.2 ⟨List.mem_range.2 hx, by simp [hport, hrun]⟩
  rw [hend.chan, State.chan_eq (State.setPort_dma ..)]
  refine foldl_establishes (I := fun k (t : State) => (t.chan k).state.abortable)
    (P := fun k (t : State) => (t.chan k).state = .aborting ∨ (t.chan k).state = .idle)
    (fun t c k hk => State.dmaAbort_keeps (fun _ h => h) trivial trivial c k t hk)
    (fun t c k hk => State.dmaAbort_keeps (P := fun x => x = .aborting ∨ x = .idle) ?_ (.inl rfl) (.inr rfl) c k t hk)
    (fun t c hc => (t.dmaAbort_aborts c).2 hc) hmem ?_
  · rintro _ (rfl | rfl)
    · trivial
    · trivial
  · rw [show (s.atTime tm).chan x = s.chan x from rfl, hrun]
    trivial

/-! ## BAR2 (R552, R553) -/

theorem State.bar2Reqs_shape (port : Nat) (write : Bool) (as : List Nat) (s : State) :
    (s.bar2Reqs port write as).dram.mem = s.dram.mem ∧ (s.bar2Reqs port write as).host = s.host ∧
      (s.bar2Reqs port write as).mode = s.mode :=
  List.foldlRecOn (motive := fun t : State => t.dram.mem = s.dram.mem ∧ t.host = s.host ∧ t.mode = s.mode) _ _ ⟨rfl, rfl, rfl⟩
    fun _ ht _ _ => ht

theorem State.pulseIf_mem (b : Bool) (i : Nat) (s : State) : (s.pulseIf b i).dram.mem = s.dram.mem := by
  unfold State.pulseIf
  split
  · rw [State.pulse_dram]
  · rfl

theorem State.pulseIf_out_prefix (b : Bool) (i : Nat) (s : State) : s.host.out <+: (s.pulseIf b i).host.out := by
  unfold State.pulseIf State.pulse
  split
  · split
    · exact List.prefix_rfl
    · exact State.latchSet_out_prefix ..
  · exact List.prefix_rfl

section
variable {tm : Nat} {port : BitVec 1} {addr : BitVec 32}

theorem bar2Read_returns (hmode : s.mode.mode ≠ .boot) (len : Nat) :
    ∃ t rest, exec (.bar2Read tm port addr len) s = .next t ∧ t.dram.mem = s.dram.mem ∧
      t.host.out = .hostRead ((List.range len).map (fun i =>
          match s.bar2Addr (addr.toNat + i) with | some a => sget 0 a s.dram.mem | none => 0))
        ((List.range len).any (fun i =>
          match s.bar2Addr (addr.toNat + i) with | some a => s.dram.poison.contains (a / 64) | none => false)) :: rest := by
  let as := (List.range len).map (fun i => s.bar2Addr (addr.toNat + i))
  let o : Output := .hostRead (as.map fun a => match a with | some x => sget 0 x s.dram.mem | none => 0)
    (as.any fun a => match a with | some x => s.dram.poison.contains (x / 64) | none => false)
  let u := (((s.atTime tm).bar2Reqs 4 false (as.filterMap id)).emit o)
  have he : exec (.bar2Read tm port addr len) s = .next (u.pulseIf (as.any Option.isNone) 241).settle := if_neg (by simpa using hmode)
  obtain ⟨hmem, hhost, -⟩ := (s.atTime tm).bar2Reqs_shape 4 false (as.filterMap id)
  have hout : u.host.out = [o] := by
    show ((s.atTime tm).bar2Reqs 4 false (as.filterMap id)).host.out ++ [o] = _
    rw [hhost]
    rfl
  obtain ⟨rest, hrest⟩ := (u.pulseIf_out_prefix (as.any Option.isNone) 241).trans (State.settle_out_prefix _)
  refine ⟨_, rest, he, ?_, ?_⟩
  · rw [State.settle_dram, State.pulseIf_mem]
    exact hmem
  · rw [← hrest, hout]
    simp only [o, as, List.map_map, List.any_map]
    rfl

/-- Bytes that one mapped range takes are written there. -/
theorem State.bar2Put_mapped : ∀ {data : List Byte} {a base : Nat} {s : State},
    (∀ i, i < data.length → s.bar2Addr (a + i) = some (base + i)) → (State.bar2Put a data s).dram.mem = memWrite base data s.dram.mem
  | [], _, _, _, _ => rfl
  | b :: data, a, base, s, h => by
    have hhead : s.bar2Addr a = some base := h 0 (Nat.succ_pos _)
    unfold State.bar2Put
    rw [hhead]
    refine State.bar2Put_mapped fun i hi => ?_
    have hnext := h (i + 1) (Nat.succ_lt_succ hi)
    rw [show a + (i + 1) = a + 1 + i by omega, show base + (i + 1) = base + 1 + i by omega] at hnext
    exact hnext

/-- Bytes that no window maps are not written. -/
theorem State.bar2Put_unmapped : ∀ {data : List Byte} {a : Nat} {s : State},
    (∀ i, i < data.length → s.bar2Addr (a + i) = none) → State.bar2Put a data s = s
  | [], _, _, _ => rfl
  | b :: data, a, s, h => by
    have hhead : s.bar2Addr a = none := h 0 (Nat.succ_pos _)
    unfold State.bar2Put
    rw [hhead]
    refine State.bar2Put_unmapped fun i hi => ?_
    have hnext := h (i + 1) (Nat.succ_lt_succ hi)
    rwa [show a + 1 + i = a + (i + 1) by omega]

/-- What a BAR2 write leaves before its event is raised. -/
def State.bar2Written (a : Nat) (data : List Byte) (s : State) : State :=
  let hit := ((List.range data.length).map (fun i => s.bar2Addr (a + i))).filterMap id
  let s2 := State.bar2Put a data s
  ({ s2 with dram := { s2.dram with poison := s2.dram.poison.filter (fun b =>
    !(List.range 64).all (fun i => hit.contains (64 * b + i))) } } : State).bar2Reqs 5 true hit

theorem State.bar2Written_mem (a : Nat) (data : List Byte) (s : State) :
    (s.bar2Written a data).dram.mem = (State.bar2Put a data s).dram.mem := (State.bar2Reqs_shape ..).1

theorem exec_bar2Write (hmode : s.mode.mode ≠ .boot) (data : List Byte) : exec (.bar2Write tm port addr data) s =
    .next (((s.atTime tm).bar2Written addr.toNat data).pulseIf
      (((List.range data.length).map (fun i => s.bar2Addr (addr.toNat + i))).any Option.isNone) 241).settle :=
  if_neg (by simpa using hmode)

theorem bar2Write_stores (hmode : s.mode.mode ≠ .boot) {data : List Byte} {base : Nat}
    (h : ∀ i, i < data.length → s.bar2Addr (addr.toNat + i) = some (base + i)) :
    ∃ t, exec (.bar2Write tm port addr data) s = .next t ∧ t.dram.mem = memWrite base data s.dram.mem := by
  refine ⟨_, exec_bar2Write hmode data, ?_⟩
  rw [State.settle_dram, State.pulseIf_mem, State.bar2Written_mem]
  exact State.bar2Put_mapped (s := s.atTime tm) h

theorem bar2Write_misses (hmode : s.mode.mode ≠ .boot) {data : List Byte} (hne : data ≠ [])
    (h : ∀ i, i < data.length → s.bar2Addr (addr.toNat + i) = none) :
    ∃ t, exec (.bar2Write tm port addr data) s = .next t ∧ t.dram.mem = s.dram.mem ∧ t.ev.latch.getLsbD 241 = true := by
  have hput : State.bar2Put addr.toNat data (s.atTime tm) = s.atTime tm := State.bar2Put_unmapped (s := s.atTime tm) h
  have hmiss : ((List.range data.length).map (fun i => s.bar2Addr (addr.toNat + i))).any Option.isNone = true := by
    refine List.any_eq_true.2 ⟨none, List.mem_map.2 ⟨0, List.mem_range.2 (List.length_pos_of_ne_nil hne), ?_⟩, rfl⟩
    exact h 0 (List.length_pos_of_ne_nil hne)
  have hwritten : ((s.atTime tm).bar2Written addr.toNat data).mode = s.mode := by
    refine (State.bar2Reqs_shape ..).2.2.trans ?_
    show (State.bar2Put addr.toNat data (s.atTime tm)).mode = _
    rw [hput]
    rfl
  refine ⟨_, exec_bar2Write hmode data, ?_, State.settle_latch_mono ?_⟩
  · rw [State.settle_dram, State.pulseIf_mem, State.bar2Written_mem, hput]
    rfl
  · rw [State.pulseIf, if_pos hmiss]
    exact State.pulse_latch (by decide) (by rw [hwritten]; exact hmode)

end

end

/-- Settles O28, the ports first. That a quiesced link loss leaves the DMA as it is and raises event 240 is the model's choice (log entries
193 and 64). -/
theorem hostLinkEventsComplete : Obligations.HostLinkEventsComplete :=
  ⟨fun _ _ _ hport => ⟨perstNAssert_resets hport, perstNRelease_trains hport,
      fun _ _ hdown hperst hprsnt hphase htrains => linkUp_opens hport hdown hperst hprsnt hphase htrains,
      fun hup => linkLoss_of_up hup, fun hquiet => linkLoss_of_quiesced hquiet, fun _ hi => functionEvents_reset hport hi,
      fun hup => prsntNChange_pulls hport hup, prsntNChange_plugs hport, fun _ _ _ _ hq hd => quiesceTimeout_aborts hq hd⟩,
    fun _ _ _ _ hmode => ⟨bar2Read_returns hmode, fun _ _ h => bar2Write_stores hmode h, fun _ hne h => bar2Write_misses hmode hne h⟩⟩

end Sys2Proof.Machine
end

section
/-! PROOFS. Trivet's answers, the security events and the self-test (R584, R589, R599, R606, R633 to R635). -/

namespace Sys2Proof.Machine

/-! ## The level of a source after it has settled -/

/-- A level source shows the level that it was last brought up to date with. -/
theorem State.settleOnes_raw (boot : Bool) {l : List (Nat × Bool)} (hd : (l.map Prod.fst).Nodup) {src : Nat} {on : Bool} (hsrc : src < 256)
    (h : (src, on) ∈ l) (s : State) : (l.foldl (State.settleOne boot) s).ev.raw.getLsbD src = (on && !boot) := by
  have hkeep : ∀ (l : List (Nat × Bool)) (s : State), src ∉ l.map Prod.fst →
      (l.foldl (State.settleOne boot) s).ev.raw.getLsbD src = s.ev.raw.getLsbD src := by
    intro l
    induction l with
    | nil => exact fun s _ => rfl
    | cons x l ih =>
      intro s hn
      rw [List.map_cons, List.mem_cons, not_or] at hn
      rw [List.foldl_cons, ih _ hn.2]
      exact (State.level_raw ..).trans (if_neg fun hx => hn.1 hx.1)
  induction l generalizing s with
  | nil => cases h
  | cons x l ih =>
    rw [List.map_cons, List.nodup_cons] at hd
    obtain rfl | h := List.mem_cons.1 h
    · rw [List.foldl_cons, hkeep l _ hd.1]
      exact (State.level_raw ..).trans (if_pos ⟨rfl, hsrc⟩)
    · exact ih hd.2 h _

/-- After settling a source shows the level that its cause gives it. -/
theorem State.settle_raw {s : State} {src : Nat} {on : Bool} (hm : s.mode.mode ≠ .boot) (h : (src, on) ∈ s.levels) :
    s.settle.ev.raw.getLsbD src = on := by
  have hlevels : s.levels.map Prod.fst = levelSources := rfl
  have hmem : src ∈ levelSources := hlevels ▸ List.mem_map_of_mem (f := Prod.fst) h
  have hall : ∀ i ∈ levelSources, i < 256 := by decide
  refine (State.settleOnes_raw _ (hlevels ▸ by decide) (hall src hmem) h s).trans ?_
  simp [hm]

/-! ## Trivet -/

@[simp] theorem State.secEnd_mode (n : Nat) (st : OpState) (code : Nat) (pay : List Byte) (s : State) :
    (s.secEnd n st code pay).mode = s.mode := State.finish_mode ..

@[simp] theorem State.secEnd_sec (n : Nat) (st : OpState) (code : Nat) (pay : List Byte) (s : State) :
    (s.secEnd n st code pay).sec = { s.sec with secCtx := none, trans := none } := by
  simp only [State.secEnd, State.finish_sec]

theorem State.secEnd_ctx (n k : Nat) (st : OpState) (code : Nat) (pay : List Byte) (s : State) :
    (s.secEnd n st code pay).ctx k = (s.finish n st code [] pay).ctx k := rfl

theorem State.secEnd_cur (n : Nat) (st : OpState) (code : Nat) (s : State) : ((s.secEnd n st code []).ctx n).cur = none := State.finish_cur ..

/-- A security command that ends with a completion entry. -/
theorem State.secEnd_ending {n : Nat} {s : State} {c : RunCmd} (st : OpState) (code : Nat) (h : (s.ctx n).cur = some c)
    (hc : c.noCpl = false) : ∃ e, ((s.secEnd n st code []).ctx n).ending = some e ∧ e.state = st ∧ e.result = BitVec.ofNat 8 code := by
  rw [State.secEnd_ctx, State.finish_of_entry st code [] h hc, State.ctx_setCtx_self]
  exact ⟨_, rfl, rfl, rfl⟩

/-- The requests behind the one that is served: an attestation reads the tables in force from its own turn on (R614). -/
def State.behind (s : State) : List TrivetReq → List TrivetReq
  | q :: l => (if q.opcode = 0x0E00 then { q with target := s.lt.seq.toNat } else q) :: l
  | [] => []

theorem State.behind_length (s : State) (l : List TrivetReq) : (s.behind l).length = l.length := by cases l <;> rfl

/-- Trivet serves the oldest request. -/
def State.served1 (rest : List TrivetReq) (s : State) : State := { s with sec := { s.sec with reqs := s.behind rest, hashCrossed := 0 } }

theorem trivetRequestDone_next (tm : Nat) (ok : Bool) (out : List Byte) {s : State} {r : TrivetReq} {rest : List TrivetReq}
    (h : s.sec.reqs = r :: rest) : exec (.trivetRequestDone tm ok out) s =
      .next (((s.atTime tm).served1 rest).trivetDone r s.sec.hashCrossed ok out).settle := by
  show execTrivetRequestDone tm ok out s = _
  unfold execTrivetRequestDone
  dsimp only [State.atTime_sec]
  rw [h]
  cases rest <;> rfl

theorem State.trivetDone_unlock {r : TrivetReq} (h : r.opcode = 0x0E05) (crossed : Nat) (ok : Bool) (out : List Byte) (s : State) :
    s.trivetDone r crossed ok out =
      if ok then ({ s with sec := { s.sec with debugOpen := true } }).secEnd r.ctx .done cOk [] else s.authFail r.ctx := by
  unfold State.trivetDone
  dsimp only
  split <;> simp_all

theorem norWriteDone_next (tm : Nat) (readBackOk : Bool) {s : State} {n : Nat} {c : RunCmd} (hn : s.sec.secCtx = some n)
    (hc : (s.ctx n).cur = some c) (ho : c.opcode = 0x0E02) (hr : ∀ r ∈ s.sec.reqs, r.opcode ≠ 0x0E02) :
    exec (.norWriteDone tm readBackOk) s = .next (State.settle (if readBackOk then (s.atTime tm).secEnd n .done cOk []
      else (s.atTime tm).secFail n cHw)) := by
  have hctx : (s.atTime tm).sec.secCtx = some n := hn
  have hcur : ((s.atTime tm).ctx n).cur = some c := hc
  have hreqs : (s.atTime tm).sec.reqs.all (fun r => r.opcode != 0x0E02) = true := by simpa using hr
  show execNorWriteDone tm readBackOk s = _
  unfold execNorWriteDone
  dsimp only
  rw [hctx]
  dsimp only
  rw [hcur]
  dsimp only
  rw [hreqs]
  simp only [ho]
  rfl

/-! ## The JTAG port -/

theorem jtagInstruction_next (tm : Nat) (scan : JtagScan) {s : State} {ir : JtagIr}
    (hir : ir = (if scan.ir = .debug ∧ s.sec.debugOpen = false then .bypass else scan.ir)) :
    ∃ cells, exec (.jtagInstruction tm scan) s = .next (State.settle { s.atTime tm with
        rst := { s.rst with jtagIr := ir, bsr := cells ++ s.rst.bsr.filter (fun c => !cells.any (fun x => x.1 == c.1)) } }) ∧
      cells = if irScans ir then scan.cells.filter (fun c => ballCells c.1 == .driveCapture) else [] := by
  have hbool : ir = if scan.ir == .debug && !s.sec.debugOpen then JtagIr.bypass else scan.ir := by
    rw [hir]
    cases s.sec.debugOpen <;> simp
  subst hbool
  exact ⟨_, rfl, rfl⟩

/-! ## The self-test -/

@[simp] theorem State.partialRec_diag (n skip : Nat) (bs : List Byte) (u : State) : (u.partialRec n skip bs).diag = u.diag := by
  unfold State.partialRec
  dsimp only
  split <;> rfl

/-- The record of a test of the self-test that has ended (R633). -/
def SelfTest.testRecord (x : SelfTest) (result : BitVec 8) (durMs : BitVec 16) (detail : BitVec 32) : List Byte :=
  le 1 x.cur ++ le 1 result.toNat ++ le 2 durMs.toNat ++ le 4 (if result = 1 then detail.toNat else 0)

theorem selftestTestDone_next (tm : Nat) (result : BitVec 8) (durMs : BitVec 16) (detail : BitVec 32) {s : State} {x : SelfTest}
    (hx : s.diag.selfTest = some x) (ha : x.aborted = false) : ∃ failed : List Nat, ∃ mask : List Byte,
    failed = (if result = 1 then x.failed ++ [x.cur] else x.failed) ∧
    exec (.selftestTestDone tm result durMs detail) s = .next (State.settle (match x.left with
      | k :: ks => { (s.atTime tm).partialRec x.ctx 0 (x.testRecord result durMs detail) with
          diag := { s.diag with selfTest := some { x with cur := k, left := ks, failed := failed } } }
      | [] => State.done x.ctx mask { (s.atTime tm).partialRec x.ctx 0 (x.testRecord result durMs detail) with
          diag := { s.diag with selfTest := none } })) := by
  have hdiag : ((s.atTime tm).partialRec x.ctx 0 (x.testRecord result durMs detail)).diag = s.diag := State.partialRec_diag ..
  refine ⟨_, SelfTest.mask { x with failed := if result = 1 then x.failed ++ [x.cur] else x.failed } |> le 4, rfl, ?_⟩
  show execSelftestTestDone tm result durMs detail s = _
  unfold execSelftestTestDone
  dsimp only [State.atTime_diag]
  rw [hx]
  dsimp only
  rw [if_neg (by simp [ha]), ← hdiag]
  cases x.left <;> rfl

/-- Settles O34: Trivet serves its oldest request, the image is read back, the security events and the JTAG port, and the tests of a
self-test one after the other. -/
theorem securityEventsComplete : Obligations.SecurityEventsComplete := by
  intro tm s
  refine ⟨fun r rest out hreqs hop => ⟨?_, ?_⟩, fun n c readBackOk hn hc ho hcpl hr => ?_, ?_, ?_, fun scan ir hir => ?_,
    fun result durMs detail x hx ha => ?_⟩
  · refine ⟨_, trivetRequestDone_next tm true out hreqs, ?_⟩
    rw [State.trivetDone_unlock hop]
    simp only [if_true, State.settle_sec, State.settle_ctx, State.secEnd_sec]
    exact ⟨trivial, trivial, State.behind_length .., State.secEnd_cur ..⟩
  · refine ⟨_, trivetRequestDone_next tm false out hreqs, ?_⟩
    rw [State.trivetDone_unlock hop]
    simp only [Bool.false_eq_true, if_false, State.settle_sec, State.settle_ctx, State.authFail, State.pulse_sec, State.pulse_ctx, State.secFail,
      State.secEnd_sec]
    refine ⟨rfl, trivial, State.secEnd_cur .., fun hm => State.settle_latch_mono (State.pulse_latch (by decide) ?_)⟩
    rw [State.secEnd_mode]
    exact hm
  · have hend : ∀ (st : OpState) (code : Nat), ∃ e, (((s.atTime tm).secEnd n st code []).settle.ctx n).ending = some e ∧ e.state = st ∧
        e.result = BitVec.ofNat 8 code := by
      intro st code
      rw [State.settle_ctx]
      exact State.secEnd_ending st code hc hcpl
    cases readBackOk with
    | true =>
      obtain ⟨e, he⟩ := hend .done cOk
      exact ⟨_, e, norWriteDone_next tm true hn hc ho hr, by simp, he⟩
    | false =>
      obtain ⟨e, he⟩ := hend .failed cHw
      exact ⟨_, e, norWriteDone_next tm false hn hc ho hr, by simp [State.secFail], he⟩
  · obtain ⟨u, hu⟩ : ∃ u, u = { s.atTime tm with sec := { s.sec with entropyOk := false } } := ⟨_, rfl⟩
    refine ⟨u.settle, by rw [hu]; rfl, by rw [State.settle_sec, hu], fun hm => State.settle_raw (by rw [hu]; exact hm) ?_⟩
    have hcause : (18, !u.sec.entropyOk) ∈ u.levels := by simp [State.levels]
    rwa [hu] at hcause ⊢
  · refine ⟨_, rfl, ?_, fun hm => State.settle_latch_mono (State.pulse_latch (by decide) hm)⟩
    rw [State.settle_sec, State.pulse_sec]
    exact congrArg (min 0xFFFF) rfl
  · obtain ⟨cells, hnext, hcells⟩ := jtagInstruction_next tm scan hir
    refine ⟨_, hnext, ?_⟩
    rw [State.settle_rst]
    refine ⟨rfl, fun hno => ?_, fun hyes b hb v => ?_, fun hyes b v hone hdrive => ?_⟩
    · rw [hno] at hcells
      simp [hcells]
    · have hother : ∀ x ∈ cells, x.1 ≠ b := by
        rw [hcells, hyes]
        exact fun x hx => hb x (List.mem_filter.1 hx).1
      simp only [List.mem_append, List.mem_filter, Bool.not_eq_true', List.any_eq_false, beq_iff_eq]
      exact ⟨fun h => h.elim (fun h => absurd rfl (hother _ h)) And.left, fun h => .inr ⟨h, hother⟩⟩
    · rw [hcells, hyes, hone]
      simp [hdrive]
  · obtain ⟨failed, mask, rfl, hnext⟩ := selftestTestDone_next tm result durMs detail hx ha
    refine ⟨fun k ks hleft => ?_, fun hleft => ?_⟩
    · rw [hleft] at hnext
      exact ⟨_, hnext, by rw [State.settle_diag]⟩
    · rw [hleft] at hnext
      refine ⟨_, hnext, ?_, ?_⟩
      · rw [State.settle_diag, State.done_diag]
      · rw [State.settle_ctx]
        exact State.done_cur ..

end Sys2Proof.Machine
end

section
/-! PROOFS. Stagings of the Motion, Monitor and Simmer families and of the DRAM controller (R377, R390, R412, R416, R440, R453, R459,
R473, R479). -/

namespace Sys2Proof.Machine

section
variable (h : Hdr) (op : Nat) (s : State)

@[simp] theorem State.received_madc : (s.received h op).madc = s.madc := State.fetched_madc ..

@[simp] theorem State.received_axisBusy (x : Nat) : (s.received h op).axisBusy x = s.axisBusy x := by
  simp only [State.axisBusy, State.axisIdle, State.received_axis]

@[simp] theorem State.received_madcChan (c : Nat) : (s.received h op).madcChan c = s.madcChan c := by
  simp only [State.madcChan, State.received_board]

end

section
variable {i : Instr} {h : Hdr} {op : Nat} {body : State → Res} {s u : State} {data : List Byte} {cls : List Cls} {modeOk inRange : Bool} {n : Nat}

/-- A command with a payload whose body ends the command. -/
theorem exec_of_received_ending_body (he : exec i s = (s.take h op cls true (some n) inRange body).out)
    (ha : s.accepts h cls = true) (hn : h.plen.toNat = n) (hr : inRange = true) (hb : body (s.received h op) = .ok data [] u) :
    exec i s = .next (u.done h.ctx.toNat data).settle := by
  have hb' : body ((s.taken h op).fetched h) = .ok data [] u := hb
  rw [he, hr, State.take_of_accepts ha (fun m hm => hn.trans (Option.some.inj hm)), hb']
  rfl

/-- A staging of an axis, in range and while the axis is idle, completes; the value takes effect at the axis's next start (R377). -/
theorem staging_completes_axis {x : Nat} {ops : List Nat} {f : Tables → Tables}
    (he : exec i s = (s.take h op [.s] modeOk (some n) inRange (fun u => u.staging i h ops body)).out) (ha : s.accepts h [.s] = true)
    (hm : modeOk = true) (hn : h.plen.toNat = n) (hr : inRange = true) (hl : s.locked ops = false) (hbusy : s.axisBusy x = false)
    (hb : body (s.received h op) = (s.received h op).stageAxis x op f) :
    ∃ t, exec i s = .next t ∧ State.Stages h op op [] (f s.shadow) s t := by
  subst hm
  have hidle : (s.received h op).axisBusy x = false := by simpa using hbusy
  have hstage : (s.received h op).stageAxis x op f =
      .ok [] [] (((s.received h op).setAx x (fun a => { a with stagedCfg := true })).stage op f) := if_neg (by simp [hidle])
  have hruns : ((s.received h op).setAx x (fun a => { a with stagedCfg := true })).Runs h op := s.received_runs h op
  refine ⟨_, ?_, hruns.stages (s := s) (State.received_shadow ..) (State.received_active ..) (congrArg Staged.keys (State.received_staged ..))⟩
  rw [he, State.take_staging_of_free ha hn hr hl, hb, hstage]
  rfl

end

section
variable {h : Hdr} {s : State}

/-! ## Motion -/

theorem motAxisStage_completes {axis : BitVec 8} {c : MotCfg × Bool} (ha : s.accepts h [.s] = true) (hp : h.plen = 79)
    (hl : s.locked [0x0900] = false) (haxis : axis.toNat ≤ 3) (hpaced : s.pacedAxis axis.toNat = false)
    (hc : c = motCfgOf axis.toNat (s.payload h)) (hok : c.2 = true) (hbusy : s.axisBusy axis.toNat = false)
    (hfits : axis = 0 → s.hasRing = true → s.shadowView.ltPace.hwm ≠ 0 →
      stopFits s.ring.cap (s.ceiling { s.shadowView with motCfg := sset MotCfg.reset 0 c.1 s.shadowView.motCfg })
        { s.shadowView with motCfg := sset MotCfg.reset 0 c.1 s.shadowView.motCfg } = true) :
    ∃ t, exec (.motAxisStage h axis) s = .next t ∧ State.Stages h 0x0900 0x0900 []
      { s.shadow with motCfg := sset MotCfg.reset axis.toNat c.1 s.shadow.motCfg } s t := by
  refine staging_completes_axis (f := fun t => { t with motCfg := sset MotCfg.reset axis.toNat c.1 t.motCfg }) rfl ha (by simp [hpaced])
    (by simp [hp]) (by simpa using haxis) hl hbusy ?_
  dsimp only
  rw [State.received_payload, State.received_shadowView, State.received_hasRing, State.received_ceiling, State.received_ring, ← hc]
  refine if_neg ?_
  simp only [Bool.or_eq_true, Bool.and_eq_true, Bool.not_eq_true', beq_iff_eq, bne_iff_ne, hok, Bool.true_eq_false, false_or]
  rintro ⟨⟨⟨hzero, hring⟩, hhwm⟩, hno⟩
  rw [hzero] at hno
  exact absurd (hfits (BitVec.eq_of_toNat_eq hzero) hring hhwm) (by simp [hno])

theorem motRampStage_completes {axis first count : BitVec 8} {gs : List RampSeg} (ha : s.accepts h [.s] = true)
    (hp : h.plen.toNat = 12 * count.toNat) (hl : s.locked [0x0901] = false) (haxis : axis.toNat ≤ 3)
    (hfirst : first.toNat + count.toNat ≤ 64) (hpaced : s.pacedAxis axis.toNat = false) (hbusy : s.axisBusy axis.toNat = false)
    (hgs : gs = (chunks 12 count.toNat (s.payload h)).map (fun b => ({ dur := rd b 0 4, endPos := rdS b 4 4, endVel := rdS b 8 4 } : RampSeg)))
    (hok : ∀ g ∈ gs, 1 ≤ g.dur ∧ g.dur < 2 ^ 24) :
    ∃ t, exec (.motRampStage h axis first count) s = .next t ∧ State.Stages h 0x0901 0x0901 []
      { s.shadow with ramps := gs.zipIdx.foldl (fun m g =>
          sset RampSeg.reset (256 * axis.toNat + first.toNat + g.2) g.1 m) s.shadow.ramps } s t := by
  refine staging_completes_axis (f := fun t => { t with
      ramps := gs.zipIdx.foldl (fun m g => sset RampSeg.reset (256 * axis.toNat + first.toNat + g.2) g.1 m) t.ramps })
    rfl ha (by simp [hpaced]) hp (by simp [haxis, hfirst]) hl hbusy ?_
  dsimp only
  rw [State.received_payload, ← hgs]
  exact if_neg (by simpa using hok)

theorem motTileStage_completes (ha : s.accepts h [.s] = true) (hp : h.plen = 336) (hl : s.locked [0x0902] = false)
    (h1 : s.axisBusy 1 = false) (h2 : s.axisBusy 2 = false) :
    ∃ t, exec (.motTileStage h) s = .next t ∧ State.Stages h 0x0902 0x0902 []
      { s.shadow with tiles :=
          { cWork := rdS (s.payload h) 0 8, bPark := rdS (s.payload h) 8 8,
            tiles := (chunks 40 8 ((s.payload h).drop 16)).map (fun b =>
              { bPos := rdS b 0 8, cPos := rdS b 8 8, vB := rd b 16 4, accB := rd b 20 4, decB := rd b 24 4, vC := rd b 28 4,
                accC := rd b 32 4, decC := rd b 36 4 }) } } s t := by
  refine staging_completes (f := fun t => { t with
      tiles :=
        { cWork := rdS (s.payload h) 0 8, bPark := rdS (s.payload h) 8 8,
          tiles := (chunks 40 8 ((s.payload h).drop 16)).map (fun b =>
            { bPos := rdS b 0 8, cPos := rdS b 8 8, vB := rd b 16 4, accB := rd b 20 4, decB := rd b 24 4, vC := rd b 28 4,
              accC := rd b 32 4, decC := rd b 36 4 }) } }) rfl ha (by simp [hp]) rfl hl ?_
  dsimp only
  rw [State.received_payload, if_neg (by simp [h1, h2])]

/-! ## The monitor converters -/

/-- A staging of the monitor converters waits for their loop boundary (R412). -/
theorem exec_stagesMadc {i : Instr} {op : Nat} {cls : List Cls} {n : Nat} {inRange : Bool} {body : State → Res} {m : Madc}
    (he : exec i s = (s.take h op cls true (some n) inRange body).out) (ha : s.accepts h cls = true) (hn : h.plen.toNat = n)
    (hr : inRange = true) (hb : body (s.received h op) = .ok [] [] { s.received h op with madc := m }) :
    ∃ t, exec i s = .next t ∧ t.Done h op [] ∧ t.madc = m := by
  have hruns : ({ s.received h op with madc := m } : State).Runs h op := s.received_runs h op
  exact ⟨_, exec_of_received_ending_body he ha hn hr hb, (hruns.finish_ended ..).settle, by rw [State.settle_madc, State.done_madc]⟩

theorem madcCfgStage_completes {mainsSrc mult calPeriod : BitVec 8} (ha : s.accepts h [.s] = true) (hp : h.plen = 0)
    (hsrc : mainsSrc.toNat ≤ 2) (hmult : 1 ≤ mult.toNat) (hmult' : mult.toNat ≤ 16) :
    ∃ t, exec (.madcCfgStage h mainsSrc mult calPeriod) s = .next t ∧ t.Done h 0x0A00 [] ∧
      t.madc = { s.madc with nextCfg := some (mainsSrc.toNat, mult.toNat, calPeriod.toNat) } :=
  exec_stagesMadc rfl ha (by simp [hp]) (by simp [hsrc, hmult, hmult']) (by rw [← State.received_madc h 0x0A00 s]; rfl)

theorem madcSeqStage_completes {len : BitVec 8} {es : List (SeqEntry × Bool)} (ha : s.accepts h [.s] = true)
    (hp : h.plen.toNat = 4 * len.toNat) (hlen : len.toNat ≤ 128)
    (hes : es = (chunks 4 len.toNat (s.payload h)).map (fun b => seqEntryOf (leVal b)))
    (hok : ∀ e ∈ es, e.2 = true ∧ s.madcChan e.1.ch ≠ cRange ∧ s.madcChan e.1.ch ≠ cConflict) :
    ∃ t, exec (.madcSeqStage h len) s = .next t ∧ t.Done h 0x0A01 [] ∧ t.madc = { s.madc with nextSeq := some (es.map (·.1)) } := by
  refine exec_stagesMadc rfl ha hp (by simp [hlen]) ?_
  dsimp only
  rw [State.received_payload, ← hes, if_neg, if_neg]
  · rw [← State.received_madc h 0x0A01 s]
    rfl
  · rw [List.any_eq_true]
    rintro ⟨e, he, hbad⟩
    exact (hok e he).2.2 (by simpa using hbad)
  · rw [List.any_eq_true]
    rintro ⟨e, he, hbad⟩
    obtain ⟨hfields, hch, -⟩ := hok e he
    exact hch (by simpa [hfields] using hbad)

theorem madcSetStage_completes {first count curves : BitVec 8} {xs : List (SetCfg × Bool)} {raw : List (List Byte)}
    (ha : s.accepts h [.s] = true) (hp : h.plen.toNat = 12 * count.toNat + 128 * (setBits 4 curves.toNat).length)
    (hfirst : first.toNat + count.toNat ≤ 64) (hcurves : curves.toNat < 16)
    (hxs : xs = (chunks 12 count.toNat (s.payload h)).map setCfgOf) (hok : xs.all (·.2) = true)
    (hraw : raw = chunks 128 (setBits 4 curves.toNat).length ((s.payload h).drop (12 * count.toNat)))
    (hcurve : ∀ b ∈ raw, curveOk (curveOf b) = true ∧ ∀ q ∈ chunks 8 16 b, rd q 6 2 = 0) :
    ∃ t, exec (.madcSetStage h first count curves) s = .next t ∧ t.Done h 0x0A02 [] ∧
      t.madc = { s.madc with
        nextSets := s.madc.nextSets ++ xs.zipIdx.map (fun x => (first.toNat + x.2, x.1.1)),
        nextCurves := s.madc.nextCurves ++ (setBits 4 curves.toNat).zip (raw.map curveOf) } := by
  have hchecks : (xs.all (·.2) && (raw.map curveOf).all curveOk && raw.all (fun b => (chunks 8 16 b).all (fun q => rd q 6 2 == 0))) = true := by
    rw [hok]
    simpa using ⟨fun b hb => (hcurve b hb).1, fun b hb => (hcurve b hb).2⟩
  refine exec_stagesMadc rfl ha hp (by simp [hfirst, hcurves]) ?_
  dsimp only
  rw [State.received_payload, ← hxs, ← hraw, if_pos hchecks, ← State.received_madc h 0x0A02 s]
  rfl

/-! ## Simmer and the DRAM controller -/

/-- A staging of Simmer waits for the next refill (R440). -/
theorem exec_stagesSimmer {i : Instr} {op : Nat} {inRange : Bool} {body : State → Res} {m : Simmer}
    (he : exec i s = (s.take h op [.s, .t] true (some 0) inRange body).out) (ha : s.accepts h [.s, .t] = true) (hp : h.plen = 0)
    (hr : inRange = true) (hb : body (s.taken h op) = .ok [] [] { s.taken h op with simmer := m }) :
    ∃ t, exec i s = .next t ∧ t.Done h op [] ∧ t.simmer = m := by
  have hruns : ({ s.taken h op with simmer := m } : State).Runs h op := s.taken_runs h op
  exact ⟨_, exec_of_ending_body he ha hp hr hb, (hruns.finish_ended ..).settle, by rw [State.settle_simmer, State.done_simmer]⟩

theorem dramCfgStage_completes {fields layout prot scrub : BitVec 8} {age : BitVec 16} {d : Dram} (ha : s.accepts h [.w] = true)
    (hp : h.plen = 0) (hfields : fields.toNat < 16) (hlayout : fields.getLsbD 0 = true → layout.toNat < 2)
    (hprot : fields.getLsbD 1 = true → 1 ≤ prot.toNat ∧ prot.toNat ≤ 8) (hage : fields.getLsbD 2 = true → 250 ≤ age.toNat)
    (hscrub : fields.getLsbD 3 = true → 1 ≤ scrub.toNat ∧ scrub.toNat ≤ 168)
    (hd : d = { s.dram with prot := if fields.getLsbD 1 then prot.toNat else s.dram.prot,
                            ageLimit := if fields.getLsbD 2 then age.toNat else s.dram.ageLimit,
                            scrubH := if fields.getLsbD 3 then scrub.toNat else s.dram.scrubH }) :
    (fields.getLsbD 0 = false →
      ∃ t, exec (.dramCfgStage h fields layout prot scrub age) s = .next t ∧ t.Done h 0x0C00 [] ∧ t.dram = d) ∧
    (∀ s2, fields.getLsbD 0 = true → nvWritable s.sec.lifecycle 3 = true →
      State.nvPut .ownerCfg (le 1 layout.toNat) .layout (some h.ctx.toNat) { s.taken h 0x0C00 with dram := d } = some s2 →
      ∃ t, exec (.dramCfgStage h fields layout prot scrub age) s = .next t ∧ t.Runs h 0x0C00 ∧ t.sec.writes = s2.sec.writes ∧
        t.dram = d) := by
  have hr : (decide (fields.toNat < 16) && (!fields.getLsbD 0 || decide (layout.toNat < 2)) &&
      (!fields.getLsbD 1 || (decide (1 ≤ prot.toNat) && decide (prot.toNat ≤ 8))) && (!fields.getLsbD 2 || decide (250 ≤ age.toNat)) &&
      (!fields.getLsbD 3 || (decide (1 ≤ scrub.toNat) && decide (scrub.toNat ≤ 168)))) = true := by
    simp only [Bool.and_eq_true, Bool.or_eq_true, Bool.not_eq_true', decide_eq_true_eq, hfields, true_and, ← imp_iff_not_or,
      ← Bool.not_eq_true]
    exact ⟨⟨⟨hlayout, hprot⟩, hage⟩, hscrub⟩
  have hruns : ({ s.taken h 0x0C00 with dram := d } : State).Runs h 0x0C00 := s.taken_runs h 0x0C00
  refine ⟨fun h0 => ⟨_, exec_of_ending_body (u := { s.taken h 0x0C00 with dram := d }) (data := []) rfl ha hp hr ?_,
    (hruns.finish_ended ..).settle, ?_⟩, fun s2 h0 hlife hput => ⟨_, exec_of_going_body (u := s2) rfl ha hp hr ?_, ?_, ?_, ?_⟩⟩
  · dsimp only
    rw [if_pos (by rw [h0]; rfl), hd]
    rfl
  · rw [State.settle_dram, State.done_dram]
  · rw [hd] at hput
    dsimp only
    have hlife' : nvWritable (s.taken h 0x0C00).sec.lifecycle 3 = true := hlife
    rw [if_neg (by rw [h0]; decide), if_neg (by rw [hlife']; decide)]
    split
    next hsome => exact congrArg Res.go (Option.some.inj (hsome.symm.trans hput))
    next hnone => cases hnone.symm.trans hput
  · obtain ⟨x, rfl⟩ := State.nvPut_shape hput
    exact State.Runs.settle hruns
  · rw [State.settle_sec]
  · obtain ⟨x, rfl⟩ := State.nvPut_shape hput
    rw [State.settle_dram]

end

/-- Settles O13: each staging completes where its checks pass, and its value waits for the boundary of its unit. -/
theorem unitStagingsComplete : Obligations.UnitStagingsComplete := by
  intro h s
  refine ⟨fun ha => ⟨fun axis c hp hl haxis hpaced hc hok hbusy hfits => motAxisStage_completes ha hp hl haxis hpaced hc hok hbusy hfits,
      fun axis first count gs hp hl haxis hfirst hpaced hbusy hgs hok => motRampStage_completes ha hp hl haxis hfirst hpaced hbusy hgs hok,
      fun hp hl h1 h2 => motTileStage_completes ha hp hl h1 h2,
      fun mainsSrc mult calPeriod hp hsrc hmult hmult' => madcCfgStage_completes ha hp hsrc hmult hmult',
      fun len es hp hlen hes hok => madcSeqStage_completes ha hp hlen hes hok,
      fun first count curves xs raw hp hfirst hcurves hxs hok hraw hcurve =>
        madcSetStage_completes ha hp hfirst hcurves hxs hok hraw hcurve⟩,
    fun ha hp => ⟨fun tTarget theta tRelease tHold dwell ceilMin bucket h1 h2 h3 h4 h5 h6 h7 h8 h9 h10 h11 h12 h13 => ?_,
      fun pBoard => exec_stagesSimmer rfl ha hp rfl rfl⟩,
    fun ha hp fields layout prot scrub age d hfields hlayout hprot hage hscrub hd =>
      dramCfgStage_completes ha hp hfields hlayout hprot hage hscrub hd⟩
  exact exec_stagesSimmer rfl ha hp (by simp; omega) rfl

end Sys2Proof.Machine
end

section
/-! PROOFS. Motion commands: moves that wait, MOT_ADJUST, MOT_STOP and MOT_FAULT_CLEAR (R384 to R398). -/

namespace Sys2Proof.Machine

@[simp] theorem State.settle_axis (x : Nat) (s : State) : s.settle.axis x = s.axis x := by simp only [State.axis, State.settle_axes]
@[simp] theorem State.pulse_axis (i x : Nat) (s : State) : (s.pulse i).axis x = s.axis x := by simp only [State.axis, State.pulse_axes]
@[simp] theorem State.done_axis (n x : Nat) (data : List Byte) (s : State) : (s.done n data).axis x = s.axis x := by
  simp only [State.axis, State.done_axes]

theorem State.axis_queueMove_self (x : Nat) (m : Move) (s : State) :
    (s.queueMove x m).axis x = { s.axis x with queue := (s.axis x).queue ++ [m] } := State.axis_setAx_self ..

section
variable {i : Instr} {h : Hdr} {op x : Nat} {body : State → Res} {s u : State} {data : List Byte} {modeOk inRange : Bool}

@[simp] theorem State.taken_motRefusal (any : Bool) : (s.taken h op).motRefusal x any = s.motRefusal x any := rfl

/-- What a motion command that passes its checks does (R545). -/
theorem exec_of_motion {c : Instr} (he : exec c s = (s.take h op [.m] modeOk (some 0) inRange body).out) (ha : s.accepts h [.m] = true)
    (hp : h.plen = 0) (hm : modeOk = true) (hr : inRange = true) :
    exec c s = .next ((body (s.taken h op)).apply h.ctx.toNat).settle := by
  subst hm
  rw [he, State.take_of_accepts_empty ha hp hr]
  rfl

/-- A move that no check refuses joins the queue of its axis, and its command waits (R385, R387). -/
theorem exec_of_move {k : MoveKind} (he : exec i s = (s.take h op [.m] modeOk (some 0) inRange body).out) (ha : s.accepts h [.m] = true)
    (hp : h.plen = 0) (hm : modeOk = true) (hr : inRange = true) (hq : (s.axis x).queue.length < 4)
    (hb : body (s.taken h op) = (s.taken h op).acceptMove x h.ctx.toNat k) :
    ∃ t, exec i s = .next t ∧ t.Runs h op ∧ (t.axis x).queue = (s.axis x).queue ++ [{ ctx := some h.ctx.toNat, kind := k }] := by
  have hroom : ¬ 4 ≤ ((s.taken h op).axis x).queue.length := Nat.not_le.2 hq
  refine ⟨_, exec_of_motion he ha hp hm hr, ?_, ?_⟩
  · rw [hb, State.acceptMove, if_neg hroom]
    refine State.Runs.settle ?_
    exact (congrArg Ctx.cur (State.ctx_setCtx_self ..)).trans (s.taken_runs h op)
  · rw [hb, State.acceptMove, if_neg hroom]
    rw [State.settle_axis]
    exact congrArg Axis.queue (State.axis_queueMove_self x _ (s.taken h op))

end

/-! ## MOT_STOP (R395) -/

/-- The axes are the same but for their queues. -/
def State.KeepsAxes (s t : State) : Prop := ∀ k, ∃ q, t.axis k = { s.axis k with queue := q }

namespace State.KeepsAxes

variable {s t u : State}

theorem refl (s : State) : s.KeepsAxes s := fun k => ⟨(s.axis k).queue, rfl⟩

theorem trans (h : s.KeepsAxes t) (h' : t.KeepsAxes u) : s.KeepsAxes u := fun k => by
  obtain ⟨q, hq⟩ := h k
  obtain ⟨q', hq'⟩ := h' k
  exact ⟨q', by rw [hq', hq]⟩

theorem of_axes (h : t.axes = s.axes) : s.KeepsAxes t := fun k => ⟨(s.axis k).queue, by simp only [State.axis, h]⟩

theorem foldl {α : Type} {f : State → α → State} (hf : ∀ (s : State) (x : α), s.KeepsAxes (f s x)) (l : List α) (s : State) :
    s.KeepsAxes (l.foldl f s) := by
  induction l generalizing s with
  | nil => exact refl s
  | cons x l ih => exact (hf s x).trans (ih _)

theorem of_erase (y : Nat) (m : Move) (s : State) : s.KeepsAxes (s.setAx y (fun a => { a with queue := a.queue.erase m })) := fun k => by
  by_cases hk : k = y
  · subst hk
    exact ⟨_, State.axis_setAx_self ..⟩
  · exact ⟨(s.axis k).queue, State.axis_setAx_ne _ _ hk⟩

theorem of_moveOver (x : Nat) (m : Move) (st : OpState) (code : Nat) (s : State) : s.KeepsAxes (s.moveOver x m st code) := by
  unfold State.moveOver
  dsimp only
  have hpulse : ∀ (l : List Nat) (u : State), u.KeepsAxes (l.foldl (fun (s : State) y => s.pulse (160 + 4 * y)) u) :=
    foldl fun u y => of_axes (State.pulse_axes ..)
  have herase : ∀ (l : List Nat) (u : State),
      u.KeepsAxes (l.foldl (fun (s : State) y => s.setAx y (fun a => { a with queue := a.queue.erase m })) u) :=
    foldl fun u y => of_erase y m u
  split
  · exact (herase _ s).trans ((of_axes (State.finish_axes ..)).trans (hpulse _ _))
  · exact (herase _ s).trans (hpulse _ _)

theorem of_flushMoves (x : Nat) (s : State) : s.KeepsAxes (s.flushMoves x) := foldl (fun u m => of_moveOver x m _ _ u) _ s

end State.KeepsAxes

/-- The end of a move leaves the contexts alone that did not ask for it. -/
theorem State.moveOver_ctx {n : Nat} {m : Move} (hn : m.ctx ≠ some n) (x : Nat) (st : OpState) (code : Nat) (s : State) :
    (s.moveOver x m st code).ctx n = s.ctx n := by
  have herase : ∀ (l : List Nat) (u : State),
      (l.foldl (fun (s : State) y => s.setAx y (fun a => { a with queue := a.queue.erase m })) u).ctx n = u.ctx n := fun l u =>
    List.foldlRecOn (motive := fun t : State => t.ctx n = u.ctx n) l _ rfl fun _ ih _ _ => ih
  have hpulse : ∀ (l : List Nat) (u : State), (l.foldl (fun (s : State) y => s.pulse (160 + 4 * y)) u).ctx n = u.ctx n := fun l u =>
    List.foldlRecOn (motive := fun t : State => t.ctx n = u.ctx n) l _ rfl fun _ ih _ _ => (State.pulse_ctx ..).trans ih
  unfold State.moveOver
  dsimp only
  rw [hpulse]
  split
  next k hk => exact (State.finish_ctx_ne _ _ _ _ (fun e => hn (by rw [hk, e]))).trans (herase ..)
  next => exact herase ..

/-- A flush ends the moves that wait; the context that asks for it is not among theirs. -/
theorem State.flushMoves_ctx {n x : Nat} {s : State} (hn : ∀ m ∈ (s.axis x).queue, m.ctx ≠ some n) :
    (s.flushMoves x).ctx n = s.ctx n := by
  unfold State.flushMoves
  dsimp only
  refine List.foldlRecOn (motive := fun t : State => t.ctx n = s.ctx n) _ _ rfl fun _ ih m hm => ?_
  refine (State.moveOver_ctx (hn m ?_) ..).trans ih
  split at hm
  · exact List.mem_of_mem_drop hm
  · exact hm

/-- The flush that MOT_STOP may ask for. -/
def State.flushIf (x : Nat) (flush : BitVec 8) (s : State) : State := if flush = 1 then s.flushMoves x else s

theorem State.flushIf_axis (x : Nat) (flush : BitVec 8) (s : State) : ∃ q, (s.flushIf x flush).axis x = { s.axis x with queue := q } := by
  unfold State.flushIf
  split
  · exact State.KeepsAxes.of_flushMoves x s x
  · exact ⟨_, rfl⟩

theorem State.flushIf_ctx {n x : Nat} {s : State} (flush : BitVec 8) (hn : ∀ m ∈ (s.axis x).queue, m.ctx ≠ some n) :
    (s.flushIf x flush).ctx n = s.ctx n := by
  unfold State.flushIf
  split
  · exact State.flushMoves_ctx hn
  · rfl

/-- MOT_STOP waits for its axis to come to rest. -/
def State.waitStop (x n : Nat) (flush : BitVec 8) (s : State) : State := s.setAx x (fun a => { a with stops := a.stops ++ [(n, flush == 1)] })

theorem State.mem_stops_waitStop (x n : Nat) (flush : BitVec 8) (s : State) :
    (n, flush == 1) ∈ ((s.waitStop x n flush).axis x).stops := by
  rw [State.waitStop, State.axis_setAx_self]
  exact List.mem_append_right _ List.mem_cons_self

theorem State.stopMove_ctx (x code n : Nat) (s : State) : (s.stopMove x code).ctx n = s.ctx n := by
  unfold State.stopMove
  dsimp only
  split <;> rfl

section
variable {h : Hdr} {axis : BitVec 8} {s : State}

/-- What MOT_STOP does on an axis that it may stop (R395; log entry 53). -/
theorem motStop_next (flush : BitVec 8) (ha : s.accepts h [.m] = true) (hp : h.plen = 0) (haxis : axis.toNat ≤ 3)
    (hflush : flush.toNat ≤ 1) (hrefusal : s.motRefusal axis.toNat true = none) :
    ∃ u, u = (s.taken h 0x090A).flushIf axis.toNat flush ∧ exec (.motStop h axis flush) s = .next (State.settle
      (if (u.axis axis.toNat).owned && (u.axis axis.toNat).v != 0 then
        (u.setLt (fun l => { l with pace := if u.pacedAxis axis.toNat then .decel else l.pace, paceSlow := false })).waitStop
          axis.toNat h.ctx.toNat flush
      else if !(u.axis axis.toNat).running then u.done h.ctx.toNat (leS 8 (u.axis axis.toNat).pos)
      else (u.stopMove axis.toNat cAborted).waitStop axis.toNat h.ctx.toNat flush)) := by
  refine ⟨_, rfl, (exec_of_motion (op := 0x090A) rfl ha hp rfl (by simp [haxis, hflush])).trans ?_⟩
  dsimp only
  rw [State.taken_motRefusal, hrefusal]
  dsimp only
  refine congrArg (fun t : State => Host.Outcome.next t.settle) ?_
  unfold State.flushIf
  (repeat' split) <;> rfl

theorem motStop_spec (flush : BitVec 8) (ha : s.accepts h [.m] = true) (hp : h.plen = 0) (haxis : axis.toNat ≤ 3)
    (hflush : flush.toNat ≤ 1) (hrefusal : s.motRefusal axis.toNat true = none)
    (hmine : ∀ m ∈ (s.axis axis.toNat).queue, m.ctx ≠ some h.ctx.toNat) :
    ((s.axis axis.toNat).running = false → ((s.axis axis.toNat).owned && (s.axis axis.toNat).v != 0) = false →
      ∃ t, exec (.motStop h axis flush) s = .next t ∧ t.Done h 0x090A (leS 8 (s.axis axis.toNat).pos)) ∧
    (((s.axis axis.toNat).running = true ∨ ((s.axis axis.toNat).owned && (s.axis axis.toNat).v != 0) = true) →
      ∃ t, exec (.motStop h axis flush) s = .next t ∧ t.Runs h 0x090A ∧ (h.ctx.toNat, flush == 1) ∈ (t.axis axis.toNat).stops) := by
  obtain ⟨u, hu, hnext⟩ := motStop_next flush ha hp haxis hflush hrefusal
  obtain ⟨q, hq⟩ := State.flushIf_axis axis.toNat flush (s.taken h 0x090A)
  rw [← hu, State.taken_axis] at hq
  have hruns : u.Runs h 0x090A := by
    have hctx : u.ctx h.ctx.toNat = (s.taken h 0x090A).ctx h.ctx.toNat := hu ▸ State.flushIf_ctx flush hmine
    exact (congrArg Ctx.cur hctx).trans (s.taken_runs h 0x090A)
  rw [hq] at hnext
  refine ⟨fun hrest hown => ⟨_, hnext, ?_⟩, fun hmoves => ⟨_, hnext, ?_, ?_⟩⟩
  · dsimp only
    rw [if_neg (by rw [hown]; decide), if_pos (by rw [hrest]; rfl)]
    exact (hruns.finish_ended ..).settle
  · refine State.Runs.settle ?_
    dsimp only
    split
    · exact hruns
    next hown =>
      rw [if_neg (by simp [hmoves.resolve_right hown])]
      exact (congrArg Ctx.cur (State.stopMove_ctx ..)).trans hruns
  · rw [State.settle_axis]
    dsimp only
    split
    · exact State.mem_stops_waitStop ..
    next hown =>
      rw [if_neg (by simp [hmoves.resolve_right hown])]
      exact State.mem_stops_waitStop ..

/-! ## Moves of one axis -/

theorem motMove_waits {rel : BitVec 8} {target : BitVec 64} {vMax acc dec : BitVec 32} {goal : Int} (ha : s.accepts h [.m] = true)
    (hp : h.plen = 0) (haxis : axis.toNat ≤ 3) (hpaced : s.pacedAxis axis.toNat = false) (hrefusal : s.motRefusal axis.toNat false = none)
    (hq : (s.axis axis.toNat).queue.length < 4) (hrel : rel.toNat ≤ 1) (hrate : s.rateOk axis.toNat vMax.toNat [acc.toNat, dec.toNat] = true)
    (hgoal : goal = (if rel = 1 then s.queueEnd axis.toNat + target.toInt else target.toInt))
    (hhomed : rel = 0 → (s.axis axis.toNat).homed = true) (hin : s.targetIn axis.toNat goal = true) :
    ∃ t, exec (.motMove h axis rel target vMax acc dec) s = .next t ∧ t.Runs h 0x0903 ∧ (t.axis axis.toNat).queue =
      (s.axis axis.toNat).queue ++ [{ ctx := some h.ctx.toNat, kind := .move goal vMax.toNat acc.toNat dec.toNat }] := by
  have hin' : (s.taken h 0x0903).targetIn axis.toNat (if rel = 1 then s.queueEnd axis.toNat + target.toInt else target.toInt) = true :=
    hgoal ▸ hin
  refine exec_of_move rfl ha hp (by simp [hpaced]) (by simp [haxis, hrel, hrate]) hq ?_
  dsimp only
  rw [State.taken_motRefusal, hrefusal, State.taken_axis]
  dsimp only
  rw [if_neg (by simpa using hhomed), if_neg, hgoal]
  · rfl
  · rw [Bool.not_eq_true', Bool.not_eq_false]
    exact hin'

theorem motTable_waits {first last : BitVec 8} (ha : s.accepts h [.m] = true)
    (hp : h.plen = 0) (haxis : axis.toNat ≤ 3) (hpaced : s.pacedAxis axis.toNat = false) (hrefusal : s.motRefusal axis.toNat false = none)
    (hq : (s.axis axis.toNat).queue.length < 4) (hfirst : first.toNat ≤ last.toNat) (hlast : last.toNat ≤ 63)
    (hok : rampsOk (s.motCfg axis.toNat)
      (if (s.axis axis.toNat).homed then some ((s.motCfg axis.toNat).posMin, (s.motCfg axis.toNat).posMax) else none)
      (s.queueEnd axis.toNat) 0 0 (rampOf s.active axis.toNat first.toNat last.toNat) = true) :
    ∃ t, exec (.motTable h axis first last) s = .next t ∧ t.Runs h 0x0904 ∧ (t.axis axis.toNat).queue =
      (s.axis axis.toNat).queue ++ [{ ctx := some h.ctx.toNat, kind := .table first.toNat last.toNat }] := by
  refine exec_of_move rfl ha hp (by simp [hpaced]) (by simp [haxis, hfirst, hlast]) hq ?_
  dsimp only
  rw [State.taken_motRefusal, hrefusal]
  dsimp only
  refine if_neg ?_
  rw [Bool.not_eq_true', Bool.not_eq_false]
  exact hok

theorem motFollow_waits (ha : s.accepts h [.m] = true)
    (hp : h.plen = 0) (haxis : axis.toNat ≤ 3) (hpaced : s.pacedAxis axis.toNat = false) (hrefusal : s.motRefusal axis.toNat false = none)
    (hq : (s.axis axis.toNat).queue.length < 4)
    (hballs : axis = 0 → s.active.io.enc1 = 2 ∧ s.shadow.io.enc1 ≠ 1 ∧ s.ltClaims = false) :
    ∃ t, exec (.motFollow h axis) s = .next t ∧ t.Runs h 0x0907 ∧ (t.axis axis.toNat).queue =
      (s.axis axis.toNat).queue ++ [{ ctx := some h.ctx.toNat, kind := .follow }] := by
  have hballs' : axis.toNat = 0 → s.active.io.enc1 = 2 ∧ s.shadow.io.enc1 ≠ 1 ∧ s.ltClaims = false :=
    fun hx => hballs (BitVec.eq_of_toNat_eq hx)
  have hlt : (s.taken h 0x0907).ltClaims = s.ltClaims := rfl
  refine exec_of_move rfl ha hp (by simp [hpaced]) (by simp [haxis]) hq ?_
  rw [State.taken_motRefusal, hrefusal, State.taken_active, State.taken_shadow, hlt]
  dsimp only
  rw [if_neg, if_neg, if_neg]
  all_goals
    intro hbad
    have hx : axis.toNat = 0 := by simpa using (Bool.and_eq_true_iff.1 hbad).1
    obtain ⟨hact, hsh, hclaims⟩ := hballs' hx
    simp [hact, hclaims] at hbad <;> exact hsh hbad.2

/-! ## MOT_COORD, MOT_ADJUST and MOT_FAULT_CLEAR -/

theorem motCoord_waits {targetB targetC : BitVec 64} {vMax acc dec : BitVec 32} {db dc lead : Nat} {m : Move}
    (ha : s.accepts h [.m] = true) (hp : h.plen = 0) (hdb : db = (targetB.toInt - s.queueEnd 1).natAbs)
    (hdc : dc = (targetC.toInt - s.queueEnd 2).natAbs) (hlead : lead = (if dc ≤ db then 1 else 2))
    (hrate : s.rateOk lead vMax.toNat [acc.toNat, dec.toNat] = true)
    (hv : vMax.toNat * min db dc ≤ (s.motCfg (3 - lead)).vLimit * max db dc)
    (hacc : acc.toNat * min db dc ≤ (s.motCfg (3 - lead)).aLimit * max db dc)
    (hdec : dec.toNat * min db dc ≤ (s.motCfg (3 - lead)).aLimit * max db dc)
    (href1 : s.motRefusal 1 false = none) (href2 : s.motRefusal 2 false = none) (hhome1 : (s.axis 1).homed = true)
    (hhome2 : (s.axis 2).homed = true) (hin1 : s.targetIn 1 targetB.toInt = true) (hin2 : s.targetIn 2 targetC.toInt = true)
    (hq1 : (s.axis 1).queue.length < 4) (hq2 : (s.axis 2).queue.length < 4)
    (hm : m = { ctx := some h.ctx.toNat, kind := .coord targetB.toInt targetC.toInt vMax.toNat acc.toNat dec.toNat }) :
    ∃ t, exec (.motCoord h targetB targetC vMax acc dec) s = .next t ∧ t.Runs h 0x0906 ∧
      (t.axis 1).queue = (s.axis 1).queue ++ [m] ∧ (t.axis 2).queue = (s.axis 2).queue ++ [m] := by
  obtain ⟨u, hu⟩ : ∃ u, u = ((s.taken h 0x0906).queueMove 1 m).queueMove 2 m := ⟨_, rfl⟩
  have haxis1 : u.axis 1 = { s.axis 1 with queue := (s.axis 1).queue ++ [m] } := by
    rw [hu]
    exact (State.axis_setAx_ne _ _ (by decide)).trans (State.axis_queueMove_self 1 m (s.taken h 0x0906))
  have haxis2 : u.axis 2 = { s.axis 2 with queue := (s.axis 2).queue ++ [m] } := by
    rw [hu]
    rw [State.axis_queueMove_self, State.queueMove, State.axis_setAx_ne _ _ (by decide)]
    rfl
  have hruns : u.Runs h 0x0906 := hu ▸ s.taken_runs h 0x0906
  have htargets : ((s.taken h 0x0906).targetIn 1 targetB.toInt && (s.taken h 0x0906).targetIn 2 targetC.toInt) = true :=
    Bool.and_eq_true_iff.2 ⟨hin1, hin2⟩
  refine ⟨_, exec_of_motion (op := 0x0906) rfl ha hp rfl ?_, ?_⟩
  · rw [← hdb, ← hdc, ← hlead]
    simp [hrate, hv, hacc, hdec]
  · dsimp only
    rw [State.taken_motRefusal, State.taken_motRefusal, href1, href2]
    dsimp only
    rw [State.taken_axis, State.taken_axis, htargets, if_neg (by simp [hhome1, hhome2]), if_neg (by decide),
      if_neg (by simp; omega), ← hm, ← hu]
    refine ⟨State.Runs.settle ((congrArg Ctx.cur (State.ctx_setCtx_self ..)).trans hruns), ?_, ?_⟩
    · rw [State.settle_axis]
      exact congrArg Axis.queue haxis1
    · rw [State.settle_axis]
      exact congrArg Axis.queue haxis2

/-- A move that ends somewhere keeps its deceleration where it is too late for a lower one (R389). -/
def State.tooLate (y : Nat) (m : Move) (dec : Nat) (s : State) : Bool :=
  (match m.kind with | .move .. | .coord .. => true | _ => false) &&
    decide (((s.axis y).target * 2 ^ 32 - (s.axis y).p).natAbs < brakeDist (s.axis y).v.natAbs dec)

theorem motAdjust_adjusts {vMax acc dec : BitVec 32} {m : Move} {y : Nat} (ha : s.accepts h [.m] = true)
    (hp : h.plen = 0) (haxis : axis.toNat ≤ 3) (hpaced : s.pacedAxis axis.toNat = false) (hrefusal : s.motRefusal axis.toNat false = none)
    (hrate : s.rateOk axis.toNat vMax.toNat [acc.toNat, dec.toNat] = true) (hhead : (s.axis axis.toNat).queue.head? = some m)
    (hrun : (s.axis axis.toNat).running = true) (hstop : (s.axis axis.toNat).stopDec = none) (hy : y = s.profileAxis axis.toNat m)
    (hkind : match m.kind with | .move .. => True | .coord .. => True | .jog .. => True | _ => False) :
    ∃ t d, exec (.motAdjust h axis vMax acc dec) s = .next t ∧ t.Done h 0x0909 d ∧ (t.axis y).vMax = vMax.toNat ∧
      (t.axis y).acc = acc.toNat ∧ (t.axis y).dec = (if d = le 1 1 then (s.axis y).dec else dec.toNat) := by
  obtain ⟨kept, hbody⟩ : ∃ kept, exec (.motAdjust h axis vMax acc dec) s = .next ((((s.taken h 0x0909).setAx y (fun b =>
      { b with
        vMax := vMax.toNat, acc := acc.toNat, dec := if kept then b.dec else dec.toNat })).done h.ctx.toNat (le 1 (b2n kept))).settle) := by
    have hprofile : (s.taken h 0x0909).profileAxis axis.toNat m = y := hy.symm
    refine ⟨s.tooLate y m dec.toNat, (exec_of_motion (op := 0x0909) rfl ha hp (by simp [hpaced]) (by simp [haxis, hrate])).trans ?_⟩
    dsimp only
    rw [State.taken_motRefusal, hrefusal, State.taken_axis, hhead]
    dsimp only
    rw [hprofile, hrun, hstop, if_neg]
    · rfl
    · cases hk : m.kind <;> simp_all
  have hruns : ((s.taken h 0x0909).setAx y (fun b =>
      { b with
        vMax := vMax.toNat, acc := acc.toNat, dec := if kept then b.dec else dec.toNat })).Runs h 0x0909 := s.taken_runs h 0x0909
  refine ⟨_, le 1 (b2n kept), hbody, (hruns.finish_ended ..).settle, ?_⟩
  rw [State.settle_axis, State.done_axis, State.axis_setAx_self, State.taken_axis]
  refine ⟨rfl, rfl, ?_⟩
  cases kept <;> simp [b2n, le]

theorem motFaultClear_clears (ha : s.accepts h [.m] = true) (hp : h.plen = 0) (haxis : axis.toNat ≤ 3)
    (hpaced : s.pacedAxis axis.toNat = false) (hrefusal : s.motRefusal axis.toNat true = none)
    (hpin : (s.axis axis.toNat).fltPin = false) :
    ∃ t, exec (.motFaultClear h axis) s = .next t ∧ t.Done h 0x090B [] ∧
      ((s.axis axis.toNat).state = .hardFault → (t.axis axis.toNat).state = .rest ∧ (t.axis axis.toNat).gates = !s.rst.thermTrip ∧
        (t.axis axis.toNat).hold = true) ∧
      ((s.axis axis.toNat).state ≠ .hardFault → t.axes = s.axes) := by
  obtain ⟨u, hu⟩ : ∃ u, u = (if (s.axis axis.toNat).state == .hardFault then (s.taken h 0x090B).setAx axis.toNat (fun a =>
      { a with
        state := .rest, gates := !s.rst.thermTrip, hold := true, restAt := none, overRun := 0 }) else s.taken h 0x090B) := ⟨_, rfl⟩
  have hruns : u.Runs h 0x090B := by
    rw [hu]
    split <;> exact s.taken_runs h 0x090B
  refine ⟨(u.done h.ctx.toNat []).settle, ?_, (hruns.finish_ended ..).settle, fun hfault => ?_, fun hno => ?_⟩
  · refine (exec_of_motion (op := 0x090B) rfl ha hp (by simp [hpaced]) (by simp [haxis])).trans ?_
    rw [State.taken_motRefusal, hrefusal, State.taken_axis]
    dsimp only
    rw [if_neg (by simp [hpin]), hu]
    rfl
  · rw [State.settle_axis, State.done_axis, hu, if_pos (by simp [hfault]), State.axis_setAx_self]
    exact ⟨rfl, rfl, rfl⟩
  · rw [State.settle_axes, State.done_axes, hu, if_neg (by simpa using hno)]
    rfl

end

/-- Settles O18: the moves wait in the queue of their axis, and the commands on a running move, a stop and a fault act at once. -/
theorem motionCommandsComplete : Obligations.MotionCommandsComplete := by
  refine ⟨fun h axis s ha hp haxis => ⟨fun hpaced href hq => ⟨?_, ?_, ?_, ?_, ?_⟩, ?_⟩, fun h axis s ha hp haxis => ⟨?_, ?_, ?_⟩⟩
  · exact fun rel target vMax acc dec goal hrel hrate hgoal hhomed hin =>
      motMove_waits ha hp haxis hpaced href hq hrel hrate hgoal hhomed hin
  · exact fun first last hfirst hlast hok => motTable_waits ha hp haxis hpaced href hq hfirst hlast hok
  · intro vMax acc hrate
    refine exec_of_move rfl ha hp (by simp [hpaced]) (by simp [haxis, hrate]) hq ?_
    rw [State.taken_motRefusal, href]
  · exact fun hballs => motFollow_waits ha hp haxis hpaced href hq hballs
  · intro dir vHome homePos backoff homeMax hdir hrate hthr hstall
    refine exec_of_move rfl ha hp (by simp [hpaced]) (by simp [haxis, hdir, hrate, hthr, hstall]) hq ?_
    rw [State.taken_motRefusal, href]
  · exact fun targetB targetC vMax acc dec db dc lead m hdb hdc hlead hrate hv hacc hdec h1 h2 hh1 hh2 hi1 hi2 hq1 hq2 hm =>
      motCoord_waits ha hp hdb hdc hlead hrate hv hacc hdec h1 h2 hh1 hh2 hi1 hi2 hq1 hq2 hm
  · exact fun vMax acc dec m y hpaced href hrate hhead hrun hstop hy hkind =>
      motAdjust_adjusts ha hp haxis hpaced href hrate hhead hrun hstop hy hkind
  · exact fun flush hflush href hmine => motStop_spec flush ha hp haxis hflush href hmine
  · exact fun hpaced href hpin => motFaultClear_clears ha hp haxis hpaced href hpin

end Sys2Proof.Machine
end

section
/-! PROOFS. Events of the motion unit: the ramp tick, faults, the hold current and the step inputs (R380 to R401). -/

namespace Sys2Proof.Machine

/-! ## What a count of AX_A leaves alone (R172, R380) -/

/-- The axes, the pending apply and the shading calibration are the same. -/
def State.LeavesAxes (s t : State) : Prop := t.axes = s.axes ∧ t.mode.apply = s.mode.apply ∧ t.shd.cal = s.shd.cal

namespace State.LeavesAxes

variable {s t u : State}

theorem trans (h : s.LeavesAxes t) (h' : t.LeavesAxes u) : s.LeavesAxes u :=
  ⟨h'.1.trans h.1, h'.2.1.trans h.2.1, h'.2.2.trans h.2.2⟩

theorem refl (s : State) : s.LeavesAxes s := ⟨rfl, rfl, rfl⟩

theorem of_ite {c : Prop} [Decidable c] (ht : s.LeavesAxes t) (hu : s.LeavesAxes u) : s.LeavesAxes (if c then t else u) := by
  split
  · exact ht
  · exact hu

theorem of_pulseIf (c : Bool) (i : Nat) (s : State) : s.LeavesAxes (s.pulseIf c i) := by
  obtain ⟨_, _, _, _, _, _, _, _, e⟩ := s.pulseIf_signals c i
  rw [e]
  exact refl s

theorem of_pulse (i : Nat) (s : State) : s.LeavesAxes (s.pulse i) := by
  obtain ⟨_, _, _, _, _, _, _, _, e⟩ := s.pulse_signals i
  rw [e]
  exact refl s

theorem of_setLt (f : LineUnit → LineUnit) (s : State) : s.LeavesAxes (s.setLt f) := refl s

theorem of_gateLine (s : State) : s.LeavesAxes s.gateLine.st := by
  unfold State.gateLine
  dsimp only
  split
  · exact of_setLt _ s
  · split
    · split
      · exact of_setLt _ s
      · exact (of_setLt _ s).trans (of_pulseIf ..)
    · exact ((of_setLt _ s).trans (of_pulseIf ..)).trans (of_pulseIf ..)

theorem of_lineBoundary (s : State) : s.LeavesAxes s.lineBoundary := by
  have hrows : s.LeavesAxes s.rowBoundary := by
    unfold State.rowBoundary
    exact List.foldlRecOn (motive := fun t : State => s.LeavesAxes t) _ _ (refl s) fun _ ih _ _ => ih
  exact hrows

theorem of_warmed (cap : Nat) (s : State) : s.LeavesAxes (s.gateLine.warm cap).st := by
  obtain ⟨_, e⟩ := s.gateLine.warm_st cap
  rw [e]
  exact of_gateLine s

theorem of_startLine (seq : BitVec 32) (s : State) : s.LeavesAxes (s.startLine seq) := by
  obtain ⟨_, e⟩ := s.startLine_shape seq
  rw [e]
  exact refl s

theorem of_started (c : Prop) [Decidable c] (seq : BitVec 32) (h : s.LeavesAxes t) : s.LeavesAxes (if c then t else t.startLine seq) :=
  of_ite h (h.trans (of_startLine ..))

/-- With no apply pending the issue of a line leaves the axes alone. -/
theorem of_issueLine (late : Nat) (h : s.mode.apply = none) : s.LeavesAxes (s.issueLine late) := by
  have hgate := (of_lineBoundary s).trans (of_warmed s.lineBoundary.lt.caps s.lineBoundary)
  unfold State.issueLine
  simp only [State.applyDue_of_none h]
  generalize s.lineBoundary.gateLine.warm s.lineBoundary.lt.caps = g at hgate ⊢
  generalize (s.lineBoundary.lt.pace == .approach && s.lineBoundary.mode.mode == .sheetScan) = restart
  refine of_started _ _ (trans (trans (hgate.trans ?_) (of_pulseIf _ _ _)) (of_pulseIf _ _ _))
  exact ⟨rfl, rfl, rfl⟩

theorem of_requestTrigger (h : s.mode.apply = none) : s.LeavesAxes s.requestTrigger := by
  unfold State.requestTrigger
  extract_lets s1 s2 early
  have hskip : s.LeavesAxes s2 := of_ite (of_pulse ..) (refl s)
  exact of_ite hskip (hskip.trans (of_issueLine 0 (hskip.2.1.trans h)))

theorem of_lineCount (d : Int) (h : s.mode.apply = none) : s.LeavesAxes (s.lineCount d) := by
  cases hrun : s.lt.run with
  | false =>
    unfold State.lineCount
    rw [hrun]
    exact refl s
  | true =>
    obtain ⟨i, e⟩ := State.lineCount_eq (d := d) hrun
    rw [e]
    split
    · exact of_requestTrigger (s := (s.counted d).setLt _) h
    · exact refl s

theorem of_lineCounts (d : Int) (n : Nat) (h : s.mode.apply = none) : s.LeavesAxes (s.lineCounts d n) := by
  induction n generalizing s with
  | zero => exact refl s
  | succ n ih =>
    have hone := of_lineCount d h
    exact hone.trans (ih (hone.2.1.trans h))

theorem axis (h : s.LeavesAxes t) (k : Nat) : t.axis k = s.axis k := by simp only [State.axis, h.1]

end State.LeavesAxes

/-! ## The ramp tick (R380, R385, R388, R390) -/

/-- A tick moves its axis, and the counts of line timing that it makes change no axis (R380). -/
theorem State.moveTo_leavesAxes {s : State} (x : Nat) (p v : Int) (h : s.mode.apply = none) :
    (s.setAx x (fun a => { a with p := p, v := v })).LeavesAxes (s.moveTo x p v) := by
  unfold State.moveTo
  extract_lets old s1 d s2
  have hcounts : s1.LeavesAxes s2 := .of_lineCounts _ _ h
  exact .of_ite hcounts (.refl _)

/-- The axis stands still and has nothing to do. -/
def State.Rests (x : Nat) (s : State) : Prop := (s.axis x).running = false ∧ (s.axis x).queue = [] ∧ (s.axis x).owned = false

theorem State.axisTick_of_rests {x : Nat} {s : State} (h : s.Rests x) : s.axisTick x = s := by
  obtain ⟨hrun, hqueue, hown⟩ := h
  simp [State.axisTick, State.startNext, hrun, hqueue, hown]

theorem State.axisTicks_of_rest {l : List Nat} {s : State} (h : ∀ y ∈ l, s.Rests y) : l.foldl State.axisTick s = s := by
  induction l with
  | nil => rfl
  | cons y l ih =>
    rw [List.foldl_cons, State.axisTick_of_rests (h y List.mem_cons_self)]
    exact ih fun z hz => h z (List.mem_cons_of_mem y hz)

/-- Where the other axes rest, a ramp tick is the tick of one axis. -/
theorem State.axisTicks_of_one {x : Nat} {s : State} (hx : x < 4) (hrest : ∀ y, y < 4 → y ≠ x → s.Rests y)
    (hkeep : ∀ y, y ≠ x → (s.axisTick x).axis y = s.axis y) : (List.range 4).foldl State.axisTick s = s.axisTick x := by
  obtain ⟨l, r, hsplit⟩ := List.append_of_mem (List.mem_range.2 hx)
  have hnodup : (l ++ x :: r).Nodup := hsplit ▸ List.nodup_range
  have hlt : ∀ y ∈ l ++ x :: r, y < 4 := fun y hy => List.mem_range.1 (hsplit ▸ hy)
  have hapart : ∀ y, y ∈ l ∨ y ∈ r → y ≠ x := by
    rintro y hy rfl
    rw [List.nodup_append, List.nodup_cons] at hnodup
    obtain ⟨-, ⟨hright, -⟩, hleft⟩ := hnodup
    exact hy.elim (fun hl => hleft y hl y List.mem_cons_self rfl) hright
  have hbefore : ∀ y ∈ l, s.Rests y := fun y hy => hrest y (hlt y (by simp [hy])) (hapart y (.inl hy))
  have hafter : ∀ y ∈ r, (s.axisTick x).Rests y := fun y hy => by
    have hy' := hapart y (.inr hy)
    simpa only [State.Rests, hkeep y hy'] using hrest y (hlt y (by simp [hy])) hy'
  rw [hsplit, List.foldl_append, State.axisTicks_of_rest hbefore, List.foldl_cons, State.axisTicks_of_rest hafter]

theorem State.tileStep_of_none {s : State} (h : s.shd.cal = none) : s.tileStep = s := by
  unfold State.tileStep
  rw [h]

theorem motRampTick_of_one {tm x : Nat} {s u : State} (hx : x < 4) (hrest : ∀ y, y < 4 → y ≠ x → s.Rests y)
    (hu : (s.atTime tm).axisTick x = u) (hkeep : ∀ y, y ≠ x → u.axis y = s.axis y) (hcal : u.shd.cal = none) :
    exec (.motRampTick tm) s = .next u.settle := by
  subst hu
  have hticks := State.axisTicks_of_one (s := s.atTime tm) hx hrest hkeep
  show execMotRampTick tm s = _
  rw [execMotRampTick, hticks, State.tileStep_of_none hcal]
  rfl

section
variable {tm x : Nat} {s : State} {m : Move} {goal : Int} {v acc dec : Nat}

theorem Move.isCoord_of_move (h : m.kind = .move goal v acc dec) : m.isCoord = false := by
  unfold Move.isCoord
  rw [h]

/-- An axis at `p` as the start of a MOT_MOVE leaves it (R385, R387). -/
def Axis.started (p goal : Int) (v acc dec now : Nat) (a : Axis) : Axis :=
  { a with
    running := true, state := .moving, hold := false, restAt := none, start := p, startAt := now, stopDec := none, backing := false,
    coarse := p, edgeAt := none, followV := 0, stallRun := 0, target := goal, vMax := v, acc := acc, dec := dec }

/-- What the start of a MOT_MOVE sets (R385, R387). -/
theorem State.startMove_of_move (hm : m.kind = .move goal v acc dec) (s : State) :
    (∀ y, y ≠ x → (s.startMove x m).axis y = s.axis y) ∧ (s.startMove x m).shd = s.shd ∧
      ((s.startMove x m).axis x).running = true ∧ ((s.startMove x m).axis x).target = goal ∧ ((s.startMove x m).axis x).vMax = v ∧
      ((s.startMove x m).axis x).start = (s.axis x).pos := by
  have hset : (s.startMove x m).axes = (s.setAx x (Axis.started (s.axis x).pos goal v acc dec s.now)).axes ∧
      (s.startMove x m).shd = s.shd := by
    unfold State.startMove
    rw [hm]
    dsimp only
    split <;> exact ⟨rfl, rfl⟩
  have haxis : ∀ y, (s.startMove x m).axis y = (s.setAx x (Axis.started (s.axis x).pos goal v acc dec s.now)).axis y :=
    fun y => by simp only [State.axis, hset.1]
  refine ⟨fun y hy => (haxis y).trans (State.axis_setAx_ne _ _ hy), hset.2, ?_⟩
  rw [haxis x, State.axis_setAx_self]
  exact ⟨rfl, rfl, rfl, rfl⟩

theorem State.moveProgress_axis (x k : Nat) (m : Move) (far : Int) (s : State) : (s.moveProgress x m far).axis k = s.axis k := by
  unfold State.moveProgress
  dsimp only
  split <;> rfl

theorem State.moveProgress_shd (x : Nat) (m : Move) (far : Int) (s : State) : (s.moveProgress x m far).shd = s.shd := by
  unfold State.moveProgress
  dsimp only
  split <;> rfl

theorem motRampTick_starts (hx : x < 4) (hhead : (s.axis x).queue.head? = some m) (hm : m.kind = .move goal v acc dec)
    (hown : (s.axis x).owned = false) (hcal : s.shd.cal = none) (hrest : ∀ y, y < 4 → y ≠ x → s.Rests y)
    (hrun : (s.axis x).running = false) (hready : (s.axis x).ready = true) :
    ∃ t, exec (.motRampTick tm) s = .next t ∧ (t.axis x).running = true ∧ (t.axis x).target = goal ∧ (t.axis x).vMax = v ∧
      (t.axis x).start = (s.axis x).pos := by
  have htick : (s.atTime tm).axisTick x = (s.atTime tm).startMove x m := by
    have haxis : (s.atTime tm).axis x = s.axis x := rfl
    simp [State.axisTick, State.startNext, haxis, hown, hrun, hhead, hready, Move.isCoord_of_move hm]
  obtain ⟨hkeep, hshd, hmove⟩ := State.startMove_of_move (x := x) hm (s.atTime tm)
  refine ⟨_, motRampTick_of_one hx hrest htick hkeep (by rw [hshd]; exact hcal), ?_⟩
  rw [State.settle_axis]
  exact hmove

theorem motRampTick_advances {p' v' : Int} (hx : x < 4) (hhead : (s.axis x).queue.head? = some m) (hm : m.kind = .move goal v acc dec)
    (hown : (s.axis x).owned = false) (hcal : s.shd.cal = none) (hrest : ∀ y, y < 4 → y ≠ x → s.Rests y)
    (hrun : (s.axis x).running = true) (hstop : (s.axis x).stopDec = none) (happ : s.mode.apply = none)
    (htrap : trapStep ((s.axis x).target * 2 ^ 32) (s.axis x).vMax (s.axis x).acc (s.axis x).dec (s.axis x).p (s.axis x).v = (p', v', false)) :
    ∃ t, exec (.motRampTick tm) s = .next t ∧ (t.axis x).p = p' ∧ (t.axis x).v = v' := by
  obtain ⟨far, htick⟩ : ∃ far, (s.atTime tm).axisTick x = ((s.atTime tm).moveTo x p' v').moveProgress x m far := by
    have haxis : (s.atTime tm).axis x = s.axis x := rfl
    refine ⟨(s.axis x).target - (s.axis x).start, ?_⟩
    have hstep : (s.atTime tm).axisTick x = (s.atTime tm).runStep x m := by
      simp [State.axisTick, haxis, hown, hrun, hhead, hstop, State.profileAxis, Move.isCoord_of_move hm]
    rw [hstep, State.runStep, hm]
    dsimp only
    rw [haxis, htrap]
    rfl
  have hleaves := State.moveTo_leavesAxes (s := s.atTime tm) x p' v' happ
  refine ⟨_, motRampTick_of_one hx hrest htick (fun y hy => ?_) ?_, ?_⟩
  · rw [State.moveProgress_axis, hleaves.axis, State.axis_setAx_ne _ _ hy]
    rfl
  · rw [State.moveProgress_shd, hleaves.2.2]
    exact hcal
  · rw [State.settle_axis, State.moveProgress_axis, hleaves.axis, State.axis_setAx_self]
    exact ⟨rfl, rfl⟩

end

/-! ## Faults (R397, R401) -/

/-- An axis keeps what a fault has set, whatever ends on it (R397). -/
def Axis.KeepsFault (a b : Axis) : Prop :=
  b.fltPin = a.fltPin ∧ b.gates = a.gates ∧ b.homed = a.homed ∧ b.cause = a.cause ∧ (a.state = .hardFault → b.state = .hardFault)

namespace Axis.KeepsFault

variable {a b c : Axis}

theorem refl (a : Axis) : a.KeepsFault a := ⟨rfl, rfl, rfl, rfl, id⟩

theorem trans (h : a.KeepsFault b) (h' : b.KeepsFault c) : a.KeepsFault c := by
  obtain ⟨hpin, hgates, hhomed, hcause, hstate⟩ := h
  obtain ⟨hpin', hgates', hhomed', hcause', hstate'⟩ := h'
  exact ⟨hpin'.trans hpin, hgates'.trans hgates, hhomed'.trans hhomed, hcause'.trans hcause, hstate' ∘ hstate⟩

theorem foldl {α : Type} {x : Nat} {f : State → α → State} (hf : ∀ (s : State) (y : α), (s.axis x).KeepsFault ((f s y).axis x))
    (l : List α) (s : State) : (s.axis x).KeepsFault ((l.foldl f s).axis x) := by
  induction l generalizing s with
  | nil => exact refl _
  | cons y l ih => exact (hf s y).trans (ih _)

theorem of_setAx {x y : Nat} {f : Axis → Axis} (hf : ∀ a : Axis, a.KeepsFault (f a)) (s : State) :
    (s.axis x).KeepsFault ((s.setAx y f).axis x) := by
  by_cases hy : x = y
  · subst hy
    rw [State.axis_setAx_self]
    exact hf _
  · rw [State.axis_setAx_ne _ _ hy]
    exact refl _

theorem of_keepsAxes {s t : State} (h : s.KeepsAxes t) (x : Nat) : (s.axis x).KeepsFault (t.axis x) := by
  obtain ⟨q, hq⟩ := h x
  rw [hq]
  exact ⟨rfl, rfl, rfl, rfl, id⟩

theorem of_comeToRest (x y : Nat) (s : State) : (s.axis x).KeepsFault ((s.comeToRest y).axis x) := by
  unfold State.comeToRest
  dsimp only
  refine trans ?_ (foldl (fun u n => by rw [State.done_axis]; exact refl _) _ _)
  refine of_setAx ?_ s
  exact fun a => ⟨rfl, rfl, rfl, rfl, fun h => by simp [h]⟩

theorem of_endMove (x y : Nat) (st : OpState) (code : Nat) (s : State) : (s.axis x).KeepsFault ((s.endMove y st code).axis x) := by
  unfold State.endMove
  split
  · exact of_comeToRest ..
  · dsimp only
    refine trans (trans ?_ (of_keepsAxes (State.KeepsAxes.of_moveOver _ _ _ _ _) x)) (foldl (fun u z => of_comeToRest x z u) _ _)
    refine foldl (fun u z => of_setAx ?_ u) _ s
    exact fun a => ⟨rfl, rfl, rfl, rfl, id⟩

end Axis.KeepsFault

/-- An axis after a hard fault (R397). -/
def Axis.faulted (cause : Nat) (a : Axis) : Axis := { a with state := .hardFault, cause := cause, homed := false, gates := false }

/-- A hard fault leaves its axis without current and without reference, and raises its event (R397). -/
theorem State.haltAxis_faults (x cause : Nat) (s : State) : ∃ u : State, s.haltAxis x .hardFault cause = u.pulse (162 + 4 * x) ∧
    ((s.axis x).faulted cause).KeepsFault (u.axis x) := by
  have hflush : ∀ q : List Move, ((s.axis x).faulted cause).KeepsFault
      { { s.axis x with queue := q } with state := .hardFault, cause := cause, homed := false, v := 0, gates := false } :=
    fun q => ⟨rfl, rfl, rfl, rfl, id⟩
  unfold State.haltAxis
  extract_lets a coord s1 s2 o s4 m s5 s6 s3
  obtain ⟨q, hq⟩ := State.KeepsAxes.of_flushMoves x s x
  have hs2 : ((s.axis x).faulted cause).KeepsFault (s2.axis x) := by
    rw [show s2.axis x = _ from State.axis_setAx_self .., show s1.axis x = _ from hq]
    exact hflush q
  have hother : x ≠ o := by
    show x ≠ 3 - x
    omega
  refine ⟨s3, rfl, hs2.trans ?_⟩
  unfold s3
  split
  · refine Axis.KeepsFault.trans ?_ (.of_comeToRest ..)
    rw [show s6.axis x = s5.axis x from State.axis_setAx_ne _ _ hother]
    have hfollower : (s2.axis x).KeepsFault (s4.axis x) := by
      refine Axis.KeepsFault.of_setAx ?_ s2
      exact fun b => ⟨rfl, rfl, rfl, rfl, id⟩
    refine hfollower.trans ?_
    clear_value m
    cases m with
    | some m => exact .of_keepsAxes (.of_moveOver x m .failed cHw s4) x
    | none => exact .refl _
  · split
    · exact .of_endMove ..
    · exact .of_comeToRest ..

theorem State.outside_mode {s t : State} (h : t.outside [.axes, .ctxs] = s.outside [.axes, .ctxs]) (hm : s.mode.mode ≠ .boot) :
    t.mode.mode ≠ .boot := by
  obtain hmode | ⟨-, hstandby⟩ := (State.frame_iff (P := [.axes, .ctxs])).2 h .mode (by simp)
  · rw [hmode]
    exact hm
  · rw [hstandby]
    decide

/-- The event of a state that a pulse has made. -/
theorem State.latch_of_pulse {i : Nat} {t u : State} (h : t = u.pulse i) (hi : i < 256) (hm : t.mode.mode ≠ .boot) :
    t.settle.ev.latch.getLsbD i = true := by
  subst h
  rw [State.pulse_mode_mode] at hm
  exact State.settle_latch_mono (State.pulse_latch hi hm)

theorem State.haltAxis_spec {x cause : Nat} {s : State} (hx : x < 4) :
    ((s.haltAxis x .hardFault cause).settle.axis x).state = .hardFault ∧ ((s.haltAxis x .hardFault cause).settle.axis x).gates = false ∧
      ((s.haltAxis x .hardFault cause).settle.axis x).homed = false ∧ ((s.haltAxis x .hardFault cause).settle.axis x).cause = cause ∧
      ((s.haltAxis x .hardFault cause).settle.axis x).fltPin = (s.axis x).fltPin ∧
      (s.mode.mode ≠ .boot → (s.haltAxis x .hardFault cause).settle.ev.latch.getLsbD (162 + 4 * x) = true) := by
  obtain ⟨u, hu, hpin, hgates, hhomed, hcause, hstate⟩ := s.haltAxis_faults x cause
  refine ⟨?_, ?_, ?_, ?_, ?_, fun hm => State.latch_of_pulse hu (by omega) (State.outside_mode (by simp) hm)⟩
  all_goals rw [State.settle_axis, hu, State.pulse_axis]
  · exact hstate rfl
  · exact hgates
  · exact hhomed
  · exact hcause
  · exact hpin

/-- A soft fault stops its axis, records its cause and raises its event (R397). -/
theorem State.softFault_spec {x cause code : Nat} {s : State} (hx : x < 4) :
    ((s.softFault x cause code).settle.axis x).vbusLow = (s.axis x).vbusLow ∧ ((s.softFault x cause code).settle.axis x).cause = cause ∧
      (s.mode.mode ≠ .boot → (s.softFault x cause code).settle.ev.latch.getLsbD (162 + 4 * x) = true) := by
  have hstop : ∀ u : State, ((u.stopMove x code).axis x).vbusLow = (u.axis x).vbusLow := by
    intro u
    have hset : ∀ (y : Nat) (f : Axis → Axis) (w : State), (∀ a : Axis, (f a).vbusLow = a.vbusLow) →
        ((w.setAx y f).axis x).vbusLow = (w.axis x).vbusLow := by
      intro y f w hf
      by_cases hy : x = y
      · subst hy
        rw [State.axis_setAx_self, hf]
      · rw [State.axis_setAx_ne _ _ hy]
    unfold State.stopMove
    extract_lets a y
    split
    · rfl
    · refine (hset _ _ _ ?_).trans (hset _ _ _ ?_) <;> exact fun _ => rfl
  obtain ⟨q, hq⟩ := State.KeepsAxes.of_flushMoves x s x
  refine ⟨?_, ?_, fun hm => State.latch_of_pulse rfl (by omega) (State.outside_mode (s := s) (by simp) hm)⟩
  · rw [State.settle_axis, State.softFault, State.pulse_axis, State.axis_setAx_self]
    exact (hstop _).trans (by rw [hq])
  · rw [State.settle_axis, State.softFault, State.pulse_axis, State.axis_setAx_self]

/-! ## The PWM period (R376, R397) -/

/-- A second period of over-current in a row is a hard fault (R397). -/
theorem motPwmPeriod_trips {tm : Nat} {axis : BitVec 2} {sense : MotSense} {s : State} (hgates : (s.axis axis.toNat).gates = true)
    (hover : 1 ≤ (s.axis axis.toNat).overRun)
    (htrip : (s.motCfg axis.toNat).iTrip * 250000 < (s.motCfg axis.toNat).iFs * sense.miA.natAbs ∨
      (s.motCfg axis.toNat).iTrip * 250000 < (s.motCfg axis.toNat).iFs * sense.miB.natAbs) :
    ∃ f, exec (.motPwmPeriod tm axis sense) s = .next (((s.atTime tm).setAx axis.toNat f).haltAxis axis.toNat .hardFault 2).settle := by
  have haxis : (s.atTime tm).axis axis.toNat = s.axis axis.toNat := rfl
  have hcfg : (s.atTime tm).motCfg axis.toNat = s.motCfg axis.toNat := rfl
  have hexec : exec (.motPwmPeriod tm axis sense) s = execMotPwmPeriod tm axis sense s := rfl
  unfold execMotPwmPeriod at hexec
  dsimp only at hexec
  rw [haxis, hcfg, if_neg (by simp [hgates]), if_pos (by simp [htrip, hover])] at hexec
  exact ⟨_, hexec⟩

/-- Settles O43: the ramp tick starts and advances a move, the faults halt an axis, and the hold current and the step inputs act. -/
theorem motionEventsComplete : Obligations.MotionEventsComplete := by
  intro tm axis s
  have hx : axis.toNat < 4 := axis.isLt
  refine ⟨fun m goal v acc dec hhead hm hown hcal hrest => ⟨fun hrun hready => motRampTick_starts hx hhead hm hown hcal hrest hrun hready,
      fun p' v' hrun hstop happ htrap => motRampTick_advances hx hhead hm hown hcal hrest hrun hstop happ htrap⟩,
    fun sense => ⟨fun hgates => ?_, fun hgates hover htrip => ?_⟩, fun r hr hdue => ?_, fun hen hstate => ?_, ?_,
    fun rising dirHigh hrun hfollow hstop hedge => ?_, fun x hlow hdue => ?_⟩
  · refine ⟨((s.atTime tm).setAx axis.toNat (fun a => { a with high := [0, 0, 0, 0], pwmAt := none, lambda := none })).settle,
      if_pos (by rw [Bool.not_eq_true']; exact hgates), ?_⟩
    rw [State.settle_axis, State.axis_setAx_self]
    exact ⟨rfl, rfl⟩
  · obtain ⟨f, he⟩ := motPwmPeriod_trips (tm := tm) (sense := sense) hgates hover htrip
    obtain ⟨hs, hg, hh, hc, -, hlatch⟩ := State.haltAxis_spec (cause := 2) (s := (s.atTime tm).setAx axis.toNat f) hx
    exact ⟨_, he, hs, hg, hh, hc, hlatch⟩
  · refine ⟨((s.atTime tm).setAx axis.toNat (fun a => { a with hold := true, restAt := none })).settle, ?_, ?_⟩
    · have hrest : ((s.atTime tm).axis axis.toNat).restAt = some r := hr
      show execHoldDelayEnd tm axis s = _
      unfold execHoldDelayEnd
      dsimp only
      rw [hrest]
      dsimp only
      exact congrArg State.out (if_pos hdue)
    · rw [State.settle_axis, State.axis_setAx_self]
      exact ⟨rfl, rfl⟩
  · obtain ⟨u, hu⟩ : ∃ u, u = (s.atTime tm).setAx axis.toNat (fun a => { a with fltPin := true }) := ⟨_, rfl⟩
    have hpin : u.axis axis.toNat = { s.axis axis.toNat with fltPin := true } := by rw [hu]; exact State.axis_setAx_self ..
    have hcfg : u.motCfg axis.toNat = s.motCfg axis.toNat := by rw [hu]; rfl
    obtain ⟨hs, hg, -, hc, hflt, -⟩ := State.haltAxis_spec (cause := 1) (s := u) hx
    refine ⟨(u.haltAxis axis.toNat .hardFault 1).settle, ?_, by rw [hflt, hpin], hs, hc, hg⟩
    show execMotFltInput tm axis true s = _
    unfold execMotFltInput
    dsimp only
    rw [← hu, if_pos (by simp [hcfg, hpin, hen, hstate])]
    rfl
  · refine ⟨((s.atTime tm).setAx axis.toNat (fun a => { a with fltPin := false })).settle, rfl, ?_⟩
    rw [State.settle_axis, State.axis_setAx_self]
  · obtain ⟨f, he, hedgeAt, hcoarse⟩ : ∃ f, exec (.stepInEdge tm axis rising dirHigh) s = .next ((s.atTime tm).setAx axis.toNat f).settle ∧
        (f (s.axis axis.toNat)).edgeAt = some (max s.now tm) ∧ (f (s.axis axis.toNat)).coarse = (s.axis axis.toNat).coarse +
          (if dirHigh != (s.motCfg axis.toNat).dirInv then ((s.motCfg axis.toNat).stepSize : Int)
            else -((s.motCfg axis.toNat).stepSize : Int)) := by
      have haxis : (s.atTime tm).axis axis.toNat = s.axis axis.toNat := rfl
      have hcfg : (s.atTime tm).motCfg axis.toNat = s.motCfg axis.toNat := rfl
      have hexec : exec (.stepInEdge tm axis rising dirHigh) s = execStepInEdge tm axis rising dirHigh s := rfl
      unfold execStepInEdge at hexec
      dsimp only at hexec
      rw [haxis, hcfg, if_neg (by simp [hrun, hfollow, hstop, hedge])] at hexec
      refine ⟨_, hexec, ?_⟩
      exact ⟨rfl, rfl⟩
    refine ⟨_, he, ?_⟩
    rw [State.settle_axis, State.axis_setAx_self]
    refine ⟨hedgeAt, hcoarse.trans ?_⟩
    simp
  · obtain ⟨u, hu⟩ : ∃ u, u = (s.atTime tm).setAx axis.toNat (fun a => { a with vbusLow := none }) := ⟨_, rfl⟩
    obtain ⟨hclear, hcause, hlatch⟩ := State.softFault_spec (cause := 5) (code := cHw) (s := u) hx
    refine ⟨(u.softFault axis.toNat 5 cHw).settle, ?_, ?_, hcause, fun hm => hlatch (by rw [hu]; exact hm)⟩
    · have hsince : ((s.atTime tm).axis axis.toNat).vbusLow = some x := hlow
      show execVbusLowTimeout tm axis s = _
      unfold execVbusLowTimeout
      dsimp only
      rw [hsince, hu]
      dsimp only
      exact congrArg State.out (if_pos hdue)
    · rw [hclear, hu, State.axis_setAx_self]

end Sys2Proof.Machine
end

section
/-! PROOFS. Events of the thermal unit and of Simmer (R429 to R448). -/

namespace Sys2Proof.Machine

/-! ## A thermal sample (R429 to R437) -/

/-- The sensors and T_hot are the same, and no limit that holds is lost. -/
def State.KeepsHeat (s t : State) : Prop :=
  t.board = s.board ∧ t.therm.sensors = s.therm.sensors ∧ t.therm.tHot = s.therm.tHot ∧ t.therm.hotReg = s.therm.hotReg ∧
    t.therm.warn = s.therm.warn ∧ (s.therm.nvBlock = true → t.therm.nvBlock = true) ∧ (s.therm.shutdown = true → t.therm.shutdown = true)

theorem State.hottest_congr {s t : State} (hboard : t.board = s.board) (hsensors : t.therm.sensors = s.therm.sensors) :
    t.hottest = s.hottest := by
  unfold State.hottest State.sensors State.sensor
  rw [hboard, hsensors]

theorem State.sensor_congr {s t : State} (h : t.therm.sensors = s.therm.sensors) (i : Nat) : t.sensor i = s.sensor i := by
  unfold State.sensor
  rw [h]

namespace State.KeepsHeat

variable {s t u : State}

theorem trans (h : s.KeepsHeat t) (h' : t.KeepsHeat u) : s.KeepsHeat u := by
  obtain ⟨hboard, hsensors, hhot, hreg, hwarn, hnv, hdown⟩ := h
  obtain ⟨hboard', hsensors', hhot', hreg', hwarn', hnv', hdown'⟩ := h'
  exact ⟨hboard'.trans hboard, hsensors'.trans hsensors, hhot'.trans hhot, hreg'.trans hreg, hwarn'.trans hwarn, hnv' ∘ hnv, hdown' ∘ hdown⟩

theorem of_therm (hboard : t.board = s.board) (htherm : t.therm = s.therm) : s.KeepsHeat t := by
  refine ⟨hboard, ?_⟩
  rw [htherm]
  exact ⟨rfl, rfl, rfl, rfl, id, id⟩

theorem refl (s : State) : s.KeepsHeat s := of_therm rfl rfl

theorem hottest (h : s.KeepsHeat t) : t.hottest = s.hottest := by
  obtain ⟨hboard, hsensors, -⟩ := h
  exact State.hottest_congr hboard hsensors

theorem sensor (h : s.KeepsHeat t) (i : Nat) : t.sensor i = s.sensor i := by
  obtain ⟨-, hsensors, -⟩ := h
  exact State.sensor_congr hsensors i

theorem shutdown (h : s.KeepsHeat t) : s.therm.shutdown = true → t.therm.shutdown = true := by
  obtain ⟨-, -, -, -, -, -, hdown⟩ := h
  exact hdown

end State.KeepsHeat

/-- A frame that leaves the thermal unit and the board alone keeps them. -/
theorem State.keepsHeat_of_outside {P : List Part} {s t : State} (h : t.outside P = s.outside P) (hb : .board ∉ P) (ht : .therm ∉ P) :
    s.KeepsHeat t := .of_therm (State.frame_iff.2 h .board hb) (State.frame_iff.2 h .therm ht)

/-- SHUTDOWN blocks the NV store and is recorded (R437). -/
theorem State.shutdownNow_spec (s : State) : s.KeepsHeat s.shutdownNow ∧ s.shutdownNow.therm.shutdown = true := by
  unfold State.shutdownNow
  extract_lets now_ gone ctxs left sec therm s1 s2 therm' s3
  have h12 : s1.KeepsHeat s2 := State.keepsHeat_of_outside (P := [.mode, .lt, .shadow, .staged, .shd, .aln, .ilm, .axes, .dram, .mem, .ctxs])
    (by simp [s2]) (by simp) (by simp)
  have h13 : s.KeepsHeat s3 ∧ s3.therm.shutdown = true := by
    obtain ⟨hboard, hsensors, hhot, hreg, hwarn, hnv, hdown⟩ := h12
    exact ⟨⟨hboard, hsensors, hhot, hreg, hwarn, fun _ => hnv rfl, fun _ => hdown rfl⟩, hdown rfl⟩
  clear_value s3
  split
  · have hoff : s3.KeepsHeat s3.diesOff := State.keepsHeat_of_outside (P := [.clk, .ports]) (by simp) (by simp) (by simp)
    exact ⟨h13.1.trans hoff, hoff.shutdown h13.2⟩
  · exact h13

/-- HW_TRIP sets the latch (R62, R434). -/
theorem State.hwTrip_trips (s : State) : s.hwTrip.rst.thermTrip = true := by
  unfold State.hwTrip
  split
  case isTrue h => exact h
  case isFalse h =>
    extract_lets rst ilm s1 s2 s3
    have hrst : s3.portsOff.rst = s1.rst := (State.frame_iff (P := [.ports, .ilm, .axes, .ctxs])).2 (by simp [s3, s2]) .rst (by simp)
    rw [hrst]

theorem State.hwTrip_keepsHeat (s : State) : s.KeepsHeat s.hwTrip :=
  State.keepsHeat_of_outside (P := [.rst, .ports, .ilm, .axes, .ctxs]) (by simp) (by simp) (by simp)

theorem State.svnRaise_keepsHeat (s : State) : s.KeepsHeat s.svnRaise :=
  State.keepsHeat_of_outside (P := [.sec]) (by simp) (by simp) (by simp)

/-- A sensor that is judged takes its reading, and no other reading changes (R432). -/
theorem State.judgeSensor_reading (old s : State) (ts : List Int) (i k : Nat) :
    ((State.judgeSensor old ts s i).sensor k).reading = if k = i then ts.getD i 0 else (s.sensor k).reading := by
  have hset : ∀ (u : State) (f : Sensor → Sensor), (∀ y : Sensor, (f y).reading = y.reading) →
      ((u.setSensor i f).sensor k).reading = (u.sensor k).reading := by
    intro u f hf
    by_cases hk : k = i
    · subst hk
      rw [State.sensor_setSensor_self, hf]
    · rw [State.sensor_setSensor_ne _ _ hk]
  have hpulse : ∀ u : State, (u.pulse 192).sensor k = u.sensor k := fun u => by simp only [State.sensor, State.pulse_therm]
  unfold State.judgeSensor
  extract_lets x v p rise off s1 calm
  have h1 : (s1.sensor k).reading = if k = i then ts.getD i 0 else (s.sensor k).reading := by
    by_cases hk : k = i
    · subst hk
      rw [if_pos rfl]
      exact congrArg Sensor.reading (State.sensor_setSensor_self ..)
    · rw [if_neg hk]
      exact congrArg Sensor.reading (State.sensor_setSensor_ne _ _ hk)
  rw [← h1]
  split
  · rfl
  · split
    · refine hset s1 _ fun y => ?_
      split <;> rfl
    · split
      · rw [hpulse]
        refine hset s1 _ ?_
        exact fun _ => rfl
      · rfl

/-- Every sensor that is judged has its reading. -/
theorem State.judgeSensors_reading {old : State} {ts : List Int} {i : Nat} {l : List Nat} (s : State)
    (h : i ∈ l ∨ (s.sensor i).reading = ts.getD i 0) : ((l.foldl (State.judgeSensor old ts) s).sensor i).reading = ts.getD i 0 := by
  induction l generalizing s with
  | nil => exact h.resolve_left (by simp)
  | cons k l ih =>
    refine ih _ ?_
    rw [State.judgeSensor_reading]
    by_cases hk : i = k
    · exact .inr (by rw [if_pos hk, hk])
    · rw [if_neg hk]
      exact h.imp (fun hm => (List.mem_cons.1 hm).resolve_left hk) id

theorem State.learn_sensor (s : State) (i : Nat) : s.learn.sensor i = s.sensor i := by
  unfold State.learn
  dsimp only
  split <;> rfl

/-- The values of the regions leave the readings alone (R433). -/
theorem State.regionsTake_reading (s : State) (i : Nat) : (s.regionsTake.sensor i).reading = (s.sensor i).reading := by
  unfold State.regionsTake
  extract_lets f
  have hf : (f.2.sensor i).reading = (s.sensor i).reading := by
    unfold f
    split <;> rfl
  refine List.foldlRecOn (motive := fun x : State => (x.sensor i).reading = (s.sensor i).reading) _ _ hf fun x ih k _ => ?_
  by_cases hk : i = k
  · subst hk
    rw [← ih, State.sensor_setSensor_self]
  · rw [← ih, State.sensor_setSensor_ne _ _ hk]

/-- The device has at most 24 sensors (R429). -/
theorem State.lt_of_mem_sensors {s : State} {i : Nat} (h : i ∈ s.sensors) : i < 24 := by
  have hdies : s.board.member.dies ≤ 4 := by cases s.board.member <;> decide
  have hi := List.mem_range.1 h
  omega

/-- What a thermal sample does (R429 to R437). -/
theorem thermSample_spec (tm : Nat) (readings : List Int) {s : State} (hlinks : s.rst.phase.linksAllowed = true) :
    ∃ t, exec (.thermSample tm readings) s = .next t ∧
      (∀ i v, i ∈ s.sensors → readings[i]? = some v → (t.sensor i).reading = clampI (-14080) 38400 v) ∧
      t.therm.tHot = t.hottest.1 ∧ t.therm.hotReg = t.hottest.2 ∧ (25600 ≤ t.therm.tHot → t.therm.warn = true) ∧
      (29440 ≤ t.therm.tHot → t.therm.nvBlock = true) ∧ (30720 ≤ t.therm.tHot → t.therm.shutdown = true) ∧
      (32000 ≤ t.therm.tHot → t.rst.thermTrip = true) := by
  have hexec : exec (.thermSample tm readings) s = execThermSample tm readings s := rfl
  unfold execThermSample at hexec
  extract_lets s0 s1 ts s2 s3 hot th hold warnR trip x s4 s5 s6 lied at hexec
  have hlinks0 : s0.rst.phase.linksAllowed = true := hlinks
  rw [if_neg (by simp [hlinks0])] at hexec
  have h1 : s1.sensors = s.sensors := by
    unfold s1
    split <;> rfl
  have hread : ∀ i v, i ∈ s.sensors → readings[i]? = some v → (s3.sensor i).reading = clampI (-14080) 38400 v := by
    intro i v hi hv
    have hlt := State.lt_of_mem_sensors hi
    have hts : ts.getD i 0 = clampI (-14080) 38400 v := by simp [ts, List.getD, hlt, hv]
    rw [show s3 = s2.regionsTake from rfl, State.regionsTake_reading, State.learn_sensor, ← hts]
    exact State.judgeSensors_reading s1 (.inl (h1 ▸ hi))
  have hx : x = s3.therm := rfl
  have hhot3 : s3.hottest = hot := rfl
  have hth : hot.1 = th := rfl
  clear_value th hot x warnR trip hold
  have hsensors4 : s4.therm.sensors = s3.therm.sensors := by
    show x.sensors = _
    rw [hx]
  have hboard4 : s4.board = s3.board := rfl
  have hhot4 : s4.hottest = hot := by
    rw [State.hottest_congr hboard4 hsensors4]
    exact hhot3
  have htherm4 : s4.therm.tHot = th ∧ s4.therm.hotReg = hot.2 ∧ (25600 ≤ th → s4.therm.warn = true) ∧
      (29440 ≤ th → s4.therm.nvBlock = true) ∧ s4.therm.shutdown = x.shutdown := ⟨rfl, rfl, fun h => if_pos h, fun h => if_pos h, rfl⟩
  clear_value s4
  obtain ⟨hth4, hreg4, hwarn4, hnv4, hdown4⟩ := htherm4
  have h45 : s4.KeepsHeat s5 := .of_therm (State.pulseIf_board ..) (State.pulseIf_therm ..)
  have h56 : s5.KeepsHeat s6 ∧ (30720 ≤ th → s6.therm.shutdown = true) := by
    unfold s6
    split
    · exact ⟨s5.shutdownNow_spec.1, fun _ => s5.shutdownNow_spec.2⟩
    next hno =>
      refine ⟨.refl s5, fun hth => ?_⟩
      have hdown : x.shutdown = true := by simpa [hth] using hno
      exact h45.shutdown (hdown4.trans hdown)
  refine ⟨_, hexec, ?_⟩
  have hlast : s6.KeepsHeat (if (decide (32000 ≤ th) || lied) = true then s6.hwTrip else s6.svnRaise).settle := by
    refine State.KeepsHeat.trans ?_ (.of_therm (State.settle_board ..) (State.settle_therm ..))
    split
    · exact s6.hwTrip_keepsHeat
    · exact s6.svnRaise_keepsHeat
  have htrip : 32000 ≤ th → (if (decide (32000 ≤ th) || lied) = true then s6.hwTrip else s6.svnRaise).settle.rst.thermTrip = true := by
    intro hth
    rw [State.settle_rst, if_pos (by simp [hth])]
    exact s6.hwTrip_trips
  have hall := (h45.trans h56.1).trans hlast
  have hdown : 30720 ≤ th → (if (decide (32000 ≤ th) || lied) = true then s6.hwTrip else s6.svnRaise).settle.therm.shutdown = true :=
    hlast.shutdown ∘ h56.2
  generalize (if (decide (32000 ≤ th) || lied) = true then s6.hwTrip else s6.svnRaise).settle = t at *
  have hhottest := hall.hottest
  have hsensor := hall.sensor
  obtain ⟨-, -, hhot, hreg, hwarn, hnv, -⟩ := hall
  have hhot' : t.therm.tHot = th := hhot.trans hth4
  refine ⟨fun i v hi hv => ?_, ?_, ?_, ?_, ?_, ?_, ?_⟩
  · rw [hsensor i, State.sensor_congr hsensors4]
    exact hread i v hi hv
  · rw [hhottest, hhot4, hth]
    exact hhot'
  · rw [hhottest, hhot4, hreg]
    exact hreg4
  · rw [hhot', hwarn]
    exact hwarn4
  · rw [hhot']
    exact hnv ∘ hnv4
  · rw [hhot']
    exact hdown
  · rw [hhot']
    exact htrip

/-! ## Simmer (R440 to R448) -/

/-- What a refill sets stays, and tokens are only spent (R442, R443). -/
def Simmer.Spends (a b : Simmer) : Prop :=
  b.pDev = a.pDev ∧ b.nextCfg = a.nextCfg ∧ b.nextBoard = a.nextBoard ∧ b.cfg = a.cfg ∧ b.pOpt = a.pOpt ∧ b.bOpt = a.bOpt ∧
    b.energy ≤ a.energy ∧ b.bytes ≤ a.bytes

namespace Simmer.Spends

variable {a b c : Simmer} {s t : State}

theorem refl (a : Simmer) : a.Spends a := ⟨rfl, rfl, rfl, rfl, rfl, rfl, le_refl _, le_refl _⟩

theorem trans (h : a.Spends b) (h' : b.Spends c) : a.Spends c := by
  obtain ⟨h1, h2, h3, h4, h5, h6, h7, h8⟩ := h
  obtain ⟨k1, k2, k3, k4, k5, k6, k7, k8⟩ := h'
  exact ⟨k1.trans h1, k2.trans h2, k3.trans h3, k4.trans h4, k5.trans h5, k6.trans h6, k7.trans h7, k8.trans h8⟩

theorem of_eq (h : b = a) : a.Spends b := h ▸ refl a

theorem ite {p : Prop} [Decidable p] {x y : State} (hx : a.Spends x.simmer) (hy : a.Spends y.simmer) :
    a.Spends (if p then x else y).simmer := by
  split
  · exact hx
  · exact hy

theorem of_stageTo (k : Nat) (s : State) : s.simmer.Spends (s.stageTo k).simmer := by
  unfold State.stageTo
  refine ite (refl _) ?_
  rw [State.pulse_simmer]
  exact ⟨rfl, rfl, rfl, rfl, rfl, rfl, le_refl _, le_refl _⟩

theorem of_holdEnter (s : State) : s.simmer.Spends s.holdEnter.simmer :=
  of_eq ((State.frame_iff (P := [.mode, .lt, .shadow, .staged, .shd, .aln, .ilm, .axes, .dram, .mem, .ctxs])).2 (by simp) .simmer (by simp))

theorem of_release (s : State) : s.simmer.Spends s.release.simmer := by
  unfold State.release
  refine ite (trans ?_ (of_stageTo ..)) (refl _)
  exact of_eq (State.pulse_simmer ..)

theorem of_stages (s : State) : s.simmer.Spends s.stages.simmer := by
  unfold State.stages
  dsimp only
  refine ite ?_ (ite (refl _) (ite (ite (of_stageTo ..) (refl _)) ?_))
  · exact ite ((of_stageTo ..).trans (of_holdEnter _)) (of_stageTo ..)
  · exact ⟨rfl, rfl, rfl, rfl, rfl, rfl, le_refl _, le_refl _⟩

theorem of_ceiling3 (s : State) : s.simmer.Spends s.ceiling3.simmer := by
  unfold State.ceiling3
  dsimp only
  refine ite ?_ (ite ?_ (ite ?_ ?_))
  all_goals exact ⟨rfl, rfl, rfl, rfl, rfl, rfl, le_refl _, le_refl _⟩

theorem of_svStart {u : SvUnit} (h : s.svStart u = some t) : s.simmer.Spends t.simmer := by
  unfold State.svStart at h
  split at h
  · dsimp only at h
    split at h
    · obtain rfl := Option.some.inj h
      have hunit : ∀ (g : PageView) (p : SvPage) (w : State), (w.unitIo g p u).simmer = w.simmer := fun g p w =>
        (State.frame_iff (P := [.dram])).2 (by simp) .simmer (by simp)
      rw [hunit]
      exact ⟨rfl, rfl, rfl, rfl, rfl, rfl, Nat.sub_le .., Nat.sub_le ..⟩
    · cases h
  · exact of_eq (congrArg State.simmer (Option.some.inj h).symm)

theorem of_svDispatch (s : State) : s.simmer.Spends s.svDispatch.simmer := by
  unfold State.svDispatch
  refine ite (refl _) ?_
  refine List.foldlRecOn (motive := fun r : State × Bool => s.simmer.Spends r.1.simmer) _ _ (refl _) fun r ih u _ => ?_
  split
  · exact ih
  · split
    next t ht => exact ih.trans (of_svStart ht)
    next => exact ih

end Simmer.Spends

/-- A refill takes what is staged and fills the buckets up to their size (R440 to R443). -/
theorem simmerRefill_spec (tm pDev pMand : Nat) {s : State} (hm : s.mode.mode ≠ .boot) (hs : s.served = true) :
    ∃ t, exec (.simmerRefill tm pDev pMand) s = .next t ∧ t.simmer.pDev = pDev ∧ t.simmer.nextCfg = none ∧
      t.simmer.nextBoard = none ∧ (∀ c, s.simmer.nextCfg = some c → t.simmer.cfg.tTarget = c.tTarget) ∧
      t.simmer.energy ≤ 1000 * t.simmer.pOpt * t.simmer.cfg.bucket ∧ t.simmer.bytes ≤ t.simmer.bOpt * t.simmer.cfg.bucket := by
  have hexec : exec (.simmerRefill tm pDev pMand) s = execSimmerRefill tm pDev pMand s := rfl
  unfold execSimmerRefill at hexec
  extract_lets s0 s1 s2 at hexec
  have hrun : ¬ (s0.mode.mode == .boot || !s0.served) = true := by
    have hs0 : s0.served = true := hs
    have hm0 : s0.mode.mode ≠ .boot := hm
    simp [hs0, hm0]
  rw [if_neg hrun] at hexec
  obtain ⟨r, hr⟩ : ∃ r, r = s0.simmerConfigured.refill pDev pMand := ⟨_, rfl⟩
  have hfilled : r.simmer.pDev = pDev ∧ r.simmer.nextCfg = none ∧ r.simmer.nextBoard = none ∧
      (∀ c, s.simmer.nextCfg = some c → r.simmer.cfg.tTarget = c.tTarget) ∧
      r.simmer.energy ≤ 1000 * r.simmer.pOpt * r.simmer.cfg.bucket ∧ r.simmer.bytes ≤ r.simmer.bOpt * r.simmer.cfg.bucket := by
    rw [hr]
    refine ⟨rfl, rfl, rfl, fun c hc => ?_, Nat.min_le_right .., Nat.min_le_right ..⟩
    have hc0 : s0.simmer.nextCfg = some c := hc
    simp [State.refill, State.simmerConfigured, State.setSim, hc0]
  have htimers : r.simmer.Spends r.simmerTimers.simmer := ⟨rfl, rfl, rfl, rfl, rfl, rfl, le_refl _, le_refl _⟩
  have h1 : r.simmer.Spends s1.simmer := by
    rw [show s1 = r.simmerTimers.release by rw [hr]]
    exact htimers.trans (.of_release _)
  have h2 : r.simmer.Spends s2.simmer := h1.trans ((Simmer.Spends.of_stages _).trans (.of_ceiling3 _))
  have hcaps : s2.capsDown.simmer = s2.simmer := (State.frame_iff (P := [.ilm])).2 (by simp) .simmer (by simp)
  have hlast : r.simmer.Spends (if s2.simmer.over = true then s2.capsDown else s2).svDispatch.simmer :=
    (Simmer.Spends.ite (h2.trans (.of_eq hcaps)) h2).trans (Simmer.Spends.of_svDispatch _)
  refine ⟨_, hexec, ?_⟩
  rw [State.settle_simmer]
  obtain ⟨hdev, hcfg, hboard, htarget, henergy, hbytes⟩ := hfilled
  obtain ⟨h1, h2, h3, h4, h5, h6, h7, h8⟩ := hlast
  rw [h1, h2, h3, h4, h5, h6]
  exact ⟨hdev, hcfg, hboard, htarget, h7.trans henergy, h8.trans hbytes⟩

/-- A step of the ceiling (R447). -/
theorem simmerCeilingStep_next {tm a : Nat} {s : State} (ha : s.simmer.stepAt = some a) (hdue : a ≤ max s.now tm) :
    exec (.simmerCeilingStep tm) s = if s.simmer.slow then
      .next ((s.atTime tm).setSim (fun x => { (if (s.atTime tm).entry 3 || (s.mode.mode == .sheetScan && s.followerAsks) then x.ceilDown else x)
        with stepAt := some (a + 500000000) })).settle
    else .next ((s.atTime tm).setSim (fun x =>
      { x with
        ceil := if s.mayRise (min 4096 (s.simmer.ceil + 512)) then min 4096 (s.simmer.ceil + 512) else s.simmer.ceil,
        stepAt := if (if s.mayRise (min 4096 (s.simmer.ceil + 512)) then min 4096 (s.simmer.ceil + 512) else s.simmer.ceil) < 4096
          then some (a + 500000000) else none })).settle := by
  have hstep : (s.atTime tm).simmer.stepAt = some a := ha
  have hlate : ¬ (s.atTime tm).now < a := Nat.not_lt.2 hdue
  show execSimmerCeilingStep tm s = _
  unfold execSimmerCeilingStep
  dsimp only
  rw [hstep]
  dsimp only
  rw [if_neg hlate]
  rfl

/-- The caps of the four rows rise (R448). -/
theorem simmerCapRaise_spec {tm : Nat} {s : State} (hlow : (s.atTime tm).heldFor 100000000 s.simmer.lowSince = true)
    (hdue : s.simmer.capRaiseAt ≤ max s.now tm) :
    ∃ t, exec (.simmerCapRaise tm) s = .next t ∧ t.simmer.capRaiseAt = max s.now tm + 10000000 ∧
      ∀ w, w < 4 → (t.row w).nextCap = min 4096 ((s.row w).nextCap + 64) := by
  obtain ⟨u, hu⟩ : ∃ u, u = (List.range 4).foldl (fun (s : State) w => s.setRow w (fun r => { r with nextCap := min 4096 (r.nextCap + 64) }))
      (s.atTime tm) := ⟨_, rfl⟩
  refine ⟨(u.setSim (fun x => { x with capRaiseAt := max s.now tm + 10000000 })).settle, ?_, by rw [State.settle_simmer]; rfl, fun w hw => ?_⟩
  · show execSimmerCapRaise tm s = _
    unfold execSimmerCapRaise
    dsimp only
    rw [← hu, if_pos]
    · rfl
    · exact Bool.and_eq_true_iff.2 ⟨hlow, decide_eq_true hdue⟩
  · have hrow : u.row w = { s.row w with nextCap := min 4096 ((s.row w).nextCap + 64) } := hu ▸
      State.row_foldl_setRow (g := fun _ _ r => { r with nextCap := min 4096 (r.nextCap + 64) }) (fun _ _ _ _ => rfl) List.nodup_range
        (List.mem_range.2 hw) _
    rw [State.settle_row]
    exact congrArg RowUnit.nextCap hrow

/-- Settles O45: a sample gives the sensors their readings and T_hot its limits, and Simmer refills, steps its ceiling and raises the
caps. -/
theorem thermalEventsComplete : Obligations.ThermalEventsComplete := by
  intro tm s
  refine ⟨fun readings hlinks => thermSample_spec tm readings hlinks, fun pDev pMand hm hs => simmerRefill_spec tm pDev pMand hm hs,
    fun a ha hdue => ⟨fun hfast => ?_, fun hslow hentry => ?_⟩, fun hlow hdue => simmerCapRaise_spec hlow hdue⟩
  · refine ⟨_, (simmerCeilingStep_next ha hdue).trans (if_neg (by simp [hfast])), ?_⟩
    rw [State.settle_simmer]
    rfl
  · refine ⟨_, (simmerCeilingStep_next ha hdue).trans (if_pos hslow), ?_⟩
    rw [State.settle_simmer, hentry]
    exact ⟨rfl, rfl⟩

end Sys2Proof.Machine
end

section
/-! PROOFS. The DRAM controller: requests, reads and their errors (R456 to R462, R469 to R476). -/

namespace Sys2Proof.Machine

/-! ## Channels -/

theorem State.dch_congr {s t : State} (h : t.dram.chans = s.dram.chans) (k : Nat) : t.dch k = s.dch k := by
  unfold State.dch
  rw [h]

@[simp] theorem State.settle_dch (k : Nat) (s : State) : s.settle.dch k = s.dch k := State.dch_congr (by rw [State.settle_dram]) k
@[simp] theorem State.pulse_dch (i k : Nat) (s : State) : (s.pulse i).dch k = s.dch k := State.dch_congr (by rw [State.pulse_dram]) k
@[simp] theorem State.pulseIf_dch (c : Bool) (i k : Nat) (s : State) : (s.pulseIf c i).dch k = s.dch k :=
  State.dch_congr (by rw [State.pulseIf_dram]) k

/-- One change of every channel of a list. -/
theorem State.dch_foldl_setDch (f : DramChan → DramChan) {l : List Nat} (hl : l.Nodup) (k : Nat) (s : State) :
    (l.foldl (fun (s : State) c => s.setDch c f) s).dch k = if k ∈ l then f (s.dch k) else s.dch k := by
  induction l generalizing s with
  | nil => rfl
  | cons c l ih =>
    obtain ⟨hc, hl⟩ := List.nodup_cons.1 hl
    rw [List.foldl_cons, ih hl]
    by_cases hk : k = c
    · subst hk
      simp [hc]
    · simp [hk, State.dch_setDch_ne _ _ hk]

/-! ## Requests (R456, R458, R459, R462) -/

/-- What brings the Pan queues of a channel up to date leaves all but them and the panic bits alone (R456). -/
theorem State.panNotes_shape (c : Nat) (s : State) : ∃ q p, s.panNotes c = { s with pantry := q, dram := { s.dram with panic := p } } := by
  refine List.foldlRecOn (motive := fun t : State => ∃ q p, t = { s with pantry := q, dram := { s.dram with panic := p } }) _ _
    ⟨_, _, rfl⟩ ?_
  rintro _ ⟨_, _, rfl⟩ p -
  exact ⟨_, _, rfl⟩

@[simp] theorem State.panNotes_dch (c k : Nat) (s : State) : (s.panNotes c).dch k = s.dch k := by
  obtain ⟨_, _, e⟩ := s.panNotes_shape c
  rw [e]
  rfl

theorem State.panMove_shape (p c : Nat) (s : State) : ∃ q, s.panMove p c = { s with pantry := q } := by
  unfold State.panMove
  split <;> exact ⟨_, rfl⟩

/-- What serving a request does to its channel (R458). -/
theorem State.serve_dch (ch : Nat) (r : DramReq) (s : State) : (s.serve ch r).dch ch =
    { s.dch ch with
      reqs := (s.dch ch).reqs.erase r, flight := if r.write then (s.dch ch).flight else (s.dch ch).flight ++ [{ r with at_ := s.now }] } := by
  unfold State.serve
  extract_lets s1 dram s2
  have h2 : s2.dch ch = s1.dch ch := State.dch_congr rfl ch
  rw [State.panNotes_dch]
  refine Eq.trans ?_ (h2.trans (State.dch_setDch_self ch _ s))
  split
  · obtain ⟨_, e⟩ := s2.panMove_shape r.port ch
    rw [e]
    rfl
  · rfl

section
variable {tm : Nat} {ch : BitVec 3} {s s1 : State}

theorem dramCommandSlot_forces (hs1 : s1 = (s.atTime tm).panNotes ch.toNat) (hdue : 0 < (s1.dch ch.toNat).forcedDue) :
    ∃ t, exec (.dramCommandSlot tm ch) s = .next t ∧ t.dram.forced = min 0xFFFF (s.dram.forced + 1) ∧
      (t.dch ch.toNat).forcedDue = (s1.dch ch.toNat).forcedDue - 1 := by
  have hforced : s1.dram.forced = s.dram.forced := by
    obtain ⟨_, _, e⟩ := (s.atTime tm).panNotes_shape ch.toNat
    rw [hs1, e]
    rfl
  refine ⟨State.settle (State.setDch ch.toNat (fun x => { x with forcedDue := x.forcedDue - 1 })
    { s1 with dram := { s1.dram with forced := satAdd 0xFFFF s1.dram.forced 1 } }), ?_, ?_, ?_⟩
  · show execDramCommandSlot tm ch s = _
    unfold execDramCommandSlot
    dsimp only
    rw [← hs1, if_pos hdue]
    rfl
  · rw [State.settle_dram, ← hforced]
    rfl
  · rw [State.settle_dch, State.dch_setDch_self]
    rfl

/-- A slot without a forced refresh and without a run of the oscillator (R458). -/
theorem dramCommandSlot_next (hs1 : s1 = (s.atTime tm).panNotes ch.toNat) (hforced : (s1.dch ch.toNat).forcedDue = 0)
    (hosc : (s1.dch ch.toNat).osc = false) {r : DramReq}
    (hpick : s1.pickReq true (s1.dch ch.toNat) = some r ∨ (s1.pickReq true (s1.dch ch.toNat) = none ∧ (s1.dch ch.toNat).due = 0 ∧
      (s1.dch ch.toNat).debt = 0 ∧ s1.pickReq false (s1.dch ch.toNat) = some r)) :
    exec (.dramCommandSlot tm ch) s = .next (s1.serve ch.toNat r).settle := by
  show execDramCommandSlot tm ch s = _
  unfold execDramCommandSlot
  dsimp only
  rw [← hs1, if_neg (by omega), if_neg (by simp [hosc])]
  obtain hp | ⟨hp, hdue, hdebt, hq⟩ := hpick
  · rw [hp]
    rfl
  · rw [hp]
    dsimp only
    rw [if_neg (by simp [hdue]), if_neg (by simp [hdebt]), hq]
    rfl

theorem requestPromote_promotes : ∃ t, exec (.requestPromote tm) s = .next t ∧ ∀ c, c < 8 → (t.dch c).reqs = (s.dch c).reqs.map (fun r =>
    if r.since + s.dram.ageLimit ≤ max s.now tm ∧ 0 < r.cls then { r with cls := r.cls - 1, since := max s.now tm } else r) := by
  refine ⟨_, rfl, fun c hc => ?_⟩
  rw [State.settle_dch, State.dch_foldl_setDch _ List.nodup_range, if_pos (List.mem_range.2 hc)]
  refine List.map_congr_left fun r _ => ?_
  simp only [Bool.and_eq_true, decide_eq_true_eq]
  rfl

end

/-! ## Errors (R469 to R475) -/

/-- An error has been recorded: no data are lost and no read is forgotten by it. -/
structure State.Records (s t : State) : Prop where
  flight : ∀ c, (t.dch c).flight = (s.dch c).flight
  corr : t.dram.corr = s.dram.corr
  uncorr : t.dram.uncorr = s.dram.uncorr
  poison : t.dram.poison = s.dram.poison
  mode : t.mode.mode = s.mode.mode
  latch : ∀ i, s.ev.latch.getLsbD i = true → t.ev.latch.getLsbD i = true

namespace State.Records

variable {s t u : State}

theorem refl (s : State) : s.Records s := ⟨fun _ => rfl, rfl, rfl, rfl, rfl, fun _ h => h⟩

theorem trans (h : s.Records t) (k : t.Records u) : s.Records u where
  flight c := (k.flight c).trans (h.flight c)
  corr := k.corr.trans h.corr
  uncorr := k.uncorr.trans h.uncorr
  poison := k.poison.trans h.poison
  mode := k.mode.trans h.mode
  latch i := k.latch i ∘ h.latch i

theorem ite {p : Prop} [Decidable p] (ht : s.Records t) (hu : s.Records u) : s.Records (if p then t else u) := by
  split
  · exact ht
  · exact hu

/-- A state that differs in DRAM fields other than these. -/
theorem of_dram (hchans : t.dram.chans = s.dram.chans) (hcorr : t.dram.corr = s.dram.corr) (huncorr : t.dram.uncorr = s.dram.uncorr)
    (hpoison : t.dram.poison = s.dram.poison) (hmode : t.mode = s.mode) (hev : t.ev = s.ev) : s.Records t where
  flight c := congrArg DramChan.flight (State.dch_congr hchans c)
  corr := hcorr
  uncorr := huncorr
  poison := hpoison
  mode := congrArg ModeUnit.mode hmode
  latch _ h := hev ▸ h

theorem of_signals (h : s.Signals t) (hlatch : ∀ i, s.ev.latch.getLsbD i = true → t.ev.latch.getLsbD i = true) : s.Records t where
  flight c := congrArg DramChan.flight (State.dch_congr (by rw [h.dram]) c)
  corr := by rw [h.dram]
  uncorr := by rw [h.dram]
  poison := by rw [h.dram]
  mode := h.mode
  latch := hlatch

theorem of_pulse (i : Nat) (s : State) : s.Records (s.pulse i) := by
  refine of_signals (s.pulse_signals i) fun j h => ?_
  unfold State.pulse
  split
  · exact h
  · rw [State.latchSet_latch]
    simp [h]

theorem of_settle (s : State) : s.Records s.settle := of_signals s.settle_signals fun _ h => State.settle_latch_mono h

theorem of_setDch {f : DramChan → DramChan} (hf : ∀ x, (f x).flight = x.flight) (c : Nat) (s : State) : s.Records (s.setDch c f) where
  flight k := by
    by_cases hk : k = c
    · subst hk
      rw [State.dch_setDch_self, hf]
    · rw [State.dch_setDch_ne _ _ hk]
  corr := rfl
  uncorr := rfl
  poison := rfl
  mode := rfl
  latch _ h := h

theorem of_failWith (n code : Nat) (s : State) : s.Records (s.failWith n code) := by
  have hdram : (s.failWith n code).dram = s.dram := State.finish_dram ..
  refine of_dram (by rw [hdram]) (by rw [hdram]) (by rw [hdram]) (by rw [hdram]) (State.finish_mode ..) (State.finish_ev ..)

theorem of_logErr (addr ch port type : Nat) (words : BitVec 8) (s : State) : s.Records (s.logErr addr ch port type words) := by
  unfold State.logErr
  dsimp only
  refine ite (of_dram rfl rfl rfl rfl rfl rfl) (ite (of_dram rfl rfl rfl rfl rfl rfl) (ite (of_dram rfl rfl rfl rfl rfl rfl) ?_))
  split
  · exact of_dram rfl rfl rfl rfl rfl rfl
  · refine trans ?_ (of_pulse ..)
    exact of_dram rfl rfl rfl rfl rfl rfl

/-- A channel that is declared failed (R475, R476). -/
theorem of_chFail (ch : Nat) (s : State) : s.Records (s.chFail ch) ∧ (s.chFail ch).dram.failedCh = ch ∧
    (s.mode.mode ≠ .boot → (s.chFail ch).ev.latch.getLsbD 213 = true) := by
  obtain ⟨u, hu⟩ : ∃ u, u = State.pulse 213 { s with dram := { s.dram with failedCh := ch } } := ⟨_, rfl⟩
  have hsu : s.Records u := by
    rw [hu]
    refine trans ?_ (of_pulse ..)
    exact of_dram rfl rfl rfl rfl rfl rfl
  have hfailed : u.dram.failedCh = ch := by rw [hu, State.pulse_dram]
  have hlatch : s.mode.mode ≠ .boot → u.ev.latch.getLsbD 213 = true := fun hm => hu ▸ State.pulse_latch (by decide) hm
  suffices h : u.Records (s.chFail ch) ∧ (s.chFail ch).dram.failedCh = u.dram.failedCh from
    ⟨hsu.trans h.1, h.2.trans hfailed, fun hm => h.1.latch _ (hlatch hm)⟩
  unfold State.chFail
  dsimp only
  rw [← hu]
  split
  · exact ⟨refl u, rfl⟩
  · split
    · split
      · refine ⟨trans ?_ (of_failWith ..), by rw [State.failWith, State.finish_dram]⟩
        exact of_dram rfl rfl rfl rfl rfl rfl
      · exact ⟨of_dram rfl rfl rfl rfl rfl rfl, rfl⟩
    · split
      · split
        · exact ⟨of_dram rfl rfl rfl rfl rfl rfl, rfl⟩
        · exact ⟨refl u, rfl⟩
      · split
        · exact ⟨of_dram rfl rfl rfl rfl rfl rfl, rfl⟩
        · exact ⟨refl u, rfl⟩

theorem of_noteBlock (ch b : Nat) (s : State) : s.Records (s.noteBlock ch b) := by
  unfold State.noteBlock
  extract_lets fresh s1
  have h1 : s.Records s1 := by
    refine of_setDch ?_ ch s
    exact fun _ => rfl
  have h2 : s1.Records (s1.setDch ch (fun x => { x with errs := [] })) := by
    refine of_setDch ?_ ch s1
    exact fun _ => rfl
  exact ite ((h1.trans h2).trans (of_chFail ch _).1) h1

theorem of_panNotes (c : Nat) (s : State) : s.Records (s.panNotes c) := by
  obtain ⟨_, _, e⟩ := s.panNotes_shape c
  rw [e]
  exact of_dram rfl rfl rfl rfl rfl rfl

theorem of_panMove (p c : Nat) (s : State) : s.Records (s.panMove p c) := by
  obtain ⟨_, e⟩ := s.panMove_shape p c
  rw [e]
  exact of_dram rfl rfl rfl rfl rfl rfl

end State.Records

/-- A corrected error is counted and logged (R470). -/
theorem State.eccErr_corrected (addr ch port : Nat) (data : Bool) (w : BitVec 8) (s : State) :
    (s.eccErr addr ch port data (.corrected w)).dram.corr = min 0xFFFF (s.dram.corr + 1) ∧
      (∀ c, ((s.eccErr addr ch port data (.corrected w)).dch c).flight = (s.dch c).flight) ∧
      (s.mode.mode ≠ .boot → (s.eccErr addr ch port data (.corrected w)).ev.latch.getLsbD 210 = true) := by
  obtain ⟨u, hu⟩ : ∃ u, u = State.logErr addr ch port 0 w { s with dram := { s.dram with corr := satAdd 0xFFFF s.dram.corr 1 } } := ⟨_, rfl⟩
  have he : s.eccErr addr ch port data (.corrected w) = u.pulse 210 := hu ▸ rfl
  have hlog := State.Records.of_logErr addr ch port 0 w { s with dram := { s.dram with corr := satAdd 0xFFFF s.dram.corr 1 } }
  rw [← hu] at hlog
  rw [he]
  refine ⟨?_, fun c => ?_, fun hm => State.pulse_latch (by decide) (by rw [hlog.mode]; exact hm)⟩
  · rw [State.pulse_dram, hlog.corr]
    rfl
  · rw [State.pulse_dch, hlog.flight]
    rfl

/-- A poisoned block stays poisoned, and a new one joins (R471). -/
theorem State.poisonBlock_spec (b : Nat) (s : State) : b ∈ (s.poisonBlock b).dram.poison ∧ (s.poisonBlock b).dram.uncorr = s.dram.uncorr ∧
    (s.poisonBlock b).dram.chans = s.dram.chans ∧ (s.poisonBlock b).mode = s.mode := by
  unfold State.poisonBlock
  split
  case isTrue h => exact ⟨by simpa using h, rfl, rfl, rfl⟩
  case isFalse h =>
    obtain ⟨k, e⟩ := s.frees_shape 8 64
    dsimp only
    rw [e]
    exact ⟨List.mem_append_right _ List.mem_cons_self, rfl, rfl, rfl⟩

/-- An uncorrectable error of data is counted; its block is poisoned where it cannot be rebuilt (R471). -/
theorem State.eccErr_uncorrectable (addr ch port : Nat) (w : BitVec 8) (s : State) :
    (s.eccErr addr ch port true (.uncorrectable w)).dram.uncorr = min 0xFFFF (s.dram.uncorr + 1) ∧
      (∀ c, ((s.eccErr addr ch port true (.uncorrectable w)).dch c).flight = (s.dch c).flight) ∧
      (s.rebuildable addr true = false → addr / 64 ∈ (s.eccErr addr ch port true (.uncorrectable w)).dram.poison ∧
        (s.mode.mode ≠ .boot → (s.eccErr addr ch port true (.uncorrectable w)).ev.latch.getLsbD 211 = true)) ∧
      (s.rebuildable addr true = true → (s.eccErr addr ch port true (.uncorrectable w)).dram.poison = s.dram.poison ∧
        (s.mode.mode ≠ .boot → (s.eccErr addr ch port true (.uncorrectable w)).ev.latch.getLsbD 212 = true)) := by
  obtain ⟨v, hv⟩ : ∃ v : State, v = { s with dram := { s.dram with uncorr := satAdd 0xFFFF s.dram.uncorr 1 } } := ⟨_, rfl⟩
  have hend : ∀ (x : State) (i type : Nat), i < 256 → x.dram.uncorr = v.dram.uncorr → x.dram.chans = v.dram.chans → x.mode = v.mode →
      (((x.logErr addr ch port type w).pulse i).noteBlock ch (addr / 64)).dram.uncorr = min 0xFFFF (s.dram.uncorr + 1) ∧
      (∀ c, ((((x.logErr addr ch port type w).pulse i).noteBlock ch (addr / 64)).dch c).flight = (s.dch c).flight) ∧
      (((x.logErr addr ch port type w).pulse i).noteBlock ch (addr / 64)).dram.poison = x.dram.poison ∧
      (s.mode.mode ≠ .boot → (((x.logErr addr ch port type w).pulse i).noteBlock ch (addr / 64)).ev.latch.getLsbD i = true) := by
    intro x i type hi huncorr hchans hmode
    have hlog := State.Records.of_logErr addr ch port type w x
    have hnote := State.Records.of_noteBlock ch (addr / 64) ((x.logErr addr ch port type w).pulse i)
    have hall := (hlog.trans (.of_pulse i _)).trans hnote
    refine ⟨?_, fun c => ?_, hall.poison, fun hm => hnote.latch _ (State.pulse_latch hi ?_)⟩
    · rw [hall.uncorr, huncorr, hv]
      rfl
    · rw [hall.flight, State.dch_congr hchans, hv]
      rfl
    · rw [hlog.mode, hmode, hv]
      exact hm
  cases hr : s.rebuildable addr true with
  | true =>
    have he : s.eccErr addr ch port true (.uncorrectable w) = ((v.logErr addr ch port 2 w).pulse 212).noteBlock ch (addr / 64) := by
      rw [hv]
      simp [State.eccErr, hr]
    obtain ⟨huncorr, hflight, hpoison, hlatch⟩ := hend v 212 2 (by decide) rfl rfl rfl
    rw [he]
    exact ⟨huncorr, hflight, nofun, fun _ => ⟨hpoison.trans (by rw [hv]), hlatch⟩⟩
  | false =>
    have he : s.eccErr addr ch port true (.uncorrectable w) =
        (((v.poisonBlock (addr / 64)).logErr addr ch port 1 w).pulse 211).noteBlock ch (addr / 64) := by
      rw [hv]
      simp [State.eccErr, hr]
    obtain ⟨hmem, hcount, hchans, hmode⟩ := v.poisonBlock_spec (addr / 64)
    obtain ⟨huncorr, hflight, hpoison, hlatch⟩ := hend (v.poisonBlock (addr / 64)) 211 1 (by decide) hcount hchans hmode
    rw [he]
    exact ⟨huncorr, hflight, fun _ => ⟨by rw [hpoison]; exact hmem, hlatch⟩, nofun⟩

/-! ## Reads that return (R470, R471, R475) -/

/-- The state in which the oldest read of a channel has left it. -/
def State.returned (ch : Nat) (r : DramReq) (rest : List DramReq) (s : State) : State :=
  let s1 := s.setDch ch (fun x => { x with flight := rest })
  (if 2 ≤ r.port then s1.panMove r.port ch else s1).panNotes ch

theorem State.returned_shape (ch : Nat) (r : DramReq) (rest : List DramReq) (s : State) : ∃ q p, s.returned ch r rest =
    { s.setDch ch (fun x => { x with flight := rest }) with
      pantry := q, dram := { (s.setDch ch (fun x => { x with flight := rest })).dram with panic := p } } := by
  unfold State.returned
  extract_lets s1
  have hmove : ∃ q, (if 2 ≤ r.port then s1.panMove r.port ch else s1) = { s1 with pantry := q } := by
    split
    · exact s1.panMove_shape ..
    · exact ⟨_, rfl⟩
  obtain ⟨_, e⟩ := hmove
  obtain ⟨q, p, e'⟩ := State.panNotes_shape ch (if 2 ≤ r.port then s1.panMove r.port ch else s1)
  exact ⟨q, p, by rw [e', e]⟩

section
variable {tm : Nat} {ch : BitVec 3} {s : State} {r : DramReq} {rest : List DramReq}

theorem State.returned_flight (s : State) (c : Nat) : ((s.returned c r rest).dch c).flight = rest := by
  obtain ⟨q, p, e⟩ := s.returned_shape c r rest
  have hchans : (s.returned c r rest).dram.chans = (s.setDch c (fun x => { x with flight := rest })).dram.chans := by rw [e]
  rw [State.dch_congr hchans, State.dch_setDch_self]

theorem State.rebuildable_congr {s t : State} (hr : t.dram.rebuild = s.dram.rebuild) (hl : t.dram.resilient = s.dram.resilient)
    (hs : t.dram.spare = s.dram.spare) (hp : t.dram.poison = s.dram.poison) (addr : Nat) (data : Bool) :
    t.rebuildable addr data = s.rebuildable addr data := by
  unfold State.rebuildable Dram.parityAt Dram.lostAt
  rw [hr, hl, hs, hp]

theorem State.returned_rest (c addr : Nat) (data : Bool) (s : State) : (s.returned c r rest).dram.corr = s.dram.corr ∧
    (s.returned c r rest).dram.uncorr = s.dram.uncorr ∧ (s.returned c r rest).dram.poison = s.dram.poison ∧
    (s.returned c r rest).mode = s.mode ∧ (s.returned c r rest).rebuildable addr data = s.rebuildable addr data := by
  obtain ⟨q, p, e⟩ := s.returned_shape c r rest
  rw [e]
  exact ⟨rfl, rfl, rfl, rfl, State.rebuildable_congr rfl rfl rfl rfl addr data⟩

theorem dramReadReturn_next (err : EccResult) (hf : (s.dch ch.toNat).flight = r :: rest) :
    exec (.dramReadReturn tm ch err) s = .next (State.settle (State.eccErr r.addr ch.toNat r.port (!r.parity)
      (State.found r err ((s.atTime tm).returned ch.toNat r rest)).1 (State.found r err ((s.atTime tm).returned ch.toNat r rest)).2)) := by
  have hflight : ((s.atTime tm).dch ch.toNat).flight = r :: rest := hf
  show execDramReadReturn tm ch err s = _
  unfold execDramReadReturn
  dsimp only
  rw [hflight]
  rfl

theorem State.found_of_error {err : EccResult} (h : err ≠ .clean) (s : State) : State.found r err s = (err, s) := if_neg (by simp [h])

theorem State.found_of_sound (h : r.parity = true ∨ r.addr / 64 ∉ s.dram.poison) : State.found r .clean s = (.clean, s) := by
  refine if_neg ?_
  obtain h | h := h <;> simp [h]

theorem State.found_of_poison (hp : r.parity = false) (h : r.addr / 64 ∈ s.dram.poison) :
    ∃ w, State.found r .clean s = (.uncorrectable w, (s.free 8).2) := ⟨_, if_pos (by simp [hp, h])⟩

theorem dramReadReturn_clean (hf : (s.dch ch.toNat).flight = r :: rest) (h : r.parity = true ∨ r.addr / 64 ∉ s.dram.poison) :
    ∃ t, exec (.dramReadReturn tm ch .clean) s = .next t ∧ (t.dch ch.toNat).flight = rest ∧ t.dram.corr = s.dram.corr ∧
      t.dram.uncorr = s.dram.uncorr := by
  obtain ⟨hcorr, huncorr, hpoison, -⟩ := (s.atTime tm).returned_rest (r := r) (rest := rest) ch.toNat 0 true
  refine ⟨_, dramReadReturn_next .clean hf, ?_⟩
  rw [State.found_of_sound (by rw [hpoison]; exact h), State.settle_dch, State.settle_dram]
  exact ⟨State.returned_flight .., hcorr, huncorr⟩

theorem dramReadReturn_poisoned (hf : (s.dch ch.toNat).flight = r :: rest) (hp : r.parity = false) (h : r.addr / 64 ∈ s.dram.poison) :
    ∃ t, exec (.dramReadReturn tm ch .clean) s = .next t ∧ (t.dch ch.toNat).flight = rest ∧
      t.dram.uncorr = min 0xFFFF (s.dram.uncorr + 1) := by
  have hnext := dramReadReturn_next (tm := tm) .clean hf
  have hflight := (s.atTime tm).returned_flight (r := r) (rest := rest) ch.toNat
  obtain ⟨-, huncorr, hpoison, -⟩ := (s.atTime tm).returned_rest (r := r) (rest := rest) ch.toNat 0 true
  generalize (s.atTime tm).returned ch.toNat r rest = u at hnext hflight huncorr hpoison
  obtain ⟨w, hw⟩ := State.found_of_poison (s := u) hp (by rw [hpoison]; exact h)
  have hchans : (u.free 8).2.dram.chans = u.dram.chans := rfl
  have hcount : (u.free 8).2.dram.uncorr = u.dram.uncorr := rfl
  rw [hw, hp] at hnext
  generalize (u.free 8).2 = v at hnext hchans hcount
  obtain ⟨hend, hkeep, -⟩ := v.eccErr_uncorrectable r.addr ch.toNat r.port w
  refine ⟨_, hnext, ?_, ?_⟩
  · rw [State.settle_dch]
    exact (hkeep ch.toNat).trans ((congrArg DramChan.flight (State.dch_congr hchans _)).trans hflight)
  · rw [State.settle_dram]
    exact hend.trans (by rw [hcount, huncorr]; rfl)

theorem dramReadReturn_corrected (w : BitVec 8) (hf : (s.dch ch.toNat).flight = r :: rest) :
    ∃ t, exec (.dramReadReturn tm ch (.corrected w)) s = .next t ∧ (t.dch ch.toNat).flight = rest ∧
      t.dram.corr = min 0xFFFF (s.dram.corr + 1) ∧ (s.mode.mode ≠ .boot → t.ev.latch.getLsbD 210 = true) := by
  have hnext := dramReadReturn_next (tm := tm) (.corrected w) hf
  have hflight := (s.atTime tm).returned_flight (r := r) (rest := rest) ch.toNat
  obtain ⟨hcorr, -, -, hmode, -⟩ := (s.atTime tm).returned_rest (r := r) (rest := rest) ch.toNat 0 true
  rw [State.found_of_error (by simp)] at hnext
  generalize (s.atTime tm).returned ch.toNat r rest = u at hnext hflight hcorr hmode
  obtain ⟨hcount, hkeep, hlatch⟩ := u.eccErr_corrected r.addr ch.toNat r.port (!r.parity) w
  refine ⟨_, hnext, ?_, ?_, fun hm => State.settle_latch_mono (hlatch ?_)⟩
  · rw [State.settle_dch]
    exact (hkeep ch.toNat).trans hflight
  · rw [State.settle_dram]
    rwa [hcorr] at hcount
  · rw [hmode]
    exact hm

theorem dramReadReturn_uncorrectable (w : BitVec 8) (hf : (s.dch ch.toNat).flight = r :: rest) (hp : r.parity = false) :
    ∃ t, exec (.dramReadReturn tm ch (.uncorrectable w)) s = .next t ∧ t.dram.uncorr = min 0xFFFF (s.dram.uncorr + 1) ∧
      (s.rebuildable r.addr true = false → r.addr / 64 ∈ t.dram.poison ∧ (s.mode.mode ≠ .boot → t.ev.latch.getLsbD 211 = true)) ∧
      (s.rebuildable r.addr true = true → t.dram.poison = s.dram.poison ∧ (s.mode.mode ≠ .boot → t.ev.latch.getLsbD 212 = true)) := by
  have hnext := dramReadReturn_next (tm := tm) (.uncorrectable w) hf
  obtain ⟨-, huncorr, hpoison, hmode, hreb⟩ := (s.atTime tm).returned_rest (r := r) (rest := rest) ch.toNat r.addr true
  have hreb' : (s.atTime tm).rebuildable r.addr true = s.rebuildable r.addr true := State.rebuildable_congr rfl rfl rfl rfl _ _
  rw [State.found_of_error (by simp), hp] at hnext
  generalize (s.atTime tm).returned ch.toNat r rest = u at hnext huncorr hpoison hmode hreb
  obtain ⟨hcount, -, hlost, hrebuilt⟩ := u.eccErr_uncorrectable r.addr ch.toNat r.port w
  have hboot : s.mode.mode ≠ .boot → u.mode.mode ≠ .boot := fun hm => by
    rw [hmode]
    exact hm
  rw [hreb, hreb'] at hlost hrebuilt
  refine ⟨_, hnext, ?_, fun h => ⟨?_, fun hm => ?_⟩, fun h => ⟨?_, fun hm => ?_⟩⟩
  · rw [State.settle_dram]
    rwa [huncorr] at hcount
  · rw [State.settle_dram]
    exact (hlost h).1
  · exact State.settle_latch_mono ((hlost h).2 (hboot hm))
  · rw [State.settle_dram]
    exact (hrebuilt h).1.trans hpoison
  · exact State.settle_latch_mono ((hrebuilt h).2 (hboot hm))

/-- A bus error clears no latch. -/
theorem State.busError_latch {i : Nat} {s : State} (kind port addr : Nat) (h : s.ev.latch.getLsbD i = true) :
    (s.busError kind port addr).ev.latch.getLsbD i = true := by
  have hkill : ∀ (u : State) (c : Nat), (State.dmaKill .stopped u c).ev = u.ev := by
    intro u c
    unfold State.dmaKill
    split
    · unfold State.dmaInt
      dsimp only
      split
      · rw [State.msix_ev]
        rfl
      · rfl
    · rfl
  unfold State.busError
  dsimp only
  split
  · exact h
  · refine (State.Records.of_pulse 232 _).latch i ?_
    refine List.foldlRecOn (motive := fun u : State => u.ev.latch.getLsbD i = true) _ _ h fun u ih c _ => ?_
    rw [hkill]
    exact ih

/-- A read without a response declares its channel failed, and is a bus error (R475, R526). -/
theorem dramAccessTimeout_fails (hf : (s.dch ch.toNat).flight = r :: rest) (hlate : r.at_ + 10000 ≤ max s.now tm) :
    ∃ t, exec (.dramAccessTimeout tm ch) s = .next t ∧ (t.dch ch.toNat).flight = rest ∧ t.dram.failedCh = ch.toNat ∧
      t.dma.latched = true ∧ (s.mode.mode ≠ .boot → t.ev.latch.getLsbD 213 = true) := by
  obtain ⟨u, hu⟩ : ∃ u, u = ((s.atTime tm).setDch ch.toNat (fun x => { x with flight := rest })).logErr r.addr ch.toNat r.port 6 0 := ⟨_, rfl⟩
  have hlog := State.Records.of_logErr r.addr ch.toNat r.port 6 0 ((s.atTime tm).setDch ch.toNat (fun x => { x with flight := rest }))
  rw [← hu] at hlog
  obtain ⟨hrec, hfailed, hlatch⟩ := State.Records.of_chFail ch.toNat u
  have hexec : ∃ off, exec (.dramAccessTimeout tm ch) s = ((u.chFail ch.toNat).busError 5 0 off).dmaOut := by
    have hflight : ((s.atTime tm).dch ch.toNat).flight = r :: rest := hf
    have he : exec (.dramAccessTimeout tm ch) s = execDramAccessTimeout tm ch s := rfl
    unfold execDramAccessTimeout at he
    dsimp only at he
    rw [hflight] at he
    dsimp only at he
    have hlate' : r.at_ + 10000 ≤ (s.atTime tm).now := hlate
    rw [if_pos hlate', ← hu] at he
    exact ⟨_, he⟩
  obtain ⟨off, he⟩ := hexec
  obtain ⟨hlatched, -⟩ := (u.chFail ch.toNat).busError_latches 5 0 off
  obtain ⟨t, ht, hend⟩ := State.QuietEnd.of_dmaOut ((u.chFail ch.toNat).busError 5 0 off)
  have hdram : { t.dram with mem := [] } = { (u.chFail ch.toNat).dram with mem := [] } := by
    have hquiet : ((((u.chFail ch.toNat).busError 5 0 off).quiesceCheck 0).quiesceCheck 1).settle = t := Host.Outcome.next.inj ht
    rw [← hquiet]
    exact (State.frame_iff (P := [.dma, .ctxs, .host])).2 (by simp) .dram (by simp)
  have hchans : t.dram.chans = (u.chFail ch.toNat).dram.chans := by
    have h := congrArg Dram.chans hdram
    exact h
  have hfail : t.dram.failedCh = (u.chFail ch.toNat).dram.failedCh := by
    have h := congrArg Dram.failedCh hdram
    exact h
  refine ⟨t, he.trans ht, ?_, hfail.trans hfailed, by rw [hend.dma]; exact hlatched,
    fun hm => hend.latch _ (State.busError_latch _ _ _ (hlatch (by rw [hlog.mode]; exact hm)))⟩
  rw [State.dch_congr hchans, hrec.flight, hlog.flight, State.dch_setDch_self]

end

end Sys2Proof.Machine
end

section
namespace Sys2Proof.Machine

/-! ## Refresh (R455, R463 to R466) -/

section
variable {tm : Nat} {ch : BitVec 3} {s : State}

theorem refreshUnitDue_next : ∃ t, exec (.refreshUnitDue tm ch) s = .next t ∧ t.dch ch.toNat =
    if (!s.anyPanic) = true then { s.dch ch.toNat with due := (s.dch ch.toNat).due + 1 }
    else if (s.dch ch.toNat).debt + tRefi (s.dch ch.toNat).cls ≤ refCeiling (s.dch ch.toNat).cls * tRefi (s.dch ch.toNat).cls then
      { s.dch ch.toNat with debt := (s.dch ch.toNat).debt + tRefi (s.dch ch.toNat).cls }
    else { s.dch ch.toNat with forcedDue := (s.dch ch.toNat).forcedDue + 1 } := by
  refine ⟨_, rfl, ?_⟩
  rw [State.settle_dch, State.dch_setDch_self]
  rfl

theorem refreshUnitDue_falls_due (h : s.anyPanic = false) :
    ∃ t, exec (.refreshUnitDue tm ch) s = .next t ∧ (t.dch ch.toNat).due = (s.dch ch.toNat).due + 1 := by
  obtain ⟨t, hexec, ht⟩ := refreshUnitDue_next (tm := tm) (ch := ch) (s := s)
  exact ⟨t, hexec, by rw [ht, if_pos (by simp [h])]⟩

theorem refreshUnitDue_puts_off (h : s.anyPanic = true) (hroom : (s.dch ch.toNat).debt + tRefi (s.dch ch.toNat).cls ≤
      refCeiling (s.dch ch.toNat).cls * tRefi (s.dch ch.toNat).cls) :
    ∃ t, exec (.refreshUnitDue tm ch) s = .next t ∧ (t.dch ch.toNat).debt = (s.dch ch.toNat).debt + tRefi (s.dch ch.toNat).cls := by
  obtain ⟨t, hexec, ht⟩ := refreshUnitDue_next (tm := tm) (ch := ch) (s := s)
  exact ⟨t, hexec, by rw [ht, if_neg (by simp [h]), if_pos hroom]⟩

/-- A channel after a step of its class (R465). -/
theorem State.classStep_spec (c : Nat) (s : State) : ((s.classStep c).dch c).report = (s.dch c).report ∧
    ((s.classStep c).dch c).cls = if (s.dch c).cls < (s.dch c).report then (s.dch c).cls + 1
      else if (s.dch c).report < (s.dch c).cls then (s.dch c).cls - 1 else (s.dch c).cls := by
  unfold State.classStep
  dsimp only
  split
  case isTrue h =>
    rw [State.dch_setDch_self, h]
    simp
  case isFalse h =>
    unfold State.classTo
    dsimp only
    rw [State.dch_setDch_self, State.pulseIf_dch, State.dch_setDch_self]
    refine ⟨rfl, ?_⟩
    dsimp only
    split
    · rfl
    · rw [if_pos (by omega)]

theorem mr4Read_steps (cls : BitVec 2) (h : (s.dch ch.toNat).stepAt = none) : ∃ t, exec (.mr4Read tm ch cls) s = .next t ∧
    (t.dch ch.toNat).report = cls.toNat ∧ (t.dch ch.toNat).cls = (if (s.dch ch.toNat).cls < cls.toNat then (s.dch ch.toNat).cls + 1
      else if cls.toNat < (s.dch ch.toNat).cls then (s.dch ch.toNat).cls - 1 else (s.dch ch.toNat).cls) := by
  obtain ⟨u, hu⟩ : ∃ u, u = (s.atTime tm).setDch ch.toNat (fun x => { x with report := cls.toNat }) := ⟨_, rfl⟩
  have hdch : u.dch ch.toNat = { s.dch ch.toNat with report := cls.toNat } := by
    rw [hu, State.dch_setDch_self]
    rfl
  have hexec : exec (.mr4Read tm ch cls) s = .next (u.classStep ch.toNat).settle := by
    show execMr4Read tm ch cls s = _
    unfold execMr4Read
    dsimp only
    rw [← hu, hdch, if_neg (by simp [h])]
    rfl
  obtain ⟨hreport, hcls⟩ := u.classStep_spec ch.toNat
  rw [hdch] at hreport hcls
  refine ⟨_, hexec, ?_⟩
  rw [State.settle_dch]
  exact ⟨hreport, hcls⟩

theorem refreshClassStep_steps {d : Nat} (h : (s.dch ch.toNat).stepAt = some d) (hd : d ≤ max s.now tm) :
    ∃ t, exec (.refreshClassStep tm ch) s = .next t ∧
      (t.dch ch.toNat).cls = (if (s.dch ch.toNat).cls < (s.dch ch.toNat).report then (s.dch ch.toNat).cls + 1
        else if (s.dch ch.toNat).report < (s.dch ch.toNat).cls then (s.dch ch.toNat).cls - 1 else (s.dch ch.toNat).cls) := by
  have hexec : exec (.refreshClassStep tm ch) s = .next ((s.atTime tm).classStep ch.toNat).settle := by
    have hstep : ((s.atTime tm).dch ch.toNat).stepAt = some d := h
    show execRefreshClassStep tm ch s = _
    unfold execRefreshClassStep
    dsimp only
    rw [hstep]
    dsimp only
    have hd' : d ≤ (s.atTime tm).now := hd
    rw [if_pos hd']
    rfl
  refine ⟨_, hexec, ?_⟩
  rw [State.settle_dch]
  exact ((s.atTime tm).classStep_spec ch.toNat).2

theorem dqsOscRun_runs : ∃ t, exec (.dqsOscRun tm) s = .next t ∧ ∀ c, c < 8 → s.dram.chOk.getLsbD c = true → (t.dch c).osc = true := by
  refine ⟨_, rfl, fun c hc hok => ?_⟩
  have hmem : c ∈ setBits 8 s.dram.chOk.toNat := by
    refine List.mem_filter.2 ⟨List.mem_range.2 hc, ?_⟩
    simpa [bit, BitVec.getLsbD, Nat.testBit_eq_decide_div_mod_eq] using hok
  rw [State.settle_dch]
  refine congrArg DramChan.osc ((State.dch_foldl_setDch _ (List.nodup_range.filter _) c _).trans (if_pos hmem))

/-! ## Scrub and rebuilding (R39, R473, R476, R478) -/

theorem dramPortWindow_latches : ∃ t, exec (.dramPortWindow tm) s = .next t ∧ t.dram.latched = s.dram.count ∧ t.dram.count = [] :=
  ⟨_, rfl, by rw [State.settle_dram]; rfl, by rw [State.settle_dram]⟩

theorem dramScrubStep_scrubs (hm : s.mode.mode = .scrub) : ∃ t, exec (.dramScrubStep tm .clean) s = .next t ∧
    t.dram.pos = min (s.dram.pos + 1) (8 * s.chanBlocks) ∧
    ((s.physBlock s.dram.pos).2.2 = true → t.dram.mem = memZero (s.physBlock s.dram.pos).1 64 s.dram.mem) := by
  have hm' : (s.atTime tm).mode.mode = .scrub := hm
  have hpos : (s.atTime tm).dram.pos = s.dram.pos := rfl
  have hphys : (s.atTime tm).physBlock s.dram.pos = s.physBlock s.dram.pos := rfl
  have hexec : exec (.dramScrubStep tm .clean) s = execDramScrubStep tm .clean s := rfl
  unfold execDramScrubStep at hexec
  dsimp only at hexec
  simp only [hm', hpos, hphys] at hexec
  refine ⟨_, hexec, ?_, fun h => ?_⟩
  · rw [State.settle_dram]
    rfl
  · rw [State.settle_dram, if_pos h]
    rfl

theorem dramScrubStep_patrols (hs : s.mode.mode ≠ .standby) (hb : s.mode.mode ≠ .boot) (hm : s.mode.mode ≠ .scrub) :
    ∃ t, exec (.dramScrubStep tm .clean) s = .next t ∧
      (8 * s.chanBlocks ≤ s.dram.pos + 1 → t.dram.pos = 0 ∧ t.dram.passes = s.dram.passes + 1) ∧
      (s.dram.pos + 1 < 8 * s.chanBlocks → t.dram.pos = s.dram.pos + 1 ∧ t.dram.passes = s.dram.passes) := by
  have hs' : ((s.atTime tm).mode.mode == .standby) = false := by simpa using hs
  have hb' : ((s.atTime tm).mode.mode == .boot) = false := by simpa using hb
  have hm' : ((s.atTime tm).mode.mode == .scrub) = false := by simpa using hm
  have hexec : exec (.dramScrubStep tm .clean) s = execDramScrubStep tm .clean s := rfl
  unfold execDramScrubStep at hexec
  dsimp only at hexec
  rw [hs', hb', hm'] at hexec
  refine ⟨_, hexec, fun h => ?_, fun h => ?_⟩
  · rw [State.settle_dram]
    exact ⟨if_pos h, if_pos h⟩
  · rw [State.settle_dram]
    exact ⟨if_neg (Nat.not_le.2 h), if_neg (Nat.not_le.2 h)⟩

theorem dramScrubStep_wakes {x : Transition} (hs : s.mode.mode = .standby) (hx : s.mode.trans = some x) (ht : s.mode.target = .idle)
    (hsize : x.bytes < s.dramSize - s.protSize) : ∃ t, exec (.dramScrubStep tm .clean) s = .next t ∧
      t.dram.mem = memZero (s.protSize + x.bytes) 64 s.dram.mem := by
  have hexec : exec (.dramScrubStep tm .clean) s = .next (s.atTime tm).wakeZero.settle := by
    have hs' : ((s.atTime tm).mode.mode == .standby) = true := by simpa using hs
    show execDramScrubStep tm .clean s = _
    unfold execDramScrubStep
    dsimp only
    rw [if_pos hs']
    rfl
  refine ⟨_, hexec, ?_⟩
  rw [State.settle_dram]
  have hx' : (s.atTime tm).mode.trans = some x := hx
  have hgo : ¬ ((s.atTime tm).mode.target != .idle || decide ((s.atTime tm).dramSize - (s.atTime tm).protSize ≤ x.bytes)) = true := by
    have hmore : ¬ (s.atTime tm).dramSize - (s.atTime tm).protSize ≤ x.bytes := Nat.not_le.2 hsize
    simp [hmore, ht]
  unfold State.wakeZero
  rw [hx']
  dsimp only
  rw [if_neg hgo]
  split <;> rfl

theorem dramRebuildStep_advances {r : Rebuild} (hr : s.dram.rebuild = some r) (hpos : r.pos + 1 < s.chanBlocks) :
    ∃ t, exec (.dramRebuildStep tm) s = .next t ∧ t.dram.rebuild = some { r with pos := r.pos + 1 } := by
  have hexec : exec (.dramRebuildStep tm) s = execDramRebuildStep tm s := rfl
  have hr' : (s.atTime tm).dram.rebuild = some r := hr
  have hpos' : r.pos + 1 < (s.atTime tm).chanBlocks := hpos
  unfold execDramRebuildStep at hexec
  dsimp only at hexec
  rw [hr'] at hexec
  dsimp only at hexec
  rw [if_pos hpos'] at hexec
  exact ⟨_, hexec, by rw [State.settle_dram]⟩

/-- The last offset of a walk: its command, if it has one, ends. -/
theorem dramRebuildStep_ends {r : Rebuild} (hr : s.dram.rebuild = some r) (hpos : s.chanBlocks ≤ r.pos + 1) :
    ∃ u : State, (∃ t, exec (.dramRebuildStep tm) s = .next t ∧ t.dram = u.dram ∧
        (∀ i, u.ev.latch.getLsbD i = true → t.ev.latch.getLsbD i = true) ∧ ∀ n, r.ctx = some n → (t.ctx n).cur = none) ∧
      u.dram.rebuild = none ∧ (r.restore = true → u.dram.spare = 0 ∧ u.dram.spared = none) ∧
      (r.restore = false → u.dram.spare = 2 ∧ (s.mode.mode ≠ .boot → u.ev.latch.getLsbD 214 = true)) := by
  obtain ⟨v, hv⟩ : ∃ v, v = (s.atTime tm).moved 10 r.bytes := ⟨_, rfl⟩
  have hmode : v.mode = s.mode := by rw [hv]; rfl
  obtain ⟨u, hu⟩ : ∃ u : State, u = if r.restore then
      { v with dram := { v.dram with
          rebuild := none, spare := 0, spared := none, failedCh := 15, chOk := v.dram.chOk ||| BitVec.twoPow 8 r.ch } }
    else State.pulse 214 { v with dram := { v.dram with
          rebuild := none, spare := 2, chOk := v.dram.chOk &&& ~~~(BitVec.twoPow 8 r.ch) } } := ⟨_, rfl⟩
  have hexec : exec (.dramRebuildStep tm) s = .next (State.settle (match r.ctx with | some n => u.done n [] | none => u)) := by
    have he : exec (.dramRebuildStep tm) s = execDramRebuildStep tm s := rfl
    have hr' : (s.atTime tm).dram.rebuild = some r := hr
    have hpos' : ¬ r.pos + 1 < (s.atTime tm).chanBlocks := Nat.not_lt.2 hpos
    unfold execDramRebuildStep at he
    dsimp only at he
    rw [hr'] at he
    dsimp only at he
    rw [if_neg hpos', ← hv, ← hu] at he
    exact he
  refine ⟨u, ⟨_, hexec, ?_, fun i h => State.settle_latch_mono ?_, fun n hn => ?_⟩, ?_, fun h => ?_, fun h => ?_⟩
  · rw [State.settle_dram]
    cases r.ctx with
    | none => rfl
    | some n => exact State.done_dram ..
  · cases r.ctx with
    | none => exact h
    | some n => rwa [State.done_ev]
  · rw [State.settle_ctx, hn]
    exact State.done_cur ..
  · rw [hu]
    split
    · rfl
    · rw [State.pulse_dram]
  · rw [hu, if_pos h]
    exact ⟨rfl, rfl⟩
  · rw [hu, if_neg (by simp [h])]
    exact ⟨by rw [State.pulse_dram], fun hm => State.pulse_latch (by decide) (by rw [← hmode] at hm; exact hm)⟩

end

/-- Settles O46, clause by clause: the requests and reads of a channel, its refresh and class, and the steps of scrub and rebuilding. -/
theorem dramEventsComplete : Obligations.DramEventsComplete := by
  unfold Obligations.DramEventsComplete
  refine ⟨fun tm ch s => ⟨?_, ?_, requestPromote_promotes, dramPortWindow_latches⟩, fun tm ch s => ⟨refreshUnitDue_falls_due,
    refreshUnitDue_puts_off, fun cls => mr4Read_steps cls, fun d => refreshClassStep_steps, dqsOscRun_runs, dramScrubStep_scrubs,
    dramScrubStep_patrols, fun x => dramScrubStep_wakes, fun r hr => ⟨dramRebuildStep_advances hr, fun hpos h => ?_, fun hpos h => ?_⟩⟩⟩
  · intro s1 hs1
    refine ⟨dramCommandSlot_forces hs1, fun r hforced hosc hpick => ?_, fun r hforced hosc hpick hdue hdebt hlow => ?_⟩
    · refine ⟨_, dramCommandSlot_next hs1 hforced hosc (.inl hpick), ?_⟩
      rw [State.settle_dch, State.serve_dch]
    · refine ⟨_, dramCommandSlot_next hs1 hforced hosc (.inr ⟨hpick, hdue, hdebt, hlow⟩), ?_⟩
      rw [State.settle_dch, State.serve_dch]
      exact ⟨rfl, fun hw => ⟨{ r with at_ := s1.now }, by simp [hw], rfl, rfl⟩⟩
  · intro r rest hf
    refine ⟨dramReadReturn_clean hf, dramReadReturn_poisoned hf, fun w => dramReadReturn_corrected w hf, fun w hp hlost => ?_,
      fun w hp hrebuilt => ?_, dramAccessTimeout_fails hf⟩
    · obtain ⟨t, hexec, hcount, hpoison, -⟩ := dramReadReturn_uncorrectable (tm := tm) w hf hp
      exact ⟨t, hexec, hcount, hpoison hlost⟩
    · obtain ⟨t, hexec, hcount, -, hpoison⟩ := dramReadReturn_uncorrectable (tm := tm) w hf hp
      exact ⟨t, hexec, hcount, hpoison hrebuilt⟩
  · obtain ⟨u, ⟨t, hexec, hdram, -, hctx⟩, hnone, hspare, -⟩ := dramRebuildStep_ends (tm := tm) hr hpos
    obtain ⟨h0, hspared⟩ := hspare h
    exact ⟨t, hexec, by rw [hdram, hnone], by rw [hdram, h0], by rw [hdram, hspared], hctx⟩
  · obtain ⟨u, ⟨t, hexec, hdram, hlatch, hctx⟩, hnone, -, hspare⟩ := dramRebuildStep_ends (tm := tm) hr hpos
    obtain ⟨h2, h214⟩ := hspare h
    exact ⟨t, hexec, by rw [hdram, hnone], by rw [hdram, h2], fun hm => hlatch 214 (h214 hm), hctx⟩

end Sys2Proof.Machine
end
